-- ==== Sys2Proof/Word.lean ====
section
/-!
DEFINITION. The words of the block: bytes and the machine words of the step tables.
-/
namespace Sys2Proof

/-- One byte. -/
abbrev Byte := BitVec 8

/-- A register of a Gecko context: 64 bits (R261). -/
abbrev Word := BitVec 64

end Sys2Proof
end

