-- ==== Sys2Proof/Syntax.lean ====
section
/-!
DEFINITION. The commands of the TLS6400 as syntax: what the outside world can do to the block (a message of a
management transport, a write of a register or dictionary object, a protocol message, a pin, the end of something
the device waits for), one constructor per row of the operation table, with the operands of each.
-/
namespace Sys2Proof

/-! Numbers of units (Table 0-3, Table 2-5). -/

/-- A port, P0 to P63. -/
abbrev PortN := Fin 64
/-- A tile, T0 to T3. -/
abbrev TileN := Fin 4
/-- A lane: 0 to 255 data, 256 to 287 the spare of group 0 to 31. -/
abbrev LaneN := Fin 288
/-- A port group, PG0 to PG31. -/
abbrev GroupN := Fin 32
/-- A Tidelink, 0 to 5. -/
abbrev LinkN := Fin 6
/-- A memory target: 0 to 3 HBM stacks, 16 to 79 the DSP port plus 16 (4 to 15 name nothing). -/
abbrev TargetN := Fin 80
/-- An extent-table entry. -/
abbrev ExtentN := Fin 262144
/-- An instance, I0000 to I4095. -/
abbrev InstN := Fin 4096
/-- A vPPB of a virtual switch. -/
abbrev VppbN := Fin 64
/-- A logical device of a multi-logical device. -/
abbrev LdN := Fin 16
/-- A queue number within an instance. -/
abbrev QueueK := Fin 16
/-- A Gecko engine, E0000 to E1023. -/
abbrev EngineN := Fin 1024
/-- A context: engine times 128 plus the context number 0 to 67 (the failover places lie above). -/
abbrev CtxN := Fin 131072
/-- A cluster: tile times 8 plus the cluster within it. -/
abbrev ClusterN := Fin 32
/-- A step table, ST0000 to ST4095. -/
abbrev TableN := Fin 4096
/-- A power domain of Table 17-1. -/
abbrev DomainN := Fin 130
/-- A sled slot. -/
abbrev SlotN := Fin 16
/-- A counter unit of 0xB000. -/
abbrev UnitN := Fin 90
/-- A scheduler of 0x7200: a port, or 64 plus a target. -/
abbrev SchedN := Fin 144
/-- A cause bit of a fault source. -/
abbrev CauseN := Fin 26
/-- A clock-domain crossing of Table 6-9, in its order. -/
abbrev CrossN := Fin 35
/-- A block number on a target. -/
abbrev BlockN := Nat
/-- The key of a granule: a key DPA shifted right by 16. -/
abbrev GranN := BitVec 36
/-- The key of a line: a key DPA shifted right by 6. -/
abbrev LineN := BitVec 46

/-- Who makes a write or a request: the privilege levels of R26; a tenant is named by its instance. -/
inductive Requester where
  | vendor
  | manager
  | operator
  | tenant (i : InstN)
  deriving DecidableEq, Repr

/-- The transport an ODP message arrives on. -/
inductive Transport where
  | udp
  | mctp
  deriving DecidableEq, Repr

/-- An ODP message as it stands on the wire: the header fields of Table 2-8, the body and the tag bytes. -/
structure OdpMsg where
  magic : BitVec 16
  version : Byte
  opcode : Byte
  flags : BitVec 16
  status : BitVec 16
  session : BitVec 32
  sequence : BitVec 32
  items : BitVec 16
  bodyLen : BitVec 16
  reserved : BitVec 32
  body : List Byte
  tag : List Byte
  deriving DecidableEq, Repr

/-- The path of an FM API command: MCTP, or the switch mailbox CCI of the manager's function. -/
inductive FmPath where
  | mctp
  | cci
  deriving DecidableEq, Repr

/-- The severities of events (R336, Table 16-6). -/
inductive Severity where
  | info
  | notice
  | fault
  | critical
  deriving DecidableEq, Repr

/-- An occurrence of a cause in the cycle of its Clear (R340). -/
structure CauseOcc where
  cause : CauseN
  sev : Severity
  params : List Nat
  deriving DecidableEq, Repr

/-- A CMD action whose end is a step of its own (R25). -/
inductive ActionId where
  | commitDelta | clearDelta | cfgActivate | fwBegin | fwVerify | fwActivate | fwMicrocode | fwConfirm | fwRevert
  | swapBack (g : GroupN)
  | repair (l : LinkN)
  | attest (p : PortN)
  deriving DecidableEq, Repr

/-- The state that a MemRd or MemInv asks: none (the current value), S or E. -/
inductive Ask where
  | none
  | shared
  | exclusive
  deriving DecidableEq, Repr

/-- The PCIe AtomicOps. -/
inductive AtomKind where
  | fetchAdd
  | swap
  | cas
  deriving DecidableEq, Repr

/-- The size of an AtomicOp. -/
inductive AtomSize where
  | w32
  | w64
  | w128
  deriving DecidableEq, Repr

/-- A BIRsp: the copy the host is left with (I, S, E), or BIRspO of an inter-switch partner (Table 9-6). -/
inductive BiRsp where
  | i
  | s
  | e
  | o
  deriving DecidableEq, Repr

/-- The objects of 0x5010 that present an instance: target, USP, LD-ID. -/
inductive BindSub where
  | target
  | usp
  | ldId
  deriving DecidableEq, Repr

/-- The answer of a block to an entry request (R360). -/
inductive BlockAns where
  | ack | delay | refuse
  deriving DecidableEq, Repr

/-- A block of a domain: its kind in the order of Table 17-2 (0 port, 1 spare lane, 2 context slots, 3 cluster 0, 4 bank,
5 controller, 6 targets, 7 path tables, 8 crossings and Tidelinks, 9 management cores), and its port or bank. -/
structure BlockId where
  kind : Fin 10
  num : Byte
  deriving DecidableEq, Repr

/-- A CXL.io configuration request of an FM API command: its register number, byte enables, and the word of a write. -/
structure CfgReq where
  reg : BitVec 12
  be : BitVec 4
  write : Option (BitVec 32)
  deriving DecidableEq, Repr

/-- A channel of a slot controller (R381). -/
inductive Chan where
  | a | b
  deriving DecidableEq, Repr

/-- A direction of a lane. -/
inductive Dir where
  | tx
  | rx
  deriving DecidableEq, Repr

/-- The directions that a width change covers. -/
inductive DirSel where
  | tx
  | rx
  | both
  deriving DecidableEq, Repr

/-- Why a port's data link goes down (0x2010:08). -/
inductive DownCause where
  | surprise
  | disabled
  | dpc
  | creditFallback
  | tileReset
  | perst
  | hotReset
  | trainingFailed
  deriving DecidableEq, Repr

/-- The threshold that a droop detector falls below (R373). -/
inductive DroopLevel where
  | a | b
  deriving DecidableEq, Repr

/-- A partner's write to a control register of a Melewell DVSEC (Tables 4-5 and 5-3). -/
inductive DvsecWrite where
  | iscSelect (v : Byte)
  | llReinitEn (on : Bool)
  | spareEn (on : Bool)
  deriving DecidableEq, Repr

/-- One of the TLS6400's own functions on a USP. -/
inductive FuncSel where
  | manager
  | ld (n : LdN)
  deriving DecidableEq, Repr

/-- A refusal at a gate in the cycle of its Clear capture (R174): what Table 8-7 records of it. -/
structure GateHit where
  kind : Fin 7
  write : Bool
  /-- The instance, none for a privileged requester. -/
  inst : Option InstN
  source : BitVec 32
  keyDpa : BitVec 64
  locDpa : BitVec 64
  colour : Byte
  region : Byte
  policy : Byte
  deriving DecidableEq, Repr

/-- A CXL.io request at a port. The windows of a virtual bridge are registers of the PCIe base specification; a host's write of
them stands here with what it sets. -/
inductive IoReq where
  /-- The host writes the memory window and the bus-number range of a virtual bridge. -/
  | window (vppb : VppbN) (base limit : BitVec 64) (busLo busHi : Byte)
  /-- A memory request: posted or not, with its payload. -/
  | mem (addr : BitVec 64) (posted : Bool) (tag : BitVec 16) (tc : Fin 8) (data : List Byte)
  /-- A configuration request to a bus. -/
  | config (bus : Byte) (tag : BitVec 16) (data : List Byte)
  deriving DecidableEq, Repr

/-- A direction of a Tidelink: low-to-high or high-to-low. -/
inductive LinkDir where
  | up
  | down
  deriving DecidableEq, Repr

/-- Why a slot stops under R390. -/
inductive LossKind where
  | inputLoss | undervoltage | overvoltage
  deriving DecidableEq, Repr

/-- What DIODE-n reads (R387): a temperature in 1/16 degree, open, or shorted. -/
inductive Diode where
  | valid (t : BitVec 16)
  | opened | shorted
  deriving DecidableEq, Repr

/-- A slot's measurements: VIN and VOUT in mV, the currents of channels A and B in mA (two's complement), the diode. -/
structure Meas where
  vin : BitVec 16
  vout : BitVec 16
  ia : BitVec 32
  ib : BitVec 32
  diode : Diode
  deriving DecidableEq, Repr

/-- A CXL.io memory request of an FM API command to an LD: its offset, and the bytes of a write or the length of a read. -/
structure MemReq where
  offset : BitVec 64
  write : Option (List Byte)
  length : BitVec 16
  deriving DecidableEq, Repr

/-- A memory device as its DVSECs and CDAT describe it at link-up (R98). -/
structure MemDev where
  /-- The capacity it reports, in bytes. -/
  capacity : BitVec 64
  /-- It is a multi-logical device. -/
  mld : Bool
  /-- Its serial number, by which R435 knows the same device. -/
  serial : BitVec 64
  deriving DecidableEq, Repr

/-- What a link partner offers at DL_Up, and what training finds on the lanes. -/
structure Partner where
  /-- Flit formats: bit 0 68-byte, bit 1 256-byte standard, bit 2 256-byte latency-optimised. -/
  formats : BitVec 3
  /-- Highest rate, by the code of 0x2100:04. -/
  maxRate : Fin 8
  /-- Lanes the partner connects. -/
  width : Fin 17
  /-- CXL revision: 0 PCIe only, 2 CXL 2.0, 3 CXL 3.x. -/
  cxlRev : Fin 4
  /-- The capability register of the Melewell link DVSEC (Table 5-2), 0 when there is none. -/
  dvsec : BitVec 16
  /-- The capability register of the lane-sparing DVSEC (Table 4-5), 0 when there is none. -/
  spareCap : BitVec 4
  /-- L0p is offered; its two directions may run at different widths. -/
  l0p : Bool
  asymmetric : Bool
  /-- Lanes are reversed; lanes whose polarity is inverted; lanes that fail to lock. -/
  reversed : Bool
  inverted : List LaneN
  failed : List LaneN
  /-- The credits granted for each pool of Table 5-4; 0xFFFF_FFFF infinite. -/
  credits : List (BitVec 32)
  /-- The memory device found behind a DSP. -/
  mem : Option MemDev
  /-- What a challenge of the partner finds (R413): none when it has no SPDM, else whether it passes. -/
  attest : Option Bool
  /-- The digests that the challenge returns. -/
  digests : List Byte
  /-- The partner advertises equalisation bypass to the highest rate, and no equalisation needed (R63). -/
  eqBypass : Bool := false
  noEq : Bool := false
  deriving DecidableEq, Repr

/-- A request that carries a destination PID (R101). -/
inductive PbrReq where
  | memRd (addr : BitVec 64) (ask : Ask) (tag : BitVec 16) (tc : Fin 4)
  | memWr (addr : BitVec 64) (data : List Byte) (be : BitVec 64) (tag : BitVec 16) (tc : Fin 4)
  | memInv (addr : BitVec 64) (ask : Ask) (tag : BitVec 16) (tc : Fin 4)
  | memSpecRd (addr : BitVec 64)
  | memClnEvct (addr : BitVec 64) (tag : BitVec 16) (tc : Fin 4)
  /-- A BISnp of a switched device toward a host (Table 5-6). -/
  | biSnp (addr : BitVec 64) (tag : BitVec 16)
  | io (posted : Bool) (tag : BitVec 16) (tc : Fin 8) (data : List Byte)
  deriving DecidableEq, Repr

/-- The channel of a CXL.cache message: request, response or data. -/
inductive CacheChannel where
  | req
  | rsp
  | data
  deriving DecidableEq, Repr

/-- The operation of Physical Port Control. -/
inductive PortOp where
  | assertPerst | deassertPerst | resetPpb
  deriving DecidableEq, Repr

/-- An update record of NOR (R399). -/
structure UpdRec where
  seq : BitVec 32
  active : Byte
  trial : Byte
  count : Byte
  deriving DecidableEq, Repr

/-- The contents of the external NOR as they stand at a power-up, when they were written outside the device (R56): configuration images
and delta areas of CFG0 and CFG1, the golden configuration, firmware slots A and B and golden, and the valid update records. -/
structure NorImage where
  cfg0 : List Byte
  cfg1 : List Byte
  goldenCfg : List Byte
  delta0 : List Byte
  delta1 : List Byte
  fwA : List Byte
  fwB : List Byte
  goldenFw : List Byte
  u0 : Option UpdRec
  u1 : Option UpdRec
  deriving DecidableEq, Repr

/-- What stands at the pins when PWROK_AON rises (Tables 19-4 and 20-10): the straps, VDD_HLD in range, the cores that pass the self-test of
ROM entry, and NOR contents written while the device was off. -/
structure PowerUp where
  bootsel : Fin 4
  testN : Bool
  hldInRange : Bool
  corePasses : Bool
  otherPasses : Bool
  nor : Option NorImage
  deriving DecidableEq, Repr

/-- A monitored rail: VDD_Tt of a tile, or a shared rail (R424). -/
inductive RailSel where
  | tile (t : TileN)
  | shared
  deriving DecidableEq, Repr

/-- Where a register write goes: a scalar object, records of a TABLE or BLOB object from a start record, or a byte offset of the
dictionary window in the manager's BAR2 (Table 2-15). -/
inductive RegPlace where
  | object (idx : BitVec 16) (sub : Byte) (q : BitVec 16)
  | chunk (idx : BitVec 16) (sub : Byte) (q : BitVec 16) (start : BitVec 32)
  | window (off : Fin 16384)
  deriving DecidableEq, Repr

/-- A write to a dictionary object or register that has no row of its own: who writes, where, and the value's bytes (of an object in
network order, of a register of the window in ascending order of address). -/
structure RegWrite where
  requester : Requester
  place : RegPlace
  value : List Byte
  deriving DecidableEq, Repr

/-- The fields of a step but for its OP, which the command names (Table 12-1). -/
structure StepF where
  rd : Fin 16
  ra : Fin 16
  rb : Fin 16
  rc : Fin 16
  sz : Fin 8
  immb : Bool
  cond : Fin 16
  space : Fin 4
  target : Fin 16384
  imm : BitVec 64
  deriving DecidableEq, Repr

/-- The throttle temperatures of R375: 100 and 105 degrees. -/
inductive ThermLevel where
  | c100 | c105
  deriving DecidableEq, Repr

/-- A Tidelink flit as received: 256 bytes, header, data area and check field (R118). -/
abbrev TlFlit := List Byte
/-- An invocation that firmware starts in a pooled or system context: the vendor table, the instance a pooled context is lent to,
whether it performs an atomic at home, and its arguments (R240 to R242). -/
structure VendorWork where
  table : Fin 512
  inst : InstN
  atom : Bool
  args : List (BitVec 64)
  deriving DecidableEq, Repr

/-- A unit of a stateful object: the object and its qualifier. -/
structure ViewUnit where
  idx : BitVec 16
  q : BitVec 16
  deriving DecidableEq, Repr

/-- The wake sources of Table 17-5. -/
inductive WakeSrc where
  | idleExit | perstRise | queuedRequest | odp | mctp | slotEvent
  deriving DecidableEq, Repr

/-- What a table walk reads: the group of an extent index, a set of the remap overlay, a block-map entry, a directory set,
a set of frame descriptors, or tags. -/
inductive WalkKind where
  | index
  | remap
  | block
  | directory
  | frame
  | tag
  deriving DecidableEq, Repr


/-- The commands of the block: one constructor per row of the operation table, in the table's order.
Each docstring names the row and the rule of the manual that governs it. -/
inductive Instr where
  /-- HELLO (R34): ODP HELLO request; the device replies with the negotiated version, or with STATUS VERSION for an offer of 0. -/
  | odpHello (t : Transport) (m : OdpMsg)
  /-- OPEN (R36): ODP OPEN request; creates a session with a device nonce and derives the session key, or is refused in the order of R36. -/
  | odpOpen (t : Transport) (m : OdpMsg)
  /-- CLOSE (R37): ODP CLOSE request; ends the session. -/
  | odpClose (t : Transport) (m : OdpMsg)
  /-- READ (R431): ODP READ request; each item is checked in order and its value is returned. -/
  | odpRead (t : Transport) (m : OdpMsg)
  /-- WRITE (R34): ODP WRITE request; items are applied in order, each with its own status, with no item of another request in between. -/
  | odpWrite (t : Transport) (m : OdpMsg)
  /-- READ_CHUNK (R38): ODP READ_CHUNK request; returns whole records of a TABLE or BLOB object and the total record count. -/
  | odpReadChunk (t : Transport) (m : OdpMsg)
  /-- WRITE_CHUNK (R38): ODP WRITE_CHUNK request; writes whole records of a TABLE or BLOB object as one unit. -/
  | odpWriteChunk (t : Transport) (m : OdpMsg)
  /-- DESCRIBE (R34): ODP DESCRIBE request; returns type, access, persistence, default and range of each item. -/
  | odpDescribe (t : Transport) (m : OdpMsg)
  /-- SUBSCRIBE (R37): ODP SUBSCRIBE request; sets or ends the lowest Strandline severity sent as notices. -/
  | odpSubscribe (t : Transport) (m : OdpMsg)
  /-- KEEPALIVE (R37): ODP KEEPALIVE request; keeps the session alive and may prove the privilege as the first tagged message. -/
  | odpKeepalive (t : Transport) (m : OdpMsg)
  /-- SESSION_IDLE_TIMEOUT (R37): A session with no valid message for the idle timeout is ended. -/
  | sessionIdleTimeout (sid : BitVec 32)
  /-- DICTIONARY_READY (R43): Five milliseconds after PWROK_AON rises the dictionary starts to answer requests. -/
  | dictionaryReady
  /-- OBJECT_WRITE (R28): Write to a dictionary object or register that has no row of its own; it changes the running value after the checks of R431. -/
  | objectWrite (w : RegWrite)
  /-- ACTUAL_VIEW_CHANGE (R29): The datapath changes the actual state of a stateful unit, and subindex 2 is refreshed within 1 ms. -/
  | actualViewChange (u : ViewUnit) (v : Byte)
  /-- STATE_SKEW (R30): The skew timer passes 10 ms with target and actual views apart; STATE_SKEW latches and a Notice record is written. -/
  | stateSkew (u : ViewUnit)
  /-- GO (R41): Write of GO to ODW_DOORBELL submits the request buffer, or sets OVERRUN while BUSY, or is ignored while the window is disabled. -/
  | odwGo
  /-- ODW_DONE (R41): Processing of a window request ends; the reply is in the response buffer, DONE sets and MSI-X is signalled when enabled. -/
  | odwDone
  /-- ODW_STATUS_CLEAR (R4): Write-1-to-clear of DONE or OVERRUN in ODW_STATUS, with set winning in the same cycle. -/
  | odwStatusClear (mask : BitVec 32) (setDone : Bool) (setOverrun : Bool)
  /-- ENDPOINT_DISCOVERY (R39): MCTP control message for endpoint discovery, answered by the device. -/
  | endpointDiscovery
  /-- EID_ASSIGNMENT (R39): MCTP control message that assigns the device's endpoint ID. -/
  | eidAssignment (eid : Byte)
  /-- VERSION_QUERY (R39): MCTP control message asking for supported versions. -/
  | versionQuery (mtype : Byte)
  /-- IDENTIFY_SWITCH_DEVICE (R40): FM API Identify Switch Device command, run as one multi-item request. -/
  | identifySwitchDevice (via : FmPath)
  /-- GET_PHYSICAL_PORT_STATE (R40): FM API Get Physical Port State command. -/
  | getPhysicalPortState (via : FmPath) (ports : List PortN)
  /-- PHYSICAL_PORT_CONTROL (R40): FM API Physical Port Control command. -/
  | physicalPortControl (via : FmPath) (p : PortN) (op : PortOp)
  /-- SEND_PPB_CXL_IO_CONFIGURATION_REQUEST (R40): FM API Send PPB CXL.io Configuration Request command. -/
  | sendPpbCxlIoConfigurationRequest (via : FmPath) (p : PortN) (req : CfgReq)
  /-- GET_VIRTUAL_CXL_SWITCH_INFO (R40): FM API Get Virtual CXL Switch Info command. -/
  | getVirtualCxlSwitchInfo (via : FmPath) (p : PortN)
  /-- BIND_VPPB (R40): FM API Bind vPPB command, written as a VCS binding record. -/
  | bindVppb (via : FmPath) (p : PortN) (vppb : VppbN) (dsp : PortN) (ld : Byte)
  /-- UNBIND_VPPB (R40): FM API Unbind vPPB command. -/
  | unbindVppb (via : FmPath) (p : PortN) (vppb : VppbN)
  /-- GENERATE_AER_EVENT (R40): FM API Generate AER Event command. -/
  | generateAerEvent (via : FmPath) (p : PortN) (vppb : VppbN) (err : BitVec 32)
  /-- TUNNEL_MANAGEMENT_COMMAND (R40): FM API Tunnel Management Command. -/
  | tunnelManagementCommand (via : FmPath) (p : PortN) (payload : List Byte)
  /-- SEND_LD_CXL_IO_CONFIGURATION_REQUEST (R40): FM API Send LD CXL.io Configuration Request command. -/
  | sendLdCxlIoConfigurationRequest (via : FmPath) (p : PortN) (ld : LdN) (req : CfgReq)
  /-- SEND_LD_CXL_IO_MEMORY_REQUEST (R40): FM API Send LD CXL.io Memory Request command. -/
  | sendLdCxlIoMemoryRequest (via : FmPath) (p : PortN) (ld : LdN) (req : MemReq)
  /-- GET_LD_INFO (R40): FM API Get LD Info command. -/
  | getLdInfo (via : FmPath)
  /-- GET_LD_ALLOCATIONS (R40): FM API Get LD Allocations command. -/
  | getLdAllocations (via : FmPath) (p : PortN)
  /-- SET_LD_ALLOCATIONS (R40): FM API Set LD Allocations command. -/
  | setLdAllocations (via : FmPath) (p : PortN) (ld : LdN) (rec : List Byte)
  /-- GET_QOS_CONTROL (R316): FM API Get QoS Control command; reads back stored values. -/
  | getQosControl (via : FmPath) (p : PortN)
  /-- SET_QOS_CONTROL (R316): FM API Set QoS Control; writes the USP's DevLoad moderate and severe limits. -/
  | setQosControl (via : FmPath) (p : PortN) (moderate : Byte) (severe : Byte) (rest : List Byte)
  /-- GET_QOS_STATUS (R316): FM API Get QoS Status; returns the backpressure average. -/
  | getQosStatus (via : FmPath) (p : PortN)
  /-- GET_QOS_ALLOCATED_BW (R316): FM API Get QoS Allocated BW command. -/
  | getQosAllocatedBw (via : FmPath) (p : PortN) (ld : LdN)
  /-- SET_QOS_ALLOCATED_BW (R316): FM API Set QoS Allocated BW; sets meter 0 of the LD's instance to MODE 2 with the computed CIR. -/
  | setQosAllocatedBw (via : FmPath) (p : PortN) (ld : LdN) (f : Byte)
  /-- GET_QOS_BW_LIMIT (R316): FM API Get QoS BW Limit command. -/
  | getQosBwLimit (via : FmPath) (p : PortN) (ld : LdN)
  /-- SET_QOS_BW_LIMIT (R316): FM API Set QoS BW Limit; sets the PIR of meter 0. -/
  | setQosBwLimit (via : FmPath) (p : PortN) (ld : LdN) (f : Byte)
  /-- GET_DCD_INFO (R40): FM API Get DCD Info command. -/
  | getDcdInfo (via : FmPath)
  /-- GET_HOST_DC_REGION_CONFIGURATION (R40): FM API Get Host DC Region Configuration command. -/
  | getHostDcRegionConfiguration (via : FmPath) (i : InstN)
  /-- SET_DC_REGION_CONFIGURATION (R145): FM API Set DC Region Configuration; writes DC region records. -/
  | setDcRegionConfiguration (via : FmPath) (i : InstN) (reg : Fin 8) (rec : List Byte)
  /-- GET_DCD_EXTENT_LISTS (R40): FM API Get DCD Extent Lists command. -/
  | getDcdExtentLists (via : FmPath) (i : InstN)
  /-- INITIATE_DYNAMIC_CAPACITY_ADD (R146): FM API Initiate Dynamic Capacity Add; runs grants, refused with Invalid Input for an extent count of 0. -/
  | initiateDynamicCapacityAdd (via : FmPath) (reqs : List (List Byte))
  /-- INITIATE_DYNAMIC_CAPACITY_RELEASE (R148): FM API Initiate Dynamic Capacity Release; runs releases, refused for an extent count of 0. -/
  | initiateDynamicCapacityRelease (via : FmPath) (exts : List ExtentN) (forced : Bool)
  /-- FM_API_UNSUPPORTED (R40): An FM API command outside Table 2-14 is answered Unsupported and changes nothing. -/
  | fmApiUnsupported (via : FmPath) (opcode : BitVec 16)
  /-- TARGET_MODE_WRITE (R50): Write to 0x1200:01 starts an allowed mode transition with quiescing, or is refused and possibly recorded. -/
  | targetModeWrite (r : Requester) (v : Byte)
  /-- QUIESCE_COMPLETE (R49): The units of the touched set are all quiesced, so the patches of overlay On are applied and held requests resume. -/
  | quiesceComplete
  /-- QUIESCE_TIMEOUT (R51): The quiesce timeout passes before the touched set is quiesced; the transition fails with 0x25. -/
  | quiesceTimeout
  /-- DRAIN_COMPLETE (R51): The drain into SERVICE finishes: tenant requests done, dirty lines written back, directory empty. -/
  | drainComplete
  /-- DRAIN_TIMEOUT (R51): The drain timeout passes before the drain into SERVICE finishes; the transition fails. -/
  | drainTimeout
  /-- ROLE_CHANGE_TIMEOUT (R50): 100 ms pass after a port's role change without L0, and the actual mode changes anyway. -/
  | roleChangeTimeout
  /-- INSTALL (R56): Install command checks the staged image and writes it into the slot that is not active. -/
  | cfgInstall (r : Requester)
  /-- INSTALL_COMPLETE (R55): The image write of Install finishes and the result is recorded. -/
  | installComplete (err : Byte)
  /-- ACTIVATE (R56): Activate command loads the higher-serial valid configuration slot while in SERVICE. -/
  | cfgActivate (r : Requester)
  /-- COMMIT_DELTA (R57): Commit delta writes differing P objects, then the HMAC, into the delta area of the active slot. -/
  | commitDelta (r : Requester)
  /-- CLEAR_DELTA (R57): Clear delta erases the delta area of the active slot. -/
  | clearDelta (r : Requester)
  /-- DEVICE_RESET (R402): Reset command value 1: warm reset of the whole device after the reply. -/
  | deviceReset (r : Requester)
  /-- DEVICE_RESET_IGNORE_BOOTSEL (R402): Reset command value 2: warm reset that ignores BOOTSEL's RECOVERY selection once. -/
  | deviceResetIgnoreBootsel (r : Requester)
  /-- COMPAT_WRITE (R58): Write to the TLS3200 compatibility window, translated into dictionary writes; a refusal sets REFUSED with offset and code. -/
  | compatWrite (off : Fin 2048) (v : BitVec 32)
  /-- COMPAT_STATUS_CLEAR (R4): Write-1-to-clear of REFUSED in COMPAT_STATUS. -/
  | compatStatusClear (mask : BitVec 32) (setRefused : Bool)
  /-- LANE_LOCK (R65): A lane declares lock after 64 consecutive good framing units. -/
  | laneLock (l : LaneN)
  /-- LANE_LOCK_LOSS (R66): A locked lane sees 16 bad units of 64, loses lock and opens a decision window. -/
  | laneLockLoss (l : LaneN)
  /-- DECISION_WINDOW_CLOSE (R72): The decision window of 64 units closes; the spare is substituted in the port's mode, or Recovery is entered. -/
  | decisionWindowClose (p : PortN)
  /-- SPARING_REQUEST (R73): The partner's sparing request DLLP arrives, and hitless substitution starts for the named lane. -/
  | sparingRequest (p : PortN) (l : LaneN)
  /-- SPARING_ACK (R73): The partner's acknowledgement of a sparing request arrives and fixes the switch flit. -/
  | sparingAck (p : PortN)
  /-- SWITCH_FLIT (R73): The switch flit is reached and the spare carries the failed lane's logical lane. -/
  | switchFlit (p : PortN)
  /-- L0P_WIDTH_CHANGE (R68): An L0p narrowing or widening of a direction completes; lanes move between ACTIVE and DOZE. -/
  | l0pWidthChange (p : PortN) (d : DirSel) (w : Byte) (stuck : Option LaneN)
  /-- RECOVERY_COMPLETE (R75): Recovery returns to L0 with the spare in the lane set, or narrowed; unacknowledged flits are replayed. -/
  | recoveryComplete (p : PortN) (spareLocked : Bool)
  /-- DEGRADE_THRESHOLD (R77): A lane exceeds the FEC-corrected threshold in one second and the idle spare is substituted at once. -/
  | degradeThreshold (l : LaneN)
  /-- SPARE_EXCHANGE_COMPLETE (R70): The 1 ms PRBS31 exchange on the spare after link-up ends; a failure sets mode NONE with a Notice. -/
  | spareExchangeComplete (p : PortN) (ok : Bool)
  /-- KEEPALIVE_LOSS (R70): The keep-alive checker loses sync or sees 64 errors in a second; the mode becomes NONE until the next link-up. -/
  | keepaliveLoss (g : GroupN)
  /-- QUIESCE_TARGET (R61): Write to 0x2140:01 quiesces a port group, taking its links down, or releases it to train. -/
  | quiesceTarget (r : Requester) (g : GroupN) (v : Byte)
  /-- SWAP_BACK (R81): Swap back command tests the retired lane with PRBS31 and restores it, idling the spare. -/
  | swapBack (r : Requester) (g : GroupN)
  /-- RETIRE_LANE (R76): Retire lane command substitutes the spare for a named lane proactively. -/
  | retireLane (r : Requester) (g : GroupN) (v : Byte)
  /-- LANE_DIRECTION_TARGET (R67): Write to 0x2101 or 0x2102 sets a lane direction automatic or OFF. -/
  | laneDirectionTarget (r : Requester) (l : LaneN) (d : Dir) (v : Byte)
  /-- TEST_TARGET (R80): Write to 0x2110:01 starts or stops the lane generator and checker, subject to the test permissions. -/
  | testTarget (r : Requester) (l : LaneN) (v : Byte)
  /-- LOOPBACK (R80): Write to 0x2110:04 selects a loopback, subject to the test permissions. -/
  | testLoopback (r : Requester) (l : LaneN) (v : Byte)
  /-- LOOPBACK_ENTRY (R80): A partner leads the lane into Loopback and the far-end loopback answers. -/
  | loopbackEntry (l : LaneN)
  /-- INJECT (R79): Inject command inverts n consecutive generator bits. -/
  | testInject (r : Requester) (l : LaneN) (n : BitVec 32)
  /-- CLEAR_COUNTERS (R78): Clear counters command zeroes the lane test counters. -/
  | clearCounters (r : Requester) (l : LaneN)
  /-- CHECKER_SYNC (R78): The PRBS checker declares sync after 256 error-free bits. -/
  | checkerSync (l : LaneN)
  /-- CHECKER_SYNC_LOSS (R78): The PRBS checker loses sync at 64 errors in 256 bits, counts it and resynchronises. -/
  | checkerSyncLoss (l : LaneN) (bits : Nat) (errs : Nat)
  /-- LINK_UP (R85): DL_Up of a port; flit format and rate are chosen and partner DVSECs are read. -/
  | linkUp (p : PortN) (x : Partner)
  /-- LINK_DOWN (R93): DL_Down of a port; queued transactions are dropped and requesters get synthetic completions. -/
  | linkDown (p : PortN) (cause : DownCause) (presenceLost : Bool)
  /-- LATE_RESPONSE (R93): A response arriving for a request already given a synthetic completion is discarded and counted. -/
  | lateResponse (p : PortN) (tag : Nat)
  /-- PRESENCE_CHANGE (R97): In-band presence detect changes on a DSP and a hot-plug event is reported. -/
  | presenceChange (p : PortN) (present : Bool)
  /-- POWER_CONTROLLER_CONTROL (R97): The host writes Power Controller Control, which drives the target of the bound slot. -/
  | powerControllerControl (p : PortN) (on : Bool)
  /-- FLIT_CRC_ERROR (R86): A flit fails its CRC after FEC; it is counted and replayed. -/
  | flitCrcError (p : PortN) (resent : Nat) (beyondFec : Bool)
  /-- REPLAY_TIMEOUT (R86): A link-layer replay timer expires and unacknowledged flits are resent. -/
  | replayTimeout (p : PortN) (resent : Nat)
  /-- AUDIT_PERIOD (R89): An audit period ends without a quiet point in some pool; new transactions of audited pools are held. -/
  | auditPeriod (p : PortN)
  /-- QUIET_POINT (R90): A pool reaches a quiet point; the usable window and leaks are updated. -/
  | quietPoint (p : PortN) (pool : Fin 18) (avail : BitVec 32)
  /-- AUDIT_HOLD_TIMEOUT (R89): The audit hold reaches 20 µs; the audit of the period is skipped and counted. -/
  | auditHoldTimeout (p : PortN)
  /-- RETRAIN_DRAIN_COMPLETE (R91): No transaction awaits a response, or the drain limit passes; LLRESET is sent and the link goes to Recovery. -/
  | retrainDrainComplete (p : PortN)
  /-- CREDIT_RETRAIN_COMPLETE (R91): The link returns to L0 with flow control re-initialised and held transactions are released. -/
  | creditRetrainComplete (p : PortN) (credits : List Nat)
  /-- LLRESET (R91): The partner's LLRESET vendor DLLP arrives and a link-layer re-initialisation follows. -/
  | llreset (p : PortN)
  /-- FORCE_RETRAIN (R91): Force retrain command starts a credit retrain now, or fails with 0x51. -/
  | forceRetrain (r : Requester) (p : PortN)
  /-- BME_CLEAR (R94): The host clears Bus Master Enable of a TLS6400 function and the egress block takes effect. -/
  | bmeClear (p : PortN) (f : FuncSel)
  /-- BME_SET (R94): The host sets Bus Master Enable; new requests are released and pending MSI-X is sent. -/
  | bmeSet (p : PortN) (f : FuncSel)
  /-- INITIATE_FLR (R96): Configuration write with Initiate FLR starts a function-level reset. -/
  | initiateFlr (p : PortN) (f : FuncSel)
  /-- FLR_COMPLETE (R96): The function-level reset finishes and the function answers configuration requests normally. -/
  | flrComplete (p : PortN) (f : FuncSel)
  /-- COMPLETION_TIMEOUT (R95): An upstream read of a TLS6400 function is unanswered within its completion timeout. -/
  | completionTimeout (p : PortN) (f : FuncSel) (c : CtxN)
  /-- MEMRD (R186): CXL.mem MemRd from a host, decoded, metered, translated, gated and answered at the home. -/
  | memrd (p : PortN) (hpa : BitVec 64) (ask : Ask) (tag : BitVec 16) (tc : Fin 4)
  /-- MEMRDDATA (R186): CXL.mem MemRdData from a host. -/
  | memrddata (p : PortN) (hpa : BitVec 64) (tag : BitVec 16) (tc : Fin 4)
  /-- MEMINV (R186): CXL.mem MemInv from a host. -/
  | meminv (p : PortN) (hpa : BitVec 64) (ask : Ask) (tag : BitVec 16) (tc : Fin 4)
  /-- MEMWR (R186): CXL.mem MemWr or MemWrPtl from a host, written into the home slice. -/
  | memwr (p : PortN) (hpa : BitVec 64) (data : List Byte) (be : BitVec 64) (keepS : Bool) (tag : BitVec 16) (tc : Fin 4)
  /-- MEMCLNEVCT (R186): CXL.mem MemClnEvct from a host, removing it from the directory entry. -/
  | memclnevct (p : PortN) (hpa : BitVec 64) (tag : BitVec 16) (tc : Fin 4)
  /-- MEMSPECRD (R207): CXL.mem MemSpecRd, which has no response. -/
  | memspecrd (p : PortN) (hpa : BitVec 64)
  /-- BIRSP (R187): A BIRsp from a host arrives at the home and completes its snoop. -/
  | birsp (p : PortN) (key : LineN) (rsp : BiRsp) (data : Option (List Byte))
  /-- BICONFLICT (R188): A host's BIConflict arrives; the home answers BIConflictAck after recording the snoop. -/
  | biconflict (p : PortN) (key : LineN)
  /-- SLICE_RESPONSE (R200): A remote fabric-cache slice answers the home, with data when dirty. -/
  | sliceResponse (t : TileN) (key : LineN) (data : Option (List Byte))
  /-- ATOMICOP (R204): A PCIe AtomicOp on instance memory, performed at the line's home bank. -/
  | atomicop (p : PortN) (hpa : BitVec 64) (k : AtomKind) (size : AtomSize) (a : BitVec 128) (b : BitVec 128) (tag : BitVec 16) (tc : Fin 4)
  /-- CXL_IO_REQUEST (R101): A CXL.io request routed by windows and bindings, or completed with Unsupported Request on a miss. -/
  | cxlIoRequest (p : PortN) (req : IoReq)
  /-- CXL_IO_COMPLETION (R114): A CXL.io completion forwarded under the ordering rules. -/
  | cxlIoCompletion (p : PortN) (dst : PortN) (tag : BitVec 16) (bytes : Nat)
  /-- PBR_REQUEST (R101): Traffic with a destination PID routed by the PBR route table, or given a synthetic completion on a miss. -/
  | pbrRequest (p : PortN) (pid : Fin 4096) (req : PbrReq)
  /-- CXL_CACHE_MESSAGE (R180): A CXL.cache message forwarded without reaching the directory. -/
  | cxlCacheMessage (p : PortN) (dst : PortN) (cacheId : Fin 16) (d2h : Bool) (ch : CacheChannel) (tag : BitVec 16) (bytes : Nat)
  /-- WALK_COMPLETE (R141): A table walk in HBM after a cache miss returns its unit. -/
  | walkComplete (t : TileN) (k : WalkKind) (key : Nat)
  /-- SCHEDULER_CYCLE (R105): Each core cycle the crossbar scheduler runs two request-grant-accept iterations and moves matched cells. -/
  | schedulerCycle (t : TileN)
  /-- TIDELINK_FLIT (R118): A Tidelink flit is received and checked; cell units land and ACK, NAK and PAUSE are taken. -/
  | tidelinkFlit (l : LinkN) (d : LinkDir) (f : TlFlit)
  /-- ACK_TIMEOUT (R119): No Tidelink acknowledgement within 64 ns; the oldest unacknowledged group is resent. -/
  | ackTimeout (l : LinkN) (d : LinkDir)
  /-- BALANCER_PERIOD (R115): At the end of each period the path balancer moves path entries by measured load. -/
  | balancerPeriod (t : TileN)
  /-- PATH_TABLE_WRITE (R116): A manager write to the path table re-pins the entry by fence. -/
  | pathTableWrite (r : Requester) (t : TileN) (start : Fin 768) (vals : List Byte)
  /-- FENCE_CELL (R116): A fence cell arrives at the destination tile, which acknowledges once all have arrived. -/
  | fenceCell (t : TileN) (dst : TileN) (e : Byte) (cls : Fin 8)
  /-- FENCE_ACK (R116): The fence acknowledgement arrives; the source switches the entry and releases held cells. -/
  | fenceAck (t : TileN) (dst : TileN) (e : Byte)
  /-- TIDELINK_LANE_LOSS (R122): A Tidelink lane loses lock and is spared, or the direction narrows or fails. -/
  | tidelinkLaneLoss (l : LinkN) (d : LinkDir) (lane : Fin 64)
  /-- TIDELINK_FAILURE (R123): A Tidelink fails; dedup reports are sent and entries re-pinned onto surviving paths. -/
  | tidelinkFailure (l : LinkN)
  /-- DEDUP_REPORT (R123): A dedup report arrives and the cells after the reported group are resent on new paths. -/
  | dedupReport (l : LinkN) (t : TileN) (grp : Byte)
  /-- DEDUP_TIMEOUT (R123): No dedup report within 5 µs; the tile acts as on a reset token. -/
  | dedupTimeout (l : LinkN) (t : TileN)
  /-- TIDELINK_TARGET (R123): Write to 0x3100:01 disables a Tidelink, which fails, or enables it. -/
  | tidelinkTarget (r : Requester) (l : LinkN) (v : Byte)
  /-- REPAIR (R117): Repair command retrains all Tidelink lanes and returns clean lanes to service. -/
  | tidelinkRepair (r : Requester) (l : LinkN)
  /-- BEACHCOMBER_PASS (R124): A 65 ms Beachcomber pass ends; unreferenced cells get strikes and second strikes are declared leaked. -/
  | beachcomberPass (t : TileN) (lost : List Nat)
  /-- RESET_TOKEN (R127): A reset token arrives at a crossing; queued items are discarded and error handling starts. -/
  | resetToken (t : TileN) (x : CrossN)
  /-- CROSSING_TIMEOUT (R128): A crossing holding an item sees no clock edge for 4,096 cycles and acts as on a reset token. -/
  | crossingTimeout (t : TileN) (x : CrossN)
  /-- TILE_RESET (R129): Reset command of a tile resets it as in Table 6-10 while the neighbours serve on. -/
  | tileReset (r : Requester) (t : TileN)
  /-- TILE_TARGET (R131): Write to 0x3000:01 holds a tile in reset or puts it in service. -/
  | tileTarget (r : Requester) (t : TileN) (v : Byte)
  /-- TILE_IN_SERVICE (R129): A released tile finishes starting and reads in service; path entries are restored. -/
  | tileInService (t : TileN)
  /-- GRANT (R146): Grant command checks a grant request and creates an extent. -/
  | grant (r : Requester) (v : List Byte)
  /-- ADD_DYNAMIC_CAPACITY_RESPONSE (R147): The host accepts or rejects an offered extent in its Add Dynamic Capacity Response. -/
  | addDynamicCapacityResponse (i : InstN) (e : ExtentN) (accept : Bool)
  /-- OFFER_TIMEOUT (R147): The host does not respond to an offer within the offer timeout; the offer is withdrawn. -/
  | offerTimeout (e : ExtentN)
  /-- RELEASE (R148): Release command value 0 sends the host a Release Capacity event and waits for its release. -/
  | extentRelease (r : Requester) (e : ExtentN)
  /-- FORCED_RELEASE (R148): Release command value 1 releases an extent without waiting for the host. -/
  | forcedRelease (r : Requester) (e : ExtentN)
  /-- RELEASE_DYNAMIC_CAPACITY (R148): The host releases an extent by Release Dynamic Capacity; the release runs as Table 7-11. -/
  | releaseDynamicCapacity (i : InstN) (e : ExtentN)
  /-- CACHE_ACK (R142): All four tiles have dropped cached copies of a changed table entry and acknowledged. -/
  | cacheAck (e : ExtentN)
  /-- RELEASE_DRAIN_TIMEOUT (R148): Requests still outstanding 10 ms into a release receive synthetic completions. -/
  | releaseDrainTimeout (e : ExtentN)
  /-- RELEASE_REQUESTS_DONE (R148): The last request translated to a releasing extent completes and back-invalidation starts. -/
  | releaseRequestsDone (e : ExtentN)
  /-- SCRUB_COMPLETE (R149): A block is zeroed and read back as zeros and enters the free state. -/
  | scrubComplete (tg : TargetN) (blk : BlockN)
  /-- TARGET_POOL_WRITE (R152): Write to 0x4000:01 takes a target into, out of, or draining from the pool. -/
  | targetPoolWrite (r : Requester) (tg : TargetN) (v : Byte)
  /-- JOIN_COMPLETE (R151): A join finishes and the target reads active, or join failed. -/
  | joinComplete (tg : TargetN) (deviceRefuses : Bool)
  /-- DRAIN_DONE (R152): A draining target holds no extent and no remapped granule, and reads removed. -/
  | drainDone (tg : TargetN)
  /-- LINK_RETURN_TIMEOUT (R435): A pool target's link has not returned to L0 within 1 s of DL_Down; the target is lost. -/
  | linkReturnTimeout (tg : TargetN)
  /-- NEAR_TIER_WRITE (R144): Write to 0x4000:08 changes the near-tier capacity of a stack against the Littoral cache. -/
  | nearTierWrite (r : Requester) (t : TileN) (v : BitVec 16)
  /-- PSEUDO_CHANNEL_FAILURE (R156): A pseudo-channel is failed by its errors or training and is decoded as erasures. -/
  | pseudoChannelFailure (t : TileN) (pc : Fin 32)
  /-- RETIRE_PSEUDO_CHANNEL (R156): Retire pseudo-channel command fails a named pseudo-channel, refused for a second in the set. -/
  | retirePseudoChannel (r : Requester) (t : TileN) (v : Byte)
  /-- ROW_REPAIR (R157): A row over the corrected-error threshold is copied to a spare row by soft repair. -/
  | rowRepair (t : TileN) (bank : Nat) (spareLeft : Bool)
  /-- CLEAR_CAPTURE (R174): Clear capture command empties a gate's capture record. -/
  | clearCapture (r : Requester) (g : TargetN) (same : Option GateHit)
  /-- RECOLOUR (R177): Recolour command writes a colour to every granule of an instance's range. -/
  | recolour (r : Requester) (v : List Byte)
  /-- QUERY (R167): Query command returns the colour of one granule of an instance. -/
  | tagQuery (r : Requester) (v : List Byte)
  /-- BI_TIMEOUT (R191): A host has not answered a BISnp within the BI timeout; the home acts alone and raises a Critical fault. -/
  | biTimeout (p : PortN) (key : LineN)
  /-- RANGE_BACK_INVALIDATION_COMPLETE (R190): A range back-invalidation finishes its scan with every copy of the range removed. -/
  | rangeBackInvalidationComplete (j : Nat)
  /-- HOLD_WINDOW_END (R202): A grant's hold window passes and snoops waiting in the chain may proceed. -/
  | holdWindowEnd (key : LineN)
  /-- LOST_HOST_SCAN (R210): The directory scan that removes a lost host from every entry completes. -/
  | lostHostScan (p : PortN)
  /-- FLUSH (R192): Flush command writes every dirty line of a tile to memory. -/
  | cacheFlush (r : Requester) (t : TileN)
  /-- LOOKUP (R184): Lookup command returns the directory entry of a key DPA. -/
  | dirLookup (r : Requester) (t : TileN) (v : List Byte)
  /-- ISC_SELECT_TIMEOUT (R195): The ISC_SELECT write does not come within 10 ms; the inter-switch port carries no HDM-DB. -/
  | iscSelectTimeout (p : PortN)
  /-- EPOCH_END (R221): At the end of each Littoral epoch heat decays and the policy table runs its decisions. -/
  | epochEnd (t : TileN)
  /-- MOVE_RECALL_COMPLETE (R224): The recall phase of a move completes and copying starts. -/
  | moveRecallComplete (g : GranN)
  /-- MOVE_COPY_COMPLETE (R224): A copy or re-copy round completes; another round runs, cut-over starts, or the move is abandoned. -/
  | moveCopyComplete (g : GranN)
  /-- CUT_OVER_COMPLETE (R225): Cut-over completes: entries handed over, remap written and release messages sent. -/
  | cutOverComplete (g : GranN)
  /-- LOCK_GUARD_EXPIRY (R227): t4 not reached 2 µs after t0; the lock is released and the move abandoned with 0x98. -/
  | lockGuardExpiry (g : GranN)
  /-- RELEASE_MESSAGE (R226): A tile receives a cut-over release message and frees held requests with the new entry. -/
  | releaseMessage (t : TileN) (g : GranN)
  /-- MOVE_SETTLE (R226): After R142 completes and old requests finish, the source slot or frame is freed. -/
  | moveSettle (g : GranN)
  /-- SECTOR_FILL (R230): A frame sector fill from the far target completes. -/
  | sectorFill (g : GranN) (sector : Fin 64)
  /-- MOVE (R231): Manual Move command queues promotions, returns, releases or admissions of a range. -/
  | littoralMove (r : Requester) (v : List Byte)
  /-- INVOCATION_START (R239): A context takes an invocation from a queue it serves and starts it. -/
  | invocationStart (c : CtxN) (work : Option VendorWork)
  /-- BINDINGS_WRITE (R238): Write of binding records binds, pools or frees contexts, refused on the rules of R238. -/
  | bindingsWrite (r : Requester) (e : EngineN) (start : Fin 64) (recs : List Byte)
  /-- MEMORY_REPLY (R236): The last reply of a memory step reaches the context store and the context is ready again. -/
  | memoryReply (c : CtxN) (data : List Byte) (status : Byte)
  /-- TIMER_EXPIRY (R252): A context's timer expires and raises event 25. -/
  | timerExpiry (c : CtxN)
  /-- WAIT_CYCLE (R253): A wait group stays in a wait cycle for 1 ms; the youngest context is aborted with 0x09. -/
  | waitCycle (cl : ClusterN) (grp : Byte)
  /-- ENGINE_FAILURE (R254): An engine fails; its contexts move to failover slots of siblings. -/
  | engineFailure (e : EngineN)
  /-- ENGINE_OUT_OF_SERVICE (R254): Write of 0 to 0x8000:01 takes an engine out of service and moves its contexts. -/
  | engineOutOfService (r : Requester) (e : EngineN)
  /-- ENGINE_RETURN (R257): Write of 1 to 0x8000:01 returns an engine to service, after a built-in check when it failed. -/
  | engineReturn (r : Requester) (e : EngineN)
  /-- BUILT_IN_CHECK_COMPLETE (R257): The engine built-in check ends; the engine returns and contexts move back, or SELF_TEST latches. -/
  | builtInCheckComplete (e : EngineN) (ok : Bool)
  /-- CONTEXT_MOVE_BACK (R257): A context moves back from a failover slot at its next idle point or after 20 µs. -/
  | contextMoveBack (c : CtxN)
  /-- LOAD (R249): Load command verifies a staged tenant step table and copies it into its clusters. -/
  | tableLoad (r : Requester) (owner : BitVec 16)
  /-- UNLOAD (R250): Unload command makes a table absent for new invocations. -/
  | tableUnload (r : Requester) (tb : TableN)
  /-- UNLOAD_TIMEOUT (R250): Invocations of an unloaded table still running after 100 ms end with 0x0B. -/
  | unloadTimeout (tb : TableN)
  /-- STOP_CONTEXT (R244): Stop context command ends a context's invocation with 0x0A. -/
  | stopContext (r : Requester) (e : EngineN) (v : Byte)
  /-- NOP (R263): Step NOP does nothing. -/
  | stepNop (c : CtxN) (f : StepF)
  /-- END (R265): Step END ends the invocation and writes its completion. -/
  | stepEnd (c : CtxN) (f : StepF)
  /-- YIELD (R252): Step YIELD moves the context behind every other ready context of its ring. -/
  | stepYield (c : CtxN) (f : StepF)
  /-- WAIT (R252): Step WAIT consumes the lowest pending event of its mask or enters event wait. -/
  | stepWait (c : CtxN) (f : StepF)
  /-- SIGNAL (R252): Step SIGNAL sets a pending event of a wait group. -/
  | stepSignal (c : CtxN) (f : StepF)
  /-- TIMER (R263): Step TIMER arms or cancels the context's timer. -/
  | stepTimer (c : CtxN) (f : StepF)
  /-- SYSR (R263): Step SYSR reads a system value selected by IMM. -/
  | stepSysr (c : CtxN) (f : StepF)
  /-- RDF (R262): Step RDF copies the flags into a register. -/
  | stepRdf (c : CtxN) (f : StepF)
  /-- WRF (R262): Step WRF writes the flags from an operand. -/
  | stepWrf (c : CtxN) (f : StepF)
  /-- BR (R264): Step BR branches to TARGET when its condition holds. -/
  | stepBr (c : CtxN) (f : StepF)
  /-- LOOP (R264): Step LOOP closes a counted loop. -/
  | stepLoop (c : CtxN) (f : StepF)
  /-- MOV (R261): Step MOV copies an operand into RD. -/
  | stepMov (c : CtxN) (f : StepF)
  /-- CSEL (R263): Step CSEL selects one of two registers by condition. -/
  | stepCsel (c : CtxN) (f : StepF)
  /-- SEXT (R263): Step SEXT sign-extends a register from a size. -/
  | stepSext (c : CtxN) (f : StepF)
  /-- ADD (R267): Step ADD adds with flags. -/
  | stepAdd (c : CtxN) (f : StepF)
  /-- ADC (R267): Step ADC adds with carry. -/
  | stepAdc (c : CtxN) (f : StepF)
  /-- SUB (R267): Step SUB subtracts with borrow flag. -/
  | stepSub (c : CtxN) (f : StepF)
  /-- SBB (R267): Step SBB subtracts with borrow in. -/
  | stepSbb (c : CtxN) (f : StepF)
  /-- NEG (R268): Step NEG negates a register. -/
  | stepNeg (c : CtxN) (f : StepF)
  /-- CMP (R267): Step CMP sets the flags of a subtraction. -/
  | stepCmp (c : CtxN) (f : StepF)
  /-- MUL (R267): Step MUL multiplies, keeping the low word. -/
  | stepMul (c : CtxN) (f : StepF)
  /-- MULHU (R267): Step MULHU gives the high word of an unsigned product. -/
  | stepMulhu (c : CtxN) (f : StepF)
  /-- MULHS (R267): Step MULHS gives the high word of a signed product. -/
  | stepMulhs (c : CtxN) (f : StepF)
  /-- DIVU (R268): Step DIVU divides unsigned, with the division-by-zero rules. -/
  | stepDivu (c : CtxN) (f : StepF)
  /-- DIVS (R268): Step DIVS divides signed, with the edge rules. -/
  | stepDivs (c : CtxN) (f : StepF)
  /-- REMU (R268): Step REMU gives an unsigned remainder. -/
  | stepRemu (c : CtxN) (f : StepF)
  /-- REMS (R268): Step REMS gives a signed remainder. -/
  | stepRems (c : CtxN) (f : StepF)
  /-- MINU (R267): Step MINU takes the unsigned minimum. -/
  | stepMinu (c : CtxN) (f : StepF)
  /-- MAXU (R267): Step MAXU takes the unsigned maximum. -/
  | stepMaxu (c : CtxN) (f : StepF)
  /-- MINS (R267): Step MINS takes the signed minimum. -/
  | stepMins (c : CtxN) (f : StepF)
  /-- MAXS (R267): Step MAXS takes the signed maximum. -/
  | stepMaxs (c : CtxN) (f : StepF)
  /-- AND (R267): Step AND is a bitwise and. -/
  | stepAnd (c : CtxN) (f : StepF)
  /-- OR (R267): Step OR is a bitwise or. -/
  | stepOr (c : CtxN) (f : StepF)
  /-- XOR (R267): Step XOR is a bitwise exclusive or. -/
  | stepXor (c : CtxN) (f : StepF)
  /-- TST (R267): Step TST sets the flags of a bitwise and. -/
  | stepTst (c : CtxN) (f : StepF)
  /-- LSL (R268): Step LSL shifts left. -/
  | stepLsl (c : CtxN) (f : StepF)
  /-- LSR (R268): Step LSR shifts right logically. -/
  | stepLsr (c : CtxN) (f : StepF)
  /-- ASR (R268): Step ASR shifts right arithmetically. -/
  | stepAsr (c : CtxN) (f : StepF)
  /-- ROL (R268): Step ROL rotates left. -/
  | stepRol (c : CtxN) (f : StepF)
  /-- ROR (R268): Step ROR rotates right. -/
  | stepRor (c : CtxN) (f : StepF)
  /-- POPC (R267): Step POPC counts 1 bits. -/
  | stepPopc (c : CtxN) (f : StepF)
  /-- CLZ (R267): Step CLZ counts leading zero bits. -/
  | stepClz (c : CtxN) (f : StepF)
  /-- BSWAP (R267): Step BSWAP reverses byte order. -/
  | stepBswap (c : CtxN) (f : StepF)
  /-- CRC (R267): Step CRC updates a CRC-32C or CRC-64 by register bytes. -/
  | stepCrc (c : CtxN) (f : StepF)
  /-- LCRC (R267): Step LCRC updates a CRC by lines read from memory. -/
  | stepLcrc (c : CtxN) (f : StepF)
  /-- SLD (R246): Step SLD loads from the scratch window. -/
  | stepSld (c : CtxN) (f : StepF)
  /-- SST (R246): Step SST stores into the scratch window. -/
  | stepSst (c : CtxN) (f : StepF)
  /-- LD (R269): Step LD loads from instance or pool memory through translation and the gate. -/
  | stepLd (c : CtxN) (f : StepF)
  /-- ST (R269): Step ST stores into instance or pool memory. -/
  | stepSt (c : CtxN) (f : StepF)
  /-- LCOPY (R271): Step LCOPY copies n lines. -/
  | stepLcopy (c : CtxN) (f : StepF)
  /-- LFILL (R271): Step LFILL fills n lines with a pattern. -/
  | stepLfill (c : CtxN) (f : StepF)
  /-- LCMP (R271): Step LCMP compares n lines. -/
  | stepLcmp (c : CtxN) (f : StepF)
  /-- AADD (R273): Step AADD performs an atomic add at the line's home. -/
  | stepAadd (c : CtxN) (f : StepF)
  /-- ASWP (R273): Step ASWP performs an atomic swap at home. -/
  | stepAswp (c : CtxN) (f : StepF)
  /-- ACAS (R273): Step ACAS performs an atomic compare-and-swap at home. -/
  | stepAcas (c : CtxN) (f : StepF)
  /-- ACAS128 (R273): Step ACAS128 performs a 16-byte compare-and-swap at home. -/
  | stepAcas128 (c : CtxN) (f : StepF)
  /-- XLD (R274): Step XLD reads host memory of the instance's function. -/
  | stepXld (c : CtxN) (f : StepF)
  /-- XST (R274): Step XST writes host memory, posted. -/
  | stepXst (c : CtxN) (f : StepF)
  /-- XCPY (R274): Step XCPY copies lines between host memory and instance memory. -/
  | stepXcpy (c : CtxN) (f : StepF)
  /-- HLD (R273): Step HLD gains the line in M at the home slice and loads it. -/
  | stepHld (c : CtxN) (f : StepF)
  /-- HCMT (R205): Step HCMT writes the atomic's result as its single commit step. -/
  | stepHcmt (c : CtxN) (f : StepF)
  /-- BISNP (R275): System step BISNP sends a BISnp for one tracked line and waits for its answer. -/
  | stepBisnp (c : CtxN) (f : StepF) (p : PortN) (key : LineN)
  /-- DLSWAP (R275): System step DLSWAP swaps an instance's dirty-log bitmaps. -/
  | stepDlswap (c : CtxN) (f : StepF) (i : InstN)
  /-- CNTRD (R275): System step CNTRD reads one counter of a counter unit. -/
  | stepCntrd (c : CtxN) (f : StepF) (u : UnitN) (n : Byte)
  /-- RMAP (R275): System step RMAP takes or releases a cut-over lock and writes a remap entry. -/
  | stepRmap (c : CtxN) (f : StepF) (g : GranN) (take : Bool) (dest : BitVec 36)
  /-- HEAT (R275): System step HEAT reads or writes a heat-table entry. -/
  | stepHeat (c : CtxN) (f : StepF) (g : GranN) (wr : Option (BitVec 64))
  /-- NOTIFY (R286): System step NOTIFY posts a device notice to an instance's manager-to-tenant mailbox. -/
  | stepNotify (c : CtxN) (f : StepF) (i : InstN) (kind : BitVec 16) (params : List Byte)
  /-- UNDEFINED_STEP (R260): An undefined step reached in a vendor table takes fault 0x0E. -/
  | undefinedStep (c : CtxN) (w : BitVec 128)
  /-- CREATE (R279): Create command creates an instance with its resources at their creation values. -/
  | instCreate (r : Requester) (v : List Byte)
  /-- DESTROY (R280): Destroy command unbinds, stops and releases everything of an instance. -/
  | instDestroy (r : Requester) (i : InstN)
  /-- DESTROY_COMPLETE (R280): The extents of a destroyed instance reach t4 of their release and the instance returns to free. -/
  | destroyComplete (i : InstN)
  /-- BIND (R281): Write to 0x5010 presents an instance as an LD or GFD, or rebinds it. -/
  | instBind (r : Requester) (i : InstN) (sub : BindSub) (v : Byte)
  /-- UNBIND (R282): An unbind withdraws the presentation, back-invalidates host copies and uncommits decoders. -/
  | instUnbind (i : InstN)
  /-- HDM_DECODER_COMMIT (R283): The host commits an HDM decoder, refused with Error Not Committed when it breaks the rules. -/
  | hdmDecoderCommit (i : InstN) (d : Fin 8) (rec : List Byte)
  /-- IDENTIFY_MEMORY_DEVICE (R284): Tenant mailbox Identify Memory Device command. -/
  | identifyMemoryDevice (i : InstN)
  /-- GET_SUPPORTED_LOGS (R284): Tenant mailbox Get Supported Logs command. -/
  | getSupportedLogs (i : InstN)
  /-- GET_LOG (R284): Tenant mailbox Get Log (CEL) command. -/
  | getLog (i : InstN) (offset : BitVec 32) (length : BitVec 32)
  /-- GET_EVENT_RECORDS (R284): Tenant mailbox Get Event Records command. -/
  | getEventRecords (i : InstN) (log : Byte)
  /-- CLEAR_EVENT_RECORDS (R284): Tenant mailbox Clear Event Records command. -/
  | clearEventRecords (i : InstN) (log : Byte) (handles : List Nat)
  /-- GET_EVENT_INTERRUPT_POLICY (R284): Tenant mailbox Get Event Interrupt Policy command. -/
  | getEventInterruptPolicy (i : InstN)
  /-- SET_EVENT_INTERRUPT_POLICY (R284): Tenant mailbox Set Event Interrupt Policy command. -/
  | setEventInterruptPolicy (i : InstN) (policy : List Byte)
  /-- GET_HEALTH_INFO (R284): Tenant mailbox Get Health Info command. -/
  | getHealthInfo (i : InstN)
  /-- GET_TIMESTAMP (R284): Tenant mailbox Get Timestamp command. -/
  | getTimestamp (i : InstN)
  /-- GET_POISON_LIST (R284): Tenant mailbox Get Poison List command. -/
  | getPoisonList (i : InstN) (offset : BitVec 64) (length : BitVec 64)
  /-- GET_DYNAMIC_CAPACITY_CONFIGURATION (R284): Tenant mailbox Get Dynamic Capacity Configuration command. -/
  | getDynamicCapacityConfiguration (i : InstN) (first : Byte) (count : Byte)
  /-- GET_DYNAMIC_CAPACITY_EXTENT_LIST (R284): Tenant mailbox Get Dynamic Capacity Extent List command. -/
  | getDynamicCapacityExtentList (i : InstN) (start : BitVec 32) (count : BitVec 32)
  /-- MAILBOX_UNSUPPORTED (R284): A tenant mailbox command not supported, or a vendor command whose bit is clear, is answered Unsupported. -/
  | mailboxUnsupported (i : InstN) (opcode : BitVec 16)
  /-- DICTIONARY_REQUEST (R434): Vendor command 0xC000 carries an ODP message at Tenant privilege. -/
  | dictionaryRequest (i : InstN) (msg : List Byte)
  /-- SUBMIT_INVOCATIONS (R285): Vendor command 0xC001 queues invocation descriptors on a queue. -/
  | submitInvocations (i : InstN) (k : QueueK) (descs : List (List Byte))
  /-- GET_COMPLETIONS (R285): Vendor command 0xC002 returns completions from the queues' rings. -/
  | getCompletions (i : InstN) (mask : BitVec 16) (max : BitVec 16)
  /-- LOAD_STEP_TABLE (R249): Vendor command 0xC003 loads a tenant step table for the instance. -/
  | loadStepTable (i : InstN) (image : List Byte)
  /-- UNLOAD_STEP_TABLE (R250): Vendor command 0xC004 unloads one of the instance's tables. -/
  | unloadStepTable (i : InstN) (tb : BitVec 16)
  /-- GET_NOTICES (R285): Vendor command 0xC005 returns unacknowledged notices. -/
  | getNotices (i : InstN) (max : Byte)
  /-- ACKNOWLEDGE_NOTICES (R285): Vendor command 0xC006 frees notices up to a SEQ. -/
  | acknowledgeNotices (i : InstN) (seq : BitVec 32)
  /-- CONFIRM_FLUSH (R285): Vendor command 0xC007 records that hosts hold no line of a range and tells the manager. -/
  | confirmFlush (i : InstN) (offset : BitVec 64) (length : BitVec 64)
  /-- POST_NOTICE (R286): Post notice command places a manager notice in the instance's ring. -/
  | postNotice (r : Requester) (i : InstN) (v : List Byte)
  /-- START (R290): Start command of the dirty log, pending until the next harvest tick. -/
  | dirtyStart (r : Requester) (i : InstN)
  /-- STOP (R290): Stop command of the dirty log, pending until the next harvest tick. -/
  | dirtyStop (r : Requester) (i : InstN)
  /-- HARVEST (R292): Harvest command of the dirty log, pending until the next harvest tick. -/
  | dirtyHarvest (r : Requester) (i : InstN) (v : List Byte)
  /-- HARVEST_TICK (R290): A boundary of the harvest tick applies pending Start, Harvest and Stop and swaps bitmaps. -/
  | harvestTick
  /-- MARK_FLUSH_COMPLETE (R291): Every mark cache has flushed and the frozen bitmap is complete. -/
  | markFlushComplete (i : InstN)
  /-- BITMAP_CLEAR_COMPLETE (R291): Clearing of the inactive bitmap ends and the swap waits for the next boundary. -/
  | bitmapClearComplete (i : InstN)
  /-- HARVEST_TRANSFER_COMPLETE (R292): The harvest report is written to host memory and the frozen bitmap cleared. -/
  | harvestTransferComplete (i : InstN)
  /-- METER_REFILL (R303): Every 256 core cycles meter buckets refill and held red requests are metered again. -/
  | meterRefill (t : TileN)
  /-- EGRESS_SCHEDULE (R312): An egress scheduler selects the next eligible message by the service order. -/
  | egressSchedule (q : SchedN)
  /-- CLEAR_OVERFLOW (R321): Clear overflow command of a counter unit clears named OVF bits. -/
  | clearOverflow (r : Requester) (u : UnitN) (mask : BitVec 64) (wraps : BitVec 64)
  /-- INSTANCE_CLEAR_OVERFLOW (R325): Clear overflow command of an instance counter set clears bit 63 of each record. -/
  | instanceClearOverflow (r : Requester) (i : InstN)
  /-- CONTROL_RECORD_WRITE (R322): Write of an event control record selects a counter's event and zeroes the counter. -/
  | controlRecordWrite (r : Requester) (u : UnitN) (n : Fin 8) (rec : BitVec 32)
  /-- WINDOW_START (R328): Start command of a bandwidth window begins a window at the next core cycle. -/
  | windowStart (r : Requester) (p : PortN)
  /-- WINDOW_STOP (R328): Stop command closes a running window with PARTIAL set. -/
  | windowStop (r : Requester) (p : PortN)
  /-- WINDOW_END (R327): A window reaches its length; its result is written and pushed into history. -/
  | windowEnd (p : PortN)
  /-- CAUSE_OCCURRENCE (R337): A cause occurs on a fault source; it latches, merges or escalates, and records and interrupts follow. -/
  | causeOccurrence (src : BitVec 16) (cause : CauseN) (sev : Severity) (params : List Nat)
  /-- CLEAR (R340): Clear command clears named sticky causes of a source. -/
  | faultClear (r : Requester) (src : BitVec 16) (mask : BitVec 32) (same : Option CauseOcc)
  /-- CLEAR_ALL (R340): Clear all command clears every sticky cause of every source. -/
  | faultClearAll (r : Requester)
  /-- LEVEL_UNLATCH (R336): A level cause's condition ends and it unlatches with record 0x1200 + cause. -/
  | levelUnlatch (src : BitVec 16) (cause : CauseN)
  /-- RESCAN (R344): After a Headland restart, firmware scans every source and records unrecorded causes. -/
  | faultRescan
  /-- RECORD_COMMIT (R351): A staged Strandline record is committed to NOR, replacing one when the store is full. -/
  | recordCommit
  /-- STORE_FAILURE (R354): The Strandline store fails verification or does not answer; commits stop and LOG_STORE latches. -/
  | storeFailure
  /-- RETRY_STORE (R354): Retry store command probes the store and commits the ring when it answers. -/
  | retryStore (r : Requester) (answers : Bool)
  /-- ERASE (R436): Erase command erases every earlier record and commits record 0x0005 first. -/
  | strandErase (r : Requester)
  /-- SECONDS_SAVE (R350): Every 60 s Headland firmware saves operating seconds to NOR. -/
  | secondsSave
  /-- DOMAIN_TARGET (R358): Write to 0x9000:01 asks a power domain to enter RET or OFF, wake, or run AUTO. -/
  | domainTarget (r : Requester) (d : DomainN) (v : Byte)
  /-- BLOCK_ANSWER (R360): A block answers ACK, DELAY or REFUSE to an entry request. -/
  | blockAnswer (d : DomainN) (b : BlockId) (a : BlockAns)
  /-- DELAY_TIMEOUT (R360): A block that delayed has not answered within its maximum delay and is taken to refuse. -/
  | delayTimeout (d : DomainN) (b : BlockId)
  /-- DOMAIN_ENTRY_COMPLETE (R360): Every block acknowledged; the domain is isolated, retained state saved and power dropped. -/
  | domainEntryComplete (d : DomainN)
  /-- BANK_EMPTY (R198): A fabric-cache bank finishes emptying before it rests. -/
  | bankEmpty (t : TileN) (b : Fin 4)
  /-- WAKE_SOURCE (R366): A wake source of Table 17-5 wakes a resting domain. -/
  | wakeSource (d : DomainN) (src : WakeSrc)
  /-- IDLE_TIME (R367): The idle time passes with the wake condition absent; the domain enters RET by itself. -/
  | idleTime (d : DomainN)
  /-- PLL_LOCK (R370): The domain's PLLs lock; firmware switches clocks, writes running values back and the domain reads ON. -/
  | pllLock (d : DomainN)
  /-- PLL_LOCK_TIMEOUT (R370): A PLL not locked within 50 µs raises a Fault and is retried once. -/
  | pllLockTimeout (d : DomainN)
  /-- FORCE_OFF (R372): Force off command takes a tile to OFF without the handshake. -/
  | forceOff (r : Requester) (d : DomainN)
  /-- DROOP_CROSSING (R373): A droop detector falls below level A or B and the core clock is stretched. -/
  | droopCrossing (t : TileN) (det : Fin 64) (lvl : DroopLevel)
  /-- STRETCH_RELEASE (R373): Every detector stays above level A for 1 µs and the clock returns to full rate. -/
  | stretchRelease (t : TileN) (cycles : Nat) (ns : Nat)
  /-- STRETCH_TIMEOUT (R373): A stretch lasts beyond 50 µs and POWER latches at Fault. -/
  | stretchTimeout (t : TileN)
  /-- THERMAL_THRESHOLD (R375): A tile reaches 100 °C or 105 °C and its clock is held at 3/4 or 1/2. -/
  | thermalThreshold (t : TileN) (lvl : ThermLevel)
  /-- THERMAL_HOLD_END (R375): A tile stays below 97 °C for 10 ms and its throttle hold ends. -/
  | thermalHoldEnd (t : TileN)
  /-- THERMAL_TRIP (R375): A tile reaches 115 °C and every tile is forced OFF. -/
  | thermalTrip (t : TileN)
  /-- AVS_ACK (R376): A tile regulator acknowledges an AVSBus step and the next may be written. -/
  | avsAck (rail : TileN)
  /-- AVS_TIMEOUT (R376): A regulator does not acknowledge within 1 ms; POWER latches and the clock is held at 3/4. -/
  | avsTimeout (rail : TileN)
  /-- PHASE_LOST (R377): A regulator reports a lost phase; 10 mV is added and POWER latches. -/
  | phaseLost (rail : TileN) (n : Byte)
  /-- PWROK_T_FALL (R371): PWROK_T[t] falls while a tile domain is not OFF; the tile is lost. -/
  | pwrokTFall (t : TileN)
  /-- RAIL_MONITOR (R424): A monitored rail falls below its threshold for 1 µs and the tile acts as on PWROK_T falling. -/
  | railMonitor (rail : RailSel)
  /-- SLOT_TARGET (R382): Write to 0xA000:01 turns a slot on or off. -/
  | slotTarget (r : Requester) (n : SlotN) (v : Byte)
  /-- SLOT_EN_RISE (R388): SLOT_EN rises and the slot may start, or a toggle leaves TRIPPED. -/
  | slotEnRise (n : SlotN) (lowFor10ms : Bool)
  /-- SLOT_EN_FALL (R393): SLOT_EN falls and the FET turns off within 10 µs without lead. -/
  | slotEnFall (n : SlotN)
  /-- STAGGER (R384): A slot's stagger slot is reached and it starts ramping. -/
  | slotStagger (n : SlotN)
  /-- POWER_GOOD (R383): VOUT reaches power good; the gate is fully enhanced and the slot reads ON. -/
  | powerGood (n : SlotN) (energy : BitVec 32)
  /-- START_TIMEOUT (R383): Power good is not reached in time and the slot trips with kind 4. -/
  | startTimeout (n : SlotN)
  /-- BREAKER_TRIP (R385): The breaker accumulator reaches the breaker time and the slot trips. -/
  | breakerTrip (n : SlotN)
  /-- FAST_TRIP (R386): A sense voltage of twice the limit turns the FET off within 1 µs. -/
  | fastTrip (n : SlotN) (ch : Chan)
  /-- FET_TEMPERATURE_TRIP (R387): The FET temperature reaches the trip temperature and the slot trips with kind 5. -/
  | fetTemperatureTrip (n : SlotN)
  /-- MODEL_UPDATE (R387): Every 10 µs the FET thermal model is updated, and diode measurements every 1 ms. -/
  | modelUpdate (n : SlotN) (m : Meas)
  /-- CHANNEL_CHECK (R381): Every 10 ms each channel checks its injected reference and may fail. -/
  | channelCheck (n : SlotN) (aGood : Bool) (bGood : Bool)
  /-- CHANNEL_DISAGREEMENT (R381): The two channels disagree beyond tolerance for 1 ms; the higher reading is used. -/
  | channelDisagreement (n : SlotN) (a : BitVec 32) (b : BitVec 32)
  /-- PWRWARN (R389): VIN below the warning threshold or input loss drives PWRWARN_N low in ON. -/
  | slotPwrwarn (n : SlotN) (vin : BitVec 16)
  /-- PWRWARN_RECOVERY (R389): VIN stays above warning plus 300 mV for 10 ms and PWRWARN_N goes high. -/
  | pwrwarnRecovery (n : SlotN)
  /-- INPUT_LOSS (R390): Input loss, undervoltage or overvoltage turns the FET off and the slot stops. -/
  | inputLoss (n : SlotN) (k : LossKind)
  /-- WARNING_LEAD_END (R393): The warning lead ends and the FET turns off. -/
  | warningLeadEnd (n : SlotN)
  /-- STOP_COMPLETE (R392): VOUT falls below 1 V or the discharge limit ends and the slot reads OFF. -/
  | stopComplete (n : SlotN)
  /-- OFF_TIME_END (R388): The off time passes after a stop and the start conditions are re-evaluated. -/
  | offTimeEnd (n : SlotN)
  /-- POWER_ON (R400): PWROK_AON rises; the ROM chooses the firmware and start-up runs. -/
  | powerOn (b : PowerUp)
  /-- PWROK_AON_FALL (R424): PWROK_AON falls; every tile is forced OFF and every slot gate pulled low. -/
  | pwrokAonFall
  /-- PERST_N (R402): PERST_N of a group asserts and resets that port group alone. -/
  | perstN (g : GroupN)
  /-- BOOT_COMPLETE (R401): Images are verified and the mode is entered; record 0x0001 is written. -/
  | bootComplete
  /-- BEGIN (R403): Begin command erases the download slot for an image of the given length. -/
  | fwBegin (r : Requester) (len : BitVec 32)
  /-- DOWNLOAD (R403): A chunk written to Download is programmed and read back. -/
  | fwDownload (r : Requester) (start : BitVec 32) (data : List Byte) (readBackOk : Bool)
  /-- VERIFY (R404): Verify command checks the downloaded slot and marks it verified. -/
  | fwVerify (r : Requester)
  /-- ACTIVATE_FIRMWARE (R405): Activate command starts a trial of the verified firmware and hands over to it. -/
  | activateFirmware (r : Requester)
  /-- APPLY_MICROCODE (R406): Apply microcode command reloads each tile's microcode in SERVICE. -/
  | applyMicrocode (r : Requester)
  /-- CONFIRM (R407): Confirm command makes the trial active and raises the security counter. -/
  | fwConfirm (r : Requester)
  /-- REVERT (R407): Revert command closes a trial and hands over to the active image. -/
  | fwRevert (r : Requester)
  /-- SET_CREDENTIAL (R410): Set credential command sets the ODP credential of a privilege. -/
  | setCredential (r : Requester) (v : List Byte)
  /-- ENROLL_KEY (R409): Enroll key command enrols a configuration signing key. -/
  | enrollKey (r : Requester) (v : List Byte)
  /-- REVOKE_KEY (R409): Revoke key command revokes a configuration signing key. -/
  | revokeKey (r : Requester) (v : List Byte)
  /-- RAISE_FLOOR (R410): Raise floor command raises the configuration rollback floor. -/
  | raiseFloor (r : Requester)
  /-- REVOKE_ROOT_KEY (R408): Vendor revoke of a root key slot, refused when none would remain. -/
  | revokeRootKey (r : Requester) (n : Fin 4)
  /-- GET_VERSION (R411): SPDM GET_VERSION request to the responder. -/
  | getVersion (p : PortN)
  /-- GET_CAPABILITIES (R411): SPDM GET_CAPABILITIES request. -/
  | getCapabilities (p : PortN)
  /-- NEGOTIATE_ALGORITHMS (R411): SPDM NEGOTIATE_ALGORITHMS request. -/
  | negotiateAlgorithms (p : PortN) (req : List Byte)
  /-- GET_DIGESTS (R411): SPDM GET_DIGESTS request. -/
  | getDigests (p : PortN)
  /-- GET_CERTIFICATE (R411): SPDM GET_CERTIFICATE request. -/
  | getCertificate (p : PortN) (slot : Byte) (offset : BitVec 16) (length : BitVec 16)
  /-- CHALLENGE (R411): SPDM CHALLENGE request. -/
  | spdmChallenge (p : PortN) (slot : Byte) (nonce : List Byte)
  /-- GET_MEASUREMENTS (R411): SPDM GET_MEASUREMENTS request returning the measurement blocks. -/
  | getMeasurements (p : PortN) (op : Byte) (nonce : List Byte)
  /-- KEY_EXCHANGE (R411): SPDM KEY_EXCHANGE request opening a secured session. -/
  | keyExchange (p : PortN) (req : List Byte)
  /-- FINISH (R411): SPDM FINISH request. -/
  | spdmFinish (p : PortN) (sid : Fin 2) (mac : List Byte)
  /-- END_SESSION (R411): SPDM END_SESSION request. -/
  | endSession (p : PortN) (sid : Fin 2)
  /-- KEY_PROG (R412): IDE_KM KEY_PROG programs stream keys inside a secured session. -/
  | keyProg (p : PortN) (sid : Fin 2) (stream : Byte) (keySet : Bool) (key : List Byte)
  /-- K_SET_GO (R412): IDE_KM K_SET_GO switches a stream to a key set. -/
  | kSetGo (p : PortN) (sid : Fin 2) (stream : Byte) (keySet : Bool)
  /-- IDE_REFRESH (R412): The IDE refresh interval expires and DSP stream keys are refreshed. -/
  | ideRefresh (p : PortN)
  /-- IDE_INTEGRITY_FAILURE (R412): An IDE integrity failure takes the stream insecure and the link down and SECURITY latches. -/
  | ideIntegrityFailure (p : PortN) (stream : Byte)
  /-- ATTEST_NOW (R413): Attest now command challenges a DSP partner. -/
  | attestNow (r : Requester) (p : PortN)
  /-- SRAM_BIST (R414): Test KIND 1 runs SRAM BIST of a resting domain. -/
  | sramBist (r : Requester) (v : List Byte)
  /-- HBM_BIST (R414): Test KIND 2 runs HBM BIST of free blocks. -/
  | hbmBist (r : Requester) (v : List Byte)
  /-- RECEIVER_CALIBRATION (R414): Test KIND 3 recalibrates a lane receiver. -/
  | receiverCalibration (r : Requester) (v : List Byte)
  /-- LOGIC_BIST (R414): Test KIND 4 runs logic BIST of a tile in SERVICE. -/
  | logicBist (r : Requester) (v : List Byte)
  /-- PATROL_SCRUB_PASS (R414): Test KIND 5 runs a patrol scrub pass of a stack alongside traffic. -/
  | patrolScrubPass (r : Requester) (v : List Byte)
  /-- TEST_COMPLETE (R415): A self-test ends, passing or failing with 0xE1 and SELF_TEST latched. -/
  | testComplete (units : Nat) (errors : Nat) (addr : Nat)
  /-- DIAGNOSTIC_READ (R172): Diagnostic Read command reads pool memory by DPA under the default map. -/
  | diagnosticRead (r : Requester) (v : List Byte)
  /-- DIAGNOSTIC_WRITE (R172): Diagnostic Write command writes pool memory by DPA under the default map. -/
  | diagnosticWrite (r : Requester) (v : List Byte)
  /-- PWROK_T_RISE (R371): PWROK_T[t] rises and tile t's core may leave OFF, starting its wake as in Table 17-7. -/
  | pwrokTRise (t : TileN)
  /-- L1_ENTRY (R67): A port's link enters L1 and its lane directions go to DOZE. -/
  | l1Entry (p : PortN)
  /-- L1_EXIT (R67): A link in L1 on a group that is ON exits to L0 and its lanes return to ACTIVE. -/
  | l1Exit (p : PortN)
  /-- RECOVERY_ENTRY (R72): The partner leads the link into Recovery, and a pending substitution joins it by the RETRAIN path. -/
  | recoveryEntry (p : PortN)
  /-- HEADLAND_WARM_RESET (R344): The Headland die alone restarts, for example on a watchdog, ending sessions and then rescanning fault sources. -/
  | headlandWarmReset
  /-- PARTNER_DVSEC_WRITE (R195): The partner writes a control register of a Melewell DVSEC (ISC_SELECT, LL_REINIT_EN or SPARE_EN), which selects the coherence version or enables the feature. -/
  | partnerDvsecWrite (p : PortN) (w : DvsecWrite)
  /-- ACTION_COMPLETE (R25): A running CMD action such as Commit delta, Begin, Verify, Confirm, Swap back or Repair ends, and its status word reads completed or failed. -/
  | actionComplete (a : ActionId) (err : Byte)
  /-- TIDELINK_TRAINED (R117): A Tidelink finishes training and returns to full, spared or narrowed service. -/
  | tidelinkTrained (l : LinkN) (up : Byte) (down : Byte)
  /-- VDD_HLD_IN_RANGE (R424): VDD_HLD comes into range after PWROK_AON, releasing Headland from reset so that R43 is timed from then. -/
  | vddHldInRange
  /-- PHASE_RESTORED (R377): A tile regulator's lost-phase status clears, so the 10 mV margin can be removed once the cause is cleared. -/
  | phaseRestored (rail : TileN)
  /-- CYCLE_COUNT_TRIM (R319): Headland firmware trims the core-cycle counts of T1 to T3 against T0 over the Tidelinks, updating 0x9101:05. -/
  | cycleCountTrim (t : TileN)
  /-- PLL_LOCK_LOSS (R371): A running PLL loses lock, or its reference clock disappears, and the loss is counted at 0x9101:04. -/
  | pllLockLoss (t : TileN) (pll : Fin 11)
  deriving DecidableEq, Repr

end Sys2Proof
end

