-- ==== Sys2Proof/Decode.lean ====
section
/-!
DEFINITION. The words of the operation table: no row of it gives bits, since the commands of the block are protocol messages, register
writes, pins and events, which carry their operands in forms of their own.
-/
namespace Sys2Proof

/-- The command that a word of the operation table spells: the table gives no row any bits. (Log 6: DESIGN CHOICE.) -/
def decodeTableWord (_nbits _w : Nat) : Option Instr := none

end Sys2Proof
end

