-- ==== Sys2Proof/Machine/Bits.lean ====
section
/-!
DEFINITION. Bit fields, byte orders and two's complement: the helpers every record layout of the manual uses.
-/
namespace Sys2Proof.Machine

open Sys2Proof

/-- The `n` bytes of a number, most significant first (network byte order, R23). -/
def be : Nat → Nat → List Byte
  | 0, _ => []
  | n + 1, v => BitVec.ofNat 8 (v / 256 ^ n) :: be n v

/-- The number that bytes spell, most significant first. -/
def ofBe (l : List Byte) : Nat := l.foldl (fun a b => a * 256 + b.toNat) 0

/-- The `n` bytes of a number, least significant first. -/
def le (n v : Nat) : List Byte := (be n v).reverse

/-- The number that bytes spell, least significant first. -/
def ofLe (l : List Byte) : Nat := ofBe l.reverse

/-- `n` bytes of a list from an offset. -/
def slice {α : Type} (l : List α) (off n : Nat) : List α := (l.drop off).take n

/-- The number in `n` bytes of a record from an offset, network byte order. -/
def fieldBe (l : List Byte) (off n : Nat) : Nat := ofBe (slice l off n)

/-- The number in `n` bytes of a record from an offset, least significant byte first. -/
def fieldLe (l : List Byte) (off n : Nat) : Nat := ofLe (slice l off n)

/-- Zero bytes. -/
def zeros (n : Nat) : List Byte := List.replicate n 0

/-- A list cut or padded with zero bytes to a length. -/
def padTo (l : List Byte) (n : Nat) : List Byte := l.take n ++ zeros (n - l.length)

/-- Bit `i` of a number. -/
def bit (v i : Nat) : Bool := v.testBit i

/-- Bits `hi` to `lo` of a number. -/
def bits (v hi lo : Nat) : Nat := (v >>> lo) % 2 ^ (hi + 1 - lo)

/-- A number with bit `i` set or cleared. -/
def setBit (v i : Nat) (b : Bool) : Nat := if b then v ||| 2 ^ i else if v.testBit i then v - 2 ^ i else v

/-- A number without the bits of a mask. -/
def clearMask (v m : Nat) : Nat := v - (v &&& m)

/-- One or zero. -/
def b2n (b : Bool) : Nat := if b then 1 else 0

/-- The signed value of a two's complement number of `w` bits. -/
def toSigned (w v : Nat) : Int := if v % 2 ^ w < 2 ^ (w - 1) then ((v % 2 ^ w : Nat) : Int) else ((v % 2 ^ w : Nat) : Int) - 2 ^ w

/-- The two's complement number of `w` bits of a signed value. -/
def ofSigned (w : Nat) (i : Int) : Nat := (i % (2 ^ w : Int)).toNat

/-- How many bits of a number below bit `n` are set. -/
def popBelow : Nat → Nat → Nat
  | 0, _ => 0
  | n + 1, v => popBelow n v + b2n (v.testBit n)

/-- Rounding up division. -/
def ceilDiv (a b : Nat) : Nat := if b = 0 then 0 else (a + b - 1) / b

/-- The bytes of a 16-byte-aligned item value: padded with zeros to a multiple of four. -/
def pad4 (l : List Byte) : List Byte := l ++ zeros ((4 - l.length % 4) % 4)

/-- The whole records of `n` bytes that a chunk holds, each as its big-endian number (R38). -/
def recordsOf (n : Nat) (l : List Byte) : List Nat := (List.range (l.length / n)).map fun i => fieldBe l (n * i) n

end Sys2Proof.Machine
end

