-- ==== Sys2Proof/Machine/Map.lean ====
section
/-!
DEFINITION. Sparse data by key: a list of key and value pairs kept in the order of its keys, with one read and one
write operation.
-/
namespace Sys2Proof.Machine

/-- Sparse data by key. -/
abbrev SMap (α : Type) := List (Nat × α)

/-- The value at a key, or the default when the map lists none. -/
def look {α : Type} (d : α) : SMap α → Nat → α
  | [], _ => d
  | (k', v) :: t, k => if k = k' then v else look d t k

/-- Whether the map lists a key. -/
def has {α : Type} : SMap α → Nat → Bool
  | [], _ => false
  | (k', _) :: t, k => if k = k' then true else has t k

/-- The map with a value at a key, in its place in the order of keys. -/
def put {α : Type} : SMap α → Nat → α → SMap α
  | [], k, v => [(k, v)]
  | (k', v') :: t, k, v =>
    if k < k' then (k, v) :: (k', v') :: t
    else if k = k' then (k, v) :: t
    else (k', v') :: put t k v

/-- The map without a key. -/
def del {α : Type} (m : SMap α) (k : Nat) : SMap α := m.filter fun e => e.1 != k

/-- The map without the keys a test names. -/
def delIf {α : Type} (m : SMap α) (p : Nat → α → Bool) : SMap α := m.filter fun e => !p e.1 e.2

/-- Every value replaced by a function of its key and itself. -/
def mapVals {α β : Type} (m : SMap α) (f : Nat → α → β) : SMap β := m.map fun e => (e.1, f e.1 e.2)

/-- A list with one element replaced, unchanged when it has no such place. -/
def setAt {α : Type} (l : List α) (i : Nat) (v : α) : List α := l.set i v

/-- A list's element, or a default. -/
def nth {α : Type} (d : α) (l : List α) (i : Nat) : α := l.getD i d

end Sys2Proof.Machine
end

