-- ==== Sys2Proof/Machine/State.lean ====
section
/-!
DEFINITION. The state of the TLS6400 as plain data: its dictionary objects, and for every unit of the manual the
registers, buffers, counters and modes that are no dictionary object; the queue of waiting commands; reset.
-/
namespace Sys2Proof.Machine

open Sys2Proof

/-- Why the machine stops with a fault. No meaning of this model raises one: the manual names no condition that stops
the block. Safe. -/
inductive Fault where
  /-- Never raised; it names what a stopped block would be. Safe. -/
  | stopped
  deriving DecidableEq, Repr

/-- Why a command has no meaning. -/
inductive Refusal where
  /-- Raised by the dispatch for a command that is not modelled. Safe: no effect is claimed. -/
  | notModelled (mnemonic : String)
  deriving DecidableEq, Repr

/-- The status codes of Table 2-11. -/
inductive Status where
  | ok | absent | denied | type | range | readOnly | writeOnly | notQuiesced | busy | conflict | tooLarge | version
  | session | stale | ignored | limit
  deriving DecidableEq, Repr

/-! Management transports (chapter 2). -/

/-- One ODP session (R36, R37). -/
structure Session where
  id : Nat
  transport : Transport
  /-- The privilege asked for at OPEN. -/
  level : Requester
  version : Nat
  /-- The 48-byte session key. -/
  key : List Byte
  /-- A correctly tagged message has proved the privilege. -/
  proved : Bool
  /-- H, the highest sequence number executed. -/
  high : Nat
  /-- The replies to the last 32 executed sequence numbers, newest first. -/
  replies : List (Nat × OdpMsg)
  /-- The lowest Strandline severity sent as notices; none without a subscription. -/
  sub : Option Nat
  /-- The operating second of the last valid message. -/
  lastValid : Nat
  deriving DecidableEq, Repr

/-- The management transports: sessions, the dictionary window and the MCTP endpoint. -/
structure Mgmt where
  /-- Headland firmware is running and the dictionary answers (R43). -/
  ready : Bool
  /-- Open sessions, newest first. -/
  sessions : List Session
  /-- ODW_CTRL: MSIX_VEC, IRQ_EN, ENABLE (Table 2-16). -/
  odwVec : Nat
  odwIrqEn : Bool
  odwEnable : Bool
  /-- ODW_STATUS: LAST_STATUS, OVERRUN, DONE, BUSY (Table 2-17). -/
  odwLast : Nat
  odwOverrun : Bool
  odwDone : Bool
  odwBusy : Bool
  /-- ODW_REQLEN.LEN and ODW_RSPLEN.LEN (Table 2-18). -/
  odwReqLen : Nat
  odwRspLen : Nat
  /-- The request and response buffers, 4 KiB each. -/
  odwReq : List Byte
  odwRsp : List Byte
  /-- The status and bytes of the reply to the request in the window, until its processing ends. -/
  odwReply : Option (Nat × List Byte)
  /-- Stateful objects whose skew has latched STATE_SKEW (R30), by object key. -/
  skewed : SMap Bool
  deriving DecidableEq, Repr

/-! Operating modes and configuration images (chapter 3). -/

/-- The operation of a patch record (Table 3-11). -/
inductive PatchOp where
  | set | chunk | dflt
  deriving DecidableEq, Repr

/-- One patch record of an image section (Table 3-11). -/
structure Patch where
  op : PatchOp
  idx : Nat
  sub : Nat
  q : Nat
  ty : Nat
  value : List Byte
  deriving DecidableEq, Repr

/-- A configuration image that passed its checks: what the device uses of it (Tables 3-9 and 3-10). -/
structure Image where
  serial : Nat
  defaultMode : Nat
  base : List Patch
  /-- The overlays present, by mode number. -/
  overlays : SMap (List Patch)
  deriving DecidableEq, Repr

/-- A configuration slot of NOR as it is stored: the image's bytes and the delta area's (Tables 3-9 and 3-19); both are
checked at every load. -/
structure CfgSlot where
  image : List Byte
  delta : List Byte
  deriving DecidableEq, Repr

/-- What a request on memory asks. -/
inductive ReqKind where
  | rd (ask : Ask)
  | rdData
  | inv (ask : Ask)
  | wr
  | clnEvct
  | specRd
  | atomic (k : AtomKind) (size : AtomSize) (a b : Nat)
  /-- A memory step of a context. -/
  | step (c : Nat)
  deriving DecidableEq, Repr

/-- What a host's message asks: its kind, tag, traffic class, counted length (Table 14-1), buffer class, opcode and data. -/
structure Ask1 where
  kind : ReqKind
  tag : Nat
  tc : Nat
  len : Nat
  cls : Nat
  opcode : Nat
  data : List Byte
  be : Nat
  keepS : Bool
  deriving DecidableEq, Repr

/-- A request that a mode transition holds at its queue (R49, R50). -/
inductive HeldReq where
  | mem (p hpa : Nat) (m : Ask1)
  | io (p : Nat) (x : IoReq)
  | pbr (p pid : Nat) (x : PbrReq)
  | cache (p dst cacheId : Nat) (d2h : Bool) (tag bytes : Nat)
  deriving DecidableEq, Repr

/-- Mode transitions, configuration slots, staging and the compatibility window. -/
structure ModeSt where
  /-- The mode that a running transition enters, and its touched set (object keys, R49). -/
  target : Nat
  touched : List Nat
  /-- Ports whose role a transition changed and whose link it waits for (R50). -/
  waitPorts : List Nat
  /-- Credits are withheld at every USP: the drain into SERVICE has begun, or the mode is SERVICE (Table 3-6). -/
  creditsHeld : Bool
  /-- Requests to touched units that a running transition holds, oldest first (R50). -/
  held : List HeldReq
  /-- CFG0, CFG1 and golden. -/
  cfg0 : CfgSlot
  cfg1 : CfgSlot
  golden : CfgSlot
  /-- The staging area of 0x1211:01. -/
  staging : List Byte
  /-- An Install that runs writes this image into its slot when it completes. -/
  installing : Option (List Byte)
  /-- The image and the delta records that the running configuration was built from. -/
  running : Option Image
  runningDelta : List Patch
  /-- A reset ignores BOOTSEL's RECOVERY selection once (0x1201:01 value 2). -/
  ignoreBootsel : Bool
  /-- COMPAT_STATUS: LAST_ADDR, LAST_CODE, REFUSED (Table 3-18). -/
  compatAddr : Nat
  compatCode : Nat
  compatRefused : Bool
  deriving DecidableEq, Repr

/-! Lanes and port groups (chapter 4). -/

/-- A lane's test machinery beyond its objects (R78 to R80). -/
structure LaneSt where
  /-- The checker is in sync. -/
  inSync : Bool
  /-- The far-end loopback answers a partner that leads the Loopback state. -/
  farEnd : Bool
  /-- Bits still to be inverted by an injection. -/
  inject : Nat
  /-- The rates, by code, for which lane SRAM holds equalisation results (R63). -/
  eq : List Nat
  deriving DecidableEq, Repr

/-- A port group's spare beyond its objects (R70). -/
structure GroupSt where
  /-- The ports whose PRBS31 exchange on the spare runs (R70). -/
  exchange : List Nat
  /-- The ports for whose links the idle spare carries the keep-alive. -/
  keepalive : List Nat
  deriving DecidableEq, Repr

/-! CXL link and protocol (chapter 5). -/

/-- The kinds of transaction that can wait for a response or stand in a queue (Table 5-6). -/
inductive TxnKind where
  | memRd | memSpecRd | memWr | memInv | memClnEvct | biSnp | ioNonPosted | ioConfig | ioPosted | ioCompletion
  | d2hReq | h2dSnp
  deriving DecidableEq, Repr

/-- A Tadpole sample under way (Table 15-9): the ingress count, the core cycles of the later stages (none: not visited). -/
structure Sample where
  tile : Nat
  ingress : Nat
  stamps : SMap Nat
  port : Nat
  egress : Nat
  inst : Nat
  cls : Nat
  opcode : Nat
  target : Nat
  flags : Nat
  key : Nat
  queue : Nat
  devLoad : Nat
  source : Nat
  deriving DecidableEq, Repr

/-- A transaction between ports that is not finished: where it came from, where it goes, whether it has been sent. -/
structure Txn where
  kind : TxnKind
  src : Nat
  dst : Nat
  tag : Nat
  sent : Bool
  /-- A read whose response has an NDR beside its DRS. -/
  ndr : Bool := false
  /-- The sample record of a tagged request (R330). -/
  sample : Option Sample := none
  deriving DecidableEq, Repr

/-- One audited credit pool of a port (Table 5-4): the record of 0x2210:08. -/
structure CreditPool where
  initial : Nat
  usable : Nat
  leaked : Nat
  overReturned : Nat
  /-- Leaked credits counted in the present shortfall (R90), and whether a leak was found since link-up. -/
  shortfall : Nat
  noticed : Bool
  /-- The pool is at a quiet point (R89). -/
  quiet : Bool
  deriving DecidableEq, Repr

/-- A port's link state that is no dictionary object. -/
structure PortSt where
  /-- The partner is present (in-band presence detect). -/
  presence : Bool
  pools : List CreditPool
  /-- The credits that this side granted at the last flow-control initialisation, by class (R109). -/
  granted : List Nat
  /-- New transactions are held for an audit (R89) or for a credit retrain (R91): 0 no retrain, 1 draining, 2 in
  Recovery. -/
  auditHold : Bool
  retrain : Nat
  /-- The core cycles at which the credit retrains since link-up started, newest first (R92). -/
  retrainTimes : List Nat
  /-- Tags whose late response is to be discarded (R91, R93, R95). -/
  lateTags : List Nat
  /-- Lines (key DPA / 64) of which a late BIRsp is to be discarded (R91). -/
  lateSnoops : List Nat
  /-- LL_REINIT of this side's control register, set by the partner (Table 5-3), and ISC_SELECT. -/
  llReinitEn : Bool
  iscSelect : Nat
  /-- The partner's control register as this port has written it (Table 5-3). -/
  partnerCtrl : Nat
  /-- The uncorrectable-error log of the port's CXL RAS capability: writes lost at a link-down (Table 5-6). -/
  rasErrors : Nat
  /-- The link is down and the pool target behind it is kept, waiting for its return (R435). -/
  targetKept : Bool
  /-- The partner of the last link-up reported a memory device. -/
  hasMem : Bool
  /-- This side of an inter-switch link has the lower PID (R100, R195). -/
  lowerPid : Bool
  /-- The decision window (R72): whether it is open, and the physical lanes that lost lock in it. -/
  window : Bool
  lost : List Nat
  /-- A substitution under way (R72 to R75): 0 none, 1 sparing request sent, 2 acknowledged, 3 narrowing by L0p, 4
  widening, 5 in Recovery; the lane the spare takes, and the lanes that are excluded. -/
  subPhase : Nat
  subLane : Option Nat
  excluded : List Nat
  /-- The substitution under way is a Swap back: the lane it names returns (R81). -/
  swap : Bool
  /-- Lane reversal is in force (R64). -/
  reversed : Bool
  /-- The width settled at training, and the L0p width of each direction; whether L0p was negotiated and whether the
  partner runs its directions at different widths. -/
  fullWidth : Nat
  widthTx : Nat
  widthRx : Nat
  l0p : Bool
  asymmetric : Bool
  /-- The partner's lane-sparing capability register (Table 4-5), SPARE_EN of this side's control register, and SPARE_EN as this side has set
  it in the partner's. -/
  spareCap : Nat
  spareEn : Bool
  partnerSpareEn : Bool
  deriving DecidableEq, Repr

/-- One of the TLS6400's own functions on a USP: the manager's function, or the function of an LD (R94). -/
structure FnSt where
  /-- Bus Master Enable; the egress block is in force while it is clear. -/
  bme : Bool
  /-- A function-level reset runs (R96). -/
  flr : Bool
  /-- The contexts whose upstream reads wait, with their tags. -/
  reads : List (Nat × Nat)
  /-- Tags held until their completion arrives or times out (R95). -/
  heldTags : List Nat
  /-- MSI-X vectors pending behind the block. -/
  msix : List Nat
  /-- Uncorrectable errors logged in the CXL RAS capability of the function's LD (Table 8-6). -/
  ras : Nat
  deriving DecidableEq, Repr

/-- A response that leaves a port (Table 5-6 names the synthetic ones). -/
inductive Response where
  /-- S2M DRS: the line's bytes, poison, and the meta value returned. -/
  | drs (data : List Byte) (poison : Bool) (devLoad : Nat)
  /-- S2M NDR: Cmp, Cmp-S, Cmp-E, Cmp-M as 0 to 3. -/
  | ndr (kind devLoad : Nat)
  /-- CXL.io completion with a status: 0 success, 1 Unsupported Request, 2 Completer Abort, 3 retry. -/
  | io (status : Nat) (data : List Byte)
  /-- H2D GO-Err with poisoned data; D2H RspIHitI; BIRsp-I. -/
  | goErr
  | rspIHitI
  | biRspI
  deriving DecidableEq, Repr


/-- A virtual bridge's windows as the host wrote them (R101): its memory window and its bus numbers. -/
structure Bridge where
  base : Nat
  limit : Nat
  busLo : Nat
  busHi : Nat
  deriving DecidableEq, Repr
/-! The switch core and Tidelinks (chapter 6). -/

/-- A message that the switch carries between ports (R104). -/
structure Msg where
  kind : TxnKind
  src : Nat
  dst : Nat
  tag : Nat
  /-- Header plus data bytes, and the buffer class. -/
  len : Nat
  cls : Nat
  /-- Bytes carried to the egress. -/
  data : List Byte
  /-- The flow's key, packed (Table 6-5). -/
  key : Nat
  /-- Counted under a CXL.io traffic class (R311). -/
  tc : Nat
  /-- The sample record of a tagged request that waits for no response, or of one that this message answers (R330). -/
  sample : Option Sample := none
  deriving DecidableEq, Repr

/-! The memory pool (chapter 7). -/

/-- An extent record (Table 7-1), with what its release is doing. -/
structure Extent where
  /-- STATE: 0 free, 1 offered, 2 active, 3 releasing, 4 lost. -/
  st : Nat
  shared : Bool
  bcode : Nat
  target : Nat
  inst : Nat
  shareSet : Nat
  region : Nat
  gen : Nat
  first : Nat
  blocks : Nat
  /-- OFFSET in bytes. -/
  offset : Nat
  /-- The record is in the extent index as the tiles see it (R139, R142). -/
  indexed : Bool
  /-- A release: 0 none, 1 the tiles have not acknowledged (t0 to t1), 2 requests drain (t1 to t2), 3 back-invalidation
  (t2 to t3). -/
  phase : Nat
  /-- The manager asked the host to release it (R148), and the Release action of 0x41xx:03 runs. -/
  asked : Bool
  cmd : Bool
  deriving DecidableEq, Repr

/-- A block of a target (Table 7-5): BSTATE 0 absent, 1 free, 2 granted, 3 scrubbing, 4 lost; SHARERS; a place block
of Littoral; under test; TADDR, bits [51:21] of the block's address on the target. -/
structure Blk where
  st : Nat
  sharers : Nat
  place : Bool
  test : Bool
  taddr : Nat
  deriving DecidableEq, Repr

/-- A target's block map: the count of blocks, the state of a block the map does not list, and the others; and the memory
device behind a DSP. -/
structure Target where
  cap : Nat
  base : Nat
  blocks : SMap Blk
  /-- The device behind a DSP: its capacity in bytes (0 none), MLD, serial; what the target joined with (R435). -/
  devCap : Nat
  mld : Bool
  serial : Nat
  joinedSerial : Nat
  joinedCap : Nat
  /-- The LD of an MLD that the target uses (R151), and the bytes that the device's HDM decoders map for it, from its address 0. -/
  ld : Nat
  mapped : Nat
  /-- The link of an active or draining target is down and its return is awaited (R435). -/
  away : Bool
  deriving DecidableEq, Repr

/-- A remap-overlay entry (Table 7-4); its key is FROM. -/
structure Remap where
  cutover : Bool
  dest : Nat
  deriving DecidableEq, Repr

/-- A Release action that still scrubs: the extent, the target and the blocks left. -/
structure Scrubbing where
  extent : Nat
  target : Nat
  left : List Nat
  deriving DecidableEq, Repr

/-- The pool. -/
structure PoolSt where
  extents : SMap Extent
  targets : SMap Target
  overlay : SMap Remap
  /-- Instances whose first translation miss has been told (R138). -/
  missTold : List Nat
  scrubs : List Scrubbing
  /-- The colour of each granule location (R167). -/
  colours : SMap Nat
  /-- Keys in each tile's caches, by 8 times the kind plus the tile: 0 extent index, 1 translation (keys of overlay entries and of
  block-map entries), 3 directory, 4 frame descriptors, 5 tags; and the walks under way, by 8 times the kind plus the tile and the key,
  the kind of a block-map walk being 2. -/
  caches : SMap (List Nat)
  walks : List (Nat × Nat)
  /-- Poisoned lines by location, and repairs not yet made hard (R157). -/
  poison : SMap Bool
  softRepairs : Nat
  /-- Banks without a spare row, as 0x4001 qualifier and pseudo-channel-and-bank number. -/
  exhausted : List (Nat × Nat)
  /-- The pool limit and the tag-store shares as they stood at the last boot (R143, R168), their defaults before the first. -/
  limitAtBoot : Nat
  sharesAtBoot : Nat
  deriving DecidableEq, Repr

/-! Requests on memory (chapters 8, 9, 14). -/

/-- The snoops of the home: BISnpData, BISnpInv, BISnpCur, and BISnpFwd on inter-switch ports (Table 9-6). -/
inductive Snoop where
  | data | inv | cur | fwd
  deriving DecidableEq, Repr

/-- A request on memory. -/
structure Req where
  kind : ReqKind
  /-- Requester ID of Table 9-1: a port, or 64 plus a tile. -/
  agent : Nat
  inst : Nat
  off : Nat
  tag : Nat
  queue : Nat
  /-- Meter colour on arrival (0 green, 1 yellow, 2 red), low tier, and the floor of DevLoad. -/
  colour : Nat
  low : Bool
  devLoad : Nat
  len : Nat
  data : List Byte
  be : Nat
  keepS : Bool
  /-- The decoder is HDM-DB: the line is tracked (R180). -/
  tracked : Bool
  /-- After translation: the extent, the key DPA and the location DPA. -/
  extent : Nat
  key : Nat
  loc : Nat
  /-- The address on the target, of the last translation (R137). -/
  taddr : Nat := 0
  /-- Of a step's access: START and the steps executed, as its replay tag has them (R255). -/
  serial : Nat := 0
  sample : Option Sample
  deriving DecidableEq, Repr

/-- What an egress or target scheduler sends. -/
inductive EgOut where
  /-- Switched traffic. -/
  | fwd (m : Msg)
  /-- A response to the requester's tag. -/
  | rsp (tag : Nat) (r : Response)
  /-- A snoop for a line at the host's address. -/
  | snoop (k : Snoop) (addr : Nat)
  /-- A BIConflictAck. -/
  | conflictAck (addr : Nat)
  /-- The memory read of a line for the request in service there. -/
  | fill (line : Nat)
  /-- A MemSpecRd to the expander: the location, and the address on the target. -/
  | specRd (loc taddr : Nat)
  deriving DecidableEq, Repr

/-- A message that waits at a scheduler (R311): its class (16 snoops), tier, payload bytes, line, and what it is. -/
structure EgMsg where
  cls : Nat
  low : Bool
  len : Nat
  line : Option Nat
  out : EgOut
  sample : Option Sample
  deriving DecidableEq, Repr

/-! Cells and Tidelinks (chapter 6). -/

/-- What a cell carries beside a message between ports: a request on memory toward its home, or what goes from a home to a port's
scheduler, with the line of a snoop. -/
inductive Job where
  | none
  | request (r : Req)
  | leaving (m : EgMsg) (line : Nat)
  deriving DecidableEq, Repr

/-- What a control cell is (Table 6-1). -/
inductive Ctrl where
  | none | fence (src dst entry : Nat) | fenceAck (dst entry : Nat)
  /-- A cell in flight whose message a link-down has dropped (R93). -/
  | dropped
  deriving DecidableEq, Repr

/-- One cell in a tile (Table 6-2). -/
structure Cell where
  /-- The cell's number in the tile's buffer, and the limit record and class it is counted under. -/
  num : Nat
  limit : Nat
  cls : Nat
  /-- Ingress and egress crossbar port of this tile. -/
  xpIn : Nat
  xpOut : Nat
  /-- Where the cell leaves the crossbars: the tile and its crossbar port; the source tile and the ingress port there. -/
  destTile : Nat
  destXp : Nat
  src : Nat
  srcXp : Nat
  vc : Nat
  entry : Nat
  mtag : Nat
  cidx : Nat
  last : Bool
  ctrl : Ctrl
  inst : Nat
  internal : Bool
  /-- Tadpole-tagged. -/
  tagged : Bool
  msg : Msg
  job : Job
  deriving DecidableEq, Repr

/-- A re-pin of one path entry (R116): its destination tile, entry and new path; classes whose fence cell has not been
acknowledged (8 and above: links whose dedup report is awaited, plus 8); cells held at the ingress; re-pins of the same entry that wait. -/
structure Repin where
  dst : Nat
  entry : Nat
  path : Nat
  waits : List Nat
  held : List Cell
  queued : List Nat
  deriving DecidableEq, Repr

/-- A tile. -/
structure TileSt where
  /-- The cells in the virtual output queues, oldest first. -/
  voq : List Cell
  /-- Messages that wait at the ingress for admission (R108), and messages handed to each egress port. -/
  ingress : List Cell
  /-- Grant pointers of the outputs, accept pointers of the inputs, class pointers of the pairs (R105, R106). -/
  grantPtr : SMap Nat
  acceptPtr : SMap Nat
  classPtr : SMap Nat
  /-- Allocated cells: by cell number, the limit record times 8 plus the class. -/
  owner : SMap Nat
  /-- Cells with a strike (R124), and whether a leak has been found since reset (R125). -/
  struck : List Nat
  leaked : Bool
  /-- Limits in force that differ from Table 6-3, by record times 8 plus class (R110). -/
  inForce : SMap Nat
  /-- Raised limits of ports that wait for room in the sum, by record times 8 plus class (R110). -/
  waiting : List Nat
  /-- Crossings whose other side is in reset, until it is re-established (R127). -/
  closed : List Nat
  /-- Cells allocated, queued or handed over since the last pass of Beachcomber (R124). -/
  seen : List Nat
  /-- Requests on memory that have reached their home in the running cycle. -/
  arrived : List Req
  /-- PAUSE asserted by this tile, by record times 8 plus class (R120). -/
  pausing : List Nat
  repins : List Repin
  /-- The next message tag. -/
  mtag : Nat
  /-- Cells of each path entry in the running period (R115). -/
  load : SMap Nat
  deriving DecidableEq, Repr

/-- A group in a replay buffer: its sequence, its cells, and how often it was resent (R119, R123). -/
structure Group where
  seq : Nat
  cells : List Cell
  resends : Nat
  deriving DecidableEq, Repr

/-- One direction of a Tidelink, with its sender's and its receiver's state. -/
structure TlDir where
  /-- Sender: the open group's cells, the next group sequence, the replay buffer. -/
  filling : List Cell
  nextSeq : Nat
  replay : List Group
  /-- Sender: classes paused by the receiver, VC times 8 plus class. -/
  paused : List Nat
  /-- Receiver: the group expected, the next flit index, the last good group, the NAK to send, the first 80 bytes of
  unit B. -/
  expect : Nat
  fidx : Nat
  lastGood : Nat
  sendNak : Bool
  half : List Byte
  /-- Receiver: the flits of the expected group that it has taken, those before a bad one too (R119). -/
  got : Nat
  /-- Lanes that lost lock, and lanes on a spare. -/
  lost : List Nat
  spared : List Nat
  /-- Spares that lost lock themselves (R122). -/
  dead : Nat
  /-- Cell units sent beyond the last whole pair of flits (R118). -/
  units : Nat
  deriving DecidableEq, Repr

/-- A Tidelink. -/
structure LinkSt where
  /-- Low to high and high to low. -/
  up : TlDir
  down : TlDir
  /-- The link has failed and a tile (lower, higher) still waits for its dedup report (R123). -/
  awaitLow : Bool
  awaitHigh : Bool
  /-- Crossings of the link that timed out (R128). -/
  timeouts : List Nat
  deriving DecidableEq, Repr

/-! Coherence (chapter 9). -/

/-- The state of a slice's copy (Table 9-5). -/
inductive SliceSt where
  | i | s | e | o | m | f
  deriving DecidableEq, Repr

/-- A line: its directory entry (Table 9-2), the slices' copies, and what happens at its home bank. -/
structure Line where
  hstate : Nat
  coarse : Bool
  ptrs : List Nat
  groups : Nat
  /-- The copies of slices 0 to 3, and the bytes and poison that valid copies hold. -/
  slices : List SliceSt
  data : List Byte
  bad : Bool
  /-- A hold window runs (R202). -/
  hold : Bool
  /-- Snoops sent to ports and to slices that are not answered. -/
  snoops : List (Nat × Snoop)
  /-- Snoops were sent for the request in service (Table 9-4). -/
  called : Bool
  sliceAsks : List Nat
  /-- The request in service, whether it waits for a fill, and the chain behind it. -/
  cur : Option Req
  filling : Bool
  chain : List Req
  /-- The way is being evicted (R189), and the stamp of its last use. -/
  evicting : Bool
  stamp : Nat
  deriving DecidableEq, Repr

/-- What a range back-invalidation was asked for (R190). -/
inductive RbiFor where
  | release (e : Nat)
  | recolour (inst off n colour : Nat)
  | service
  | move (g : Nat)
  | unbind (i : Nat)
  deriving DecidableEq, Repr

/-- A range back-invalidation: its key ranges (first and last byte), the port it is limited to (none: all holders). -/
structure Rbi where
  ranges : List (Nat × Nat)
  port : Option Nat
  why : RbiFor
  deriving DecidableEq, Repr

/-- Coherence beyond the lines. -/
structure CohSt where
  lines : SMap Line
  /-- The banks' rotating priority pointers, by 4 times the tile plus the bank (R200). -/
  prio : SMap Nat
  /-- Range back-invalidations by number, and the next number. -/
  rbis : SMap Rbi
  nextRbi : Nat
  /-- Sets whose backing a resting bank's pipeline changed, by bank (R199). -/
  changed : SMap (List Nat)
  /-- The directory backing (R184): the words of the entries, by line; an entry in a directory cache reaches it when it leaves the cache. -/
  backing : SMap Nat
  /-- Inter-switch ports that wait for the partner to write ISC_SELECT (R195). -/
  iscWait : List Nat
  /-- Lost hosts whose directory scan runs (R210). -/
  lostHosts : List Nat
  /-- Requests that a full bank has not accepted (R201), by bank; lines whose head waits for a way (R189). -/
  full : SMap (List Req)
  blocked : List Nat
  stamp : Nat
  deriving DecidableEq, Repr

/-! Littoral (chapter 10). -/

/-- A heat-table entry (Table 10-2); its key is the granule. PLACE: 0 Far, 1 Cached, 2 Promoted, 3 Moving. -/
structure Heat where
  heat : Nat
  place : Nat
  samples : Nat
  deriving DecidableEq, Repr

/-- A frame descriptor (Table 10-6); its key is the granule. Sector masks; sectors being filled. -/
structure Frame where
  frame : Nat
  svalid : Nat
  sdirty : Nat
  filling : Nat
  lastEpoch : Nat
  deriving DecidableEq, Repr

/-- A move (R224): its phase (1 reserve, 2 recall, 3 copy, 4 re-copy, 5 cut-over, 6 settle), the tracker's line mask. -/
structure Move where
  phase : Nat
  source : Nat
  dest : Nat
  /-- A return to the extent's own place; a manual move. -/
  back : Bool
  manual : Bool
  /-- The granule had no remap entry before. -/
  first : Bool
  mask : Nat
  rounds : Nat
  attempts : Nat
  held : List Req
  /-- The core cycle of the lock. -/
  lockAt : Nat
  /-- Tiles that have not acknowledged the release message (R226). -/
  waits : List Nat
  deriving DecidableEq, Repr

/-- A move or frame change that waits to start: granule, action (0 promote, 1 return, 2 release the frame, 3 admit), stack (255
for the choice of R223), the tile whose heat table holds the granule, and whether the manager asked for it (R231). -/
structure WaitMove where
  g : Nat
  action : Nat
  stack : Nat
  tile : Nat
  manual : Bool
  deriving DecidableEq, Repr

/-- Littoral. -/
structure LitSt where
  /-- Heat tables, keyed by tile times 2^36 plus granule. -/
  heat : SMap Heat
  frames : SMap Frame
  moves : SMap Move
  /-- Requests held for a granule whose cut-over lock a step took (R138, R275), by granule. -/
  locked : SMap (List Req)
  /-- Place slots in use, by location granule: the granule placed there. -/
  slots : SMap Nat
  /-- Bytes moved in the epoch, by tile; moves and frame changes that wait, manual ones first. -/
  spent : SMap Nat
  queue : List WaitMove
  /-- The manual action: granules left, and the last abandonment's REASON. -/
  left : Nat
  lastReason : Nat
  /-- Counters of 0x6801:02, by 16 times the tile plus their place in the record. -/
  counts : SMap Nat
  deriving DecidableEq, Repr

/-! Instances and mailboxes (chapter 13). -/

/-- A notice of the manager-to-tenant mailbox (Table 13-8). -/
structure Notice where
  kind : Nat
  lost : Bool
  seq : Nat
  time : Nat
  params : List Byte
  deriving DecidableEq, Repr

/-- An event record of the tenant mailbox: the log, the handle, and its bytes. -/
structure EventRec where
  log : Nat
  handle : Nat
  body : List Byte
  deriving DecidableEq, Repr

/-- The dirty log of an instance (R287 to R293). -/
structure DirtySt where
  /-- Start, Stop and Harvest wait for the next harvest tick; the Harvest argument. -/
  startP : Bool
  stopP : Bool
  harvestP : Bool
  addr : Nat
  len : Nat
  logging : Bool
  /-- The span in bytes, the budget taken in KiB, the epoch's number and its opening TIME. -/
  span : Nat
  kib : Nat
  epoch : Nat
  opened : Nat
  /-- Pages marked in the active bitmap and in the frozen one, in ascending order. -/
  active : SMap Bool
  frozen : SMap Bool
  /-- The frozen bitmap is kept for dictionary reads; it is being cleared before a swap; the mark caches flush; the transfer
  of a Harvest runs; the epoch that the frozen bitmap holds and its report's flags. -/
  kept : Bool
  clearing : Bool
  flushing : Bool
  transfer : Bool
  frozenEpoch : Nat
  frozenFlags : Nat
  /-- The log has stopped and its pair is not yet released (R291); flags of the running epoch (ALL_DIRTY, EXTENTS_CHANGED). -/
  final : Bool
  allDirty : Bool
  extChanged : Bool
  deriving DecidableEq, Repr

/-- An instance beyond its objects. -/
structure InstSt where
  notices : List Notice
  nextSeq : Nat
  lostFlag : Bool
  events : List EventRec
  nextHandle : Nat
  policy : List Byte
  /-- Set Event Interrupt Policy bytes; queue rings: invocations that wait and completions, by queue k. -/
  rings : SMap (List (List Byte))
  compls : SMap (List (List Byte))
  dirty : DirtySt
  /-- Destroy: 0 none, 1 unbinding, 2 extents releasing. -/
  destroying : Nat
  /-- The presentation in force: USP and LD-ID. -/
  usp : Nat
  ld : Nat
  /-- A background mailbox command runs: the number of the table it unloads (R296). -/
  background : Option Nat
  deriving DecidableEq, Repr

/-! QoS (chapter 14). -/

/-- Buckets: of a meter in 1/256 byte (R303): committed, and excess or peak; of a shaper in 1/1500 byte: committed, peak, the
credit, and the core cycle up to which they are refilled. -/
structure Bucket where
  c : Nat
  p : Nat
  credit : Int
  upd : Nat
  deriving DecidableEq, Repr

/-- QoS beyond the objects. -/
structure QosSt where
  /-- Requests held in queues, oldest first, by queue. -/
  queues : SMap (List Req)
  /-- The order of arrival of the held requests of an instance: the queue numbers, oldest first. -/
  order : SMap (List Nat)
  /-- Buckets of meters, by 4 times the instance plus the meter, and of shapers, by queue. -/
  meters : SMap Bucket
  shapers : SMap Bucket
  /-- A cap release has been told since the instance's meters were written (R306), and instances at their cap. -/
  capTold : List Nat
  /-- Round-robin pointer over weighted queues of a tile; deficit counters and pointer of a scheduler (R313), by
  scheduler times 32 plus the class (16 for the pointer). -/
  rr : SMap Nat
  deficit : SMap Nat
  /-- FM API QoS fields that are stored and read back (Table 14-6), by USP; and by LD fractions set. -/
  stored : SMap (List Byte)
  deriving DecidableEq, Repr

/-! Telemetry (chapter 15). -/

/-- A bandwidth window (R326 to R328). -/
structure WindowSt where
  seq : Nat
  start : Nat
  len : Nat
  rx : Nat
  tx : Nat
  down : Bool
  rate : Bool
  deriving DecidableEq, Repr

/-- Telemetry beyond the objects. -/
structure TeleSt where
  /-- Counter words, by 32 times the unit plus the slot; OVF in bit 63. -/
  counters : SMap Nat
  /-- Each tile's parts of the instance counters, by 32 times the instance plus 4 times the counter plus the tile. -/
  parts : SMap Nat
  windows : SMap WindowSt
  /-- The pseudo-random generators of ports (0 to 63) and clusters (64 plus the cluster). -/
  prng : SMap Nat
  /-- The SEQ of each tile's next sample. -/
  seq : SMap Nat
  deriving DecidableEq, Repr

/-! Gecko (chapters 11 and 12). -/

/-- One access of a memory step to one line: a write of bytes under a mask (its own, or of the line read last), a read, an
access that gains the line for the home slice, or an atomic. -/
structure LineAcc where
  write : Bool
  fromLast : Bool
  own : Bool
  atomic : Option (AtomKind × AtomSize × Nat × Nat)
  off : Nat
  extent : Nat
  key : Nat
  loc : Nat
  be : Nat
  data : List Byte
  deriving DecidableEq, Repr

/-- A memory step in memory wait: the step, the accesses still to make, the bytes read, and its reply. -/
structure Pend where
  op : Nat
  f : StepF
  accs : List LineAcc
  bytes : List Byte
  last : List Byte
  bad : Bool
  /-- The reply is in hand: its value, a flag (Z), or the fault kind, detail and address. -/
  ready : Bool
  value : Nat
  flag : Bool
  fault : Nat
  detail : Nat
  addr : Nat
  /-- A host-memory read that waits for its completion: its tag, address and length; a BISnp that waits for its answer: port, line. -/
  host : Option (Nat × Nat × Nat)
  snoop : Option (Nat × Nat)
  sample : Option Sample
  deriving DecidableEq, Repr

/-- A context (Table 11-2). -/
structure Ctx where
  st : Nat
  z : Bool
  n : Bool
  c : Bool
  v : Bool
  dz : Bool
  dzt : Bool
  atom : Bool
  sys : Bool
  inst : Nat
  table : Nat
  sp : Nat
  wgroup : Nat
  evmask : Nat
  budget : Nat
  start : Nat
  queue : Nat
  fault : Nat
  w : List Nat
  /-- The scratch window, by address. -/
  scratch : SMap Byte
  /-- External events 24 to 26 as bits, and the core-cycle count at which the timer expires. -/
  ext : Nat
  timer : Option Nat
  /-- TAG, steps executed, in the fault handler, HCMT executed, table version. -/
  tag : Nat
  steps : Nat
  handler : Bool
  committed : Bool
  version : Nat
  /-- A queue supplied the invocation; the weighted queue that is visited and the invocations left in the visit (R300). -/
  byQueue : Bool
  visit : Nat
  visitLeft : Nat
  /-- The register of a WAIT that waits. -/
  waitRd : Nat
  pend : Option Pend
  /-- The engine that hosts the context and its slot there (0 to 67, failover 68 to 71). -/
  engine : Nat
  slot : Nat
  deriving DecidableEq, Repr

/-- A step table (Table 11-7): its steps as 128-bit numbers. -/
structure StepTable where
  owner : Nat
  budget : Nat
  entry : Nat
  steps : List Nat
  clusters : Nat
  version : Nat
  deriving DecidableEq, Repr

/-- Gecko beyond the objects. -/
structure GeckoSt where
  ctxs : SMap Ctx
  tables : SMap StepTable
  /-- Steps of replaced or unloaded tables that running invocations still execute, by table times 65536 plus version. -/
  old : SMap StepTable
  nextVersion : Nat
  /-- Pending events and wake pointers of wait groups, by 256 times the cluster plus the group. -/
  events : SMap Nat
  wake : SMap Nat
  /-- Ring pointers of engines (atomic, general) by twice the engine, and whether the last cycle served the atomic ring. -/
  rings : SMap Nat
  lastAtomic : SMap Bool
  /-- The last 256 replay tags of each engine: context, START, steps (R255). -/
  replay : SMap (List (Nat × Nat × Nat))
  staging : List Byte
  /-- Engines whose built-in check runs (R257). -/
  checking : List Nat
  /-- Vendor swap of clusters under way (R251): clusters still to do. -/
  swapping : List Nat
  /-- Vendor tables unloaded at Vendor privilege (R250), until the vendor area is written again. -/
  unloaded : List Nat
  deriving DecidableEq, Repr
/-! Faults and Strandline (chapter 16). -/

/-- One Strandline record (Table 16-6). -/
structure Rec where
  sev : Severity
  event : Nat
  src : Nat
  seq : Nat
  seconds : Nat
  cycles : Nat
  params : List Nat
  deriving DecidableEq, Repr

/-- One cause of a fault source, in its block (R336) and in the held copy (R343). -/
structure Cause where
  latched : Bool
  merged : Bool
  /-- The cause's record is in Strandline (R344). -/
  recorded : Bool
  sev : Severity
  count : Nat
  /-- The count at the latch, and the TIME of the latch (Table 16-7). -/
  countAtLatch : Nat
  latchSec : Nat
  latchCyc : Nat
  /-- The parameters of the latch, kept for a record written on rescan (R344). -/
  params : List Nat
  /-- A held copy exists, its severity and whether it merged. -/
  held : Bool
  heldMerged : Bool
  heldSev : Severity
  deriving DecidableEq, Repr

/-- One fault source (R335 to R343). -/
structure Source where
  causes : SMap Cause
  /-- The first capture of the block and of the held copy (64 bytes, or none). -/
  first : List Byte
  heldFirst : List Byte
  /-- The source cannot be reached (R343). -/
  unreachable : Bool
  deriving DecidableEq, Repr

/-- One record of the staging ring and whether it is committed (R351). -/
structure RingRec where
  entry : Rec
  committed : Bool
  deriving DecidableEq, Repr

/-- Fault collection and the recorder. -/
structure FaultSt where
  sources : SMap Source
  /-- Headland drives FAULT_N low until it has scanned every source (R341). -/
  scanning : Bool
  /-- The fault sources whose MSI-X waits for Bus Master Enable (R342). -/
  msixPending : List Nat
  /-- The SEQ of the next record. -/
  nextSeq : Nat
  /-- The staging ring, oldest first, and the NOR store, oldest first. -/
  ring : List RingRec
  store : List Rec
  /-- Records lost from the ring since the store failed (Table 16-7, 0x0004). -/
  ringLost : Nat
  /-- Operating seconds and the SECONDS and CYCLES values saved in NOR (R350). -/
  savedSeconds : Nat
  savedCycles : Nat
  deriving DecidableEq, Repr


/-! Power domains and clocks (chapter 17). -/

/-- An entry handshake that runs on a domain (R360): the state wanted and the one before, the block codes that have not answered and those
that delay; whether the domain entered by itself (R366, R367); a wake source that arrived after step 4 (Table 17-12). -/
structure Entry where
  want : Nat
  before : Nat
  waits : List Nat
  delayed : List Nat
  byItself : Bool
  wakeAfter : Bool
  deriving DecidableEq, Repr

/-- A domain beyond its objects. -/
structure DomSt where
  entry : Option Entry
  /-- The wake under way comes from OFF; its PLL was retried once (R370). -/
  fromOff : Bool
  retried : Bool
  /-- ON by a wake source while the target is another state (R367). -/
  woken : Bool
  /-- The core cycle at which the domain came to rest. -/
  since : Nat
  deriving DecidableEq, Repr

/-- A tile rail beyond its objects (R376, R377): the AVSBus step in flight, the regulator that does not answer, the lost-phase status, and
the rail or a shared one below its monitor threshold. -/
structure RailSt where
  step : Option Nat
  silent : Bool
  phaseStatus : Bool
  low : Bool
  deriving DecidableEq, Repr

/-- Power. -/
structure PwrSt where
  doms : SMap DomSt
  /-- The power-good pins, VDD_HLD in range, the factory test mode. -/
  pwrokT : List Nat
  aonOk : Bool
  hldOk : Bool
  testMode : Bool
  /-- Droop detectors below a threshold, by 64 times the tile plus the detector: 1 below level A, 2 below level B. -/
  droop : SMap Nat
  /-- Thermal holds of tiles: 1 at 3/4, 2 at 1/2 (R375). -/
  thermal : SMap Nat
  rails : SMap RailSt
  /-- A thermal trip bars every tile domain until all sensors read below 95 degrees (R375). -/
  tripped : Bool
  /-- Counters of the compat save area, by object key (R365). -/
  saved : SMap Nat
  deriving DecidableEq, Repr

/-! Slots (chapter 18). -/

/-- A slot beyond its objects. -/
structure SlotSt where
  /-- The level of SLOT_EN, and whether it has been low for 10 ms. -/
  en : Bool
  /-- TRIPPED: the target was written 0 since the trip. -/
  cleared : Bool
  /-- The off time runs (R388); a start waits for its stagger slot. -/
  offTime : Bool
  /-- PWRWARN_N is low in ON (R389). -/
  warn : Bool
  /-- The model's temperature in 10^-9 degrees (none: the ambient of the model), and the breaker accumulator in microseconds. -/
  model : Option Int
  acc : Nat
  /-- The slot acts on the higher of two channels that disagree (R381). -/
  disagree : Bool
  deriving DecidableEq, Repr

/-! Start-up, update and security (chapter 19). -/

/-- A firmware slot of NOR: 0 empty, 1 partial, 2 downloaded, 3 verified; its expected length and bytes. -/
structure FwSlot where
  st : Nat
  len : Nat
  bytes : List Byte
  deriving DecidableEq, Repr

/-- A self-test under way (Table 19-8). -/
structure TestRun where
  kind : Nat
  unit : Nat
  first : Nat
  count : Nat
  deriving DecidableEq, Repr

/-- A port's SPDM responder and its IDE keys (R411, R412). -/
structure SpdmSt where
  /-- GET_VERSION, GET_CAPABILITIES and NEGOTIATE_ALGORITHMS have been answered in this order: 0 to 3. -/
  phase : Nat
  /-- The sessions: 0 closed, 1 in handshake, 2 secured; and their handshake secrets. -/
  sessions : List Nat
  secrets : SMap (List Byte)
  /-- Keys programmed by stream and key set (2 times the stream plus the set), and the set that each secured stream uses. -/
  keys : SMap (List Byte)
  streams : SMap Nat
  deriving DecidableEq, Repr

/-- Start-up, update and security beyond the objects. What NOR and fuses hold survives a power-down. -/
structure SecSt where
  /-- The start under way: 0 none (unpowered, or a factory test), 1 waits for VDD_HLD, 2 the ROM has chosen its firmware, 3 booted, 4 no core
  runs; its kind: 0 cold, 1 a device warm reset, 2 of the Headland die alone. -/
  stage : Nat
  kind : Nat
  straps : Nat
  corePasses : Bool
  otherPasses : Bool
  /-- The firmware that runs: 0 slot A, 1 slot B, 2 golden. -/
  running : Nat
  /-- NOR: the update records, the firmware slots and the golden firmware. -/
  u0 : Option UpdRec
  u1 : Option UpdRec
  fwA : FwSlot
  fwB : FwSlot
  goldenFw : List Byte
  /-- The tiles' microcode of a trial has been applied (R407); the tiles whose microcode is pending (R405, R406). -/
  trialMicrocode : Bool
  microPending : List Nat
  /-- Fuses: the security counter, revoked root key slots. -/
  counter : Nat
  revoked : List Nat
  /-- Configuration signing keys by slot (an unlisted slot: the factory's in slot 0, none elsewhere), and credentials by privilege level. -/
  cfgKeys : SMap (Option (List Byte))
  creds : SMap (List Byte)
  test : Option TestRun
  spdm : SMap SpdmSt
  /-- The dirty-log budget in GiB as it stood at boot (R16). -/
  budgetAtBoot : Nat
  deriving DecidableEq, Repr
/-- What leaves the device. -/
inductive Out where
  /-- The reply to an ODP message. -/
  | odp (t : Transport) (m : OdpMsg)
  /-- An unsolicited NOTICE (R37). -/
  | notice (t : Transport) (m : OdpMsg)
  /-- The units of 64 bytes in which MCTP carries an ODP message (R39). -/
  | mctpUnits (units : List (List Byte))
  /-- An MSI-X message of a function (32 times the port plus 16 for the manager's function). -/
  | msix (fn vector : Nat)
  /-- The status of a dictionary write made through a command of its own. -/
  | wrote (idx sub q : Nat) (st : Status)
  /-- The flits of a group that a Tidelink direction sends, and the ACK, NAK and PAUSE that the next header of a direction carries (Table
  6-7). -/
  | tidelinkFlits (link : Nat) (d : LinkDir) (flits : List (List Byte))
  | tidelinkHeader (link : Nat) (d : LinkDir) (fields : Nat)
  /-- The dedup report to a tile: the last group received in order on a failed link (R123). -/
  | dedupReport (link tile grp : Nat)
  /-- The LLRESET vendor DLLP (R91). -/
  | llReset (port : Nat)
  /-- The credits that a port grants its partner at a flow-control initialisation (Table 6-4). -/
  | credits (port : Nat) (l : List Nat)
  /-- A hot-plug event told to the host through the virtual bridge of a DSP (R97, R98). -/
  | hotPlug (port : Nat) (present : Bool)
  /-- The completion of a configuration write to one of the TLS6400's functions (R94, R96). -/
  | cfgDone (fn : Nat)
  /-- A configuration request to a function in a function-level reset: Configuration Request Retry Status (R96). -/
  | cfgRetry (fn : Nat)
  /-- A sparing request DLLP to the partner, naming the physical lane (R73), and the acknowledgement of the partner's. -/
  | sparingRequest (port lane : Nat)
  | sparingAck (port lane : Nat)
  /-- A response on a port: S2M, CXL.io completion or CXL.cache, to the requester's tag. -/
  | response (port tag : Nat) (r : Response)
  /-- A BISnp to a host at the address the host uses (R181), and a BIConflictAck (R188). -/
  | snoop (port : Nat) (k : Snoop) (addr : Nat)
  | conflictAck (port addr : Nat)
  /-- Viral signalled on a port (R191). -/
  | viral (port : Nat)
  /-- A read, a write and a MemSpecRd (R207) of a line that leave a DSP for its memory device: the LD, and the address on the target. -/
  | deviceRead (port ld taddr : Nat)
  | deviceWrite (port ld taddr : Nat) (data : List Byte) (poison : Bool)
  | memSpecRd (port ld taddr : Nat)
  /-- The HDM decoders of a memory device are programmed: the device's LD, and the bytes mapped from its address 0 (R151, R435). -/
  | programDecoders (port ld size : Nat)
  /-- Switched traffic that leaves a port. -/
  | forwarded (port : Nat) (m : Msg)
  /-- A write to, and a read of, host memory by one of the TLS6400's functions. -/
  | hostWrite (fn addr : Nat) (data : List Byte)
  | hostRead (fn addr len tag : Nat)
  /-- The reply of a tenant mailbox command: its CXL return code and output. -/
  | mailbox (inst code : Nat) (payload : List Byte)
  /-- The reply of an FM API command: its CXL return code and output. -/
  | fmApi (via : FmPath) (code : Nat) (payload : List Byte)
  /-- The answer to an MCTP control message: its completion code and body. -/
  | mctp (code : Nat) (body : List Byte)
  /-- An LD is announced to the host's virtual switch as added or removed (R281, R282); a host's commit of an HDM decoder answers
  Committed or Error Not Committed (R283). -/
  | ldHotPlug (port ld : Nat) (present : Bool)
  | decoder (inst d : Nat) (committed : Bool)
  /-- The outcome of a revoke of a root key slot: 0, or its REASON (R408). -/
  | rootKey (slot reason : Nat)
  /-- An AER event generated at a vPPB of a USP; management payloads and CXL.io requests sent to a device or one of its LDs (FM API). -/
  | aer (port vppb err : Nat)
  | tunnel (port : Nat) (payload : List Byte)
  | ldConfig (port ld : Nat) (req : CfgReq)
  | ldMemory (port ld : Nat) (req : MemReq)
  /-- An SPDM response of a port's responder: its response code and body. -/
  | spdm (port code : Nat) (body : List Byte)
  deriving DecidableEq, Repr

/-- The clocks of the block that the commands read. -/
structure Clock where
  /-- Core cycles since the AON island powered up. -/
  core : Nat
  /-- Operating seconds at that moment and the power-cycle count (R350). -/
  secBase : Nat
  powerCycles : Nat
  deriving DecidableEq, Repr

/-- The state of the block. -/
structure State where
  /-- The commands that wait, first in first out. -/
  pending : List Instr
  /-- Integer dictionary objects by key (index, subindex, qualifier); an unlisted object holds its default. -/
  obj : SMap Nat
  /-- BLOB and STR32 objects by key. -/
  blob : SMap (List Byte)
  /-- Records of TABLE objects by object key and record number, each as its big-endian number. -/
  tbl : SMap Nat
  /-- Change counters by object key (R34). -/
  chg : SMap Nat
  clock : Clock
  mgmt : Mgmt
  flt : FaultSt
  mode : ModeSt
  /-- Lanes and port groups. -/
  lanes : SMap LaneSt
  groups : SMap GroupSt
  /-- Ports, and the TLS6400's own functions by 32 times the port plus the LD, 16 for the manager's function. -/
  ports : SMap PortSt
  fns : SMap FnSt
  /-- The windows of virtual bridges, by 64 times the USP plus the vPPB. -/
  bridges : SMap Bridge
  /-- Dwords of the ports' configuration space that were written through the FM API, by 1024 times the port plus the dword. -/
  ppb : SMap Nat
  /-- Tiles and Tidelinks. -/
  tiles : SMap TileSt
  links : SMap LinkSt
  /-- Messages at each egress scheduler, oldest first, by scheduler (chapter 14). -/
  egress : SMap (List EgMsg)
  /-- Unfinished transactions between ports. -/
  txns : List Txn
  /-- Memory behind the targets, by location DPA, as cells in ascending order of address; an unlisted address reads 0. -/
  mem : List Host.Cell
  pool : PoolSt
  coh : CohSt
  lit : LitSt
  insts : SMap InstSt
  qos : QosSt
  tele : TeleSt
  gecko : GeckoSt
  /-- Power domains and rails, slots, and start-up, update and security. -/
  pwr : PwrSt
  slots : SMap SlotSt
  sec : SecSt
  /-- What has left the device, newest first: replies, notices, interrupts, responses and snoops (the model's record). -/
  out : List Out
  /-- The counter that fresh free values are drawn from (the model's own field). -/
  free : Nat
  deriving DecidableEq, Repr

def Mgmt.reset : Mgmt :=
  { ready := false, sessions := [], odwVec := 0, odwIrqEn := false, odwEnable := false, odwLast := 0
    odwOverrun := false, odwDone := false, odwBusy := false, odwReqLen := 0, odwRspLen := 0
    odwReq := [], odwRsp := [], odwReply := none, skewed := [] }

def FaultSt.reset : FaultSt :=
  { sources := [], scanning := false, msixPending := [], nextSeq := 1, ring := [], store := [], ringLost := 0
    savedSeconds := 0, savedCycles := 0 }

def ModeSt.reset : ModeSt :=
  { target := 0, touched := [], waitPorts := [], creditsHeld := false, held := [], cfg0 := { image := [], delta := [] }
    cfg1 := { image := [], delta := [] }, golden := { image := [], delta := [] }, staging := []
    installing := none, running := none, runningDelta := [], ignoreBootsel := false, compatAddr := 0, compatCode := 0
    compatRefused := false }

/-- The pool before the first boot: nothing granted, joined or cached. (Log 76: DEDUCED.) -/
def PoolSt.reset : PoolSt :=
  { extents := [], targets := [], overlay := [], missTold := [], scrubs := [], colours := [], caches := [], walks := []
    poison := [], softRepairs := 0, exhausted := [], limitAtBoot := 256, sharesAtBoot := 0x19191919 }

def CohSt.reset : CohSt :=
  { lines := [], prio := [], rbis := [], nextRbi := 1, changed := [], backing := [], iscWait := []
    lostHosts := [], full := [], blocked := [], stamp := 0 }

def LitSt.reset : LitSt :=
  { heat := [], frames := [], moves := [], locked := [], slots := [], spent := [], queue := [], left := 0, lastReason := 0, counts := [] }

def QosSt.reset : QosSt :=
  { queues := [], order := [], meters := [], shapers := [], capTold := [], rr := [], deficit := [], stored := [] }

def TeleSt.reset : TeleSt := { counters := [], parts := [], windows := [], prng := [], seq := [] }

def GeckoSt.reset : GeckoSt :=
  { ctxs := [], tables := [], old := [], nextVersion := 1, events := [], wake := [], rings := [], lastAtomic := [], replay := []
    staging := [], checking := [], swapping := [], unloaded := [] }

def PwrSt.reset : PwrSt :=
  { doms := [], pwrokT := [], aonOk := false, hldOk := false, testMode := false, droop := [], thermal := [], rails := []
    tripped := false, saved := [] }

def FwSlot.empty : FwSlot := { st := 0, len := 0, bytes := [] }

/-- The start-up and update state as the part is delivered: blank records, empty slots, counter 0. (Log 141: DESIGN CHOICE.) -/
def SecSt.reset : SecSt :=
  { stage := 0, kind := 0, straps := 0, corePasses := true, otherPasses := true, running := 0, u0 := none, u1 := none
    fwA := FwSlot.empty, fwB := FwSlot.empty, goldenFw := [], trialMicrocode := false, microPending := [], counter := 0, revoked := []
    cfgKeys := [], creds := [], test := none, spdm := [], budgetAtBoot := 4 }

def State.reset : State :=
  { pending := [], obj := [], blob := [], tbl := [], chg := [], clock := { core := 0, secBase := 0, powerCycles := 0 }
    mgmt := Mgmt.reset, flt := FaultSt.reset, mode := ModeSt.reset, lanes := [], groups := [], ports := [], fns := [], bridges := [], ppb := [], tiles := [], links := [], egress := [], txns := [], mem := []
    pool := PoolSt.reset, coh := CohSt.reset, lit := LitSt.reset, insts := [], qos := QosSt.reset, tele := TeleSt.reset
    gecko := GeckoSt.reset, pwr := PwrSt.reset, slots := [], sec := SecSt.reset
    out := [], free := 0 }

end Sys2Proof.Machine
end

