-- ==== Sys2Proof/Machine/Memory.lean ====
section
/-!
DEFINITION. Memory behind the targets: a list of address and byte pairs in ascending order of address, no entry equal to
what an unlisted address reads as. Its reads and writes.
-/
namespace Sys2Proof.Machine

open Sys2Proof

/-- What an unlisted address reads as (the zeros that scrubbing writes, R149). (Log 71: DESIGN CHOICE.) -/
def memDefault : Byte := 0

/-- The byte at an address. (Log 71: DESIGN CHOICE.) -/
def memRead : List Host.Cell → Nat → Byte
  | [], _ => memDefault
  | (a, v) :: t, k => if k = a then v else memRead t k

/-- The memory with a byte at an address: an entry equal to the default is not listed. -/
def memWrite : List Host.Cell → Nat → Byte → List Host.Cell
  | [], k, v => if v = memDefault then [] else [(k, v)]
  | (a, w) :: t, k, v =>
    if k < a then (if v = memDefault then (a, w) :: t else (k, v) :: (a, w) :: t)
    else if k = a then (if v = memDefault then t else (k, v) :: t)
    else (a, w) :: memWrite t k v

/-- Addresses strictly rise from a bound, and no entry is the default. -/
def memWfFrom : Nat → List Host.Cell → Bool
  | _, [] => true
  | n, (a, v) :: t => decide (n ≤ a) && decide (v ≠ memDefault) && memWfFrom (a + 1) t

/-- The canonical form of memory. -/
def Memory.wf (m : List Host.Cell) : Bool := memWfFrom 0 m

/-- The bytes from an address. -/
def memReads (m : List Host.Cell) (a : Nat) : Nat → List Byte
  | 0 => []
  | n + 1 => memRead m a :: memReads m (a + 1) n

/-- The memory with bytes from an address. -/
def memWrites (m : List Host.Cell) (a : Nat) : List Byte → List Host.Cell
  | [] => m
  | b :: t => memWrites (memWrite m a b) (a + 1) t

/-- The memory with a range of addresses as zeros. -/
def memClear (m : List Host.Cell) (lo hi : Nat) : List Host.Cell := m.filter fun c => !(decide (lo ≤ c.1) && decide (c.1 < hi))

/-- Bytes of a line merged under a byte mask. -/
def mergeBytes (old new : List Byte) (mask : Nat) : List Byte :=
  old.mapIdx fun i b => if mask.testBit i then nth b new i else b

end Sys2Proof.Machine
end

