-- ==== Sys2Proof/Config.lean ====
section
/-!
DEFINITION. What the part fixes and the manual leaves to it: factory values, cryptographic primitives as functions of
their bytes, and the source of free values. None has a body, so no proof sees a value.
-/
namespace Sys2Proof.Config

open Sys2Proof

/-- The free values: what a draw with the given number yields. -/
opaque freeValue : Nat → Nat

/-- How many core cycles pass when the block idles, for the given draw. -/
opaque idleCycles : Nat → Nat

/-- HMAC-SHA-384 of a message under a key: 48 bytes. -/
opaque hmacSha384 : List Byte → List Byte → List Byte

/-- HKDF-SHA-384 from keying material and salt with empty info: 48 bytes. -/
opaque hkdfSha384 : List Byte → List Byte → List Byte

/-- SHA-384 of bytes. -/
opaque sha384 : List Byte → List Byte

/-- Whether a P-384 signature verifies under a key over a digest. -/
opaque ecdsaOk : List Byte → List Byte → List Byte → Bool

/-- A P-384 signature made under a private key's certificate chain over a digest. -/
opaque ecdsaSign : List Byte → List Byte → List Byte

/-- The root keys of fused slots 0 to 3, none where a slot is unused (R408); the device-unique HMAC key; the Vendor credential set at
manufacture. -/
opaque rootKey : Nat → Option (List Byte)
opaque deviceKey : List Byte
opaque vendorCredential : List Byte

/-- Melewell's configuration key, enrolled in slot 0 at manufacture (R409). -/
opaque factoryCfgKey : List Byte

/-- The certificate chain of slot 0, and the digest of the boot ROM (R411). -/
opaque certChain : List Byte
opaque romDigest : List Byte

/-- What the SPDM specification leaves to a responder: the algorithms selected from an offer, the key-exchange response and the session's
secrets for a request and a draw. -/
opaque spdmAlgorithms : List Byte → List Byte
opaque spdmExchange : List Byte → Nat → List Byte
opaque spdmSecret : List Byte → Nat → List Byte

/-- The 96 bytes of a partner's digests, and a fresh 32-byte key, for a draw. -/
opaque partnerDigests : Nat → List Byte
opaque freshKey : Nat → List Byte

/-- The 32 bytes of a device nonce, for the given draw. -/
opaque nonceBytes : Nat → List Byte

/-- The unit's serial number (0x1000:04). -/
opaque serial : List Byte

/-- Melewell's PCI vendor ID (0x1000:05). -/
opaque pciVendor : Nat

/-- The set of a bank of a slice that a line lies in (R192). -/
opaque sliceSet : Nat → Nat

/-- The stripe set of a stack that a 512-byte unit lies in (R155): 0 or 1. -/
opaque stripeSetOf : Nat → Nat

/-- The stripe set that holds a granule's tag (R155, R168): 0 or 1. -/
opaque tagStripeOf : Nat → Nat

/-- Whether the TLS6400's side of an inter-switch link has the lower PID (R195), for the given draw. -/
opaque lowerPid : Nat → Bool

/-- The next value of a Tadpole generator, and the combination of a tile's seed with a port or cluster number (R329). -/
opaque prngNext : Nat → Nat
opaque prngSeed : Nat → Nat → Nat

/-- The step budget, the length and the fault entry (0xFFFF none) that a vendor table declares (R243, R244). (Log 100: DESIGN CHOICE.) -/
opaque vendorBudget : Nat → Nat
opaque vendorLength : Nat → Nat
opaque vendorEntry : Nat → Nat

/-- The fused voltage of a tile rail for 1.5 GHz, in steps of 5 mV (R376). -/
opaque fusedSteps : Nat → Nat

/-- Payloads of the tenant mailbox whose contents the manual leaves to the CXL specification and the part: Identify Memory Device of an
instance with a capacity in bytes, Get Health Info for a draw, the effects of a command in the Command Effects Log, and the generation
number of an extent list. -/
opaque identifyBytes : Nat → Nat → List Byte
opaque healthBytes : Nat → List Byte
opaque celEffect : Nat → Nat
opaque extentListGen : List Nat → Nat

/-- What a sensor or a physical counter reads as: of an object (its key) at a core cycle. The manual gives no number for it. -/
opaque sense : Nat → Nat → Nat

/-- The version of the vendor tables that a firmware's microcode holds (0x8010:01). -/
opaque vendorVersion : List Byte → Nat

/-- The bytes in which a DESCRIBE reply gives an item's type, access, persistence, default, range and table shape (Table 2-9): the
manual gives no layout. -/
opaque describeForm : List Nat → List Byte

/-- The value of a dword of a port's configuration space that has not been written, and FM API payload bytes whose contents the CXL
specification lays out. -/
opaque ppbDword : Nat → Nat

/-- The bytes of a cell that the manual gives no layout: the rest of its descriptor, and a message's header, by what is carried and how
many bytes. -/
opaque cellBytes : List Nat → Nat → List Byte

/-- The dword at which a structure of a port's configuration space starts. -/
opaque ppbPlace : Nat → Nat

/-- The bytes that CXL lays out for an FM API answer which states these values in this order. (Log 109: PRESUMED.) -/
opaque fmBytes : List Nat → List Byte

end Sys2Proof.Config
end

