-- ==== Sys2Proof/Machine/Objects.lean ====
section
/-!
DEFINITION. The object dictionary as the manual's tables give it (Tables 2-6 to 19-13): for every index and subindex its
type, access kind, default, persistence, qualifier and stated range.
-/
namespace Sys2Proof.Machine

/-- The types of Table 2-1, and the CMD objects, which read as a U32 status word (R25). -/
inductive ObjTy where
  | bool | u8 | u16 | u32 | u64 | i32 | i64 | enum8 | bits32 | bits64 | str32 | blob | time | table | cmd
  deriving DecidableEq, Repr

/-- The access kinds of Table 2-2. -/
inductive Acc where
  | ro | rw | wo | rwq | cmd
  deriving DecidableEq, Repr

/-- What an instance qualifier selects (Table 2-5). -/
inductive QualKind where
  | none | port | lane | group | tile | link | target | hbm | extent | gate | inst | queue | sched | engine | table
  | domain | sensor | slot | unit | source
  deriving DecidableEq, Repr

/-- The stated range of a writable object (R23). -/
inductive VRange where
  | any
  | between (lo hi : Nat)
  | betweenOr (lo hi x : Nat)
  | betweenOr2 (lo hi x y : Nat)
  | sBetween (lo hi : Int)
  | sBetweenOr (lo hi : Int) (x : Nat)
  | oneOf (vs : List Nat)
  | mask (m : Nat)
  | maskNZ (m : Nat)
  | maskBit0 (m : Nat)
  deriving DecidableEq, Repr

/-- One subindex of the dictionary. -/
structure ObjDesc where
  idx : Nat
  sub : Nat
  ty : ObjTy
  acc : Acc
  dflt : Nat
  persist : Bool
  qual : QualKind
  range : VRange
  deriving DecidableEq, Repr

/-- The type code of Table 2-1; a CMD object reads as a U32. -/
def ObjTy.code : ObjTy → Nat
  | .bool => 1 | .u8 => 2 | .u16 => 3 | .u32 => 4 | .u64 => 5 | .i32 => 6 | .i64 => 7 | .enum8 => 8
  | .bits32 => 9 | .bits64 => 10 | .str32 => 11 | .blob => 12 | .time => 13 | .table => 14 | .cmd => 4

/-- The wire length of Table 2-1, for the types of fixed length. -/
def ObjTy.wire : ObjTy → Nat
  | .bool => 1 | .u8 => 1 | .u16 => 2 | .u32 => 4 | .u64 => 8 | .i32 => 4 | .i64 => 8 | .enum8 => 1
  | .bits32 => 4 | .bits64 => 8 | .time => 8 | .cmd => 4 | .str32 => 0 | .blob => 0 | .table => 0

/-- Objects 0x1000 and up: rows of the dictionary tables of the home chapters. -/
def objRows0 : List ObjDesc := [
  ⟨0x1000, 0, .u8, .ro, 9, false, .none, .any⟩,
  ⟨0x1000, 1, .str32, .ro, 0, false, .none, .any⟩,
  ⟨0x1000, 2, .str32, .ro, 0, false, .none, .any⟩,
  ⟨0x1000, 3, .u8, .ro, 177, false, .none, .any⟩,
  ⟨0x1000, 4, .str32, .ro, 0, false, .none, .any⟩,
  ⟨0x1000, 5, .u16, .ro, 0, false, .none, .any⟩,
  ⟨0x1000, 6, .u32, .ro, 0, false, .none, .any⟩,
  ⟨0x1000, 7, .time, .ro, 0, false, .none, .any⟩,
  ⟨0x1000, 8, .bits32, .ro, 14, false, .none, .any⟩,
  ⟨0x1000, 9, .enum8, .ro, 0, false, .none, .any⟩,
  ⟨0x1001, 0, .u8, .ro, 2, false, .none, .any⟩,
  ⟨0x1001, 1, .u16, .ro, 3, false, .none, .any⟩,
  ⟨0x1001, 2, .u16, .ro, 1, false, .none, .any⟩,
  ⟨0x1100, 0, .u8, .ro, 9, false, .none, .any⟩,
  ⟨0x1100, 1, .bool, .rw, 1, true, .none, .any⟩,
  ⟨0x1100, 2, .enum8, .ro, 0, false, .none, .any⟩,
  ⟨0x1100, 3, .enum8, .rw, 1, true, .none, .oneOf [0, 1]⟩,
  ⟨0x1100, 4, .u32, .rw, 0, true, .none, .any⟩,
  ⟨0x1100, 5, .u8, .rw, 24, true, .none, .between 1 30⟩,
  ⟨0x1100, 6, .u16, .rw, 7460, true, .none, .between 1 65535⟩,
  ⟨0x1100, 7, .u8, .rw, 32, true, .none, .between 0 32⟩,
  ⟨0x1100, 8, .u16, .rw, 30, true, .none, .between 5 3600⟩,
  ⟨0x1100, 9, .u32, .ro, 0, false, .none, .any⟩,
  ⟨0x1101, 0, .u8, .ro, 5, false, .none, .any⟩,
  ⟨0x1101, 1, .bool, .rw, 1, true, .none, .any⟩,
  ⟨0x1101, 2, .u8, .rw, 76, true, .none, .between 8 119⟩,
  ⟨0x1101, 3, .enum8, .ro, 0, false, .none, .any⟩,
  ⟨0x1101, 4, .u8, .ro, 0, false, .none, .any⟩,
  ⟨0x1101, 5, .u8, .rw, 8, true, .none, .between 0 8⟩,
  ⟨0x1102, 0, .u8, .ro, 3, false, .none, .any⟩]

/-- Objects 0x1102 and up: rows of the dictionary tables of the home chapters. -/
def objRows1 : List ObjDesc := [
  ⟨0x1102, 1, .bool, .rw, 1, true, .none, .any⟩,
  ⟨0x1102, 2, .u8, .rw, 255, true, .none, .betweenOr 0 63 255⟩,
  ⟨0x1102, 3, .u8, .ro, 2, false, .none, .any⟩,
  ⟨0x1103, 0, .u8, .ro, 2, false, .none, .any⟩,
  ⟨0x1103, 1, .bool, .rw, 1, true, .none, .any⟩,
  ⟨0x1103, 2, .bool, .rw, 1, true, .none, .any⟩,
  ⟨0x1104, 0, .u8, .ro, 1, false, .none, .any⟩,
  ⟨0x1104, 1, .table, .ro, 0, false, .none, .any⟩,
  ⟨0x1200, 0, .u8, .ro, 8, false, .none, .any⟩,
  ⟨0x1200, 1, .enum8, .rw, 0, true, .none, .between 1 5⟩,
  ⟨0x1200, 2, .enum8, .ro, 0, false, .none, .any⟩,
  ⟨0x1200, 3, .enum8, .ro, 0, false, .none, .any⟩,
  ⟨0x1200, 4, .u32, .ro, 0, false, .none, .any⟩,
  ⟨0x1200, 5, .enum8, .ro, 0, false, .none, .any⟩,
  ⟨0x1200, 6, .u16, .rw, 50, true, .none, .between 5 500⟩,
  ⟨0x1200, 7, .u16, .rw, 100, true, .none, .between 10 2000⟩,
  ⟨0x1200, 8, .enum8, .ro, 0, false, .none, .any⟩,
  ⟨0x1201, 0, .u8, .ro, 1, false, .none, .any⟩,
  ⟨0x1201, 1, .cmd, .cmd, 0, false, .none, .any⟩,
  ⟨0x1210, 0, .u8, .ro, 4, false, .none, .any⟩,
  ⟨0x1210, 1, .enum8, .ro, 0, false, .none, .any⟩,
  ⟨0x1210, 2, .u64, .ro, 0, false, .none, .any⟩,
  ⟨0x1210, 3, .u8, .ro, 0, false, .none, .any⟩,
  ⟨0x1210, 4, .table, .ro, 0, false, .none, .any⟩,
  ⟨0x1211, 0, .u8, .ro, 2, false, .none, .any⟩,
  ⟨0x1211, 1, .blob, .wo, 0, false, .none, .any⟩,
  ⟨0x1211, 2, .cmd, .cmd, 0, false, .none, .any⟩,
  ⟨0x1212, 0, .u8, .ro, 1, false, .none, .any⟩,
  ⟨0x1212, 1, .cmd, .cmd, 0, false, .none, .any⟩,
  ⟨0x1213, 0, .u8, .ro, 2, false, .none, .any⟩]

/-- Objects 0x1213 and up: rows of the dictionary tables of the home chapters. -/
def objRows2 : List ObjDesc := [
  ⟨0x1213, 1, .cmd, .cmd, 0, false, .none, .any⟩,
  ⟨0x1213, 2, .cmd, .cmd, 0, false, .none, .any⟩,
  ⟨0x1220, 0, .u8, .ro, 3, false, .none, .any⟩,
  ⟨0x1220, 1, .bool, .rw, 0, true, .none, .any⟩,
  ⟨0x1220, 2, .u8, .rw, 0, true, .none, .oneOf [0, 32]⟩,
  ⟨0x1220, 3, .enum8, .rw, 0, true, .none, .oneOf [0, 1]⟩,
  ⟨0x2000, 0, .u8, .ro, 7, false, .port, .any⟩,
  ⟨0x2000, 1, .enum8, .rwq, 0, true, .port, .oneOf [0, 1, 2, 3]⟩,
  ⟨0x2000, 2, .enum8, .rw, 7, true, .port, .between 1 7⟩,
  ⟨0x2000, 3, .bits32, .rw, 7, true, .port, .maskNZ 7⟩,
  ⟨0x2000, 4, .bool, .rw, 1, true, .port, .any⟩,
  ⟨0x2000, 5, .bool, .rw, 0, true, .port, .any⟩,
  ⟨0x2000, 6, .bits32, .rw, 7, true, .port, .maskBit0 7⟩,
  ⟨0x2000, 7, .u8, .rw, 255, true, .port, .betweenOr 0 15 255⟩,
  ⟨0x2010, 0, .u8, .ro, 8, false, .port, .any⟩,
  ⟨0x2010, 1, .enum8, .rw, 1, true, .port, .oneOf [0, 1]⟩,
  ⟨0x2010, 2, .enum8, .ro, 0, false, .port, .any⟩,
  ⟨0x2010, 3, .u8, .ro, 0, false, .port, .any⟩,
  ⟨0x2010, 4, .enum8, .ro, 0, false, .port, .any⟩,
  ⟨0x2010, 5, .enum8, .ro, 0, false, .port, .any⟩,
  ⟨0x2010, 6, .enum8, .ro, 0, false, .port, .any⟩,
  ⟨0x2010, 7, .u32, .ro, 0, false, .port, .any⟩,
  ⟨0x2010, 8, .enum8, .ro, 0, false, .port, .any⟩,
  ⟨0x2100, 0, .u8, .ro, 8, false, .lane, .any⟩,
  ⟨0x2100, 1, .enum8, .ro, 0, false, .lane, .any⟩,
  ⟨0x2100, 2, .u8, .ro, 255, false, .lane, .any⟩,
  ⟨0x2100, 3, .u8, .ro, 255, false, .lane, .any⟩,
  ⟨0x2100, 4, .enum8, .ro, 0, false, .lane, .any⟩,
  ⟨0x2100, 5, .enum8, .ro, 0, false, .lane, .any⟩,
  ⟨0x2100, 6, .u32, .ro, 0, false, .lane, .any⟩]

/-- Objects 0x2100 and up: rows of the dictionary tables of the home chapters. -/
def objRows3 : List ObjDesc := [
  ⟨0x2100, 7, .u64, .ro, 0, false, .lane, .any⟩,
  ⟨0x2100, 8, .bool, .ro, 0, false, .lane, .any⟩,
  ⟨0x2101, 0, .u8, .ro, 3, false, .lane, .any⟩,
  ⟨0x2101, 1, .enum8, .rw, 0, true, .lane, .oneOf [0, 2]⟩,
  ⟨0x2101, 2, .enum8, .ro, 0, false, .lane, .any⟩,
  ⟨0x2101, 3, .u32, .ro, 0, false, .lane, .any⟩,
  ⟨0x2102, 0, .u8, .ro, 3, false, .lane, .any⟩,
  ⟨0x2102, 1, .enum8, .rw, 0, true, .lane, .oneOf [0, 2]⟩,
  ⟨0x2102, 2, .enum8, .ro, 0, false, .lane, .any⟩,
  ⟨0x2102, 3, .u32, .ro, 0, false, .lane, .any⟩,
  ⟨0x2103, 0, .u8, .ro, 8, false, .lane, .any⟩,
  ⟨0x2103, 1, .u8, .rw, 255, true, .lane, .betweenOr2 0 10 254 255⟩,
  ⟨0x2103, 2, .i32, .rw, 0, true, .lane, .sBetween (-8) 0⟩,
  ⟨0x2103, 3, .i32, .rw, 0, true, .lane, .sBetween (-16) 0⟩,
  ⟨0x2103, 4, .i32, .rw, 64, true, .lane, .sBetween (32) 64⟩,
  ⟨0x2103, 5, .i32, .rw, 0, true, .lane, .sBetween (-24) 0⟩,
  ⟨0x2103, 6, .u16, .ro, 0, false, .lane, .any⟩,
  ⟨0x2103, 7, .u16, .ro, 0, false, .lane, .any⟩,
  ⟨0x2103, 8, .u64, .ro, 0, false, .lane, .any⟩,
  ⟨0x2110, 0, .u8, .ro, 11, false, .lane, .any⟩,
  ⟨0x2110, 1, .enum8, .rw, 0, false, .lane, .oneOf [0, 1, 2, 3]⟩,
  ⟨0x2110, 2, .enum8, .ro, 0, false, .lane, .any⟩,
  ⟨0x2110, 3, .enum8, .rw, 3, false, .lane, .oneOf [0, 1, 2, 3]⟩,
  ⟨0x2110, 4, .enum8, .rw, 0, false, .lane, .between 0 3⟩,
  ⟨0x2110, 5, .cmd, .cmd, 0, false, .lane, .any⟩,
  ⟨0x2110, 6, .u64, .ro, 0, false, .lane, .any⟩,
  ⟨0x2110, 7, .u64, .ro, 0, false, .lane, .any⟩,
  ⟨0x2110, 8, .u32, .ro, 0, false, .lane, .any⟩,
  ⟨0x2110, 9, .cmd, .cmd, 0, false, .lane, .any⟩,
  ⟨0x2110, 10, .enum8, .rw, 7, false, .lane, .between 1 7⟩]

/-- Objects 0x2110 and up: rows of the dictionary tables of the home chapters. -/
def objRows4 : List ObjDesc := [
  ⟨0x2110, 11, .enum8, .ro, 0, false, .lane, .any⟩,
  ⟨0x2140, 0, .u8, .ro, 14, false, .group, .any⟩,
  ⟨0x2140, 1, .enum8, .rw, 0, false, .group, .oneOf [0, 1]⟩,
  ⟨0x2140, 2, .enum8, .ro, 0, false, .group, .any⟩,
  ⟨0x2140, 3, .enum8, .rwq, 1, true, .group, .oneOf [0, 1, 2, 3]⟩,
  ⟨0x2140, 4, .enum8, .ro, 0, false, .group, .any⟩,
  ⟨0x2140, 5, .bool, .rwq, 0, true, .group, .any⟩,
  ⟨0x2140, 6, .bool, .rw, 1, true, .group, .any⟩,
  ⟨0x2140, 7, .enum8, .ro, 0, false, .group, .any⟩,
  ⟨0x2140, 8, .enum8, .ro, 0, false, .group, .any⟩,
  ⟨0x2140, 9, .u8, .ro, 255, false, .group, .any⟩,
  ⟨0x2140, 10, .u32, .ro, 0, false, .group, .any⟩,
  ⟨0x2140, 11, .cmd, .cmd, 0, false, .group, .any⟩,
  ⟨0x2140, 12, .cmd, .cmd, 0, false, .group, .any⟩,
  ⟨0x2140, 13, .u32, .rw, 0, true, .group, .any⟩,
  ⟨0x2140, 14, .u64, .ro, 0, false, .group, .any⟩,
  ⟨0x2200, 0, .u8, .ro, 8, false, .port, .any⟩,
  ⟨0x2200, 1, .u64, .ro, 0, false, .port, .any⟩,
  ⟨0x2200, 2, .u64, .ro, 0, false, .port, .any⟩,
  ⟨0x2200, 3, .u64, .ro, 0, false, .port, .any⟩,
  ⟨0x2200, 4, .u64, .ro, 0, false, .port, .any⟩,
  ⟨0x2200, 5, .u32, .ro, 0, false, .port, .any⟩,
  ⟨0x2200, 6, .u64, .ro, 0, false, .port, .any⟩,
  ⟨0x2200, 7, .u64, .ro, 0, false, .port, .any⟩,
  ⟨0x2200, 8, .u64, .ro, 0, false, .port, .any⟩,
  ⟨0x2210, 0, .u8, .ro, 9, false, .port, .any⟩,
  ⟨0x2210, 1, .u8, .rw, 25, true, .port, .between 0 100⟩,
  ⟨0x2210, 2, .u16, .rw, 10, true, .port, .between 1 1000⟩,
  ⟨0x2210, 3, .u16, .rw, 2, true, .port, .between 1 20⟩,
  ⟨0x2210, 4, .u16, .rw, 1000, true, .port, .between 100 10000⟩]

/-- Objects 0x2210 and up: rows of the dictionary tables of the home chapters. -/
def objRows5 : List ObjDesc := [
  ⟨0x2210, 5, .enum8, .rw, 0, true, .port, .oneOf [0, 1]⟩,
  ⟨0x2210, 6, .u32, .ro, 0, false, .port, .any⟩,
  ⟨0x2210, 7, .u32, .ro, 0, false, .port, .any⟩,
  ⟨0x2210, 8, .table, .ro, 0, false, .port, .any⟩,
  ⟨0x2210, 9, .cmd, .cmd, 0, false, .port, .any⟩,
  ⟨0x2300, 0, .u8, .ro, 8, false, .port, .any⟩,
  ⟨0x2300, 1, .u8, .rw, 25, true, .port, .between 0 100⟩,
  ⟨0x2300, 2, .u8, .rw, 60, true, .port, .between 0 100⟩,
  ⟨0x2300, 3, .u8, .rw, 85, true, .port, .between 0 100⟩,
  ⟨0x2300, 4, .bool, .rw, 0, true, .port, .any⟩,
  ⟨0x2300, 5, .u16, .rw, 50, true, .port, .between 1 1000⟩,
  ⟨0x2300, 6, .u8, .rw, 0, true, .port, .between 0 15⟩,
  ⟨0x2300, 7, .bits32, .ro, 0, false, .port, .any⟩,
  ⟨0x2300, 8, .bits32, .ro, 0, false, .port, .any⟩,
  ⟨0x2320, 0, .u8, .ro, 1, false, .port, .any⟩,
  ⟨0x2320, 1, .table, .rw, 0, true, .port, .any⟩,
  ⟨0x2330, 0, .u8, .ro, 1, false, .port, .any⟩,
  ⟨0x2330, 1, .table, .rw, 0, true, .port, .any⟩,
  ⟨0x3000, 0, .u8, .ro, 7, false, .tile, .any⟩,
  ⟨0x3000, 1, .enum8, .rw, 1, true, .tile, .oneOf [0, 1]⟩,
  ⟨0x3000, 2, .enum8, .ro, 0, false, .tile, .any⟩,
  ⟨0x3000, 3, .cmd, .cmd, 0, false, .tile, .any⟩,
  ⟨0x3000, 4, .u32, .ro, 0, false, .tile, .any⟩,
  ⟨0x3000, 5, .enum8, .ro, 0, false, .tile, .any⟩,
  ⟨0x3000, 6, .u32, .ro, 0, false, .tile, .any⟩,
  ⟨0x3000, 7, .table, .ro, 0, false, .tile, .any⟩,
  ⟨0x3100, 0, .u8, .ro, 12, false, .link, .any⟩,
  ⟨0x3100, 1, .enum8, .rw, 1, true, .link, .oneOf [0, 1]⟩,
  ⟨0x3100, 2, .enum8, .ro, 0, false, .link, .any⟩,
  ⟨0x3100, 3, .u8, .ro, 0, false, .link, .any⟩]

/-- Objects 0x3100 and up: rows of the dictionary tables of the home chapters. -/
def objRows6 : List ObjDesc := [
  ⟨0x3100, 4, .u8, .ro, 0, false, .link, .any⟩,
  ⟨0x3100, 5, .bits32, .ro, 0, false, .link, .any⟩,
  ⟨0x3100, 6, .u64, .ro, 0, false, .link, .any⟩,
  ⟨0x3100, 7, .u64, .ro, 0, false, .link, .any⟩,
  ⟨0x3100, 8, .u64, .ro, 0, false, .link, .any⟩,
  ⟨0x3100, 9, .u32, .ro, 0, false, .link, .any⟩,
  ⟨0x3100, 10, .u64, .ro, 0, false, .link, .any⟩,
  ⟨0x3100, 11, .u32, .ro, 0, false, .link, .any⟩,
  ⟨0x3100, 12, .cmd, .cmd, 0, false, .link, .any⟩,
  ⟨0x3200, 0, .u8, .ro, 5, false, .tile, .any⟩,
  ⟨0x3200, 1, .table, .rw, 0, true, .tile, .any⟩,
  ⟨0x3200, 2, .u32, .ro, 62464, false, .tile, .any⟩,
  ⟨0x3200, 3, .u32, .ro, 62464, false, .tile, .any⟩,
  ⟨0x3200, 4, .table, .ro, 0, false, .tile, .any⟩,
  ⟨0x3200, 5, .u32, .ro, 65536, false, .tile, .any⟩,
  ⟨0x3210, 0, .u8, .ro, 8, false, .tile, .any⟩,
  ⟨0x3210, 1, .table, .rw, 0, true, .tile, .any⟩,
  ⟨0x3210, 2, .bool, .rw, 1, true, .tile, .any⟩,
  ⟨0x3210, 3, .u16, .rw, 1, true, .tile, .between 1 100⟩,
  ⟨0x3210, 4, .u8, .rw, 90, true, .tile, .between 50 100⟩,
  ⟨0x3210, 5, .u8, .rw, 16, true, .tile, .between 1 64⟩,
  ⟨0x3210, 6, .u8, .rw, 50, true, .tile, .between 0 99⟩,
  ⟨0x3210, 7, .u64, .ro, 0, false, .tile, .any⟩,
  ⟨0x3210, 8, .table, .ro, 0, false, .tile, .any⟩,
  ⟨0x3220, 0, .u8, .ro, 2, false, .tile, .any⟩,
  ⟨0x3220, 1, .u64, .ro, 0, false, .tile, .any⟩,
  ⟨0x3220, 2, .u64, .ro, 0, false, .tile, .any⟩,
  ⟨0x3300, 0, .u8, .ro, 7, false, .tile, .any⟩,
  ⟨0x3300, 1, .bool, .rw, 1, true, .tile, .any⟩,
  ⟨0x3300, 2, .u64, .ro, 0, false, .tile, .any⟩]

/-- Objects 0x3300 and up: rows of the dictionary tables of the home chapters. -/
def objRows7 : List ObjDesc := [
  ⟨0x3300, 3, .u64, .ro, 0, false, .tile, .any⟩,
  ⟨0x3300, 4, .u32, .ro, 4294967295, false, .tile, .any⟩,
  ⟨0x3300, 5, .u32, .ro, 4294967295, false, .tile, .any⟩,
  ⟨0x3300, 6, .u32, .ro, 0, false, .tile, .any⟩,
  ⟨0x3300, 7, .u16, .rw, 16, true, .tile, .any⟩,
  ⟨0x4000, 0, .u8, .ro, 16, false, .target, .any⟩,
  ⟨0x4000, 1, .enum8, .rw, 0, true, .target, .oneOf [0, 1, 2]⟩,
  ⟨0x4000, 2, .enum8, .ro, 0, false, .target, .any⟩,
  ⟨0x4000, 3, .enum8, .ro, 0, false, .target, .any⟩,
  ⟨0x4000, 4, .u8, .ro, 0, false, .target, .any⟩,
  ⟨0x4000, 5, .u8, .rwq, 0, true, .target, .between 0 9⟩,
  ⟨0x4000, 6, .u64, .ro, 0, false, .target, .any⟩,
  ⟨0x4000, 7, .u64, .ro, 0, false, .target, .any⟩,
  ⟨0x4000, 8, .u16, .rw, 32, true, .target, .between 0 65535⟩,
  ⟨0x4000, 9, .u32, .ro, 0, false, .target, .any⟩,
  ⟨0x4000, 10, .u32, .ro, 0, false, .target, .any⟩,
  ⟨0x4000, 11, .u32, .ro, 0, false, .target, .any⟩,
  ⟨0x4000, 12, .u32, .ro, 0, false, .target, .any⟩,
  ⟨0x4000, 13, .u16, .rw, 0, true, .target, .between 1 200⟩,
  ⟨0x4000, 14, .u32, .ro, 0, false, .target, .any⟩,
  ⟨0x4000, 15, .u64, .ro, 0, false, .target, .any⟩,
  ⟨0x4000, 16, .u8, .ro, 0, false, .target, .any⟩,
  ⟨0x4001, 0, .u8, .ro, 7, false, .hbm, .any⟩,
  ⟨0x4001, 1, .bits32, .ro, 0, false, .hbm, .any⟩,
  ⟨0x4001, 2, .u32, .ro, 0, false, .hbm, .any⟩,
  ⟨0x4001, 3, .u32, .ro, 0, false, .hbm, .any⟩,
  ⟨0x4001, 4, .u64, .ro, 0, false, .hbm, .any⟩,
  ⟨0x4001, 5, .cmd, .cmd, 0, false, .hbm, .any⟩,
  ⟨0x4001, 6, .u64, .ro, 0, false, .hbm, .any⟩,
  ⟨0x4001, 7, .u16, .rw, 64, true, .hbm, .between 1 65535⟩]

/-- Objects 0x4010 and up: rows of the dictionary tables of the home chapters. -/
def objRows8 : List ObjDesc := [
  ⟨0x4010, 0, .u8, .ro, 10, false, .none, .any⟩,
  ⟨0x4010, 1, .u16, .rwq, 256, true, .none, .between 1 256⟩,
  ⟨0x4010, 2, .u64, .ro, 0, false, .none, .any⟩,
  ⟨0x4010, 3, .u64, .ro, 0, false, .none, .any⟩,
  ⟨0x4010, 4, .u64, .ro, 0, false, .none, .any⟩,
  ⟨0x4010, 5, .u32, .ro, 0, false, .none, .any⟩,
  ⟨0x4010, 6, .u32, .ro, 0, false, .none, .any⟩,
  ⟨0x4010, 7, .u16, .rw, 1000, true, .none, .between 10 60000⟩,
  ⟨0x4010, 8, .u64, .ro, 0, false, .none, .any⟩,
  ⟨0x4010, 9, .u64, .ro, 0, false, .none, .any⟩,
  ⟨0x4010, 10, .u64, .ro, 0, false, .none, .any⟩,
  ⟨0x4020, 0, .u8, .ro, 6, false, .tile, .any⟩,
  ⟨0x4020, 1, .u64, .ro, 0, false, .tile, .any⟩,
  ⟨0x4020, 2, .u64, .ro, 0, false, .tile, .any⟩,
  ⟨0x4020, 3, .u64, .ro, 0, false, .tile, .any⟩,
  ⟨0x4020, 4, .u64, .ro, 0, false, .tile, .any⟩,
  ⟨0x4020, 5, .u64, .ro, 0, false, .tile, .any⟩,
  ⟨0x4020, 6, .u64, .ro, 0, false, .tile, .any⟩,
  ⟨0x4100, 0, .u8, .ro, 4, false, .extent, .any⟩,
  ⟨0x4100, 1, .blob, .ro, 0, false, .extent, .any⟩,
  ⟨0x4100, 2, .enum8, .ro, 0, false, .extent, .any⟩,
  ⟨0x4100, 3, .cmd, .cmd, 0, false, .extent, .any⟩,
  ⟨0x4100, 4, .u32, .ro, 0, false, .extent, .any⟩,
  ⟨0x4101, 0, .u8, .ro, 4, false, .extent, .any⟩,
  ⟨0x4101, 1, .blob, .ro, 0, false, .extent, .any⟩,
  ⟨0x4101, 2, .enum8, .ro, 0, false, .extent, .any⟩,
  ⟨0x4101, 3, .cmd, .cmd, 0, false, .extent, .any⟩,
  ⟨0x4101, 4, .u32, .ro, 0, false, .extent, .any⟩,
  ⟨0x4102, 0, .u8, .ro, 4, false, .extent, .any⟩,
  ⟨0x4102, 1, .blob, .ro, 0, false, .extent, .any⟩]

/-- Objects 0x4102 and up: rows of the dictionary tables of the home chapters. -/
def objRows9 : List ObjDesc := [
  ⟨0x4102, 2, .enum8, .ro, 0, false, .extent, .any⟩,
  ⟨0x4102, 3, .cmd, .cmd, 0, false, .extent, .any⟩,
  ⟨0x4102, 4, .u32, .ro, 0, false, .extent, .any⟩,
  ⟨0x4103, 0, .u8, .ro, 4, false, .extent, .any⟩,
  ⟨0x4103, 1, .blob, .ro, 0, false, .extent, .any⟩,
  ⟨0x4103, 2, .enum8, .ro, 0, false, .extent, .any⟩,
  ⟨0x4103, 3, .cmd, .cmd, 0, false, .extent, .any⟩,
  ⟨0x4103, 4, .u32, .ro, 0, false, .extent, .any⟩,
  ⟨0x4110, 0, .u8, .ro, 3, false, .none, .any⟩,
  ⟨0x4110, 1, .cmd, .cmd, 0, false, .none, .any⟩,
  ⟨0x4110, 2, .u32, .ro, 4294967295, false, .none, .any⟩,
  ⟨0x4110, 3, .u16, .ro, 0, false, .none, .any⟩,
  ⟨0x4120, 0, .u8, .ro, 1, false, .none, .any⟩,
  ⟨0x4120, 1, .table, .rw, 0, true, .none, .any⟩,
  ⟨0x4121, 0, .u8, .ro, 1, false, .none, .any⟩,
  ⟨0x4121, 1, .table, .ro, 0, false, .none, .any⟩,
  ⟨0x4200, 0, .u8, .ro, 12, false, .gate, .any⟩,
  ⟨0x4200, 1, .table, .rw, 0, true, .gate, .any⟩,
  ⟨0x4200, 2, .bits32, .rw, 31, true, .gate, .mask 63⟩,
  ⟨0x4200, 3, .u8, .ro, 1, false, .gate, .any⟩,
  ⟨0x4200, 4, .blob, .ro, 0, false, .gate, .any⟩,
  ⟨0x4200, 5, .cmd, .cmd, 0, false, .gate, .any⟩,
  ⟨0x4200, 6, .u64, .ro, 0, false, .gate, .any⟩,
  ⟨0x4200, 7, .table, .ro, 0, false, .gate, .any⟩,
  ⟨0x4200, 8, .u32, .ro, 0, false, .gate, .any⟩,
  ⟨0x4200, 9, .u16, .ro, 65535, false, .gate, .any⟩,
  ⟨0x4200, 10, .u64, .ro, 0, false, .gate, .any⟩,
  ⟨0x4200, 11, .u64, .ro, 0, false, .gate, .any⟩,
  ⟨0x4200, 12, .u32, .ro, 0, false, .gate, .any⟩,
  ⟨0x4300, 0, .u8, .ro, 5, false, .none, .any⟩]

/-- Objects 0x4300 and up: rows of the dictionary tables of the home chapters. -/
def objRows10 : List ObjDesc := [
  ⟨0x4300, 1, .u32, .rwq, 421075225, true, .none, .any⟩,
  ⟨0x4300, 2, .u64, .ro, 0, false, .none, .any⟩,
  ⟨0x4300, 3, .cmd, .cmd, 0, false, .none, .any⟩,
  ⟨0x4300, 4, .cmd, .cmd, 0, false, .none, .any⟩,
  ⟨0x4300, 5, .u16, .ro, 0, false, .none, .any⟩,
  ⟨0x4310, 0, .u8, .ro, 3, false, .inst, .any⟩,
  ⟨0x4310, 1, .u32, .rw, 0, true, .inst, .any⟩,
  ⟨0x4310, 2, .u64, .ro, 0, false, .inst, .any⟩,
  ⟨0x4310, 3, .enum8, .ro, 0, false, .inst, .any⟩,
  ⟨0x5000, 0, .u8, .ro, 7, false, .inst, .any⟩,
  ⟨0x5000, 1, .enum8, .ro, 0, false, .inst, .any⟩,
  ⟨0x5000, 2, .str32, .rw, 0, true, .inst, .any⟩,
  ⟨0x5000, 3, .cmd, .cmd, 0, false, .inst, .any⟩,
  ⟨0x5000, 4, .u16, .rw, 0, true, .inst, .between 0 4096⟩,
  ⟨0x5000, 5, .u16, .ro, 0, false, .inst, .any⟩,
  ⟨0x5000, 6, .bits32, .rw, 0, true, .inst, .mask 7⟩,
  ⟨0x5000, 7, .u64, .ro, 0, false, .inst, .any⟩,
  ⟨0x5001, 0, .u8, .ro, 2, false, .none, .any⟩,
  ⟨0x5001, 1, .cmd, .cmd, 0, false, .none, .any⟩,
  ⟨0x5001, 2, .u16, .ro, 65535, false, .none, .any⟩,
  ⟨0x5010, 0, .u8, .ro, 4, false, .inst, .any⟩,
  ⟨0x5010, 1, .enum8, .rw, 0, true, .inst, .oneOf [0, 1, 2]⟩,
  ⟨0x5010, 2, .enum8, .ro, 0, false, .inst, .any⟩,
  ⟨0x5010, 3, .u8, .rw, 255, true, .inst, .betweenOr 0 63 255⟩,
  ⟨0x5010, 4, .u8, .rw, 0, true, .inst, .between 0 15⟩,
  ⟨0x5020, 0, .u8, .ro, 1, false, .inst, .any⟩,
  ⟨0x5020, 1, .table, .rw, 0, false, .inst, .any⟩,
  ⟨0x5100, 0, .u8, .ro, 6, false, .inst, .any⟩,
  ⟨0x5100, 1, .cmd, .cmd, 0, false, .inst, .any⟩,
  ⟨0x5100, 2, .u8, .ro, 0, false, .inst, .any⟩]

/-- Objects 0x5100 and up: rows of the dictionary tables of the home chapters. -/
def objRows11 : List ObjDesc := [
  ⟨0x5100, 3, .u32, .ro, 0, false, .inst, .any⟩,
  ⟨0x5100, 4, .u32, .ro, 0, false, .inst, .any⟩,
  ⟨0x5100, 5, .bits32, .rw, 255, true, .inst, .mask 255⟩,
  ⟨0x5100, 6, .blob, .ro, 0, false, .inst, .any⟩,
  ⟨0x5200, 0, .u8, .ro, 7, false, .inst, .any⟩,
  ⟨0x5200, 1, .cmd, .cmd, 0, false, .inst, .any⟩,
  ⟨0x5200, 2, .cmd, .cmd, 0, false, .inst, .any⟩,
  ⟨0x5200, 3, .cmd, .cmd, 0, false, .inst, .any⟩,
  ⟨0x5200, 4, .enum8, .ro, 0, false, .inst, .any⟩,
  ⟨0x5200, 5, .blob, .ro, 0, false, .inst, .any⟩,
  ⟨0x5200, 6, .table, .ro, 0, false, .inst, .any⟩,
  ⟨0x5200, 7, .table, .ro, 0, false, .inst, .any⟩,
  ⟨0x5210, 0, .u8, .ro, 4, false, .none, .any⟩,
  ⟨0x5210, 1, .u8, .rwq, 4, true, .none, .between 0 16⟩,
  ⟨0x5210, 2, .u32, .rw, 1000, true, .none, .between 100 100000⟩,
  ⟨0x5210, 3, .u8, .ro, 0, false, .none, .any⟩,
  ⟨0x5210, 4, .u32, .ro, 0, false, .none, .any⟩,
  ⟨0x6000, 0, .u8, .ro, 11, false, .none, .any⟩,
  ⟨0x6000, 1, .u16, .rw, 48, true, .none, .between 16 4096⟩,
  ⟨0x6000, 2, .enum8, .rw, 0, true, .none, .oneOf [0, 1]⟩,
  ⟨0x6000, 3, .u16, .rw, 5, true, .none, .between 1 100⟩,
  ⟨0x6000, 4, .u32, .ro, 0, false, .none, .any⟩,
  ⟨0x6000, 5, .bits32, .rw, 768, true, .none, .mask 768⟩,
  ⟨0x6000, 6, .bits32, .rw, 1, true, .none, .mask 3⟩,
  ⟨0x6000, 7, .u8, .rw, 75, true, .none, .between 1 100⟩,
  ⟨0x6000, 8, .u64, .ro, 0, false, .none, .any⟩,
  ⟨0x6000, 9, .u32, .ro, 0, false, .none, .any⟩,
  ⟨0x6000, 10, .u32, .ro, 0, false, .none, .any⟩,
  ⟨0x6000, 11, .u64, .ro, 0, false, .none, .any⟩,
  ⟨0x6010, 0, .u8, .ro, 2, false, .none, .any⟩]

/-- Objects 0x6010 and up: rows of the dictionary tables of the home chapters. -/
def objRows12 : List ObjDesc := [
  ⟨0x6010, 1, .table, .ro, 0, false, .none, .any⟩,
  ⟨0x6010, 2, .table, .rw, 0, true, .none, .any⟩,
  ⟨0x6100, 0, .u8, .ro, 11, false, .tile, .any⟩,
  ⟨0x6100, 1, .bool, .rw, 1, true, .tile, .any⟩,
  ⟨0x6100, 2, .bits32, .ro, 0, false, .tile, .any⟩,
  ⟨0x6100, 3, .u64, .ro, 0, false, .tile, .any⟩,
  ⟨0x6100, 4, .u64, .ro, 0, false, .tile, .any⟩,
  ⟨0x6100, 5, .u32, .ro, 0, false, .tile, .any⟩,
  ⟨0x6100, 6, .u64, .ro, 0, false, .tile, .any⟩,
  ⟨0x6100, 7, .u64, .ro, 0, false, .tile, .any⟩,
  ⟨0x6100, 8, .u64, .ro, 0, false, .tile, .any⟩,
  ⟨0x6100, 9, .u64, .ro, 0, false, .tile, .any⟩,
  ⟨0x6100, 10, .u64, .ro, 0, false, .tile, .any⟩,
  ⟨0x6100, 11, .cmd, .cmd, 0, false, .tile, .any⟩,
  ⟨0x6200, 0, .u8, .ro, 10, false, .tile, .any⟩,
  ⟨0x6200, 1, .u32, .ro, 0, false, .tile, .any⟩,
  ⟨0x6200, 2, .u32, .ro, 0, false, .tile, .any⟩,
  ⟨0x6200, 3, .u64, .ro, 0, false, .tile, .any⟩,
  ⟨0x6200, 4, .u64, .ro, 0, false, .tile, .any⟩,
  ⟨0x6200, 5, .u64, .ro, 0, false, .tile, .any⟩,
  ⟨0x6200, 6, .u16, .ro, 0, false, .tile, .any⟩,
  ⟨0x6200, 7, .u64, .ro, 0, false, .tile, .any⟩,
  ⟨0x6200, 8, .cmd, .cmd, 0, false, .tile, .any⟩,
  ⟨0x6200, 9, .u64, .ro, 0, false, .tile, .any⟩,
  ⟨0x6200, 10, .u32, .ro, 0, false, .tile, .any⟩,
  ⟨0x6800, 0, .u8, .ro, 14, false, .none, .any⟩,
  ⟨0x6800, 1, .bool, .rw, 1, true, .none, .any⟩,
  ⟨0x6800, 2, .u16, .rw, 10, true, .none, .between 1 1000⟩,
  ⟨0x6800, 3, .u8, .rw, 10, true, .none, .between 4 16⟩,
  ⟨0x6800, 4, .u8, .rw, 3, true, .none, .between 1 8⟩]

/-- Objects 0x6800 and up: rows of the dictionary tables of the home chapters. -/
def objRows13 : List ObjDesc := [
  ⟨0x6800, 5, .u16, .rw, 96, true, .none, .between 1 4095⟩,
  ⟨0x6800, 6, .u16, .rw, 24, true, .none, .between 0 4095⟩,
  ⟨0x6800, 7, .u16, .rw, 32, true, .none, .between 0 4095⟩,
  ⟨0x6800, 8, .u8, .rw, 5, true, .none, .between 0 50⟩,
  ⟨0x6800, 9, .u8, .rw, 4, true, .none, .between 1 8⟩,
  ⟨0x6800, 10, .u8, .rw, 64, true, .none, .between 1 64⟩,
  ⟨0x6800, 11, .u8, .rw, 2, true, .none, .between 0 8⟩,
  ⟨0x6800, 12, .u64, .rw, 2251834173947912, true, .none, .any⟩,
  ⟨0x6800, 13, .u16, .rw, 16, true, .none, .between 0 1024⟩,
  ⟨0x6800, 14, .u8, .rw, 4, true, .none, .between 1 16⟩,
  ⟨0x6801, 0, .u8, .ro, 4, false, .none, .any⟩,
  ⟨0x6801, 1, .enum8, .ro, 0, false, .none, .any⟩,
  ⟨0x6801, 2, .table, .ro, 0, false, .none, .any⟩,
  ⟨0x6801, 3, .table, .ro, 0, false, .none, .any⟩,
  ⟨0x6801, 4, .blob, .ro, 0, false, .none, .any⟩,
  ⟨0x6810, 0, .u8, .ro, 4, false, .inst, .any⟩,
  ⟨0x6810, 1, .enum8, .rw, 0, true, .inst, .oneOf [0, 1, 2, 3]⟩,
  ⟨0x6810, 2, .i32, .rw, 0, true, .inst, .sBetween (-8) 7⟩,
  ⟨0x6810, 3, .u64, .ro, 0, false, .inst, .any⟩,
  ⟨0x6810, 4, .u64, .ro, 0, false, .inst, .any⟩,
  ⟨0x6820, 0, .u8, .ro, 6, false, .extent, .any⟩,
  ⟨0x6820, 1, .enum8, .rw, 4, true, .extent, .between 0 4⟩,
  ⟨0x6820, 2, .i32, .rw, 127, true, .extent, .sBetweenOr (-8) 7 127⟩,
  ⟨0x6820, 3, .u64, .ro, 0, false, .extent, .any⟩,
  ⟨0x6820, 4, .u64, .ro, 0, false, .extent, .any⟩,
  ⟨0x6820, 5, .u32, .ro, 0, false, .extent, .any⟩,
  ⟨0x6820, 6, .u32, .ro, 0, false, .extent, .any⟩,
  ⟨0x6821, 0, .u8, .ro, 6, false, .extent, .any⟩,
  ⟨0x6821, 1, .enum8, .rw, 4, true, .extent, .between 0 4⟩,
  ⟨0x6821, 2, .i32, .rw, 127, true, .extent, .sBetweenOr (-8) 7 127⟩]

/-- Objects 0x6821 and up: rows of the dictionary tables of the home chapters. -/
def objRows14 : List ObjDesc := [
  ⟨0x6821, 3, .u64, .ro, 0, false, .extent, .any⟩,
  ⟨0x6821, 4, .u64, .ro, 0, false, .extent, .any⟩,
  ⟨0x6821, 5, .u32, .ro, 0, false, .extent, .any⟩,
  ⟨0x6821, 6, .u32, .ro, 0, false, .extent, .any⟩,
  ⟨0x6822, 0, .u8, .ro, 6, false, .extent, .any⟩,
  ⟨0x6822, 1, .enum8, .rw, 4, true, .extent, .between 0 4⟩,
  ⟨0x6822, 2, .i32, .rw, 127, true, .extent, .sBetweenOr (-8) 7 127⟩,
  ⟨0x6822, 3, .u64, .ro, 0, false, .extent, .any⟩,
  ⟨0x6822, 4, .u64, .ro, 0, false, .extent, .any⟩,
  ⟨0x6822, 5, .u32, .ro, 0, false, .extent, .any⟩,
  ⟨0x6822, 6, .u32, .ro, 0, false, .extent, .any⟩,
  ⟨0x6823, 0, .u8, .ro, 6, false, .extent, .any⟩,
  ⟨0x6823, 1, .enum8, .rw, 4, true, .extent, .between 0 4⟩,
  ⟨0x6823, 2, .i32, .rw, 127, true, .extent, .sBetweenOr (-8) 7 127⟩,
  ⟨0x6823, 3, .u64, .ro, 0, false, .extent, .any⟩,
  ⟨0x6823, 4, .u64, .ro, 0, false, .extent, .any⟩,
  ⟨0x6823, 5, .u32, .ro, 0, false, .extent, .any⟩,
  ⟨0x6823, 6, .u32, .ro, 0, false, .extent, .any⟩,
  ⟨0x6830, 0, .u8, .ro, 2, false, .none, .any⟩,
  ⟨0x6830, 1, .cmd, .cmd, 0, false, .none, .any⟩,
  ⟨0x6830, 2, .u32, .ro, 0, false, .none, .any⟩,
  ⟨0x7000, 0, .u8, .ro, 6, false, .inst, .any⟩,
  ⟨0x7000, 1, .bits32, .rw, 1414812756, true, .inst, .mask 4294967295⟩,
  ⟨0x7000, 2, .u16, .rw, 128, true, .inst, .between 1 4096⟩,
  ⟨0x7000, 3, .table, .rw, 0, true, .inst, .any⟩,
  ⟨0x7000, 4, .table, .ro, 0, false, .inst, .any⟩,
  ⟨0x7000, 5, .u64, .ro, 0, false, .inst, .any⟩,
  ⟨0x7000, 6, .u16, .ro, 0, false, .inst, .any⟩,
  ⟨0x7100, 0, .u8, .ro, 8, false, .queue, .any⟩,
  ⟨0x7100, 1, .u8, .rw, 0, true, .queue, .betweenOr 0 3 255⟩]

/-- Objects 0x7100 and up: rows of the dictionary tables of the home chapters. -/
def objRows15 : List ObjDesc := [
  ⟨0x7100, 2, .blob, .rw, 0, true, .queue, .any⟩,
  ⟨0x7100, 3, .u8, .rw, 1, true, .queue, .between 1 255⟩,
  ⟨0x7100, 4, .u16, .ro, 0, false, .queue, .any⟩,
  ⟨0x7100, 5, .u16, .ro, 0, false, .queue, .any⟩,
  ⟨0x7100, 6, .u64, .ro, 0, false, .queue, .any⟩,
  ⟨0x7100, 7, .u64, .ro, 0, false, .queue, .any⟩,
  ⟨0x7100, 8, .i32, .ro, 0, false, .queue, .any⟩,
  ⟨0x7200, 0, .u8, .ro, 7, false, .sched, .any⟩,
  ⟨0x7200, 1, .table, .rw, 0, true, .sched, .any⟩,
  ⟨0x7200, 2, .i32, .rw, 0, true, .sched, .sBetween (-64) 255⟩,
  ⟨0x7200, 3, .bits32, .rw, 1145324612, true, .sched, .mask 4294967295⟩,
  ⟨0x7200, 4, .u8, .rw, 15, true, .sched, .between 0 15⟩,
  ⟨0x7200, 5, .table, .ro, 0, false, .sched, .any⟩,
  ⟨0x7200, 6, .u64, .ro, 0, false, .sched, .any⟩,
  ⟨0x7200, 7, .table, .ro, 0, false, .sched, .any⟩,
  ⟨0x8000, 0, .u8, .ro, 8, false, .engine, .any⟩,
  ⟨0x8000, 1, .enum8, .rw, 1, true, .engine, .oneOf [0, 1]⟩,
  ⟨0x8000, 2, .enum8, .ro, 0, false, .engine, .any⟩,
  ⟨0x8000, 3, .u64, .ro, 0, false, .engine, .any⟩,
  ⟨0x8000, 4, .u64, .ro, 0, false, .engine, .any⟩,
  ⟨0x8000, 5, .u32, .ro, 0, false, .engine, .any⟩,
  ⟨0x8000, 6, .u8, .rw, 4, true, .engine, .between 1 64⟩,
  ⟨0x8000, 7, .table, .rw, 0, true, .engine, .any⟩,
  ⟨0x8000, 8, .table, .ro, 0, false, .engine, .any⟩,
  ⟨0x8001, 0, .u8, .ro, 1, false, .engine, .any⟩,
  ⟨0x8001, 1, .cmd, .cmd, 0, false, .engine, .any⟩,
  ⟨0x8010, 0, .u8, .ro, 6, false, .none, .any⟩,
  ⟨0x8010, 1, .u32, .ro, 0, false, .none, .any⟩,
  ⟨0x8010, 2, .u16, .ro, 12288, false, .none, .any⟩,
  ⟨0x8010, 3, .u8, .ro, 128, false, .none, .any⟩]

/-- Objects 0x8010 and up: rows of the dictionary tables of the home chapters. -/
def objRows16 : List ObjDesc := [
  ⟨0x8010, 4, .u32, .ro, 0, false, .none, .any⟩,
  ⟨0x8010, 5, .u32, .ro, 0, false, .none, .any⟩,
  ⟨0x8010, 6, .table, .ro, 0, false, .none, .any⟩,
  ⟨0x8100, 0, .u8, .ro, 11, false, .table, .any⟩,
  ⟨0x8100, 1, .enum8, .ro, 0, false, .table, .any⟩,
  ⟨0x8100, 2, .u16, .ro, 65535, false, .table, .any⟩,
  ⟨0x8100, 3, .u16, .ro, 0, false, .table, .any⟩,
  ⟨0x8100, 4, .u32, .ro, 0, false, .table, .any⟩,
  ⟨0x8100, 5, .u32, .ro, 0, false, .table, .any⟩,
  ⟨0x8100, 6, .bits32, .ro, 0, false, .table, .any⟩,
  ⟨0x8100, 7, .u8, .ro, 0, false, .table, .any⟩,
  ⟨0x8100, 8, .u16, .ro, 65535, false, .table, .any⟩,
  ⟨0x8100, 9, .u64, .ro, 0, false, .table, .any⟩,
  ⟨0x8100, 10, .u64, .ro, 0, false, .table, .any⟩,
  ⟨0x8100, 11, .cmd, .cmd, 0, false, .table, .any⟩,
  ⟨0x8110, 0, .u8, .ro, 3, false, .none, .any⟩,
  ⟨0x8110, 1, .blob, .wo, 0, false, .none, .any⟩,
  ⟨0x8110, 2, .cmd, .cmd, 0, false, .none, .any⟩,
  ⟨0x8110, 3, .u16, .ro, 65535, false, .none, .any⟩,
  ⟨0x9000, 0, .u8, .ro, 9, false, .domain, .any⟩,
  ⟨0x9000, 1, .enum8, .rw, 0, true, .domain, .oneOf [0, 1, 2, 3]⟩,
  ⟨0x9000, 2, .enum8, .ro, 0, false, .domain, .any⟩,
  ⟨0x9000, 3, .u32, .ro, 0, false, .domain, .any⟩,
  ⟨0x9000, 4, .u16, .ro, 65535, false, .domain, .any⟩,
  ⟨0x9000, 5, .u32, .ro, 0, false, .domain, .any⟩,
  ⟨0x9000, 6, .u32, .ro, 0, false, .domain, .any⟩,
  ⟨0x9000, 7, .u64, .ro, 0, false, .domain, .any⟩,
  ⟨0x9000, 8, .cmd, .cmd, 0, false, .domain, .any⟩,
  ⟨0x9000, 9, .u32, .rw, 100, true, .domain, .between 10 1000000⟩,
  ⟨0x9100, 0, .u8, .ro, 3, false, .none, .any⟩]

/-- Objects 0x9100 and up: rows of the dictionary tables of the home chapters. -/
def objRows17 : List ObjDesc := [
  ⟨0x9100, 1, .enum8, .ro, 0, false, .none, .any⟩,
  ⟨0x9100, 2, .bool, .ro, 0, false, .none, .any⟩,
  ⟨0x9100, 3, .bool, .ro, 0, false, .none, .any⟩,
  ⟨0x9101, 0, .u8, .ro, 5, false, .tile, .any⟩,
  ⟨0x9101, 1, .enum8, .ro, 0, false, .tile, .any⟩,
  ⟨0x9101, 2, .bool, .ro, 0, false, .tile, .any⟩,
  ⟨0x9101, 3, .bits32, .ro, 0, false, .tile, .any⟩,
  ⟨0x9101, 4, .u32, .ro, 0, false, .tile, .any⟩,
  ⟨0x9101, 5, .i32, .ro, 0, false, .tile, .any⟩,
  ⟨0x9200, 0, .u8, .ro, 9, false, .sensor, .any⟩,
  ⟨0x9200, 1, .table, .ro, 0, false, .sensor, .any⟩,
  ⟨0x9200, 2, .i32, .ro, 0, false, .sensor, .any⟩,
  ⟨0x9200, 3, .enum8, .ro, 0, false, .sensor, .any⟩,
  ⟨0x9200, 4, .enum8, .ro, 0, false, .sensor, .any⟩,
  ⟨0x9200, 5, .u8, .rw, 25, true, .sensor, .between 10 60⟩,
  ⟨0x9200, 6, .u8, .rw, 50, true, .sensor, .between 0 100⟩,
  ⟨0x9200, 7, .u64, .ro, 0, false, .sensor, .any⟩,
  ⟨0x9200, 8, .u64, .ro, 0, false, .sensor, .any⟩,
  ⟨0x9200, 9, .u32, .ro, 0, false, .sensor, .any⟩,
  ⟨0x9210, 0, .u8, .ro, 7, false, .tile, .any⟩,
  ⟨0x9210, 1, .u16, .ro, 0, false, .tile, .any⟩,
  ⟨0x9210, 2, .u16, .ro, 0, false, .tile, .any⟩,
  ⟨0x9210, 3, .i32, .rw, 0, true, .tile, .sBetween (-25) 25⟩,
  ⟨0x9210, 4, .u32, .ro, 0, false, .tile, .any⟩,
  ⟨0x9210, 5, .u8, .ro, 0, false, .tile, .any⟩,
  ⟨0x9210, 6, .bool, .ro, 0, false, .tile, .any⟩,
  ⟨0x9210, 7, .u32, .ro, 0, false, .tile, .any⟩,
  ⟨0xA000, 0, .u8, .ro, 27, false, .slot, .any⟩,
  ⟨0xA000, 1, .enum8, .rw, 0, true, .slot, .oneOf [0, 1]⟩,
  ⟨0xA000, 2, .enum8, .ro, 0, false, .slot, .any⟩]

/-- Objects 0xA000 and up: rows of the dictionary tables of the home chapters. -/
def objRows18 : List ObjDesc := [
  ⟨0xA000, 3, .enum8, .ro, 0, false, .slot, .any⟩,
  ⟨0xA000, 4, .u32, .ro, 0, false, .slot, .any⟩,
  ⟨0xA000, 5, .u16, .rwq, 500, true, .slot, .between 250 2000⟩,
  ⟨0xA000, 6, .u16, .rw, 400, true, .slot, .between 50 800⟩,
  ⟨0xA000, 7, .u32, .rw, 5000, true, .slot, .between 100 20000⟩,
  ⟨0xA000, 8, .u8, .rw, 25, true, .slot, .between 10 100⟩,
  ⟨0xA000, 9, .u32, .rw, 1000, true, .slot, .between 100 20000⟩,
  ⟨0xA000, 10, .u16, .rw, 10, true, .slot, .between 1 200⟩,
  ⟨0xA000, 11, .u16, .rw, 10800, true, .slot, .between 9000 12000⟩,
  ⟨0xA000, 12, .u16, .rw, 7800, true, .slot, .between 7000 10500⟩,
  ⟨0xA000, 13, .u16, .rw, 15500, true, .slot, .between 13000 16500⟩,
  ⟨0xA000, 14, .u16, .rw, 1000, true, .slot, .between 0 60000⟩,
  ⟨0xA000, 15, .u16, .rw, 100, true, .slot, .between 10 10000⟩,
  ⟨0xA000, 16, .u16, .rw, 200, true, .slot, .between 10 10000⟩,
  ⟨0xA000, 17, .enum8, .rw, 1, true, .slot, .oneOf [0, 1]⟩,
  ⟨0xA000, 18, .u8, .rw, 150, true, .slot, .between 90 175⟩,
  ⟨0xA000, 19, .u8, .rw, 85, true, .slot, .between 40 255⟩,
  ⟨0xA000, 20, .blob, .rw, 0, true, .slot, .any⟩,
  ⟨0xA000, 21, .u16, .rw, 1008, true, .slot, .between 1000 1050⟩,
  ⟨0xA000, 22, .blob, .ro, 0, false, .slot, .any⟩,
  ⟨0xA000, 23, .enum8, .ro, 0, false, .slot, .any⟩,
  ⟨0xA000, 24, .enum8, .ro, 0, false, .slot, .any⟩,
  ⟨0xA000, 25, .u32, .ro, 0, false, .slot, .any⟩,
  ⟨0xA000, 26, .u32, .ro, 0, false, .slot, .any⟩,
  ⟨0xA000, 27, .bool, .ro, 0, false, .slot, .any⟩,
  ⟨0xA010, 0, .u8, .ro, 3, false, .none, .any⟩,
  ⟨0xA010, 1, .u16, .rw, 20, true, .none, .between 0 1000⟩,
  ⟨0xA010, 2, .bits32, .ro, 0, false, .none, .any⟩,
  ⟨0xA010, 3, .u32, .ro, 0, false, .none, .any⟩,
  ⟨0xB000, 0, .u8, .ro, 5, false, .unit, .any⟩]

/-- Objects 0xB000 and up: rows of the dictionary tables of the home chapters. -/
def objRows19 : List ObjDesc := [
  ⟨0xB000, 1, .enum8, .ro, 0, false, .unit, .any⟩,
  ⟨0xB000, 2, .table, .ro, 0, false, .unit, .any⟩,
  ⟨0xB000, 3, .table, .rw, 0, true, .unit, .any⟩,
  ⟨0xB000, 4, .cmd, .cmd, 0, false, .unit, .any⟩,
  ⟨0xB000, 5, .bits64, .ro, 0, false, .unit, .any⟩,
  ⟨0xB010, 0, .u8, .ro, 2, false, .inst, .any⟩,
  ⟨0xB010, 1, .table, .ro, 0, false, .inst, .any⟩,
  ⟨0xB010, 2, .cmd, .cmd, 0, false, .inst, .any⟩,
  ⟨0xB020, 0, .u8, .ro, 2, false, .none, .any⟩,
  ⟨0xB020, 1, .bool, .rw, 1, true, .none, .any⟩,
  ⟨0xB020, 2, .u8, .ro, 3, false, .none, .any⟩,
  ⟨0xB100, 0, .u8, .ro, 8, false, .tile, .any⟩,
  ⟨0xB100, 1, .u8, .rw, 0, true, .tile, .betweenOr2 6 24 0 0⟩,
  ⟨0xB100, 2, .u64, .rw, 1, true, .tile, .between 1 18446744073709551615⟩,
  ⟨0xB100, 3, .table, .ro, 0, false, .tile, .any⟩,
  ⟨0xB100, 4, .u16, .ro, 0, false, .tile, .any⟩,
  ⟨0xB100, 5, .u64, .ro, 0, false, .tile, .any⟩,
  ⟨0xB100, 6, .bool, .rw, 0, false, .tile, .any⟩,
  ⟨0xB100, 7, .u64, .ro, 0, false, .tile, .any⟩,
  ⟨0xB100, 8, .u16, .rw, 65535, true, .tile, .betweenOr 0 4095 65535⟩,
  ⟨0xB200, 0, .u8, .ro, 8, false, .port, .any⟩,
  ⟨0xB200, 1, .u32, .rw, 0, true, .port, .between 0 1000000⟩,
  ⟨0xB200, 2, .enum8, .rw, 0, true, .port, .oneOf [0, 1]⟩,
  ⟨0xB200, 3, .cmd, .cmd, 0, false, .port, .any⟩,
  ⟨0xB200, 4, .cmd, .cmd, 0, false, .port, .any⟩,
  ⟨0xB200, 5, .enum8, .ro, 0, false, .port, .any⟩,
  ⟨0xB200, 6, .blob, .ro, 0, false, .port, .any⟩,
  ⟨0xB200, 7, .table, .ro, 0, false, .port, .any⟩,
  ⟨0xB200, 8, .u64, .ro, 0, false, .port, .any⟩,
  ⟨0xC000, 0, .u8, .ro, 9, false, .source, .any⟩]

/-- Objects 0xC000 and up: rows of the dictionary tables of the home chapters. -/
def objRows20 : List ObjDesc := [
  ⟨0xC000, 1, .bits32, .ro, 0, false, .source, .any⟩,
  ⟨0xC000, 2, .enum8, .ro, 0, false, .source, .any⟩,
  ⟨0xC000, 3, .bits32, .ro, 0, false, .source, .any⟩,
  ⟨0xC000, 4, .table, .ro, 0, false, .source, .any⟩,
  ⟨0xC000, 5, .blob, .ro, 0, false, .source, .any⟩,
  ⟨0xC000, 6, .cmd, .cmd, 0, false, .source, .any⟩,
  ⟨0xC000, 7, .enum8, .rw, 2, true, .source, .oneOf [0, 1, 2, 3]⟩,
  ⟨0xC000, 8, .u8, .rw, 0, true, .source, .any⟩,
  ⟨0xC000, 9, .enum8, .ro, 0, false, .source, .any⟩,
  ⟨0xC010, 0, .u8, .ro, 4, false, .none, .any⟩,
  ⟨0xC010, 1, .bool, .ro, 0, false, .none, .any⟩,
  ⟨0xC010, 2, .table, .ro, 0, false, .none, .any⟩,
  ⟨0xC010, 3, .u16, .ro, 0, false, .none, .any⟩,
  ⟨0xC010, 4, .cmd, .cmd, 0, false, .none, .any⟩,
  ⟨0xC100, 0, .u8, .ro, 8, false, .none, .any⟩,
  ⟨0xC100, 1, .enum8, .ro, 0, false, .none, .any⟩,
  ⟨0xC100, 2, .u32, .ro, 0, false, .none, .any⟩,
  ⟨0xC100, 3, .u32, .ro, 0, false, .none, .any⟩,
  ⟨0xC100, 4, .table, .ro, 0, false, .none, .any⟩,
  ⟨0xC100, 5, .u16, .ro, 0, false, .none, .any⟩,
  ⟨0xC100, 6, .cmd, .cmd, 0, false, .none, .any⟩,
  ⟨0xC100, 7, .cmd, .cmd, 0, false, .none, .any⟩,
  ⟨0xC100, 8, .u32, .ro, 0, false, .none, .any⟩,
  ⟨0xC101, 0, .u8, .ro, 2, false, .none, .any⟩,
  ⟨0xC101, 1, .table, .ro, 0, false, .none, .any⟩,
  ⟨0xC101, 2, .table, .ro, 0, false, .none, .any⟩,
  ⟨0xD000, 0, .u8, .ro, 13, false, .none, .any⟩,
  ⟨0xD000, 1, .bool, .rw, 0, true, .none, .any⟩,
  ⟨0xD000, 2, .cmd, .cmd, 0, false, .none, .any⟩,
  ⟨0xD000, 3, .table, .ro, 0, false, .none, .any⟩]

/-- Objects 0xD000 and up: rows of the dictionary tables of the home chapters. -/
def objRows21 : List ObjDesc := [
  ⟨0xD000, 4, .cmd, .cmd, 0, false, .none, .any⟩,
  ⟨0xD000, 5, .cmd, .cmd, 0, false, .none, .any⟩,
  ⟨0xD000, 6, .u64, .ro, 0, false, .none, .any⟩,
  ⟨0xD000, 7, .cmd, .cmd, 0, false, .none, .any⟩,
  ⟨0xD000, 8, .u8, .ro, 0, false, .none, .any⟩,
  ⟨0xD000, 9, .bits32, .ro, 0, false, .none, .any⟩,
  ⟨0xD000, 10, .enum8, .rw, 0, true, .none, .oneOf [0, 1, 2]⟩,
  ⟨0xD000, 11, .u16, .rw, 0, true, .none, .between 0 8760⟩,
  ⟨0xD000, 12, .blob, .ro, 0, false, .none, .any⟩,
  ⟨0xD000, 13, .u64, .ro, 0, false, .none, .any⟩,
  ⟨0xD010, 0, .u8, .ro, 6, false, .port, .any⟩,
  ⟨0xD010, 1, .enum8, .ro, 0, false, .port, .any⟩,
  ⟨0xD010, 2, .blob, .ro, 0, false, .port, .any⟩,
  ⟨0xD010, 3, .u8, .ro, 0, false, .port, .any⟩,
  ⟨0xD010, 4, .u32, .ro, 0, false, .port, .any⟩,
  ⟨0xD010, 5, .u32, .ro, 0, false, .port, .any⟩,
  ⟨0xD010, 6, .cmd, .cmd, 0, false, .port, .any⟩,
  ⟨0xD100, 0, .u8, .ro, 12, false, .none, .any⟩,
  ⟨0xD100, 1, .blob, .ro, 0, false, .none, .any⟩,
  ⟨0xD100, 2, .table, .ro, 0, false, .none, .any⟩,
  ⟨0xD100, 3, .u8, .ro, 0, false, .none, .any⟩,
  ⟨0xD100, 4, .u32, .ro, 0, false, .none, .any⟩,
  ⟨0xD100, 5, .blob, .wo, 0, false, .none, .any⟩,
  ⟨0xD100, 6, .cmd, .cmd, 0, false, .none, .any⟩,
  ⟨0xD100, 7, .cmd, .cmd, 0, false, .none, .any⟩,
  ⟨0xD100, 8, .cmd, .cmd, 0, false, .none, .any⟩,
  ⟨0xD100, 9, .cmd, .cmd, 0, false, .none, .any⟩,
  ⟨0xD100, 10, .enum8, .ro, 0, false, .none, .any⟩,
  ⟨0xD100, 11, .cmd, .cmd, 0, false, .none, .any⟩,
  ⟨0xD100, 12, .cmd, .cmd, 0, false, .none, .any⟩]

/-- Objects 0xE000 and up: rows of the dictionary tables of the home chapters. -/
def objRows22 : List ObjDesc := [
  ⟨0xE000, 0, .u8, .ro, 3, false, .none, .any⟩,
  ⟨0xE000, 1, .cmd, .cmd, 0, false, .none, .any⟩,
  ⟨0xE000, 2, .blob, .ro, 0, false, .none, .any⟩,
  ⟨0xE000, 3, .u16, .rw, 24, true, .none, .between 1 720⟩,
  ⟨0xE010, 0, .u8, .ro, 3, false, .none, .any⟩,
  ⟨0xE010, 1, .cmd, .cmd, 0, false, .none, .any⟩,
  ⟨0xE010, 2, .blob, .ro, 0, false, .none, .any⟩,
  ⟨0xE010, 3, .cmd, .cmd, 0, false, .none, .any⟩]

/-- Every subindex that the manual's dictionary tables define, in the order of index and subindex. -/
def objRows : List ObjDesc :=
  objRows0 ++ objRows1 ++ objRows2 ++ objRows3 ++ objRows4 ++ objRows5 ++ objRows6 ++ objRows7 ++ objRows8 ++ objRows9 ++ objRows10 ++ objRows11 ++ objRows12 ++ objRows13 ++ objRows14 ++ objRows15 ++ objRows16 ++ objRows17 ++ objRows18 ++ objRows19 ++ objRows20 ++ objRows21 ++ objRows22

/-- The row of an index and subindex. -/
def descOf (idx sub : Nat) : Option ObjDesc := objRows.find? fun d => d.idx == idx && d.sub == sub

/-- Whether a qualifier names a target: an HBM stack or a DSP port plus 16. -/
def isTargetNo (q : Nat) : Bool := q < 4 || (16 ≤ q && q < 80)

/-- The highest instance number of each fault-source class of Table 16-1 and of the home chapters' tables, plus one. -/
def sourceClassSize (c : Nat) : Nat :=
  if c = 0x10 then 1 else if c = 0x11 then 3 else if c = 0x12 then 1 else if c = 0x20 then 32 else if c = 0x21 then 64
  else if c = 0x30 then 4 else if c = 0x31 then 6 else if c = 0x32 then 4 else if c = 0x33 then 4
  else if c = 0x40 then 80 else if c = 0x41 then 4 else if c = 0x42 then 4 else if c = 0x43 then 80
  else if 0x50 ≤ c ∧ c ≤ 0x5F then 256 else if c = 0x60 then 4 else if c = 0x61 then 4 else if c = 0x62 then 64
  else if c = 0x68 then 4 else if c = 0x80 then 32 else if c = 0x81 then 1
  else if c = 0x90 then 5 else if c = 0x91 then 5 else if c = 0x92 then 5 else if c = 0x93 then 5
  else if c = 0xA0 then 16 else if c = 0xC1 then 1 else if c = 0xD0 then 65 else if c = 0xD1 then 1
  else if c = 0xE0 then 1 else 0

/-- Whether a source ID names a block (R335). -/
def isSource (q : Nat) : Bool :=
  decide (q % 256 < sourceClassSize (q / 256)) && (!(q / 256 == 0x40 || q / 256 == 0x43) || isTargetNo (q % 256))

/-- Whether a qualifier selects a unit that exists (R21, Table 2-5). -/
def qualOk (k : QualKind) (q : Nat) : Bool :=
  match k with
  | .none => q == 0
  | .port => decide (q < 64)
  | .lane => decide (q < 288)
  | .group => decide (256 ≤ q ∧ q < 288)
  | .tile => decide (q < 4)
  | .link => decide (q < 6)
  | .target => isTargetNo q
  | .hbm => decide (q < 4)
  | .extent => decide (q < 65536)
  | .gate => isTargetNo q
  | .inst => decide (q < 4096)
  | .queue => decide (q < 65536)
  | .sched => decide (q < 64) || decide (64 ≤ q ∧ isTargetNo (q - 64) = true)
  | .engine => decide (q < 1024)
  | .table => decide (q < 4096)
  | .domain => decide (q < 128 ∧ q % 32 ≤ 21) || q == 128 || q == 129
  | .sensor => decide (q < 5)
  | .slot => decide (q < 16)
  | .unit => decide (q < 90)
  | .source => isSource q

/-- Whether the value lies in the stated range (R23); `w` is the width in bits of a signed type. -/
def inRange (r : VRange) (w v : Nat) : Bool :=
  match r with
  | .any => true
  | .between lo hi => decide (lo ≤ v ∧ v ≤ hi)
  | .betweenOr lo hi x => decide (lo ≤ v ∧ v ≤ hi) || v == x
  | .betweenOr2 lo hi x y => decide (lo ≤ v ∧ v ≤ hi) || v == x || v == y
  | .sBetween lo hi => decide (lo ≤ toSigned w v ∧ toSigned w v ≤ hi)
  | .sBetweenOr lo hi x => decide (lo ≤ toSigned w v ∧ toSigned w v ≤ hi) || v == x
  | .oneOf vs => vs.contains v
  | .mask _ => true
  | .maskNZ _ => v != 0
  | .maskBit0 _ => v.testBit 0

/-- The bits a BITS object defines (Table 2-1): a value with another bit set is refused with TYPE. -/
def definedBits (r : VRange) (v : Nat) : Bool :=
  match r with
  | .mask m => clearMask v m == 0
  | .maskNZ m => clearMask v m == 0
  | .maskBit0 m => clearMask v m == 0
  | _ => true

/-- The default of an object instance: the value of its row, and the values that the home chapters give by qualifier
(Table 7-19: a target's mode, block code and scrub rate differ between HBM stacks and DSP ports). (Log 2: DESIGN CHOICE; log 165: DESIGN CHOICE.) -/
def objDefault (idx sub q : Nat) : Nat :=
  if idx = 0x4000 ∧ sub = 1 then (if q < 4 then 1 else 0)
  else if idx = 0x4000 ∧ sub = 5 then (if q < 4 then 0 else 9)
  else if idx = 0x4000 ∧ sub = 13 then (if q < 4 then 64 else 8)
  else if idx = 0x2100 ∧ sub = 1 then (if q < 256 then 0 else 2)
  else if (idx = 0x2101 ∨ idx = 0x2102) ∧ sub = 2 then 2
  else if idx = 0x9000 ∧ sub = 2 then (if q < 128 then 2 else 0)
  else if idx = 0x8000 ∧ sub = 2 then 1
  else match descOf idx sub with
    | some d => d.dflt
    | none => 0

end Sys2Proof.Machine
end

