-- ==== Sys2Proof/Machine/Ops.lean ====
section
/-!
DEFINITION. The named operations over the state that every family uses: dictionary objects and their status words,
what leaves the device, free values and time.
-/
namespace Sys2Proof.Machine

open Sys2Proof

/-- The key of an object instance: index, subindex, qualifier (R21). -/
def okey (idx sub q : Nat) : Nat := (idx * 256 + sub) * 65536 + q

/-- The value of an integer object. -/
def rd (s : State) (idx sub q : Nat) : Nat := look (objDefault idx sub q) s.obj (okey idx sub q)

/-- Write an integer object. -/
def wr (s : State) (idx sub q v : Nat) : State := { s with obj := put s.obj (okey idx sub q) v }

/-- Add to a counter object of `w` bits, which wraps. -/
def bump (s : State) (idx sub q w n : Nat) : State := wr s idx sub q ((rd s idx sub q + n) % 2 ^ w)

/-- The bytes of a BLOB or STR32 object. -/
def rdBlob (s : State) (idx sub q : Nat) (d : List Byte) : List Byte := look d s.blob (okey idx sub q)

/-- Write a BLOB or STR32 object. -/
def wrBlob (s : State) (idx sub q : Nat) (v : List Byte) : State := { s with blob := put s.blob (okey idx sub q) v }

/-- The key of one record of a TABLE object. -/
def tkey (idx sub q n : Nat) : Nat := okey idx sub q * 4194304 + n

/-- One record of a TABLE object, as its big-endian number. -/
def rdTbl (s : State) (idx sub q n d : Nat) : Nat := look d s.tbl (tkey idx sub q n)

/-- Write one record of a TABLE object. -/
def wrTbl (s : State) (idx sub q n v : Nat) : State := { s with tbl := put s.tbl (tkey idx sub q n) v }

/-- Report something that leaves the device. -/
def emit (s : State) (o : Out) : State := { s with out := o :: s.out }

/-- The number of the next free value. (Log 5: DESIGN CHOICE.) -/
def freeNext (s : State) : State := { s with free := s.free + 1 }

/-- A free value of `w` bits. (Log 5: DESIGN CHOICE.) -/
def freeBits (s : State) (w : Nat) : Nat := Config.freeValue s.free % 2 ^ w

/-- The operating seconds (R350): the AON island's count, at 1.5 GHz core cycles to the second. -/
def secondsNow (s : State) : Nat := (s.clock.secBase + s.clock.core / 1500000000) % 2 ^ 32

/-- A TIME value: operating seconds, then the power-cycle count (Table 2-1). -/
def timeNow (s : State) : Nat := secondsNow s * 2 ^ 32 + s.clock.powerCycles % 2 ^ 32

/-- The STATE field of a CMD status word (Table 2-3). -/
def cmdState (s : State) (idx sub q : Nat) : Nat := bits (rd s idx sub q) 31 24

/-- Whether the action of a CMD object instance runs. -/
def cmdRunning (s : State) (idx sub q : Nat) : Bool := cmdState s idx sub q == 1

/-- A CMD status word (Table 2-3). -/
def cmdWord (st reason seq : Nat) : Nat := st * 2 ^ 24 + reason % 256 * 2 ^ 16 + seq % 2 ^ 16

/-- An action starts: STATE running, ACTION_SEQ one higher (R25). -/
def cmdStart (s : State) (idx sub q : Nat) : State := wr s idx sub q (cmdWord 1 0 (rd s idx sub q % 2 ^ 16 + 1))

/-- A running action ends with a state and a reason. -/
def cmdEnd (s : State) (idx sub q st reason : Nat) : State := wr s idx sub q (cmdWord st reason (rd s idx sub q))

/-- An action that starts and ends within one command: completed with reason 0, or failed with the reason. -/
def cmdDone (s : State) (idx sub q reason : Nat) : State :=
  cmdEnd (cmdStart s idx sub q) idx sub q (if reason = 0 then 2 else 3) reason

/-- The code of a status (Table 2-11). -/
def Status.code : Status → Nat
  | .ok => 0 | .absent => 1 | .denied => 2 | .type => 3 | .range => 4 | .readOnly => 5 | .writeOnly => 6
  | .notQuiesced => 7 | .busy => 8 | .conflict => 9 | .tooLarge => 10 | .version => 11 | .session => 12
  | .stale => 13 | .ignored => 14 | .limit => 15

/-- The number of a severity (Table 16-6). -/
def sevCode : Severity → Nat
  | .info => 0 | .notice => 1 | .fault => 2 | .critical => 3

/-- The operating mode: 1 POOL, 2 SHARE, 3 CASCADE, 4 EXPANDER, 5 SERVICE, 6 RECOVERY (0x1200:02). -/
def modeNow (s : State) : Nat := rd s 0x1200 2 0

end Sys2Proof.Machine
end

