-- ==== Sys2Proof/Machine/Faults.lean ====
section
/-!
DEFINITION. Fault sources, their causes, FAULT_N, MSI-X and the Strandline records (chapter 16), and the commands of
the fault machinery.
-/
namespace Sys2Proof.Machine

open Sys2Proof

/-! Ports' functions and interrupts. -/

def fnInit : FnSt := { bme := false, flr := false, reads := [], heldTags := [], msix := [], ras := 0 }

/-- The key of a function: the LD's function, or 16 for the manager's function. -/
def fnKey (p f : Nat) : Nat := p * 32 + f

def getFn (s : State) (k : Nat) : FnSt := look fnInit s.fns k

def setFn (s : State) (k : Nat) (v : FnSt) : State := { s with fns := put s.fns k v }

/-- The key of the manager's function, on the USP named at 0x1102:02; none while it names no port. -/
def mgrFn (s : State) : Option Nat := if rd s 0x1102 2 0 < 64 then some (fnKey (rd s 0x1102 2 0) 16) else none

/-- An MSI-X message of a function: sent, or pending while the egress block is in force (R94); a vector already
pending is sent once. -/
def msixSend (s : State) (k vector : Nat) : State :=
  if (getFn s k).bme then emit s (.msix k vector)
  else setFn s k { getFn s k with msix := if (getFn s k).msix.contains vector then (getFn s k).msix else (getFn s k).msix ++ [vector] }

/-! Strandline records. -/

/-- Severities in their order. -/
def sevLe (a b : Severity) : Bool := decide (sevCode a ≤ sevCode b)

/-- The 64 bytes of a record (Table 16-6). -/
def Rec.bytes (r : Rec) : List Byte :=
  be 2 (sevCode r.sev * 2 ^ 14 + r.event % 2 ^ 14) ++ be 2 r.src ++ be 4 r.seq ++ be 4 r.seconds ++ be 4 r.cycles
    ++ (List.range 6).flatMap fun i => be 8 (nth 0 r.params i)

/-- The SEQ after a given one: 1 to 0xFFFF_FFFF, then 1 again (R349). -/
def seqAfter (n : Nat) : Nat := if n ≥ 0xFFFFFFFF then 1 else n + 1

/-- The oldest entry that a test accepts is taken out of a list; none when no entry is accepted. -/
def dropFirst {α : Type} (p : α → Bool) : List α → Option (List α)
  | [] => none
  | x :: t => if p x then some t else (dropFirst p t).map fun u => x :: u

/-- Count a lost record of a severity (0xC100:04). -/
def countLost (s : State) (sev : Severity) : State :=
  wrTbl s 0xC100 4 0 (sevCode sev) ((rdTbl s 0xC100 4 0 (sevCode sev) 0 + 1) % 2 ^ 32)

/-- A record enters the staging ring of 1,024 (R351, R353): in place of the oldest committed record when the ring is
full, else in place of the oldest waiting record of no higher severity, which is lost; else it is dropped. -/
def ringPush (s : State) (r : Rec) : State :=
  if s.flt.ring.length < 1024 then
    { s with flt := { s.flt with ring := s.flt.ring ++ [⟨r, false⟩] } }
  else match dropFirst (fun e : RingRec => e.committed) s.flt.ring with
    | some t => { s with flt := { s.flt with ring := t ++ [⟨r, false⟩] } }
    | none =>
      match s.flt.ring.find? (fun e => sevLe e.entry.sev r.sev), dropFirst (fun e : RingRec => sevLe e.entry.sev r.sev) s.flt.ring with
      | some lost, some t =>
        countLost { s with flt := { s.flt with ring := t ++ [⟨r, false⟩], ringLost := s.flt.ringLost + 1 } } lost.entry.sev
      | _, _ => countLost { s with flt := { s.flt with ringLost := s.flt.ringLost + 1 } } r.sev

/-- The tag of a message under a session key: the first 16 bytes of HMAC-SHA-384. (Log 166: DESIGN CHOICE.) -/
def odpTag (key : List Byte) (bytes : List Byte) : List Byte := padTo (Config.hmacSha384 key bytes) 16

/-- The header and body of an ODP message as bytes (Table 2-8). -/
def odpBytes (m : OdpMsg) : List Byte :=
  be 2 m.magic.toNat ++ [m.version, m.opcode] ++ be 2 m.flags.toNat ++ be 2 m.status.toNat ++ be 4 m.session.toNat
    ++ be 4 m.sequence.toNat ++ be 2 m.items.toNat ++ be 2 m.bodyLen.toNat ++ be 4 m.reserved.toNat ++ m.body

/-- An MCTP vendor-defined message with an ODP message, identified by a PCI vendor ID, over the 64-byte baseline transmission unit (R39). (Log 181: PRESUMED.) -/
def mctpUnits (vendor : Nat) (b : List Byte) : List (List Byte) :=
  let whole := [0x7E] ++ be 2 vendor ++ b
  (List.range (ceilDiv whole.length 64)).map fun k => slice whole (64 * k) 64

/-- What leaves the device for an ODP message: the message, and over MCTP the units that carry it. -/
def odpOut (s : State) (t : Transport) (m : OdpMsg) (o : Out) : List Out :=
  match t with
  | .udp => [o]
  | .mctp => [.mctpUnits (mctpUnits (rd s 0x1000 5 0) (odpBytes m ++ m.tag)), o]

/-- An ODP reply leaves on its transport. (Log 181: PRESUMED.) -/
def sendOdp (s : State) (t : Transport) (m : OdpMsg) : State := { s with out := odpOut s t m (.odp t m) ++ s.out }

/-- A NOTICE of a record to one session (R37, Table 2-9). -/
def noticeMsg (x : Session) (r : Rec) : OdpMsg :=
  let m : OdpMsg := { magic := 0x4F44, version := BitVec.ofNat 8 x.version, opcode := 0x31, flags := 2, status := 0
                      session := BitVec.ofNat 32 x.id, sequence := 0, items := 0, bodyLen := 64, reserved := 0
                      body := r.bytes, tag := [] }
  { m with tag := odpTag x.key (odpBytes m) }

/-- The sessions that a severity is sent to. -/
def subscribes (x : Session) (sev : Severity) : Bool :=
  match x.sub with
  | some n => decide (n ≤ sevCode sev)
  | none => false

/-- Each subscribing session is sent the record as a NOTICE when it is made (R37). -/
def sendNotices (s : State) (r : Rec) : State :=
  { s with out := ((s.mgmt.sessions.filter fun x => subscribes x r.sev).flatMap fun x =>
    odpOut s x.transport (noticeMsg x r) (.notice x.transport (noticeMsg x r))) ++ s.out }

/-- Headland firmware writes one Strandline record (R348, R349). (Log 177: DEDUCED.) -/
def record (s : State) (sev : Severity) (event src : Nat) (params : List Nat) : State :=
  let r : Rec := { sev := sev, event := event, src := src, seq := s.flt.nextSeq, seconds := secondsNow s
                   cycles := s.clock.powerCycles, params := params }
  sendNotices (ringPush { s with flt := { s.flt with nextSeq := seqAfter s.flt.nextSeq } } r) r

/-! Causes. -/

def causeInit : Cause :=
  { latched := false, merged := false, recorded := true, sev := .info, count := 0, countAtLatch := 0, latchSec := 0
    latchCyc := 0, params := [], held := false, heldMerged := false, heldSev := .info }

def sourceInit : Source := { causes := [], first := [], heldFirst := [], unreachable := false }

def getSource (s : State) (src : Nat) : Source := look sourceInit s.flt.sources src

def setSource (s : State) (src : Nat) (v : Source) : State :=
  { s with flt := { s.flt with sources := put s.flt.sources src v } }

def Source.cause (x : Source) (c : Nat) : Cause := look causeInit x.causes c

def Source.setCause (x : Source) (c : Nat) (v : Cause) : Source := { x with causes := put x.causes c v }

/-- The level causes of Table 16-2; the others up to bit 25 are sticky. -/
def isLevel (c : Nat) : Bool := c == 0 || c == 5 || c == 18 || c == 19 || c == 21 || c == 24

/-- The tile a source's block stands on; none for the Headland die (R348, p5). A Tidelink's is its lower-numbered end. (Log 221: DESIGN CHOICE.) -/
def sourceTile (src : Nat) : Option Nat :=
  let c := src / 256
  let i := src % 256
  if c = 0x20 then some (i / 8) else if c = 0x21 then some (i / 16)
  else if c = 0x30 ∨ c = 0x33 ∨ c = 0x41 ∨ c = 0x42 ∨ c = 0x60 ∨ c = 0x61 ∨ c = 0x68 then some (i % 4)
  else if c = 0x62 then some (i / 16)
  else if c = 0x32 then some (i % 4)
  else if c = 0x31 then some (if i < 3 then 0 else if i < 5 then 1 else 2)
  else if c = 0x40 ∨ c = 0x43 then (if i < 16 then some (i % 4) else some ((i - 16) / 16 % 4))
  else if c = 0x80 then some (i / 8 % 4)
  else if (c = 0x90 ∨ c = 0x91 ∨ c = 0x92) ∧ i < 4 then some i
  else none

/-- The core-cycle count of a tile (R319): the clock plus the tile's trim. -/
def tileCycles (s : State) (t : Nat) : Nat :=
  ((s.clock.core : Int) + toSigned 32 (rd s 0x9101 5 t)).toNat % 2 ^ 64

/-- The six parameters of a cause record (R348). -/
def causeParams (s : State) (src p0 : Nat) (ps : List Nat) : List Nat :=
  [p0, nth 0 ps 0, nth 0 ps 1, nth 0 ps 2, nth 0 ps 3,
    match sourceTile src with | some t => tileCycles s t | none => 0]

/-- Whether no cause of a source is latched in its block. -/
def Source.clear (x : Source) : Bool := x.causes.all fun e => !e.2.latched

/-- Whether no cause of a source is held. -/
def Source.noHeld (x : Source) : Bool := x.causes.all fun e => !e.2.held

/-- A source's MSI-X to the manager's function, when the severity reaches its threshold (R342); one message stays
pending behind Bus Master Enable however many latches arrive. -/
def sourceMsix (s : State) (src : Nat) (sev : Severity) : State :=
  if rd s 0xC000 7 src = 0 ∨ sevCode sev < rd s 0xC000 7 src then s
  else match mgrFn s with
    | none => s
    | some k =>
      if (getFn s k).bme then emit s (.msix k (rd s 0xC000 8 src))
      else if s.flt.msixPending.contains src then s
      else { s with flt := { s.flt with msixPending := s.flt.msixPending ++ [src] } }

/-- Headland firmware writes records: the dictionary answers, and the start-up has reached the power-on record (R344, R349). (Log 121: DEDUCED.) -/
def recording (s : State) : Bool := s.mgmt.ready && s.sec.stage == 3

/-- The record and interrupt of a latch or escalation: while Headland firmware is down the record waits for the rescan
(R344). (Log 170: DESIGN CHOICE.) -/
def report (s : State) (src c : Nat) (sev : Severity) (params : List Nat) : State :=
  if recording s then sourceMsix (record s sev (0x1000 + c) src params) src sev else sourceMsix s src sev

/-- A cause whose bit is clear latches (R337); on a source that cannot be reached Headland firmware holds it (R343). (Log 121: DEDUCED.) -/
def latchCause (s : State) (src c : Nat) (sev : Severity) (params : List Nat) : State :=
  let x := getSource s src
  let k := x.cause c
  let first : Rec := { sev := sev, event := 0x1000 + c, src := src, seq := s.flt.nextSeq, seconds := secondsNow s
                       cycles := s.clock.powerCycles, params := params }
  let n := (k.count + 1) % 2 ^ 32
  let x' := if x.unreachable then
      { x.setCause c { k with held := true, heldMerged := false, heldSev := sev, count := n } with
        heldFirst := if x.noHeld then first.bytes else x.heldFirst }
    else
      { x.setCause c { k with latched := true, merged := false, recorded := recording s, sev := sev, count := n
                              countAtLatch := n, latchSec := secondsNow s, latchCyc := s.clock.powerCycles
                              params := params } with
        first := if x.clear then first.bytes else x.first }
  report (setSource s src x') src c sev params

/-- The severity at which a cause stands, in its block or, when the source cannot be reached, in the held copy. -/
def Source.standing (x : Source) (c : Nat) : Option Severity :=
  if x.unreachable then (if (x.cause c).held then some (x.cause c).heldSev else none)
  else if (x.cause c).latched then some (x.cause c).sev else none

/-- An occurrence of a cause (R337 to R339): latch, merge, or escalate. `always` asks for the record that some rules
require for every event, even when the occurrence merges (R338). An Info event latches nothing, and a level cause none
at a source that cannot be reached (R343). -/
def raiseEv (s : State) (src c : Nat) (sev : Severity) (p0 : Nat) (ps : List Nat) (always : Bool) : State :=
  if isSource src = false ∨ 26 ≤ c ∨ sev = .info then s
  else
    let x := getSource s src
    let k := x.cause c
    let params := causeParams s src p0 ps
    if x.unreachable = true ∧ isLevel c = true then (if always ∧ recording s = true then record s sev (0x1000 + c) src params else s)
    else match x.standing c with
    | none => latchCause s src c sev params
    | some old =>
      if sevLe sev old then
        let n := (k.count + 1) % 2 ^ 32
        let s1 := setSource s src (x.setCause c (if x.unreachable then { k with count := n, heldMerged := true }
                                                 else { k with count := n, merged := true }))
        if always ∧ recording s = true then record s1 sev (0x1000 + c) src params else s1
      else
        let n := (k.count + 1) % 2 ^ 32
        report (setSource s src (x.setCause c (if x.unreachable then { k with count := n, heldSev := sev }
                                               else { k with count := n, sev := sev, recorded := recording s
                                                             params := params }))) src c sev params

/-- A cause that needs no record of its own when it merges. (Log 177: DEDUCED.) -/
def raise (s : State) (src c : Nat) (sev : Severity) (ps : List Nat) : State := raiseEv s src c sev 0 ps false

/-- Empty the first captures of a source no cause of which is latched (R340). -/
def Source.settle (x : Source) : Source :=
  { x with first := if x.clear then [] else x.first, heldFirst := if x.noHeld then [] else x.heldFirst }

/-- A level cause unlatches because its condition ended (`why` 0) or its source became unreachable (1): record
0x1200 + cause (Table 16-7). -/
def unlatchLevel (s : State) (src c why : Nat) : State :=
  let x := getSource s src
  let k := x.cause c
  if isLevel c ∧ k.latched = true then
    let s1 := setSource s src (x.setCause c { k with latched := false, merged := false, recorded := true, sev := .info }).settle
    if recording s then record s1 .info (0x1200 + c) src [0, k.latchSec * 2 ^ 32 + k.latchCyc, why, 0, 0, 0] else s1
  else s

/-- A level cause's condition ends. -/
def endLevel (s : State) (src c : Nat) : State := unlatchLevel s src c 0

/-- Clear one cause of a source, in its block and in its held copy (R340, R343). -/
def clearCause (s : State) (src c : Nat) : State :=
  let x := getSource s src
  let k := x.cause c
  if isLevel c then s
  else if k.latched = true ∨ k.held = true then
    let s1 := setSource s src (x.setCause c { k with latched := false, merged := false, recorded := true, sev := .info
                                                     held := false, heldMerged := false, heldSev := .info }).settle
    if k.merged = true ∨ k.heldMerged = true then record s1 .info (0x1100 + c) src [0, k.count, k.countAtLatch, 0, 0, 0]
    else s1
  else s

/-- Clear the causes of a mask, in the order of their bits. -/
def clearMaskOf (s : State) (src mask : Nat) : State :=
  (List.range 26).foldl (fun a c => if mask.testBit c then clearCause a src c else a) s

/-- A Clear with an occurrence of one cause in the same cycle (R340, R4): the merges before it end, with their Info
record first; then the new occurrence is handled as a first one. -/
def clearSame (s : State) (src mask : Nat) (o : Option CauseOcc) : State :=
  let s1 := clearMaskOf s src mask
  match o with
  | some e => raise s1 src e.cause.val e.sev e.params
  | none => s1

/-- A source becomes unreachable (R343): its latched sticky causes pass to the held copy, its level causes unlatch. (Log 122: DEDUCED.) -/
def holdSource (s : State) (src : Nat) : State :=
  let x := getSource s src
  if x.unreachable then s
  else
    let x1 : Source :=
      { causes := mapVals x.causes fun c k =>
          if isLevel c = false ∧ k.latched = true then
            { k with latched := false, held := true, heldMerged := k.merged || k.heldMerged, merged := false
                     heldSev := if k.held = true ∧ sevLe k.sev k.heldSev = true then k.heldSev else k.sev }
          else k
        first := [], heldFirst := if x.noHeld then x.first else x.heldFirst, unreachable := true }
    let s1 := ((List.range 26).filter fun c => isLevel c && (x.cause c).latched).foldl (fun a c => unlatchLevel a src c 1) s
    let y := getSource s1 src
    setSource s1 src { x1 with causes := mapVals x1.causes fun c k => if isLevel c then y.cause c else k }

/-- A source becomes reachable again: its block starts clear (R343). (Log 122: DEDUCED.) -/
def freeSource (s : State) (src : Nat) : State := setSource s src { getSource s src with unreachable := false }

/-- Every source that a state has a record of and a test names. -/
def sourcesWhere (s : State) (p : Nat → Bool) : List Nat := (s.flt.sources.map (·.1)).filter p

/-- The source classes whose blocks stand on one tile, but for the Tidelinks. -/
def tileClasses : List Nat := [0x20, 0x21, 0x30, 0x32, 0x33, 0x40, 0x41, 0x42, 0x43, 0x60, 0x61, 0x62, 0x68, 0x80, 0x90, 0x91, 0x92]

/-- The sources of the blocks of a tile. -/
def tileSources (t : Nat) : List Nat :=
  tileClasses.flatMap fun c => ((List.range 80).map (256 * c + ·)).filter fun x => isSource x && sourceTile x == some t

/-- The child domain in which a source's block stands (Table 17-1); none stands in its tile's core domain. -/
def sourceDom (src : Nat) : Option Nat :=
  let c := src / 256
  let i := src % 256
  if c = 0x20 then some (32 * (i / 8) + 9 + i % 8)
  else if c = 0x21 then some (32 * (i / 16) + 9 + i / 2 % 8)
  else if c = 0x80 then some (32 * (i / 8) + 1 + i % 8)
  else if c = 0x41 then some (32 * (i % 4) + 21)
  else none

/-- A source can be reached: its tile is in service and its domain is ON (R343). -/
def sourceReached (s : State) (src : Nat) : Bool :=
  match sourceTile src with
  | some t => rd s 0x3000 2 t == 3 && rd s 0x9000 2 (32 * t) == 0 && (match sourceDom src with | some d => rd s 0x9000 2 d == 0 | none => true)
  | none => true

/-- The sources of a tile become unreachable (R343). -/
def holdTileSources (s : State) (t : Nat) : State := (tileSources t).foldl holdSource s

/-- Those of some sources that can be reached again. -/
def freeSources (s : State) (l : List Nat) : State := (l.filter (sourceReached s)).foldl freeSource s

/-- The latched causes of a source, live and held, as bits (0xC000:01). -/
def causeBits (x : Source) : Nat :=
  (List.range 26).foldl (fun a c => if (x.cause c).latched || (x.cause c).held then a + 2 ^ c else a) 0

/-- FAULT_N is driven low (R341): while a source has a cause latched or held, and while the first scan runs. -/
def faultN (s : State) : Bool := s.flt.scanning || s.flt.sources.any fun e => causeBits e.2 != 0

/-- The MERGED flags of a source (0xC000:03). -/
def mergedBits (x : Source) : Nat :=
  (List.range 26).foldl (fun a c => if (x.cause c).merged || (x.cause c).heldMerged then a + 2 ^ c else a) 0

/-- The highest latched severity of a source (0xC000:02). -/
def topSeverity (x : Source) : Nat :=
  x.causes.foldl (fun a e => max a (max (if e.2.latched then sevCode e.2.sev else 0) (if e.2.held then sevCode e.2.heldSev else 0))) 0

/-- 0xC000:09: 0 live, 1 held, 2 live with held causes. -/
def reachCode (x : Source) : Nat := if x.unreachable then 1 else if x.noHeld then 0 else 2

/-- The sources with a latched or held cause, in ascending source ID (0xC010:02). -/
def openSources (s : State) : List Nat :=
  (s.flt.sources.filter fun e => causeBits e.2 != 0).map (·.1)

/-- Clear of every sticky cause of every source (0xC010:04). -/
def clearAllSources (s : State) : State :=
  (openSources s).foldl (fun a src => clearMaskOf a src (2 ^ 26 - 1)) s

/-! The recorder. -/

/-- Number of ring records that await commit (0xC100:05). -/
def awaiting (s : State) : Nat := (s.flt.ring.filter fun e => !e.committed).length

/-- The record of a SEQ marked committed. -/
def markCommitted (l : List RingRec) (q : Nat) : List RingRec :=
  l.map fun e => if e.entry.seq = q then { e with committed := true } else e

/-- One record is committed to the store of 131,072 (R352): appended, or in place of the oldest record of no higher
severity, taking the newest end; else lost. -/
def commitRec (s : State) (r : Rec) : State :=
  let s1 := { s with flt := { s.flt with ring := markCommitted s.flt.ring r.seq } }
  if s.flt.store.length < 131072 then { s1 with flt := { s1.flt with store := s1.flt.store ++ [r] } }
  else match dropFirst (fun e : Rec => sevLe e.sev r.sev) s.flt.store with
    | some t => { s1 with flt := { s1.flt with store := t ++ [r] } }
    | none => countLost s1 r.sev

/-- The oldest record that awaits commit. -/
def nextCommit (s : State) : Option Rec := (s.flt.ring.find? fun e => !e.committed).map (·.entry)

/-- Commit the records that await it, oldest first. -/
def commitAll : Nat → State → State
  | 0, s => s
  | n + 1, s =>
    match nextCommit s with
    | some r => commitAll n (commitRec s r)
    | none => s

/-- The store's state (0xC100:01): 0 committing, 1 failed, 2 erasing. -/
def storeState (s : State) : Nat := rd s 0xC100 1 0

/-- Erase (R436): fails with REASON 0xC1 while the store has failed; else record 0x0005 takes the next SEQ and every
record with a lower SEQ is erased. -/
def eraseStore (s : State) : State :=
  if storeState s = 1 then cmdDone s 0xC100 6 0 0xC1
  else
    let n := s.flt.store.length + awaiting s
    let s1 := cmdStart s 0xC100 6 0
    let s2 := { s1 with flt := { s1.flt with store := [], ring := [] } }
    record (wr s2 0xC100 1 0 2) .info 0x0005 0xC100 [0, n, 0, 0, 0, 0]

/-- Retry store (R354). -/
def retryStore (s : State) (answers : Bool) : State :=
  if answers then
    let n := awaiting s
    let s1 := commitAll n (wr (cmdStart s 0xC100 7 0) 0xC100 1 0 0)
    let s2 := record s1 .notice 0x0004 0xC100 [0, n, s.flt.ringLost, 0, 0, 0]
    let s3 := endLevel { s2 with flt := { s2.flt with ringLost := 0 } } 0xC100 24
    cmdEnd s3 0xC100 7 0 2 0
  else cmdDone s 0xC100 7 0 0xC1

/-- The store fails (R354): LOG_STORE at Fault, commits stop. (Log 123: DEDUCED.) -/
def storeFails (s : State) : State :=
  let s1 := wr { s with flt := { s.flt with ringLost := 0 } } 0xC100 1 0 1
  let s2 := if cmdRunning s1 0xC100 6 0 then cmdEnd s1 0xC100 6 0 3 0xC1 else s1
  raise s2 0xC100 24 .fault []

/-- A latched cause without a record is recorded (R344). -/
def rescanCause (s : State) (src c : Nat) : State :=
  let k := (getSource s src).cause c
  if k.latched = true ∧ k.recorded = false then
    record (setSource s src ((getSource s src).setCause c { k with recorded := true })) k.sev (0x1000 + c) src k.params
  else s

/-- Headland firmware scans every source (R344); FAULT_N's first scan ends (R341). (Log 121: DEDUCED.) -/
def rescanAll (s : State) : State :=
  let s1 := (sourcesWhere s fun _ => true).foldl (fun a src => (List.range 26).foldl (fun b c => rescanCause b src c) a) s
  { s1 with flt := { s1.flt with scanning := false } }

end Sys2Proof.Machine
end

