-- ==== Sys2Proof/Machine/Operands.lean ====
section
/-!
DEFINITION. How a requester reaches an object: presence, privilege, type, range and the other checks of R431, in their
order, and the write of one object that every command of its own shares.
-/
namespace Sys2Proof.Machine

open Sys2Proof

/-- Whether a configuration has a port behind a port number (R9): by the shape of its group. -/
def portExists (s : State) (p : Nat) : Bool :=
  let sh := rd s 0x2140 3 (256 + p / 2)
  if sh = 1 then p % 2 == 0 else if sh = 2 then true else if sh = 3 then p % 4 == 0 else false

/-- The mode whose roles the ports act in: while a transition waits for links (0x1200:03 reads 3, R50), the mode it enters. -/
def roleMode (s : State) : Nat := if rd s 0x1200 3 0 = 3 then s.mode.target else modeNow s

/-- Every port is a USP: in EXPANDER, and in SERVICE that was entered from it (Table 3-1: roles as configured before entry). (Log 34: DEDUCED.) -/
def allUsp (s : State) : Bool := roleMode s == 4 || (roleMode s == 5 && rd s 0x1200 5 0 == 4)

/-- The role a port acts in (Table 3-1, R83): in RECOVERY the manager's USP alone; role 3 as none outside CASCADE; every port a USP in
EXPANDER. (Log 34: DEDUCED.) -/
def actingRole (s : State) (p : Nat) : Nat :=
  if roleMode s = 6 then (if rd s 0x1102 2 0 = p ∧ rd s 0x2000 1 p = 1 then 1 else 0)
  else if allUsp s then 1
  else if rd s 0x2000 1 p = 3 ∧ roleMode s ≠ 3 then 0 else rd s 0x2000 1 p

/-- The ranges present in RECOVERY (R46). -/
def recoveryRange (idx : Nat) : Bool :=
  decide (0x1000 ≤ idx ∧ idx < 0x1300) || decide (0xC000 ≤ idx ∧ idx < 0xC200) || decide (0xD000 ≤ idx ∧ idx < 0xE100)

/-- Whether a target number stands for an HBM stack, or for a port of the configuration that is a DSP (R9, R132). -/
def tgtExists (s : State) (t : Nat) : Bool :=
  decide (t < 4) || (decide (16 ≤ t ∧ t < 80) && portExists s (t - 16) && rd s 0x2000 1 (t - 16) == 2)

/-- Whether an object instance is present, beyond its row and qualifier: R9, R46, R160 and the Meanings that make a
subindex absent for some qualifiers. -/
def present (s : State) (d : ObjDesc) (q : Nat) : Bool :=
  (modeNow s != 6 || recoveryRange d.idx)
  && (!(d.qual == .port) || portExists s q)
  && (!(d.qual == .sched && decide (q < 64)) || portExists s q)
  && (!(d.idx == 0x2330) || actingRole s q == 1)
  && (!(d.idx == 0x4000 && d.sub == 8) || decide (q < 4))
  && (!(d.qual == .target || d.qual == .gate) || tgtExists s q)
  && (!(d.idx == 0x7200 && d.sub == 3) || !(decide (64 ≤ q ∧ q < 68)))
  && (!(d.idx == 0x9000 && d.sub == 9) || decide (q < 128 ∧ 9 ≤ q % 32 ∧ q % 32 ≤ 16))
  && (!(d.idx == 0x9200 && (d.sub == 4 || d.sub == 5 || d.sub == 6)) || decide (q < 4))
  && (!(d.idx == 0xB000 && d.sub == 3) || decide (q < 64))
  && (!(d.idx == 0x8010) || q % 32 == 0)
  && (!(d.qual == .source && (q / 256 == 0x21 || q / 256 == 0x62 || (q / 256 == 0xD0 && decide (q % 256 < 64)))) || portExists s (q % 256))
  && (!(d.qual == .source && (q / 256 == 0x40 || q / 256 == 0x43) && decide (16 ≤ q % 256)) || tgtExists s (q % 256))

/-- A tenant addresses an object of another instance (check 1 of R431). -/
def otherInstance (r : Requester) (k : QualKind) (q : Nat) : Bool :=
  match r, k with
  | .tenant i, .inst => q != i.val
  | .tenant i, .queue => q / 16 != i.val
  | _, _ => false

/-- A tenant addresses the objects of a step table that it does not own (Table 11-14). -/
def foreignTable (s : State) (r : Requester) (idx q : Nat) : Bool :=
  match r with
  | .tenant i => idx == 0x8100 && rd s 0x8100 2 q != i.val
  | _ => false

/-- Whether a tenant's own objects include this index (Table 2-4, R297, R318, and the Meanings that let a tenant read
its own). -/
def tenantIndex (d : ObjDesc) : Bool :=
  (d.qual == .inst && (d.idx == 0x5000 || d.idx == 0x5010 || d.idx == 0x5020 || d.idx == 0x5100 || d.idx == 0x5200
    || d.idx == 0x7000 || d.idx == 0x4310 || d.idx == 0x6810 || d.idx == 0xB010))
  || d.idx == 0x7100 || d.idx == 0x8100 || d.idx == 0xB100 || d.idx == 0xB200

/-- The index ranges in which a tenant has objects of its own (Tables 2-4 and 2-5): what it may read there beside them is ABSENT; those
of telemetry as the manager grants them at 0x5000:06. -/
def tenantRange (s : State) (i idx : Nat) : Bool :=
  decide (0x5000 ≤ idx ∧ idx < 0x6000) || decide (0x7000 ≤ idx ∧ idx < 0x7100)
    || (decide (0xB000 ≤ idx ∧ idx < 0xB100) && bit (rd s 0x5000 6 i) 0) || (decide (0xB100 ≤ idx ∧ idx < 0xB200) && bit (rd s 0x5000 6 i) 1)
    || (decide (0xB200 ≤ idx ∧ idx < 0xC000) && bit (rd s 0x5000 6 i) 2)

/-- The rights of Table 2-4 over an index range (check 2 of R431). -/
def rangeRight (r : Requester) (d : ObjDesc) (write : Bool) : Bool :=
  match r with
  | .vendor => true
  | .manager => decide (d.idx < 0xF000) && !(write && decide (0x1000 ≤ d.idx ∧ d.idx < 0x1100))
  | .operator =>
    if write then decide (0xB200 ≤ d.idx ∧ d.idx < 0xC000) || (d.idx == 0xE000 && d.sub == 1)
    else decide (d.idx < 0xF000) && !(decide (0xD000 ≤ d.idx ∧ d.idx < 0xD100))
  | .tenant _ => !write && tenantIndex d

/-- The privilege that an object's Meaning requires (check 4 of R431). -/
def meaningRight (s : State) (r : Requester) (d : ObjDesc) (q : Nat) (write : Bool) (v : Nat) : Bool :=
  match r with
  | .tenant i =>
    if d.idx = 0x5000 ∨ d.idx = 0x5010 ∨ d.idx = 0x7000 ∨ d.idx = 0x7100 ∨ d.idx = 0x4310 ∨ d.idx = 0x8100 then true
    else if d.idx = 0x5200 then d.sub == 0 || d.sub == 4 || d.sub == 5
    else if d.idx = 0x6810 then d.sub == 0 || d.sub == 3 || d.sub == 4
    else if d.idx = 0xB010 then bit (rd s 0x5000 6 i.val) 0
    else if d.idx = 0xB100 then bit (rd s 0x5000 6 i.val) 1 && (d.sub == 0 || d.sub == 3)
    else if d.idx = 0xB200 then bit (rd s 0x5000 6 i.val) 2 && rd s 0x5010 3 i.val == q && decide (5 ≤ d.sub)
    else false
  | .vendor => true
  | _ =>
    !(write && d.idx == 0x8001 && d.sub == 1 && decide (64 ≤ v ∧ v ≤ 67))
    && !(write && d.idx == 0x8100 && d.sub == 11 && decide (q < 512))

/-- The type of the value that a CMD object takes, by its Meaning: none where the Meaning allows any value or names none; U32, the type of
the status word, where it names numbers and no type. (Log 176: DEDUCED.) -/
def cmdType (idx sub : Nat) : Option ObjTy :=
  if idx = 0x1201 ∨ (idx = 0x2110 ∧ sub = 5) ∨ (idx = 0x2140 ∧ sub = 12) ∨ idx = 0x4001 ∨ (0x4100 ≤ idx ∧ idx ≤ 0x4103) ∨ idx = 0x8001
      ∨ (idx = 0xD100 ∧ sub = 6) then some .u32
  else if idx = 0x8110 then some .u16
  else if idx = 0xB000 then some .bits64
  else if idx = 0xC000 then some .bits32
  else if idx = 0x4110 ∨ (idx = 0x4300 ∧ (sub = 3 ∨ sub = 4)) ∨ idx = 0x6200 ∨ idx = 0x6830 ∨ idx = 0x5001 ∨ idx = 0x5100 ∨ (idx = 0x5200 ∧ sub = 3)
      ∨ (idx = 0xD000 ∧ (sub = 2 ∨ sub = 4 ∨ sub = 5)) ∨ idx = 0xE000 ∨ idx = 0xE010 then some .blob
  else none

/-- The CMD objects whose Meaning names numbers and no type: a value of any unsigned type fits them. (Log 176: DEDUCED.) -/
def plainNumber (idx sub : Nat) : Bool :=
  idx == 0x1201 || (idx == 0x2140 && sub == 12) || idx == 0x4001 || decide (0x4100 ≤ idx ∧ idx ≤ 0x4103) || idx == 0x8001

/-- The stated range of a CMD object's value (check 7). -/
def cmdRange (d : ObjDesc) (q : Nat) (v : List Byte) : Bool :=
  let n := ofBe v
  if d.ty ≠ .cmd then true
  else if d.idx = 0x1201 then n == 1 || n == 2
  else if d.idx = 0x2140 ∧ d.sub = 12 then decide (n ≤ 7)
  else if d.idx = 0x4001 then decide (n ≤ 31)
  else if 0x4100 ≤ d.idx ∧ d.idx ≤ 0x4103 then decide (n ≤ 1)
  else if d.idx = 0x4300 ∧ d.sub = 3 then fieldBe v 12 4 != 0 && fieldBe v 4 8 % 65536 == 0
  else if d.idx = 0x8001 then decide (n ≤ 67)
  else if d.idx = 0x8110 then decide (n < 4096)
  else if d.idx = 0x9000 then decide (q < 128) && q % 32 == 0
  else if d.idx = 0xE010 then decide (1 ≤ fieldBe v 8 4 ∧ fieldBe v 8 4 ≤ 256)
  else true

/-- Whether a value has a length that the object's type allows (check 6): TYPE otherwise. (Log 176: DEDUCED.) -/
def lengthOk (d : ObjDesc) (v : List Byte) : Bool :=
  match d.ty with
  | .str32 => decide (v.length ≤ 32)
  | .blob =>
    if d.idx = 0x7100 then v.length == 32 else if d.idx = 0xA000 then v.length == 8 else decide (v.length ≤ 65535)
  | .table => true
  | .cmd =>
    let n := v.length
    if d.idx = 0x4110 then n == 32
    else if d.idx = 0x4300 ∧ d.sub = 3 then n == 24
    else if d.idx = 0x4300 ∧ d.sub = 4 then n == 12
    else if d.idx = 0x6200 then n == 8
    else if d.idx = 0x6830 then n == 24
    else if d.idx = 0x5001 then n == 8
    else if d.idx = 0x5100 then n == 52
    else if d.idx = 0x5200 ∧ d.sub = 3 then n == 16
    else if d.idx = 0xD000 ∧ d.sub = 2 then n == 49
    else if d.idx = 0xD000 ∧ d.sub = 4 then n == 194
    else if d.idx = 0xD000 ∧ d.sub = 5 then n == 97
    else if d.idx = 0xE010 ∧ d.sub = 1 then n == 12
    else if d.idx = 0xE010 ∧ d.sub = 3 then decide (13 ≤ n)
    else if d.idx = 0xE000 then n == 16
    else if plainNumber d.idx d.sub then n == 1 || n == 2 || n == 4 || n == 8
    else match cmdType d.idx d.sub with
      | some t => n == t.wire
      | none => true
  | t => v.length == t.wire

/-- Whether the length of a number of no stated type is that of the type code it comes with (check 6). (Log 176: DEDUCED.) -/
def widthOk (d : ObjDesc) (ty : Nat) (v : List Byte) : Bool :=
  !(d.ty == .cmd && plainNumber d.idx d.sub) || v.length == 2 ^ (ty - 2)

/-- UTF-8 well-formedness of a STR32: no NUL and well-formed sequences (Table 2-1). -/
def utf8Ok : List Byte → Bool
  | [] => true
  | a :: t =>
    let cont (b : Byte) : Bool := decide (0x80 ≤ b.toNat ∧ b.toNat ≤ 0xBF)
    let n := a.toNat
    if n = 0 then false
    else if n < 0x80 then utf8Ok t
    else match t with
      | b :: u =>
        if 0xC2 ≤ n ∧ n ≤ 0xDF then cont b && utf8Ok u
        else match u with
          | c :: w =>
            if 0xE0 ≤ n ∧ n ≤ 0xEF then
              cont b && cont c && !(n == 0xE0 && decide (b.toNat < 0xA0)) && !(n == 0xED && decide (0x9F < b.toNat)) && utf8Ok w
            else match w with
              | e :: x =>
                decide (0xF0 ≤ n ∧ n ≤ 0xF4) && cont b && cont c && cont e && !(n == 0xF0 && decide (b.toNat < 0x90))
                  && !(n == 0xF4 && decide (0x8F < b.toNat)) && utf8Ok x
              | [] => false
          | [] => false
      | [] => false

/-- Validity other than range (check 6): BOOL values, undefined bits, UTF-8. -/
def validOk (d : ObjDesc) (v : List Byte) : Bool :=
  match d.ty with
  | .bool => decide (ofBe v ≤ 1)
  | .bits32 => definedBits d.range (ofBe v)
  | .bits64 => definedBits d.range (ofBe v)
  | .str32 => utf8Ok v
  | _ => true

/-- The DevLoad limits 0x2300:01 to :03 rise strictly (R99). -/
def limitsRise (s : State) (d : ObjDesc) (q v : Nat) : Bool :=
  if d.idx = 0x2300 ∧ d.sub = 1 then decide (v < rd s 0x2300 2 q)
  else if d.idx = 0x2300 ∧ d.sub = 2 then decide (rd s 0x2300 1 q < v ∧ v < rd s 0x2300 3 q)
  else if d.idx = 0x2300 ∧ d.sub = 3 then decide (rd s 0x2300 2 q < v)
  else true

/-- The stated range (check 7). -/
def rangeOk (d : ObjDesc) (v : List Byte) : Bool :=
  match d.ty with
  | .i32 => inRange d.range 32 (ofBe v)
  | .i64 => inRange d.range 64 (ofBe v)
  | _ => inRange d.range 64 (ofBe v)

/-- The unit that owns an RWQ object is quiesced (R24, R49, R134, and the Meanings of the RWQ objects). While a transition
applies its patches every unit it quiesced counts as quiesced. -/
def unitQuiesced (s : State) (idx q : Nat) : Bool :=
  if idx = 0x2000 then rd s 0x2140 2 (256 + q / 2) == 2 || rd s 0x1200 3 0 == 2
  else if idx = 0x2140 then rd s 0x2140 2 q == 2 || rd s 0x1200 3 0 == 2
  else if idx = 0x4000 then rd s 0x4000 2 q == 0 || rd s 0x4000 2 q == 1 || rd s 0x4000 2 q == 7
  else if idx = 0xA000 then rd s 0xA000 2 q == 0 || rd s 0xA000 2 q == 6
  else modeNow s == 5

/-- The object is locked by a running mode transition (check 9): it lies in the touched set. (Log 29: DEDUCED.) -/
def modeLocked (s : State) (idx sub q : Nat) : Bool :=
  rd s 0x1200 3 0 != 0 && s.mode.touched.contains (okey idx sub q)

/-- One item of a request: the object, its type code, its value, and the expected change counter of a COND write. -/
structure Item where
  idx : Nat
  sub : Nat
  qual : Bool
  q : Nat
  ty : Nat
  value : List Byte
  cond : Option Nat
  deriving DecidableEq, Repr

/-- The instance an item addresses: a tenant that omits the qualifier of an instance object means its own (R27). -/
def itemQual (r : Requester) (d : ObjDesc) (it : Item) : Nat :=
  match r, d.qual with
  | .tenant i, .inst => if it.qual then it.q else i.val
  | _, _ => it.q

/-- A DSP target's scheduler is its port's (R311). -/
def schedOf (q : Nat) : Nat := if 80 ≤ q then q - 80 else q

/-- The qualifier under which an object stands. -/
def canonQual (idx q : Nat) : Nat := if idx = 0x7200 then schedOf q else q

/-- The change counter of an object instance (R34). (Log 9: DEDUCED.) -/
def changeOf (s : State) (idx sub q : Nat) : Nat := look 0 s.chg (okey idx sub q)

/-- The change counter rises by one on a write item answered OK and on an accepted chunk (R34). (Log 9: DEDUCED.) -/
def bumpChange (s : State) (idx sub q : Nat) : State :=
  { s with chg := put s.chg (okey idx sub q) ((changeOf s idx sub q + 1) % 2 ^ 16) }

/-- A type code that an item may carry: that of the object, or any in a read; of a CMD object the type of its value in a write, U32 in a
read. (Log 176: DEDUCED.) -/
def typeOk (d : ObjDesc) (ty : Nat) (write : Bool) : Bool :=
  if d.ty = .cmd then
    (if write then
      (if plainNumber d.idx d.sub then decide (2 ≤ ty ∧ ty ≤ 5)
       else match cmdType d.idx d.sub with
        | some t => ty == t.code || (d.idx == 0x6200 && ty == 5)
        | none => true)
     else ty == 4 || ty == 0)
  else ty == d.ty.code || (!write && ty == 0)

/-- Checks 1 to 4 of R431, with the value that a Meaning may look at. (Log 10: DEDUCED.) -/
def reachChecks (s : State) (r : Requester) (it : Item) (write : Bool) : Option Status :=
  match descOf it.idx it.sub with
  | none =>
    -- check 2 comes before check 3: a level with no right over the range is DENIED
    if it.idx ≥ 0xF000 ∧ r ≠ .vendor then some .denied
    else match r with
      | .tenant i =>
        some (if (tenantRange s i.val it.idx = true ∨ tenantIndex ⟨it.idx, 0, .u8, .ro, 0, false, .inst, .any⟩ = true) ∧ write = false
          then .absent else .denied)
      | .operator =>
        some (if rangeRight .operator ⟨it.idx, it.sub, .u8, .ro, 0, false, .none, .any⟩ write then .absent else .denied)
      | .manager =>
        some (if rangeRight .manager ⟨it.idx, it.sub, .u8, .ro, 0, false, .none, .any⟩ write then .absent else .denied)
      | .vendor => some .absent
  | some d =>
    let q := itemQual r d it
    if otherInstance r d.qual q = true ∨ foreignTable s r d.idx q = true then some .absent
    else if rangeRight r d write = false then some .denied
    else if qualOk d.qual q = false ∨ present s d q = false then some .absent
    else if meaningRight s r d q write (ofBe it.value) = false then some .denied
    else none

/-- The checks of R431 on a plain write item; none when it passes checks 1 to 11. (Log 10: DEDUCED.) -/
def writeChecks (s : State) (r : Requester) (it : Item) : Option Status :=
  match reachChecks s r it true with
  | some st => some st
  | none =>
    match descOf it.idx it.sub with
    | none => some .absent
    | some d =>
      let q := itemQual r d it
      if d.ty = .table then some .type
      else if d.acc = .ro then some .readOnly
      else if typeOk d it.ty true = false ∨ lengthOk d it.value = false ∨ widthOk d it.ty it.value = false ∨ validOk d it.value = false then
        some .type
      else if rangeOk d it.value = false ∨ cmdRange d q it.value = false ∨ limitsRise s d q (ofBe it.value) = false then some .range
      else if it.cond.isSome ∧ it.cond ≠ some (changeOf s it.idx it.sub (canonQual it.idx q)) then some .conflict
      else if modeLocked s it.idx it.sub q then some .busy
      else if d.acc = .rwq ∧ unitQuiesced s it.idx q = false then some .notQuiesced
      else if d.acc = .cmd ∧ cmdRunning s it.idx it.sub q = true then some .busy
      else none

/-- The checks of R431 on a plain read item: checks 1 to 6. (Log 10: DEDUCED.) -/
def readChecks (s : State) (r : Requester) (it : Item) : Option Status :=
  match reachChecks s r it false with
  | some st => some st
  | none =>
    match descOf it.idx it.sub with
    | none => some .absent
    | some d =>
      if d.acc = .wo then some .writeOnly
      else if d.ty = .table then some .type
      else if typeOk d it.ty false = false then some .type
      else none

/-- The item that a command with a row of its own writes: the object with its own type. -/
def rowItem (idx sub q : Nat) (v : List Byte) : Item :=
  { idx := idx, sub := sub, qual := true, q := q
    ty := match descOf idx sub with
      | some d => if d.ty = .cmd then (match cmdType idx sub with | some t => t.code | none => 0) else d.ty.code
      | none => 0
    value := v, cond := none }

/-! Agreement of target and actual views (R30, R433). -/

/-- The stateful objects: those of Table 2-23, the lane test (Table 4-16) and the presentation of an instance (R297). -/
def statefulObjs : List Nat := [0x1200, 0x2010, 0x2101, 0x2102, 0x2110, 0x2140, 0x3000, 0x3100, 0x4000, 0x5010, 0x8000, 0x9000, 0xA000]

/-- The pairs of Table 2-23 whose values differ, and those of every object whose values are equal. -/
def pairAgrees (idx target actual : Nat) : Bool :=
  target == actual
    || (if idx = 0x2010 then target == 1 && actual != 0
        else if idx = 0x2101 ∨ idx = 0x2102 then target == 0
        else if idx = 0x2140 then target == 1 && actual == 2
        else if idx = 0x3000 then (target == 0 && (actual == 1 || actual == 4)) || (target == 1 && actual == 3)
        else if idx = 0x3100 then (target == 0 && actual == 5) || (target == 1 && decide (2 ≤ actual ∧ actual ≤ 4))
        else if idx = 0x4000 then
          (target == 0 && (actual == 1 || actual == 5 || actual == 7)) || (target == 1 && actual == 3)
            || (target == 2 && (actual == 4 || actual == 5))
        else if idx = 0x8000 then target == 0 && actual == 2
        else if idx = 0x9000 then target == 3 && decide (actual ≤ 1)
        else if idx = 0xA000 then (target == 0 && actual == 6) || (target == 1 && actual == 3)
        else false)

/-- A pair of equal numbers that Table 2-23 names as different states of the unit. -/
def pairDiffers (idx target actual : Nat) : Bool :=
  target == actual && ((idx == 0x3000 && target == 1) || (idx == 0x3100 && target == 1) || (idx == 0x4000 && decide (1 ≤ target ∧ target ≤ 2))
    || (idx == 0x2140 && target == 1) || (idx == 0xA000 && target == 1) || (idx == 0x9000 && target == 3))

/-- The views of a stateful object agree (Table 2-23). -/
def viewsAgree (s : State) (idx q : Nat) : Bool :=
  let target := rd s idx 1 q
  let actual := rd s idx 2 q
  (pairAgrees idx target actual && !pairDiffers idx target actual)
    || (idx == 0x1200 && actual == 6)
    || (idx == 0x2010 && actual == 0 && actingRole s q == 0)
    || (idx == 0x9000 && actual == 0 && target == 1 && s.pwr.doms.any fun e => e.1 == q && e.2.woken)

/-- The fault source of a stateful object. -/
def viewSource (idx q : Nat) : Nat :=
  if idx = 0x1200 then 0x1200
  else if idx = 0x2010 then 0x2100 + q
  else if idx = 0x5010 then 0x5000 + q
  else if idx = 0x2101 ∨ idx = 0x2102 ∨ idx = 0x2110 then 0x2000 + (if q < 256 then q / 8 else q - 256)
  else if idx = 0x2140 then 0x2000 + (q - 256)
  else if idx = 0x8000 then 0x8000 + q / 32
  else if idx = 0x9000 then 0x9000 + min 4 (q / 32)
  else idx + q

/-- The skews that are over are forgotten; a source with none left unlatches STATE_SKEW (R30). (Log 3: DESIGN CHOICE; log 22: DEDUCED.) -/
def settleViews (s : State) : State :=
  let gone := s.mgmt.skewed.filter fun e => viewsAgree s (e.1 / 16777216) (e.1 % 65536)
  let left := s.mgmt.skewed.filter fun e => !viewsAgree s (e.1 / 16777216) (e.1 % 65536)
  if gone = [] then s
  else
    let src (k : Nat) : Nat := viewSource (k / 16777216) (k % 65536)
    gone.foldl (fun a e => if left.any fun x => src x.1 == src e.1 then a else endLevel a (src e.1) 0)
      { s with mgmt := { s.mgmt with skewed := left } }

/-- A handler's result takes its change counter and its status. -/
def finishWrite (idx sub q : Nat) (x : State × Status) : State × Status :=
  if x.2 = .ok then (bumpChange x.1 idx sub q, .ok) else x

/-- A write by a command with a row of its own: the checks of R431, then the object's own rules (check 12), the change
counter, and the status that answers it. (Log 19: DESIGN CHOICE.) -/
def rowWrite (s : State) (r : Requester) (idx sub q : Nat) (v : List Byte) (h : State → State × Status) : State :=
  match writeChecks s r (rowItem idx sub q v) with
  | some st => emit s (.wrote idx sub q st)
  | none => emit (settleViews (finishWrite idx sub q (h s)).1) (.wrote idx sub q (finishWrite idx sub q (h s)).2)

end Sys2Proof.Machine
end

