-- ==== Sys2Proof/Machine/Notices.lean ====
section
/-!
DEFINITION. Signals to the contexts of an instance, and the two mailboxes' notices and event records, which many chapters
post (R252, R284, R286).
-/
namespace Sys2Proof.Machine

open Sys2Proof

/-! Contexts. -/

def ctxInit (c : Nat) : Ctx :=
  { st := if c % 128 < 60 then 0 else 1, z := false, n := false, c := false, v := false, dz := false, dzt := false, atom := false
    sys := decide (64 ≤ c % 128), inst := 0, table := 0, sp := 0, wgroup := if c % 128 < 64 then 0xFE else 0xFF, evmask := 0
    budget := 0, start := 0, queue := 0, fault := 0, w := List.replicate 16 0, scratch := [], ext := 0, timer := none, tag := 0
    steps := 0, handler := false, committed := false, version := 0, byQueue := false, visit := 0, visitLeft := 0, waitRd := 0
    pend := none, engine := c / 128, slot := c % 128 }

/-- A context; one that nothing has used stands in its own slot, free or idle by its default binding. -/
def getCtx (s : State) (c : Nat) : Ctx := look (ctxInit c) s.gecko.ctxs c

def setCtx (s : State) (c : Nat) (v : Ctx) : State := { s with gecko := { s.gecko with ctxs := put s.gecko.ctxs c v } }

/-- A binding record (Table 11-3) of a context, with its default. -/
def bindRec (s : State) (c : Nat) : Nat :=
  rdTbl s 0x8000 7 (c / 128) (c % 128) ((if c % 128 < 60 then 0 else 2) * 2 ^ 56 + 0xFE * 2 ^ 48)

def bindKind (r : Nat) : Nat := bits r 63 56
def bindGroup (r : Nat) : Nat := bits r 55 48
def bindInst (r : Nat) : Nat := bits r 47 32
def bindQueues (r : Nat) : Nat := bits r 31 16

/-- The cluster of a context: it stays in it for good. -/
def ctxCluster (c : Nat) : Nat := c / 128 / 32

/-- The bound contexts of an instance. -/
def boundCtxs (s : State) (i : Nat) : List Nat :=
  (s.gecko.ctxs.map (·.1)).filter fun c => decide (c % 128 < 64) && bindKind (bindRec s c) == 1 && bindInst (bindRec s c) == i

/-- A context runs an invocation. -/
def running (k : Ctx) : Bool := decide (2 ≤ k.st)

/-- Pending bits of a context's wait group. -/
def groupPending (s : State) (c : Nat) : Nat := look 0 s.gecko.events (256 * ctxCluster c + (getCtx s c).wgroup)

/-- The events that a context sees pending (R252): its group's, and its own three. -/
def pendingOf (s : State) (c : Nat) : Nat :=
  (if (getCtx s c).wgroup = 0xFE then 0 else groupPending s c) ||| (getCtx s c).ext * 2 ^ 24

/-- The lowest set bit of a mask below 27. -/
def lowestBit (m : Nat) : Option Nat := (List.range 27).find? fun i => m.testBit i

/-- Consume one pending event of a context. (Log 98: DEDUCED.) -/
def consume (s : State) (c ev : Nat) : State :=
  if ev < 24 then
    let g := 256 * ctxCluster c + (getCtx s c).wgroup
    { s with gecko := { s.gecko with events := put s.gecko.events g (setBit (look 0 s.gecko.events g) ev false) } }
  else setCtx s c { getCtx s c with ext := setBit (getCtx s c).ext (ev - 24) false }

/-- Running state of a context that waits no longer. -/
def awake (k : Ctx) : Ctx := { k with st := if k.handler then 5 else 2 }

/-- A context in event wait wakes when an event of its mask is pending, and consumes the lowest. -/
def tryWake (s : State) (c : Nat) : State :=
  let k := getCtx s c
  if k.st = 4 then
    match lowestBit (pendingOf s c &&& k.evmask) with
    | some ev =>
      let s1 := consume s c ev
      let k1 := getCtx s1 c
      setCtx s1 c { awake k1 with evmask := 0, w := setAt k1.w k1.waitRd ev }
    | none => s
  else s

/-- An external event of a context becomes pending. -/
def raiseExt (s : State) (c ev : Nat) : State :=
  tryWake (setCtx s c { getCtx s c with ext := setBit (getCtx s c).ext (ev - 24) true }) c

/-- Slot order within a cluster. -/
def slotOrder (k : Ctx) : Nat := k.engine % 32 * 72 + k.slot

/-- The contexts of a cluster that wait in a group, in slot order from the group's wake pointer. (Log 98: DEDUCED.) -/
def groupWaiters (s : State) (cl g : Nat) : List Nat :=
  let ptr := look 0 s.gecko.wake (256 * cl + g)
  ((s.gecko.ctxs.filter fun e => ctxCluster e.1 == cl && e.2.wgroup == g && e.2.st == 4).map (·.1)).mergeSort fun a b =>
    decide ((slotOrder (getCtx s a) + 2304 - ptr) % 2304 ≤ (slotOrder (getCtx s b) + 2304 - ptr) % 2304)

/-- SIGNAL (R252): the event of a group becomes pending, and the nearest context that waits for it consumes it; 0xFE is no group. -/
def signalGroup (s : State) (cl g ev : Nat) : State :=
  if g = 0xFE then s else
  let k := 256 * cl + g
  let s1 := { s with gecko := { s.gecko with events := put s.gecko.events k (setBit (look 0 s.gecko.events k) ev true) } }
  match (groupWaiters s1 cl g).find? fun c => (getCtx s1 c).evmask.testBit ev with
  | some c =>
    let s2 := { s1 with gecko := { s1.gecko with wake := put s1.gecko.wake k ((slotOrder (getCtx s1 c) + 1) % 2304) } }
    tryWake s2 c
  | none => s1

/-! Instances. -/

def dirtyInit : DirtySt :=
  { startP := false, stopP := false, harvestP := false, addr := 0, len := 0, logging := false, span := 0, kib := 0, epoch := 0
    opened := 0, active := [], frozen := [], kept := false, clearing := false, flushing := false, transfer := false
    frozenEpoch := 0, frozenFlags := 0, final := false, allDirty := false, extChanged := false }

def instInit : InstSt :=
  { notices := [], nextSeq := 1, lostFlag := false, events := [], nextHandle := 1, policy := [0, 0, 0, 0, 0], rings := []
    compls := [], dirty := dirtyInit, destroying := 0, usp := 0xFF, ld := 0, background := none }

def getInst (s : State) (i : Nat) : InstSt := look instInit s.insts i

def setInst (s : State) (i : Nat) (v : InstSt) : State := { s with insts := put s.insts i v }

/-- The instance exists: its number is not free (R278). -/
def instExists (s : State) (i : Nat) : Bool := rd s 0x5000 1 i != 0

/-- The fault source of an instance (R296). -/
def instSource (i : Nat) : Nat := 0x5000 + i

/-- The LD function that presents an instance. -/
def instFn (s : State) (i : Nat) : Option Nat :=
  if rd s 0x5010 2 i = 1 then some (fnKey (getInst s i).usp (getInst s i).ld) else none

/-- An MSI-X vector of the instance's LD. -/
def instMsix (s : State) (i vec : Nat) : State :=
  match instFn s i with
  | some k => msixSend s k vec
  | none => s

/-- A notice enters the ring of an instance (R286, Table 13-8). -/
def pushNotice (s : State) (i kind : Nat) (params : List Byte) : State :=
  let x := getInst s i
  let n : Notice := { kind := kind, lost := x.lostFlag, seq := x.nextSeq, time := timeNow s, params := padTo params 48 }
  let s1 := setInst s i { x with notices := x.notices ++ [n], nextSeq := seqAfter x.nextSeq, lostFlag := false }
  let s2 := wr (wr s1 0x5100 2 i (x.notices.length + 1)) 0x5100 3 i x.nextSeq
  instMsix ((boundCtxs s2 i).foldl (fun a c => raiseExt a c 26) s2) i 2

/-- A device notice: dropped and counted when the ring holds 64; the next one that enters carries LOST. -/
def postDevice (s : State) (i kind : Nat) (params : List Byte) : State :=
  if instExists s i = false then s
  else if (getInst s i).notices.length ≥ 64 then
    setInst (bump s 0x5100 4 i 32 1) i { getInst s i with lostFlag := true }
  else pushNotice s i kind params

/-- The bytes of a notice (Table 13-8). -/
def Notice.bytes (n : Notice) : List Byte :=
  be 2 n.kind ++ [BitVec.ofNat 8 (b2n n.lost), 0] ++ be 4 n.seq ++ be 8 n.time ++ n.params

/-- An event record enters a log of the tenant mailbox: its handle, and the LD's interrupt when the log's policy asks MSI. (Log 78: PRESUMED.) -/
def postEvent (s : State) (i log : Nat) (body : List Byte) : State :=
  let x := getInst s i
  let s1 := setInst s i { x with events := x.events ++ [⟨log, x.nextHandle, body⟩]
                                 nextHandle := if x.nextHandle ≥ 0xFFFF then 1 else x.nextHandle + 1 }
  if (nth 0 x.policy log).toNat % 4 = 1 then instMsix s1 i ((nth 0 x.policy log).toNat / 16) else s1

end Sys2Proof.Machine
end

