-- ==== Sys2Proof/Machine/TeleOps.lean ====
section
/-!
DEFINITION. Telemetry (chapter 15): counter units, instance counters, bandwidth windows and Tadpole samples.
-/
namespace Sys2Proof.Machine

open Sys2Proof

/-! Counter units (R320 to R322). -/

/-- The tile of a counter unit; a Tidelink's counters stand at its lower-numbered end. (Log 221: DESIGN CHOICE.) -/
def unitTile (u : Nat) : Nat :=
  if u < 32 then u / 8 else if u < 64 then (u - 32) / 8 else if u < 84 then (u - 64) % 4
  else if u < 87 then 0 else if u < 89 then 1 else 2

/-- The power domain of a counter unit (Table 17-1): of a port group, of a cluster, or the core of a tile. -/
def unitDomain (u : Nat) : Nat := 32 * unitTile u + (if u < 32 then 9 + u % 8 else if u < 64 then 1 + u % 8 else 0)

/-- How many events a large unit counts (Table 15-5). -/
def unitEvents (u : Nat) : Nat :=
  if u < 64 then 8 else if u < 68 then 8 else if u < 72 then 10 else if u < 76 then 8 else if u < 80 then 9 else if u < 84 then 10 else 8

/-- A counter word after `n` more events: a wrap sets OVF (R321). -/
def addCount (w n : Nat) : Nat :=
  let c := w % 2 ^ 48 + n
  (if bit w 63 = true ∨ 2 ^ 48 ≤ c then 2 ^ 63 else 0) + c % 2 ^ 48

def counterWord (s : State) (u slot : Nat) : Nat := look 0 s.tele.counters (32 * u + slot)

def setCounter (s : State) (u slot w : Nat) : State :=
  { s with tele := { s.tele with counters := put s.tele.counters (32 * u + slot) w } }

/-- `n` occurrences of event `e` of a large unit. -/
def largeEvent (s : State) (u e n : Nat) : State := setCounter s u e (addCount (counterWord s u e) n)

/-- The events marked C (Table 15-4), which count buffer classes. -/
def classEvent (code : Nat) : Bool := code == 3 || code == 4 || code == 8

/-- An event is defined for a unit's kind (Table 15-4). -/
def eventDefined (u code : Nat) : Bool :=
  code == 0 || (if u < 32 then decide (1 ≤ code ∧ code ≤ 0x0F) else decide (0x20 ≤ code ∧ code ≤ 0x2A))

/-- The control record of a programmable counter (Table 15-3). -/
def controlRec (s : State) (u n : Nat) : Nat := rdTbl s 0xB000 3 u n 0x000FFFFF

/-- A control record selects an occurrence: its event, port of the group (1 or 2; 0 none), instance and buffer class. -/
def controlCounts (r code port : Nat) (inst : Option Nat) (cls : Nat) : Bool :=
  bits r 31 24 == code && (bits r 23 22 == 0 || bits r 23 22 == port)
    && (bits r 19 8 == 0xFFF || inst == some (bits r 19 8)) && (!classEvent code || bit r cls)

/-- `n` occurrences of an event at a small unit. -/
def smallEvent (s : State) (u code n port : Nat) (inst : Option Nat) (cls : Nat) : State :=
  (List.range 8).foldl (fun a k =>
    if controlCounts (controlRec a u k) code port inst cls then setCounter a u (k + 1) (addCount (counterWord a u (k + 1)) n) else a) s

/-- An event of a port's group unit. -/
def portEvent (s : State) (p code n : Nat) (inst : Option Nat) (cls : Nat) : State := smallEvent s (p / 2) code n (p % 2 + 1) inst cls

/-- An event of a cluster's unit. -/
def clusterEvent (s : State) (cl code n : Nat) (inst : Option Nat) : State := smallEvent s (32 + cl) code n 0 inst 0

/-- `n` occurrences at a Tidelink's unit of an event that its two directions count apart, the one from its lower end first. -/
def linkEvent (s : State) (l : Nat) (up : Bool) (e n : Nat) : State := largeEvent s (84 + l) (if up then e else e + 1) n

/-- A counter of events that no command carries: flits and their bytes, FEC symbols, numbers of cycles, row activates and refreshes (Tables 15-4
and 15-5). What it has counted is a free value. (Log 222: DESIGN CHOICE.) -/
def freeCount (s : State) (u slot : Nat) : Bool :=
  if u < 64 then [0x01, 0x02, 0x05, 0x06, 0x08, 0x09, 0x0A, 0x0F, 0x24, 0x25].contains (bits (controlRec s u (slot - 1)) 31 24)
  else decide (76 ≤ u ∧ u < 80) && (slot == 3 || slot == 4)

/-- The word a read of a counter returns (R320, R321): the cycle counter of a small unit is its tile's core-cycle count; every counter of a
unit whose domain is not ON reads all ones. (Log 222: DESIGN CHOICE.) -/
def readCounter (s : State) (u slot : Nat) : Nat :=
  if rd s 0x9000 2 (unitDomain u) ≠ 0 then 2 ^ 64 - 1
  else if u < 64 ∧ slot = 0 then tileCycles s (unitTile u)
  else if freeCount s u slot then Config.sense (okey 0xB000 2 (32 * u + slot)) s.clock.core % 2 ^ 64
  else counterWord s u slot

/-- Control record of a small unit (R322): refused for an event or fields that the unit's kind does not define; else the
counter is zeroed and its OVF cleared. -/
def controlWrite (s : State) (u n r : Nat) : State × Status :=
  let v := bits r 31 22 * 2 ^ 22 + bits r 19 0
  if eventDefined u (bits r 31 24) = false ∨ bits r 23 22 = 3 ∨ (32 ≤ u ∧ bits r 23 22 ≠ 0)
      ∨ (classEvent (bits r 31 24) = false ∧ bits r 7 0 ≠ 0xFF) then (s, .range)
  else
    let s1 := setCounter (wrTbl s 0xB000 3 u n v) u (n + 1) 0
    (s1, .ok)

/-- A counter of a unit that counts events: 1 to 8 of a small unit, whose counter 0 counts cycles; each event of a large one. -/
def countsEvents (u n : Nat) : Bool := if u < 64 then decide (1 ≤ n ∧ n ≤ 8) else decide (n < unitEvents u)

/-- Clear overflow of a unit (R321, R4): the named OVF bits are cleared, then the counters that an event of the same cycle hits count
it, so that a wrap sets OVF again. -/
def clearOverflow (s : State) (u mask hits : Nat) : State :=
  (List.range 32).foldl (fun a n =>
    let hit := hits.testBit n && countsEvents u n
    let w := if mask.testBit n then counterWord a u n % 2 ^ 48 else counterWord a u n
    if mask.testBit n = true ∨ hit = true then setCounter a u n (if hit then addCount w 1 else w) else a) s

/-- The OVF bits of a unit (0xB000:05). -/
def overflowBits (s : State) (u : Nat) : Nat := (List.range 32).foldl (fun a n => if bit (counterWord s u n) 63 then a + 2 ^ n else a) 0

/-- The units of a tile are reset (R321): its domain is reset or wakes. -/
def resetUnits (s : State) (p : Nat → Bool) : State :=
  { s with tele := { s.tele with counters := delIf s.tele.counters fun k _ => p (k / 32) } }

/-! Instance counters (R325). -/

/-- The part of counter `n` of an instance at a tile. -/
def instPart (s : State) (i n t : Nat) : Nat := look 0 s.tele.parts (32 * i + 4 * n + t)

/-- `k` more of counter `n` of an instance at a tile: 0 reads, 1 writes, 2 bytes read, 3 bytes written, 4 atomics, 5 invocations,
6 steps, 7 poisoned responses. -/
def instEvent (s : State) (i n t k : Nat) : State :=
  if i < 4096 then { s with tele := { s.tele with parts := put s.tele.parts (32 * i + 4 * n + t) (addCount (instPart s i n t) k) } } else s

/-- A counter of the set: the sum of its parts, with bit 63 when a part has wrapped. -/
def instCounter (s : State) (i n : Nat) : Nat :=
  (if (List.range 4).any fun t => bit (instPart s i n t) 63 then 2 ^ 63 else 0)
    + (List.range 4).foldl (fun a t => a + instPart s i n t % 2 ^ 48) 0 % 2 ^ 63

/-- The set of an instance is zeroed. -/
def clearInstCounters (s : State) (i : Nat) : State := { s with tele := { s.tele with parts := delIf s.tele.parts fun k _ => k / 32 == i } }

/-- Clear overflow of an instance's set. -/
def clearInstOverflow (s : State) (i : Nat) : State :=
  { s with tele := { s.tele with parts := mapVals s.tele.parts fun k w => if k / 32 = i then w % 2 ^ 48 else w } }

/-! Bandwidth windows (R326 to R328). -/

def winInit : WindowSt := { seq := 0, start := 0, len := 0, rx := 0, tx := 0, down := false, rate := false }

def getWin (s : State) (p : Nat) : WindowSt := look winInit s.tele.windows p

def setWin (s : State) (p : Nat) (v : WindowSt) : State := { s with tele := { s.tele with windows := put s.tele.windows p v } }

/-- The bytes per second in MB/s that width and lane rate make (Table 15-6): width times lane rate over 8. -/
def laneRate (code : Nat) : Nat :=
  if code = 1 then 2500 else if code = 2 then 5000 else if code = 3 then 8000 else if code = 4 then 16000 else if code = 5 then 32000
  else if code = 6 then 64000 else if code = 7 then 128000 else 0

def rawRate (s : State) (p : Nat) : Nat := rd s 0x2010 3 p * laneRate (rd s 0x2010 4 p) / 8

/-- A window opens at the present cycle of the port's tile; a link that is down there flags it. -/
def openWindow (s : State) (p seq : Nat) : State :=
  setWin s p { winInit with seq := seq, start := tileCycles s (p / 16), len := rd s 0xB200 1 p * 1500
                            down := decide (rd s 0x2010 2 p < 3) }

/-- A window's result (Table 15-6) after `cycles`; the payload bytes that crossed the port in it are not given by any command,
so they are free values. (Log 118: DESIGN CHOICE.) -/
def windowResult (s : State) (p cycles : Nat) (isPartial : Bool) : State × List Byte :=
  let w := getWin s p
  let rx := freeBits s 64
  let s1 := freeNext s
  let tx := freeBits s1 64
  let s2 := freeNext s1
  let raw := rawRate s p
  let rate (b : Nat) : Nat := if cycles = 0 then 0 else b * 1500 / cycles % 2 ^ 32
  let util (b : Nat) : Nat := if raw = 0 then 0 else rate b * 10000 / raw % 2 ^ 16
  (s2, be 4 w.seq ++ be 4 cycles ++ be 8 w.start ++ be 8 rx ++ be 8 tx ++ be 4 (rate rx) ++ be 4 (rate tx) ++ be 2 (util rx)
    ++ be 2 (util tx) ++ be 1 (b2n w.down + 2 * b2n w.rate + 4 * b2n isPartial) ++ zeros 3)

/-- The result is written and pushed into the history of 16. -/
def writeResult (s : State) (p : Nat) (r : List Byte) : State :=
  let s1 := bump (wrBlob s 0xB200 6 p r) 0xB200 8 p 64 1
  let s2 := (List.range 15).foldl (fun a k => wrTbl a 0xB200 7 p (15 - k) (rdTbl a 0xB200 7 p (14 - k) 0)) s1
  wrTbl s2 0xB200 7 p 0 (ofBe r)

/-- A window is abandoned without a result. -/
def dropWindow (s : State) (p : Nat) : State := if rd s 0xB200 5 p = 1 then wr s 0xB200 5 p 0 else s

/-- The running window of a port saw its link down, or its width or rate change. -/
def markWindow (s : State) (p : Nat) (down : Bool) : State :=
  if rd s 0xB200 5 p = 1 then
    setWin s p { getWin s p with down := (getWin s p).down || down, rate := true }
  else s

/-- Start (0xB200:03): IGNORED while a window runs or with a length of 0. -/
def windowStartWrite (s : State) (p : Nat) : State × Status :=
  if rd s 0xB200 5 p = 1 ∨ rd s 0xB200 1 p = 0 then (s, .ignored)
  else (openWindow (wr (cmdDone s 0xB200 3 p 0) 0xB200 5 p 1) p 1, .ok)

/-- Stop (0xB200:04): the window closes with PARTIAL; IGNORED when none runs. -/
def windowStopWrite (s : State) (p : Nat) : State × Status :=
  if rd s 0xB200 5 p ≠ 1 then (s, .ignored)
  else
    let r := windowResult (cmdDone s 0xB200 4 p 0) p (min ((getWin s p).len) (tileCycles s (p / 16) - (getWin s p).start)) true
    (wr (writeResult r.1 p r.2) 0xB200 5 p 0, .ok)

/-- Length (0xB200:01): 0 abandons a running window. -/
def windowLengthWrite (s : State) (p v : Nat) : State × Status :=
  let s1 := wr s 0xB200 1 p v
  (if v = 0 then dropWindow s1 p else s1, .ok)

/-- A running window reaches its length. -/
def endWindow (s : State) (p : Nat) : State :=
  if rd s 0xB200 5 p ≠ 1 then s
  else
    let w := getWin s p
    let r := windowResult s p w.len false
    let s1 := writeResult r.1 p r.2
    if rd s1 0xB200 2 p = 1 then wr s1 0xB200 5 p 2
    else
      let s2 := setWin s1 p { winInit with seq := seqAfter w.seq, start := w.start + w.len, len := rd s1 0xB200 1 p * 1500
                                           down := decide (rd s1 0x2010 2 p < 3) }
      s2

/-! Tadpole (R329 to R331). -/

/-- The generator of a port (its number) or a cluster (64 plus its number), stepped once; its seed is the tile's combined with
the number. (Log 120: DESIGN CHOICE.) -/
def prngStep (s : State) (g t : Nat) : State × Nat :=
  let v := Config.prngNext (look (Config.prngSeed (rd s 0xB100 2 t) g) s.tele.prng g) % 2 ^ 64
  ({ s with tele := { s.tele with prng := put s.tele.prng g v } }, v)

/-- The low `k` bits from a position are all 0, with `k` not 0. -/
def zeroBits (v lo k : Nat) : Bool := k != 0 && v / 2 ^ lo % 2 ^ k == 0

/-- An instance passes the tile's filter. -/
def filterPasses (s : State) (t : Nat) (i : Option Nat) : Bool := rd s 0xB100 8 t == 0xFFFF || i == some (rd s 0xB100 8 t)

def sampleInit : Sample :=
  { tile := 0, ingress := 0, stamps := [], port := 0xFF, egress := 0xFF, inst := 0xFFFF, cls := 0, opcode := 0, target := 0xFF
    flags := 0, key := 0, queue := 0xFF, devLoad := 0xFF, source := 0 }

/-- A request enters (R329): whether Littoral selects it, and its sample when Tadpole tags it. -/
def tagRequest (s : State) (t g : Nat) (i : Option Nat) (x : Sample) : State × Option Sample × Bool :=
  let r := prngStep s g t
  let lit := zeroBits r.2 24 (rd s 0x6800 3 0)
  if zeroBits r.2 0 (rd s 0xB100 1 t) ∧ filterPasses s t i = true then
    (r.1, some { x with tile := t, ingress := tileCycles s t, flags := x.flags ||| (if lit then 128 else 0) }, lit)
  else (r.1, none, lit)

/-- A stage is stamped (R330): 0 decode, 1 gate, 2 directory, 3 target, 4 response, 5 egress. (Log 220: PRESUMED.) -/
def stamp (s : State) (x : Option Sample) (stage : Nat) : Option Sample :=
  x.map fun m => { m with stamps := put m.stamps stage (min 0xFFFFFFFE (tileCycles s m.tile - m.ingress)) }

/-- A stage that may have been stamped before (a request handed to memory and then to an engine) keeps its first stamp. -/
def stampOnce (s : State) (x : Option Sample) (stage : Nat) : Option Sample :=
  match x with
  | some m => if has m.stamps stage then x else stamp s x stage
  | none => none

/-- A flag of a sample is set. -/
def flagSample (x : Option Sample) (f : Nat) : Option Sample := x.map fun m => { m with flags := m.flags ||| f }

/-- The 64 bytes of a sample record (Table 15-9). -/
def Sample.bytes (x : Sample) (seq : Nat) : List Byte :=
  be 8 x.ingress ++ ((List.range 6).flatMap fun k => be 4 (look 0xFFFFFFFF x.stamps k)) ++ be 1 x.port ++ be 1 x.egress ++ be 2 x.inst
    ++ be 1 x.cls ++ be 1 x.opcode ++ be 1 x.target ++ be 1 x.flags ++ be 8 x.key ++ be 4 seq ++ be 1 x.queue ++ be 1 x.devLoad
    ++ zeros 2 ++ be 4 x.source ++ zeros 4

/-- What a tenant sees of a sample record (R332): of its own without KEY_DPA, TARGET and SOURCE, of every other zeros. -/
def tenantSample (i : Nat) (b : List Byte) : List Byte :=
  if fieldBe b 34 2 = i ∧ fieldBe b 48 4 ≠ 0 then b.take 38 ++ [0xFF] ++ slice b 39 1 ++ zeros 8 ++ slice b 48 8 ++ zeros 4 ++ b.drop 60
  else zeros 64

/-- A tagged transaction ends: its record enters the ring of its tile (R331), or is counted while the ring is frozen. -/
def endSample (s : State) (x : Option Sample) : State :=
  match x with
  | none => s
  | some m =>
    if rd s 0xB100 6 m.tile = 1 then bump s 0xB100 7 m.tile 64 1
    else
      let seq := look 1 s.tele.seq m.tile
      let n := rd s 0xB100 4 m.tile
      let s1 := wrTbl s 0xB100 3 m.tile n (ofBe (m.bytes seq))
      let s2 := bump (wr s1 0xB100 4 m.tile ((n + 1) % 4096)) 0xB100 5 m.tile 64 1
      { s2 with tele := { s2.tele with seq := put s2.tele.seq m.tile (if seq ≥ 0xFFFFFFFF then 1 else seq + 1) } }

end Sys2Proof.Machine
end

