-- ==== Sys2Proof/Machine/PoolOps.lean ====
section
/-!
DEFINITION. The memory pool (chapter 7): targets and their blocks, extents, translation and its caches, grants, offers,
releases, joins and losses.
-/
namespace Sys2Proof.Machine

open Sys2Proof

/-! Targets and blocks. -/

def tgtInit : Target :=
  { cap := 0, base := 3, blocks := [], devCap := 0, mld := false, serial := 0, joinedSerial := 0, joinedCap := 0, ld := 0, mapped := 0, away := false }

def getTgt (s : State) (t : Nat) : Target := look tgtInit s.pool.targets t

def setTgt (s : State) (t : Nat) (v : Target) : State := { s with pool := { s.pool with targets := put s.pool.targets t v } }

/-- The home tile of a target (R13). -/
def tgtHome (t : Nat) : Nat := if t < 4 then t else (t - 16) / 16

/-- The fault source of a target. -/
def tgtSource (t : Nat) : Nat := 0x4000 + t

/-- The number of every target that can exist. -/
def tgtNumbers : List Nat := List.range 4 ++ (List.range 64).map (· + 16)

/-- Actual state of a target (Table 7-14). -/
def tgtState (s : State) (t : Nat) : Nat := rd s 0x4000 2 t

/-- The block size of a target (R134). -/
def blockSize (s : State) (t : Nat) : Nat := 2 ^ (21 + rd s 0x4000 5 t)

/-- TADDR of a block, in units of 2 MiB: the pool offset maps one to one to the stack's near-tier region or the device's HDM range. (Log 209: DEDUCED.) -/
def blkTaddr (s : State) (t b : Nat) : Nat := b * 2 ^ rd s 0x4000 5 t

/-- A block of a state that no extent names. -/
def blkInit (s : State) (t b st : Nat) : Blk := { st := st, sharers := 0, place := false, test := false, taddr := blkTaddr s t b }

/-- A block-map entry; absent beyond the capacity. -/
def getBlk (s : State) (t b : Nat) : Blk :=
  if (getTgt s t).cap ≤ b then { st := 0, sharers := 0, place := false, test := false, taddr := 0 }
  else look (blkInit s t b (getTgt s t).base) (getTgt s t).blocks b

def setBlk (s : State) (t b : Nat) (v : Blk) : State :=
  setTgt s t { getTgt s t with blocks := put (getTgt s t).blocks b v }

/-- How many blocks of a target are in a state (0x4000:09 to :12). -/
def countBlk (s : State) (t st : Nat) : Nat :=
  let x := getTgt s t
  let inside := x.blocks.filter fun e => decide (e.1 < x.cap)
  (inside.filter fun e => e.2.st == st).length + (if x.base = st then x.cap - inside.length else 0)

/-- The capacity of a target in the pool, in bytes. -/
def tgtBytes (s : State) (t : Nat) : Nat := (getTgt s t).cap * blockSize s t

/-- The capacity of a pool target counts while it is in the pool. -/
def poolBytes (s : State) : Nat := tgtNumbers.foldl (fun a t => a + tgtBytes s t) 0

/-- The granule of a location or key DPA (64 KiB), and the target and pool offset that a DPA names. -/
def granuleOf (dpa : Nat) : Nat := dpa / 65536
def dpaTarget (dpa : Nat) : Nat := dpa / 2 ^ 44
def dpaOffset (dpa : Nat) : Nat := dpa % 2 ^ 44

/-- The block of a target that holds a DPA. -/
def dpaBlock (s : State) (dpa : Nat) : Nat := dpaOffset dpa / blockSize s (dpaTarget dpa)

/-! Extents. -/

def extInit : Extent :=
  { st := 0, shared := false, bcode := 0, target := 0, inst := 0, shareSet := 0, region := 0, gen := 0, first := 0, blocks := 0
    offset := 0, indexed := false, phase := 0, asked := false, cmd := false }

def getExt (s : State) (e : Nat) : Extent := look extInit s.pool.extents e

def setExt (s : State) (e : Nat) (v : Extent) : State := { s with pool := { s.pool with extents := put s.pool.extents e v } }

/-- The dictionary object and qualifier of an extent (R136, R233). -/
def extObj (e : Nat) : Nat := 0x4100 + e / 65536
def extQ (e : Nat) : Nat := e % 65536

/-- The bytes an extent covers. -/
def extBytes (x : Extent) : Nat := x.blocks * 2 ^ (21 + x.bcode)

/-- The first DPA of an extent. -/
def extDpa (x : Extent) : Nat := x.target * 2 ^ 44 + x.first * 2 ^ (21 + x.bcode)

/-- The numbers of the extents that a test names. -/
def extentsWhere (s : State) (p : Extent → Bool) : List Nat := (s.pool.extents.filter fun e => p e.2).map (·.1)

/-- States 1 to 4. -/
def extInUse (x : Extent) : Bool := decide (1 ≤ x.st ∧ x.st ≤ 4)

/-- The extents of an instance in states 1 to 4. -/
def instExtents (s : State) (i : Nat) : List Nat := extentsWhere s fun x => extInUse x && x.inst == i

/-- Bytes of an instance in extents of some states (0x5000:07). -/
def instBytes (s : State) (i : Nat) (p : Nat → Bool) : Nat :=
  s.pool.extents.foldl (fun a e => if e.2.inst = i ∧ p e.2.st then a + extBytes e.2 else a) 0

/-- An extent covers an instance offset. -/
def covers (x : Extent) (off : Nat) : Bool := decide (x.offset ≤ off ∧ off < x.offset + extBytes x)

/-- An extent covers a key DPA. -/
def coversDpa (x : Extent) (dpa : Nat) : Bool := decide (extDpa x ≤ dpa ∧ dpa < extDpa x + extBytes x)

/-- REMAPPED of an extent (Table 7-1): its granules with a valid overlay entry; the entry that the lock of a first promotion writes, which points at
the granule itself, counts from the end of the lock on (R226). -/
def remappedCount (s : State) (x : Extent) : Nat := (s.pool.overlay.filter fun e => coversDpa x (e.1 * 65536) && e.2.dest != e.1).length

/-- The 32 bytes of an extent record (Table 7-1). -/
def extRecord (s : State) (x : Extent) : List Byte :=
  be 8 (x.st * 2 ^ 61 + b2n x.shared * 2 ^ 60 + x.bcode * 2 ^ 56 + x.target * 2 ^ 48 + x.inst * 2 ^ 36 + x.shareSet * 2 ^ 20
      + x.region * 2 ^ 17)
    ++ be 8 (x.gen * 2 ^ 48 + x.first * 2 ^ 24 + x.blocks % 2 ^ 24) ++ be 8 (x.offset % 2 ^ 46)
    ++ be 8 (remappedCount s x * 2 ^ 32)

/-- An extent that changes state while its instance logs sets EXTENTS_CHANGED (R293). -/
def extChanged (s : State) (i : Nat) : State :=
  let x := getInst s i
  if x.dirty.logging then
    raise (setInst s i { x with dirty := { x.dirty with extChanged := true } }) (instSource i) 15 .notice []
  else s

/-! Translation (R137). -/

/-- What translation finds. -/
inductive Trans where
  /-- The extent, the key DPA, and the DPA of the current location. -/
  | hit (e key loc : Nat)
  | noExtent
  | lost (e key t : Nat)
  | corrupt (e key t : Nat)
  /-- The granule is under cut-over: the request is held. -/
  | cutover (e key : Nat)
  deriving DecidableEq, Repr

/-- Step 1: the extent of the index that covers an offset. -/
def findExtent (s : State) (i off : Nat) : Option Nat :=
  (s.pool.extents.find? fun e => e.2.indexed && e.2.inst == i && covers e.2 off).map (·.1)

/-- The location of a key DPA after the overlay (step 2). -/
def locOf (s : State) (key : Nat) : Nat :=
  match s.pool.overlay.find? fun e => e.1 == granuleOf key with
  | some e => e.2.dest * 65536 + key % 65536
  | none => key

/-- The granule is under cut-over. -/
def inCutover (s : State) (key : Nat) : Bool := s.pool.overlay.any fun e => e.1 == granuleOf key && e.2.cutover

/-- Step 2 finds CUTOVER: it is taken only when REMAPPED is not 0. -/
def seesCutover (s : State) (x : Extent) (key : Nat) : Bool := remappedCount s x != 0 && inCutover s key

/-- The address on the target of a location (step 3): TADDR of its block, and the offset in the block. (Log 209: DEDUCED.) -/
def taddrOf (s : State) (loc : Nat) : Nat :=
  (getBlk s (dpaTarget loc) (dpaBlock s loc)).taddr * 2 ^ 21 + dpaOffset loc % blockSize s (dpaTarget loc)

/-- Steps 1 to 3 for an instance offset. -/
def translate (s : State) (i off : Nat) : Trans :=
  match findExtent s i off with
  | none => .noExtent
  | some e =>
    let x := getExt s e
    let key := extDpa x + (off - x.offset)
    if seesCutover s x key then .cutover e key
    else
      let loc := locOf s key
      let b := getBlk s (dpaTarget loc) (dpaBlock s loc)
      if b.st = 2 then .hit e key loc else if b.st = 4 then .lost e key (dpaTarget loc) else .corrupt e key (dpaTarget loc)

/-! Caches and walks (R141, R184, R229). -/

/-- The set index of a key DPA in the directory (R183). -/
def setIndex (dpa : Nat) : Nat := bits dpa 28 6 ^^^ bits dpa 51 29

/-- The set of the remap overlay in which a granule's entry lies (R140). -/
def overlaySet (g : Nat) : Nat := crc32c (be 8 g) % 2097152

/-- The remap entries of a granule's set. -/
def overlayMates (s : State) (g : Nat) : List Nat := (s.pool.overlay.map (·.1)).filter fun k => overlaySet k == overlaySet g

/-- A tile's cache by the kind of a lookup: 0 extent index, 1 remap overlay, 2 block map, 3 directory, 4 frame descriptors, 5 tags. The
overlay and the block map share the translation cache. -/
def cacheSlot (kind : Nat) : Nat := if kind = 2 then 1 else kind

/-- The key of a block-map entry, and of a wholly invalid overlay set, beside the granules of overlay entries. -/
def blkKey (t b : Nat) : Nat := 2 ^ 40 + t * 2 ^ 24 + b
def invalidKey (g : Nat) : Nat := 2 ^ 41 + overlaySet g

/-- The ways of a cache's set, and the set of a key: the translation cache and a directory cache bank have 16 ways. Which set an entry of
the translation cache has, and how the others are divided, is the part's. -/
def cacheWays (slot : Nat) : Nat := if slot = 0 then 16384 else if slot = 1 ∨ slot = 3 then 16 else if slot = 4 then 16384 else 65536
def cacheSet (slot key : Nat) : Nat := if slot = 1 then key % 4096 else if slot = 3 then setIndex (key * 64) % 2 ^ 17 else 0

/-- The keys in a tile's cache. -/
def cacheKeys (s : State) (slot t : Nat) : List Nat := look [] s.pool.caches (8 * slot + t)

/-- A lookup finds what it needs in the tile's cache: of the overlay, the granule's entry or the knowledge that its set is wholly invalid. -/
def cacheHas (s : State) (kind t key : Nat) : Bool :=
  let l := cacheKeys s (cacheSlot kind) t
  l.contains key || (kind == 1 && l.contains (invalidKey key))

/-- A lookup: a hit, or a walk that is under way from now on. -/
def cacheTouch (s : State) (kind t key : Nat) : State :=
  let hitAt := if kind = 0 then some (0x4020, 1, 2) else if kind ≤ 2 then some (0x4020, 3, 4) else if kind = 3 then some (0x6200, 3, 4)
    else none
  let count (a : State) (f : Nat × Nat × Nat → Nat) : State :=
    match hitAt with
    | some h => bump (if kind = 3 then largeEvent a (68 + t) (f h - 2) 1 else a) h.1 (f h) t 64 1
    | none => a
  if cacheHas s kind t key then count s (fun h => h.2.1)
  else
    let s1 := count s (fun h => h.2.2)
    if s1.pool.walks.contains (8 * kind + t, key) then s1
    else { s1 with pool := { s1.pool with walks := s1.pool.walks ++ [(8 * kind + t, key)] } }

/-- What a walk brings into the cache: an extent's record, a remap entry or that its set is wholly invalid, a block-map entry, and so on;
nothing where the table holds no record. -/
def walkKey (s : State) (kind key : Nat) : Option Nat :=
  if kind = 0 then (if key < 262144 then some key else none)
  else if kind = 1 then some (if (overlayMates s key).isEmpty then invalidKey key else key)
  else some key

/-- A key enters a cache: in a full set, in place of one that the part chooses. (Log 83: DESIGN CHOICE.) -/
def cachePut (s : State) (slot t key : Nat) : State :=
  let l := cacheKeys s slot t
  let mates := l.filter fun x => cacheSet slot x == cacheSet slot key
  if l.contains key then s
  else if mates.length < cacheWays slot then { s with pool := { s.pool with caches := put s.pool.caches (8 * slot + t) (l ++ [key]) } }
  else
    let out := nth 0 mates (Config.freeValue s.free % mates.length)
    let s1 := freeNext s
    { s1 with pool := { s1.pool with caches := put s1.pool.caches (8 * slot + t) (l.filter (· != out) ++ [key]) } }

/-- A walk returns its unit (R141): what it read enters the cache. (Log 83: DESIGN CHOICE.) -/
def cacheFill (s : State) (kind t key : Nat) : State :=
  if s.pool.walks.contains (8 * kind + t, key) then
    let s1 := { s with pool := { s.pool with walks := s.pool.walks.filter (· != (8 * kind + t, key)) } }
    let s2 := match walkKey s1 kind key with
      | some x => cachePut s1 (cacheSlot kind) t x
      | none => s1
    if kind ≤ 2 then bump s2 0x4020 5 t 64 (if kind = 0 then 2 else 1) else s2
  else s

/-- Cached copies of changed entries are dropped at every tile (R142), and counted at 0x4020:06. The tiles acknowledge within the command,
but for the extent index. (Log 211: DESIGN CHOICE.) -/
def cacheDropIf (s : State) (slot : Nat) (p : Nat → Bool) : State :=
  (List.range 4).foldl (fun a t =>
    let l := cacheKeys a slot t
    if l.any p then
      bump { a with pool := { a.pool with caches := put a.pool.caches (8 * slot + t) (l.filter fun x => !p x) } } 0x4020 6 t 64 (l.filter p).length
    else a) s

/-- A record of the extent index is dropped, a granule's remap entry with what is known of its set, and the entries of blocks of a target. -/
def dropIndex (s : State) (e : Nat) : State := cacheDropIf s 0 (· == e)
def dropRemap (s : State) (g : Nat) : State := cacheDropIf s 1 fun x => x == g || x == invalidKey g
def dropBlks (s : State) (t : Nat) (p : Nat → Bool) : State := cacheDropIf s 1 fun x => x / 2 ^ 24 == 2 ^ 16 + t && p (x % 2 ^ 24)

/-- A block-map entry changes (R142). -/
def changeBlk (s : State) (t b : Nat) (v : Blk) : State := dropBlks (setBlk s t b v) t (· == b)

/-- A granule's remap entry is written, or invalidated. -/
def setRemap (s : State) (g : Nat) (x : Remap) : State := dropRemap { s with pool := { s.pool with overlay := put s.pool.overlay g x } } g
def delRemap (s : State) (g : Nat) : State := dropRemap { s with pool := { s.pool with overlay := del s.pool.overlay g } } g

/-- The remap entries of granules that a test names are invalidated. -/
def delRemaps (s : State) (p : Nat → Bool) : State := ((s.pool.overlay.map (·.1)).filter p).foldl delRemap s

/-- The lookups of a translation at a tile: the extent index, the overlay set when REMAPPED is not 0, and the block map of the location; a
walk that finds CUTOVER goes no further. -/
def walkTranslation (s : State) (tile i off : Nat) : State :=
  match findExtent s i off with
  | none => cacheTouch s 0 tile 262144
  | some e =>
    let x := getExt s e
    let key := extDpa x + (off - x.offset)
    let s1 := cacheTouch s 0 tile e
    let s2 := if remappedCount s1 x = 0 then s1 else cacheTouch s1 1 tile (granuleOf key)
    let loc := locOf s key
    if seesCutover s x key then s2 else cacheTouch s2 2 tile (blkKey (dpaTarget loc) (dpaBlock s2 loc))

/-! Miss actions (R138). -/

/-- The first miss of an instance since the pool's reset raises a Notice on the target's source, or on the source of the
target of the instance's first extent when there is no target. (Log 73: DEDUCED.) -/
def tellMiss (s : State) (i : Nat) (t : Option Nat) : State :=
  if s.pool.missTold.contains i then s
  else
    let s1 := { s with pool := { s.pool with missTold := s.pool.missTold ++ [i] } }
    match t, instExtents s1 i with
    | some x, _ => raise s1 (tgtSource x) 15 .notice []
    | none, e :: _ => raise s1 (tgtSource (getExt s1 e).target) 15 .notice []
    | none, [] => s1

/-- Count a miss (Table 7-2): of a write, or of a read that is answered with poison. -/
def countMiss (s : State) (i : Nat) (write reads : Bool) (tile : Nat) (x : Trans) : State :=
  match x with
  | .noExtent =>
    let s1 := bump s 0x4010 8 0 64 1
    tellMiss (if write then bump s1 0x4010 10 0 64 1 else s1) i none
  | .lost _ _ t =>
    let s1 := bump s 0x4010 9 0 64 1
    let s2 := if write then bump s1 0x4010 10 0 64 1 else s1
    tellMiss (if reads then bump s2 0x4000 15 t 64 1 else s2) i (some t)
  | .corrupt _ _ t => tellMiss (raise (bump s 0x4010 9 0 64 1) (0x4200 + tile) 2 .fault []) i (some t)
  | _ => s

/-! Blocks and scrubbing (R148, R149). -/

/-- Memory of a range of a target reads as zeros, and its lines are sound. -/
def clearRange (s : State) (lo hi : Nat) : State :=
  { s with mem := memClear s.mem lo hi
           pool := { s.pool with poison := delIf s.pool.poison fun k _ => decide (lo ≤ k * 64) && decide (k * 64 < hi) } }

/-- The address range of a block. -/
def blkLo (s : State) (t b : Nat) : Nat := t * 2 ^ 44 + b * blockSize s t

/-- A block leaves its last extent: scrubbing, or lost on a lost target; one that a returned target kept lost for it scrubs now (R153). -/
def unshare (s : State) (t b : Nat) : State :=
  let x := getBlk s t b
  if x.sharers ≤ 1 then changeBlk s t b { x with sharers := 0, st := if x.st = 2 ∨ (x.st = 4 ∧ (getTgt s t).base ≠ 4) then 3 else x.st }
  else changeBlk s t b { x with sharers := x.sharers - 1 }

/-- The block numbers of an extent. -/
def extBlocks (x : Extent) : List Nat := (List.range x.blocks).map (· + x.first)

/-- A Release action whose blocks are all scrubbed completes (t6 of Table 7-11). -/
def scrubDone (s : State) (t b : Nat) : State :=
  let l := s.pool.scrubs.map fun x => if x.target = t then { x with left := x.left.filter (· != b) } else x
  let done := l.filter fun x => x.left.isEmpty
  done.foldl (fun a x => cmdEnd a (extObj x.extent) 3 (extQ x.extent) 2 0)
    { s with pool := { s.pool with scrubs := l.filter fun x => !x.left.isEmpty } }

/-- A block that no extent names any more is zeroed and read back as zeros (R149). -/
def scrubBlock (s : State) (t b : Nat) : State :=
  if (getBlk s t b).st = 3 ∧ (getBlk s t b).sharers = 0 then
    scrubDone (changeBlk (clearRange s (blkLo s t b) (blkLo s t b + blockSize s t)) t b { getBlk s t b with st := 1 }) t b
  else s

/-- A draining target is removed as soon as it holds no extent and no remap entry points into it (R152). -/
def drainDone (s : State) (t : Nat) : State :=
  if tgtState s t = 4 ∧ (extentsWhere s fun x => extInUse x && x.target == t) = []
      ∧ (s.pool.overlay.any fun e => dpaTarget (e.2.dest * 65536) == t) = false then
    wr s 0x4000 2 t 5
  else s

/-- The colour of a granule location, and its write (R167). -/
def colourAt (s : State) (g : Nat) : Nat := look 0 s.pool.colours g

def setColour (s : State) (g c : Nat) : State :=
  { s with pool := { s.pool with colours := if c = 0 then del s.pool.colours g else put s.pool.colours g c } }

/-- The granules of a range of `n` bytes from a DPA. -/
def granules (dpa n : Nat) : List Nat := (List.range (ceilDiv n 65536)).map (· + granuleOf dpa)

/-! Grants (R146). -/

/-- A grant request (Table 7-9). -/
structure GrantReq where
  inst : Nat
  target : Nat
  gflags : Nat
  first : Nat
  blocks : Nat
  offset : Nat
  shareSet : Nat
  region : Nat
  colour : Nat
  rest : Nat
  deriving DecidableEq, Repr

def parseGrant (v : List Byte) : GrantReq :=
  { inst := fieldBe v 0 2, target := fieldBe v 2 1, gflags := fieldBe v 3 1, first := fieldBe v 4 4, blocks := fieldBe v 8 4
    offset := fieldBe v 12 8, shareSet := fieldBe v 20 2, region := fieldBe v 22 1, colour := fieldBe v 23 1, rest := fieldBe v 24 8 }

def GrantReq.offer (g : GrantReq) : Bool := bit g.gflags 0
def GrantReq.shared (g : GrantReq) : Bool := bit g.gflags 1
def GrantReq.any (g : GrantReq) : Bool := bit g.gflags 2

/-- Check 1 of Table 7-10. -/
def grantForm (g : GrantReq) : Bool :=
  g.rest == 0 && decide (g.gflags < 8) && decide (1 ≤ g.blocks ∧ g.blocks ≤ 8388608) && decide (g.region ≤ 7)
    && (if g.shared then decide (1 ≤ g.shareSet) else g.shareSet == 0)

/-- A DC region record of an instance (Table 7-8): base, length in bytes, smallest block code, flags. -/
def dcRegion (s : State) (i r : Nat) : Nat × Nat × Nat × Nat :=
  let v := rdTbl s 0x4120 1 0 (8 * i + r) 0
  (bits v 127 64, bits v 63 32 * 2097152, bits v 31 24, bits v 23 16)

def dcValid (x : Nat × Nat × Nat × Nat) : Bool := bit x.2.2.2 0
def dcShareable (x : Nat × Nat × Nat × Nat) : Bool := bit x.2.2.2 1

/-- A range of instance offsets lies inside a DC region. -/
def dcHolds (x : Nat × Nat × Nat × Nat) (off n : Nat) : Bool := dcValid x && decide (x.1 ≤ off ∧ off + n ≤ x.1 + x.2.1)

/-- Extents of a share set anywhere. -/
def setExtents (s : State) (set : Nat) : List Nat := extentsWhere s fun x => extInUse x && x.shared && x.shareSet == set

/-- The extents in use that name a block. -/
def blockExtents (s : State) (t b : Nat) : List Nat :=
  extentsWhere s fun x => extInUse x && x.target == t && decide (x.first ≤ b ∧ b < x.first + x.blocks)

/-- What check 9 says of one block: 0 passes, 1 the share set is the only fault, 2 any other fault. -/
def blockCheck (s : State) (g : GrantReq) (b : Nat) : Nat :=
  let x := getBlk s g.target b
  if x.place = true ∨ x.test = true then 2
  else if g.shared = false then (if x.st = 1 then 0 else 2)
  else if x.st = 1 then (if setExtents s g.shareSet = [] then 0 else 1)
  else if x.st = 2 then
    let es := blockExtents s g.target b
    if es.any (fun e => !(getExt s e).shared || (getExt s e).inst == g.inst) ∨ 32 ≤ x.sharers ∨ es = [] then 2
    else if es.all (fun e => (getExt s e).shareSet == g.shareSet) then 0
    else 1
  else 2

/-- What check 9 says of a run: 0 passes, else REASON 0x78 or 0x73. -/
def runCheck (s : State) (g : GrantReq) (first : Nat) : Nat :=
  if (getTgt s g.target).cap < first + g.blocks then 0x73
  else
    let worst := (List.range g.blocks).foldl (fun a k => max a (blockCheck s g (first + k))) 0
    if worst = 0 then 0 else if worst = 1 then 0x78 else 0x73

/-- The run a grant takes: FIRST_BLOCK, or under ANY the lowest run that passes check 9, of the share set's blocks when
extents of the set stand on the target. -/
def grantRun (s : State) (g : GrantReq) : Option Nat :=
  if g.any then
    (List.range ((getTgt s g.target).cap + 1 - g.blocks)).find? fun f =>
      decide (g.blocks ≤ (getTgt s g.target).cap) && runCheck s g f == 0
  else some g.first

/-- Checks 2 to 9 of Table 7-10, in order; 0 when all pass. -/
def grantChecks (s : State) (g : GrantReq) : Nat :=
  let bs := blockSize s g.target
  let n := g.blocks * bs
  let dc := dcRegion s g.inst g.region
  if 4096 ≤ g.inst ∨ instExists s g.inst = false ∨ rd s 0x5000 1 g.inst = 3 then 0x71
  else if tgtExists s g.target = false ∨ tgtState s g.target ≠ 3 then 0x72
  else if g.offset % bs ≠ 0 ∨ dcHolds dc g.offset n = false ∨ rd s 0x4000 5 g.target < dc.2.2.1
      ∨ (instExtents s g.inst).any (fun e => decide ((getExt s e).offset < g.offset + n ∧ g.offset < (getExt s e).offset + extBytes (getExt s e))) then 0x74
  else if 1024 ≤ (instExtents s g.inst).length then 0x75
  else if 2 ^ 46 < instBytes s g.inst (fun st => decide (1 ≤ st ∧ st ≤ 4)) + n then 0x76
  else if 262144 ≤ (extentsWhere s extInUse).length then 0x77
  else if g.shared = true ∧ ((modeNow s = 2 ∨ modeNow s = 3 ∨ modeNow s = 4) = False ∨ dcShareable dc = false) then 0x79
  else match grantRun s g with
    | none =>
      if (List.range ((getTgt s g.target).cap + 1 - g.blocks)).any (fun f => decide (g.blocks ≤ (getTgt s g.target).cap) && runCheck s g f == 0x78)
      then 0x78 else 0x73
    | some f => runCheck s g f

/-- The lowest free extent record. -/
def freeExtent (s : State) : Nat := ((List.range 262144).find? fun e => (getExt s e).st == 0).getD 0

/-- An Add Capacity, Release Capacity or forced-release event to the host (R147, R148): type 0, 1, 2, then the extent's
offset and length and its DCD tag (R136), in the layout the CXL event log gives dynamic capacity records. (Log 78: PRESUMED.) -/
def dcEvent (s : State) (kind : Nat) (x : Extent) : State :=
  postEvent s x.inst 4 (BitVec.ofNat 8 kind :: zeros 7 ++ le 8 x.offset ++ le 8 (extBytes x)
    ++ (if x.shared then zeros 14 ++ be 2 x.shareSet else zeros 16))

/-- Notices 0x0001 to 0x0003: the extent number, then its OFFSET. -/
def extNotice (s : State) (kind e : Nat) (more : List Byte) : State :=
  postDevice s (getExt s e).inst kind (be 4 e ++ be 8 (getExt s e).offset ++ more)

/-- A grant that passes its checks (R146, R147). -/
def makeExtent (s : State) (g : GrantReq) (first : Nat) : State :=
  let e := freeExtent s
  let old := getExt s e
  let x : Extent := { extInit with
    st := if g.offer then 1 else 2, shared := g.shared, bcode := rd s 0x4000 5 g.target, target := g.target, inst := g.inst
    shareSet := g.shareSet, region := g.region, gen := (old.gen + 1) % 2 ^ 16, first := first, blocks := g.blocks
    offset := g.offset, cmd := old.cmd }
  let s0 := (extBlocks x).foldl (fun a b => setBlk a g.target b { getBlk a g.target b with st := 2, sharers := (getBlk a g.target b).sharers + 1 }) s
  let s1 := dropBlks s0 g.target fun b => decide (first ≤ b ∧ b < first + g.blocks)
  let s2 := (granules (extDpa x) (extBytes x)).foldl (fun a gr => setColour a (granuleOf (locOf a (gr * 65536))) g.colour) s1
  let s3 := extChanged (setExt s2 e x) g.inst
  let s4 := wr s3 0x4110 2 0 e
  let s5 := wr s4 0x4110 3 0 (rd s4 0x4110 1 0 % 2 ^ 16)
  if g.offer then extNotice (dcEvent s5 0 x) 1 e [] else s5

/-- A grant names blocks that a self-test works on (R415): the running HBM test is aborted before check 9. -/
def grantAction (s : State) (g : GrantReq) : State :=
  let s1 := cmdStart s 0x4110 1 0
  let r := grantChecks s1 g
  if r ≠ 0 then cmdEnd s1 0x4110 1 0 3 r
  else match grantRun s1 g with
    | some f => cmdEnd (makeExtent s1 g f) 0x4110 1 0 2 0
    | none => cmdEnd s1 0x4110 1 0 3 0x73

/-- Grant (0x4110:01): check 1 is made on the write. -/
def grantWrite (s : State) (v : List Byte) : State × Status :=
  if v.length = 32 ∧ grantForm (parseGrant v) = true then (grantAction s (parseGrant v), .ok) else (s, .range)

/-! Offers and releases (R147, R148). -/

/-- The record becomes free (t4 of Table 7-11): its blocks, colours, overlay entries and GEN. -/
def freeRecord (s : State) (e : Nat) : State := setExt s e { extInit with gen := (getExt s e).gen }

/-- Blocks of an extent lose this sharer; a block that reaches 0 scrubs, or is free at once when no request could reach it. -/
def dropSharers (s : State) (x : Extent) (scrub : Bool) : State :=
  (extBlocks x).foldl (fun a b =>
    let k := getBlk a x.target b
    if k.sharers ≤ 1 ∧ k.st = 2 ∧ scrub = false then changeBlk a x.target b { k with sharers := 0, st := 1 }
    else unshare a x.target b) s

/-- An offer is withdrawn (R147, Table 7-25). -/
def withdrawOffer (s : State) (e reason : Nat) : State :=
  let x := getExt s e
  let s1 := extNotice s 2 e [BitVec.ofNat 8 reason]
  let s2 := record s1 .notice 0x0010 (tgtSource x.target) [reason, e, x.inst, x.offset, 0, 0]
  let s3 := freeRecord (dropSharers s2 x false) e
  let s4 := if x.cmd then cmdEnd s3 (extObj e) 3 (extQ e) 2 0 else s3
  drainDone (extChanged s4 x.inst) x.target

/-- The host accepts an offered extent (R147): active, and it enters the index. -/
def acceptOffer (s : State) (e : Nat) : State :=
  extChanged (setExt s e { getExt s e with st := 2 }) (getExt s e).inst

/-- Release begins (t0 of Table 7-11): state 3, and the extent is taken out of the index. -/
def beginRelease (s : State) (e : Nat) : State :=
  let x := getExt s e
  extChanged (setExt s e { x with st := 3, phase := 1, asked := false }) x.inst

/-- A granule lies in a block of an extent that no other extent in use names (R148). -/
def soleGran (s : State) (e : Nat) (g : Nat) : Bool :=
  let x := getExt s e
  coversDpa x (g * 65536) && ((blockExtents s x.target (dpaBlock s (g * 65536))).all (· == e))

/-- t4 and t5 of Table 7-11: overlay entries, place slots and frames of the granules that no other sharer names go; the record is free; the
blocks that no extent names scrub, and the Release action waits for them. An extent that is lost is released in the same way; blocks on a
lost target skip scrubbing, since they stay lost. -/
def releaseBlocks (s : State) (e : Nat) : State :=
  let x := getExt s e
  let mine := (s.pool.overlay.filter fun k => soleGran s e k.1).map (·.2.dest)
  let s0 := delRemaps s (soleGran s e)
  let s1 := { s0 with lit := { s0.lit with slots := delIf s0.lit.slots fun k _ => mine.contains k
                                           frames := delIf s0.lit.frames fun k _ => soleGran s e k } }
  let s3 := dropSharers (freeRecord s1 e) x true
  let left := (extBlocks x).filter fun b => (getBlk s3 x.target b).st == 3 && (getBlk s3 x.target b).sharers == 0
  let s4 := if x.cmd then
      (if left = [] then cmdEnd s3 (extObj e) 3 (extQ e) 2 0
       else { s3 with pool := { s3.pool with scrubs := s3.pool.scrubs ++ [⟨e, x.target, left⟩] } })
    else s3
  drainDone (extChanged s4 x.inst) x.target

/-- Release (0x41xx:03) and its outcome (R148): REASON 0x7D when the state does not allow it. -/
def releaseWrite (s : State) (e : Nat) (v : List Byte) : State × Status :=
  let x := getExt s e
  let start (a : State) : State := setExt (cmdStart a (extObj e) 3 (extQ e)) e { getExt a e with cmd := true }
  if v.length ≠ 0 ∧ 1 < ofBe v then (s, .range)
  else if ofBe v = 0 then
    (if x.st = 2 then
      let s1 := start s
      (dcEvent (setExt s1 e { getExt s1 e with asked := true }) 1 x, .ok)
     else (cmdDone s (extObj e) 3 (extQ e) 0x7D, .ok))
  else if x.st = 1 then (withdrawOffer (start s) e 0x6F, .ok)
  else if x.st = 2 then (beginRelease (dcEvent (start s) 2 x) e, .ok)
  else if x.st = 4 then (beginRelease (start s) e, .ok)
  else (cmdDone s (extObj e) 3 (extQ e) 0x7D, .ok)

/-! Loss of a target (R153). -/

/-- An extent on a lost target: an offer is withdrawn; an active one reads lost and its instance is told. A Release action that waits for
the host fails with 0x7D: a lost extent is released only by force (R148). (Log 213: DEDUCED.) -/
def loseExtent (s : State) (e : Nat) : State :=
  let x := getExt s e
  if x.st = 1 then withdrawOffer s e 0x70
  else if x.st = 2 then
    let s1 := if x.asked ∧ x.cmd then cmdEnd s (extObj e) 3 (extQ e) 3 0x7D else s
    extNotice (extChanged (setExt s1 e { x with st := 4, asked := false, cmd := x.cmd && !x.asked }) x.inst) 3 e []
  else s

/-- Every block of the window is lost; blocks that extents still name keep their sharers, and place blocks their mark. -/
def loseBlocks (s : State) (t : Nat) : State :=
  let x := getTgt s t
  dropBlks (setTgt s t { x with base := 4, blocks := mapVals (x.blocks.filter fun e => decide (0 < e.2.sharers) || e.2.place) fun _ b =>
    { b with st := 4 } }) t fun _ => true

/-- Scrubs of a lost target are abandoned (Table 7-17): their Release actions complete. -/
def abandonScrubs (s : State) (t : Nat) : State :=
  let gone := s.pool.scrubs.filter fun x => x.target == t
  gone.foldl (fun a x => cmdEnd a (extObj x.extent) 3 (extQ x.extent) 2 0)
    { s with pool := { s.pool with scrubs := s.pool.scrubs.filter fun x => x.target != t } }

/-- An active or draining target is lost (R153); Littoral frames of its lines are dropped. The reason is told at Critical
on the target's source. -/
def loseTarget (s : State) (t : Nat) : State :=
  if tgtState s t = 3 ∨ tgtState s t = 4 then
    let s1 := setTgt (wr s 0x4000 2 t 6) t { getTgt s t with away := false }
    let s2 := abandonScrubs (loseBlocks s1 t) t
    let s3 := { s2 with lit := { s2.lit with frames := delIf s2.lit.frames fun k _ => dpaTarget (k * 65536) == t } }
    let s4 := (extentsWhere s3 fun x => x.target == t && decide (x.st = 1 ∨ x.st = 2)).foldl loseExtent s3
    let insts := ((extentsWhere s4 fun x => x.target == t && decide (x.st = 4)).map fun e => (getExt s4 e).inst)
    raise s4 (tgtSource t) 15 .notice []
  else s

/-! Joins (R151, R152). -/

/-- The whole TiB limit of the pool in bytes. (Log 76: DEDUCED.) -/
def poolLimit (s : State) : Nat := s.pool.limitAtBoot * 2 ^ 40

/-- The bytes of pool capacity whose tags tile `t` has room for (R168): share of the pool limit, one byte a granule, rounded
up to 1 MiB. -/
def tagBytes (s : State) (t : Nat) : Nat :=
  let share := s.pool.sharesAtBoot / 256 ^ (3 - t) % 256
  ceilDiv (ceilDiv (ceilDiv (share * poolLimit s) 100) 65536) 1048576 * 1048576

/-- Pool bytes homed on a tile. -/
def homedBytes (s : State) (tile : Nat) : Nat :=
  tgtNumbers.foldl (fun a t => if tgtHome t = tile then a + tgtBytes s t else a) 0

/-- The blocks a device of a capacity contributes: at most 16 TiB, whole blocks. -/
def devBlocks (s : State) (t : Nat) : Nat := min (getTgt s t).devCap (2 ^ 44) / blockSize s t

/-- The link of a DSP target is up. -/
def tgtLinkUp (s : State) (t : Nat) : Bool := decide (16 ≤ t) && decide (3 ≤ rd s 0x2010 2 (t - 16))

/-- A join starts: the target reads joining; during a mode transition it stays a candidate until the transition ends (Table 3-8). -/
def startJoin (s : State) (t : Nat) : State := wr s 0x4000 2 t (if rd s 0x1200 3 0 = 0 then 2 else 1)

/-- A target leaves the pool: nothing of it stands in the pool. -/
def leavePool (s : State) (t : Nat) : State :=
  dropBlks (setTgt (wr s 0x4000 6 t 0) t { getTgt s t with cap := 0, base := 3, blocks := [], mapped := 0 }) t fun _ => true

/-- A join fails: state 7, the result at 0x4000:16; a target that was in the pool before contributes nothing any more. -/
def failJoin (s : State) (t result : Nat) : State := wr (wr (leavePool s t) 0x4000 2 t 7) 0x4000 16 t result

/-- The device's HDM decoders are programmed so that the bytes of the contributed capacity are reachable from its DSP (R151, R435). -/
def programDevice (s : State) (t bytes : Nat) : State :=
  emit (setTgt s t { getTgt s t with mapped := bytes }) (.programDecoders (t - 16) (getTgt s t).ld bytes)

/-- A join completes, or fails its checks (R151, R168). -/
def finishJoin (s : State) (t : Nat) (refuses : Bool) : State :=
  let n := devBlocks s t
  let bytes := n * blockSize s t
  if poolLimit s < poolBytes s - tgtBytes s t + bytes ∨ tagBytes s (tgtHome t) * 65536 < homedBytes s (tgtHome t) - tgtBytes s t + bytes then
    failJoin s t 0x7E
  else if n = 0 then failJoin s t 0x7F
  else if refuses = true then failJoin (programDevice s t bytes) t 0x7F
  else
    let s0 := programDevice s t bytes
    let x := getTgt s0 t
    let s1 := dropBlks (setTgt s0 t { x with cap := n, base := 3, blocks := [], joinedSerial := x.serial, joinedCap := x.devCap, away := false }) t fun _ => true
    let s2 := { s1 with pool := { s1.pool with colours := delIf s1.pool.colours fun g _ => dpaTarget (g * 65536) == t } }
    wr (wr (wr s2 0x4000 2 t 3) 0x4000 16 t 0) 0x4000 6 t bytes

/-- What a memory device behind a DSP reports: its capacity, that of the LD at 0x2300:06 when it is an MLD (R151), and its serial number. -/
def noteDevice (s : State) (t : Nat) (d : MemDev) : State :=
  setTgt s t { getTgt s t with devCap := d.capacity.toNat, mld := d.mld, serial := d.serial.toNat, ld := if d.mld then rd s 0x2300 6 (t - 16) else 0 }

/-- The target of a DSP with a memory device is a candidate, and joins at once when 0x4000:01 reads 1. -/
def candidateNow (s : State) (t : Nat) : State :=
  let x := getTgt s t
  let s1 := wr (wr (wr s 0x4000 7 t x.devCap) 0x4000 3 t (if x.mld then 2 else 1)) 0x4000 2 t 1
  if rd s1 0x4000 1 t = 1 then startJoin s1 t else s1

/-- A DSP finds a memory device at its link-up (R98). -/
def candidate (s : State) (t : Nat) (d : MemDev) : State := candidateNow (noteDevice s t d) t

/-- The stack's remainder is HBM that the reservations of R16 leave; near-tier capacity of a stack (R144). -/
def nearBytes (s : State) (t : Nat) : Nat :=
  min (rd s 0x4000 8 t * 2 ^ 30) (rd s 0x4000 7 t) / blockSize s t * blockSize s t

/-- Highest block of a target that is granted or scrubbing, plus one; a lost block that an extent names counts as granted. (Log 210: DEDUCED.) -/
def highBlock (s : State) (t : Nat) : Nat :=
  let x := getTgt s t
  let listed := (x.blocks.filter fun e => decide (e.1 < x.cap) && decide (e.2.st = 2 ∨ e.2.st = 3 ∨ (e.2.st = 4 ∧ 0 < e.2.sharers))).foldl (fun a e => max a (e.1 + 1)) 0
  if x.base = 3 ∧ (x.blocks.filter fun e => decide (e.1 < x.cap)).length < x.cap then
    max listed (((List.range x.cap).reverse.find? fun b => !has x.blocks b).getD 0 + 1)
  else listed

/-- The bytes that the pool limit and the tag reservation of its tile leave a stack, whatever it offers (R133, R143). (Log 210: DEDUCED.) -/
def nearRoom (s : State) (t : Nat) : Nat :=
  min (poolLimit s - (poolBytes s - tgtBytes s t)) (tagBytes s (tgtHome t) * 65536 - (homedBytes s (tgtHome t) - tgtBytes s t))

/-- The capacity of an HBM target takes a new size (R144), within the pool limit: new blocks enter scrubbing. (Log 210: DEDUCED.) -/
def setNear (s : State) (t : Nat) : State :=
  let n := min (nearBytes s t) (nearRoom s t) / blockSize s t
  let x := getTgt s t
  let s1 := dropBlks (setTgt s t { x with cap := n, blocks := x.blocks.filter fun e => decide (e.1 < min n x.cap) }) t fun b => decide (min n x.cap ≤ b)
  wr s1 0x4000 6 t (n * blockSize s1 t)

/-- Near-tier target (0x4000:08): BUSY when capacity would fall below the highest block that is granted or scrubbing. Out of the pool it
takes effect when the target is written in. -/
def nearTierWrite (s : State) (t v : Nat) : State × Status :=
  let s1 := wr s 0x4000 8 t v
  if 3 ≤ tgtState s t ∧ tgtState s t ≤ 6 then
    (if min (nearBytes s1 t) (nearRoom s t) < highBlock s t * blockSize s t then (s, .busy) else (setNear s1 t, .ok))
  else (s1, .ok)

/-- An HBM target enters the pool with every block in scrubbing (R152). -/
def nearJoins (s : State) (t : Nat) : State := setNear (wr (leavePool s t) 0x4000 2 t 3) t

/-- A vPPB of some USP is bound to the port (Table 5-12). -/
def boundToVppb (s : State) (p : Nat) : Bool :=
  (List.range 64).any fun u => (List.range 64).any fun n =>
    bit (rdTbl s 0x2330 1 u n 0x00FF0000) 31 && rdTbl s 0x2330 1 u n 0x00FF0000 % 64 == p

/-- Target of 0x4000:01 (R132, R152). -/
def targetPoolWrite (s : State) (t v : Nat) : State × Status :=
  let st := tgtState s t
  let ok (a : State) : State × Status := (wr a 0x4000 1 t v, .ok)
  if v = 0 then
    if st = 0 ∨ st = 1 ∨ st = 7 then
      (if st = 7 ∧ 4 ≤ t then ok (wr (leavePool s t) 0x4000 2 t (if tgtLinkUp s t ∧ 0 < (getTgt s t).devCap then 1 else 0)) else ok s)
    else if st = 5 then
      (if t < 4 then ok (wr (leavePool s t) 0x4000 2 t 0)
       else ok (wr (leavePool s t) 0x4000 2 t (if tgtLinkUp s t then 1 else 0)))
    else (s, .busy)
  else if v = 1 then
    if 4 ≤ t ∧ boundToVppb s (t - 16) = true then (s, .busy)
    else if st = 6 then (s, .busy)
    else if st = 2 ∨ st = 3 then ok s
    else if st = 4 then ok (wr s 0x4000 2 t 3)
    else if t < 4 then ok (nearJoins s t)
    else if st = 0 then ok s
    else if tgtLinkUp s t then ok (startJoin (leavePool s t) t) else ok (wr (leavePool s t) 0x4000 2 t 0)
  else if st = 3 ∨ st = 4 then
    let x := ok (wr s 0x4000 2 t 4)
    (drainDone x.1 t, .ok)
  else (s, .busy)

/-! HBM health (R155 to R157). -/

/-- The stripe set of a pseudo-channel. (Log 77: DESIGN CHOICE.) -/
def stripeSet (pc : Nat) : Nat := pc / 16

/-- Failed pseudo-channels of a stack in a set. (Log 77: DESIGN CHOICE; log 81: DEDUCED.) -/
def failedIn (s : State) (t set : Nat) : Nat := ((List.range 32).filter fun pc => bit (rd s 0x4001 1 t) pc && pc / 16 == set).length

/-- A location of an HBM stack lies in a stripe set that two failures have lost (R156). -/
def setLost (s : State) (loc : Nat) : Bool :=
  decide (dpaTarget loc < 4) && decide (2 ≤ failedIn s (dpaTarget loc) (Config.stripeSetOf (loc / 512) % 2))

/-- A location of an HBM stack lies in a stripe set with one failed pseudo-channel: its bytes are decoded as erasures (R156). -/
def setDegraded (s : State) (loc : Nat) : Bool :=
  decide (dpaTarget loc < 4) && decide (failedIn s (dpaTarget loc) (Config.stripeSetOf (loc / 512) % 2) = 1)

/-- A pseudo-channel fails (R156): the first of its set at Fault, a second at Critical. -/
def failChannel (s : State) (t pc : Nat) : State :=
  if bit (rd s 0x4001 1 t) pc then s
  else
    let s1 := wr s 0x4001 1 t (setBit (rd s 0x4001 1 t) pc true)
    if 2 ≤ failedIn s1 t (stripeSet pc) then raise (raise s1 (0x4100 + t) 3 .fault [pc]) (0x4100 + t) 2 .critical []
    else raise s1 (0x4100 + t) 3 .fault []

/-- A line of memory reads as poison. -/
def poisoned (s : State) (loc : Nat) : Bool := has s.pool.poison (loc / 64) || setLost s loc

/-- Diagnostic and home-bank reads of a line of memory. -/
def readLine (s : State) (loc : Nat) : List Byte := memReads s.mem (loc / 64 * 64) 64

/-- A line of memory is written whole: its poison goes. -/
def writeLine (s : State) (loc : Nat) (d : List Byte) (bad : Bool) : State :=
  { s with mem := memWrites s.mem (loc / 64 * 64) d
           pool := { s.pool with poison := if bad then put s.pool.poison (loc / 64) true else del s.pool.poison (loc / 64) } }

end Sys2Proof.Machine
end

