-- ==== Sys2Proof/Machine/FrameOps.lean ====
section
/-!
DEFINITION. Heat tables, the Littoral cache's frames and the counters of object 0x6801 (chapter 10).
-/
namespace Sys2Proof.Machine

open Sys2Proof

/-- The fault source of Littoral on a tile (R233). -/
def litSource (t : Nat) : Nat := 0x6800 + t

/-- The counters of 0x6801:02 of a tile, by place in the record: 0 epochs, 1 promotions, 2 returns, 3 abandoned, 5 set conflicts,
8 frame hits, 9 frame misses, 10 bytes moved, 11 longest write block, 12 guard expiries, 13 skips. -/
def litCount (s : State) (t n : Nat) : Nat := look 0 s.lit.counts (16 * t + n)

/-- The width of a counter of 0x6801:02. -/
def litWidth (n : Nat) : Nat := if n = 4 ∨ n = 5 then 16 else if n = 8 ∨ n = 9 ∨ n = 10 then 64 else 32

/-- The event of Littoral's unit (Table 15-5) that a counter of 0x6801:02 counts too. -/
def litEvent (n : Nat) : Option Nat :=
  if n = 1 then some 2 else if n = 2 then some 3 else if n = 3 then some 4 else if n = 5 then some 1
  else if n = 8 then some 6 else if n = 9 then some 7 else none

/-- A counter of 0x6801:02 rises, and with it that of the tile's unit. -/
def litBump (s0 : State) (t n k : Nat) : State :=
  let s := match litEvent n with | some e => largeEvent s0 (80 + t) e k | none => s0
  { s with lit := { s.lit with counts := put s.lit.counts (16 * t + n) ((litCount s t n + k) % 2 ^ litWidth n) } }

/-! Frames (R217, R229). -/

/-- The part of a stack's remainder that is not near-tier capacity. -/
def cachePart (s : State) (t : Nat) : Nat := rd s 0x4000 7 t - nearBytes s t

/-- Frames that fit below the heat table (8 MiB), each with its 32-byte descriptor. (Log 90: DEDUCED.) -/
def frameRoom (s : State) (t : Nat) : Nat := (cachePart s t - 8388608) / 65568

/-- The number of the lowest frame: frames are numbered so that the frame at the top keeps its number whatever the room, and the lowest-numbered
end borders on the near-tier capacity (R217). (Log 90: DEDUCED.) -/
def frameBase (s : State) (t : Nat) : Nat := (rd s 0x4000 7 t - 8388608) / 65568 - frameRoom s t

/-- Littoral on a tile keeps a heat table only beside room for one frame. -/
def hasHeat (s : State) (t : Nat) : Bool := decide (0 < frameRoom s t)

def frameInit : Frame := { frame := 0, svalid := 0, sdirty := 0, filling := 0, lastEpoch := 0 }

def getFrame (s : State) (g : Nat) : Frame := look frameInit s.lit.frames g

def setFrame (s : State) (g : Nat) (v : Frame) : State := { s with lit := { s.lit with frames := put s.lit.frames g v } }

/-- The tile of the target that a granule's key names. -/
def keyTile (g : Nat) : Nat := tgtHome (dpaTarget (g * 65536))

/-- A granule is far-tier: its key target is a DSP target (R215). -/
def farGran (g : Nat) : Bool := decide (16 ≤ dpaTarget (g * 65536))

/-- The frames of a tile, by granule. -/
def tileFrames (s : State) (t : Nat) : List Nat := (s.lit.frames.filter fun e => keyTile e.1 == t).map (·.1)

/-- The set of a granule's descriptor (R229). -/
def frameSet (s : State) (g : Nat) : Nat := crc32c (be 8 g) % max 1 (ceilDiv (frameRoom s (keyTile g)) 16)

/-- A frame is dropped; its number of dirty lines counts against the migration budget when they are written back. -/
def dropFrame (s : State) (g : Nat) : State := { s with lit := { s.lit with frames := del s.lit.frames g } }

/-- Bytes move: they count once against each tile that homes the source or the destination (R228). -/
def spend (s : State) (a b n : Nat) : State :=
  let s1 := { s with lit := { s.lit with spent := put s.lit.spent a (look 0 s.lit.spent a + n) } }
  let s2 := if a = b then s1 else { s1 with lit := { s1.lit with spent := put s1.lit.spent b (look 0 s1.lit.spent b + n) } }
  litBump s2 a 10 n

/-- The migration budget of an epoch (R228): cap per cent of 1,228.8 GB/s over the epoch's milliseconds. -/
def litBudget (s : State) : Nat := rd s 0x6800 8 0 * rd s 0x6800 2 0 * 12288000

/-- A tile may still start moves in this epoch. -/
def hasBudget (s : State) (t : Nat) : Bool := decide (look 0 s.lit.spent t < litBudget s)

/-- A frame is released: its dirty sectors are written to the far target (Table 10-7). -/
def releaseFrame (s : State) (g : Nat) : State :=
  let n := popBelow 64 (getFrame s g).sdirty
  dropFrame (if n = 0 then s else spend s (keyTile g) (keyTile g) (1024 * n)) g

/-- The frame of a line serves it: the granule is cached, stands at its own place, and the line's sector is valid. -/
def frameServes (s : State) (k : Nat) : Bool :=
  has s.lit.frames (k / 1024) && bit (getFrame s (k / 1024)).svalid (k % 1024 / 16) && !(s.pool.overlay.any fun e => e.1 == k / 1024)

/-- A read of memory looks up the frame (Table 10-7): a hit is counted; a miss starts the fill of the line's sector and of the
sectors that are prefetched. -/
def frameRead (s : State) (k : Nat) : State :=
  let g := k / 1024
  if has s.lit.frames g = false ∨ (s.pool.overlay.any fun e => e.1 == g) = true then s
  else
    let t := keyTile g
    let s1 := cacheTouch s 4 t g
    let fr := { getFrame s1 g with lastEpoch := litCount s t 0 % 65536 }
    let sec := k % 1024 / 16
    if bit fr.svalid sec then setFrame (litBump s1 t 8 1) g fr
    else
      let wanted := (List.range (rd s 0x6800 11 0)).filterMap fun i =>
        if sec + 1 + i < 64 ∧ bit fr.svalid (sec + 1 + i) = false ∧ bit fr.filling (sec + 1 + i) = false then some (sec + 1 + i) else none
      let ahead := if hasBudget s1 t then wanted else []
      let s2 := if ahead = [] then s1 else spend s1 t t (1024 * ahead.length)
      setFrame (largeEvent (litBump s2 t 9 1) (80 + t) 8 ahead.length) g { fr with filling := (sec :: ahead).foldl (fun a i => a ||| 2 ^ i) fr.filling }

/-- A line written to memory reaches its frame's valid sector (R208). -/
def frameWrite (s : State) (k : Nat) : State :=
  if frameServes s k then
    let fr := getFrame s (k / 1024)
    setFrame s (k / 1024) { fr with sdirty := fr.sdirty ||| 2 ^ (k % 1024 / 16) }
  else s

/-- A sector's fill from the far target is complete. -/
def sectorFilled (s : State) (g sec : Nat) : State :=
  let fr := getFrame s g
  if has s.lit.frames g = true ∧ bit fr.filling sec = true then
    setFrame s g { fr with filling := setBit fr.filling sec false, svalid := fr.svalid ||| 2 ^ sec }
  else s

/-! Moves under way. -/

def moveAt (s : State) (g : Nat) : Option Move := (s.lit.moves.find? fun e => e.1 == g).map (·.2)

def setMove (s : State) (g : Nat) (m : Move) : State := { s with lit := { s.lit with moves := put s.lit.moves g m } }

/-! Heat (R218 to R220). -/

def heatKey (t g : Nat) : Nat := t * 2 ^ 36 + g

def getHeat (s : State) (t g : Nat) : Heat := look { heat := 0, place := 0, samples := 0 } s.lit.heat (heatKey t g)

def setHeat (s : State) (t g : Nat) (h : Heat) : State := { s with lit := { s.lit with heat := put s.lit.heat (heatKey t g) h } }

/-- The set of a granule in its heat table. -/
def heatSet (g : Nat) : Nat := crc32c (be 8 g) % 131072

/-- Room for a granule in its set (R219): it has an entry, a way is free, or the entry of lowest HEAT whose PLACE is 0 gives way; no
room when all eight have a place. -/
def heatRoom (s : State) (t g : Nat) : Option State :=
  if has s.lit.heat (heatKey t g) then some s
  else
    let set := (s.lit.heat.filter fun e => e.1 / 2 ^ 36 == t && heatSet (e.1 % 2 ^ 36) == heatSet g)
    if set.length < 8 then some s
    else
      match ((set.filter fun e => e.2.place == 0).mergeSort fun a b => decide (a.2.heat ≤ b.2.heat)).head? with
      | some v => some { s with lit := { s.lit with heat := del s.lit.heat v.1 } }
      | none => none

/-- A sample is credited to its granule (R218, R219). -/
def creditSample (s : State) (g : Nat) : State :=
  let t := keyTile g
  if farGran g = false ∨ hasHeat s t = false then s
  else match heatRoom s t g with
    | some s1 =>
      let h := getHeat s1 t g
      setHeat (largeEvent s1 (80 + t) 0 1) t g { h with samples := min 4095 (h.samples + 1) }
    | none => litBump s t 5 1

/-- The place of a granule in its heat entry; a set without room is counted. -/
def markPlace (s : State) (g place : Nat) : State :=
  match heatRoom s (keyTile g) g with
  | some s1 => setHeat s1 (keyTile g) g { getHeat s1 (keyTile g) g with place := place }
  | none => litBump s (keyTile g) 5 1

/-- The heat of a granule is set (R231). -/
def forceHeat (s : State) (g v : Nat) : State :=
  match heatRoom s (keyTile g) g with
  | some s1 => setHeat s1 (keyTile g) g { getHeat s1 (keyTile g) g with heat := v }
  | none => s

/-- The decay at the end of an epoch (R220); entries that are cold and far become free. -/
def decayHeat (s : State) (t : Nat) : State :=
  let d := rd s 0x6800 4 0
  let aged := mapVals s.lit.heat fun k h =>
    if k / 2 ^ 36 = t then { h with heat := min 4095 (h.heat - h.heat / 2 ^ d + 16 * h.samples), samples := 0 } else h
  { s with lit := { s.lit with heat := delIf aged fun k h => k / 2 ^ 36 == t && h.heat == 0 && h.place == 0 && h.samples == 0 } }

end Sys2Proof.Machine
end

