-- ==== Sys2Proof/Machine/GateOps.lean ====
section
/-!
DEFINITION. Colour gates (chapter 8): regions, colours and key sets, the decision, refusals and their capture.
-/
namespace Sys2Proof.Machine

open Sys2Proof

/-- Who makes an access (Table 8-1): a tenant access of an instance, or a privileged one by its kind. -/
inductive Accessor where
  | tenant (i : Nat)
  | system
  | headland
  | manager
  deriving DecidableEq, Repr

/-- A refusal at a gate, as Table 8-7 records it. -/
structure Refused where
  kind : Nat
  write : Bool
  inst : Nat
  source : Nat
  keyDpa : Nat
  locDpa : Nat
  colour : Nat
  region : Nat
  policy : Nat
  deriving DecidableEq, Repr

/-- The fault source of a gate. -/
def gateSource (g : Nat) : Nat := 0x4300 + g

/-! Regions (Table 8-2). -/

/-- A region record; record 0 covers the whole window open at reset (R166). -/
def regionRec (s : State) (g n : Nat) : Nat := rdTbl s 0x4200 1 g n (if n = 0 then 2 ^ 127 + 2 ^ 125 + 0xFFFFFFF else 0)

def regValid (r : Nat) : Bool := bit r 127
def regPolicy (r : Nat) : Nat := bits r 126 125
def regBase (r : Nat) : Nat := bits r 91 64
def regLast (r : Nat) : Nat := bits r 27 0

/-- The valid record of a gate that covers a granule of its window. -/
def regionOf (s : State) (g granule : Nat) : Option Nat :=
  (List.range 64).find? fun n =>
    regValid (regionRec s g n) && decide (regBase (regionRec s g n) ≤ granule ∧ granule ≤ regLast (regionRec s g n))

/-- The policy that governs a location: of its region, or none. -/
def policyAt (s : State) (loc : Nat) : Option Nat :=
  (regionOf s (dpaTarget loc) (granuleOf (dpaOffset loc))).map fun n => regPolicy (regionRec s (dpaTarget loc) n)

/-- Two records overlap. -/
def regOverlap (a b : Nat) : Bool :=
  regValid a && regValid b && decide (regBase a ≤ regLast b ∧ regBase b ≤ regLast a)

/-- Without the reserved bits of the record (R2). -/
def regMask (r : Nat) : Nat := bits r 127 125 * 2 ^ 125 + regBase r * 2 ^ 64 + regLast r

/-- The record written and the record overlapped, in a table given by a function (R165). -/
def firstOverlap (f : Nat → Nat) (written : List Nat) : Option (Nat × Nat) :=
  (written.flatMap fun a => (List.range 64).filterMap fun b => if a ≠ b ∧ regOverlap (f a) (f b) = true then some (a, b) else none).head?

/-- A region chunk (R164, R165): LAST below BASE, POLICY 3 or an overlap refuses the chunk as a whole. -/
def regionsWrite (s : State) (g start : Nat) (recs : List Nat) : State × Status :=
  if recs = [] ∨ 64 < start + recs.length then (s, .range)
  else if recs.any (fun r => decide (regLast r < regBase r) || regPolicy r == 3) then (s, .range)
  else
    let f (n : Nat) : Nat := if start ≤ n ∧ n < start + recs.length then regMask (nth 0 recs (n - start)) else regionRec s g n
    match firstOverlap f ((List.range recs.length).map (· + start)) with
    | some (a, b) =>
      let s1 := wr (bump s 0x4200 8 g 32 1) 0x4200 9 g (a * 256 + b)
      (raise s1 (gateSource g) 12 .notice [], .range)
    | none =>
      let s1 := (List.range recs.length).foldl (fun a k => wrTbl a 0x4200 1 g (start + k) (f (start + k))) s
      (wr s1 0x4200 3 g ((List.range 64).filter fun n => regValid (f n)).length, .ok)

/-! Tags (R167 to R170). -/

/-- The tag of a location cannot be read: its unit of the tag store lies in a stripe set that two failures have lost. (Log 81: DEDUCED.) -/
def tagLost (s : State) (loc : Nat) : Bool :=
  decide (2 ≤ failedIn s (tgtHome (dpaTarget loc)) (Config.tagStripeOf (granuleOf loc) % 2))

/-- An instance's key set admits a colour (R170). -/
def keyAdmits (s : State) (i c : Nat) : Bool :=
  (List.range 4).any fun k => rd s 0x4310 1 i / 256 ^ k % 256 == c && c != 0

/-- Key set (0x4310:01): 0xFF in a slot is refused. -/
def keySetWrite (s : State) (i v : Nat) : State × Status :=
  if (List.range 4).any (fun k => v / 256 ^ k % 256 == 0xFF) then (s, .range) else (wr s 0x4310 1 i v, .ok)

/-! The decision (Table 8-4). -/

/-- The bit of the default map that a privileged access needs (Table 8-5). -/
def mapBit (a : Accessor) (write : Bool) : Nat :=
  (match a with | .headland => 0 | .system => 2 | _ => 4) + b2n write

/-- The kind of refusal of an access to a location; 0 allowed. -/
def gateKind (s : State) (loc : Nat) (a : Accessor) (write : Bool) : Nat :=
  let g := dpaTarget loc
  match a, policyAt s loc with
  | .tenant i, p =>
    if tagLost s loc then 6
    else
      let c := colourAt s (granuleOf loc)
      match p with
      | none => 4
      | some 0 => 1
      | some 1 => if c = 0xFF then 3 else 0
      | some _ => if c = 0xFF then 3 else if c = 0 ∨ keyAdmits s i c = true then 0 else 2
  | _, some _ => 0
  | _, none => if bit (rd s 0x4200 2 g) (mapBit a write) then 0 else 5

/-- What the gate records of a refused access. -/
def refusalOf (s : State) (key loc : Nat) (a : Accessor) (write : Bool) (source kind : Nat) : Refused :=
  let g := dpaTarget loc
  let r := regionOf s g (granuleOf (dpaOffset loc))
  { kind := kind, write := write, inst := match a with | .tenant i => i | _ => 0xFFFF
    source := source, keyDpa := key, locDpa := loc, colour := if kind = 6 then 0xFF else colourAt s (granuleOf loc)
    region := r.getD 0xFF, policy := match r with | some n => regPolicy (regionRec s g n) | none => 0xFF }

/-- The 40 bytes of a capture (Table 8-7). -/
def captureBytes (s : State) (r : Refused) (merged : Bool) (count : Nat) : List Byte :=
  be 1 r.kind ++ be 1 (1 + 2 * b2n r.write + 4 * b2n merged) ++ be 2 r.inst ++ be 4 r.source ++ be 8 r.keyDpa ++ be 8 r.locDpa
    ++ be 8 (timeNow s) ++ be 1 r.colour ++ be 1 r.region ++ be 1 r.policy ++ [0] ++ be 4 count

/-- The capture of a gate. -/
def captureOf (s : State) (g : Nat) : List Byte := rdBlob s 0x4200 4 g (zeros 40)

/-- A refusal is captured, or counted in the held capture (R174, R175): the record carries bytes 0 to 31. -/
def capture (s : State) (g : Nat) (r : Refused) : State :=
  let old := captureOf s g
  if bit (fieldBe old 1 1) 0 then
    let n := fieldBe old 36 4
    wrBlob s 0x4200 4 g (be 1 (fieldBe old 0 1) ++ be 1 (fieldBe old 1 1 ||| 4) ++ slice old 2 34 ++ be 4 (min 0xFFFFFFFF (n + 1)))
  else
    let b := captureBytes s r false 0
    raiseEv (wrBlob s 0x4200 4 g b) (gateSource g) 11 .notice 0 ((List.range 4).map fun k => fieldBe b (8 * k) 8) true

/-- A refusal is counted at the gate, by kind, and against the instance (R173); kind 6 raises a Fault (R169). -/
def refuse (s : State) (r : Refused) : State :=
  let g := dpaTarget r.locDpa
  let s1 := bump s 0x4200 6 g 64 1
  let s2 := wrTbl s1 0x4200 7 g (r.kind - 1) ((rdTbl s1 0x4200 7 g (r.kind - 1) 0 + 1) % 2 ^ 64)
  let s3 := if r.inst < 4096 then wr (bump s2 0x4310 2 r.inst 64 1) 0x4310 3 r.inst r.kind else s2
  let s4 := if r.kind = 6 then raise (bump s3 0x4200 12 g 32 1) (gateSource g) 2 .fault [] else s3
  capture s4 g r

/-- The gate of a target checks accesses while the target is joining, active or draining (R160). -/
def gateChecks (s : State) (g : Nat) : Bool := decide (2 ≤ tgtState s g ∧ tgtState s g ≤ 4)

/-- A tag that cannot be read raises a Fault and is counted, whoever asked (R169); a refusal of kind 6 has done so. -/
def tagFault (s : State) (loc kind : Nat) : State :=
  if tagLost s loc = true ∧ kind ≠ 6 then raise (bump s 0x4200 12 (dpaTarget loc) 32 1) (gateSource (dpaTarget loc)) 2 .fault [] else s

/-- The gate decides one access: the state with the refusal recorded, and its kind. The tag cache is looked up (R162). -/
def gate (s : State) (key loc : Nat) (a : Accessor) (write : Bool) (source : Nat) : State × Nat :=
  let g := dpaTarget loc
  if gateChecks s g = false then (s, 0) else
  let hit := cacheHas s 5 (tgtHome g) (granuleOf loc)
  let s1 := bump (cacheTouch s 5 (tgtHome g) (granuleOf loc)) 0x4200 (if hit then 10 else 11) g 64 1
  let k := gateKind s1 loc a write
  let s2 := tagFault s1 loc k
  if k = 0 then (s2, 0) else (refuse s2 (refusalOf s2 key loc a write source k), k)

/-- SOURCE of a refusal of Headland firmware and of the manager (Table 8-7). -/
def headlandSource : Nat := 2 * 2 ^ 28
def managerSource : Nat := 3 * 2 ^ 28

/-- A privileged access to a range of key DPAs is presented to the gates granule by granule, each with the address at which it starts there;
the first refusal ends it. -/
def gateRange (s : State) (dpa n : Nat) (a : Accessor) (write : Bool) (source : Nat) : State × Bool :=
  ((List.range ((dpa + n - 1) / 65536 + 1 - dpa / 65536)).map fun j => max dpa ((dpa / 65536 + j) * 65536)).foldl (fun x d =>
    if x.2 then
      (let y := gate x.1 d (locOf x.1 d) a write source
       (y.1, y.2 == 0))
    else x) (s, true)

/-- Clear capture (0x4200:05); a refusal of the same cycle is captured and counted (R4, R174). (Log 80: DEDUCED.) -/
def clearCaptureWrite (s : State) (g : Nat) (same : Option Refused) : State × Status :=
  let s1 := wrBlob (cmdDone s 0x4200 5 g 0) 0x4200 4 g (zeros 40)
  match same with
  | some r => (refuse s1 r, .ok)
  | none => (s1, .ok)

/-! Recolour and Query (R177, Table 8-10). -/

/-- The key DPA of an instance offset in an extent of some states. -/
def keyAt (s : State) (i off : Nat) (p : Extent → Bool) : Option Nat :=
  ((extentsWhere s fun x => p x && x.inst == i && covers x off).head?).map fun e =>
    extDpa (getExt s e) + (off - (getExt s e).offset)

/-- The key DPAs of a run of granules of an instance, each in an extent in state 1 or 2. -/
def recolourKeys (s : State) (i off n : Nat) : List (Option Nat) :=
  (List.range n).map fun k => keyAt s i (off + 65536 * k) fun x => decide (x.st = 1 ∨ x.st = 2)

/-- The colour lands in each granule's current slot; a move of the granule that has not reached its lock is abandoned when
the colour is 0xFF (Table 10-9). -/
def applyRecolour (s : State) (i off n c : Nat) : State :=
  (recolourKeys s i off n).foldl (fun a k => match k with
    | some key => setColour a (granuleOf (locOf a key)) c
    | none => a) s

/-- Query (0x4300:04): the colour of a granule. -/
def queryWrite (s : State) (v : List Byte) : State × Status :=
  match keyAt s (fieldBe v 0 2) (fieldBe v 4 8) extInUse with
  | some key => (wr (cmdDone s 0x4300 4 0 0) 0x4300 5 0 (0x100 + colourAt s (granuleOf (locOf s key))), .ok)
  | none => (wr (cmdDone s 0x4300 4 0 0) 0x4300 5 0 0, .ok)

end Sys2Proof.Machine
end

