-- ==== Sys2Proof/Machine/LaneOps.lean ====
section
/-!
DEFINITION. Lanes, port groups and sparing (chapter 4): the shape of ports, lane roles and power, substitution of the
spare.
-/
namespace Sys2Proof.Machine

open Sys2Proof

def poolInit : CreditPool :=
  { initial := 0, usable := 0, leaked := 0, overReturned := 0, shortfall := 0, noticed := false, quiet := false }

def portInit : PortSt :=
  { presence := false, pools := List.replicate 18 poolInit, auditHold := false, retrain := 0, retrainTimes := []
    lateTags := [], lateSnoops := [], lowerPid := false, granted := [], llReinitEn := false, iscSelect := 0, partnerCtrl := 0, rasErrors := 0, targetKept := false
    hasMem := false, window := false, lost := [], subPhase := 0, subLane := none, excluded := []
    swap := false, reversed := false, fullWidth := 0, widthTx := 0, widthRx := 0, l0p := false, asymmetric := false
    spareCap := 0, spareEn := false, partnerSpareEn := false }

def getPort (s : State) (p : Nat) : PortSt := look portInit s.ports p

def setPort (s : State) (p : Nat) (v : PortSt) : State := { s with ports := put s.ports p v }

def laneInit : LaneSt := { inSync := false, farEnd := false, inject := 0, eq := [] }

def getLane (s : State) (l : Nat) : LaneSt := look laneInit s.lanes l

def setLane (s : State) (l : Nat) (v : LaneSt) : State := { s with lanes := put s.lanes l v }

def groupInit : GroupSt := { exchange := [], keepalive := [] }

def getGroup (s : State) (g : Nat) : GroupSt := look groupInit s.groups g

def setGroup (s : State) (g : Nat) (v : GroupSt) : State := { s with groups := put s.groups g v }

/-- The shape written for a group (0x2140:03). -/
def shapeOf (s : State) (g : Nat) : Nat := rd s 0x2140 3 (256 + g)

/-- A port's link is in L0, Recovery or L1. -/
def linkUpOf (s : State) (p : Nat) : Bool := decide (3 ≤ rd s 0x2010 2 p)

/-- The other group of a pair. -/
def pairOf (g : Nat) : Nat := if g % 2 = 0 then g + 1 else g - 1

/-- The shape in force, 0x2140:04 (R60): while exactly one group of a pair holds 3, both read 4 (x16 pending). (Log 52: DEDUCED.) -/
def shapeActual (s : State) (g : Nat) : Nat :=
  if (shapeOf s g = 3) ≠ (shapeOf s (pairOf g) = 3) then 4 else shapeOf s g

/-- The physical data lanes of a port in the order of Table 4-1. -/
def portLanes (s : State) (p : Nat) : List Nat :=
  let g := p / 2
  let sh := shapeActual s g
  if sh = 1 then (if p % 2 = 0 then (List.range 8).map (8 * g + ·) else [])
  else if sh = 2 then (List.range 4).map (8 * g + 4 * (p % 2) + ·)
  else if sh = 3 then (if p % 4 = 0 then (List.range 16).map (8 * g + ·) else [])
  else []

/-- The groups whose lanes serve a port. -/
def portGroups (s : State) (p : Nat) : List Nat := if shapeActual s (p / 2) = 3 then [p / 2, p / 2 + 1] else [p / 2]

/-- The spare of a lane's group. -/
def spareOf (lane : Nat) : Nat := if lane < 256 then 256 + lane / 8 else lane

/-- The group of a lane. -/
def laneGroup (lane : Nat) : Nat := if lane < 256 then lane / 8 else lane - 256

/-- Which of 0x2140:07 and :08 holds the sparing mode of a port. -/
def sparingSub (s : State) (p : Nat) : Nat := if shapeActual s (p / 2) = 2 ∧ p % 2 = 1 then 8 else 7

/-- The sparing mode of a port for lanes of a group: 0 NONE, 1 RETRAIN, 2 L0P, 3 HITLESS. -/
def sparingMode (s : State) (p g : Nat) : Nat := rd s 0x2140 (sparingSub s p) (256 + g)

/-- The spare of a group carries a data lane (0x2140:09). -/
def spareInUse (s : State) (g : Nat) : Bool := rd s 0x2140 9 (256 + g) != 0xFF

/-- The port that a lane serves (0x2100:02); 0xFF none. -/
def lanePort (s : State) (l : Nat) : Nat := rd s 0x2100 2 l

/-- A port has a claim on the spare of a group: a substitution under way, or a lane of the group lost in its open decision window. -/
def claimsSpare (q : PortSt) (g : Nat) : Bool :=
  (q.subPhase != 0 && match q.subLane with | some l => laneGroup l == g | none => false) || (q.window && q.lost.any fun l => laneGroup l == g)

/-- The spare of a group is free for a port: it carries no lane, and no other port has a claim on it (R69). -/
def spareFree (s : State) (g p : Nat) : Bool := !spareInUse s g && !(s.ports.any fun e => e.1 != p && claimsSpare e.2 g)

/-- The spare of a group carries a lane or is about to (R81). -/
def spareTaken (s : State) (g : Nat) : Bool := spareInUse s g || s.ports.any fun e => claimsSpare e.2 g

/-- A lane's role as the device acts on it (0x2100:01, which reads 5 while a test runs on the lane). -/
def laneRole (s : State) (l : Nat) : Nat := rd s 0x2100 1 l

/-- The logical lane of a physical lane at index `n` of a port of width `w` (R64). (Log 51: DEDUCED.) -/
def logicalLane (reversed : Bool) (w n : Nat) : Nat := if reversed then w - 1 - n else n

/-- One direction of a lane (index 0x2101 transmit, 0x2102 receive) goes to a power state (R67): 0 ACTIVE, 1 DOZE, 2 OFF.
A wake is counted. A direction whose target is OFF stays OFF, also in a lane that training takes into a link. (Log 189: DEDUCED.) -/
def setDir (s : State) (idx l v : Nat) : State :=
  let v' := if rd s idx 1 l = 2 then 2 else v
  let s1 := if v' = 0 ∧ rd s idx 2 l ≠ 0 then bump s idx 3 l 32 1 else s
  wr s1 idx 2 l v'

/-- Both directions of a lane. -/
def setDirs (s : State) (l v : Nat) : State := setDir (setDir s 0x2101 l v) 0x2102 l v

/-- A saturating U64 addition. -/
def sat64 (a b : Nat) : Nat := min (a + b) (2 ^ 64 - 1)

/-- Bits compared and bit errors of a checker are counted (R78). -/
def countBits (s : State) (l bits errs : Nat) : State :=
  let s1 := wr s 0x2110 6 l (sat64 (rd s 0x2110 6 l) bits)
  wr s1 0x2110 7 l (sat64 (rd s1 0x2110 7 l) errs)

/-- A checker ends: what it compared in sync since the last count is counted, free amounts. (Log 190: DESIGN CHOICE.) -/
def checkerEnds (s : State) (l : Nat) : State :=
  let s1 := if (getLane s l).inSync then
      countBits (freeNext (freeNext s)) l (Config.freeValue s.free) (Config.freeValue (s.free + 1)) else s
  setLane s1 l { getLane s1 l with inSync := false, inject := 0 }

/-- A test on a lane stops, for the reason of 0x2110:11; the counters stay (R81). -/
def stopTest (s : State) (l reason : Nat) : State :=
  if rd s 0x2110 2 l = 0 then s
  else checkerEnds (wr (wr (wr s 0x2110 1 l 0) 0x2110 2 l 0) 0x2110 11 l reason) l

/-- Equalisation at training (R63): the rates from 8 GT/s up to the link's that the lane holds no results for, the highest alone under bypass,
none where the partner needs none. -/
def equalise (s : State) (l rate : Nat) (bypass skip : Bool) : State :=
  let x := getLane s l
  let steps := (List.range (rate + 1)).filter fun r => decide (3 ≤ r) && (!bypass || r == rate) && !x.eq.contains r
  if skip then s else setLane s l { x with eq := x.eq ++ steps }

/-- A lane takes up its place in a link: role, port, logical lane, rate and lock, both directions ACTIVE. (Log 189: DEDUCED.) -/
def laneIn (s : State) (l role p logical rate : Nat) : State :=
  let s1 := wr (wr (wr (wr (wr s 0x2100 1 l role) 0x2100 2 l p) 0x2100 3 l logical) 0x2100 4 l rate) 0x2100 5 l 2
  setDirs s1 l 0

/-- A lane leaves its link: unused, or retired (role 4); both directions OFF (R67, R76). -/
def laneOut (s : State) (l role : Nat) : State :=
  let s1 := wr (wr (wr (wr (wr s 0x2100 1 l role) 0x2100 2 l 0xFF) 0x2100 3 l 0xFF) 0x2100 4 l 0) 0x2100 5 l 0
  setDirs s1 l 2

/-- The spare of a group is idle: it serves no port, and both its directions are OFF. -/
def spareRests (s : State) (g : Nat) : State := laneOut s (256 + g) 2

/-- The idle spare carries the keep-alive of a port's link in both directions at the link's rate (R70). -/
def keepaliveRuns (s : State) (g p : Nat) : State :=
  let s1 := setGroup s g { getGroup s g with keepalive := (getGroup s g).keepalive.filter (· != p) ++ [p] }
  let s2 := setDirs (wr s1 0x2100 4 (256 + g) (rd s 0x2010 4 p)) (256 + g) 0
  equalise s2 (256 + g) (rd s 0x2010 4 p) true false

/-- The idle spare's exchange and keep-alive for a port end; without another port's they leave the spare OFF. -/
def keepaliveEnds (s : State) (g p : Nat) : State :=
  let x := getGroup s g
  let s1 := setGroup s g { exchange := x.exchange.filter (· != p), keepalive := x.keepalive.filter (· != p) }
  if (getGroup s1 g).keepalive = [] ∧ spareInUse s1 g = false then spareRests s1 g else s1

/-- The spare carries the failed lane's logical lane; the lane is retired (R73, R76); SPARED at Notice on the group's
source (Table 16-5). -/
def substituted (s : State) (p lane : Nat) : State :=
  let g := laneGroup lane
  let logical := rd s 0x2100 3 lane
  let rate := rd s 0x2100 4 lane
  let s1 := laneOut (stopTest s (256 + g) 2) lane 4
  let s2 := laneIn s1 (256 + g) 3 p logical rate
  let s3 := bump (wr s2 0x2140 9 (256 + g) (lane % 8)) 0x2140 10 (256 + g) 32 1
  let s4 := setGroup s3 g { exchange := [], keepalive := [] }
  raise s4 (0x2000 + g) 3 .notice []

/-- A lane that Swap back returns carries its logical lane again, and the spare is idle (R81); without a link it is unused. (Log 188: DEDUCED.) -/
def restored (s : State) (g : Nat) : State :=
  let lane := 8 * g + rd s 0x2140 9 (256 + g)
  let sp := 256 + g
  let p := lanePort s sp
  let s1 := if linkUpOf s p && rd s 0x2100 3 sp != 0xFF then laneIn s lane 1 p (rd s 0x2100 3 sp) (rd s 0x2100 4 sp) else laneOut s lane 0
  let s2 := wr (spareRests s1 g) 0x2140 9 sp 0xFF
  let s3 := if linkUpOf s p && bit (getPort s p).spareCap 3 && sparingMode s p g != 0 then keepaliveRuns s2 g p else s2
  if cmdRunning s3 0x2140 11 sp then cmdEnd s3 0x2140 11 sp 2 0 else s3

/-- The lanes of a port, spare included, that carry a logical lane. -/
def linkLanes (s : State) (p : Nat) : List Nat :=
  ((portLanes s p).filter fun l => laneRole s l == 1 && lanePort s l == p)
    ++ (((portGroups s p).map (256 + ·)).filter fun l => laneRole s l == 3 && lanePort s l == p && rd s 0x2100 3 l != 0xFF)

/-- A lane gives up its place in a link: a data lane is unused; a spare keeps its assignment, both directions OFF. -/
def laneDrops (s : State) (l : Nat) : State :=
  if l < 256 then laneOut s l 0 else setDirs (wr (wr s 0x2100 3 l 0xFF) 0x2100 5 l 0) l 2

/-- The widest link width of at most `w` lanes from logical lane 0 on, or down from the top lane when reversal allows it,
that excludes the given logical lanes (R71, R72). (Log 51: DEDUCED.) -/
def widthWithout (w : Nat) (bad : List Nat) : Nat :=
  let ok (v : Nat) : Bool := decide (v ≤ w) && (bad.all (fun n => decide (v ≤ n)) || bad.all (fun n => decide (n < w - v)))
  if ok 16 then 16 else if ok 8 then 8 else if ok 4 then 4 else if ok 2 then 2 else if ok 1 then 1 else 0

/-- The widest L0p width whose logical lanes exclude a lane (R74). -/
def l0pWithout (w logical : Nat) : Nat :=
  if 16 ≤ w ∧ 8 ≤ logical then 8 else if 8 ≤ w ∧ 4 ≤ logical then 4 else if 4 ≤ w ∧ 2 ≤ logical then 2
  else if 1 ≤ logical then 1 else 0

/-- A link of width `w` narrows to exclude logical lanes: the lanes within the new width keep their numbers, or are numbered from the top
down where reversal excludes them so (R64); every other lane gives up its place (R67, R71). -/
def narrowTo (s : State) (p w : Nat) (bad : List Nat) : State :=
  let v := widthWithout w bad
  let low := bad.all fun n => decide (v ≤ n)
  let keep (l : Nat) : Bool := let n := rd s 0x2100 3 l; decide (v ≠ 0) && !bad.contains n && (if low then decide (n < v) else decide (w - v ≤ n))
  let lanes := linkLanes s p
  let s1 := (lanes.filter fun l => !keep l).foldl laneDrops (wr s 0x2010 3 p v)
  let s2 := if low then s1 else (lanes.filter keep).foldl (fun a l => wr a 0x2100 3 l (w - 1 - rd s 0x2100 3 l)) s1
  let q := getPort s2 p
  setPort s2 p { q with fullWidth := v, widthTx := v, widthRx := v, reversed := if low then q.reversed else !q.reversed }

/-- Recovery removes lanes that no spare can replace: the port narrows, and the loss is reported as a Fault on the sources of their groups
(R71, R72); a link that no width is left for goes down. -/
def narrowPort (s : State) (p : Nat) (bad : List Nat) : State :=
  match bad with
  | [] => s
  | _ =>
    let s1 := narrowTo s p (rd s 0x2010 3 p) ((bad.filter fun x => rd s 0x2100 3 x != 0xFF).map fun x => rd s 0x2100 3 x)
    ((bad.map laneGroup).eraseDups).foldl (fun a g => raise a (0x2000 + g) 5 .fault []) s1

/-- The port enters Recovery with the spare to take a lane, or none, and lanes to exclude (R75). -/
def enterRecovery (s : State) (p : Nat) (take : Option Nat) (out : List Nat) : State :=
  setPort (wr s 0x2010 2 p 4) p
    { getPort s p with window := false, lost := [], subPhase := 5, subLane := take, excluded := out, swap := false }

/-- The lane of a list that a spare can replace: the lowest-numbered whose group's spare is idle, in a mode other than
NONE (R72). -/
def spareable (s : State) (p : Nat) (ls : List Nat) : Option Nat :=
  match (ls.mergeSort (fun a b => decide (a ≤ b))).head? with
  | some l => if l < 256 ∧ spareFree s (laneGroup l) p = true ∧ sparingMode s p (laneGroup l) ≠ 0 then some l else none
  | none => none

/-- Substitution of the spare for one lane in the port's sparing mode (R72 to R75), or Recovery without a spare. -/
def beginSubstitution (s : State) (p lane : Nat) : State :=
  let g := laneGroup lane
  match spareable s p [lane] with
  | none => enterRecovery s p none [lane]
  | some _ =>
    let s1 := stopTest s (256 + g) 2
    let q := { getPort s1 p with window := false, lost := [], subLane := some lane, excluded := [], swap := false }
    let m := sparingMode s p g
    let w := l0pWithout (rd s 0x2010 3 p) (rd s 0x2100 3 lane)
    if m = 3 then emit (setPort s1 p { q with subPhase := 1 }) (.sparingRequest p lane)
    else if m = 2 ∧ w ≠ 0 then setPort s1 p { q with subPhase := 3 }
    else enterRecovery s1 p (some lane) []

/-- Several lanes lost lock: Recovery, in which the spare replaces the lowest-numbered where one can (R72). -/
def recoverLanes (s : State) (p : Nat) (ls : List Nat) : State :=
  match spareable s p ls with
  | some l => enterRecovery (stopTest s (spareOf l) 2) p (some l) (ls.filter (· != l))
  | none => enterRecovery s p none ls

/-- Recovery completes (R75): the spare carries its lane when it locked; else the event ends as in NONE. -/
def recoveryDone (s : State) (p : Nat) (spareLocked : Bool) : State :=
  let q := getPort s p
  let s1 := setPort (wr s 0x2010 2 p 3) p { q with subPhase := 0, subLane := none, excluded := [], swap := false }
  match q.subLane with
  | some l =>
    if q.swap then
      narrowPort (if spareLocked then restored s1 (laneGroup l) else cmdEnd s1 0x2140 11 (256 + laneGroup l) 3 0x41) p q.excluded
    else if spareLocked then narrowPort (substituted s1 p l) p q.excluded
    else narrowPort s1 p (l :: q.excluded)
  | none => narrowPort s1 p q.excluded

/-- The sparing mode that a link-up settles (Table 4-6) from the partner's capability. -/
def settleMode (s : State) (g cap : Nat) (l0p : Bool) : Nat :=
  if rd s 0x2140 5 (256 + g) = 0 ∨ rd s 0x2140 6 (256 + g) = 0 ∨ bit cap 0 = false ∨ bit cap 1 = false then 0
  else if bit cap 2 ∧ bit cap 3 then 3 else if l0p then 2 else 1

/-- What a partner offers at link-up for the lanes: those that fail to lock, reversal, polarity, its sparing capability. -/
structure LaneTraining where
  failed : List Nat
  reversed : Bool
  inverted : List Nat
  spareCap : Nat
  l0p : Bool
  asymmetric : Bool
  eqBypass : Bool
  noEq : Bool
  deriving DecidableEq, Repr

/-- The physical lane that takes a seat of a port at training: the lane, the spare for a lane it is assigned to in a mode other than NONE, or
none for another retired lane (R76). (Log 193: DEDUCED.) -/
def seatLane (s : State) (p l : Nat) : Option Nat :=
  let g := laneGroup l
  if laneRole s l ≠ 4 then some l
  else if rd s 0x2140 9 (256 + g) = l % 8 ∧ sparingMode s p g ≠ 0 then some (256 + g) else none

/-- One seat is taken: the lane's test stops, it equalises, and carries its logical lane (R59, R63, R64). -/
def takeSeat (s : State) (p logical rate : Nat) (t : LaneTraining) (x : Nat) : State :=
  let s1 := stopTest s x 3
  let s2 := equalise (setLane s1 x { getLane s1 x with farEnd := false }) x rate t.eqBypass t.noEq
  wr (laneIn s2 x (if x < 256 then 1 else 3) p logical rate) 0x2100 8 x (b2n (t.inverted.contains x))

/-- The two sides' exchange on each idle spare of a mode other than NONE begins, and SPARE_EN is set on the partner (R69, R70). -/
def beginExchange (s : State) (p : Nat) : State :=
  let gs := (portGroups s p).filter fun g => sparingMode s p g != 0
  let s1 := gs.foldl (fun a g =>
    if spareInUse a g then a
    else (let b := stopTest a (256 + g) 3; setGroup b g { getGroup b g with exchange := (getGroup b g).exchange.filter (· != p) ++ [p] })) s
  setPort s1 p { getPort s1 p with partnerSpareEn := !gs.isEmpty }

/-- A port's lanes train (R59, R62 to R64, R76): width is what the partner offers of the port's lanes; a lane that fails to
lock while the others lock is spared during Configuration in any mode other than NONE. -/
def trainLanes (s : State) (p width rate : Nat) (t : LaneTraining) : State :=
  let s0 := (portGroups s p).foldl
    (fun a g => wr a 0x2140 (sparingSub s p) (256 + g) (settleMode s g t.spareCap t.l0p)) s
  let lanes := (portLanes s p).take width
  let w := lanes.length
  let seats := (lanes.mapIdx fun n l => (logicalLane t.reversed w n, seatLane s0 p l))
  let s1 := seats.foldl (fun a e => match e.2 with | some x => takeSeat a p e.1 rate t x | none => a) s0
  let s2 := setPort s1 p { getPort s1 p with
    window := false, lost := [], subPhase := 0, subLane := none, excluded := [], swap := false, reversed := t.reversed
    fullWidth := w, widthTx := w, widthRx := w, l0p := t.l0p, asymmetric := t.asymmetric, spareCap := t.spareCap }
  let s3 := wr s2 0x2010 3 p w
  let missing := (seats.filter fun e => e.2.isNone).map (·.1)
  let s4 := beginExchange (if missing = [] then s3 else narrowTo s3 p w missing) p
  let bad := (linkLanes s4 p).filter fun l => t.failed.contains l
  match bad with
  | [] => s4
  | ls =>
    match spareable s4 p ls with
    | some x => narrowPort (substituted s4 p x) p (ls.filter (· != x))
    | none => narrowPort s4 p ls

/-- A port's lanes are released when its link goes down: both directions OFF; the decision window and any substitution are
abandoned, retired lanes and the spare's assignment stay (R67, R76); a lane that Swap back returns is unused. -/
def releaseLanes (s : State) (p : Nat) : State :=
  let q := getPort s p
  let s1 := ((portLanes s p).filter fun l => laneRole s l == 1 && lanePort s l == p).foldl (fun a l => laneOut a l 0) s
  let s2 := setPort s1 p { q with window := false, lost := [], subPhase := 0, subLane := none, excluded := [], swap := false
                                  fullWidth := 0, widthTx := 0, widthRx := 0, partnerSpareEn := false }
  let s3 := match q.swap, q.subLane with
    | true, some l => restored s2 (laneGroup l)
    | _, _ => s2
  (portGroups s p).foldl (fun a g =>
    if spareInUse a g then (if lanePort a (256 + g) = p then laneDrops a (256 + g) else a) else keepaliveEnds a g p) s3

/-- The lanes of a group, its spare last. -/
def groupLanes (g : Nat) : List Nat := (List.range 8).map (8 * g + ·) ++ [256 + g]

/-- Whether an object key is a volatile object of a group or of one of its lanes (R28). -/
def laneVolatile (g k : Nat) : Bool :=
  let idx := k / 16777216
  let q := k % 65536
  ((decide (0x2100 ≤ idx ∧ idx ≤ 0x2110) && (groupLanes g).contains q) || (idx == 0x2140 && q == 256 + g))
    && (match descOf idx (k / 65536 % 256) with | some d => !d.persist | none => false)

/-- A group's domain is reset: its volatile objects are at their defaults, no lane is retired, the spare is idle, and no equalisation results
are left (R28, R63, R76). (Log 191: DEDUCED.) -/
def resetLanes (s : State) (g : Nat) : State :=
  { s with obj := delIf s.obj fun k _ => laneVolatile g k
           lanes := delIf s.lanes fun l _ => (groupLanes g).contains l
           groups := del s.groups g }

/-- The equalisation results of a group's lanes are lost (R63: RET or OFF). -/
def forgetEq (s : State) (g : Nat) : State :=
  { s with lanes := mapVals s.lanes fun l x => if (groupLanes g).contains l then { x with eq := [] } else x }

/-- Whether a lane belongs to a port that carries traffic: not drained (R80). -/
def laneCarries (s : State) (l : Nat) : Bool :=
  laneRole s l == 1 && rd s 0x2140 2 (256 + laneGroup l) != 2 && decide (3 ≤ rd s 0x2010 2 (lanePort s l))

/-- The rows of Table 4-12 by the lane's kind: data lane in traffic, drained or unused, retired, spare with keep-alive, spare without; and a
spare that substitutes or is about to, which the table does not name and which takes no test. -/
inductive LaneKind where
  | traffic | drained | retired | spareKeepalive | spareIdle | spareBusy
  deriving DecidableEq, Repr

/-- The row of Table 4-12 that a lane meets when a test is written on it. (Log 192: DEDUCED.) -/
def laneKind (s : State) (l : Nat) : LaneKind :=
  if 256 ≤ l then
    (if spareTaken s (laneGroup l) then .spareBusy
     else if (getGroup s (laneGroup l)).keepalive ≠ [] then .spareKeepalive else .spareIdle)
  else if laneRole s l = 4 then .retired
  else if laneCarries s l then .traffic else .drained

/-- Whether the checker, the generator, a near-end loopback, or the far-end loopback is permitted on a lane (Table 4-12). -/
def checkerOk (k : LaneKind) : Bool :=
  match k with
  | .traffic => false
  | .spareBusy => false
  | _ => true

def generatorOk (k : LaneKind) : Bool :=
  match k with
  | .drained => true
  | .retired => true
  | .spareIdle => true
  | _ => false

def nearEndOk (k : LaneKind) : Bool := generatorOk k

def farEndOk (k : LaneKind) : Bool :=
  match k with
  | .drained => true
  | _ => false

/-- A test target (0x2110:01): permissions per R80; the actual follows. -/
def testTargetWrite (s : State) (l v : Nat) : State × Status :=
  let k := laneKind s l
  if (v % 2 = 1 ∧ generatorOk k = false) ∨ (2 ≤ v ∧ checkerOk k = false) then (s, .busy)
  else
    let s1 := wr (wr s 0x2110 1 l v) 0x2110 2 l v
    let s2 := if v = 0 ∧ rd s 0x2110 2 l ≠ 0 then wr s1 0x2110 11 l 1 else s1
    let s3 := if v = 0 then s2 else wr s2 0x2110 11 l 0
    (checkerEnds s3 l, .ok)

/-- The loopback (0x2110:04). -/
def loopbackWrite (s : State) (l v : Nat) : State × Status :=
  let k := laneKind s l
  if ((v = 1 ∨ v = 2) ∧ nearEndOk k = false) ∨ (v = 3 ∧ farEndOk k = false) then (s, .busy)
  else (wr s 0x2110 4 l v, .ok)

/-- An injection (0x2110:05, R79): RANGE outside 1 to 255; without a running generator it fails with REASON 0x42. The
keep-alive's generator runs on an idle spare that carries it. -/
def injectWrite (s : State) (l n : Nat) : State × Status :=
  if n = 0 ∨ 255 < n then (s, .range)
  else if laneKind s l = .traffic ∨ laneKind s l = .spareBusy then (s, .busy)
  else if rd s 0x2110 2 l % 2 = 1 ∨ laneKind s l = .spareKeepalive then
    (setLane (cmdDone s 0x2110 5 l 0) l { getLane s l with inject := n }, .ok)
  else (cmdDone s 0x2110 5 l 0x42, .ok)

/-- Clear counters (0x2110:09). -/
def clearCountersWrite (s : State) (l : Nat) : State × Status :=
  (cmdDone (wr (wr (wr s 0x2110 6 l 0) 0x2110 7 l 0) 0x2110 8 l 0) 0x2110 9 l 0, .ok)

/-- A lane direction's target (0x2101:01, 0x2102:01): OFF on a lane in use is refused with BUSY. -/
def laneDirWrite (s : State) (idx l v : Nat) : State × Status :=
  if v = 2 ∧ (laneRole s l = 1 ∨ laneRole s l = 3) then (s, .busy)
  else
    let s1 := wr s idx 1 l v
    (if v = 2 then wr s1 idx 2 l 2 else s1, .ok)

/-- Swap back (0x2140:11): REASON 0x43 when no lane is retired; else the PRBS31 check runs, and a test on the retired lane
stops (R81). -/
def swapBackWrite (s : State) (g : Nat) : State × Status :=
  if spareInUse s g = false then (cmdDone s 0x2140 11 (256 + g) 0x43, .ok)
  else (cmdStart (stopTest s (8 * g + rd s 0x2140 9 (256 + g)) 2) 0x2140 11 (256 + g), .ok)

/-- Swap back of a clean lane (R81): by the port's sparing mode, as a substitution; at once where no link carries it. (Log 188: DEDUCED.) -/
def beginSwap (s : State) (g : Nat) : State :=
  let lane := 8 * g + rd s 0x2140 9 (256 + g)
  let p := lanePort s (256 + g)
  let q : PortSt := { getPort s p with subLane := some lane, swap := true, excluded := [] }
  let m := sparingMode s p g
  if linkUpOf s p = false ∨ rd s 0x2100 3 (256 + g) = 0xFF then restored s g
  else if q.window ∨ q.subPhase ≠ 0 then cmdEnd s 0x2140 11 (256 + g) 4 0
  else if rd s 0x2010 2 p = 3 ∧ m = 3 then emit (setPort s p { q with subPhase := 1 }) (.sparingRequest p lane)
  else if rd s 0x2010 2 p = 3 ∧ m = 2 ∧ l0pWithout (rd s 0x2010 3 p) (rd s 0x2100 3 (256 + g)) ≠ 0 then setPort s p { q with subPhase := 3 }
  else setPort (wr s 0x2010 2 p 4) p { q with subPhase := 5 }

/-- The check of Swap back ends: the retired lane was clean and returns, or the action fails with 0x41. -/
def swapBackEnd (s : State) (g err : Nat) : State :=
  if cmdRunning s 0x2140 11 (256 + g) = false ∨ s.ports.any (fun e => e.2.swap && claimsSpare e.2 g) = true then s
  else if err ≠ 0 ∨ spareInUse s g = false then cmdEnd s 0x2140 11 (256 + g) 3 (if err = 0 then 0x43 else 0x41)
  else beginSwap s g

/-- A lane that is not in use is retired: the spare is assigned to it, and carries it from the next link-up that settles a mode other than
NONE. (Log 193: DEDUCED.) -/
def retireIdle (s : State) (g lane : Nat) : State :=
  let s1 := wr (laneOut s lane 4) 0x2140 9 (256 + g) (lane % 8)
  wr (spareRests (stopTest (setGroup s1 g { exchange := [], keepalive := [] }) (256 + g) 2) g) 0x2100 1 (256 + g) 3

/-- Retire lane (0x2140:12): BUSY while S(g) is in use or a loss is being handled on the lane's port; else a proactive substitution (R76), which on a port in mode NONE
narrows the port by Recovery. (Log 187: DEDUCED.) -/
def retireLaneWrite (s : State) (g v : Nat) : State × Status :=
  let q := getPort s (lanePort s (8 * g + v))
  if spareTaken s g ∨ q.subPhase ≠ 0 ∨ q.window = true then (s, .busy)
  else
    let lane := 8 * g + v
    let s1 := cmdDone s 0x2140 12 (256 + g) 0
    (if laneRole s lane = 1 then beginSubstitution s1 (lanePort s lane) lane else retireIdle s1 g lane, .ok)

/-- A shape (0x2140:03): the partner group's links fall when it leaves or enters a pending pair (R60), and the sparing mode of a second port
that the shape does not have reads 0. -/
def shapeWritten (s : State) (g v : Nat) : State :=
  let s1 := wr s 0x2140 3 (256 + g) v
  if v = 2 then s1 else wr s1 0x2140 8 (256 + g) 0

end Sys2Proof.Machine
end

