-- ==== Sys2Proof/Machine/PortOps.lean ====
section
/-!
DEFINITION. The link layer of a port (chapter 5): format and rate, the credit audit, transactions that a lost link cannot
answer, and the TLS6400's own functions.
-/
namespace Sys2Proof.Machine

open Sys2Proof

/-- The fault source of a port. -/
def portSource (p : Nat) : Nat := 0x2100 + p

/-- The link carries traffic: L0, Recovery or L1. -/
def linkUp (s : State) (p : Nat) : Bool := linkUpOf s p

/-! Format and rate (R85). -/

/-- The highest rate of both sides that a set of rate codes allows. -/
def bestRate (cap lo hi : Nat) : Option Nat := if cap < lo then none else some (min cap hi)

/-- The format of 0x2010:05 and the rate code that a link-up chooses: the best common format that some common rate carries
(Table 4-2), else non-flit PCIe at 32 GT/s or below. (Log 53: DEDUCED.) -/
def chooseLink (formats cap : Nat) : Nat × Nat :=
  match (if bit formats 2 then bestRate cap 5 7 else none) with
  | some r => (3, r)
  | none =>
    match (if bit formats 1 then bestRate cap 5 7 else none) with
    | some r => (2, r)
    | none =>
      match (if bit formats 0 then bestRate cap 1 5 else none) with
      | some r => (1, r)
      | none => (4, min cap 5)

/-- The formats that both sides offer and 0x2000:03 allows; an inter-switch link carries no 68-byte flits (Table 5-1). (Log 53: DEDUCED.) -/
def commonFormats (s : State) (p : Nat) (x : Partner) : Nat :=
  x.formats.toNat &&& rd s 0x2000 3 p &&& (if actingRole s p = 3 then 6 else 7)

/-- Conditions under which a port trains (R60, R61, R83): a role, the target enabled, the group running in a settled
shape, its domain ON, and for an inter-switch link a common flit format. -/
def canTrain (s : State) (p : Nat) (x : Partner) : Bool :=
  actingRole s p != 0 && rd s 0x2010 1 p == 1 && decide (rd s 0x2010 2 p < 3) && !(portLanes s p).isEmpty
    && (portGroups s p).all (fun g => rd s 0x2140 2 (256 + g) == 0 && rd s 0x9000 2 (32 * (g / 8) + 9 + g % 8) == 0)
    && (actingRole s p != 3 || commonFormats s p x != 0) && decide (0 < x.maxRate.val) && decide (0 < x.width.val)

/-- Flow-control initialisation (R88): each pool's initial window is what the partner grants. (Log 54: DEDUCED.) -/
def initCredits (pools : List CreditPool) (credits : List Nat) : List CreditPool :=
  pools.mapIdx fun i k =>
    { k with initial := nth 0 credits i, usable := nth 0 credits i, shortfall := 0, noticed := false, quiet := false }

/-- A port comes up: format, rate, width, lanes, credits and the partner's DVSEC (R85, R87, R88). -/
def linkUpLocal (s : State) (p : Nat) (x : Partner) : State :=
  let c := chooseLink (commonFormats s p x) (min x.maxRate.val (rd s 0x2000 2 p))
  let s0 := wr (wr (wr (wr s 0x2010 2 p 3) 0x2010 4 p c.2) 0x2010 5 p c.1) 0x2010 6 p (if c.1 = 4 then 0 else x.cxlRev.val)
  let s1 := wr s0 0x2300 7 p x.dvsec.toNat
  let s2 := trainLanes s1 p x.width.val c.2
    { failed := x.failed.map (·.val), reversed := x.reversed, inverted := x.inverted.map (·.val)
      spareCap := x.spareCap.toNat, l0p := x.l0p && rd s 0x2000 4 p == 1 && c.1 != 4
      asymmetric := x.asymmetric, eqBypass := x.eqBypass, noEq := x.noEq }
  let q := getPort s2 p
  setPort s2 p { q with presence := true, pools := initCredits q.pools (x.credits.map (·.toNat)), auditHold := false
                        retrain := 0, retrainTimes := [], lateTags := [], lateSnoops := [], hasMem := x.mem.isSome
                        partnerCtrl := if bit x.dvsec.toNat 0 then setBit q.partnerCtrl 0 true else 0 }

/-! Transactions at a lost link (R93). -/

/-- The uncorrectable-error log of a host's USP takes a loss (Table 5-6). -/
def logRas (s : State) (p : Nat) : State := setPort s p { getPort s p with rasErrors := (getPort s p).rasErrors + 1 }

/-- The synthetic completion of Table 5-6 for one transaction toward the lost port `p`; counted at 0x2200:07; its sample record ends (R331). -/
def synthetic (s0 : State) (p : Nat) (t : Txn) : State :=
  let s := endSample s0 (flagSample t.sample 32)
  let done (a : State) (r : Response) : State := emit (bump a 0x2200 7 p 64 1) (.response t.src t.tag r)
  match t.kind with
  | .memRd => if t.ndr then emit (done s (.drs (zeros 64) true 0)) (.response t.src t.tag (.ndr 0 0)) else done s (.drs (zeros 64) true 0)
  | .memSpecRd => s
  | .memWr => raise (logRas (done s (.ndr 0 0)) t.src) (portSource p) 15 .fault []
  | .memInv => done s (.ndr 0 0)
  | .memClnEvct => done s (.ndr 0 0)
  | .biSnp => raise (logRas (done s .biRspI) p) (portSource p) 15 .fault []
  | .ioNonPosted => done s (.io (if t.sent then 2 else 1) [])
  | .ioConfig => done s (.io 1 [])
  | .ioPosted => s
  | .ioCompletion => s
  | .d2hReq => done s .goErr
  | .h2dSnp => raise (logRas (done s .rspIHitI) t.src) (portSource p) 15 .fault []

/-- The sample records of transactions that are forgotten end (R331). -/
def endSamples (s : State) (l : List Txn) : State := l.foldl (fun a t => endSample a (flagSample t.sample 32)) s

/-- Every transaction toward a lost port gets its synthetic completion; queued ones are dropped and counted at 0x2200:06;
the late responses of the sent ones will be discarded. Transactions that came from the port are forgotten. -/
def dropTxns (s : State) (p : Nat) : State :=
  let mine := s.txns.filter fun t => t.dst == p
  let keep := s.txns.filter fun t => t.dst != p && t.src != p
  let s1 := bump { s with txns := keep } 0x2200 6 p 64 ((mine.filter fun t => !t.sent).length)
  let s2 := mine.foldl (fun a t => synthetic a p t) (endSamples s1 (s.txns.filter fun t => t.dst != p && t.src == p))
  setPort s2 p { getPort s2 p with lateTags := (getPort s2 p).lateTags ++ (mine.filter (·.sent)).map (·.tag) }

/-- Credit retrain step 2 (R91): transactions still outstanding get their synthetic completions. (Log 60: DEDUCED.) -/
def cutOutstanding (s : State) (p : Nat) : State :=
  let mine := s.txns.filter fun t => t.dst == p && t.sent
  let s2 := mine.foldl (fun a t => synthetic a p t) { s with txns := s.txns.filter fun t => !(t.dst == p && t.sent) }
  setPort s2 p { getPort s2 p with lateTags := (getPort s2 p).lateTags ++ mine.map (·.tag) }

/-- The code of a down cause at 0x2010:08. -/
def downCode (c : DownCause) : Nat :=
  match c with
  | .surprise => 1 | .disabled => 2 | .dpc => 3 | .creditFallback => 4 | .tileReset => 5 | .perst => 6 | .hotReset => 7
  | .trainingFailed => 8

/-- The link layer and lanes of a port go down (R93): counters, cause, lanes released, an unfinished credit retrain
abandoned and counted (Table 5-5). -/
def linkDownLocal (s : State) (p : Nat) (cause : Nat) : State :=
  let s1 := wr (bump s 0x2010 7 p 32 1) 0x2010 8 p cause
  let s2 := wr s1 0x2010 2 p (if rd s 0x2010 1 p = 0 ∨ actingRole s p = 0 ∨ cause = 2 then 0 else 1)
  let s3 := wr (wr (wr (wr (wr s2 0x2010 3 p 0) 0x2010 4 p 0) 0x2010 5 p 0) 0x2010 6 p 0) 0x2300 8 p 0
  let s4 := releaseLanes (dropTxns s3 p) p
  let s5 := if (getPort s4 p).retrain = 1 ∨ (getPort s4 p).retrain = 2 then bump s4 0x2210 6 p 32 1 else s4
  let s6 := if cmdRunning s5 0x2210 9 p then cmdEnd s5 0x2210 9 p 4 0 else s5
  setPort s6 p { getPort s6 p with auditHold := false, retrain := 0 }

/-- Flits of a port's replay buffer (R86): 128 a lane of its shape. -/
def replayFlits (s : State) (p : Nat) : Nat := 128 * (portLanes s p).length

/-! The credit audit (R88 to R92). -/

/-- A pool that the partner granted as infinite is not audited. -/
def audited (k : CreditPool) : Bool := k.initial != 0xFFFFFFFF && k.initial != 0

/-- The credit pools (Table 5-4) from which a port sends a message of a class of Table 6-3, and a message of CXL.cache. -/
def classPools (s : State) (p cls : Nat) : List Nat :=
  match cls with
  | 0 => [6] | 1 => [7] | 2 => [9] | 3 => [10]
  | 4 => [if actingRole s p = 2 then 8 else 11]
  | 5 => [0, 1] | 6 => [2, 3] | _ => [4, 5]

def msgPools (s : State) (p : Nat) (m : Msg) : List Nat :=
  match m.kind with
  | .d2hReq => [if m.cls = 0 then 12 else if m.cls = 2 then 13 else 14]
  | .h2dSnp => [if m.cls = 0 then 15 else if m.cls = 2 then 16 else 17]
  | _ => classPools s p m.cls

/-- A port has credits of its partner in some pools: a finite pool whose usable window has reached 0 gives none (R92). -/
def poolsOpen (s : State) (p : Nat) (l : List Nat) : Bool :=
  l.all fun i =>
    let k := nth poolInit (getPort s p).pools i
    !audited k || k.usable != 0

/-- A pool's books at a quiet point (R90): the usable window, the leak beyond what was counted, the over-return. (Log 54: DEDUCED.) -/
def auditPool (k : CreditPool) (avail : Nat) : CreditPool :=
  let short := k.initial - avail
  { k with usable := min avail k.initial, leaked := k.leaked + (short - k.shortfall), shortfall := max k.shortfall short
           overReturned := k.overReturned + (avail - k.initial), quiet := true
           noticed := k.noticed || decide (k.shortfall < short) }

/-- Both sides show LL_REINIT (the TLS6400 always does, R87). -/
def llReinit (s : State) (p : Nat) : Bool := bit (rd s 0x2300 7 p) 0

/-- A credit retrain starts (R91, step 1). -/
def startRetrain (s : State) (p : Nat) : State :=
  setPort s p { getPort s p with retrain := 1, retrainTimes := s.clock.core :: (getPort s p).retrainTimes }

/-- Ten seconds of core cycles. -/
def tenSeconds : Nat := 15000000000

/-- A credit retrain that is due is not possible (R92): no LL_REINIT, or too soon after the retrain two before it. -/
def retrainBarred (s : State) (p : Nat) : Bool :=
  !llReinit s p || match (getPort s p).retrainTimes with
    | _ :: t :: _ => decide (s.clock.core < t + tenSeconds)
    | _ => false

/-- A transaction that the port sent from a pool awaits its response (Table 5-4, R89). -/
def poolAwaits (s : State) (p i : Nat) : Bool :=
  let sent (f : TxnKind → Bool) : Bool := s.txns.any fun t => t.dst == p && t.sent && f t.kind
  if i = 2 ∨ i = 3 then sent (fun k => k == .ioNonPosted || k == .ioConfig) || ((List.range 17).any fun n => !(getFn s (32 * p + n)).reads.isEmpty)
  else if i = 6 then sent fun k => k == .memRd || k == .memInv || k == .memClnEvct
  else if i = 7 then sent fun k => k == .memWr
  else if i = 11 then s.coh.lines.any (fun e => e.2.snoops.any fun x => x.1 == p) || sent fun k => k == .biSnp
  else if i = 12 then sent fun k => k == .d2hReq
  else if i = 15 then sent fun k => k == .h2dSnp
  else false

/-- A quiet point of one pool (R90 to R92); the second component asks for the link reset of fallback 1. -/
def quietPoint (s : State) (p i avail : Nat) : State × Bool :=
  let q := getPort s p
  let k := nth poolInit q.pools i
  if linkUp s p = false ∨ audited k = false ∨ poolAwaits s p i = true then (s, false)
  else
    let k' := auditPool k avail
    let pools := setAt q.pools i k'
    let s1 := setPort s p { q with pools := pools
                                   auditHold := q.auditHold && !(pools.filter audited).all (·.quiet) }
    let s2 := if k.initial < avail ∨ (k'.noticed = true ∧ k.noticed = false) then
        raise s1 (portSource p) 8 .notice [] else s1
    let due := rd s 0x2210 1 p ≠ 0 ∧ k'.usable * 100 < rd s 0x2210 1 p * k'.initial ∧ q.retrain = 0
    if due then
      if retrainBarred s p then
        (if rd s 0x2210 5 p = 1 then (s2, true) else (raise s2 (portSource p) 9 .fault [], false))
      else (startRetrain s2 p, false)
    else (s2, false)

/-- Flow control starts afresh after a credit retrain (R91, steps 3 and 4). (Log 54: DEDUCED.) -/
def retrainDone (s : State) (p : Nat) (credits : List Nat) : State :=
  let q := getPort s p
  let pools := q.pools.mapIdx fun i k =>
    { k with initial := nth 0 credits i, usable := nth 0 credits i, shortfall := 0, quiet := false }
  let s1 := setPort (wr s 0x2010 2 p 3) p { q with pools := pools, retrain := 0, auditHold := false }
  let s2 := if q.retrain = 2 then bump s1 0x2210 6 p 32 1 else s1
  if cmdRunning s2 0x2210 9 p then cmdEnd s2 0x2210 9 p 2 0 else s2

/-- Force retrain (0x2210:09): REASON 0x51 when either side lacks LL_REINIT, as a partner behind a link that is down does; one written
while a credit retrain runs ends with it. (Log 195: DESIGN CHOICE.) -/
def forceRetrainWrite (s : State) (p : Nat) : State × Status :=
  if linkUp s p = false ∨ llReinit s p = false then (cmdDone s 0x2210 9 p 0x51, .ok)
  else
    let s1 := cmdStart s 0x2210 9 p
    (if (getPort s1 p).retrain = 0 then startRetrain s1 p else s1, .ok)

/-! The TLS6400's own functions (R94 to R96). -/

/-- The number of a function on its USP. -/
def funcNo (f : FuncSel) : Nat :=
  match f with
  | .manager => 16
  | .ld n => n.val

/-- The egress block takes effect (R94, R95): reads outstanding are given up, and their tags are held until their
completion arrives or times out. -/
def blockFn (s : State) (k : Nat) : State :=
  let f := getFn s k
  setFn s k { f with bme := false, heldTags := f.heldTags ++ f.reads.map (·.2), reads := [] }

/-- Bus Master Enable is set (R94, R342): each pending MSI-X vector is sent, once; of the manager's function also those of fault sources. -/
def openFn (s : State) (k : Nat) : State :=
  let f := getFn s k
  let mgr := mgrFn s = some k
  let vs := (f.msix ++ (if mgr then s.flt.msixPending.map fun src => rd s 0xC000 8 src else [])).eraseDups
  let s1 := vs.foldl (fun a v => emit a (.msix k v)) (setFn s k { f with bme := true, msix := [] })
  if mgr then { s1 with flt := { s1.flt with msixPending := [] } } else s1

/-- A tag that no read of the function uses and none is held (R95). -/
def freshTag (f : FnSt) : Nat :=
  ((List.range (f.reads.length + f.heldTags.length + 1)).find? fun t =>
    !(f.reads.map (·.2)).contains t && !f.heldTags.contains t).getD 0

end Sys2Proof.Machine
end

