-- ==== Sys2Proof/Machine/QosOps.lean ====
section
/-!
DEFINITION. QoS (chapter 14): queues and the queue map, lengths, meters, shapers, the hold cap and the egress schedulers.
-/
namespace Sys2Proof.Machine

open Sys2Proof

/-! Queue map and lengths (R299, R302). -/

/-- The queue that the map names for a traffic class and W. -/
def mappedQueue (s : State) (i tc : Nat) (w : Bool) : Nat := rd s 0x7000 1 i / 16 ^ (2 * (tc % 4) + b2n w) % 16

/-- A signed overhead of 16 or 32 bits added to a length, not below a floor. -/
def overLen (d : Nat) (o : Int) (floor : Nat) : Nat := max floor (((d : Int) + o).toNat)

/-! Meters (R303 to R305). -/

/-- A meter record (Table 14-2): 32 bytes. -/
def meterRec (s : State) (i m : Nat) : Nat := rdTbl s 0x7000 3 i m 0

def mtrMode (r : Nat) : Nat := bits r 255 248
def mtrOver (r : Nat) : Int := toSigned 16 (bits r 239 224)
def mtrCir (r : Nat) : Nat := bits r 223 192
def mtrPir (r : Nat) : Nat := bits r 191 160
def mtrCbs (r : Nat) : Nat := bits r 159 128
def mtrEbs (r : Nat) : Nat := bits r 127 96

/-- Without reserved fields (R2): byte 1 and bytes 20 to 31. -/
def meterMask (r : Nat) : Nat := bits r 255 248 * 2 ^ 248 + bits r 239 96 * 2 ^ 96

/-- A record keeps Table 14-2 (R304). -/
def meterOk (r : Nat) : Bool :=
  if mtrMode r = 0 then bits r 239 96 == 0
  else
    decide (mtrMode r ≤ 2) && decide (-64 ≤ mtrOver r ∧ mtrOver r ≤ 255) && decide (1 ≤ mtrCir r ∧ mtrCir r ≤ 4000000)
      && decide (1024 ≤ mtrCbs r ∧ mtrCbs r ≤ 16777216)
      && (if mtrMode r = 1 then mtrPir r == 0 && decide (mtrEbs r ≤ 16777216)
          else decide (mtrCir r ≤ mtrPir r ∧ mtrPir r ≤ 4000000) && decide (mtrCbs r ≤ mtrEbs r ∧ mtrEbs r ≤ 16777216))

/-- A full pair of buckets of a meter record, in 1/256 byte. -/
def fullMeter (r : Nat) : Bucket := { c := mtrCbs r * 256, p := mtrEbs r * 256, credit := 0, upd := 0 }

def getMeter (s : State) (i m : Nat) : Bucket := look (fullMeter (meterRec s i m)) s.qos.meters (4 * i + m)

def setMeter (s : State) (i m : Nat) (b : Bucket) : State := { s with qos := { s.qos with meters := put s.qos.meters (4 * i + m) b } }

/-- What 256 core cycles at a rate in MB/s bring, in 1/256 byte. -/
def refillOf (rate : Nat) : Nat := rate * 65536 / 1500

/-- One refill of a meter: RFC 2697 fills the committed bucket first and the excess bucket with the rest; RFC 2698 fills both. -/
def refillMeter (r : Nat) (b : Bucket) : Bucket :=
  if mtrMode r = 1 then
    let n := b.c + refillOf (mtrCir r)
    { b with c := min n (mtrCbs r * 256), p := min (b.p + (n - mtrCbs r * 256)) (mtrEbs r * 256) }
  else { b with c := min (b.c + refillOf (mtrCir r)) (mtrCbs r * 256), p := min (b.p + refillOf (mtrPir r)) (mtrEbs r * 256) }

/-- The colour of `len` bytes (0 green, 1 yellow, 2 red), and the buckets after. -/
def meterColour (r : Nat) (b : Bucket) (len : Nat) : Nat × Bucket :=
  let n := len * 256
  if mtrMode r = 1 then
    if n ≤ b.c then (0, { b with c := b.c - n }) else if n ≤ b.p then (1, { b with p := b.p - n }) else (2, b)
  else if b.p < n then (2, b)
  else if b.c < n then (1, { b with p := b.p - n })
  else (0, { b with c := b.c - n, p := b.p - n })

/-- The meter of a queue: none when it names none or one whose MODE is 0. -/
def queueMeter (s : State) (q : Nat) : Option Nat :=
  let m := rd s 0x7100 1 q
  if m < 4 ∧ mtrMode (meterRec s (q / 16) m) ≠ 0 then some m else none

/-- Meter a request of a queue with `d` data bytes. -/
def meterRequest (s : State) (q d : Nat) : State × Nat :=
  match queueMeter s q with
  | none => (s, 0)
  | some m =>
    let r := meterRec s (q / 16) m
    let x := meterColour r (getMeter s (q / 16) m) (overLen d (mtrOver r) 0)
    (setMeter s (q / 16) m x.2, x.1)

/-- The colour counts of 0x7000:04: a record of green, yellow and red. -/
def countColour (s : State) (q colour : Nat) : State :=
  match queueMeter s q with
  | none => s
  | some m =>
    let v := rdTbl s 0x7000 4 (q / 16) m 0
    let sh := 64 * (2 - colour)
    wrTbl s 0x7000 4 (q / 16) m (v - bits v (sh + 63) sh * 2 ^ sh + (bits v (sh + 63) sh + 1) % 2 ^ 64 * 2 ^ sh)

/-- A chunk of meter records (R304): each must keep Table 14-2; a change of MODE fills the buckets, other changes clip them. -/
def metersWrite (s : State) (i start : Nat) (recs : List Nat) : State × Status :=
  if recs = [] ∨ 4 < start + recs.length ∨ recs.any (fun r => !meterOk r) then (s, .range)
  else
    let s1 := (List.range recs.length).foldl (fun a k =>
      let r := meterMask (nth 0 recs k)
      let m := start + k
      let b := getMeter a i m
      let b1 := if mtrMode r = mtrMode (meterRec a i m) then { b with c := min b.c (mtrCbs r * 256), p := min b.p (mtrEbs r * 256) }
        else fullMeter r
      setMeter (wrTbl a 0x7000 3 i m r) i m b1) s
    ({ s1 with qos := { s1.qos with capTold := s1.qos.capTold.filter (· != i) } }, .ok)

/-! Shapers (R307, R308). -/

/-- A shaper record (Table 14-3): 32 bytes. -/
def shaperRec (s : State) (q : Nat) : Nat := ofBe (rdBlob s 0x7100 2 q (zeros 32))

def shpMode (r : Nat) : Nat := bits r 255 248
def shpOver (r : Nat) : Int := toSigned 16 (bits r 239 224)
def shpCr (r : Nat) : Nat := bits r 223 192
def shpCb (r : Nat) : Nat := bits r 191 160
def shpPr (r : Nat) : Nat := bits r 159 128
def shpPb (r : Nat) : Nat := bits r 127 96
def shpLo (r : Nat) : Int := toSigned 32 (bits r 95 64)

def shaperMask (r : Nat) : Nat := bits r 255 248 * 2 ^ 248 + bits r 239 64 * 2 ^ 64

/-- A record keeps Table 14-3. -/
def shaperOk (r : Nat) : Bool :=
  let m := shpMode r
  if m = 0 then bits r 239 64 == 0
  else
    decide (m ≤ 3) && decide (-64 ≤ shpOver r ∧ shpOver r ≤ 255) && decide (1 ≤ shpCr r ∧ shpCr r ≤ 4000000)
      && decide (1024 ≤ shpCb r ∧ shpCb r ≤ 16777216)
      && (if m = 2 then shpPr r == 0 && shpPb r == 0
          else decide (shpCr r ≤ shpPr r ∧ shpPr r ≤ 4000000) && decide (shpCb r ≤ shpPb r ∧ shpPb r ≤ 16777216))
      && (if m = 1 then shpLo r == 0 else decide (-16777216 ≤ shpLo r ∧ shpLo r ≤ -1))

/-- Buckets start full and the credit at 0 (R308), in 1/1500 byte. -/
def fullShaper (s : State) (r : Nat) : Bucket := { c := shpCb r * 1500, p := shpPb r * 1500, credit := 0, upd := s.clock.core }

def getShaper (s : State) (q : Nat) : Bucket := look (fullShaper s (shaperRec s q)) s.qos.shapers q

def setShaper (s : State) (q : Nat) (b : Bucket) : State := { s with qos := { s.qos with shapers := put s.qos.shapers q b } }

/-- The requests that a queue holds. -/
def heldOf (s : State) (q : Nat) : List Req := look [] s.qos.queues q

/-- A shaper brought up to the present cycle (Table 14-4): peak and committed buckets fill; the credit rises at CR while the
queue holds a request, up to CB; in an empty queue positive credit is 0 and negative credit rises to 0. -/
def shaperNow (s : State) (q : Nat) : Bucket :=
  let r := shaperRec s q
  let b := getShaper s q
  let dt := s.clock.core - b.upd
  let cr : Int := ((shpCr r * dt : Nat) : Int)
  { c := min (b.c + shpCr r * dt) (shpCb r * 1500), p := min (b.p + shpPr r * dt) (shpPb r * 1500), upd := s.clock.core
    credit := if (heldOf s q).isEmpty then (if 0 < b.credit then 0 else min 0 (b.credit + cr))
              else min (b.credit + cr) ((shpCb r * 1500 : Nat) : Int) }

/-- Whether the head of `d` data bytes may be released, and at the low tier (Table 14-4). -/
def shaperReady (s : State) (q d : Nat) : Bool × Bool :=
  let r := shaperRec s q
  let b := shaperNow s q
  let n := overLen d (shpOver r) 0 * 1500
  if shpMode r = 1 then (decide (n ≤ b.p), decide (b.c < n))
  else if shpMode r = 2 then (decide (0 ≤ b.credit), false)
  else if shpMode r = 3 then (decide (n ≤ b.p), decide (b.credit < 0))
  else (true, false)

/-- The shaper after a release (Table 14-4), and the released bytes of 0x7100:06 and :07. -/
def shaperTake (s : State) (q d : Nat) (low : Bool) : State :=
  let r := shaperRec s q
  let b := shaperNow s q
  let len := overLen d (shpOver r) 0
  let n := len * 1500
  let lo : Int := shpLo r * 1500
  let b1 : Bucket :=
    if shpMode r = 1 then { b with p := b.p - n, c := if n ≤ b.c then b.c - n else b.c }
    else if shpMode r = 2 then { b with credit := max lo (b.credit - (n : Int)) }
    else if shpMode r = 3 then { b with p := b.p - n, credit := max lo (b.credit - (n : Int)) }
    else b
  let s1 := bump (setShaper s q b1) 0x7100 6 q 64 len
  if low then bump s1 0x7100 7 q 64 len else s1

/-- Shaper (0x7100:02): refused with RANGE when it breaks Table 14-3. -/
def shaperWrite (s : State) (q : Nat) (v : List Byte) : State × Status :=
  let r := shaperMask (ofBe v)
  if v.length ≠ 32 ∨ shaperOk (ofBe v) = false then (s, .range)
  else
    let s1 := setShaper s q (shaperNow s q)
    let s2 := wrBlob s1 0x7100 2 q (be 32 r)
    let b := getShaper s1 q
    (setShaper s2 q (if shpMode r = shpMode (shaperRec s q) then { b with c := min b.c (shpCb r * 1500), p := min b.p (shpPb r * 1500) }
      else fullShaper s2 r), .ok)

/-- Shaper state (0x7100:08): the credit in modes 2 and 3, the committed tokens in mode 1. -/
def shaperState (s : State) (q : Nat) : Nat :=
  let r := shaperRec s q
  let b := shaperNow s q
  if shpMode r = 1 then b.c / 1500 else if shpMode r = 0 then 0 else ofSigned 32 (b.credit / 1500)

/-! Holding (R305, R306). -/

/-- Requests an instance holds in its queues, in cells (each request on memory takes one cell). -/
def heldCount (s : State) (i : Nat) : Nat := (List.range 16).foldl (fun a k => a + (heldOf s (16 * i + k)).length) 0

/-- A request joins its queue. -/
def holdReq (s : State) (r : Req) : State :=
  let q := 16 * r.inst + r.queue
  let s1 := setShaper s q (shaperNow s q)
  { s1 with qos := { s1.qos with queues := put s1.qos.queues q (heldOf s1 q ++ [{ r with sample := flagSample r.sample 64 }])
                                 order := put s1.qos.order r.inst (look [] s1.qos.order r.inst ++ [r.queue]) } }

/-- The first entry of a list with a value is taken out. -/
def eraseFirst (l : List Nat) (v : Nat) : List Nat := l.erase v

/-- The head of a queue leaves it. -/
def unholdHead (s : State) (q : Nat) : State :=
  let s1 := setShaper s q (shaperNow s q)
  { s1 with qos := { s1.qos with queues := put s1.qos.queues q (heldOf s1 q).tail
                                 order := put s1.qos.order (q / 16) (eraseFirst (look [] s1.qos.order (q / 16)) (q % 16)) } }

/-- The oldest held request of an instance leaves its queue (R306): low tier, DevLoad 3, no tokens. -/
def capRelease (s : State) (i : Nat) : State × Option Req :=
  match look [] s.qos.order i with
  | [] => (s, none)
  | k :: _ =>
    match heldOf s (16 * i + k) with
    | [] => (s, none)
    | r :: _ =>
      let s1 := bump (unholdHead s (16 * i + k)) 0x7000 5 i 64 1
      let s2 := if s1.qos.capTold.contains i then s1
        else raise { s1 with qos := { s1.qos with capTold := s1.qos.capTold ++ [i] } } (instSource i) 16 .notice []
      (s2, some { r with low := true, devLoad := 3 })

/-- The head of a queue leaves it when it is not red and its shaper lets it (R305, R307, R309). -/
def headRelease (s : State) (q : Nat) : Option (State × Req) :=
  match heldOf s q with
  | [] => none
  | r :: _ =>
    let x := shaperReady s q r.len
    if r.colour = 2 ∨ x.1 = false then none
    else
      let low := r.low || x.2 || r.colour == 1
      some (unholdHead (shaperTake s q r.len low) q, { r with low := low })

/-- A request arrives at its queue (R303, R305): metered, released at once when nothing waits before it, it is not red and its
shaper is ready; else held. The requests that leave the queue because of it come with the state. -/
def qosArrive (s : State) (r0 : Req) : State × List Req :=
  let q := 16 * r0.inst + r0.queue
  let m := meterRequest s q r0.len
  let s1 := countColour m.1 q m.2
  let s1b := if r0.agent < 64 ∧ 0 < m.2 then portEvent s1 r0.agent (0x0B + m.2) 1 (some r0.inst) 0 else s1
  let r := { r0 with colour := m.2, devLoad := max r0.devLoad (if m.2 = 0 then 0 else m.2 + 1) }
  let x := shaperReady s1b q r.len
  if (heldOf s1b q).isEmpty ∧ r.colour ≠ 2 ∧ x.1 = true then
    let low := x.2 || r.colour == 1
    (shaperTake s1b q r.len low, [{ r with low := low }])
  else
    let s2 := holdReq s1b r
    if rd s2 0x7000 2 r.inst < heldCount s2 r.inst then
      let c := capRelease s2 r.inst
      (c.1, c.2.toList)
    else (s2, [])

/-- The tile at which a request entered. -/
def reqTile (r : Req) : Nat := if r.agent < 64 then r.agent / 16 else r.agent - 64

/-- The queues whose head can be released at a tile: strict ones first by k, then weighted ones from the tile's pointer (R310). -/
def readyQueues (s : State) (t : Nat) : List Nat :=
  let qs := (s.qos.queues.filter fun e => match e.2 with | r :: _ => reqTile r == t && (headRelease s e.1).isSome | [] => false).map (·.1)
  let strict := (qs.filter fun q => q % 16 < 4).mergeSort fun a b => decide (a % 16 ≤ b % 16)
  let ptr := look 0 s.qos.rr t
  let weighted := (qs.filter fun q => 4 ≤ q % 16).mergeSort fun a b => decide ((a + 65536 - ptr) % 65536 ≤ (b + 65536 - ptr) % 65536)
  strict ++ weighted

/-- The first ready head of a tile leaves its queue. -/
def releaseNext (s : State) (t : Nat) : Option (State × Req) :=
  match readyQueues s t with
  | [] => none
  | q :: _ =>
    match headRelease s q with
    | none => none
    | some x => some (if 4 ≤ q % 16 then { x.1 with qos := { x.1.qos with rr := put x.1.qos.rr t ((q + 1) % 65536) } } else x.1, x.2)

/-- The red head of a queue is metered again (R305): its colour changes when the meter gives green or yellow. -/
def remeterHead (s : State) (q : Nat) : State :=
  match heldOf s q with
  | [] => s
  | r :: rest =>
    if r.colour = 2 then
      let m := meterRequest s q r.len
      if m.2 = 2 then m.1 else { m.1 with qos := { m.1.qos with queues := put m.1.qos.queues q ({ r with colour := m.2 } :: rest) } }
    else s

/-- The tile that refills an instance's meters: the tile of the USP that presents it. -/
def meterTile (s : State) (i : Nat) : Nat := if (getInst s i).usp < 64 then (getInst s i).usp / 16 else 0

/-- Every 256 core cycles (R303): the meters refill, and red heads are metered again. -/
def refillTile (s : State) (t : Nat) : State :=
  let f (k : Nat) (b : Bucket) : Bucket := if meterTile s (k / 4) = t then refillMeter (meterRec s (k / 4) (k % 4)) b else b
  let s1 := { s with qos := { s.qos with meters := mapVals s.qos.meters f } }
  (s1.qos.queues.map (·.1)).foldl (fun a q => if meterTile a (q / 16) = t then remeterHead a q else a) s1

/-! Egress scheduling (R311 to R314). -/

def egressOf (s : State) (q : Nat) : List EgMsg := look [] s.egress q

def setEgress (s : State) (q : Nat) (l : List EgMsg) : State := { s with egress := put s.egress q l }

/-- A message reaches a scheduler. -/
def pushEgress (s : State) (q : Nat) (m : EgMsg) : State := setEgress s q (egressOf s q ++ [m])

/-- The class of an instance's request at a scheduler; the traffic of a system context has the scheduler's system class (R311). -/
def schedClass (s : State) (q : Nat) (r : Req) : Nat := if r.inst = 4096 ∧ 64 ≤ r.agent then rd s 0x7200 4 q else r.queue

/-- The scheduler of a target: its HBM scheduler, or its port's (R311). -/
def targetSched (t : Nat) : Nat := if t < 4 then 64 + t else t - 16

/-- The weight of a class (0x7200:01). -/
def schedWeight (s : State) (q c : Nat) : Nat := rdTbl s 0x7200 1 q (c - 4) 16

/-- The length a scheduler counts (R302): at least 1. -/
def schedLen (s : State) (q : Nat) (m : EgMsg) : Nat := overLen m.len (toSigned 32 (rd s 0x7200 2 q)) 1

/-- The egress can take a message: the link of a port carries traffic and holds no new transactions (R89, R91). -/
def egressOpen (s : State) (q : Nat) : Bool :=
  if q < 64 then linkUp s q && !(getPort s q).auditHold && (getPort s q).retrain == 0 else true

/-- No earlier message to the same line waits in another class (R314). -/
def lineFirst (l : List EgMsg) (n : Nat) : Bool :=
  match l[n]? with
  | some m => m.line == none || (l.take n).all fun e => e.line != m.line || e.cls == m.cls
  | none => false

/-- The pools from which a port sends what a scheduler holds. -/
def outPools (s : State) (p : Nat) (o : EgOut) : List Nat :=
  match o with
  | .fwd m => msgPools s p m
  | .rsp _ (.drs _ _ _) => classPools s p 3
  | .rsp _ (.io _ _) => classPools s p 7
  | .rsp _ _ => classPools s p 2
  | .snoop _ _ => [11]
  | .conflictAck _ => classPools s p 2
  | .fill _ => classPools s p 0
  | .specRd _ _ => classPools s p 0

/-- A scheduler's egress can take a message: at a port, its partner has credits for it (R311). -/
def creditFor (s : State) (q : Nat) (m : EgMsg) : Bool := decide (64 ≤ q) || poolsOpen s q (outPools s q m.out)

/-- The place of the head of a class, when it is eligible. -/
def classHead (s : State) (q : Nat) (l : List EgMsg) (c : Nat) : Option (Nat × EgMsg) :=
  let n := l.findIdx fun e => e.cls == c
  match l[n]? with
  | some m => if lineFirst l n = true ∧ creditFor s q m = true then some (n, m) else none
  | none => none

def getDef (s : State) (q c : Nat) : Nat := look 0 s.qos.deficit (32 * q + c)

def setDef (s : State) (q c v : Nat) : State := { s with qos := { s.qos with deficit := put s.qos.deficit (32 * q + c) v } }

/-- Deficit round robin over classes 4 to 15 at a tier (R313): slot 16 holds the pointer, slot 17 whether the class there has had
its quantum. -/
def dwrr : Nat → State → Nat → List EgMsg → Bool → State × Option Nat
  | 0, s, _, _, _ => (s, none)
  | n + 1, s, q, l, low =>
    let c := 4 + getDef s q 16 % 12
    let move (a : State) : State := setDef (setDef a q 16 ((getDef s q 16 + 1) % 12)) q 17 0
    match classHead s q l c with
    | some (i, m) =>
      if m.low = low then
        let s1 := if getDef s q 17 = 0 then setDef (setDef s q c (getDef s q c + schedWeight s q c * 64)) q 17 1 else s
        if schedLen s1 q m ≤ getDef s1 q c then (setDef s1 q c (getDef s1 q c - schedLen s1 q m), some i)
        else dwrr n (move s1) q l low
      else dwrr n (move s) q l low
    | none => dwrr n (move (if l.all fun e => e.cls != c then setDef s q c 0 else s)) q l low

/-- The first strict class with an eligible head at a tier (Table 14-5, orders 1 and 2). -/
def strictHead (s : State) (q : Nat) (l : List EgMsg) (low : Bool) : Option Nat :=
  ((List.range 4).filterMap fun c => match classHead s q l c with | some (i, m) => if m.low = low then some i else none | none => none).head?

/-- A weighted class has an eligible head at the tier. -/
def weightedHead (s : State) (q : Nat) (l : List EgMsg) (low : Bool) : Bool :=
  (List.range 12).any fun c => match classHead s q l (c + 4) with | some (_, m) => m.low == low | none => false

/-- The message that the scheduler takes next (R312): snoops, then the orders of Table 14-5. -/
def pickEgress (s : State) (q : Nat) : State × Option Nat :=
  let l := egressOf s q
  if egressOpen s q = false then (s, none)
  else match l.findIdx? fun e => e.cls == 16 && creditFor s q e with
    | some i => (s, some i)
    | none =>
      match strictHead s q l false with
      | some i => (s, some i)
      | none =>
        match strictHead s q l true with
        | some i => (s, some i)
        | none =>
          if weightedHead s q l false then dwrr 8192 s q l false else if weightedHead s q l true then dwrr 8192 s q l true else (s, none)

/-- The message taken leaves the scheduler, counted at 0x7200:05 and :06. -/
def takeEgress (s : State) (q i : Nat) (m : EgMsg) : State :=
  let l := (egressOf s q).eraseIdx i
  let s1 := setEgress s q l
  let s2 := if 4 ≤ m.cls ∧ m.cls < 16 ∧ l.all (fun e => e.cls != m.cls) = true then setDef s1 q m.cls 0 else s1
  let s3 := if m.cls < 16 then wrTbl s2 0x7200 5 q m.cls ((rdTbl s2 0x7200 5 q m.cls 0 + schedLen s2 q m) % 2 ^ 64) else s2
  if m.low then bump s3 0x7200 6 q 64 (schedLen s3 q m) else s3

/-- Weights of a scheduler: 0 refused (R313). -/
def weightsWrite (s : State) (q start : Nat) (vals : List Nat) : State × Status :=
  if vals = [] ∨ 12 < start + vals.length ∨ vals.any (· == 0) then (s, .range)
  else ((List.range vals.length).foldl (fun a k => wrTbl a 0x7200 1 q (start + k) (nth 0 vals k)) s, .ok)

/-! DevLoad (R99). -/

/-- The occupancy value: cells of the instance in its queues and at the target's scheduler, against its hold cap. -/
def occupancyLoad (s : State) (i usp sched : Nat) : Nat :=
  let atTarget := ((egressOf s sched).filter fun m => match m.out with | .fill _ => true | _ => false).length
  let pc := min 100 ((heldCount s i + atTarget) * 100 / max 1 (rd s 0x7000 2 i))
  if pc < rd s 0x2300 1 usp then 0 else if pc ≤ rd s 0x2300 2 usp then 1 else if pc ≤ rd s 0x2300 3 usp then 2 else 3

/-- DevLoad of a response: the largest of the occupancy, the meter's value, and for a far-tier target the expander's own, which
no command gives (a free value). (Log 168: DESIGN CHOICE.) -/
def devLoadOf (s : State) (r : Req) (usp t : Nat) : State × Nat :=
  let v := max r.devLoad (occupancyLoad s r.inst usp (targetSched t))
  if t < 4 then (s, v) else (freeNext s, max v (freeBits s 2))

end Sys2Proof.Machine
end

