-- ==== Sys2Proof/Machine/SwitchOps.lean ====
section
/-!
DEFINITION. The switch core and Tidelinks (chapter 6): cells and their limits, flows and paths, the scheduler, replay,
pause, fences, and the tables behind their objects.
-/
namespace Sys2Proof.Machine

open Sys2Proof

def tileInit : TileSt :=
  { voq := [], ingress := [], grantPtr := [], acceptPtr := [], classPtr := [], owner := [], struck := [], leaked := false
    inForce := [], waiting := [], closed := [], seen := [], arrived := [], pausing := [], repins := [], mtag := 0, load := [] }

def getTile (s : State) (t : Nat) : TileSt := look tileInit s.tiles t

def setTile (s : State) (t : Nat) (v : TileSt) : State := { s with tiles := put s.tiles t v }

def dirInit : TlDir :=
  { filling := [], nextSeq := 0, replay := [], paused := [], expect := 0, fidx := 0, lastGood := 255, sendNak := false
    half := [], got := 0, lost := [], spared := [], dead := 0, units := 0 }

def linkInit : LinkSt := { up := dirInit, down := dirInit, awaitLow := false, awaitHigh := false, timeouts := [] }

def getLink (s : State) (l : Nat) : LinkSt := look linkInit s.links l

def setLink (s : State) (l : Nat) (v : LinkSt) : State := { s with links := put s.links l v }

/-- The two tiles of a link, the lower first (R10). -/
def linkEnds (l : Nat) : Nat × Nat :=
  match l with
  | 0 => (0, 1) | 1 => (0, 2) | 2 => (0, 3) | 3 => (1, 2) | 4 => (1, 3) | _ => (2, 3)

/-- The link between two tiles. -/
def linkBetween (a b : Nat) : Nat :=
  ((List.range 6).find? fun l => linkEnds l == (min a b, max a b)).getD 0

/-- The place of a link among the three links of a tile, in ascending link number (R108). -/
def linkIndex (t l : Nat) : Nat :=
  ((List.range 6).filter fun x => (linkEnds x).1 == t || (linkEnds x).2 == t).findIdx (· == l)

/-- The j-th link of a tile. (Log 69: DESIGN CHOICE.) -/
def tileLink (t j : Nat) : Nat := nth 0 ((List.range 6).filter fun x => (linkEnds x).1 == t || (linkEnds x).2 == t) j

/-- The other tiles of a tile, in ascending order. -/
def otherTiles (t : Nat) : List Nat := (List.range 4).filter (· != t)

/-- The tile of a port. -/
def portTile (p : Nat) : Nat := p / 16

/-- The crossbar port of a device port's group (Table 1-4). -/
def portXp (p : Nat) : Nat := p / 2 % 8

/-- The state of a Tidelink (0x3100:02): 2 full, 3 spared or 4 narrowed carry traffic. -/
def linkCarries (s : State) (l : Nat) : Bool := decide (2 ≤ rd s 0x3100 2 l ∧ rd s 0x3100 2 l ≤ 4)

/-! Limits (R108 to R110). -/

/-- The default limit of a record (Table 6-3). -/
def limitDefault (r : Nat) : Nat :=
  if r < 16 then 256 else if r = 16 ∨ r = 18 ∨ r = 20 then 768 else if r = 17 ∨ r = 19 ∨ r = 21 then 256 else 64

/-- The range of a limit of a record (Table 6-3). -/
def limitRange (r v : Nat) : Bool :=
  if r < 16 then decide (v ≤ 4096) else if r < 22 then decide (192 ≤ v ∧ v ≤ 8192) else decide (8 ≤ v ∧ v ≤ 4096)

/-- The default record of 0x3200:01: eight U16 limits in class order. -/
def limitRecDefault (r : Nat) : Nat := ofBe ((List.range 8).flatMap fun _ => be 2 (limitDefault r))

/-- The written limit of a record and class. -/
def limitWritten (s : State) (t r c : Nat) : Nat :=
  bits (rdTbl s 0x3200 1 t r (limitRecDefault r)) (127 - 16 * c) (112 - 16 * c)

/-- The sum of all 256 written limits of a tile (0x3200:02). -/
def writtenSum (s : State) (t : Nat) : Nat :=
  (List.range 32).foldl (fun a r => (List.range 8).foldl (fun b c => b + limitWritten s t r c) a) 0

/-- The limit in force of a record and class. -/
def limitNow (s : State) (t r c : Nat) : Nat := look (limitDefault r) (getTile s t).inForce (r * 8 + c)

/-- The sum of the limits in force of a tile (0x3200:03). -/
def inForceSum (s : State) (t : Nat) : Nat :=
  (List.range 32).foldl (fun a r => (List.range 8).foldl (fun b c => b + limitNow s t r c) a) 0

/-- Cells held under a record and class (0x3200:04). -/
def occupancy (s : State) (t r c : Nat) : Nat := ((getTile s t).owner.filter fun e => e.2 == r * 8 + c).length

/-- A message without a message of its own: what control cells and requests on memory carry. -/
def noMsg : Msg := { kind := .memSpecRd, src := 63, dst := 64, tag := 0, len := 0, cls := 0, data := [], key := 0, tc := 0 }

/-- The fields ACKV, NAK, ACK and PAUSE of the headers that a tile sends on a link (Table 6-7): what it has received in the other
direction, and the classes that it pauses. -/
def headerFields (s : State) (l : Nat) (d : LinkDir) : Nat :=
  let t := match d with | .up => (linkEnds l).1 | .down => (linkEnds l).2
  let y := match d with | .up => (getLink s l).down | .down => (getLink s l).up
  let k (vc c : Nat) : Bool := (getTile s t).pausing.contains ((16 + 2 * linkIndex t l + vc) * 8 + c)
  2 ^ 52 + b2n y.sendNak * 2 ^ 51 + y.lastGood % 256 * 2 ^ 40
    + (List.range 8).foldl (fun a c => a + b2n (k 1 c) * 2 ^ (24 + c) + b2n (k 0 c) * 2 ^ (32 + c)) 0

/-- What changed for the sender of the other direction goes out in the next header. -/
def tellSender (s : State) (l : Nat) (d : LinkDir) : State := emit s (.tidelinkHeader l d (headerFields s l d))

/-- PAUSE of a Tidelink record and class at the receiving tile's thresholds (R120); a change goes out in the next header. -/
def pauseCheck (s : State) (t r c : Nat) : State :=
  if r < 16 ∨ 22 ≤ r then s
  else
    let x := getTile s t
    let occ := occupancy s t r c
    let lim := limitNow s t r c
    let k := r * 8 + c
    let l := tileLink t ((r - 16) / 2)
    let d := if (linkEnds l).1 = t then LinkDir.up else .down
    if x.pausing.contains k then
      (if occ + 192 ≤ lim then tellSender (setTile s t { x with pausing := x.pausing.filter (· != k) }) l d else s)
    else if lim ≤ occ + 96 then
      tellSender (largeEvent (bump (setTile s t { x with pausing := k :: x.pausing }) 0x3100 10 l 64 1) (84 + l) 6 1) l d
    else s

/-- One limit takes effect; a raised limit of a port waits until the sum in force allows it (R110). -/
def applyLimit (s : State) (t r c : Nat) : State :=
  let new := limitWritten s t r c
  let old := limitNow s t r c
  let k := r * 8 + c
  let x := getTile s t
  if new ≤ old ∨ 16 ≤ r ∨ inForceSum s t - old + new ≤ 65536 then
    pauseCheck (setTile s t { x with inForce := put x.inForce k new, waiting := x.waiting.filter (· != k) }) t r c
  else setTile s t { x with waiting := if x.waiting.contains k then x.waiting else x.waiting ++ [k] }

/-- Raised limits that wait take effect while the sum has room, oldest first. -/
def applyWaiting (s : State) (t : Nat) : State := (getTile s t).waiting.foldl (fun a k => applyLimit a t (k / 8) (k % 8)) s

/-- All limits of one record take effect, the lowered ones first; then those that waited for room. -/
def applyLimits (s : State) (t r : Nat) : State :=
  let low (c : Nat) : Bool := decide (limitWritten s t r c ≤ limitNow s t r c)
  applyWaiting ((((List.range 8).filter low) ++ (List.range 8).filter fun c => !low c).foldl (fun a c => applyLimit a t r c) s) t

/-- The credits that a port grants its partner (Table 6-4): messages for classes 0 to 4; header and data credits for
classes 5 to 7. -/
def grantedCredits (s : State) (p : Nat) : List Nat :=
  (List.range 8).flatMap fun c =>
    let l := limitNow s (portTile p) (p % 16) c
    if c < 5 then [l] else [l / 2, 8 * ceilDiv l 2]

/-- A port's flow-control initialisation: its written limits take effect (R110), and it grants the credits that they make (R109). -/
def portLimits (s : State) (p : Nat) : State :=
  let s1 := applyLimits s (portTile p) (p % 16)
  emit (setPort s1 p { getPort s1 p with granted := grantedCredits s1 p }) (.credits p (grantedCredits s1 p))

/-- A chunk written to the limit table (R108): refused whole with RANGE when a limit leaves its range or the sum of the
written limits would pass 65,536; records 16 to 31 take effect at once. -/
def limitsWrite (s : State) (t start : Nat) (recs : List Nat) : State × Status :=
  let s1 := (recs.mapIdx fun i v => (start + i, v)).foldl (fun a e => wrTbl a 0x3200 1 t e.1 e.2) s
  let ok := (List.range recs.length).all fun i =>
    (List.range 8).all fun c => limitRange (start + i) (limitWritten s1 t (start + i) c)
  if ok = false ∨ 65536 < writtenSum s1 t then (s, .range)
  else ((List.range recs.length).foldl (fun a i => if 16 ≤ start + i then applyLimits a t (start + i) else a) s1, .ok)

/-! The cell buffer. -/

/-- Free cells of a tile (0x3200:05). -/
def freeCells (s : State) (t : Nat) : Nat := 65536 - (getTile s t).owner.length

/-- The lowest free cell numbers. -/
def freeNumbers (x : TileSt) (n : Nat) : List Nat :=
  ((List.range (x.owner.length + n)).filter fun i => !has x.owner i).take n

/-- A cell moves between its holders: Beachcomber's pass counts it as referenced (R124). -/
def seeCell (s : State) (t num : Nat) : State :=
  let x := getTile s t
  setTile s t { x with seen := if x.seen.contains num then x.seen else num :: x.seen }

/-- A cell returns to the free list; a pause that it caused may end (R120). -/
def freeCell (s : State) (t num : Nat) : State :=
  let x := getTile s t
  let k := look 0 x.owner num
  let s1 := setTile s t { x with owner := del x.owner num, struck := x.struck.filter (· != num), seen := x.seen.filter (· != num) }
  if has x.owner num then pauseCheck s1 t (k / 8) (k % 8) else s1

/-- Cells of a message (Table 6-1). -/
def cellsOf (m : Msg) : Nat := if m.cls < 5 then 1 else max 1 (min 5 (ceilDiv m.len 128))

/-! Flows and paths (R112, R113). -/

/-- The key of a CXL.io flow: source port, destination port, and above them the INTERNAL bit (Table 6-5, R112). -/
def ioKey (internal : Bool) (src dst : Nat) : Nat := (b2n internal * 64 + src % 64) * 64 + dst % 64

/-- The key of a CXL.cache flow: source port, destination port, CacheID. -/
def cacheKey (src dst cacheId : Nat) : Nat := (src % 64 * 64 + dst % 64) * 16 + cacheId % 16

/-- The key of a CXL.mem request's flow: source port, instance, DPA[51:16] before the remap overlay. -/
def memKey (internal : Bool) (src inst dpa : Nat) : Nat :=
  ((b2n internal * 64 + src % 64) * 4096 + inst % 4096) * 2 ^ 36 + dpa / 65536 % 2 ^ 36

/-- The key of a BISnp's flow: home target, host port, DPA[51:16]. -/
def biKey (tgt port dpa : Nat) : Nat := ((64 * 256 + tgt % 256) * 64 + port % 64) * 2 ^ 36 + dpa / 65536 % 2 ^ 36

/-- The path-table entry of a flow: bits [7:0] of the CRC-32C of the key's eight bytes (R113). -/
def pathEntry (key : Nat) : Nat := crc32c (be 8 key) % 256

/-- The record of an entry in a tile's path table. -/
def pathRec (t dst entry : Nat) : Nat := 256 * (otherTiles t).findIdx (· == dst) + entry

/-- The value of a path entry: 0 direct, 1 and 2 through the lower- and higher-numbered of the other tiles. -/
def pathValue (s : State) (t dst entry : Nat) : Nat := rdTbl s 0x3210 1 t (pathRec t dst entry) 0

/-- The tile a path goes through; the destination itself when it is direct. -/
def pathHop (t dst v : Nat) : Nat :=
  if v = 0 then dst else nth dst ((otherTiles t).filter (· != dst)) (v - 1)

/-- The links of a path. -/
def pathLinks (t dst v : Nat) : List Nat :=
  if v = 0 then [linkBetween t dst] else [linkBetween t (pathHop t dst v), linkBetween (pathHop t dst v) dst]

/-- Whether every link of a path carries traffic. -/
def pathAlive (s : State) (t dst v : Nat) : Bool := (pathLinks t dst v).all (linkCarries s)

/-- The egress crossbar port of a cell at a tile: the port's group at its own tile, else one of the two ports of the link
toward the next tile, by the entry's parity. (Log 69: DESIGN CHOICE.) -/
def nextXp (s : State) (t dst entry final vc : Nat) : Nat :=
  if t = dst then final
  else
    let hop := if vc = 1 then dst else pathHop t dst (pathValue s t dst entry)
    8 + 2 * linkIndex t (linkBetween t hop) + entry % 2

/-- A re-pin of an entry is under way. -/
def repinOf (s : State) (t dst entry : Nat) : Option Repin := (getTile s t).repins.find? fun r => r.dst == dst && r.entry == entry

/-- A cell enters its virtual output queue, or is held at the ingress while its entry is fenced (R116). -/
def enqueueCell (s : State) (t : Nat) (c : Cell) : State :=
  match (if t = c.destTile ∨ c.vc = 1 ∨ c.ctrl ≠ .none then none else repinOf s t c.destTile c.entry) with
  | some r =>
    setTile s t { getTile s t with
      repins := (getTile s t).repins.map fun x => if x = r then { x with held := x.held ++ [c] } else x }
  | none => setTile s t { getTile s t with voq := (getTile s t).voq ++ [c] }

/-- A cell before it is allocated: where it comes from and goes, its class and key. -/
def cellFor (t r xp cls key inst : Nat) (internal : Bool) (dest destXp : Nat) (m : Msg) (job : Job) (tagged : Bool) : Cell :=
  { num := 0, limit := r, cls := cls, xpIn := xp, xpOut := destXp, destTile := dest, destXp := destXp, src := t, srcXp := xp, vc := 0
    entry := pathEntry key, mtag := 0, cidx := 0, last := true, ctrl := .none, inst := inst, internal := internal, tagged := tagged
    msg := { m with key := key }, job := job }

/-- The cells of a message (Table 6-1): one for a request or response on memory. -/
def cellCount (c : Cell) : Nat := match c.job with | .none => cellsOf c.msg | _ => 1

/-- The cells of a message at the tile of its source. -/
def messageCells (s : State) (t : Nat) (c : Cell) : List Cell :=
  let n := cellCount c
  (freeNumbers (getTile s t) n).mapIdx fun i num =>
    { c with num := num, xpOut := nextXp s t c.destTile c.entry c.destXp 0, mtag := (getTile s t).mtag, cidx := i, last := i + 1 == n }

/-- The source has room for the cells of a message (R104, R108). -/
def admits (s : State) (t : Nat) (c : Cell) : Bool :=
  decide (occupancy s t c.limit c.cls + cellCount c ≤ limitNow s t c.limit c.cls ∧ cellCount c ≤ freeCells s t)

/-- A crossing's record (0x3000:07): an item passed (0), a reset token was received (1), a timeout (2). (Log 167: DEDUCED.) -/
def crossed (s : State) (t x what : Nat) : State :=
  let r := rdTbl s 0x3000 7 t x 0
  let f (hi lo on : Nat) : Nat := (bits r hi lo + on) % 2 ^ (hi + 1 - lo) * 2 ^ lo
  wrTbl s 0x3000 7 t x (f 63 32 (b2n (what == 0)) + f 31 16 (b2n (what == 1)) + f 15 0 (b2n (what == 2)))

/-- A cell comes in from a port group, or from the HBM path, through its crossing (Table 6-9). -/
def crossIn (s : State) (t xp : Nat) : State :=
  if xp < 8 then crossed s t (2 * xp) 0 else if 14 ≤ xp ∧ xp < 20 then crossed s t 16 0 else s

/-- A cell goes out to a port group, or to the HBM path. -/
def crossOut (s : State) (t xp : Nat) : State :=
  if xp < 8 then crossed s t (2 * xp + 1) 0 else if 14 ≤ xp ∧ xp < 20 then crossed s t 17 0 else s

/-- A message is admitted to the cell buffer of its source's tile: all its cells or none (R104, R108). A message that the
limits refuse waits at the ingress. -/
def admitOrWait (s : State) (t : Nat) (c : Cell) : State :=
  if admits s t c then
    let cells := messageCells s t c
    let x := getTile s t
    let s1 := setTile s t { x with owner := cells.foldl (fun o c => put o c.num (c.limit * 8 + c.cls)) x.owner
                                   mtag := (x.mtag + 1) % 65536 }
    cells.foldl (fun a c => enqueueCell (seeCell (crossIn a t c.xpIn) t c.num) t c) s1
  else setTile s t { getTile s t with ingress := (getTile s t).ingress ++ [c] }

/-- A message arrives at the cell buffer; its cells are counted when its class limit refuses it (Table 15-5). -/
def enterCell (s : State) (t : Nat) (c : Cell) : State :=
  admitOrWait (if occupancy s t c.limit c.cls + cellCount c ≤ limitNow s t c.limit c.cls then s else largeEvent s (64 + t) 4 (cellCount c)) t c

/-- The path of a flow at a tile leads through a third tile. -/
def twoHop (s : State) (t dst key : Nat) : Bool := t != dst && pathHop t dst (pathValue s t dst (pathEntry key)) != dst

/-- A sample that its cells take through a third tile is flagged (Table 15-9). -/
def hopSample (s : State) (t dst key : Nat) (x : Option Sample) : Option Sample := if twoHop s t dst key then flagSample x 8 else x

/-- A message from a port toward another port (R101). -/
def switchMsg (s : State) (m : Msg) : State :=
  enterCell s (portTile m.src)
    (cellFor (portTile m.src) (m.src % 16) (portXp m.src) m.cls m.key 0xFFF false (portTile m.dst) (portXp m.dst) m .none m.sample.isSome)

/-- Messages that wait at the ingress are tried again, oldest first. -/
def retryIngress (s : State) (t : Nat) : State :=
  let w := (getTile s t).ingress
  w.foldl (fun a c => admitOrWait a t c) (setTile s t { getTile s t with ingress := [] })

/-! The scheduler (R105, R106). -/

/-- The direction of a link that leaves a tile. -/
def dirOut (t l : Nat) : LinkDir := if (linkEnds l).1 = t then .up else .down

def getDir (x : LinkSt) (d : LinkDir) : TlDir :=
  match d with
  | .up => x.up
  | .down => x.down

def setDirSt (x : LinkSt) (d : LinkDir) (v : TlDir) : LinkSt :=
  match d with
  | .up => { x with up := v }
  | .down => { x with down := v }

/-- The credit pools (Table 5-4) that a message of a cell takes from at the port it leaves by. -/
def cellPools (s : State) (c : Cell) : List Nat :=
  match c.job with
  | .none => msgPools s c.msg.dst { c.msg with cls := c.cls }
  | _ => classPools s c.msg.dst c.cls

/-- A port has credits of its partner for a cell's message. -/
def portCredits (s : State) (c : Cell) : Bool := poolsOpen s c.msg.dst (cellPools s c)

/-- Whether an egress can take a cell now: a port's group by the port's own credits; a Tidelink unless it is down or the class is paused
on its VC (R105, R106, R120), and not while the replay buffer of 32 groups is full (R119). -/
def canTake (s : State) (t : Nat) (c : Cell) : Bool :=
  if 8 ≤ c.xpOut ∧ c.xpOut < 14 then
    let l := tileLink t ((c.xpOut - 8) / 2)
    let d := getDir (getLink s l) (dirOut t l)
    linkCarries s l && !(d.paused.contains (c.vc * 8 + c.cls)) && decide (d.replay.length < 32)
  else if c.xpOut < 8 ∧ c.ctrl = .none ∧ linkUp s c.msg.dst = true then portCredits s c
  else true

/-- A CXL.io cell that may not pass an earlier posted cell of its flow: a non-posted request or a completion (R114). -/
def behindPosted (voq : List Cell) (n : Nat) (c : Cell) : Bool :=
  (c.cls == 6 || c.cls == 7) && (voq.take n).any fun e => e.cls == 5 && e.msg.key == c.msg.key && e.destTile == c.destTile

/-- A fence cell follows every cell of its entry and class (R116). -/
def behindEntry (voq : List Cell) (n : Nat) (c : Cell) : Bool :=
  (match c.ctrl with | .fence _ _ _ => true | _ => false)
    && (voq.take n).any fun e => e.cls == c.cls && e.entry == c.entry && e.destTile == c.destTile

/-- The first cells of the queues that may leave: the oldest cell of each ingress, egress and class, when its egress takes
it and no earlier posted cell of its flow waits. -/
def heads (s : State) (t : Nat) (voq : List Cell) : List Cell :=
  (voq.mapIdx fun n c => (n, c)).foldl (fun acc e =>
    if acc.any fun f => f.2.xpIn == e.2.xpIn && f.2.xpOut == e.2.xpOut && f.2.cls == e.2.cls then acc else acc ++ [e]) []
  |>.filter (fun e => canTake s t e.2 && !behindPosted voq e.1 e.2 && !behindEntry voq e.1 e.2) |>.map (·.2)

/-- The first of 24 ports at or after a pointer that a test accepts. -/
def nearest (ptr : Nat) (p : Nat → Bool) : Option Nat :=
  ((List.range 24).map fun i => (ptr + i) % 24).find? p

/-- One iteration of request, grant and accept among the unmatched ports: the pairs (input, output) matched. -/
def iteration (hs : List Cell) (gp ap : SMap Nat) (mi mo : List Nat) : List (Nat × Nat) :=
  let want (i o : Nat) : Bool := !mi.contains i && !mo.contains o && hs.any fun c => c.xpIn == i && c.xpOut == o
  let grants := (List.range 24).filterMap fun o => (nearest (look 0 gp o) fun i => want i o).map fun i => (i, o)
  (List.range 24).filterMap fun i => (nearest (look 0 ap i) fun o => grants.contains (i, o)).map fun o => (i, o)

/-- The class chosen for a matched pair by its rotating pointer. -/
def pickClass (hs : List Cell) (ptr i o : Nat) : Option Cell :=
  (((List.range 8).map fun k => (ptr + k) % 8).find? fun k => hs.any fun c => c.xpIn == i && c.xpOut == o && c.cls == k).bind
    fun k => hs.find? fun c => c.xpIn == i && c.xpOut == o && c.cls == k

/-- Bits [63:0] of a cell's descriptor (Table 6-2). -/
def cellDesc (c : Cell) : Nat :=
  c.destTile * 2 ^ 62 + c.destXp * 2 ^ 57 + c.vc * 2 ^ 56 + c.cls * 2 ^ 53 + c.entry * 2 ^ 45 + c.mtag * 2 ^ 29 + c.cidx * 2 ^ 26
    + b2n c.last * 2 ^ 25 + b2n (c.ctrl != .none) * 2 ^ 24 + (if c.internal then 63 else c.msg.src) % 64 * 2 ^ 18 + c.inst % 4096 * 64
    + b2n c.tagged * 32 + c.srcXp

/-- The data bytes that a cell carries behind its message's 16 header bytes, and their place in the payload. (Log 202: DESIGN CHOICE.) -/
def cellData (c : Cell) : Nat × List Byte :=
  if c.cidx = 0 then (16, c.msg.data.take 112) else (0, (c.msg.data.drop (128 * c.cidx - 16)).take 128)

/-- A cell unit: descriptor and payload (R118). (Log 202: DESIGN CHOICE.) -/
def unitBytes (c : Cell) : List Byte :=
  let x := cellData c
  be 8 (cellDesc c) ++ be 1 (b2n c.internal * 128) ++ padTo (Config.cellBytes [0, c.num, c.cls] 23) 23
    ++ padTo ((if x.1 = 0 then [] else padTo (Config.cellBytes [1, c.num, c.cls] 16) 16) ++ x.2) 128

/-- The eight flits of a group (R118, Table 6-7): its units, idle ones behind them. -/
def groupFlits (s : State) (l : Nat) (d : LinkDir) (seq : Nat) (cells : List Cell) : List (List Byte) :=
  let units := padTo (cells.flatMap unitBytes) 1920
  (List.range 8).map fun i =>
    let head := be 8 (seq * 2 ^ 56 + i * 2 ^ 53 + headerFields s l d) ++ slice units (240 * i) 240
    head ++ be 8 (crc64 head)

/-- The open group of a direction closes into the replay buffer, and its flits are sent (R118, R119). -/
def closeGroup (s : State) (l : Nat) (d : LinkDir) : State :=
  let x := getDir (getLink s l) d
  let s1 := setLink s l (setDirSt (getLink s l) d
    { x with filling := [], nextSeq := (x.nextSeq + 1) % 256, replay := x.replay ++ [⟨x.nextSeq, x.filling, 0⟩] })
  let s2 := largeEvent (linkEvent s1 l (d == .up) 0 8) (84 + l) 7 (12 - x.filling.length)
  emit (bump s2 0x3100 6 l 64 8) (.tidelinkFlits l d (groupFlits s l d x.nextSeq x.filling))

/-- A cell that leaves on a Tidelink joins the open group through the link's send crossing; twelve units close it. Two flits carry three
units. -/
def sendOnLink (s : State) (t : Nat) (c : Cell) : State :=
  let j := (c.xpOut - 8) / 2
  let l := tileLink t j
  let d := dirOut t l
  let x := getDir (getLink s l) d
  let s1 := setLink (crossed (linkEvent s l (d == .up) 2 1) t (30 + j) 0) l (setDirSt (getLink s l) d { x with filling := x.filling ++ [c] })
  if x.filling.length + 1 < 12 then s1 else closeGroup s1 l d

/-! Fences and re-pins (R116). -/

/-- The cells of an entry from a tile that are under way: queued there, on its links, or at the intermediate tile. -/
def entryCells (s : State) (t dst entry : Nat) : List Cell :=
  let mine (c : Cell) : Bool := c.src == t && c.destTile == dst && c.entry == entry && (match c.ctrl with | .fence _ _ _ => false | _ => true)
  ((List.range 4).filter (· != dst)).flatMap (fun u => (getTile s u).voq.filter mine)
    ++ (List.range 6).flatMap fun l => [(getLink s l).up, (getLink s l).down].flatMap fun x =>
      (x.filling ++ x.replay.flatMap (·.cells)).filter mine

/-- Classes that hold cells of an entry in flight from a tile. -/
def classesInFlight (s : State) (t dst entry : Nat) : List Nat :=
  let cs := entryCells s t dst entry
  (List.range 8).filter fun k => cs.any fun c => c.cls == k

/-- A fence cell of a class goes out on the entry's path as it is. -/
def sendFence (s : State) (t dst entry cls : Nat) : State :=
  match freeNumbers (getTile s t) 1 with
  | num :: _ =>
    let x := getTile s t
    let c : Cell := { cellFor t 30 22 cls 0 0xFFF true dst 22 noMsg .none false with
      num := num, entry := entry, mtag := x.mtag, ctrl := .fence t dst entry, xpOut := nextXp s t dst entry 22 0 }
    setTile (largeEvent s (64 + t) 5 1) t { x with owner := put x.owner num (30 * 8 + cls), mtag := (x.mtag + 1) % 65536, voq := x.voq ++ [c] }
  | [] => s

/-- A re-pin is complete: the entry takes its new path. -/
def pathTaken (s : State) (t dst entry v : Nat) : State :=
  largeEvent (bump (wrTbl s 0x3210 1 t (pathRec t dst entry) v) 0x3210 7 t 64 1) (64 + t) 6 1

/-- A re-pin starts: a fence cell goes out in every class that holds cells of the entry in flight; with none it takes effect at
once. -/
def startRepin (s : State) (t dst entry v : Nat) (queued : List Nat) : State :=
  let w := classesInFlight s t dst entry
  if w = [] ∧ queued = [] then pathTaken s t dst entry v
  else
    let s1 := w.foldl (fun a k => sendFence a t dst entry k) s
    setTile s1 t { getTile s1 t with repins := (getTile s1 t).repins ++ [⟨dst, entry, v, w, [], queued⟩] }

/-- A fence cell of a class arrives at the destination tile (R116, step 3). -/
def fenceArrives (s : State) (t dst entry cls : Nat) : State :=
  setTile s t { getTile s t with
    repins := (getTile s t).repins.map fun x =>
      if x.dst = dst ∧ x.entry = entry then { x with waits := x.waits.filter (· != cls) } else x }

/-- The held cells of a re-pin go on, in order. -/
def goOnHeld (s : State) (t : Nat) (r : Repin) : State :=
  r.held.foldl (fun a c => enqueueCell a t { c with xpOut := nextXp a t r.dst r.entry c.destXp c.vc }) s

/-- The acknowledgement of every class reaches the source (R116, step 4): it switches the entry and releases the held cells
in order; a re-pin that waits for the entry starts. -/
def fenceAcked (s : State) (t dst entry : Nat) : State :=
  match repinOf s t dst entry with
  | none => s
  | some r =>
    if r.waits ≠ [] then s
    else
      let s1 := setTile s t { getTile s t with repins := (getTile s t).repins.filter (· != r) }
      let s2 := pathTaken s1 t dst entry r.path
      let s3 := goOnHeld s2 t r
      match r.queued with
      | [] => s3
      | v :: rest => startRepin s3 t dst entry v rest

/-- A fence cell in flight has arrived: it is taken out where it stands. -/
def takeFence (s : State) (t dst entry cls : Nat) : State :=
  let it (c : Cell) : Bool := c.cls == cls && c.ctrl == .fence t dst entry
  let s1 := (List.range 4).foldl (fun a u =>
    ((getTile a u).voq.filter it).foldl (fun b c => freeCell (setTile b u { getTile b u with voq := (getTile b u).voq.filter (· != c) }) u c.num) a) s
  let f (c : Cell) : Cell := if it c then { c with ctrl := .dropped, last := false } else c
  let g (x : TlDir) : TlDir := { x with filling := x.filling.map f, replay := x.replay.map fun y => { y with cells := y.cells.map f } }
  { s1 with links := mapVals s1.links fun _ x => { x with up := g x.up, down := g x.down } }

/-- The path that an entry is planned to take: that of the last re-pin asked for. -/
def plannedPath (s : State) (t dst entry : Nat) : Nat :=
  match repinOf s t dst entry with
  | some r => (r.path :: r.queued).getLastD r.path
  | none => pathValue s t dst entry

/-- A re-pin of an entry onto a path (R116): it waits when one of the same entry runs. -/
def repin (s : State) (t dst entry v : Nat) : State :=
  match repinOf s t dst entry with
  | some r =>
    setTile s t { getTile s t with
      repins := (getTile s t).repins.map fun x => if x = r then { x with queued := x.queued ++ [v] } else x }
  | none => startRepin s t dst entry v []

/-! Moving cells. -/

/-- Switched traffic as it waits at its egress scheduler: its class by the TC map (R311), and its data payload (R302). -/
def switchedMsg (s : State) (m : Msg) : EgMsg :=
  { cls := rd s 0x7200 3 m.dst / 16 ^ (m.tc % 8) % 16, low := false, len := m.data.length, line := none, out := .fwd m
    sample := none }

/-- A message without a transaction of its own is counted when a lost link drops it (R93); its sample record ends. -/
def countDropped (s0 : State) (m : Msg) : State :=
  let s := endSample s0 (flagSample m.sample 32)
  match m.kind with
  | .ioPosted => bump s 0x2200 6 m.dst 64 1
  | .ioCompletion => bump s 0x2200 6 m.dst 64 1
  | .memSpecRd => bump s 0x2200 6 m.dst 64 1
  | _ => s

/-- A cell reaches its destination's crossbar port: a fence cell is noted, a request on memory has reached its home, and the last cell of
a message completes it at the egress of its port; toward a port whose link is down it is dropped (R93). -/
def deliver (s : State) (t : Nat) (c : Cell) : State :=
  let toPort (q : Nat) (m : EgMsg) : State := { s with egress := put s.egress q (look [] s.egress q ++ [m]) }
  match c.ctrl with
  | .fence src dst e => fenceArrives s src dst e c.cls
  | .fenceAck _ _ => s
  | .dropped => if c.last then countDropped s c.msg else s
  | .none =>
    if c.last = false then s
    else match c.job with
      | .request r => setTile s t { getTile s t with arrived := (getTile s t).arrived ++ [r] }
      | .leaving m _ =>
        (match m.out with
         | .fill _ => toPort c.msg.dst m
         | _ => if linkUp s c.msg.dst = false then bump s 0x2200 6 c.msg.dst 64 1 else toPort c.msg.dst m)
      | .none => if linkUp s c.msg.dst = false then countDropped s c.msg else toPort c.msg.dst (switchedMsg s c.msg)

/-- A cell crosses the crossbar to its egress: onto a Tidelink, or to its destination. -/
def moveCell (s : State) (t : Nat) (c : Cell) : State :=
  let s1 := seeCell (setTile s t { getTile s t with voq := (getTile s t).voq.filter (· != c) }) t c.num
  if 8 ≤ c.xpOut ∧ c.xpOut < 14 then
    let s2 := sendOnLink s1 t c
    let k := pathRec t c.destTile c.entry
    if c.vc = 0 then setTile s2 t { getTile s2 t with load := put (getTile s2 t).load k (look 0 (getTile s2 t).load k + 1) }
    else s2
  else deliver (crossOut (freeCell s1 t c.num) t c.xpOut) t c

/-- One core cycle of a tile's scheduler (R105 to R107). -/
def schedule (s0 : State) (t : Nat) : State :=
  let s := retryIngress s0 t
  let x := getTile s t
  let hs := heads s t x.voq
  let m1 := iteration hs x.grantPtr x.acceptPtr [] []
  let m2 := iteration hs x.grantPtr x.acceptPtr (m1.map (·.1)) (m1.map (·.2))
  let gp := m1.foldl (fun g e => put g e.2 ((e.1 + 1) % 24)) x.grantPtr
  let ap := m1.foldl (fun a e => put a e.1 ((e.2 + 1) % 24)) x.acceptPtr
  let picks := (m1 ++ m2).filterMap fun e => pickClass hs (look 0 x.classPtr (e.1 * 24 + e.2)) e.1 e.2
  let cp := picks.foldl (fun c k => put c (k.xpIn * 24 + k.xpOut) ((k.cls + 1) % 8)) x.classPtr
  let s1 := setTile s t { x with grantPtr := gp, acceptPtr := ap, classPtr := cp }
  let s2 := picks.foldl (fun a c => moveCell a t c) s1
  let idle := x.voq.any fun c => !(m1 ++ m2).contains (c.xpIn, c.xpOut)
  let s3 := largeEvent (largeEvent (largeEvent s2 (64 + t) 0 picks.length) (64 + t) 1 m2.length) (64 + t) 2 (b2n idle)
  bump (bump s3 0x3220 1 t 64 picks.length) 0x3220 2 t 64 m2.length

/-! Cells that nothing holds back (R104, R108). -/

/-- No cell of the same queue waits at a tile. -/
def queueEmpty (s : State) (t xpIn xpOut cls : Nat) : Bool :=
  !(getTile s t).voq.any fun c => c.xpIn == xpIn && c.xpOut == xpOut && c.cls == cls

/-- A cell crosses its tile and its path within the command: its source has room, its queues are empty, its entry is not fenced, and
every hop takes it. (Log 203: DESIGN CHOICE.) -/
def passes (s : State) (t : Nat) (c : Cell) : Bool :=
  let v := pathValue s t c.destTile c.entry
  let hop := pathHop t c.destTile v
  let at' (u w : Nat) (x : Cell) : Bool := queueEmpty s u x.xpIn x.xpOut x.cls && canTake s u x && (u == w || !(getTile s w).closed.contains (18 + 4 * linkIndex w (linkBetween u w)))
  admits s t c && (getTile s t).ingress.all (fun e => e.limit != c.limit || e.cls != c.cls)
    && (if t = c.destTile then at' t t c
        else
          (repinOf s t c.destTile c.entry).isNone && at' t hop { c with xpOut := nextXp s t c.destTile c.entry c.destXp 0 }
            && (hop == c.destTile
                || at' hop c.destTile { c with vc := 1, xpIn := 8 + 2 * linkIndex hop (linkBetween t hop) + c.entry % 2
                                               xpOut := nextXp s hop c.destTile c.entry c.destXp 1 })
            && (c.destXp ≥ 8 || c.ctrl != .none || linkUp s c.msg.dst == false || portCredits s c))

/-- Counts of a cell on one hop of a Tidelink: crossings, and the flits that three units make two of. -/
def countHop (s : State) (u w : Nat) : State :=
  let l := linkBetween u w
  let d := dirOut u l
  let x := getDir (getLink s l) d
  let s1 := crossed s u (30 + linkIndex u l) 0
  let s2 := (List.range 4).foldl (fun a b => crossed a w (18 + 4 * linkIndex w l + b) 0) s1
  let s3 := setLink s2 l (setDirSt (getLink s2 l) d { x with units := (x.units + 1) % 3 })
  let s4 := largeEvent (largeEvent (linkEvent s3 l (d == .up) 2 1) (64 + w) 0 1) (64 + w) 3 1
  bump (if x.units = 2 then bump (linkEvent s4 l (d == .up) 0 2) 0x3100 6 l 64 2 else s4) 0x3220 1 w 64 1

/-- What a cell that passes leaves in the counters of its way: matches, crossings, the load of its path entry. -/
def countPass (s : State) (t : Nat) (c : Cell) : State :=
  let s1 := largeEvent (bump (crossIn s t c.xpIn) 0x3220 1 t 64 1) (64 + t) 0 1
  if t = c.destTile then crossOut s1 t c.destXp
  else
    let hop := pathHop t c.destTile (pathValue s t c.destTile c.entry)
    let k := pathRec t c.destTile c.entry
    let x := getTile s1 t
    let s2 := countHop (setTile s1 t { x with load := put x.load k (look 0 x.load k + 1) }) t hop
    crossOut (if hop = c.destTile then s2 else countHop s2 hop c.destTile) c.destTile c.destXp

/-! Tidelink receive (R118 to R121). -/

/-- The parts of a flit: header number, 240-byte data area; none when the check field disagrees. -/
def parseFlit (f : List Byte) : Option (Nat × List Byte) :=
  if f.length = 256 ∧ crc64 (f.take 248) = fieldBe f 248 8 then some (fieldBe f 0 8, slice f 8 240) else none

/-- The cell that a unit carries: the one, of those that the sender holds for replay, with its descriptor and its data; a unit whose
descriptor is all zeros is idle. (Log 202: DESIGN CHOICE.) -/
def unitCell (sent : List Cell) (u : List Byte) : Option Cell :=
  if u.take 32 = zeros 32 then none
  else sent.find? fun c =>
    cellDesc c == fieldBe u 0 8 && (fieldBe u 8 1 ≥ 128) == c.internal && slice u (32 + (cellData c).1) (cellData c).2.length == (cellData c).2

/-- The receiving tile of a direction. -/
def dirTo (l : Nat) (d : LinkDir) : Nat := match d with | .up => (linkEnds l).2 | .down => (linkEnds l).1

/-- The sending tile of a direction. -/
def dirFrom (l : Nat) (d : LinkDir) : Nat := match d with | .up => (linkEnds l).1 | .down => (linkEnds l).2

/-- The direction the other way. -/
def dirBack (d : LinkDir) : LinkDir := match d with | .up => .down | .down => .up

/-- A cell lands at the receiving tile: counted under the link's record of its VC; at its destination tile it goes to the
egress, else onward on VC1 (R121). -/
def landCell (s : State) (l : Nat) (d : LinkDir) (c : Cell) : State :=
  let t := dirTo l d
  let j := linkIndex t l
  let vc := if c.destTile = t then c.vc else 1
  let r := 16 + 2 * j + c.vc
  match freeNumbers (getTile s t) 1 with
  | num :: _ =>
    if (getTile s t).closed.contains (18 + 4 * j) then s else
    let c' := { c with num := num, limit := r, xpIn := 8 + 2 * j + c.entry % 2, vc := vc
                       xpOut := nextXp s t c.destTile c.entry c.destXp vc }
    let s := (List.range 4).foldl (fun a b => crossed a t (18 + 4 * j + b) 0) (largeEvent s (64 + t) 3 1)
    let x := getTile s t
    pauseCheck (seeCell (setTile s t { x with owner := put x.owner num (r * 8 + c.cls), voq := x.voq ++ [c'] }) t num) t r c.cls
  | [] => s

/-- An acknowledgement frees the groups up to it: their cells leave the sending tile (R119). -/
def ackGroups (s : State) (l : Nat) (d : LinkDir) (ack : Nat) : State :=
  let x := getDir (getLink s l) d
  match x.replay.findIdx? (·.seq == ack) with
  | none => s
  | some i =>
    let gone := (x.replay.take (i + 1)).flatMap (·.cells)
    let s1 := setLink s l (setDirSt (getLink s l) d { x with replay := x.replay.drop (i + 1) })
    gone.foldl (fun a c => freeCell a (dirFrom l d) c.num) s1

/-- The groups that wait are resent (R119); counted at 0x3100:08, and their flits at 0x3100:06. -/
def resendGroups (s : State) (l : Nat) (d : LinkDir) : State :=
  let x := getDir (getLink s l) d
  let s1 := setLink s l (setDirSt (getLink s l) d { x with replay := x.replay.map fun g => { g with resends := g.resends + 1 } })
  let s2 := bump (bump (largeEvent (linkEvent s1 l (d == .up) 0 (8 * x.replay.length)) (84 + l) 5 x.replay.length) 0x3100 8 l 64 x.replay.length) 0x3100 6 l 64 (8 * x.replay.length)
  x.replay.foldl (fun a g => emit a (.tidelinkFlits l d (groupFlits s l d g.seq g.cells))) s2

/-- Some group of a direction was resent four times without being acknowledged (R123). -/
def replayExhausted (s : State) (l : Nat) (d : LinkDir) : Bool :=
  (getDir (getLink s l) d).replay.any fun g => decide (4 ≤ g.resends)

/-- A flit is received in a direction (R118 to R120). A bad flit is counted, the rest of its group discarded and a NAK sent; a good one in
order delivers its cell units, but those of a resent group that landed before; the last one of a group that the sender still fills closes
it and is acknowledged. ACK, NAK and PAUSE act on the other direction's sender. -/
def receiveFlit (s : State) (l : Nat) (d : LinkDir) (f : List Byte) : State :=
  let x := getDir (getLink s l) d
  match parseFlit f with
  | none => tellSender (largeEvent (bump (setLink s l (setDirSt (getLink s l) d { x with sendNak := true, fidx := 0, half := [] })) 0x3100 7 l 64 1) (84 + l) 4 1) l (dirBack d)
  | some (h, data) =>
    let seq := bits h 63 56
    let fidx := bits h 55 53
    let s1 := if bit h 52 then ackGroups s l (dirBack d) (bits h 47 40) else s
    let s2 := if bit h 51 then resendGroups s1 l (dirBack d) else s1
    let back := getDir (getLink s2 l) (dirBack d)
    let pauses := (List.range 16).filterMap fun i => if bit h (24 + i) then some (if i < 8 then 8 + i else i - 8) else none
    let s3 := setLink (largeEvent s2 (64 + dirTo l d) 7 (pauses.filter fun k => !back.paused.contains k).length) l
      (setDirSt (getLink s2 l) (dirBack d) { back with paused := pauses })
    let y := getDir (getLink s3 l) d
    if seq = y.expect ∧ fidx = y.fidx then
      let sent := y.filling ++ y.replay.flatMap (·.cells)
      let units := if fidx % 2 = 0 then [data.take 160] else [y.half ++ data.take 80, slice data 80 160]
      let s4 := if fidx < y.got then s3 else (units.filterMap (unitCell sent)).foldl (fun a c => landCell a l d c) s3
      let z := getDir (getLink s4 l) d
      let s5 := setLink s4 l (setDirSt (getLink s4 l) d
        { z with half := if fidx % 2 = 0 then slice data 160 80 else []
                 fidx := (fidx + 1) % 8, sendNak := false
                 got := if fidx = 7 then 0 else max y.got (fidx + 1)
                 expect := if fidx = 7 then (seq + 1) % 256 else seq
                 lastGood := if fidx = 7 then seq else z.lastGood })
      let s6 := if fidx = 7 ∧ seq = y.nextSeq then closeGroup s5 l d else s5
      if fidx = 7 ∨ y.sendNak then tellSender s6 l (dirBack d) else s6
    else s3

/-! Failure and repair of a Tidelink (R122, R123). -/

/-- The paths of a pair of tiles with no failed link, the direct one first. -/
def livePaths (s : State) (t dst : Nat) : List Nat := (List.range 3).filter fun v => pathAlive s t dst v

/-- The path an entry takes when its link has failed (R123, step 2): direct entries alternate by entry number between the
two-hop paths, two-hop entries go direct; only paths whose links carry traffic are taken. -/
def repathed (s : State) (t dst entry v : Nat) : Nat :=
  let live := livePaths s t dst
  let want := if v = 0 then 1 + entry % 2 else 0
  if live.contains want then want else nth v live 0

/-- An entry of a tile whose path, or the path that a re-pin of it goes to, uses a failed link moves at once onto a path that lives (R123,
step 2; Table 6-6, row 2). At an end of the link its new cells are held until the dedup report has come. -/
def repinEntry (s : State) (t l dst entry : Nat) (holds : Bool) : State :=
  let v := pathValue s t dst entry
  let used (w : Nat) : Bool := (pathLinks t dst w).contains l
  let old := repinOf s t dst entry
  let goal := match old with | some r => r.path | none => v
  if used v = false ∧ used goal = false then s
  else
    let v' := if used goal then repathed s t dst entry goal else goal
    let s1 := bump (pathTaken s t dst entry v') 0x3100 11 l 32 1
    let x := getTile s1 t
    match old with
    | some r =>
      let w := r.waits.filter (8 ≤ ·)
      setTile s1 t { x with repins := x.repins.map fun y =>
        if y = r then { y with path := v', waits := if holds ∧ w.contains (8 + l) = false then w ++ [8 + l] else w } else y }
    | none => if holds then setTile s1 t { x with repins := x.repins ++ [⟨dst, entry, v', [8 + l], [], []⟩] } else s1

/-- The tile t is an end of the link. -/
def endOf (l t : Nat) : Bool := (linkEnds l).1 == t || (linkEnds l).2 == t

/-- A tile re-pins at once every entry whose path uses a link that does not carry traffic. (Log 70: DESIGN CHOICE.) -/
def repinFailed (s : State) (t l : Nat) (holds : Bool) : State :=
  (otherTiles t).foldl (fun a dst => (List.range 256).foldl (fun b e => repinEntry b t l dst e holds) a) s

/-- A cell that waits at a tile takes its entry's path as it is now; one on its second hop over a failed link goes on as a cell of the tile
where it stands. (Log 204: DEDUCED.) -/
def reroute (s : State) (t : Nat) (c : Cell) : Cell :=
  if c.destTile = t then c
  else if c.vc = 1 ∧ linkCarries s (linkBetween t c.destTile) = true then c
  else { c with vc := 0, xpOut := nextXp s t c.destTile c.entry c.destXp 0 }

/-- Cells already in the queues follow their entry's path as it is now. (Log 204: DEDUCED.) -/
def requeue (s : State) (t : Nat) : State :=
  setTile s t { getTile s t with voq := (getTile s t).voq.map (reroute s t) }

/-- All tiles but one re-pin for a link that is lost, and their queues follow. -/
def repinTiles (s : State) (l : Nat) (but : Option Nat) (holds : Bool) : State :=
  ((List.range 4).filter fun t => some t != but).foldl (fun a t => requeue (repinFailed a t l (holds && endOf l t)) t) s

/-- A Tidelink fails: both directions stop, every tile re-pins, each end reports to the other the last group it received in order, and
awaits the other's report (R123). LINK at Fault on the link's source (Table 16-5). `disabled` is the manager's disable, after which 0x3100:02
reads 0. -/
def failLink (s : State) (l : Nat) (disabled : Bool) : State :=
  if linkCarries s l then
    let e := linkEnds l
    let s1 := wr (wr (wr s 0x3100 2 l (if disabled then 0 else 5)) 0x3100 3 l 0) 0x3100 4 l 0
    let s2 := bump s1 0x3100 9 l 32 1
    let s3 := setLink s2 l { getLink s2 l with awaitLow := true, awaitHigh := true, timeouts := [] }
    let s4 := repinTiles s3 l none true
    let s5 := emit (emit s4 (.dedupReport l e.1 (getLink s l).up.lastGood)) (.dedupReport l e.2 (getLink s l).down.lastGood)
    raise s5 (0x3100 + l) 7 .fault []
  else s

/-- The direction that leaves a tile on a link. -/
def outDir (s : State) (t l : Nat) : TlDir := getDir (getLink s l) (dirOut t l)

/-- The held cells of a failed link's entries go on at a tile (R123, step 4). -/
def endHeld (s : State) (l t : Nat) : State :=
  let f (r : Repin) : Repin := { r with waits := r.waits.filter (· != 8 + l) }
  let mine (r : Repin) : Bool := r.waits == [8 + l]
  let rs := (getTile s t).repins.filter mine
  let s1 := setTile s t { getTile s t with repins := ((getTile s t).repins.filter fun r => !mine r).map f }
  rs.foldl (fun a r => match r.queued with
    | [] => goOnHeld a t r
    | v :: rest => startRepin (goOnHeld a t r) t r.dst r.entry v rest) s1

/-- The replay groups of a tile on a failed link are taken down: cells that go out again do so on the new paths, ahead of the others and of
the held ones. -/
def resendCells (s : State) (l t : Nat) (again : List Cell) : State :=
  let s1 := setLink s l (setDirSt (getLink s l) (dirOut t l) { outDir s t l with replay := [], filling := [] })
  let s2 := again.foldl (fun a c => seeCell a t c.num) s1
  let x := getTile s2 t
  endHeld (setTile s2 t { x with voq := again.map (reroute s2 t) ++ x.voq }) l t

/-- The dedup report no longer is awaited. -/
def reported (s : State) (l t : Nat) : State :=
  setLink s l (if (linkEnds l).1 = t then { getLink s l with awaitLow := false } else { getLink s l with awaitHigh := false })

/-- The dedup report reaches a tile (R123, step 3): cells of its replay groups after the reported group go out again; the reported ones are
freed. -/
def dedup (s : State) (l t grp : Nat) : State :=
  let x := outDir s t l
  let i := match x.replay.findIdx? (·.seq == grp) with | some n => n + 1 | none => 0
  let gone := (x.replay.take i).flatMap (·.cells)
  let again := (x.replay.drop i).flatMap (·.cells) ++ x.filling
  reported (gone.foldl (fun a c => freeCell a t c.num) (resendCells s l t again)) l t

/-- Whether a half of a direction's lanes is whole after sparing: lanes 0 to 31, or 32 to 63 (R122). -/
def halfWhole (lost spared : List Nat) (hi : Bool) : Bool :=
  lost.all fun n => spared.contains n || (if hi then decide (n < 32) else decide (32 ≤ n))

/-- The width of a direction after losses (R122): 64, 32 or 0. -/
def dirWidth (x : TlDir) : Nat :=
  if x.lost.all (fun n => x.spared.contains n) then 64
  else if halfWhole x.lost x.spared false ∨ halfWhole x.lost x.spared true then 32 else 0

/-- A direction's width shows in its objects; a narrowed or spared link says so (0x3100:02 to :05). -/
def showLink (s : State) (l : Nat) : State :=
  let x := getLink s l
  let wu := dirWidth x.up
  let wd := dirWidth x.down
  let used (y : TlDir) : Nat := min 3 (2 ^ (y.spared.length + y.dead) - 1) - min 3 (2 ^ y.dead - 1)
  let spares := used x.up + 4 * used x.down
  let st := if wu < 64 ∨ wd < 64 then 4 else if spares ≠ 0 then 3 else 2
  wr (wr (wr (wr s 0x3100 2 l st) 0x3100 3 l wu) 0x3100 4 l wd) 0x3100 5 l spares

/-- A lane of a Tidelink direction, or the spare that carries it, loses lock (R122): a spare that is left replaces it, else the direction
narrows, else the link fails. -/
def tlLaneLost (s : State) (l : Nat) (d : LinkDir) (lane : Nat) : State :=
  let x := getDir (getLink s l) d
  if linkCarries s l = false ∨ (x.lost.contains lane ∧ x.spared.contains lane = false) then s
  else
    let gone := if x.spared.contains lane then { x with spared := x.spared.filter (· != lane), dead := x.dead + 1 }
      else { x with lost := lane :: x.lost }
    let y := if gone.spared.length + gone.dead < 2 ∧ (gone.lost.all fun n => n == lane || gone.spared.contains n) = true then
        { gone with spared := lane :: gone.spared } else gone
    let s1 := setLink s l (setDirSt (getLink s l) d y)
    if dirWidth y = 0 then failLink s1 l false
    else
      let s2 := showLink s1 l
      if dirWidth y = 64 then raise s2 (0x3100 + l) 3 .notice [] else raise s2 (0x3100 + l) 5 .fault []

end Sys2Proof.Machine
end

