-- ==== Sys2Proof/Machine/CohOps.lean ====
section
/-!
DEFINITION. Coherence at the home bank (chapter 9): directory entries, slices, the requests of hosts and engines on a line,
snoops and their answers, evictions, range back-invalidation and lost hosts.
-/
namespace Sys2Proof.Machine

open Sys2Proof

/-! Lines, banks and entries. -/

def lineInit : Line :=
  { hstate := 0, coarse := false, ptrs := [], groups := 0, slices := [.i, .i, .i, .i], data := zeros 64, bad := false, hold := false
    snoops := [], called := false, sliceAsks := [], cur := none, filling := false, chain := [], evicting := false, stamp := 0 }

def getLine (s : State) (k : Nat) : Line := look lineInit s.coh.lines k

def setLine (s : State) (k : Nat) (v : Line) : State := { s with coh := { s.coh with lines := put s.coh.lines k v } }

/-- The bank of a line. -/
def bankOf (k : Nat) : Nat := setIndex (k * 64) % 4

/-- A proxy slot record (Table 9-12): its port, when it is valid. -/
def proxyPort (s : State) (j : Nat) : Option Nat :=
  let v := rdTbl s 0x6010 2 0 j 0
  if bit v 31 then some (bits v 23 18) else none

/-- The home tile of a line: of the target of its current location; a proxy's is the tile of its inter-switch port (R183, R196). -/
def lineHome (s : State) (k : Nat) : Nat :=
  let t := dpaTarget (k * 64)
  if 192 ≤ t then match proxyPort s (t - 192) with | some p => p / 16 | none => 0
  else tgtHome (dpaTarget (locOf s (k * 64)))

/-- The bank of a line is in RET or OFF (R197). -/
def resting (s : State) (t b : Nat) : Bool := bit (rd s 0x6100 2 t) b

/-- The state of a slice's copy. -/
def sliceAt (l : Line) (t : Nat) : SliceSt := nth .i l.slices t

def setSlice (l : Line) (t : Nat) (v : SliceSt) : Line := { l with slices := setAt l.slices t v }

def dirtySt (x : SliceSt) : Bool := x == .m || x == .o

/-- Some slice holds the line. -/
def cached (l : Line) : Bool := l.slices.any (· != .i)

/-- The tiles other than the home whose slice holds the line, and the one that answers reads: M, O, E or F. -/
def remotes (h : Nat) (l : Line) : List Nat := ((List.range 4).filter (· != h)).filter fun t => sliceAt l t != .i

def ownerSlice (h : Nat) (l : Line) : Option Nat := (remotes h l).find? fun t => sliceAt l t != .s

/-- The way of a line is in use (R185). -/
def wayUsed (h : Nat) (l : Line) : Bool := l.hstate != 0 || !(remotes h l).isEmpty

/-- A port whose host reaches a key DPA: an instance presented there covers it, or an inter-switch port. -/
def reaches (s : State) (p k : Nat) : Bool :=
  actingRole s p == 3
  || (actingRole s p == 1 && s.insts.any fun e => (rd s 0x5010 2 e.1 == 2 || rd s 0x5010 2 e.1 == 1 && e.2.usp == p)
        && s.pool.extents.any fun x => extInUse x.2 && x.2.inst == e.1 && coversDpa x.2 (k * 64))

/-- The ports that may hold a line (R187). -/
def holders (s : State) (k : Nat) (l : Line) : List Nat :=
  if l.hstate = 0 then []
  else if l.coarse then (List.range 64).filter fun p => l.groups.testBit (p / 4) && reaches s p k
  else l.ptrs

/-- A host leaves an entry; a coarse entry does not change (R186). -/
def dropHolder (l : Line) (p : Nat) : Line :=
  if l.coarse then l
  else
    let r := l.ptrs.filter (· != p)
    { l with ptrs := r, hstate := if r = [] then 0 else l.hstate }

/-- No host holds the line. -/
def noHolders (l : Line) : Line := { l with hstate := 0, coarse := false, ptrs := [], groups := 0 }

/-- A host takes the line shared: the fifth turns the entry coarse (R185). -/
def addSharer (l : Line) (p : Nat) : Line :=
  if l.coarse then { l with hstate := 1, groups := l.groups ||| 2 ^ (p / 4) }
  else if l.ptrs.contains p then { l with hstate := 1 }
  else if l.ptrs.length < 4 then { l with hstate := 1, ptrs := l.ptrs ++ [p] }
  else { l with hstate := 1, coarse := true, ptrs := [], groups := (l.ptrs ++ [p]).foldl (fun a q => a ||| 2 ^ (q / 4)) 0 }

/-- A host takes the line exclusive. -/
def setOwner (l : Line) (p : Nat) : Line := { l with hstate := 2, coarse := false, ptrs := [p], groups := 0 }

/-- The directory entry of a line as Table 9-2 or 9-3 lays it out. -/
def entryWord (s : State) (k : Nat) : Nat :=
  let l := getLine s k
  let h := lineHome s k
  let own := ownerSlice h l
  let common := l.hstate * 2 ^ 62 + ((remotes h l).foldl (fun a t => a + 2 ^ t) 0) * 2 ^ 57
    + (match own with | some t => 2 ^ 56 + t * 2 ^ 54 | none => 0) + bits (k * 64) 51 29 * 2 ^ 31
  if wayUsed h l = false then 0
  else if l.coarse then common + 2 ^ 61 + l.groups
  else common + (List.range 4).foldl (fun a i => match l.ptrs[i]? with
    | some p => a + (64 + p) * 2 ^ (21 - 7 * i)
    | none => a) 0

/-- The backing takes the word of a line's entry (R184). -/
def toBacking (s : State) (k : Nat) : State :=
  { s with coh := { s.coh with backing := if entryWord s k = 0 then del s.coh.backing k else put s.coh.backing k (entryWord s k) } }

/-- An entry enters the directory cache of its bank; one that leaves it reaches the backing (R184). -/
def dirPut (s : State) (h k : Nat) : State :=
  let s1 := cachePut s 3 h k
  ((cacheKeys s 3 h).filter fun x => !(cacheKeys s1 3 h).contains x).foldl toBacking s1

/-- A walk of the backing returns: the line's entry, when the set holds one, is cached. -/
def dirFill (s : State) (h k : Nat) : State :=
  if s.pool.walks.contains (24 + h, k) then
    let s1 := { s with pool := { s.pool with walks := s.pool.walks.filter (· != (24 + h, k)) } }
    if entryWord s1 k = 0 then s1 else dirPut s1 h k
  else s

/-- An entry that has changed is written: in its bank's directory cache; while the bank rests in the backing, whose set is
marked (R184, R197, R199). -/
def dirStore (s : State) (k : Nat) : State :=
  let h := lineHome s k
  if entryWord s k = look 0 s.coh.backing k then s
  else if resting s h (bankOf k) then
    let b := 4 * h + bankOf k
    let l := look [] s.coh.changed b
    let s1 := toBacking s k
    if l.contains (cacheSet 3 k) then s1 else { s1 with coh := { s1.coh with changed := put s1.coh.changed b (l ++ [cacheSet 3 k]) } }
  else if cacheHas s 3 h k then s
  else dirPut s h k

/-- A line is used: the stamp of least-recent use. -/
def touchLine (s : State) (k : Nat) : State :=
  let s1 := { s with coh := { s.coh with stamp := s.coh.stamp + 1 } }
  setLine s1 k { getLine s1 k with stamp := s.coh.stamp }

/-! Addresses that a host uses (R181, R283). -/

/-- A decoder record of an instance (Table 13-5). -/
def decoderRec (s : State) (i d : Nat) : Nat := rdTbl s 0x5020 1 i d 0

def decBase (r : Nat) : Nat := bits r 255 192
def decSize (r : Nat) : Nat := bits r 191 128
def decOffset (r : Nat) : Nat := bits r 127 64
def decWays (r : Nat) : Nat := 2 ^ bits r 63 56
def decGran (r : Nat) : Nat := 256 * 2 ^ bits r 55 48
def decPos (r : Nat) : Nat := bits r 47 40
def decCommitted (r : Nat) : Bool := bit r 32
def decBi (r : Nat) : Bool := bit r 33

/-- The bytes of instance offset that a decoder yields. -/
def decSpan (r : Nat) : Nat := decSize r / decWays r

/-- The offset that an HPA decodes to. -/
def decodeWith (r hpa : Nat) : Option Nat :=
  let x := hpa - decBase r
  if decCommitted r = true ∧ decBase r ≤ hpa ∧ x < decSize r ∧ x / decGran r % decWays r = decPos r then
    some (decOffset r + x / (decGran r * decWays r) * decGran r + x % decGran r)
  else none

/-- The HPA of an instance offset under a decoder. -/
def encodeWith (r off : Nat) : Option Nat :=
  let x := off - decOffset r
  if decCommitted r = true ∧ decOffset r ≤ off ∧ x < decSpan r then
    some (decBase r + (x / decGran r * decWays r + decPos r) * decGran r + x % decGran r)
  else none

/-- The address that the host or partner behind a port uses for a line (R181): an HPA by the decoders of an LD; the offset in an
instance that is a GFD. -/
def hostAddr (s : State) (p k : Nat) : Nat :=
  let off (i : Nat) : Option Nat :=
    (s.pool.extents.find? fun x => extInUse x.2 && x.2.inst == i && coversDpa x.2 (k * 64)).map fun x => x.2.offset + (k * 64 - extDpa x.2)
  let asLd := s.insts.filterMap fun e =>
    if rd s 0x5010 2 e.1 = 1 ∧ e.2.usp = p then
      (off e.1).bind fun o => (List.range 8).findSome? fun d => encodeWith (decoderRec s e.1 d) o
    else none
  let found := asLd ++ s.insts.filterMap fun e => if rd s 0x5010 2 e.1 = 2 then off e.1 else none
  found.head?.getD (k * 64)

/-! Slices and memory. -/

/-- A dirty line is written to memory at its location; a frame's sector that holds it becomes dirty (Table 10-7). (Log 223: DESIGN CHOICE.) -/
def toMemory (s : State) (k : Nat) (l : Line) : State :=
  let loc := locOf s (k * 64)
  let s1 := writeLine s loc l.data l.bad
  let s2 := if loc = k * 64 then frameWrite s1 k else s1
  let h := lineHome s k
  let t := dpaTarget loc
  largeEvent (bump (if 16 ≤ t ∧ frameServes s k = false then emit s2 (.deviceWrite (t - 16) (getTgt s t).ld (taddrOf s loc) l.data l.bad)
    else if t < 4 then largeEvent s2 (76 + t) 1 1 else s2) 0x6100 8 h 64 1) (72 + h) 3 1

/-- The lines a slice's bank holds. (Log 84: DESIGN CHOICE.) -/
def bankLines (s : State) (t b : Nat) : List Nat := (s.coh.lines.filter fun e => sliceAt e.2 t != .i && bankOf e.1 == b).map (·.1)

/-- A slice gives up a line (Table 9-5): a dirty one goes to the home slice, at home to memory. -/
def evictSlice (s : State) (t k : Nat) : State :=
  let l := getLine s k
  let h := lineHome s k
  let x := sliceAt l t
  if t = h then
    setLine (if dirtySt x then toMemory s k l else s) k (setSlice l t .i)
  else if dirtySt x then
    let l1 := setSlice l t .i
    if resting s h (bankOf k) then setLine (toMemory s k l) k l1 else setLine s k (setSlice l1 h .m)
  else setLine s k (setSlice l t .i)

/-- A slice makes room for a line in a full set of its bank (R192: 12 MiB of 12 ways, 16,384 sets); which line leaves is the part's. (Log 84: DESIGN CHOICE.) -/
def roomFor (s : State) (t k : Nat) : State :=
  let bank := bankLines s t (bankOf k)
  if bank.length < 12 then s
  else
    let ls := bank.filter fun x => Config.sliceSet x % 16384 == Config.sliceSet k % 16384
    if ls.length < 12 then s else evictSlice (freeNext s) t (nth 0 ls (Config.freeValue s.free % ls.length))

/-- A line's bytes reach its home: into the home slice, or to memory while the bank rests (R192, R197). -/
def putHome (s : State) (k : Nat) (d : List Byte) (bad dirty : Bool) : State :=
  let h := lineHome s k
  let l := { getLine s k with data := d, bad := bad }
  if resting s h (bankOf k) then (if dirty then toMemory (setLine s k l) k l else setLine s k l)
  else
    let s1 := if sliceAt l h = .i then largeEvent (roomFor s h k) (72 + h) 2 1 else s
    setLine s1 k (setSlice { getLine s1 k with data := d, bad := bad } h (if dirty ∨ dirtySt (sliceAt l h) = true then .m else if sliceAt l h = .i then .e else sliceAt l h))

/-! Cells on memory's ways (R104, R112). -/

/-- A request that is not translated: its extent field names no record. -/
def untranslated (r : Req) : Bool := r.extent == 262144

/-- The buffer class of a request toward its home (Table 6-5): an AtomicOp is a CXL.io non-posted request; 1 with data, else 0. -/
def reqClass (r : Req) : Nat :=
  match r.kind with
  | .atomic _ _ _ _ => 6
  | .wr => 1
  | .step _ => if r.be = 0 then 0 else 1
  | _ => 0

/-- The key of a request's flow: of a CXL.io flow for an AtomicOp, else with the key DPA. -/
def reqKey (r : Req) : Nat :=
  let inside := decide (64 ≤ r.agent)
  let src := if inside then 63 else r.agent
  match r.kind with
  | .atomic _ _ _ _ => ioKey inside src 63
  | _ => memKey inside src r.inst r.key

/-- The crossbar port of a line's bank at its home. (Log 203: DESIGN CHOICE.) -/
def bankXp (k : Nat) : Nat := 14 + bankOf k

/-- The crossbar port at which a request enters: its port's group, or the cluster bus of its engine. (Log 203: DESIGN CHOICE.) -/
def reqXp (r : Req) : Nat := if r.agent < 64 then portXp r.agent else 20 + r.tag / 4096 % 2

/-- A request as the cell that carries it to its home. -/
def reqCell (s : State) (r : Req) : Cell :=
  let k := r.key / 64
  let cls := reqClass r
  cellFor (reqTile r) (if r.agent < 64 then r.agent % 16 else reqXp r + 8) (reqXp r) cls (reqKey r) r.inst (decide (64 ≤ r.agent)) (lineHome s k)
    (bankXp k) { noMsg with src := if r.agent < 64 then r.agent else 63, cls := cls } (.request r) r.sample.isSome

/-- What a line's home sends to a port crosses in a cell: within the command when nothing holds it, else by the scheduler's turns. (Log 203: DESIGN CHOICE.) -/
def carryOut (s : State) (k cls key inst q : Nat) (m : EgMsg) : State :=
  let h := lineHome s k
  let c := cellFor h (bankXp k + 8) (bankXp k) cls key inst true (portTile q) (portXp q) { noMsg with dst := q, cls := cls } (.leaving m k)
    m.sample.isSome
  if passes s h c then pushEgress (countPass s h c) q m else enterCell s h c

/-- The cells that a test names are taken out of every tile; one that is on a Tidelink is dropped where it arrives. -/
def takeCells (s : State) (it : Cell → Bool) : State × List Cell :=
  let inTile (t : Nat) : List Cell := (getTile s t).voq ++ (getTile s t).ingress ++ (getTile s t).repins.flatMap (·.held)
  let gone := ((List.range 4).flatMap inTile ++ s.links.flatMap fun e => e.2.up.filling ++ e.2.down.filling).filter it
  let s1 := (List.range 4).foldl (fun a t =>
    let x := getTile a t
    let b := setTile a t { x with voq := x.voq.filter fun c => !it c
                                  ingress := x.ingress.filter fun c => !it c
                                  repins := x.repins.map fun r => { r with held := r.held.filter fun c => !it c } }
    ((x.voq ++ x.repins.flatMap (·.held)).filter it).foldl (fun z c => freeCell z t c.num) b) s
  let f (c : Cell) : Cell := if it c then { c with ctrl := .dropped, last := false } else c
  let g (x : TlDir) : TlDir := { x with filling := x.filling.map f, replay := x.replay.map fun y => { y with cells := y.cells.map f } }
  let sent := s.links.any fun e => (e.2.up.replay ++ e.2.down.replay).any fun y => y.cells.any it
  if gone = [] ∧ sent = false then (s, [])
  else ({ s1 with links := mapVals s1.links fun _ x => { x with up := g x.up, down := g x.down } }, gone)

/-- The requests on memory in cells that a test names are taken out. -/
def takeJobs (s : State) (p : Req → Bool) : State × List Req :=
  let x := takeCells s fun c => c.ctrl == .none && match c.job with | .request r => p r | _ => false
  (x.1, x.2.filterMap fun c => match c.job with | .request r => some r | _ => none)

/-! Snoops. -/

/-- The dirty log of an instance takes a mark of a page (R288, R289). -/
def markPage (s : State) (i off : Nat) : State :=
  let x := getInst s i
  if x.dirty.logging ∧ off < x.dirty.span then
    setInst s i { x with dirty := { x.dirty with active := put x.dirty.active (off / 4096) true } }
  else s

/-- The pages of the logging instances that name a line (Table 13-9: a line poisoned under the lost-owner policy). -/
def markLine (s : State) (k : Nat) : State :=
  (s.pool.extents.filter fun e => extInUse e.2 && coversDpa e.2 (k * 64)).foldl (fun a e =>
    markPage a e.2.inst (e.2.offset + (k * 64 - extDpa e.2))) s

/-- The lost-owner policy (R210): under policy 0 the line is written with poison at its home. (Log 88: DEDUCED.) -/
def lostOwner (s : State) (k : Nat) : State :=
  if rd s 0x6000 2 0 = 0 then
    raise (markLine (bump (putHome s k (getLine s k).data true true) 0x6000 11 0 64 1) k) (0x6000 + lineHome s k) 15 .notice []
  else s

/-- A host that is gone leaves an entry. -/
def purgeHost (s : State) (k p : Nat) : State :=
  let l := getLine s k
  if l.coarse = false ∧ l.ptrs.contains p = true then
    let s1 := dirStore (setLine s k (dropHolder l p)) k
    if l.hstate = 2 then lostOwner s1 k else s1
  else s

/-- Lost hosts leave an entry at the moment a request reaches it (R210). -/
def purgeLost (s : State) (k : Nat) : State := s.coh.lostHosts.foldl (fun a p => purgeHost a k p) s

/-- A BISnp is sent to a host: counted, and served ahead of every class at the port (R312). -/
def sendSnoop (s : State) (k p : Nat) (x : Snoop) : State :=
  let s1 := largeEvent (bump s 0x6000 8 0 64 1) (68 + lineHome s k) 3 1
  let s2 := setLine s1 k { getLine s1 k with snoops := (getLine s1 k).snoops ++ [(p, x)] }
  carryOut s2 k 4 (biKey (dpaTarget (k * 64)) p (k * 64)) 0xFFF p
    { cls := 16, low := false, len := 0, line := none, out := .snoop x (hostAddr s p k), sample := none }

/-- Snoops to hosts whose link is up; the others are gone (R210, Table 5-6). -/
def snoopAll (s : State) (k : Nat) (l : List (Nat × Snoop)) : State :=
  l.foldl (fun a e => if linkUp a e.1 then sendSnoop a k e.1 e.2 else purgeHost a k e.1) s

/-! What a request needs (Table 9-4). -/

/-- A read that leaves other copies in place. -/
def readKind (r : Req) : Bool :=
  match r.kind with
  | .rd .exclusive => false
  | .rd _ => true
  | .rdData => true
  | .inv .exclusive => false
  | .inv _ => true
  | .step _ => r.be == 0
  | _ => false

/-- The snoops that a request needs. (Log 85: DESIGN CHOICE.) -/
def needSnoops (s : State) (k : Nat) (l : Line) (r : Req) : List (Nat × Snoop) :=
  let hs := holders s k l
  let others := hs.filter (· != r.agent)
  match r.kind with
  | .clnEvct => []
  | .specRd => []
  | .rd .none => if l.hstate = 2 then others.map fun p => (p, .cur) else []
  | .inv .none => []
  | .wr => if l.hstate = 2 ∧ hs.contains r.agent = true then [] else hs.map fun p => (p, .inv)
  | _ => if readKind r then (if l.hstate = 2 then others.map fun p => (p, if actingRole s p = 3 then .fwd else .data) else [])
    else others.map fun p => (p, .inv)

/-- The remote slices that must answer: the one that has the data for a read; every other copy for the rest. -/
def needSlices (s : State) (k : Nat) (l : Line) (r : Req) : List Nat :=
  let h := lineHome s k
  let own := if 64 ≤ r.agent then some (r.agent - 64) else none
  match r.kind with
  | .clnEvct => []
  | .specRd => []
  | .wr => if l.hstate = 2 ∧ (holders s k l).contains r.agent = true then [] else remotes h l
  | _ =>
    if readKind r then
      (match ownerSlice h l with
       | some t => if some t = own then [] else [t]
       | none => [])
    else (remotes h l).filter fun t => some t != own || (match r.kind with | .step _ => false | _ => true)

/-- Snoops or invalidations of the request would take a copy away (R202). (Log 86: DEDUCED.) -/
def takesCopy (sn : List (Nat × Snoop)) (sl : List Nat) (r : Req) : Bool := sn.any (fun e => e.2 != .cur) || (!sl.isEmpty && !readKind r)

/-- The request records a host or a remote slice in the directory. -/
def records (s : State) (k : Nat) (r : Req) : Bool :=
  match r.kind with
  | .rd .none => false
  | .inv .none => false
  | .wr => false
  | .clnEvct => false
  | .specRd => false
  | .atomic _ _ _ _ => false
  | .step _ => r.agent - 64 != lineHome s k
  | _ => r.tracked && decide (r.agent < 64)

/-! Ways and evictions (R189). -/

/-- The lines of a line's directory set whose way is in use. -/
def setLines (s : State) (k : Nat) : List Nat :=
  (s.coh.lines.filter fun e => setIndex (e.1 * 64) == setIndex (k * 64) && lineHome s e.1 == lineHome s k
    && wayUsed (lineHome s k) e.2).map (·.1)

/-- A line has no hold window and nothing pending. -/
def idleLine (l : Line) : Bool := !l.hold && l.cur.isNone && l.chain.isEmpty && !l.evicting && l.snoops.isEmpty && l.sliceAsks.isEmpty

/-- How many hosts a way names: none first, coarse last. -/
def hostRank (l : Line) : Nat := if l.hstate = 0 then 0 else if l.coarse then 5 else l.ptrs.length

/-- The way that R189 evicts. -/
def victim (s : State) (k : Nat) : Option Nat :=
  (((setLines s k).filter fun v => idleLine (getLine s v)).mergeSort fun a b =>
    let x := getLine s a
    let y := getLine s b
    decide (hostRank x < hostRank y ∨ (hostRank x = hostRank y ∧ x.stamp ≤ y.stamp))).head?

/-- A line's eviction ends when every answer has arrived: no host and no remote slice is left. -/
def endEviction (s : State) (k : Nat) : State :=
  let l := getLine s k
  if l.evicting = true ∧ l.snoops = [] ∧ l.sliceAsks = [] then
    let s1 := setLine s k (noHolders { l with evicting := false })
    dirStore ((remotes (lineHome s1 k) l).foldl (fun a t => evictSlice a t k) s1) k
  else s

/-- A line's copies are called back: BISnpInv to its hosts, invalidation of its remote slices. -/
def startEviction (s : State) (k : Nat) : State :=
  let l := getLine s k
  let s1 := setLine s k { l with evicting := true, sliceAsks := remotes (lineHome s k) l }
  endEviction (snoopAll s1 k ((holders s k l).map fun p => (p, .inv))) k

/-! Responses. -/

/-- A response to a host leaves through its port's scheduler in its queue's class (R298, R309), after it crossed from the line's home; one
that no target served comes from the host's own tile; toward a lost link it is dropped and counted (R93). -/
def respond (s : State) (r : Req) (x : Response) (len : Nat) : State :=
  if r.agent < 64 ∧ linkUp s r.agent = false then bump (endSample s r.sample) 0x2200 6 r.agent 64 1
  else
    let m : EgMsg := { cls := r.queue, low := false, len := len, line := none, out := .rsp r.tag x, sample := stamp s r.sample 4 }
    if untranslated r ∨ 64 ≤ r.agent then pushEgress s r.agent m
    else carryOut s (r.key / 64) (match x with | .drs _ _ _ => 3 | .io _ _ => 7 | _ => 2) (reqKey r) r.inst r.agent m

/-- A read's answer: data, and the state granted for a tracked line (0 Cmp, 1 Cmp-S, 2 Cmp-E). -/
def respondRead (s : State) (r : Req) (d : List Byte) (bad : Bool) (grant : Option Nat) : State :=
  let v := devLoadOf s r r.agent (dpaTarget r.loc)
  let s1 := if 2 ≤ v.2 then portEvent v.1 r.agent 0x0E 1 (some r.inst) 0 else v.1
  let s2 := if bad then instEvent s1 r.inst 7 (r.agent / 16) 1 else s1
  let s3 := respond s2 { r with sample := r.sample.map fun m => { m with devLoad := v.2 } } (.drs d bad v.2) 64
  match grant with
  | some g => respond s3 { r with sample := none } (.ndr g v.2) 0
  | none => s3

/-- An answer without data. -/
def respondNdr (s : State) (r : Req) (g : Nat) : State :=
  let v := devLoadOf s r r.agent (dpaTarget r.loc)
  respond (if 2 ≤ v.2 then portEvent v.1 r.agent 0x0E 1 (some r.inst) 0 else v.1)
    { r with sample := r.sample.map fun m => { m with devLoad := v.2 } } (.ndr g v.2) 0

/-! Atomics (R204). -/

/-- Bytes an AtomicOp works on. -/
def atomBytes (x : AtomSize) : Nat := match x with | .w32 => 4 | .w64 => 8 | .w128 => 16

/-- The value an atomic writes, none when a CAS does not match: FetchAdd adds modulo the width. -/
def atomNew (k : AtomKind) (n old a b : Nat) : Option Nat :=
  match k with
  | .fetchAdd => some ((old + a) % 256 ^ n)
  | .swap => some (a % 256 ^ n)
  | .cas => if old = a % 256 ^ n then some (b % 256 ^ n) else none

/-- The same engine of the next cluster of the tile that is ON (R368). -/
def nextOn (s : State) (e : Nat) : Nat :=
  match (List.range 8).find? fun i => rd s 0x9000 2 (e / 256 * 32 + 1 + (e / 32 + i) % 8) == 0 with
  | some i => e / 256 * 256 + (e / 32 + i) % 8 * 32 + e % 32
  | none => e

/-- The engine that runs a line's atomics (R241): 256 t + 64 b + S[7:2]; while its cluster rests, the one of R368. (Log 87: DEDUCED.) -/
def atomEngine (s : State) (k : Nat) : Nat := nextOn s (256 * lineHome s k + 64 * bankOf k + bits (setIndex (k * 64)) 7 2)

/-- An atomic can run (R241, R251): a pooled context of its engine is free, and its cluster's vendor tables are not being swapped. (Log 87: DEDUCED.) -/
def atomicMay (s : State) (k : Nat) : Bool :=
  let e := atomEngine s k
  !s.gecko.swapping.contains (e / 32) && (List.range 64).any fun j => bindKind (bindRec s (128 * e + j)) == 2 && (getCtx s (128 * e + j)).st == 1

/-! Contexts that wait for an access. -/

/-- START and the steps executed, which with the context name one step (R255). -/
def stepSerial (k : Ctx) : Nat := k.start * 2 ^ 32 + k.steps

/-- The access that a context's step makes next. (Log 87: DEDUCED.) -/
def accReq (s : State) (c : Nat) (a : LineAcc) (last : List Byte) : Req :=
  let k := getCtx s c
  { kind := match a.atomic with
      | some (x, n, p, q) => .atomic x n p q
      | none => if a.own then .rd .exclusive else .step c
    agent := 64 + c / 128 / 256, inst := if k.sys then 4096 else k.inst, off := a.off, tag := c, queue := k.queue, colour := 0, low := false, devLoad := 0, len := 0
    data := if a.fromLast then last else a.data, be := a.be, keepS := false, tracked := false, extent := a.extent, key := a.key
    loc := a.loc, serial := stepSerial k, sample := none }

/-- A line access of a context is done, for the step that asked for it: what it read joins the step's bytes, and its next access follows; after the last one
the reply is ready. (Log 87: DEDUCED.) -/
def accDone (s : State) (r : Req) (d : List Byte) (bad flag : Bool) (read : Bool) : State × List Req :=
  let c := r.tag
  let k := getCtx s c
  match k.pend with
  | none => (s, [])
  | some p =>
    if r.serial ≠ stepSerial k then (s, []) else
    let p1 := { p with accs := p.accs.tail, bytes := if read then p.bytes ++ d else p.bytes, last := if read then d else p.last
                       bad := p.bad || (bad && read), flag := flag }
    match p1.accs with
    | [] => (setCtx s c { k with pend := some { p1 with ready := true } }, [])
    | a :: _ => (setCtx s c { k with pend := some p1 }, [accReq s c a p1.last])

/-! Completion of a request whose snoops are answered. -/

/-- A write that changes a line marks the line of a Littoral move (R224). -/
def wroteLine (s : State) (r : Req) : State :=
  let g := granuleOf r.key
  match s.lit.moves.find? fun e => e.1 == g with
  | some (_, m) =>
    if m.phase = 3 ∨ m.phase = 4 then
      { s with lit := { s.lit with moves := put s.lit.moves g { m with mask := setBit m.mask (r.key / 64 % 1024) true } } }
    else s
  | none => s

/-- A write taken into a line's chain marks its page (R288, R289): host writes, atomics and tenant steps. -/
def markTaken (s : State) (r : Req) : State :=
  let w := match r.kind with
    | .wr => true
    | .atomic _ _ _ _ => true
    | .step _ => r.be != 0
    | _ => false
  if w = true ∧ r.inst < 4096 then markPage s r.inst r.off else s

/-- The request reads the line's bytes, or writes part of it. -/
def needsData (r : Req) : Bool :=
  match r.kind with
  | .rd _ => true
  | .rdData => true
  | .inv _ => false
  | .wr => r.be != 2 ^ 64 - 1
  | .clnEvct => false
  | .specRd => false
  | .atomic _ _ _ _ => true
  | .step _ => r.be != 2 ^ 64 - 1

/-- The line is idle again, with the hold window of a grant; its entry is written. -/
def release (s : State) (k : Nat) (granted : Bool) : State :=
  let l := getLine s k
  dirStore (setLine s k { l with cur := none, filling := false, hold := l.hold || granted }) k

/-- A read fills the reader's own slice (R194): of a port or engine of a tile other than the home, when Remote fill is on. While the home's bank
rests and no other slice answers for the line, the reader is the one named F (R197). -/
def remoteFill (s : State) (k t : Nat) : State :=
  let l := getLine s k
  let h := lineHome s k
  if t = h ∨ rd s 0x6100 1 t = 0 ∨ resting s t (bankOf k) = true ∨ sliceAt l t ≠ .i ∨ l.hstate = 2 then s
  else
    let s1 := largeEvent (roomFor s t k) (72 + t) 2 1
    let l1 := getLine s1 k
    setLine s1 k (setSlice l1 t (if l1.hstate = 0 ∧ (remotes h l1).isEmpty = true ∧ dirtySt (sliceAt l1 h) = false then .e
      else if resting s h (bankOf k) = true ∧ (ownerSlice h l1).isNone = true then .f else .s))

/-- The grant and the entry that Table 9-4 gives a host's request for data or ownership: Cmp 0, Cmp-S 1, Cmp-E 2. A holder that was called
back for the request leaves it shared, whatever it answered. -/
def grantHost (h : Nat) (l : Line) (r : Req) : Line × Option Nat :=
  if r.tracked = false then (l, none)
  else match r.kind with
    | .rd .none => (l, some 0)
    | .inv .none => (l, some 0)
    | .rd .exclusive => (setOwner l r.agent, some 2)
    | .inv .exclusive => (setOwner l r.agent, some 2)
    | .rdData => if l.hstate = 0 ∧ (remotes h l).isEmpty = true ∧ l.called = false then (setOwner l r.agent, some 2) else (addSharer l r.agent, some 1)
    | _ => (addSharer l r.agent, some 1)

/-- The request is performed on the line: its bytes are at hand when it needs them. -/
def perform (s : State) (k : Nat) (r : Req) : State × List Req :=
  let l := getLine s k
  let h := lineHome s k
  match r.kind with
  | .clnEvct => (respondNdr (release (setLine s k (dropHolder l r.agent)) k false) r 0, [])
  | .specRd => (release s k false, [])
  | .wr =>
    let own := l.hstate == 2 && l.ptrs.contains r.agent
    let l1 := if own ∧ r.keepS = true then addSharer { l with hstate := 1 } r.agent else if own then dropHolder l r.agent else noHolders l
    let d := mergeBytes (if needsData r then l.data else zeros 64) r.data r.be
    let s1 := putHome (setLine s k l1) k d (l.bad && needsData r) true
    (respondNdr (release (wroteLine s1 r) k false) r 0, [])
  | .atomic x n a b =>
    let m := atomBytes n
    let o := r.off % 64
    let old := fieldLe l.data o m
    let new := atomNew x m old a b
    let s1 := putHome (setLine s k (noHolders l)) k (match new with
      | some v => l.data.take o ++ le m v ++ l.data.drop (o + m)
      | none => l.data) l.bad true
    let s2 := if new.isSome then wroteLine s1 r else s1
    let s3 := release (largeEvent (bump s2 0x6100 9 h 64 1) (72 + h) 6 1) k true
    let s4 := clusterEvent (if r.inst < 4096 then instEvent s3 r.inst 4 h 1 else s3) (atomEngine s3 k / 32) 0x26 1 (some r.inst)
    if r.agent < 64 then
      (respond s4 { r with sample := stampOnce s r.sample 3 } (.io (if l.bad then 2 else 0) (le m old)) m, [])
    else accDone s4 r (le m old) l.bad new.isSome true
  | .step _ =>
    let t := r.agent - 64
    if r.be = 0 then
      let s1 := remoteFill s k t
      accDone (release s1 k false) r l.data l.bad false true
    else
      let d := mergeBytes l.data r.data r.be
      let bad := l.bad && needsData r
      let s1 := if t = h ∨ resting s t (bankOf k) = true ∨ resting s h (bankOf k) = true then putHome (setLine s k (noHolders l)) k d bad true
        else
          let s0 := roomFor s t k
          let l0 := noHolders (getLine s0 k)
          setLine s0 k { l0 with data := d, bad := bad, slices := (List.range 4).map fun x => if x = t then .m else .i }
      accDone (release (wroteLine s1 r) k true) r [] false false false
  | _ =>
    if 64 ≤ r.agent then
      let s1 := putHome (setLine s k (noHolders l)) k l.data l.bad true
      accDone (release s1 k true) r l.data l.bad false true
    else
      let g := grantHost h l r
      let s1 := touchLine (release (setLine s k g.1) k (g.2 == some 1 || g.2 == some 2)) k
      let s2 := if g.2 = some 2 then markPage s1 r.inst r.off else s1
      let s3 := if r.tracked then s2 else remoteFill s2 k (r.agent / 16)
      match r.kind with
      | .inv _ => (respondNdr s3 r (g.2.getD 0), [])
      | _ => (respondRead s3 r l.data l.bad g.2, [])

/-- The home reads memory for the request: through the scheduler of the line's target (R311). -/
def askFill (s : State) (k : Nat) (r : Req) : State :=
  let l := getLine s k
  let h := lineHome s k
  let s1 := largeEvent (bump s 0x6100 4 h 64 1) (72 + h) 1 1
  let q := if frameServes s k then 64 + h else targetSched (dpaTarget (locOf s (k * 64)))
  let m : EgMsg := { cls := schedClass s q r, low := r.low, len := 64, line := some k, out := .fill k, sample := none }
  let s2 := setLine s1 k { l with filling := true }
  if 64 ≤ q then pushEgress s2 q m else carryOut s2 k 0 (reqKey r) r.inst q m

/-- The answer of a request that reaches no target (Tables 5-6, 7-2 and 8-6): poison and zeros for a read, each NDR as Cmp, and for
an AtomicOp a completion with a status. -/
def emptyAnswer (s : State) (r : Req) (io : Nat) : State :=
  let v := max r.devLoad (if r.inst < 4096 then occupancyLoad s r.inst r.agent (targetSched (dpaTarget r.loc)) else 0)
  match r.kind with
  | .rd _ =>
    let s1 := respond (if r.inst < 4096 then instEvent s r.inst 7 (reqTile r) 1 else s) r (.drs (zeros 64) true v) 64
    if r.tracked then respond s1 { r with sample := none } (.ndr 0 v) 0 else s1
  | .rdData =>
    let s1 := respond (if r.inst < 4096 then instEvent s r.inst 7 (reqTile r) 1 else s) r (.drs (zeros 64) true v) 64
    if r.tracked then respond s1 { r with sample := none } (.ndr 0 v) 0 else s1
  | .atomic _ _ _ _ => respond s r (.io io []) 0
  | .specRd => endSample s r.sample
  | _ => respond s r (.ndr 0 v) 0

/-- A request to a target whose link is down (R435, Table 5-6), counted at the DSP's 0x2200:07. (Log 96: DEDUCED.) -/
def awayAnswer (s : State) (r : Req) (t : Nat) : State :=
  let p := t - 16
  let s1 := portEvent (bump s 0x2200 7 p 64 1) p 0x0B 1 none 0
  let s2 := match r.kind with
    | .wr => raise (logRas s1 r.agent) (portSource p) 15 .fault []
    | _ => s1
  emptyAnswer s2 { r with sample := flagSample r.sample 32, extent := 262144 } 1

/-- The answer to one request: an engine's step goes on with poison; a host's is answered as for a lost link, and counted at the DSP
of the target; it is issued by the requester's own tile (R129). -/
def cutAnswer (s : State) (r : Req) : State :=
  if 64 ≤ r.agent then
    let k := getCtx s r.tag
    let t := dpaTarget r.loc
    let s1 := if 16 ≤ t then portEvent (bump s 0x2200 7 (t - 16) 64 1) (t - 16) 0x0B 1 none 0 else s
    match k.pend with
    | some p => if r.serial = stepSerial k then setCtx s1 r.tag { k with pend := some { p with accs := [], bad := true, ready := true } } else s1
    | none => s1
  else if 16 ≤ dpaTarget r.loc then awayAnswer s r (dpaTarget r.loc)
  else emptyAnswer s { r with sample := flagSample r.sample 32, extent := 262144 } 1

/-- The target of a location waits for its link to return (R435). -/
def away (s : State) (loc : Nat) : Bool := (getTgt s (dpaTarget loc)).away

/-- Every answer has arrived: the request is performed, or its memory read is asked for. -/
def advance (s : State) (k : Nat) : State × List Req :=
  let l := getLine s k
  match l.cur with
  | none => (s, [])
  | some r =>
    if l.snoops = [] ∧ l.sliceAsks = [] ∧ l.filling = false then
      if needsData r = true ∧ cached l = false then
        (if away s (locOf s (k * 64)) then (cutAnswer (setLine s k { l with cur := none }) r, []) else (askFill s k r, []))
      else
        let h := lineHome s k
        perform (if needsData r then largeEvent (bump s 0x6100 3 h 64 1) (72 + h) 0 1 else s) k (if needsData r then { r with sample := flagSample r.sample 1 } else r)
    else (s, [])

/-- The request is an atomic performed at home (R204). -/
def isAtomic (r : Req) : Bool :=
  match r.kind with
  | .atomic _ _ _ _ => true
  | _ => false

/-- The head of a line's chain is taken (R200, R201): it waits for the end of a hold window, for a way, or, an atomic, for a pooled context
of its engine (R241). (Log 82: DESIGN CHOICE.) -/
def takeHead (s : State) (k : Nat) : State × List Req :=
  let l := getLine s k
  match l.chain with
  | [] => (s, [])
  | r :: rest =>
    let sn := needSnoops s k l r
    let sl := needSlices s k l r
    if l.cur.isSome ∨ l.evicting = true ∨ l.snoops ≠ [] ∨ l.sliceAsks ≠ [] then (s, [])
    else if isAtomic r = true ∧ atomicMay s k = false then
      (if s.coh.blocked.contains k then s else { s with coh := { s.coh with blocked := s.coh.blocked ++ [k] } }, [])
    else if l.hold = true ∧ takesCopy sn sl r = true then
      (largeEvent (bump s 0x6100 10 (lineHome s k) 64 1) (68 + lineHome s k) 8 1, [])
    else if records s k r = true ∧ wayUsed (lineHome s k) l = false ∧ 16 ≤ (setLines s k).length then
      let s1 := if s.coh.blocked.contains k then s else { s with coh := { s.coh with blocked := s.coh.blocked ++ [k] } }
      match victim s1 k with
      | some v => (largeEvent (bump (startEviction s1 v) 0x6200 5 (lineHome s k) 64 1) (68 + lineHome s k) 5 1, [])
      | none => (s1, [])
    else
      let s1 := setLine s k { l with chain := rest, cur := some { r with sample := if r.tracked = true ∨ wayUsed (lineHome s k) l = true then stamp s r.sample 2 else r.sample }, sliceAsks := sl, called := !sn.isEmpty }
      advance (snoopAll s1 k sn) k

/-- Take heads of a line until it waits. -/
def pump : Nat → State → Nat → State × List Req
  | 0, s, _ => (s, [])
  | n + 1, s, k =>
    let l := getLine s k
    if l.cur.isSome ∨ l.chain = [] then (s, [])
    else
      let x := takeHead s k
      if (getLine x.1 k).chain.length < l.chain.length then
        let y := pump n x.1 k
        (y.1, x.2 ++ y.2)
      else x

/-- Requests queued at a bank. (Log 82: DESIGN CHOICE.) -/
def bankQueued (s : State) (t b : Nat) : Nat :=
  s.coh.lines.foldl (fun a e => if bankOf e.1 = b ∧ lineHome s e.1 = t then a + e.2.chain.length else a) 0

/-- A request is held while the cut-over lock of its granule stands (R225): by the move that holds the lock, or by the step that took it. -/
def holdAtLock (s : State) (r : Req) : State :=
  let g := granuleOf r.key
  match moveAt s g with
  | some m => setMove s g { m with held := m.held ++ [r] }
  | none => { s with lit := { s.lit with locked := put s.lit.locked g (look [] s.lit.locked g ++ [r]) } }

/-- A write of a host that has not answered a snoop of the line yet: it goes ahead of the answer (R187), and is not queued. -/
def crossesSnoop (l : Line) (r : Req) : Bool :=
  match r.kind with
  | .wr => l.snoops.any fun e => e.1 == r.agent
  | _ => false

/-- A writeback: a write of the line's exclusive holder, which a full bank accepts too (R201). -/
def ownsWrite (l : Line) (r : Req) : Bool :=
  match r.kind with
  | .wr => l.hstate == 2 && l.ptrs.contains r.agent
  | _ => false

/-- A snooped host's writeback reaches the home before its answer: the data is at the home when the answer is processed (R186, R187). -/
def writeBack (s : State) (k : Nat) (r : Req) : State :=
  let l := getLine s k
  let loc := locOf s (k * 64)
  let old := if cached l then l.data else readLine s loc
  let bad := needsData r && (if cached l then l.bad else poisoned s loc)
  respondNdr (wroteLine (markTaken (putHome s k (mergeBytes old r.data r.be) bad true) r) r) r 0

/-- A request is taken at its home bank (R200, R201): it joins its line's chain; a bank with 256 queued requests accepts no new
one, and under the lock of a move it is held (R225). -/
def arriveHome (s0 : State) (r : Req) : State × List Req :=
  let k := r.key / 64
  let s := purgeLost s0 k
  let h := lineHome s k
  let b := bankOf k
  let l := getLine s k
  if inCutover s r.key then (holdAtLock s r, [])
  else if crossesSnoop l r then (writeBack s k r, [])
  else if 256 ≤ bankQueued s h b ∧ ownsWrite l r = false then
    ({ s with coh := { s.coh with full := put s.coh.full (4 * h + b) (look [] s.coh.full (4 * h + b) ++ [r]) } }, [])
  else
    let s1 := if r.tracked ∨ wayUsed h l = true then largeEvent (if resting s h b then bump s 0x6200 4 h 64 1 else cacheTouch s 3 h k) (68 + h) 0 1 else s
    let s2 := markTaken (setLine s1 k { getLine s1 k with chain := (getLine s1 k).chain ++ [r] }) r
    let n := bankQueued s2 h b
    let x := pump 8 s2 k
    if (getLine x.1 k).chain.isEmpty then x
    else
      let s3 := largeEvent x.1 (68 + h) 7 1
      (if rd s3 0x6200 6 h < n then wr s3 0x6200 6 h n else s3, x.2)

/-- The lines that wait for a way try again. -/
def retryBlocked (s : State) : State × List Req :=
  let ls := s.coh.blocked
  ls.foldl (fun a k =>
    let x := pump 8 { a.1 with coh := { a.1.coh with blocked := a.1.coh.blocked.filter (· != k) } } k
    (x.1, a.2 ++ x.2)) (s, [])

/-- Requests that a full bank did not accept are taken while it has room. -/
def retryFull (s : State) : State × List Req :=
  (s.coh.full.map (·.1)).foldl (fun a b =>
    match look [] a.1.coh.full b with
    | [] => a
    | r :: rest =>
      if bankQueued a.1 (b / 4) (b % 4) < 256 then
        let x := arriveHome { a.1 with coh := { a.1.coh with full := put a.1.coh.full b rest } } r
        (x.1, a.2 ++ x.2)
      else a) (s, [])

/-- A request goes to its home in a cell (R104): within the command when nothing holds it; toward a tile that is not in service, or a target
whose link is away, its own tile answers it (R129, R435). (Log 203: DESIGN CHOICE.) -/
def homeward (s : State) (r : Req) : State × List Req :=
  let t := reqTile r
  let c := reqCell s { r with sample := hopSample s t (lineHome s (r.key / 64)) (reqKey r) r.sample }
  if (c.destTile ≠ t ∧ rd s 0x3000 2 c.destTile ≠ 3) ∨ away s r.loc = true then (cutAnswer s r, [])
  else if passes s t c then arriveHome (countPass s t c) r
  else (enterCell s t c, [])

/-- Requests that follow from others are taken until none is left. -/
def drive : Nat → State → List Req → State
  | 0, s, _ => s
  | _, s, [] => s
  | n + 1, s, r :: rest =>
    let x := homeward s r
    drive n x.1 (rest ++ x.2)

/-- The order of R200 among the requests of one cycle: 0 a write with its data, 1 an eviction notice, 2 any other. -/
def arrivalClass (r : Req) : Nat :=
  match r.kind with
  | .wr => 0
  | .clnEvct => 1
  | _ => 2

/-- How far a requester ID lies at or after a bank's pointer, modulo 128. -/
def afterPointer (s : State) (hb : Nat) (r : Req) : Nat := (r.agent + 128 - look 0 s.coh.prio hb % 128) % 128

/-- The next request taken of those that reached their home in one cycle (R200): of equal class at one bank, the one nearest at or after its
pointer, which then moves past it when it decided between requesters; such a decision is counted at 0x6200:07. -/
def nextArrival (s : State) (l : List Req) : Option (State × Req) :=
  match (l.mergeSort fun a b => decide (arrivalClass a ≤ arrivalClass b)).head? with
  | none => none
  | some r =>
    if arrivalClass r < 2 then some (s, r)
    else
      let k := r.key / 64
      let h := lineHome s k
      let hb := 4 * h + bankOf k
      let rivals := l.filter fun x => bankOf (x.key / 64) == bankOf k && lineHome s (x.key / 64) == h
      match (rivals.mergeSort fun a b => decide (afterPointer s hb a ≤ afterPointer s hb b)).head? with
      | none => none
      | some x =>
        if rivals.all fun y => y.agent == x.agent then some (s, x)
        else some (largeEvent (bump { s with coh := { s.coh with prio := put s.coh.prio hb ((x.agent + 1) % 128) } } 0x6200 7 h 64 1) (68 + h) 9 1, x)

/-- Requests of one cycle are taken one after another. -/
def takeAll : Nat → State → List Req → State
  | 0, s, _ => s
  | n + 1, s, l =>
    match nextArrival s l with
    | none => s
    | some (s1, r) =>
      let x := arriveHome s1 r
      takeAll n (drive 4096 x.1 x.2) (l.erase r)

/-- Requests whose cells have reached their home are taken there. -/
def takeArrived (s : State) (t : Nat) : State :=
  takeAll (getTile s t).arrived.length (setTile s t { getTile s t with arrived := [] }) (getTile s t).arrived

/-- Lines whose chain heads wait try again: a pooled context or a cluster's vendor tables have come free. -/
def wakeBlocked (s : State) : State := if s.coh.blocked = [] then s else let y := retryBlocked s; drive 4096 y.1 y.2

/-- A line has changed: its chain goes on, lines that wait for a way or for room in a bank try again. -/
def settle (s : State) (k : Nat) : State :=
  let x := pump 8 s k
  let y := retryBlocked x.1
  let z := retryFull y.1
  drive 4096 z.1 (x.2 ++ y.2 ++ z.2)

/-- Continue a line after an answer. -/
def resume (s : State) (k : Nat) : State :=
  let s1 := endEviction (dirStore s k) k
  let x := advance s1 k
  settle (drive 4096 x.1 x.2) k

/-! Answers. -/

/-- A line is read from a stack (R155, R156): in a set with a failed pseudo-channel it is decoded with erasures and corrected; with two it is
uncorrectable, and raises a Critical fault; else the code may have had an error to correct. (Log 212: DESIGN CHOICE.) -/
def hbmRead (s : State) (loc : Nat) : State :=
  let t := dpaTarget loc
  if 4 ≤ t then s
  else if setLost s loc then raise (largeEvent (bump s 0x4001 6 t 64 1) (76 + t) 6 1) (0x4100 + t) 2 .critical []
  else if setDegraded s loc then largeEvent (largeEvent (bump s 0x4001 4 t 64 1) (76 + t) 5 1) (76 + t) 7 1
  else if freeBits s 1 = 1 then largeEvent (bump (freeNext s) 0x4001 4 t 64 1) (76 + t) 5 1
  else freeNext s

/-- The memory read of a line is served: its bytes reach the home slice (R192). -/
def fillLine (s : State) (k : Nat) : State × List Req :=
  let l := getLine s k
  match l.cur with
  | some r =>
    if l.filling then
      let loc := locOf s (k * 64)
      let s0 := if frameServes s k then s else hbmRead s loc
      let s1 := frameRead (setLine s0 k { l with filling := false, data := readLine s loc, bad := poisoned s loc }) k
      let h := lineHome s k
      let s2 := if resting s1 h (bankOf k) then s1 else putHome s1 k (readLine s loc) (poisoned s loc) false
      perform s2 k r
    else (s, [])
  | none => (s, [])

/-- A host answers a BISnp (R187): I removes it, every other answer to a BISnpData or BISnpFwd leaves it shared. The data of a forwarded read
reaches the home (Table 9-6). (Log 86: DEDUCED.) -/
def snoopAnswer (s0 : State) (k p : Nat) (rsp : BiRsp) (d : Option (List Byte)) : State :=
  let s := match d with
    | some x => if x.length = 64 ∧ (getLine s0 k).snoops.contains (p, .fwd) = true then putHome s0 k x false true else s0
    | none => s0
  let l := getLine s k
  match l.snoops.find? fun e => e.1 == p with
  | none => s
  | some (_, x) =>
    let l1 := { l with snoops := l.snoops.filter fun e => e.1 != p }
    let l2 := match x, rsp with
      | .cur, _ => l1
      | .inv, _ => if l1.coarse then l1 else dropHolder l1 p
      | _, .i => dropHolder l1 p
      | _, _ => { l1 with hstate := if l1.hstate = 2 then 1 else l1.hstate }
    -- every answer to a coarse invalidation clears the vector
    let l3 := if l2.coarse = true ∧ x = .inv ∧ l2.snoops = [] then noHolders l2 else l2
    resume (largeEvent (setLine s k l3) (68 + lineHome s k) 4 1) k

/-- A slice answers the home (Table 9-5): after a forwarded read the owner's M becomes O and its E or F becomes S; under MESIF an
M line is written back and becomes F; for the rest the copy is gone. -/
def sliceAnswer (s : State) (t k : Nat) (d : Option (List Byte)) : State :=
  let l := getLine s k
  if l.sliceAsks.contains t = false then s
  else
    let h := lineHome s k
    let l1 := { l with sliceAsks := l.sliceAsks.filter (· != t) }
    let bytes := match d with | some x => if x.length = 64 then x else l.data | none => l.data
    let fwd := match l.cur with | some r => readKind r && !l.evicting | none => false
    let st := sliceAt l t
    let mesif := resting s h (bankOf k)
    if fwd then
      let l2 := { l1 with data := bytes }
      let s1 := largeEvent s (72 + h) 7 1
      if st = .m ∧ mesif = true then
        resume (setLine (toMemory (setLine s1 k l2) k l2) k (setSlice l2 t .f)) k
      else resume (setLine s1 k (setSlice l2 t (if st = .m then .o else if st = .e ∨ st = .f then .s else st))) k
    else
      let l2 := setSlice { l1 with data := bytes } t .i
      let s1 := setLine s k l2
      resume (if dirtySt st then putHome s1 k bytes l.bad true else s1) k

/-- A hold window ends (R202). -/
def endHold (s : State) (k : Nat) : State := settle (setLine s k { getLine s k with hold := false }) k

/-! Range back-invalidation (R190). -/

/-- A line lies in one of the key ranges. -/
def inRanges (rs : List (Nat × Nat)) (k : Nat) : Bool := rs.any fun r => decide (r.1 / 64 ≤ k ∧ k * 64 ≤ r.2)

/-- The lines of the ranges that a host (or the one port asked for) or a remote slice still holds. -/
def rbiLeft (s : State) (x : Rbi) : List Nat :=
  (s.coh.lines.filter fun e => inRanges x.ranges e.1 &&
    (match x.port with
     | some p => (holders s e.1 e.2).contains p
     | none => wayUsed (lineHome s e.1) e.2)).map (·.1)

/-- The scan calls back the copies of lines that are idle; those in a hold window or in service wait for the scan to come by again. A coarse
entry cannot tell one port's copy, and is called back whole. (Log 214: DEDUCED.) -/
def rbiScan (s : State) (x : Rbi) : State :=
  (rbiLeft s x).foldl (fun a k =>
    let l := getLine a k
    if l.hold = true ∨ l.cur.isSome = true ∨ l.evicting = true ∨ l.snoops ≠ [] then a
    else match x.port, l.coarse with
      | some p, false => resume (snoopAll a k [(p, .inv)]) k
      | _, _ => resume (startEviction a k) k) s

/-- A range back-invalidation starts: it takes the next number, and is counted at 0x6000:10. -/
def startRbi (s : State) (x : Rbi) : State :=
  let j := s.coh.nextRbi
  let s1 := { s with coh := { s.coh with rbis := put s.coh.rbis j x, nextRbi := j + 1 } }
  rbiScan (bump s1 0x6000 10 0 32 1) x

/-- The lines of a range leave every slice without writeback (t3 of Table 7-11). -/
def dropRange (s : State) (rs : List (Nat × Nat)) : State :=
  { s with coh := { s.coh with lines := s.coh.lines.filter fun e => !(inRanges rs e.1 && e.2.cur.isNone && e.2.chain.isEmpty) } }

/-! Lost hosts (R210). -/

/-- A host's outstanding snoop of a line is answered for it with BIRspI (Table 5-6); under the lost-owner policy the only owner's line is
lost with it. -/
def cutSnoop (s : State) (k p : Nat) : State :=
  snoopAnswer (if (getLine s k).hstate = 2 ∧ (getLine s k).ptrs = [p] then lostOwner s k else s) k p .i none

/-- A host's link is down: snoops to it count as answered with BIRspI, its hold windows end, and a scan will remove it. (Log 60: DEDUCED.) -/
def loseHost (s : State) (p : Nat) : State :=
  let s1 := { s with coh := { s.coh with lostHosts := if s.coh.lostHosts.contains p then s.coh.lostHosts else s.coh.lostHosts ++ [p] } }
  let waits := (s1.coh.lines.filter fun e => e.2.snoops.any fun x => x.1 == p).map (·.1)
  waits.foldl (fun a k => cutSnoop a k p) s1

/-- The directory scan for a lost host ends: no entry names it. -/
def scanLost (s : State) (p : Nat) : State :=
  let s1 := (s.coh.lines.map (·.1)).foldl (fun a k => if (getLine a k).ptrs.contains p then endHold (purgeHost a k p) k else a) s
  { s1 with coh := { s1.coh with lostHosts := s1.coh.lostHosts.filter (· != p) } }

/-! Slices and banks. -/

/-- Flush (0x6100:11): every dirty line of the tile's slice is written to memory and stays clean. -/
def flushTile (s : State) (t : Nat) : State :=
  ((s.coh.lines.filter fun e => dirtySt (sliceAt e.2 t)).map (·.1)).foldl (fun a k =>
    let l := getLine a k
    setLine (toMemory a k l) k (setSlice l t (if sliceAt l t = .m then .e else .s))) s

/-- Dirty lines of a tile's slice (0x6100:05). -/
def dirtyCount (s : State) (t : Nat) : Nat := (s.coh.lines.filter fun e => dirtySt (sliceAt e.2 t)).length

/-- A bank empties (R198): its lines leave the slice, dirty ones to their home or to memory; its directory-cache entries reach the backing; the
MESIF rule holds from then on. -/
def emptyBank (s : State) (t b : Nat) : State :=
  let s1 := (bankLines s t b).foldl (fun a k => evictSlice a t k) s
  let s2 := ((cacheKeys s1 3 t).filter fun k => bankOf k == b).foldl toBacking s1
  wr s2 0x6100 2 t (setBit (rd s2 0x6100 2 t) b true)

/-- The directory-cache keys of a bank in ways 0 to 3 of their sets, the ways in the order in which entries came. -/
def firstWays (l : List Nat) : List Nat :=
  l.filter fun k => decide (((l.takeWhile (· != k)).filter fun x => cacheSet 3 x == cacheSet 3 k).length < 4)

/-- A bank is ON again (R197, R199): MOESI returns; after RET ways 0 to 3 of its directory cache stand, but for the sets that changed while it
rested. -/
def wakeBank (s : State) (t b : Nat) (kept : Bool) : State :=
  let dropped := look [] s.coh.changed (4 * t + b)
  let s1 := wr s 0x6100 2 t (setBit (rd s 0x6100 2 t) b false)
  let s2 := if kept then bump s1 0x6200 10 t 32 dropped.length else s1
  let l := cacheKeys s2 3 t
  let stay := if kept then (firstWays (l.filter fun k => bankOf k == b)).filter fun k => !dropped.contains (cacheSet 3 k) else []
  { s2 with pool := { s2.pool with caches := put s2.pool.caches (24 + t) ((l.filter fun k => bankOf k != b) ++ stay) }, coh := { s2.coh with changed := put s2.coh.changed (4 * t + b) [] } }

/-- Lookup (0x6200:08). -/
def lookupWrite (s : State) (t : Nat) (v : List Byte) : State × Status :=
  let k := ofBe v / 64
  (wr (cmdDone s 0x6200 8 t 0) 0x6200 9 t (if lineHome s k = t then entryWord s k else 0), .ok)

end Sys2Proof.Machine
end

