-- ==== Sys2Proof/Machine/Serve.lean ====
section
/-!
DEFINITION. A host's request after its queue released it: translation, the gate, and the answers of a request that no target
serves (chapters 5, 7 and 8).
-/
namespace Sys2Proof.Machine

open Sys2Proof

/-- A write as Table 7-2 and the counters take it: data is stored. -/
def writesData (r : Req) : Bool :=
  match r.kind with
  | .wr => true
  | .atomic _ _ _ _ => true
  | _ => false

/-- A read as 0x4000:15 counts it: a lost block answers it with poison. -/
def readsData (r : Req) : Bool :=
  match r.kind with
  | .rd _ => true
  | .rdData => true
  | _ => false

/-- The gate sees a write: a write, an atomic or an ownership request (Table 8-7). -/
def gateWrite (r : Req) : Bool :=
  match r.kind with
  | .wr => true
  | .atomic _ _ _ _ => true
  | .rd .exclusive => true
  | .inv .exclusive => true
  | _ => false

/-- A translation miss (Table 7-2). (Log 67: PRESUMED.) -/
def missAnswer (s : State) (r : Req) (x : Trans) : State :=
  emptyAnswer (countMiss s r.inst (writesData r) (readsData r) (reqTile r) x) { r with sample := flagSample r.sample 32 } 2

/-- An uncorrectable error is logged in the CXL RAS capability of an instance's LD (Table 8-6); of a GFD, whose function is not a port's, at the
port of the requester. -/
def logLdRas (s : State) (i p : Nat) : State :=
  let x := getInst s i
  if x.usp < 64 then setFn s (fnKey x.usp x.ld) { getFn s (fnKey x.usp x.ld) with ras := (getFn s (fnKey x.usp x.ld)).ras + 1 } else logRas s p

/-- A refusal at the gate (Table 8-6); a refused write is logged in the CXL RAS capability of the instance's LD. -/
def refusedAnswer (s : State) (r : Req) : State :=
  let s1 := match r.kind with | .wr => logLdRas s r.inst r.agent | _ => s
  emptyAnswer s1 { r with sample := flagSample r.sample 16 } 2

/-- A near-tier read that starts with its request is used: the home slice misses, no slice owns the line, no host holds it exclusively and the
gate allows the access. -/
def specUsed (s : State) (r : Req) (allowed : Bool) : Bool :=
  let k := r.key / 64
  let h := lineHome s k
  let l := getLine s k
  allowed && r.kind != .specRd && sliceAt l h == .i && (ownerSlice h l).isNone && l.hstate != 2

/-- A request starts a near-tier read at once. -/
def specStarts (s : State) (r : Req) : Bool :=
  (needsData r || r.kind == .specRd) && !writesData r && decide (dpaTarget r.loc < 4) && bit (rd s 0x6000 6 0) 0
    && decide (freeBits s 7 % 101 < rd s 0x6000 7 0)

/-- The part of a near-tier read that starts with the request (R207): the HBM queue fill is a free value; the data is used when the home
slice misses, no slice owns the line, no host holds it exclusively and the gate allows the access. (Log 89: DESIGN CHOICE.) -/
def speculate (s : State) (r : Req) (allowed : Bool) : State :=
  let t := dpaTarget r.loc
  if (needsData r = false ∧ r.kind ≠ .specRd) ∨ writesData r = true then s
  else if t < 4 then
    if specStarts s r then
      let h := lineHome s (r.key / 64)
      let s1 := largeEvent (largeEvent (bump (freeNext s) 0x6100 6 h 64 1) (72 + h) 4 1) (76 + t) 2 1
      if specUsed s r allowed then s1 else largeEvent (bump s1 0x6100 7 h 64 1) (72 + h) 5 1
    else freeNext s
  else if bit (rd s 0x6000 6 0) 1 then
    pushEgress s (targetSched t) { cls := r.queue, low := r.low, len := 0, line := none, out := .specRd r.loc r.taddr, sample := none }
  else s

/-- A memory step's request that its queue released (R301): its first access goes to its line's home. -/
def stepStart (s : State) (r : Req) : Option State :=
  match r.kind with
  | .step c =>
    match (getCtx s c).pend with
    | some p =>
      match p.accs with
      | a :: _ => some (if r.serial = stepSerial (getCtx s c) then drive 4096 s [accReq s c a []] else s)
      | [] => some s
    | none => some s
  | _ => none

/-- A translated request that its gate allowed goes to the line's home; a sample that Littoral selected was credited at ingress. -/
def serve (s : State) (r : Req) : State :=
  let tile := reqTile r
  match stepStart s r with
  | some s' => s'
  | none =>
  let s0 := walkTranslation s tile r.inst r.off
  match translate s r.inst r.off with
  | .cutover _ key => holdAtLock s0 { r with extent := 262144, key := key }
  | .hit e key loc =>
    let t := dpaTarget loc
    let s2 := bump s0 (0x6820 + e / 65536) (if writesData r then 4 else 3) (extQ e) 64 1
    let moved := r.sample.map fun m => { m with key := key, target := t, flags := if loc = key then m.flags else m.flags ||| 4 }
    let r1 := { r with extent := e, key := key, loc := loc, taddr := taddrOf s loc, sample := moved }
    if (getTgt s2 t).away then awayAnswer s2 r1 t
    else
      let x := gate s2 key loc (.tenant r.inst) (gateWrite r) r.agent
      let r2 := { r1 with sample := stamp x.1 r1.sample 1 }
      let s3 := speculate x.1 r2 (x.2 == 0)
      if r2.kind = .specRd then
        -- a host's MemSpecRd has no response; a far-tier one goes on to the expander
        endSample (if x.2 = 0 ∧ 16 ≤ t ∧ bit (rd s3 0x6000 6 0) 1 = false then
          pushEgress s3 (targetSched t) { cls := r.queue, low := r.low, len := 0, line := none, out := .specRd loc r2.taddr, sample := none } else s3)
          r2.sample
      else if x.2 = 0 then drive 4096 s3 [if specStarts x.1 r2 = true ∧ specUsed x.1 r2 true = true then { r2 with sample := flagSample r2.sample 2 } else r2] else refusedAnswer s3 r2
  | x => missAnswer s0 r x

/-- Requests that a queue released. -/
def serveAll (s : State) (rs : List Req) : State := rs.foldl serve s

/-- The queue heads of a tile that are ready leave their queues in the order of R310, and are served. (Log 173: DEDUCED.) -/
def releaseTile (s : State) (t : Nat) : State :=
  (s.qos.queues.flatMap (·.2)).foldl (fun a _ => match releaseNext a t with | none => a | some x => serve x.1 x.2) s

end Sys2Proof.Machine
end

