-- ==== Sys2Proof/Machine/LitOps.lean ====
section
/-!
DEFINITION. Littoral's moves (chapter 10): place slots, eligibility, the phases of a move, its abandonment, the policy run and
manual moves.
-/
namespace Sys2Proof.Machine

open Sys2Proof

/-- The state at 0x6801:01: 2 stopped by mode, else the enable. -/
def litState (s : State) : Nat := if modeNow s = 1 ∨ modeNow s = 2 ∨ modeNow s = 3 then rd s 0x6800 1 0 else 2

/-! Knobs (R222). -/

/-- The extents that name a granule. -/
def granExtents (s : State) (g : Nat) : List (Nat × Extent) := s.pool.extents.filter fun e => extInUse e.2 && coversDpa e.2 (g * 65536)

/-- The knob of an extent: its own, or its instance's when it inherits. -/
def extKnob (s : State) (e : Nat) (x : Extent) : Nat :=
  let k := rd s (0x6820 + e / 65536) 1 (extQ e)
  if k = 4 then rd s 0x6810 1 x.inst else k

/-- The preference of an extent. -/
def extPref (s : State) (e : Nat) (x : Extent) : Int :=
  let v := toSigned 32 (rd s (0x6820 + e / 65536) 2 (extQ e))
  if v = 127 then toSigned 32 (rd s 0x6810 2 x.inst) else v

/-- The knob of a granule: excluded over pin far over pin near over normal among its sharers. -/
def granKnob (s : State) (g : Nat) : Nat :=
  let ks := (granExtents s g).map fun e => extKnob s e.1 e.2
  if ks.contains 3 then 3 else if ks.contains 2 then 2 else if ks.contains 1 then 1 else 0

/-- The highest preference among the sharers. -/
def granPref (s : State) (g : Nat) : Int :=
  match (granExtents s g).map fun e => extPref s e.1 e.2 with
  | [] => 0
  | v :: vs => vs.foldl max v

/-- The rank of a granule (R220). -/
def rank (s : State) (g : Nat) : Nat := (max 0 (min 4095 (((getHeat s (keyTile g) g).heat : Int) + 16 * granPref s g))).toNat

/-- Where a granule lies now, as a location granule. -/
def granLoc (s : State) (g : Nat) : Nat := locOf s (g * 65536) / 65536

/-- A granule lies in a place slot. -/
def promoted (s : State) (g : Nat) : Bool := s.pool.overlay.any fun e => e.1 == g && e.2.dest != g

/-- A target takes no part in moves: draining, lost or failed (R222). -/
def tgtBarred (s : State) (t : Nat) : Bool := tgtState s t == 4 || tgtState s t == 6 || tgtState s t == 7

/-- A granule's colour and the policy of its present region let Littoral move it (R178). -/
def mayMigrate (s : State) (g : Nat) : Bool := colourAt s (granLoc s g) != 0xFF && policyAt s (granLoc s g * 65536) != some 0

/-- A granule may move or be cached (R222). -/
def eligible (s : State) (g : Nat) : Bool :=
  let es := granExtents s g
  !es.isEmpty && es.all (fun e => e.2.st == 2) && mayMigrate s g && farGran g && !tgtBarred s (dpaTarget (g * 65536))

/-! Place slots (R216, R223). -/

/-- Slots in a block of a stack. -/
def blockSlots (s : State) (t : Nat) : Nat := blockSize s t / 65536

/-- The place blocks of a stack. -/
def placeBlocks (s : State) (t : Nat) : List Nat := ((getTgt s t).blocks.filter fun e => e.2.st == 2 && e.2.place).map (·.1)

/-- The place budget of a stack in blocks. -/
def placeLimit (s : State) (t : Nat) : Nat := bits (rd s 0x6800 12 0) (63 - 16 * t) (48 - 16 * t) * 2 ^ 30 / blockSize s t

/-- The location granules of a block. -/
def blockGrans (s : State) (t b : Nat) : List Nat := (List.range (blockSlots s t)).map fun i => blkLo s t b / 65536 + i

/-- Free slots in the place blocks of a stack. -/
def openSlots (s : State) (t : Nat) : List Nat :=
  (placeBlocks s t).flatMap fun b => (blockGrans s t b).filter fun g => !has s.lit.slots g

/-- Blocks that Littoral could still take on a stack. -/
def takeable (s : State) (t : Nat) : List Nat :=
  if (placeBlocks s t).length < placeLimit s t ∧ tgtState s t = 3 then
    (List.range (getTgt s t).cap).filter fun b => (getBlk s t b).st == 1
  else []

/-- One of a list, which one the part's choice. (Log 93: DESIGN CHOICE.) -/
def pickFree (s : State) (l : List Nat) : Option (State × Nat) := if l = [] then none else some (freeNext s, nth 0 l (Config.freeValue s.free % l.length))

/-- A free block becomes a place block (R178). (Log 93: DESIGN CHOICE.) -/
def openPlace (s : State) (t b : Nat) : State := changeBlk s t b { getBlk s t b with st := 2, sharers := 0, place := true }

/-- Whether a granule of a stack lies in a region of the policy. -/
def polIs (s : State) (pol : Option Nat) (g : Nat) : Bool := policyAt s (g * 65536) == pol

/-- A slot of one block whose region has the policy. -/
def slotIn (s : State) (t b : Nat) (pol : Option Nat) : Option (State × Nat) :=
  pickFree s ((blockGrans s t b).filter (polIs s pol))

/-- A slot on a stack whose region has the policy: in a place block, or in a free block that becomes one (R178). -/
def slotOn (s : State) (t : Nat) (pol : Option Nat) : Option (State × Nat) :=
  if tgtState s t ≠ 3 then none
  else match pickFree s ((openSlots s t).filter (polIs s pol)) with
    | some x => some x
    | none =>
      match pickFree s ((takeable s t).filter fun b => (blockGrans s t b).any (polIs s pol)) with
      | some x => slotIn (openPlace x.1 t x.2) t x.2 pol
      | none => none

/-- The slots a stack could still give. -/
def slotsLeft (s : State) (t : Nat) : Nat :=
  if tgtState s t ≠ 3 then 0
  else (openSlots s t).length + min (takeable s t).length (placeLimit s t - (placeBlocks s t).length) * blockSlots s t

/-- The policy of a granule's present region. -/
def granPolicy (s : State) (g : Nat) : Option Nat := policyAt s (granLoc s g * 65536)

/-- The stack that a promotion of a granule takes (R223): the one asked, the key tile's, or the one with the most free slots. -/
def slotStack (s : State) (g asked : Nat) : Option Nat :=
  let ok (t : Nat) : Bool := (slotOn s t (granPolicy s g)).isSome
  if asked < 4 then (if ok asked then some asked else none)
  else if ok (keyTile g) then some (keyTile g)
  else (((List.range 4).filter ok).mergeSort fun a b => decide (slotsLeft s b ≤ slotsLeft s a)).head?

/-- The set of the remap overlay that a granule's entry lies in has a way for it (R140): entries, and ways that moves have claimed (R224). -/
def overlayRoom (s : State) (g : Nat) : Bool :=
  let claimed := (s.lit.moves.filter fun e => e.1 != g && e.2.first && decide (e.2.phase < 5) && overlaySet e.1 == overlaySet g).length
  (s.pool.overlay.any fun e => e.1 == g) || (s.lit.moves.any fun e => e.1 == g && e.2.first) || decide ((overlayMates s g).length + claimed < 4)

/-! Moves. -/

/-- The tile that runs a move: it homes the source. -/
def moveTile (m : Move) : Nat := tgtHome (dpaTarget (m.source * 65536))

/-- Moves of a tile that are not settling. -/
def movesOf (s : State) (t : Nat) : Nat := (s.lit.moves.filter fun e => moveTile e.2 == t).length

/-- The lines of a granule that phase 2 removes: a host with HSTATE 2, or a remote slice with M, O or E. -/
def recallLines (s : State) (g : Nat) : List Nat :=
  (s.coh.lines.filter fun e => e.1 / 1024 == g &&
    (e.2.hstate == 2 || (remotes (lineHome s e.1) e.2).any fun t => sliceAt e.2 t == .m || sliceAt e.2 t == .o || sliceAt e.2 t == .e)).map (·.1)

/-- Phase 2: single lines are called back while their number is at most 0x6800:13, else a range back-invalidation runs. -/
def callBack (s : State) (g : Nat) : State :=
  let ls := recallLines s g
  if ls.length ≤ rd s 0x6800 13 0 then
    ls.foldl (fun a k => if idleLine (getLine a k) then resume (startEviction a k) k else a) s
  else startRbi s { ranges := [(g * 65536, g * 65536 + 65535)], port := none, why := .move g }

/-- The bytes and poison of a line as a privileged copy reads them. -/
def copyRead (s : State) (k : Nat) : List Byte × Bool :=
  let l := getLine s k
  if sliceAt l (lineHome s k) ≠ .i then (l.data, l.bad) else (readLine s (locOf s (k * 64)), poisoned s (locOf s (k * 64)))

/-- Lines of Headland firmware and of system contexts that a target serves count in the system class of its scheduler (R149, R311). -/
def systemTraffic (s : State) (t lines : Nat) : State :=
  let q := targetSched t
  let c := rd s 0x7200 4 q
  wrTbl s 0x7200 5 q c ((rdTbl s 0x7200 5 q c 0 + lines * (overLen 64 (toSigned 32 (rd s 0x7200 2 q)) 1)) % 2 ^ 64)

/-- Lines of a granule are copied to the destination, and count against the budget (R228); those not in the home slice are read from the
source. -/
def copyLines (s : State) (g : Nat) (m : Move) (ls : List Nat) : State :=
  let s1 := ls.foldl (fun a i =>
    let k := g * 1024 + i
    let x := copyRead a k
    let a1 := if sliceAt (getLine a k) (lineHome a k) ≠ .i then a else hbmRead a (locOf a (k * 64))
    writeLine a1 (m.dest * 65536 + i * 64) x.1 x.2) s
  let s2 := systemTraffic (systemTraffic s1 (dpaTarget (m.source * 65536)) ls.length) (dpaTarget (m.dest * 65536)) ls.length
  spend (largeEvent s2 (80 + moveTile m) 5 ls.length) (tgtHome (dpaTarget (m.source * 65536))) (tgtHome (dpaTarget (m.dest * 65536))) (64 * ls.length)

/-- The lines that a move's mask marks. -/
def marked (m : Move) : List Nat := (List.range 1024).filter fun i => m.mask.testBit i

/-- Requests held for a granule outside a move are taken (R138). -/
def takeLocked (s : State) (g : Nat) : State × List Req := ({ s with lit := { s.lit with locked := del s.lit.locked g } }, look [] s.lit.locked g)

/-- Requests held by a move go on: those held at their ingress are translated with the present entry, the others reach the home of
the granule's location. -/
def freeHeld (s : State) (rs : List Req) : State :=
  rs.foldl (fun a r => if untranslated r then serve a r else drive 4096 a [{ r with loc := locOf a r.key }]) s

/-- A manual granule is done (R231): the action ends when none is left. (Log 97: DEDUCED.) -/
def manualDone (s : State) (ok : Bool) (reason : Nat) : State :=
  let s1 := { s with lit := { s.lit with left := s.lit.left - 1, lastReason := if ok then s.lit.lastReason else reason } }
  let s2 := if ok then bump s1 0x6830 2 0 32 1 else s1
  if s2.lit.left = 0 ∧ cmdRunning s2 0x6830 1 0 = true then
    (if s2.lit.lastReason = 0 then cmdEnd s2 0x6830 1 0 2 0 else cmdEnd s2 0x6830 1 0 3 s2.lit.lastReason)
  else s2

/-- A move is abandoned (Table 10-5): the source is authoritative, and only what it reserved is freed. -/
def abandonMove (s : State) (g reason : Nat) : State :=
  match moveAt s g with
  | none => s
  | some m =>
    if m.phase = 6 then s
    else
      let t := moveTile m
      let s0 := { s with lit := { s.lit with moves := del s.lit.moves g } }
      let s1 := if m.phase = 5 then (if m.first then delRemap s0 g else setRemap s0 g { cutover := false, dest := m.source }) else s0
      let s2 := if m.back then s1 else { s1 with lit := { s1.lit with slots := del s1.lit.slots m.dest } }
      let s3 := markPlace s2 g (if m.back then 2 else if has s2.lit.frames g then 1 else 0)
      let s4 := litBump s3 t 3 1
      let s5 := wrTbl s4 0x6801 3 0 (reason - 0x91) ((rdTbl s4 0x6801 3 0 (reason - 0x91) 0 + 1) % 2 ^ 32)
      let inst := match granExtents s5 g with | e :: _ => e.2.inst | [] => 0xFFFF
      let s6 := wrBlob s5 0x6801 4 0 (be 8 (g * 65536) ++ be 1 reason ++ zeros 3 ++ be 8 (timeNow s5) ++ be 2 inst ++ zeros 2)
      let y := takeLocked s6 g
      let s7 := freeHeld y.1 (m.held ++ y.2)
      if m.manual then manualDone s7 false reason else s7

/-- A move starts (R224, phases 1 and 2): its destination is claimed. -/
def beginMove (s : State) (g dest : Nat) (back manual : Bool) : State :=
  let src := granLoc s g
  let first := !(s.pool.overlay.any fun e => e.1 == g)
  let s1 := if back then s else { s with lit := { s.lit with slots := put s.lit.slots dest g } }
  let s2 := markPlace s1 g 3
  callBack (setMove s2 g { phase := 2, source := src, dest := dest, back := back, manual := manual, first := first, mask := 0, rounds := 0
                           attempts := 0, held := [], lockAt := 0, waits := [] }) g

/-- A promotion (R223): a slot and an overlay way, or a skip or set conflict counted. -/
def promote (s : State) (w : WaitMove) : State :=
  let t := keyTile w.g
  if overlayRoom s w.g = false then (if w.manual then manualDone (litBump s t 5 1) false 0x9B else litBump s t 5 1)
  else match slotStack s w.g w.stack with
    | none => if w.manual then manualDone (litBump s t 13 1) false 0x9B else litBump s t 13 1
    | some h =>
      match slotOn s h (granPolicy s w.g) with
      | some x => beginMove x.1 w.g x.2 false w.manual
      | none => if w.manual then manualDone (litBump s t 13 1) false 0x9B else litBump s t 13 1

/-- A promoted granule may return (R178, R222): its extents are active, its own place is as good a destination as any slot, and neither target
is barred, but for a stack that drains. -/
def mayReturn (s : State) (g : Nat) : Bool :=
  let src := tgtState s (dpaTarget (granLoc s g * 65536))
  !(granExtents s g).isEmpty && (granExtents s g).all (fun e => e.2.st == 2) && mayMigrate s g && policyAt s (g * 65536) == granPolicy s g
    && !tgtBarred s (dpaTarget (g * 65536)) && src != 6 && src != 7

/-- Room for a frame in the set of a granule: in a full set the frame of lowest rank gives way to one of higher rank. (Log 91: DESIGN CHOICE.) -/
def frameMade (s : State) (g : Nat) (always : Bool) : Option State :=
  let set := (tileFrames s (keyTile g)).filter fun x => frameSet s x == frameSet s g
  let low := (set.mergeSort fun a b => decide (rank s a ≤ rank s b)).head?
  if set.length < 16 then some s
  else match low with
    | some v => if always = true ∨ rank s v < rank s g then some (markPlace (releaseFrame s v) v 0) else none
    | none => none

/-- Admission of a granule to a frame (R222, step 4): in a full set the frame of lowest rank gives way to one of higher rank. (Log 91: DESIGN CHOICE.) -/
def admitFrame (s : State) (g : Nat) (always : Bool) : State :=
  let t := keyTile g
  if has s.lit.frames g = true ∨ frameRoom s t = 0 ∨ tgtState s (dpaTarget (g * 65536)) ≠ 3 then s
  else
    match frameMade s g always with
    | none => s
    | some s2 =>
      let used := (tileFrames s2 t).map fun x => (getFrame s2 x).frame
      let n := (((List.range (frameRoom s2 t)).map (· + frameBase s2 t)).find? fun i => !used.contains i).getD 0
      markPlace (setFrame s2 g { frameInit with frame := n, lastEpoch := litCount s2 t 0 % 65536 }) g 1

/-- The heat that a manual move gives its granule (R231), once the move has started. -/
def manualHeat (s : State) (w : WaitMove) (v : Nat) : State := if w.manual = true ∧ (moveAt s w.g).isSome = true then forceHeat s w.g v else s

/-- One waiting change starts. A manual one cancels a move of another kind that has not reached its lock (Table 10-5, REASON 0x99). (Log 97: DEDUCED.) -/
def startWait (s0 : State) (w : WaitMove) : State :=
  let s := if w.manual then abandonMove s0 w.g 0x99 else s0
  if (moveAt s w.g).isSome then s
  else match w.action with
    | 0 =>
      if eligible s w.g = true ∧ promoted s w.g = false then manualHeat (promote s w) w 4095
      else if w.manual then manualDone s (promoted s w.g) 0x9B else s
    | 1 =>
      if promoted s w.g = true ∧ mayReturn s w.g = true then manualHeat (beginMove s w.g w.g true w.manual) w 0
      else if w.manual then manualDone s (!promoted s w.g) 0x9B else s
    | 2 =>
      let s1 := if has s.lit.frames w.g then markPlace (releaseFrame s w.g) w.g 0 else s
      if w.manual then manualDone (forceHeat s1 w.g 0) true 0 else s1
    | _ =>
      let s1 := if eligible s w.g = true ∧ promoted s w.g = false then admitFrame s w.g w.manual else s
      if w.manual then manualDone (forceHeat s1 w.g 4095) (has s1.lit.frames w.g) 0x9B else s1

/-- A manual change waits for a move of its granule that does what it asks for, or that is past its lock; an admission by the policy for the
granule's return. -/
def waitsMove (s : State) (w : WaitMove) : Bool :=
  match moveAt s w.g with
  | some m => !w.manual || decide (5 ≤ m.phase) || (w.action == 0 && !m.back) || (w.action == 1 && m.back)
  | none => w.action == 3 && !w.manual && promoted s w.g

/-- A waiting change may start: its tile runs fewer than 64 moves and has budget (R228). Frames are released and admitted at once. -/
def mayStart (s : State) (w : WaitMove) : Bool :=
  if waitsMove s w then false
  else if w.action = 2 ∨ w.action = 3 then true
  else
    let t := tgtHome (dpaTarget (granLoc s w.g * 65536))
    decide (movesOf s t < 64) && hasBudget s t

/-- Waiting changes start, manual ones ahead of the policy's. (Log 95: DEDUCED.) -/
def pumpMoves : Nat → State → State
  | 0, s => s
  | n + 1, s =>
    match s.lit.queue.find? fun w => mayStart s w with
    | some w => pumpMoves n (startWait { s with lit := { s.lit with queue := s.lit.queue.erase w } } w)
    | none => s

/-- Start what can start. -/
def runMoves (s : State) : State := pumpMoves (s.lit.queue.length + 1) s

/-- The lock (R225): with a holder present the attempt is counted and the move recalls again, or is abandoned; else CUTOVER is set. -/
def lockMove (s : State) (g : Nat) (m : Move) : State :=
  if recallLines s g ≠ [] then
    let m1 := { m with phase := 2, attempts := m.attempts + 1 }
    if rd s 0x6800 14 0 ≤ m.attempts + 1 then abandonMove (setMove s g m1) g 0x96
    else callBack (setMove s g m1) g
  else
    setRemap (setMove s g { m with phase := 5, lockAt := s.clock.core }) g { cutover := true, dest := m.source }

/-- A copy's reads pass the gate of the source, its writes that of the destination, as those of a system context of the moving tile (R161,
R163); a move starts no copy that either refuses. (Log 216: DEDUCED.) -/
def copyGate (s : State) (g : Nat) (m : Move) : State × Bool :=
  let src := 2 ^ 28 + 256 * moveTile m * 128 + 64
  let x := gate s (g * 65536) (m.source * 65536) .system false src
  if x.2 = 0 then
    (let y := gate x.1 (g * 65536) (m.dest * 65536) .system true src
     (y.1, y.2 == 0))
  else (x.1, false)

/-- One pass over lines of a granule, when the gates let it; else the move is abandoned. (Log 216: DEDUCED.) -/
def copyPass (s : State) (g : Nat) (m : Move) (ls : List Nat) : State :=
  let x := copyGate s g m
  if x.2 then copyLines x.1 g m ls else runMoves (abandonMove x.1 g 0x91)

/-- The recall is complete (phase 2): copying starts with the tracker's mask clear, or lines that are still held are recalled again. -/
def recallDone (s : State) (g : Nat) : State :=
  match moveAt s g with
  | some m =>
    if m.phase ≠ 2 then s
    else if recallLines s g ≠ [] then callBack s g
    else
      let m1 := { m with phase := 3, mask := 0 }
      copyPass (setMove s g m1) g m1 (List.range 1024)
  | none => s

/-- A copy or a round of re-copy is complete (phases 3 and 4). (Log 94: DEDUCED.) -/
def copyDone (s : State) (g : Nat) : State :=
  match moveAt s g with
  | some m =>
    let again (a : State) : State :=
      let m1 := { m with phase := 4, mask := 0, rounds := m.rounds + 1 }
      copyPass (setMove a g m1) g m1 (marked m)
    if m.phase = 3 then again s
    else if m.phase = 4 then
      (if (marked m).length ≤ rd s 0x6800 10 0 then lockMove s g m
       else if rd s 0x6800 9 0 ≤ m.rounds then runMoves (abandonMove s g 0x97)
       else again s)
    else s
  | none => s

/-- The lines of a granule are handed to the new home (R209): the home slice's copies move, the entries stay. -/
def handOver (s : State) (g old new : Nat) : State :=
  if old = new then s
  else (s.coh.lines.filter fun e => e.1 / 1024 == g).foldl (fun a e =>
    let x := sliceAt e.2 old
    setLine a e.1 (setSlice (setSlice e.2 old .i) new (if x = .i then sliceAt e.2 new else x))) s

/-- Cut-over (t1 to t4 of Table 10-3). -/
def cutOver (s : State) (g : Nat) : State :=
  match moveAt s g with
  | some m =>
    if m.phase ≠ 5 then s
    else
      let t := moveTile m
      let y := copyGate s g m
      if y.2 = false then runMoves (abandonMove y.1 g 0x98) else
      let s1 := copyLines y.1 g m (marked m)
      let s2 := setColour (setColour s1 m.dest (colourAt s1 m.source)) m.source 0
      let s3 := handOver s2 g t (tgtHome (dpaTarget (m.dest * 65536)))
      let s5 := if m.back then delRemap s3 g else setRemap s3 g { cutover := false, dest := m.dest }
      let ns := (s5.clock.core - m.lockAt) * 2 / 3
      let s6 := if m.held.any (fun r => r.be != 0) ∧ litCount s5 t 11 < ns then
          { s5 with lit := { s5.lit with counts := put s5.lit.counts (16 * t + 11) (ns % 2 ^ 32) } } else s5
      let s7 := litBump (if m.held.any (fun r => r.be != 0) then largeEvent s6 (80 + t) 9 (s5.clock.core - m.lockAt) else s6) t (if m.back then 2 else 1) 1
      let atHome := m.held.filter fun r => !untranslated r
      let s8 := setMove s7 g { m with phase := 6, mask := 0, held := m.held.filter untranslated, waits := [0, 1, 2, 3] }
      let z := takeLocked s8 g
      freeHeld z.1 (atHome ++ z.2)
  | none => s

/-- The lock guard expires (R227). -/
def guardExpires (s : State) (g : Nat) : State :=
  match moveAt s g with
  | some m =>
    if m.phase ≠ 5 then s
    else
      let t := moveTile m
      runMoves (raise (litBump (abandonMove s g 0x98) t 12 1) (litSource t) 14 .notice [])
  | none => s

/-- A tile receives the release message (R226): it frees its held requests, and has acknowledged. -/
def releaseMessage (s : State) (t g : Nat) : State :=
  match moveAt s g with
  | some m =>
    if m.phase ≠ 6 then s
    else
      let mine := m.held.filter fun r => reqTile r == t
      freeHeld (setMove s g { m with held := m.held.filter (fun r => reqTile r != t), waits := m.waits.filter (· != t) }) mine
  | none => s

/-- A move settles (R226): the source slot, or the frame of a promoted granule, is freed once every tile has acknowledged. -/
def settleMove (s : State) (g : Nat) : State :=
  match moveAt s g with
  | some m =>
    if m.phase ≠ 6 ∨ m.waits ≠ [] then s
    else
      let s1 := { s with lit := { s.lit with moves := del s.lit.moves g, slots := del s.lit.slots m.source } }
      let s2 := if m.back then markPlace s1 g 0 else markPlace (dropFrame s1 g) g 2
      let s3 := if dpaTarget (m.source * 65536) < 4 then drainDone s2 (dpaTarget (m.source * 65536)) else s2
      runMoves (if m.manual then manualDone s3 true 0 else s3)
  | none => s

/-! The policy run (R221, R222). -/

/-- The entries of a tile's heat table in falling rank. -/
def ranked (s : State) (t : Nat) : List Nat :=
  (((s.lit.heat.filter fun e => e.1 / 2 ^ 36 == t).map fun e => (rank s (e.1 % 2 ^ 36), e.1 % 2 ^ 36)).mergeSort fun a b =>
    decide (b.1 ≤ a.1)).map (·.2)

/-- Place blocks beyond a lowered budget, in slots. -/
def slotsOver (s : State) (t : Nat) : Nat := ((placeBlocks s t).length - placeLimit s t) * blockSlots s t

/-- Promoted granules that a lowered budget returns: the coldest on each stack, pin near last. -/
def overBudget (s : State) (l : List Nat) : List Nat :=
  (List.range 4).flatMap fun h =>
    let here := l.reverse.filter fun g => promoted s g && dpaTarget (granLoc s g * 65536) == h
    ((here.filter fun g => granKnob s g != 1) ++ (here.filter fun g => granKnob s g == 1)).take (slotsOver s h)

/-- Step 1: promoted granules that return. -/
def returns (s : State) (l : List Nat) : List Nat :=
  let extra := overBudget s l
  l.filter fun g => promoted s g &&
    (granKnob s g == 2 || granKnob s g == 3
      || (granKnob s g == 0 && decide (rank s g + rd s 0x6800 7 0 < rd s 0x6800 5 0))
      || tgtState s (dpaTarget (granLoc s g * 65536)) == 4 || extra.contains g)

/-- Step 2: granules that are promoted, pin near first. -/
def promotions (s : State) (l : List Nat) : List Nat :=
  let far := l.filter fun g => !promoted s g && (moveAt s g).isNone && eligible s g
  (far.filter fun g => granKnob s g == 1) ++ (far.filter fun g => granKnob s g == 0 && decide (rd s 0x6800 5 0 ≤ rank s g))

/-- Step 2 without a free slot: the promoted granule of lowest rank that gives way. (Log 92: DEDUCED.) -/
def displaced (s : State) (l back : List Nat) (g : Nat) : Option Nat :=
  l.reverse.find? fun x => promoted s x && (moveAt s x).isNone && granKnob s x != 1 && !back.contains x
    && decide (rank s x + rd s 0x6800 7 0 < rank s g)

/-- Step 3: frames that are released. -/
def releases (s : State) (t : Nat) : List Nat :=
  (tileFrames s t).filter fun g => granKnob s g == 3 || decide (rank s g < rd s 0x6800 6 0 / 2)
    || tgtState s (dpaTarget (g * 65536)) == 4

/-- Step 4: granules that are admitted to frames, those that return in the same run among them. (Log 92: DEDUCED.) -/
def admissions (s : State) (l : List Nat) : List Nat :=
  l.filter fun g => (!promoted s g || (returns s l).contains g) && !has s.lit.frames g && eligible s g && (granKnob s g == 0 || granKnob s g == 2)
    && rd s 0x6800 6 0 != 0 && decide (rd s 0x6800 6 0 ≤ rank s g)

/-- The granules of a list for which a slot is free on a permitted stack, each taken in turn, and the others (R222, R223). -/
def splitSlots (s : State) (l : List Nat) : List Nat × List Nat :=
  let x := l.foldl (fun (a : State × List Nat × List Nat) g =>
    let slot := (slotStack a.1 g 255).bind fun h => slotOn a.1 h (granPolicy a.1 g)
    match slot with
    | some y => ({ y.1 with lit := { y.1.lit with slots := put y.1.lit.slots y.2 g } }, a.2.1 ++ [g], a.2.2)
    | none => (a.1, a.2.1, a.2.2 ++ [g])) (s, [], [])
  x.2

/-- The decisions of a run as waiting changes; a promotion without a slot makes a colder granule return instead. (Log 95: DEDUCED.) -/
def policyQueue (s : State) (t : Nat) : List WaitMove :=
  let l := ranked s t
  let back := returns s l
  let pro := promotions s l
  let split := splitSlots s pro
  let go := split.1
  let give := split.2.foldl (fun a g => match displaced s l (back ++ a) g with | some x => a ++ [x] | none => a) []
  let w (a g : Nat) : WaitMove := { g := g, action := a, stack := 255, tile := t, manual := false }
  back.map (w 1) ++ go.map (w 0) ++ give.map (w 1) ++ (releases s t).map (w 2) ++ ((admissions s l).filter fun g => !go.contains g).map (w 3)

/-- Place blocks without a granule are returned to the pool and scrub (R216); so are those that a returned target kept lost for the granules
that lay in them. -/
def returnPlaces (s : State) (t : Nat) : State :=
  (((getTgt s t).blocks.filter fun e => e.2.place && (e.2.st == 2 || (e.2.st == 4 && (getTgt s t).base != 4))
      && (blockGrans s t e.1).all fun g => !has s.lit.slots g).map (·.1)).foldl (fun a b =>
    changeBlk a t b { getBlk a t b with st := 3, place := false, sharers := 0 }) s

/-- Frames beyond the room that is left, when near-tier capacity has grown (R217): the lowest-numbered end is given up. -/
def trimFrames (s : State) (t : Nat) : State :=
  ((tileFrames s t).filter fun g => decide ((getFrame s g).frame < frameBase s t)).foldl (fun a g => markPlace (releaseFrame a g) g 0) s

/-- The end of an epoch on a tile: heat decays, the budget starts anew, and the policy run queues its decisions. -/
def epochEnd (s : State) (t : Nat) : State :=
  let s1 := returnPlaces (decayHeat (litBump s t 0 1) t) t
  let s2 := { s1 with lit := { s1.lit with spent := put s1.lit.spent t 0, queue := s1.lit.queue.filter fun w => w.manual || w.tile != t } }
  let s3 := if litState s2 = 1 ∧ hasHeat s2 t = true then
      { s2 with lit := { s2.lit with queue := s2.lit.queue ++ policyQueue s2 t } } else s2
  if litState s3 = 2 then s3 else runMoves s3

/-! Manual moves (R231). -/

/-- The key granules of an instance's range, where each offset has an extent. -/
def rangeGrans (s : State) (i off n : Nat) : List (Option Nat) :=
  (List.range n).map fun j =>
    (s.pool.extents.find? fun e => e.2.st == 2 && e.2.inst == i && covers e.2 (off + j * 65536)).map fun e =>
      (extDpa e.2 + (off + j * 65536 - e.2.offset)) / 65536

/-- Move (0x6830:01): its form is checked, then the granules and knobs, and the moves are queued. -/
def moveWrite (s : State) (v : List Byte) : State × Status :=
  let i := fieldBe v 0 2
  let act := fieldBe v 2 1
  let st := fieldBe v 3 1
  let off := fieldBe v 4 8
  let n := fieldBe v 12 4
  if v.length ≠ 24 then (s, .type)
  else if 3 < act ∨ n = 0 ∨ off % 65536 ≠ 0 ∨ (act = 0 ∧ 3 < st ∧ st ≠ 255) then (s, .range)
  else if i < 4096 ∧ instBytes s i (fun _ => true) < n * 65536 then (cmdDone s 0x6830 1 0 0x9A, .ok)
  else
    let gs := rangeGrans s i off n
    let keys := gs.filterMap id
    if keys.length ≠ n ∨ keys.any (fun g => !farGran g) then (cmdDone s 0x6830 1 0 0x9A, .ok)
    else if keys.any (fun g => ((act == 0 || act == 3) && granKnob s g == 3) || (act == 0 && granKnob s g == 2)) then
      (cmdDone s 0x6830 1 0 0x9B, .ok)
    else
      let s1 := wr (cmdStart s 0x6830 1 0) 0x6830 2 0 0
      let w (g : Nat) : WaitMove := { g := g, action := act, stack := st, tile := keyTile g, manual := true }
      let old := s1.lit.queue
      let s2 := { s1 with lit := { s1.lit with queue := old.filter (·.manual) ++ keys.map w ++ old.filter (fun x => !x.manual)
                                               left := n, lastReason := 0 } }
      (if litState s2 = 2 then s2 else runMoves s2, .ok)

/-! Events that end moves. -/

/-- Moves of granules that a test names are abandoned before their lock. -/
def abandonWhere (s : State) (reason : Nat) (p : Nat → Move → Bool) : State :=
  ((s.lit.moves.filter fun e => decide (e.2.phase < 6) && p e.1 e.2).map (·.1)).foldl (fun a g => abandonMove a g reason) s

/-- A target is lost (Table 10-5): moves whose source or destination lay on it. -/
def movesLost (s : State) (t : Nat) : State :=
  abandonWhere (abandonWhere s 0x93 fun _ m => dpaTarget (m.source * 65536) == t) 0x94 fun _ m => dpaTarget (m.dest * 65536) == t

/-- Entry to SERVICE (R232): moves in phases 1 to 4 are abandoned; those past the lock complete. -/
def movesService (s : State) : State := abandonWhere s 0x95 fun _ m => decide (m.phase < 5)

/-- A granule is recoloured 0xFF, or its region is closed, before t4 (R232). -/
def movesClosed (s : State) (p : Nat → Bool) : State := abandonWhere s 0x91 fun g _ => p g

/-- A region chunk (0x4200:01): moves of granules that it leaves in a closed region, or bound for one, are abandoned. -/
def regionsCommand (s : State) (g start : Nat) (recs : List Nat) : State × Status :=
  let x := regionsWrite s g start recs
  (if x.2 = .ok then abandonWhere x.1 0x91 fun _ m => policyAt x.1 (m.source * 65536) == some 0 || policyAt x.1 (m.dest * 65536) == some 0 else x.1, x.2)

/-- A knob is changed to excluded (R232). -/
def movesExcluded (s : State) : State := abandonWhere s 0x99 fun g m => granKnob s g == 3 && decide (m.phase < 5)

/-! The objects' computed values. -/

/-- A record of 0x6801:02. -/
def litRecord (s : State) (t : Nat) : List Byte :=
  be 4 (litCount s t 0) ++ be 4 (litCount s t 1) ++ be 4 (litCount s t 2) ++ be 4 (litCount s t 3) ++ be 2 (movesOf s t) ++ be 2 (litCount s t 5)
    ++ be 4 (placeBlocks s t).length ++ be 4 (tileFrames s t).length ++ be 8 (litCount s t 8) ++ be 8 (litCount s t 9)
    ++ be 8 (litCount s t 10) ++ be 4 (litCount s t 11) ++ be 4 (litCount s t 12) ++ be 4 (litCount s t 13)

/-- Bytes of an instance's extents that lie in place slots (0x6810:03), and in valid sectors of frames (0x6810:04). -/
def promotedBytes (s : State) (i : Nat) : Nat :=
  65536 * (s.pool.overlay.filter fun e => e.2.dest != e.1 && (granExtents s e.1).any fun x => x.2.inst == i).length

def cachedBytes (s : State) (i : Nat) : Nat :=
  s.lit.frames.foldl (fun a e => if (granExtents s e.1).any (fun x => x.2.inst == i) then a + 1024 * popBelow 64 e.2.svalid else a) 0

/-- Granules of an extent with a frame (0x6820:06). -/
def cachedGranules (s : State) (x : Extent) : Nat := (s.lit.frames.filter fun e => coversDpa x (e.1 * 65536)).length

end Sys2Proof.Machine
end

