-- ==== Sys2Proof/Machine/CutOps.lean ====
section
/-!
DEFINITION. Requests under way on memory that receive the synthetic completions of Table 5-6 (R93, R148, R153, R435).
-/
namespace Sys2Proof.Machine

open Sys2Proof

/-- The requests of a line that a test names: in service and in its chain. -/
def lineReqs (l : Line) (p : Req → Bool) : List Req := (l.cur.toList ++ l.chain).filter p

/-- A line without them; the memory read of one in service is no longer waited for. -/
def withoutReqs (l : Line) (p : Req → Bool) : Line :=
  match l.cur with
  | some r => if p r then { l with cur := none, filling := false, chain := l.chain.filter fun x => !p x } else { l with chain := l.chain.filter fun x => !p x }
  | none => { l with chain := l.chain.filter fun x => !p x }

/-- Memory reads at the schedulers, and on their way there, that no line waits for any more are taken out. -/
def dropFills (s0 : State) : State :=
  let s := (takeCells s0 fun c => match c.job with
    | .leaving m k => (match m.out with | .fill _ => !(getLine s0 k).filling | _ => false)
    | _ => false).1
  { s with egress := mapVals s.egress fun _ l => l.filter fun m => match m.out with
      | .fill k => (getLine s k).filling
      | _ => true }

/-- Every request under way on memory that a test names is answered and forgotten; their lines go on. -/
def cutRequests (s : State) (p : Req → Bool) : State :=
  let ks := (s.coh.lines.filter fun e => !(lineReqs e.2 p).isEmpty).map (·.1)
  let held := (s.lit.moves.flatMap fun e => e.2.held.filter p) ++ s.lit.locked.flatMap fun e => e.2.filter p
  let full := s.coh.full.flatMap fun e => e.2.filter p
  let jobs := takeJobs s p
  let cut := (ks.flatMap fun k => lineReqs (getLine s k) p) ++ held ++ full ++ jobs.2
  let s1 := ks.foldl (fun a k => setLine a k (withoutReqs (getLine a k) p)) jobs.1
  let s2 := { s1 with coh := { s1.coh with full := mapVals s1.coh.full fun _ l => l.filter fun r => !p r }
                      lit := { s1.lit with moves := mapVals s1.lit.moves fun _ m => { m with held := m.held.filter fun r => !p r }
                                           locked := mapVals s1.lit.locked fun _ l => l.filter fun r => !p r } }
  ks.foldl settle (cut.foldl cutAnswer (dropFills s2))

/-- A request stands on a target. -/
def onTarget (t : Nat) (r : Req) : Bool := !untranslated r && dpaTarget r.loc == t

/-- A target is lost with what was in flight to it and with the moves to and from it (R153, Tables 7-15 and 10-5). -/
def targetLost (s : State) (t : Nat) : State :=
  if tgtState s t = 3 ∨ tgtState s t = 4 then cutRequests (movesLost (loseTarget s t) t) (onTarget t) else s

/-- The memory read of a line whose target's link is down: its request is answered (R435). (Log 96: DEDUCED.) -/
def fillAway (s : State) (k : Nat) : State :=
  let l := getLine s k
  match l.cur with
  | some r => settle (cutAnswer (setLine s k { l with cur := none, filling := false }) r) k
  | none => s

end Sys2Proof.Machine
end

