-- ==== Sys2Proof/Machine/PpbOps.lean ====
section
/-!
DEFINITION. The configuration space of a port's bridge: the structures that the support matrix presents or leaves out (Tables 5-1 to
5-3, 4-5, R84, R87, R97). Their numbers and fields are those of the PCI Express base specification; their places are the part's.
-/
namespace Sys2Proof.Machine

open Sys2Proof

/-- The structures that the support matrix decides: by extended capability ID; 0x10010 the PCI Express capability, 0x10051 and 0x10052
the two Melewell DVSECs. (Log 196: PRESUMED.) -/
def ppbAll : List Nat :=
  [0x10010, 0x10051, 0x10052, 0x01, 0x0D, 0x0F, 0x10, 0x13, 0x1B, 0x1D, 0x1E, 0x1F, 0x27, 0x2E, 0x30]

/-- The structures of a port in its role (Table 5-1): AER, margining and IDE everywhere, ACS and DPC on a DSP, DOE where the TLS6400 can
be asked. (Log 196: PRESUMED.) -/
def ppbCaps (s : State) (p : Nat) : List Nat :=
  match actingRole s p with
  | 0 => []
  | 2 => [0x10010, 0x10051, 0x10052, 0x01, 0x0D, 0x1D, 0x27, 0x30]
  | _ => [0x10010, 0x10051, 0x10052, 0x01, 0x27, 0x2E, 0x30]

/-- Dwords that a structure takes here. (Log 196: PRESUMED.) -/
def capDwords (c : Nat) : Nat := if c = 0x10010 then 15 else if c = 0x10051 ∨ c = 0x10052 then 4 else if c = 0x0D then 2 else 1

/-- The structure that a dword of a configuration space belongs to, and its place in it. -/
def capAt (d : Nat) : Option (Nat × Nat) :=
  ppbAll.findSome? fun c =>
    let b := Config.ppbPlace c % 1024
    if b ≤ d ∧ d < b + capDwords c then some (c, d - b) else none

/-- A dword with some bits replaced. -/
def bitsInto (v hi lo x : Nat) : Nat := v - bits v hi lo * 2 ^ lo + x % 2 ^ (hi + 1 - lo) * 2 ^ lo

/-- The control register of ACS on a DSP (PCI Express): bit 2 P2P request redirect, bit 3 completion redirect, bit 4 upstream
forwarding. -/
def acsControl (s : State) (p : Nat) : Nat :=
  if actingRole s p = 2 then bits (look 0 s.ppb (1024 * p + Config.ppbPlace 0x0D % 1024 + 1)) 20 16 else 0

/-- What a dword of a presented structure reads as, from its bits that the spec leaves open. (Log 196: PRESUMED.) -/
def capRead (s : State) (p c i raw : Nat) : Nat :=
  let q := getPort s p
  if c = 0x10051 ∨ c = 0x10052 then
    (if i = 0 then bitsInto raw 15 0 0x0023
     else if i = 1 then bitsInto raw 15 0 Config.pciVendor
     else if i = 2 then c % 65536 + 65536 * (if c = 0x10051 then 15 else 1 + 256 * rd s 0x6000 5 0)
     else if c = 0x10051 then b2n q.spareEn
     else b2n q.llReinitEn + 256 * q.iscSelect)
  else if c = 0x10010 then
    (if i = 0 then bitsInto raw 7 0 0x10
     else if i = 1 then bitsInto raw 2 0 2
     else if i = 3 then bitsInto (bitsInto raw 11 10 (2 * rd s 0x2000 5 p)) 20 20 (b2n (actingRole s p == 2))
     else if i = 5 ∧ actingRole s p = 2 then bitsInto (bitsInto raw 6 0 (0x60 + 2 * b2n (rd s 0x2000 7 p != 0xFF))) 17 17 0
     else if i = 6 ∧ actingRole s p = 2 then bitsInto raw 22 22 (b2n q.presence)
     else raw)
  else if c = 0x0D ∧ i = 1 then 0x1F + 65536 * acsControl s p
  else bitsInto raw 15 0 c

/-- A dword of a port's configuration space: a structure that its role does not have is absent. (Log 65: DESIGN CHOICE; log 196: PRESUMED.) -/
def ppbRead (s : State) (p reg : Nat) : Nat :=
  let d := reg / 4 % 1024
  let raw := look (Config.ppbDword (1024 * p + d)) s.ppb (1024 * p + d) % 2 ^ 32
  match capAt d with
  | some (c, i) => if (ppbCaps s p).contains c then capRead s p c i raw else 0
  | none => raw

/-- The other side writes a control register of a Melewell DVSEC (Tables 4-5 and 5-3, R195). -/
def dvsecWrite (s : State) (p : Nat) (w : DvsecWrite) : State :=
  let x := getPort s p
  match w with
  | .iscSelect v =>
    if s.coh.iscWait.contains p then
      { setPort s p { x with iscSelect := v.toNat } with
        coh := { s.coh with iscWait := if v.toNat = 0 then s.coh.iscWait else s.coh.iscWait.filter (· != p) } }
    else s
  | .llReinitEn on => setPort s p { x with llReinitEn := on }
  | .spareEn on => setPort s p { x with spareEn := on }

/-- A dword of a port's configuration space is written: headers and capability registers keep what they read as. (Log 65: DESIGN CHOICE;
log 196: PRESUMED.) (Log 196: PRESUMED.) -/
def ppbWrite (s : State) (p reg v : Nat) : State :=
  let d := reg / 4 % 1024
  let s1 := { s with ppb := put s.ppb (1024 * p + d) v }
  match capAt d with
  | none => s1
  | some (c, i) =>
    if (ppbCaps s p).contains c = false then s
    else if c = 0x10051 then (if i = 3 then dvsecWrite s p (.spareEn (bit v 0)) else s)
    else if c = 0x10052 then
      (if i = 3 then dvsecWrite (dvsecWrite s p (.llReinitEn (bit v 0))) p (.iscSelect (BitVec.ofNat 8 (bits v 15 8))) else s)
    else if c = 0x10010 then (if i = 0 ∨ i = 1 ∨ i = 3 ∨ i = 5 then s else s1)
    else if c = 0x0D ∧ i = 1 then s1
    else s

end Sys2Proof.Machine
end

