-- ==== Sys2Proof/Machine/PathOps.lean ====
section
/-!
DEFINITION. How requests enter at a port: the decoders of the instances presented there, metering and sampling, the routing of
CXL.io, PBR and CXL.cache traffic, and what leaves at an egress or target scheduler (chapters 5, 9, 14).
-/
namespace Sys2Proof.Machine

open Sys2Proof

/-! Host requests on memory. -/

/-- A port's link carries a protocol beside CXL.io (0x2000:06): it is up as CXL, in flits (R85). -/
def carries (s : State) (p b : Nat) : Bool := linkUp s p && rd s 0x2010 5 p != 4 && rd s 0x2010 6 p != 0 && bit (rd s 0x2000 6 p) b

/-- A port takes CXL.mem requests of a host: a USP whose link carries them, with credits not withheld. -/
def takesMem (s : State) (p : Nat) : Bool := actingRole s p == 1 && carries s p 2 && !s.mode.creditsHeld

/-- A port carries CXL.cache: not in the inter-switch role (Table 5-1). -/
def takesCache (s : State) (p : Nat) : Bool := (actingRole s p == 1 || actingRole s p == 2) && carries s p 1

/-- The instances presented as LDs on a port. -/
def presentedOn (s : State) (p : Nat) : List Nat :=
  (s.insts.filter fun e => rd s 0x5010 2 e.1 == 1 && e.2.usp == p).map (·.1)

/-- The instance, the offset and the tracking of an HPA: by the first committed decoder that matches (R283). -/
def decodeHpa (s : State) (p hpa : Nat) : Option (Nat × Nat × Bool) :=
  (presentedOn s p).findSome? fun i => (List.range 8).findSome? fun d =>
    (decodeWith (decoderRec s i d) hpa).map fun off => (i, off, decBi (decoderRec s i d))

/-- W of the queue map (R299): a write, an atomic or an ownership request without data. -/
def queueW (k : ReqKind) : Bool :=
  match k with
  | .wr => true
  | .atomic _ _ _ _ => true
  | .inv _ => true
  | _ => false

/-- The request that a message becomes. -/
def hostReq (s : State) (p i off : Nat) (bi : Bool) (m : Ask1) (x : Option Sample) : Req :=
  { kind := m.kind, agent := p, inst := i, off := off, tag := m.tag, queue := mappedQueue s i m.tc (queueW m.kind), colour := 0, low := false
    devLoad := 0, len := m.len, data := m.data, be := m.be, keepS := m.keepS, tracked := bi, extent := 262144, key := 0, loc := 0
    sample := stamp s x 0 }

/-- The instance counters of a host request (R325). -/
def countHost (s : State) (r : Req) : State :=
  let t := r.agent / 16
  match r.kind with
  | .rd _ => instEvent (instEvent s r.inst 0 t 1) r.inst 2 t 64
  | .rdData => instEvent (instEvent s r.inst 0 t 1) r.inst 2 t 64
  | .wr => instEvent (instEvent s r.inst 1 t 1) r.inst 3 t 64
  | _ => s

/-- A message enters at a port: it is counted, the generator steps, and Tadpole and Littoral choose (R218, R329). -/
def enterPort (s : State) (p : Nat) (i : Option Nat) (m : Ask1) : State × Option Sample × Bool :=
  let s1 := portEvent s p 3 1 i m.cls
  tagRequest s1 (p / 16) p i { sampleInit with port := p, inst := i.getD 0xFFFF, cls := m.cls, opcode := m.opcode, source := p }

/-- A request of an instance, decoded: counted, queued and served as its queue releases it. -/
def enterInst (s : State) (p i off : Nat) (bi : Bool) (m : Ask1) : State :=
  let e := enterPort s p (some i) m
  let r := hostReq e.1 p i off bi m e.2.1
  let r1 := { r with sample := r.sample.map fun x => { x with queue := r.queue } }
  let s1 := countHost e.1 r1
  let s2 := match findExtent s1 i off with
    | some x => if e.2.2 then creditSample s1 ((extDpa (getExt s1 x) + (off - (getExt s1 x).offset)) / 65536) else s1
    | none => s1
  let q := qosArrive s2 r1
  serveAll q.1 q.2

/-! Requests that a mode transition holds (R49, R50). -/

/-- A transition is under way that holds new requests to the units it touches: any but the drain into SERVICE, which withholds credits. -/
def modeHolding (s : State) : Bool := rd s 0x1200 3 0 != 0 && s.mode.target != 5

/-- The touched set has an object of a unit. (Log 29: DEDUCED.) -/
def touches (s : State) (f : Nat → Nat → Bool) : Bool := s.mode.touched.any fun k => f (k / 16777216) (k % 65536)

/-- The units that a port's requests pass first: the port, its lanes, groups and scheduler. -/
def touchesPort (s : State) (p : Nat) : Bool :=
  touches s fun idx q =>
    if idx = 0x2140 then (portGroups s p).contains (q - 256)
    else if 0x2100 ≤ idx ∧ idx < 0x2140 then lanePort s q == p
    else if 0x2000 ≤ idx ∧ idx < 0x2400 ∨ idx = 0x7200 then q == p
    else if idx = 0x3100 ∨ idx = 0x6000 ∨ idx = 0x6010 ∨ idx = 0x6800 then true
    else if 0x3000 ≤ idx ∧ idx < 0x3400 ∨ idx = 0x6100 ∨ idx = 0x6200 then q == p / 16
    else false

/-- The units that hold an instance's memory at an offset. (Log 29: DEDUCED.) -/
def touchesMem (s : State) (i off : Nat) : Bool :=
  touches s (fun idx q =>
    if idx = 0x4310 ∨ idx = 0x6810 ∨ 0x5000 ≤ idx ∧ idx < 0x5300 ∨ idx = 0x7000 then q == i
    else if idx = 0x7100 then q / 16 == i
    else if idx = 0x4120 then true
    else false)
  || (match translate s i off with
      | .hit _ _ loc => touches s (fun idx q => (idx == 0x4000 || idx == 0x4200) && q == dpaTarget loc)
      | _ => false)

/-- A request is held at its queue. (Log 29: DEDUCED.) -/
def holdRequest (s : State) (h : HeldReq) : State := { s with mode := { s.mode with held := s.mode.held ++ [h] } }

/-- A host's request: decoded by the HDM decoders of the port's LDs; one that matches none takes the first miss action (R283). -/
def hostAccess (s : State) (p hpa : Nat) (m : Ask1) : State :=
  if takesMem s p = false then s
  else if modeHolding s && (touchesPort s p || (match decodeHpa s p hpa with | some x => touchesMem s x.1 x.2.1 | none => false)) then
    holdRequest s (.mem p hpa m)
  else match decodeHpa s p hpa with
    | some (i, off, bi) => enterInst s p i off bi m
    | none =>
      let e := enterPort s p none m
      let r := { hostReq e.1 p 4096 0 false m e.2.1 with queue := if queueW m.kind then 5 else 4 }
      let s1 := bump e.1 0x4010 8 0 64 1
      emptyAnswer (if writesData r then bump s1 0x4010 10 0 64 1 else s1) { r with sample := flagSample r.sample 32 } 1

/-- The counted length of an AtomicOp on instance memory (Table 14-1). -/
def atomLen (k : AtomKind) (n : AtomSize) : Nat :=
  match k with
  | .cas => 3 * atomBytes n
  | _ => 2 * atomBytes n

/-- An AtomicOp that the base specification has: 32 or 64 bits, CAS also 128 bits, with natural alignment. -/
def atomOk (k : AtomKind) (n : AtomSize) (hpa : Nat) : Bool :=
  hpa % atomBytes n == 0 && (n != .w128 || k == .cas)

/-- The opcode byte of a request message in a sample record: the CXL memory opcode, or the TLP type of an AtomicOp. -/
def atomOpcode (k : AtomKind) : Nat := match k with | .fetchAdd => 0x4C | .swap => 0x4D | .cas => 0x4E

/-! CXL.io, PBR and CXL.cache (R101). -/

/-- The windows of a virtual bridge. (Log 66: PRESUMED.) -/
def bridgeAt (s : State) (u v : Nat) : Bridge := look { base := 1, limit := 0, busLo := 1, busHi := 0 } s.bridges (64 * u + v)

/-- A binding record of a USP's virtual switch (Table 5-12). -/
def bindingOf (s : State) (u v : Nat) : Nat := rdTbl s 0x2330 1 u v 0x00FF0000

def bound (r : Nat) : Bool := bit r 31
def boundPort (r : Nat) : Nat := r % 256
def boundLd (r : Nat) : Nat := bits r 23 16

/-- The DSP behind a virtual bridge whose window a test accepts. -/
def windowPort (s : State) (u : Nat) (p : Bridge → Bool) : Option Nat :=
  (List.range 64).findSome? fun v => if bound (bindingOf s u v) ∧ p (bridgeAt s u v) = true then some (boundPort (bindingOf s u v)) else none

/-- The USP whose virtual switch a DSP is bound into. -/
def upstreamOf (s : State) (p : Nat) : Option Nat :=
  (List.range 64).find? fun u => actingRole s u == 1 && (List.range 64).any fun v => bound (bindingOf s u v) && boundPort (bindingOf s u v) == p

/-- The USP that routes for a port: itself, or the one its DSP is bound to. -/
def routingUsp (s : State) (p : Nat) : Option Nat := if actingRole s p = 1 then some p else if actingRole s p = 2 then upstreamOf s p else none

/-- A memory request is routed by the windows; from a DSP it goes upstream when no window matches, or when ACS redirects it: a request
to a peer, or one to the DSP's own link with upstream forwarding (Table 5-1). (Log 196: PRESUMED.) -/
def routeMem (s : State) (p addr : Nat) : Option Nat :=
  match routingUsp s p with
  | none => none
  | some u =>
    match windowPort s u fun b => decide (b.base ≤ addr ∧ addr ≤ b.limit) with
    | some d => if bit (acsControl s p) (if d = p then 4 else 2) then some u else some d
    | none => if actingRole s p = 2 then some u else none

/-- A configuration request is routed by bus number, downstream. -/
def routeCfg (s : State) (p bus : Nat) : Option Nat :=
  if actingRole s p = 1 then windowPort s p fun b => decide (b.busLo ≤ bus ∧ bus ≤ b.busHi) else none

/-- A request of switched traffic enters at a port: it is counted, the generator steps, and Tadpole may tag it (R329). (Log 220: PRESUMED.) -/
def enterSwitched (s : State) (p cls opcode : Nat) : State × Option Sample :=
  let x := tagRequest (portEvent s p 3 1 none cls) (p / 16) p none { sampleInit with port := p, cls := cls, opcode := opcode, source := p }
  (x.1, x.2.1)

/-- Switched traffic toward a port: carried while the port's link is up, else answered as Table 5-6 says of a request queued for a lost
link. -/
def forwardTo (s : State) (t0 : Txn) (m : Msg) : State :=
  let x := (stamp s t0.sample 0).map fun y => { y with egress := t0.dst }
  let t := { t0 with sample := hopSample s (portTile t0.src) (portTile t0.dst) m.key x }
  if linkUp s t.dst then
    let waits := match t.kind with | .ioPosted => false | .ioCompletion => false | .memSpecRd => false | _ => true
    (if waits then switchMsg { s with txns := s.txns ++ [t] } m else switchMsg s { m with sample := t.sample })
  else
    let s1 := match t.kind with | .ioPosted => bump s 0x2200 6 t.dst 64 1 | _ => s
    portEvent (synthetic s1 t.dst t) t.dst 0x0B 1 none 0

/-- The buffer class of a CXL.io message (Table 6-5): 5 posted, 6 non-posted, 7 completion. -/
def ioMsg (src dst tag tc cls : Nat) (kind : TxnKind) (d : List Byte) : Msg :=
  { kind := kind, src := src, dst := dst, tag := tag, len := 16 + d.length, cls := cls, data := d, key := ioKey false src dst, tc := tc }

/-- The units that a CXL.io request goes to are touched: its port, or the one it is routed to. -/
def touchesIo (s : State) (p : Nat) (x : IoReq) : Bool :=
  touchesPort s p || (match x with
    | .window _ _ _ _ _ => false
    | .mem a _ _ _ _ => (match routeMem s p a.toNat with | some q => touchesPort s q | none => false)
    | .config bus _ _ => (match routeCfg s p bus.toNat with | some q => touchesPort s q | none => false))

/-- A CXL.io request (R101). (Log 66: PRESUMED.) -/
def ioRequest (s : State) (p : Nat) (x : IoReq) : State :=
  if linkUp s p = false then s
  else if modeHolding s && touchesIo s p x then holdRequest s (.io p x)
  else match x with
    | .window v b l lo hi =>
      if actingRole s p = 1 then
        { s with bridges := put s.bridges (64 * p + v.val) { base := b.toNat, limit := l.toNat, busLo := lo.toNat, busHi := hi.toNat } }
      else s
    | .mem a posted tag tc d =>
      let e := enterSwitched s p (if posted then 5 else 6) (if posted then 0x60 else 0x20)
      let s1 := e.1
      let kind := if posted then TxnKind.ioPosted else .ioNonPosted
      (match routeMem s1 p a.toNat with
       | some q => forwardTo s1 { kind := kind, src := p, dst := q, tag := tag.toNat, sent := false, sample := e.2 }
           (ioMsg p q tag.toNat tc.val (if posted then 5 else 6) kind d)
       | none =>
         let s2 := endSample s1 (flagSample e.2 32)
         if posted then s2 else emit s2 (.response p tag.toNat (.io 1 [])))
    | .config bus tag d =>
      let e := enterSwitched s p 6 0x05
      let s1 := e.1
      (match routeCfg s1 p bus.toNat with
       | some q => forwardTo s1 { kind := .ioConfig, src := p, dst := q, tag := tag.toNat, sent := false, sample := e.2 }
           (ioMsg p q tag.toNat 0 6 .ioConfig d)
       | none => emit (endSample s1 (flagSample e.2 32)) (.response p tag.toNat (.io 1 [])))

/-- A completion or response answers a transaction: it is forgotten; a late one is discarded and counted (R93, R95). -/
def endTxn (s : State) (src dst tag : Nat) : State :=
  { s with txns := s.txns.eraseP fun t => t.src == dst && t.dst == src && t.tag == tag }

/-- The sample record of the transaction that a response answers; its first response leaves the target (R330). -/
def answeredSample (s : State) (src dst tag : Nat) : Option Sample :=
  match s.txns.find? fun t => t.src == dst && t.dst == src && t.tag == tag with
  | some t => stamp s t.sample 4
  | none => none

def lateResponse (s : State) (p tag : Nat) : State :=
  let q := getPort s p
  bump (setPort s p { q with lateTags := q.lateTags.erase tag }) 0x2200 8 p 64 1

/-- The port that a completion leaves by: ACS redirects one to a peer of a DSP upstream (Table 5-1). (Log 196: PRESUMED.) -/
def completionPort (s : State) (p dst : Nat) : Nat :=
  if bit (acsControl s p) 3 ∧ actingRole s dst = 2 then (upstreamOf s p).getD dst else dst

/-- A CXL.io completion toward the requester's port: forwarded, dropped toward a lost link, discarded when late. -/
def ioCompletion (s : State) (p dst0 tag bytes : Nat) : State :=
  let dst := completionPort s p dst0
  if linkUp s p = false then s
  else if (getPort s p).lateTags.contains tag then lateResponse s p tag
  else if linkUp s dst then
    switchMsg (endTxn (portEvent s p 3 1 none 7) p dst0 tag) { ioMsg p dst tag 0 7 .ioCompletion (zeros bytes) with sample := answeredSample s p dst0 tag }
  else endSample (endTxn s p dst0 tag) (flagSample (answeredSample s p dst0 tag) 32)

/-- A PBR route record (Table 5-11). -/
def pbrRoute (s : State) (p pid : Nat) : Nat := rdTbl s 0x2320 1 p pid 0

/-- The kind, tag and data of a PBR request. -/
def pbrKind (x : PbrReq) : TxnKind :=
  match x with
  | .memRd _ _ _ _ => .memRd
  | .memWr _ _ _ _ _ => .memWr
  | .memInv _ _ _ _ => .memInv
  | .memSpecRd _ => .memSpecRd
  | .memClnEvct _ _ _ => .memClnEvct
  | .biSnp _ _ => .biSnp
  | .io posted _ _ _ => if posted then .ioPosted else .ioNonPosted

def pbrTag (x : PbrReq) : Nat :=
  match x with
  | .memRd _ _ t _ => t.toNat
  | .memWr _ _ _ t _ => t.toNat
  | .memInv _ _ t _ => t.toNat
  | .memSpecRd _ => 0
  | .memClnEvct _ t _ => t.toNat
  | .biSnp _ t => t.toNat
  | .io _ t _ _ => t.toNat

/-- A PBR request as the message that the switch carries. -/
def pbrMsg (x : PbrReq) (p q : Nat) : Msg :=
  match x with
  | .memWr a d _ t c => { kind := .memWr, src := p, dst := q, tag := t.toNat, len := 16 + d.length, cls := 1, data := d
                          key := memKey false p 0xFFF a.toNat, tc := c.val }
  | .io posted t c d => ioMsg p q t.toNat c.val (if posted then 5 else 6) (pbrKind x) d
  | .memRd a _ t c => { kind := .memRd, src := p, dst := q, tag := t.toNat, len := 16, cls := 0, data := [], key := memKey false p 0xFFF a.toNat, tc := c.val }
  | .memInv a _ t c => { kind := .memInv, src := p, dst := q, tag := t.toNat, len := 16, cls := 0, data := [], key := memKey false p 0xFFF a.toNat, tc := c.val }
  | .memSpecRd a => { kind := .memSpecRd, src := p, dst := q, tag := 0, len := 16, cls := 0, data := [], key := memKey false p 0xFFF a.toNat, tc := 0 }
  | .biSnp a t => { kind := .biSnp, src := p, dst := q, tag := t.toNat, len := 16, cls := 4, data := [], key := memKey false p 0xFFF a.toNat, tc := 0 }
  | .memClnEvct a t c => { kind := .memClnEvct, src := p, dst := q, tag := t.toNat, len := 16, cls := 0, data := [], key := memKey false p 0xFFF a.toNat, tc := c.val }

/-- A PBR request for a local GFD (R281, R283): its address is the instance offset; tracked in the modes with shared regions when the
inter-switch port carries a coherence version (R195). -/
def pbrAsk (x : PbrReq) : Option (Nat × Ask1) :=
  match x with
  | .memRd a k t c => some (a.toNat, { kind := .rd k, tag := t.toNat, tc := c.val, len := 64, cls := 0, opcode := 1, data := [], be := 0, keepS := false })
  | .memWr a d e t c => some (a.toNat, { kind := .wr, tag := t.toNat, tc := c.val, len := 64, cls := 1, opcode := 1, data := padTo d 64, be := e.toNat, keepS := false })
  | .memInv a k t c => some (a.toNat, { kind := .inv k, tag := t.toNat, tc := c.val, len := 0, cls := 0, opcode := 0, data := [], be := 0, keepS := false })
  | .memSpecRd a => some (a.toNat, { kind := .specRd, tag := 0, tc := 0, len := 0, cls := 0, opcode := 8, data := [], be := 0, keepS := false })
  | .memClnEvct a t c => some (a.toNat, { kind := .clnEvct, tag := t.toNat, tc := c.val, len := 0, cls := 0, opcode := 10, data := [], be := 0, keepS := false })
  | .biSnp _ _ => none
  | .io _ _ _ _ => none

/-- The version of inter-switch coherence of a port (0x6010:01): by its ISC_SELECT. (Log 68: DEDUCED.) -/
def iscVersion (s : State) (p : Nat) : Nat :=
  let v := (getPort s p).iscSelect
  if bit v 1 then 2 else if bit v 0 then 1 else 0

/-- The units that a PBR request goes to are touched: its port, the port it is routed to, or the memory of the instance it names. -/
def touchesPbr (s : State) (p pid : Nat) (x : PbrReq) : Bool :=
  let r := pbrRoute s p pid
  touchesPort s p || (bit r 31 && (if bits r 30 28 = 0 then touchesPort s (r % 64)
    else match pbrAsk x with | some (off, _) => touchesMem s (r % 4096) off | none => false))

/-- A port takes a PBR request: its link is up, and carries CXL.mem when the request is one. -/
def takesPbr (s : State) (p : Nat) (x : PbrReq) : Bool :=
  modeNow s == 3 && actingRole s p != 0 && (match x with | .io _ _ _ _ => linkUp s p | _ => carries s p 2)

/-- A request has an NDR beside its data: a read that asks for a state, or that the partner's directory tracks. (Log 200: DEDUCED.) -/
def pbrNdr (s : State) (p : Nat) (x : PbrReq) : Bool :=
  match x with
  | .memRd _ ask _ _ => ask != .none || iscVersion s p != 0
  | _ => false

/-- Traffic with a destination PID (R101): in CASCADE, by the route table of its ingress port, in any role (Table 5-1). (Log 68: DEDUCED.) -/
def pbrRequest (s : State) (p pid : Nat) (x : PbrReq) : State :=
  if takesPbr s p x = false then s
  else if modeHolding s && touchesPbr s p pid x then holdRequest s (.pbr p pid x)
  else
    let r := pbrRoute s p pid
    let e := enterSwitched s p (pbrMsg x p p).cls (match pbrAsk x with | some (_, m) => m.opcode | none => (match x with | .io posted _ _ _ => if posted then 0x60 else 0x20 | _ => 0))
    let t (q : Nat) : Txn := { kind := pbrKind x, src := p, dst := q, tag := pbrTag x, sent := false, ndr := pbrNdr s p x, sample := e.2 }
    let miss : State := portEvent (synthetic e.1 p (t p)) p 0x0B 1 none 0
    if bit r 31 = false then miss
    else if bits r 30 28 = 0 then forwardTo e.1 (t (r % 64)) (pbrMsg x p (r % 64))
    else
      let i := r % 4096
      if rd s 0x5010 2 i ≠ 2 then miss
      else match pbrAsk x with
        | some (off, m) => enterInst s p i (off / 64 * 64 + (if m.len = 64 then 0 else off % 64)) (actingRole s p == 1 || iscVersion s p != 0) m
        | none => miss

/-- A CXL.cache message between a host and a device (R180): forwarded without reaching the directory; a request waits for its response. -/
def cacheMessage (s : State) (p dst cacheId : Nat) (d2h : Bool) (ch : CacheChannel) (tag bytes : Nat) : State :=
  if takesCache s p = false ∨ actingRole s p ≠ (if d2h then 2 else 1) then s
  else if modeHolding s && ch == .req && (touchesPort s p || touchesPort s dst) then holdRequest s (.cache p dst cacheId d2h tag bytes)
  else
    let cls := match ch with | .req => 0 | .rsp => 2 | .data => if d2h then 1 else 3
    let kind := if d2h then TxnKind.d2hReq else .h2dSnp
    let m : Msg := { kind := kind, src := p, dst := dst, tag := tag, len := 16 + bytes, cls := cls, data := zeros bytes, key := cacheKey p dst cacheId, tc := 0 }
    match ch with
    | .req =>
      let e := enterSwitched (freeNext s) p cls (freeBits s 8)
      forwardTo e.1 { kind := kind, src := p, dst := dst, tag := tag, sent := false, sample := e.2 } m
    | _ =>
      let s1 := portEvent s p 3 1 none cls
      if (getPort s1 p).lateTags.contains tag then lateResponse s1 p tag
      else
        let ends := decide (ch = .rsp ∨ d2h = false)
        let s2 := if ends then endTxn s1 p dst tag else s1
        let x := if ends then answeredSample s1 p dst tag else none
        if linkUp s2 dst then switchMsg s2 { m with sample := x } else endSample s2 (flagSample x 32)

/-! What leaves (R311 to R314). -/

/-- The request in service at a line is handed to its target (R330). -/
def handToTarget (s : State) (k : Nat) : State :=
  match (getLine s k).cur with
  | some r => if r.sample.isSome then setLine s k { getLine s k with cur := some { r with sample := stamp s r.sample 3 } } else s
  | none => s

/-- A message leaves its scheduler. (Log 223: DESIGN CHOICE.) -/
def leave (s : State) (q : Nat) (m : EgMsg) : State :=
  let s0 := if q < 64 then portEvent s q 4 1 none (match m.out with | .fwd x => x.cls | .rsp _ (.drs _ _ _) => 3 | .snoop _ _ => 4 | .rsp _ (.io _ _) => 7 | _ => 2) else s
  match m.out with
  | .fwd x =>
    let y := if x.kind = .ioPosted ∨ x.kind = .memSpecRd then stamp s0 x.sample 3 else x.sample
    let s1 := endSample s0 (stamp s0 y 5)
    emit { s1 with txns := s1.txns.map fun t => if t.src = x.src ∧ t.dst = x.dst ∧ t.tag = x.tag then { t with sent := true, sample := stamp s0 t.sample 3 } else t } (.forwarded q { x with sample := none })
  | .rsp tag r =>
    let x := m.sample.map fun y => { y with egress := if y.target < 16 then 0xFF else y.target - 16 }
    emit (endSample s0 (stamp s0 x 5)) (.response q tag r)
  | .snoop k a => emit s0 (.snoop q k a)
  | .conflictAck a => emit s0 (.conflictAck q a)
  | .fill k =>
    let t := if q < 64 then q + 16 else q - 64
    if 4 ≤ t ∧ (getTgt s0 t).away = true then fillAway s0 k
    else
      let s0 := handToTarget s0 k
      let s1 := if t < 4 then largeEvent s0 (76 + t) 0 1
        else if q < 64 then emit s0 (.deviceRead q (getTgt s0 t).ld (taddrOf s0 (locOf s0 (k * 64)))) else s0
      let x := fillLine s1 k
      settle (drive 4096 x.1 x.2) k
  | .specRd _ a => emit s0 (.memSpecRd q (getTgt s (q + 16)).ld a)

/-- One turn of a scheduler (R311 to R313): the message it picks leaves; nothing leaves a port whose link is down. -/
def egressTurn (s : State) (q : Nat) : State :=
  let x := pickEgress s q
  match x.2 with
  | some i =>
    match (egressOf x.1 q)[i]? with
    | some m => leave (takeEgress x.1 q i m) q m
    | none => x.1
  | none => x.1

end Sys2Proof.Machine
end

