-- ==== Sys2Proof/Machine/Coherence.lean ====
section
/-!
DEFINITION. The commands of the directory and fabric cache (chapter 9).
-/
namespace Sys2Proof.Machine

open Sys2Proof

/-- A host has not answered a BISnp in time (R191): the snoop counts as answered with BIRspI, the host is given up, and Viral is
signalled when 0x2300:04 asks for it. -/
def biTimeout (s : State) (p k : Nat) : State :=
  if (getLine s k).snoops.any (fun e => e.1 == p) then
    let s1 := raise (bump s 0x6000 9 0 32 1) (0x6200 + p) 6 .critical []
    loseHost (if rd s1 0x2300 4 p = 1 then emit s1 (.viral p) else s1) p
  else s

/-- BI_TIMEOUT (R191). -/
def execBiTimeout (p : PortN) (key : LineN) (s : State) : Host.Outcome State Fault Refusal := .next (biTimeout s p.val key.toNat)

/-- HOLD_WINDOW_END (R202). -/
def execHoldWindowEnd (key : LineN) (s : State) : Host.Outcome State Fault Refusal := .next (endHold s key.toNat)

/-- LOST_HOST_SCAN (R210). -/
def execLostHostScan (p : PortN) (s : State) : Host.Outcome State Fault Refusal :=
  .next (if s.coh.lostHosts.contains p.val then scanLost s p.val else s)

/-- Flush (0x6100:11). -/
def flushWrite (s : State) (t : Nat) : State × Status := (cmdDone (flushTile s t) 0x6100 11 t 0, .ok)

/-- FLUSH. -/
def execCacheFlush (r : Requester) (t : TileN) (s : State) : Host.Outcome State Fault Refusal :=
  .next (rowWrite s r 0x6100 11 t.val [1] fun x => flushWrite x t.val)

/-- LOOKUP (0x6200:08). -/
def execDirLookup (r : Requester) (t : TileN) (v : List Byte) (s : State) : Host.Outcome State Fault Refusal :=
  .next (rowWrite s r 0x6200 8 t.val v fun x => lookupWrite x t.val v)

/-- ISC_SELECT_TIMEOUT (R195): the partner's write did not come; the port carries no HDM-DB traffic. -/
def execIscSelectTimeout (p : PortN) (s : State) : Host.Outcome State Fault Refusal :=
  .next <|
    if s.coh.iscWait.contains p.val then
      raise { s with coh := { s.coh with iscWait := s.coh.iscWait.filter (· != p.val) } } (0x6200 + p.val) 7 .fault []
    else s

end Sys2Proof.Machine
end

