-- ==== Sys2Proof/Machine/DiagOps.lean ====
section
/-!
DEFINITION. The end of a self-test (R414, R415, Table 19-13).
-/
namespace Sys2Proof.Machine

open Sys2Proof

/-- The result of a test (0xE000:02): its kind, its outcome as the STATE of Table 2-3, units, errors and the first failing address. -/
def testResult (s : State) (t : TestRun) (st units errors addr : Nat) : List Byte :=
  be 1 t.kind ++ be 1 st ++ zeros 2 ++ be 4 units ++ be 4 errors ++ zeros 4 ++ be 8 addr ++ be 8 (timeNow s)

/-- Blocks that a test named enter scrubbing (Table 19-9). (Log 158: DEDUCED.) -/
def untestBlocks (s : State) (t : TestRun) : State :=
  if t.kind = 2 then
    ((List.range t.count).map (· + t.first)).foldl (fun a b =>
      let x := getBlk a t.unit b
      if x.test then changeBlk a t.unit b { x with st := if x.st = 1 then 3 else x.st, test := false } else a) s
  else s

/-- The running test ends; errors found latch SELF_TEST. (Log 158: DEDUCED.) -/
def endTest (s : State) (st reason units errors addr : Nat) : State :=
  match s.sec.test with
  | none => s
  | some t =>
    let s1 := untestBlocks { s with sec := { s.sec with test := none } } t
    let s2 := wrBlob s1 0xE000 2 0 (testResult s t st units errors addr)
    let s3 := cmdEnd s2 0xE000 1 0 st reason
    if 0 < errors then raise s3 0xE000 25 .fault [] else s3

/-- A test is aborted (R415); how many units it had done is the part's. (Log 158: DEDUCED.) -/
def abortTest (s : State) : State := if s.sec.test.isSome then endTest (freeNext s) 3 0xE2 (freeBits s 32) 0 0 else s

/-- The running HBM test works on a block. -/
def testsBlock (s : State) (t first n : Nat) : Bool :=
  match s.sec.test with
  | some x => x.kind == 2 && x.unit == t && decide (first < x.first + x.count ∧ x.first < first + n)
  | none => false

/-- The running SRAM test works on a domain. -/
def testsDomain (s : State) (d : Nat) : Bool :=
  match s.sec.test with
  | some x => x.kind == 1 && x.unit == d
  | none => false

end Sys2Proof.Machine
end

