-- ==== Sys2Proof/Machine/Flags.lean ====
section
/-!
DEFINITION. Arithmetic and logic of the step tables: results and flags as Tables 12-5 and 12-7 give them, conditions (Table
12-2), and CRC updates. Values are numbers below 2^64; a word width is 32 or 64.
-/
namespace Sys2Proof.Machine

open Sys2Proof

/-- The flags of a context. -/
structure Flags where
  z : Bool
  n : Bool
  c : Bool
  v : Bool
  dz : Bool
  deriving DecidableEq, Repr

/-- The sign bit of a value of `w` bits. -/
def signBit (w x : Nat) : Bool := x.testBit (w - 1)

/-- Z and N of a result, with C and V given. -/
def resultFlags (w r : Nat) (c v : Bool) (f : Flags) : Flags := { z := r == 0, n := signBit w r, c := c, v := v, dz := f.dz }

/-- A result with its flags. -/
abbrev Alu := Nat × Flags

/-- a + b + carry in. -/
def aluAdd (w a b cin : Nat) (f : Flags) : Alu :=
  let r := (a + b + cin) % 2 ^ w
  (r, resultFlags w r (decide (2 ^ w ≤ a + b + cin)) (signBit w a == signBit w b && signBit w r != signBit w a) f)

/-- a − b − borrow in; C is the borrow (R262). -/
def aluSub (w a b bin : Nat) (f : Flags) : Alu :=
  let r := (a + 2 * 2 ^ w - b - bin) % 2 ^ w
  (r, resultFlags w r (decide (a < b + bin)) (signBit w a != signBit w b && signBit w r != signBit w a) f)

/-- A result with C and V 0. -/
def aluPlain (w r : Nat) (f : Flags) : Alu := (r, resultFlags w r false false f)

/-- The low word of a product; C and V say whether the unsigned and the signed product need more than `w` bits. -/
def aluMul (w a b : Nat) (f : Flags) : Alu :=
  let r := a * b % 2 ^ w
  (r, resultFlags w r (decide (2 ^ w ≤ a * b)) (decide (toSigned w r ≠ toSigned w a * toSigned w b)) f)

/-- The high word of an unsigned product. -/
def aluMulhu (w a b : Nat) (f : Flags) : Alu := aluPlain w (a * b / 2 ^ w % 2 ^ w) f

/-- The high word of a signed product. -/
def aluMulhs (w a b : Nat) (f : Flags) : Alu :=
  aluPlain w (ofSigned (2 * w) (toSigned w a * toSigned w b) / 2 ^ w) f

/-- Quotient of an unsigned division; by zero it is 0 and DZ is set (Table 12-7). -/
def aluDivu (w a b : Nat) (f : Flags) : Alu :=
  if b = 0 then aluPlain w 0 { f with dz := true } else aluPlain w (a / b) f

/-- Quotient of a signed division, rounded toward zero; V for the most negative value by −1. -/
def aluDivs (w a b : Nat) (f : Flags) : Alu :=
  if b = 0 then aluPlain w 0 { f with dz := true }
  else
    let r := ofSigned w (Int.tdiv (toSigned w a) (toSigned w b))
    (r, resultFlags w r false (a == 2 ^ (w - 1) && b == 2 ^ w - 1) f)

/-- Remainder of an unsigned division; by zero the dividend. -/
def aluRemu (w a b : Nat) (f : Flags) : Alu :=
  if b = 0 then aluPlain w a { f with dz := true } else aluPlain w (a % b) f

/-- Remainder of a signed division, with the sign of the dividend. -/
def aluRems (w a b : Nat) (f : Flags) : Alu :=
  if b = 0 then aluPlain w a { f with dz := true }
  else aluPlain w (ofSigned w (Int.tmod (toSigned w a) (toSigned w b))) f

/-- Smaller and larger, unsigned and signed. -/
def aluMinu (w a b : Nat) (f : Flags) : Alu := aluPlain w (min a b) f
def aluMaxu (w a b : Nat) (f : Flags) : Alu := aluPlain w (max a b) f
def aluMins (w a b : Nat) (f : Flags) : Alu := aluPlain w (if toSigned w a ≤ toSigned w b then a else b) f
def aluMaxs (w a b : Nat) (f : Flags) : Alu := aluPlain w (if toSigned w a ≤ toSigned w b then b else a) f

/-- Shifts (Table 12-7): the count is an unsigned 64-bit value at either width. -/
def aluLsl (w a b : Nat) (f : Flags) : Alu :=
  if b = 0 then aluPlain w a f
  else if w < b then aluPlain w 0 f
  else
    let r := a * 2 ^ b % 2 ^ w
    (r, resultFlags w r (a.testBit (w - b)) false f)

def aluLsr (w a b : Nat) (f : Flags) : Alu :=
  if b = 0 then aluPlain w a f
  else if w < b then aluPlain w 0 f
  else (a / 2 ^ b, resultFlags w (a / 2 ^ b) (a.testBit (b - 1)) false f)

def aluAsr (w a b : Nat) (f : Flags) : Alu :=
  if b = 0 then aluPlain w a f
  else
    let n := min b w
    let r := ofSigned w (toSigned w a / 2 ^ n)
    (r, resultFlags w r (if w ≤ b then signBit w a else a.testBit (b - 1)) false f)

/-- Rotations by the count modulo the width. -/
def aluRol (w a b : Nat) (f : Flags) : Alu :=
  let n := b % w
  aluPlain w (a * 2 ^ n % 2 ^ w + a / 2 ^ (w - n)) f

def aluRor (w a b : Nat) (f : Flags) : Alu :=
  let n := b % w
  aluPlain w (a / 2 ^ n + a * 2 ^ (w - n) % 2 ^ w) f

/-- Number of 1 bits, leading zero bits, reversed bytes. -/
def aluPopc (w a : Nat) (f : Flags) : Alu := aluPlain w (popBelow w a) f

def leadingZeros : Nat → Nat → Nat
  | 0, _ => 0
  | w + 1, a => if a.testBit w then 0 else 1 + leadingZeros w a

def aluClz (w a : Nat) (f : Flags) : Alu := aluPlain w (leadingZeros w a) f

def aluBswap (w a : Nat) (f : Flags) : Alu := aluPlain w (ofLe (be (w / 8) a)) f

/-- 0 − a: C when a is not 0, V for the most negative value. -/
def aluNeg (w a : Nat) (f : Flags) : Alu := aluSub w 0 a 0 f

/-- Bitwise. -/
def aluAnd (w a b : Nat) (f : Flags) : Alu := aluPlain w (a &&& b) f
def aluOr (w a b : Nat) (f : Flags) : Alu := aluPlain w (a ||| b) f
def aluXor (w a b : Nat) (f : Flags) : Alu := aluPlain w (a ^^^ b) f

/-- Whether a condition holds (Table 12-2). -/
def condHolds (k : Nat) (f : Flags) : Bool :=
  if k = 0 then true
  else if k = 1 then f.z
  else if k = 2 then !f.z
  else if k = 3 then f.c
  else if k = 4 then !f.c
  else if k = 5 then f.n != f.v
  else if k = 6 then f.n == f.v
  else if k = 7 then f.z || f.n != f.v
  else if k = 8 then !f.z && f.n == f.v
  else if k = 9 then f.c || f.z
  else if k = 10 then !f.c && !f.z
  else if k = 11 then f.n
  else if k = 12 then !f.n
  else if k = 13 then f.v
  else if k = 14 then !f.v
  else f.dz

/-- The flags as RDF copies them, and as WRF writes them back. -/
def flagBits (f : Flags) : Nat := b2n f.z + 2 * b2n f.n + 4 * b2n f.c + 8 * b2n f.v + 16 * b2n f.dz

def flagsOf (x : Nat) : Flags := { z := bit x 0, n := bit x 1, c := bit x 2, v := bit x 3, dz := bit x 4 }

/-- A value of `n` bytes sign-extended to 64 bits. -/
def signExtend (n a : Nat) : Nat := ofSigned 64 (toSigned (8 * n) a)

/-- One byte of the reflected CRC-64 with the ECMA-182 polynomial (R267). -/
def crc64rBit (c : BitVec 64) : BitVec 64 := if c.getLsbD 0 then (c >>> 1) ^^^ 0xC96C5795D7870F42#64 else c >>> 1

def crc64rByte (c : BitVec 64) (b : Byte) : BitVec 64 :=
  let x := c ^^^ b.setWidth 64
  crc64rBit (crc64rBit (crc64rBit (crc64rBit (crc64rBit (crc64rBit (crc64rBit (crc64rBit x)))))))

/-- A CRC register updated by bytes, lowest first: CRC-32C in bits 31 to 0, or CRC-64; no initial value, no final inversion. -/
def crcUpdate (wide : Bool) (rd : Nat) (l : List Byte) : Nat :=
  if wide then (l.foldl crc64rByte (BitVec.ofNat 64 rd)).toNat else (l.foldl crc32cByte (BitVec.ofNat 32 rd)).toNat

end Sys2Proof.Machine
end

