-- ==== Sys2Proof/Machine/StepForm.lean ====
section
/-!
DEFINITION. The form of steps: the word of a step (Table 12-1), operation codes and classes (Table 12-3), which fields each operation
uses and with what values (R260, R261), and the verifier's rules over the steps of a table (Table 11-8).
-/
namespace Sys2Proof.Machine

open Sys2Proof

/-- The 128-bit word of a step. -/
def stepWord (op : Nat) (f : StepF) : Nat :=
  op * 2 ^ 120 + f.rd.val * 2 ^ 116 + f.ra.val * 2 ^ 112 + f.rb.val * 2 ^ 108 + f.rc.val * 2 ^ 104 + f.sz.val * 2 ^ 101 + b2n f.immb * 2 ^ 100
    + f.cond.val * 2 ^ 96 + f.space.val * 2 ^ 94 + f.target.val * 2 ^ 78 + f.imm.toNat

/-- The operation code and the fields of a word. -/
def wordOp (w : Nat) : Nat := bits w 127 120

def wordStep (w : Nat) : StepF :=
  { rd := Fin.ofNat 16 (bits w 119 116), ra := Fin.ofNat 16 (bits w 115 112), rb := Fin.ofNat 16 (bits w 111 108)
    rc := Fin.ofNat 16 (bits w 107 104), sz := Fin.ofNat 8 (bits w 103 101), immb := bit w 100, cond := Fin.ofNat 16 (bits w 99 96)
    space := Fin.ofNat 4 (bits w 95 94), target := Fin.ofNat 16384 (bits w 91 78), imm := BitVec.ofNat 64 (bits w 63 0) }

/-- The reserved bits of a word are 0. -/
def wordReserved (w : Nat) : Bool := bits w 93 92 == 0 && bits w 77 64 == 0

/-- How an operation uses IMM and IMMB: not at all, as second operand, as address, or as a value of its own. -/
inductive ImmUse where
  | none | operand | address | own
  deriving DecidableEq, Repr

/-- The class of an operation (R263). -/
inductive StepClass where
  | t | v | s
  deriving DecidableEq, Repr

/-- What an operation uses: registers, sizes (none: the field is 0), condition, space, target, immediate. -/
structure Usage where
  cls : StepClass
  rd : Bool
  ra : Bool
  rb : Bool
  rc : Bool
  sz : List Nat
  cond : Bool
  space : Bool
  target : Bool
  imm : ImmUse
  deriving DecidableEq, Repr

def plainUse : Usage :=
  { cls := .t, rd := false, ra := false, rb := false, rc := false, sz := [], cond := false, space := false, target := false, imm := .none }

/-- An arithmetic or logic operation with a result; and with one source. -/
def aluUse : Usage := { plainUse with rd := true, ra := true, rb := true, sz := [2, 3], imm := .operand }
def alu1Use : Usage := { plainUse with rd := true, ra := true, sz := [2, 3] }

/-- The operations of Table 12-3. -/
def usageOf (op : Nat) : Option Usage :=
  if op = 0x01 ∨ op = 0x03 then some plainUse
  else if op = 0x02 then some { plainUse with imm := .own }
  else if op = 0x04 ∨ op = 0x07 then some { plainUse with rd := true, imm := .own }
  else if op = 0x05 then some { plainUse with imm := .own }
  else if op = 0x06 ∨ op = 0x09 then some { plainUse with rb := true, imm := .operand }
  else if op = 0x08 then some { plainUse with rd := true }
  else if op = 0x10 then some { plainUse with cond := true, target := true }
  else if op = 0x11 then some { plainUse with ra := true, target := true, imm := .own }
  else if op = 0x18 then some { plainUse with rd := true, rb := true, imm := .operand }
  else if op = 0x19 then some { plainUse with rd := true, ra := true, rb := true, cond := true }
  else if op = 0x1A then some { plainUse with rd := true, ra := true, sz := [0, 1, 2] }
  else if op = 0x24 then some alu1Use
  else if op = 0x25 ∨ op = 0x3B then some { aluUse with rd := false }
  else if (0x20 ≤ op ∧ op ≤ 0x30) ∨ (0x38 ≤ op ∧ op ≤ 0x40) then some aluUse
  else if 0x41 ≤ op ∧ op ≤ 0x43 then some alu1Use
  else if op = 0x48 then some { plainUse with rd := true, ra := true, sz := [0, 1, 2, 3], imm := .own }
  else if op = 0x49 then some { plainUse with rd := true, ra := true, imm := .own }
  else if op = 0x50 ∨ op = 0x68 then some { plainUse with rd := true, ra := true, sz := [0, 1, 2, 3], imm := .address }
  else if op = 0x51 ∨ op = 0x69 then some { plainUse with ra := true, rb := true, sz := [0, 1, 2, 3], imm := .address }
  else if op = 0x58 then some { plainUse with rd := true, ra := true, sz := [0, 1, 2, 3], space := true, imm := .address }
  else if op = 0x59 then some { plainUse with ra := true, rb := true, sz := [0, 1, 2, 3], space := true, imm := .address }
  else if op = 0x5A ∨ op = 0x5B then some { plainUse with ra := true, rb := true, space := true, imm := .own }
  else if op = 0x5C then some { plainUse with rd := true, ra := true, rb := true, space := true, imm := .own }
  else if op = 0x60 ∨ op = 0x61 then some { plainUse with rd := true, ra := true, rb := true, sz := [2, 3], space := true }
  else if op = 0x62 then some { plainUse with rd := true, ra := true, rb := true, rc := true, sz := [2, 3], space := true }
  else if op = 0x63 then some { plainUse with rd := true, ra := true, rb := true, rc := true, space := true }
  else if op = 0x6A then some { plainUse with ra := true, rb := true, imm := .own }
  else if op = 0x70 then some { plainUse with cls := .v, rd := true, ra := true, sz := [2, 3, 4] }
  else if op = 0x71 then some { plainUse with cls := .v, ra := true, rb := true, sz := [2, 3, 4] }
  else if 0x78 ≤ op ∧ op ≤ 0x7D then some { plainUse with cls := .s }
  else none

/-- The count of a line step: IMM[6:0]. -/
def lineCount (f : StepF) : Nat := f.imm.toNat % 128

/-- The values that an operation allows in IMM and in registers of its own, for the kind of table and the step's own index. -/
def ownOk (vendor : Bool) (idx op : Nat) (f : StepF) : Bool :=
  let m := f.imm.toNat
  if op = 0x02 then decide (m ≤ 1)
  else if op = 0x04 then decide (0 < m ∧ m < 2 ^ 27)
  else if op = 0x05 then
    decide (m < 2 ^ 17) && bits m 7 5 == 0 && decide (m % 32 ≤ 23) && (!bit m 16 || bits m 15 8 == 0)
  else if op = 0x07 then decide (m ≤ 7)
  else if op = 0x11 then decide (1 ≤ m ∧ m ≤ (if vendor then 2 ^ 32 else 65536)) && decide (f.target.val ≤ idx)
  else if op = 0x48 then m == 0 || m == 256
  else if op = 0x49 then decide (1 ≤ lineCount f ∧ lineCount f ≤ 64) && decide (m < 512) && !bit m 7
  else if op = 0x5A ∨ op = 0x5B ∨ op = 0x5C then decide (1 ≤ m ∧ m ≤ 64)
  else if op = 0x6A then decide (1 ≤ lineCount f ∧ lineCount f ≤ 64) && (m == lineCount f || m == 65536 + lineCount f)
  else if op = 0x63 then f.rd.val % 2 == 0 && f.rb.val % 2 == 0 && f.rc.val % 2 == 0
  else if op = 0x70 then f.sz.val != 4 || f.rd.val != 15
  else if op = 0x71 then f.sz.val != 4 || f.rb.val != 15
  else true

/-- A step is defined (R260, R261): its operation is listed for the kind of table, unused fields are 0, used ones hold allowed values. The
operands of S operations are the firmware's own. -/
def stepDefined (vendor : Bool) (idx op : Nat) (f : StepF) : Bool :=
  match usageOf op with
  | none => false
  | some u =>
    if u.cls = .s then true
    else
      (vendor || u.cls == .t)
      && (u.rd || f.rd.val == 0) && (u.ra || f.ra.val == 0) && (u.rb || f.rb.val == 0) && (u.rc || f.rc.val == 0)
      && (if u.sz = [] then f.sz.val == 0 else u.sz.contains f.sz.val)
      && (u.cond || f.cond.val == 0) && (u.target || f.target.val == 0)
      && (if u.space then decide (f.space.val ≤ 1) else f.space.val == 0)
      && (match u.imm with
          | .none => f.imm.toNat == 0 && !f.immb
          | .operand => if f.immb then f.rb.val == 0 else f.imm.toNat == 0
          | .address => !f.immb || f.ra.val == 0
          | .own => !f.immb)
      && ownOk vendor idx op f

/-- A step of a table's words: operation code and fields. -/
def stepAt (l : List Nat) (i : Nat) : Nat × StepF := (wordOp (l.getD i 0), wordStep (l.getD i 0))

/-- The steps that may follow step `i` of a table, and whether it ends the invocation. -/
def successors (l : List Nat) (i : Nat) : List Nat :=
  let x := stepAt l i
  if x.1 = 0x02 then []
  else if x.1 = 0x10 then (if x.2.cond.val = 0 then [x.2.target.val] else [x.2.target.val, i + 1])
  else if x.1 = 0x11 then [x.2.target.val, i + 1]
  else [i + 1]

/-- The loops of a table: target and index of each closing step. -/
def loopsOf (l : List Nat) : List (Nat × Nat) :=
  (List.range l.length).filterMap fun i => if (stepAt l i).1 = 0x11 then some ((stepAt l i).2.target.val, i) else none

/-- A step writes a register. -/
def writesReg (x : Nat × StepF) (r : Nat) : Bool :=
  match usageOf x.1 with
  | some u => (u.rd && (x.2.rd.val == r || (x.1 == 0x63 && x.2.rd.val + 1 == r))) || (x.1 == 0x11 && x.2.ra.val == r)
  | none => false

/-- Steps reachable from a set, one round. -/
def reachRound (l : List Nat) (seen : List Nat) : List Nat :=
  (seen.flatMap (successors l)).foldl (fun a i => if a.contains i then a else a ++ [i]) seen

def reachN : Nat → List Nat → List Nat → List Nat
  | 0, _, seen => seen
  | n + 1, l, seen =>
    let x := reachRound l seen
    if x.length = seen.length then seen else reachN n l x

/-- The steps that some path from the entries reaches. -/
def reachable (l entries : List Nat) : List Nat := reachN (l.length + 1) l entries

/-- The outermost loop inside a region that holds a step. -/
def loopAt (l : List Nat) (lo hi i : Nat) : Option (Nat × Nat) :=
  ((loopsOf l).filter fun x => decide (lo ≤ x.1 ∧ x.2 < hi ∧ x.1 ≤ i ∧ i ≤ x.2)).foldl (fun a x =>
    match a with
    | none => some x
    | some b => if b.2 - b.1 < x.2 - x.1 then some x else a) none

/-- Worst-case steps from each step of a region to its end, loops charged cap × (body + 1) (rule 8); the first argument bounds how deep
loops nest. The list is that of steps `lo` to `hi − 1`. -/
def costs : Nat → List Nat → Nat → Nat → List Nat
  | 0, _, _, _ => []
  | n + 1, l, lo, hi =>
    (List.range (hi - lo)).reverse.foldl (fun acc k =>
      let i := lo + k
      let after (j : Nat) : Nat := if i < j ∧ j < hi then acc.getD (j - i - 1) 0 else 0
      let c := match loopAt l lo hi i with
        | some (t, e) =>
          let body := costs n l t e
          let worst := max (body.getD 0 0) (body.getD (i - t) 0)
          let exits := (List.range (e - t)).flatMap fun j => (successors l (t + j)).filter fun x => decide (e < x)
          (stepAt l e).2.imm.toNat * (worst + 1) + (exits ++ [e + 1]).foldl (fun a j => max a (after j)) 0
        | none => 1 + (successors l i).foldl (fun a j => max a (after j)) 0
      c :: acc) []

/-- The worst case of a table: the main body's and the handler's (R266). -/
def worstCase (l : List Nat) (entry : Nat) : Nat :=
  let c := costs 6 l 0 l.length
  c.getD 0 0 + (if entry = 0xFFFF then 0 else c.getD entry 0)

/-- How many loops hold a step. (Log 99: DEDUCED.) -/
def loopDepth (l : List Nat) (i : Nat) : Nat := ((loopsOf l).filter fun x => decide (x.1 ≤ i ∧ i ≤ x.2)).length

/-- The first step that breaks a per-step rule. -/
def firstBad (l : List Nat) (ok : Nat → Nat × StepF → Bool) : Option Nat := (List.range l.length).find? fun i => !ok i (stepAt l i)

/-- Rule 7 of Table 11-8 at one step. (Log 99: DEDUCED.) -/
def loopOk (l : List Nat) (i : Nat) (x : Nat × StepF) : Bool :=
  if x.1 = 0x10 then decide (i < x.2.target.val)
  else if x.1 = 0x11 then
    (List.range (i - x.2.target.val)).all (fun j => !writesReg (stepAt l (x.2.target.val + j)) x.2.ra.val)
      && decide (loopDepth l i ≤ 4)
      && (loopsOf l).all fun y => y.2 < x.2.target.val || i < y.1 || (x.2.target.val ≤ y.1 && y.2 ≤ i) || (y.1 ≤ x.2.target.val && i ≤ y.2)
  else decide (loopDepth l i ≤ 4)

/-- A memory step (R269) that addresses instance or pool memory. -/
def spaceStep (op : Nat) : Bool := match usageOf op with | some u => u.space | none => false

/-- The rules of Table 11-8 that look at the steps alone, in order: the REASON and the step of the first that fails. -/
def verifySteps (l : List Nat) (entry budget : Nat) : Option (Nat × Nat) :=
  match firstBad l fun i x => wordReserved (l.getD i 0) && (stepDefined false i x.1 x.2) with
  | some i => some (0xA4, i)
  | none =>
  match firstBad l fun _ x => match usageOf x.1 with | some u => u.cls != .s | none => false with
  | some i => some (0xA5, i)
  | none =>
  let r := reachable l (if entry = 0xFFFF then [0] else [0, entry])
  match firstBad l fun i x =>
    (if x.1 = 0x10 ∨ x.1 = 0x11 then decide (x.2.target.val < l.length) else true)
      && (!r.contains i || (successors l i).all fun j => decide (j < l.length)) with
  | some i => some (0xA6, i)
  | none =>
  if entry ≠ 0xFFFF ∧ l.length ≤ entry then some (0xA6, 0xFFFF)
  else match firstBad l (loopOk l) with
  | some i => some (0xA7, i)
  | none =>
  if budget < worstCase l entry then some (0xA8, 0xFFFF)
  else match firstBad l fun _ x => !spaceStep x.1 || x.2.space.val == 0 with
  | some i => some (0xA9, i)
  | none =>
  match firstBad l fun _ x => !((x.1 == 0x50 || x.1 == 0x51) && x.2.immb) || decide (x.2.imm.toNat + 2 ^ x.2.sz.val ≤ 256) with
  | some i => some (0xAA, i)
  | none =>
  match firstBad l fun _ x => x.1 != 0x05 || bit x.2.imm.toNat 16 with
  | some i => some (0xAB, i)
  | none => none

end Sys2Proof.Machine
end

