-- ==== Sys2Proof/Machine/GeckoOps.lean ====
section
/-!
DEFINITION. Gecko (chapter 11): invocations and completions, the two rings of an engine, step faults, tables, failover; and what every step
shares (chapter 12): issue, accounting, memory steps and their replies.
-/
namespace Sys2Proof.Machine

open Sys2Proof

/-! Numbers. -/

/-- The tile, the cluster and the fault source of a context. -/
def ctxTile (c : Nat) : Nat := c / 128 / 256
def clusterSource (cl : Nat) : Nat := 0x8000 + cl

/-- The identity of a context in SOURCE of Table 8-7. -/
def ctxSource (c : Nat) : Nat := 2 ^ 28 + c

/-- An engine is in service. -/
def engineOn (s : State) (e : Nat) : Bool := rd s 0x8000 2 e == 1 && rd s 0x9000 2 (e / 256 * 32 + 1 + e / 32 % 8) == 0

/-- The instance that a context works for, none in a system context. -/
def ctxInst (k : Ctx) : Option Nat := if k.sys then none else some k.inst

/-! Completions (R239, Table 13-7). -/

/-- The 32 bytes of a completion. -/
def complBytes (tag status steps w0 w1 : Nat) : List Byte :=
  be 4 tag ++ be 1 status ++ zeros 3 ++ be 4 steps ++ zeros 4 ++ be 8 w0 ++ be 8 w1

/-- A completion enters the ring of a queue; a ring that becomes non-empty signals vector 1 of the LD. -/
def pushCompl (s : State) (i k : Nat) (b : List Byte) : State :=
  let x := getInst s i
  let old := look [] x.compls k
  let s1 := setInst s i { x with compls := put x.compls k (old ++ [b]) }
  if old = [] then instMsix s1 i 1 else s1

/-- The invocations that wait on a queue. -/
def ringOf (s : State) (i k : Nat) : List (List Byte) := look [] (getInst s i).rings k

def setRing (s : State) (i k : Nat) (l : List (List Byte)) : State :=
  setInst s i { getInst s i with rings := put (getInst s i).rings k l }

/-- The completion ring of a queue is full: its context starts nothing new from it. -/
def complFull (s : State) (i k : Nat) : Bool := decide (256 ≤ (look [] (getInst s i).compls k).length)

/-! Tables. -/

def getTable (s : State) (tb : Nat) : Option StepTable := (s.gecko.tables.find? fun e => e.1 == tb).map (·.2)

/-- The steps that a context's invocation runs: of the table's version it started with. -/
def ctxTable (s : State) (k : Ctx) : Option StepTable :=
  match getTable s k.table with
  | some t => if t.version = k.version then some t else (s.gecko.old.find? fun e => e.1 == k.table * 65536 + k.version % 65536).map (·.2)
  | none => (s.gecko.old.find? fun e => e.1 == k.table * 65536 + k.version % 65536).map (·.2)

/-- The vendor tables of Table 11-6, and those of them that no unload at Vendor privilege has taken away (R250). -/
def vendorTables : List Nat := [10, 11, 12, 13, 32, 33, 48, 64, 80, 96, 97, 112] ++ (List.range 8).map (20 + ·)

def vendorHere (s : State) (tb : Nat) : Bool := vendorTables.contains tb && !s.gecko.unloaded.contains tb

/-- The fault entry of a context's table, 0xFFFF none. -/
def faultEntry (s : State) (k : Ctx) : Nat :=
  match ctxTable s k with
  | some t => t.entry
  | none => if k.table < 512 then Config.vendorEntry k.table else 0xFFFF

/-- Contexts that run a version of a table. -/
def tableUsers (s : State) (tb ver : Nat) : List Nat :=
  (s.gecko.ctxs.filter fun e => running e.2 && e.2.st != 6 && e.2.table == tb && e.2.version == ver).map (·.1)

/-- A table that unloads is empty once nothing runs it (R250); steps of old versions that nothing runs are forgotten. -/
def dropTables (s : State) : State :=
  let gone := (s.gecko.tables.filter fun e => rd s 0x8100 1 e.1 == 4 && (tableUsers s e.1 e.2.version).isEmpty).map (·.1)
    ++ s.gecko.unloaded.filter fun tb => rd s 0x8100 1 tb == 4 && (tableUsers s tb 0).isEmpty
  let s1 := gone.foldl (fun a tb =>
    let a1 := wr (wr (wr (wr (wr (wr a 0x8100 1 tb 0) 0x8100 2 tb 0xFFFF) 0x8100 3 tb 0) 0x8100 4 tb 0) 0x8100 5 tb 0) 0x8100 6 tb 0
    let i := rd a 0x8100 2 tb
    let a1 := if (getInst a1 i).background = some tb then setInst a1 i { getInst a1 i with background := none } else a1
    let a2 := { a1 with gecko := { a1.gecko with tables := del a1.gecko.tables tb } }
    if cmdRunning a2 0x8100 11 tb then cmdEnd a2 0x8100 11 tb 2 0 else a2) s
  { s1 with gecko := { s1.gecko with old := delIf s1.gecko.old fun k _ => (tableUsers s1 (k / 65536) (k % 65536)).isEmpty } }

/-! The end of an invocation (R239, R240, R244, R265). -/

/-- A context at the end of its invocation: registers and flags 0; a pooled context's scratch too (R246). -/
def clearCtx (s : State) (c : Nat) (k : Ctx) : Ctx :=
  { k with st := 1, z := false, n := false, c := false, v := false, dz := false, dzt := false, atom := false, table := 0, sp := 0, evmask := 0
           budget := 0, start := 0, queue := 0, fault := 0, w := List.replicate 16 0
           inst := if bindKind (bindRec s c) = 1 then k.inst else 0
           scratch := if c % 128 < 64 ∧ bindKind (bindRec s c) = 2 then [] else k.scratch
           ext := setBit k.ext 1 false, timer := none, tag := 0, steps := 0, handler := false, committed := false, version := 0
           byQueue := false, pend := none }

/-- A context moves back to its own engine when that is in service (R257). -/
def moveBack (s : State) (c : Nat) : State :=
  let k := getCtx s c
  if k.engine ≠ c / 128 ∧ engineOn s (c / 128) = true then setCtx s c { k with engine := c / 128, slot := c % 128 } else s

/-- An invocation ends with a status: its completion is written, the context returns to idle, and to its own engine if that has returned; a
pooled context takes the next atomic that waits for it (R241). -/
def endInvocation (s : State) (c status : Nat) : State :=
  let k := getCtx s c
  if running k = false ∨ k.st = 6 then s
  else
    let s1 := setCtx s c (clearCtx s c k)
    let s2 := if k.byQueue then pushCompl s1 k.inst k.queue (complBytes k.tag status k.steps (nth 0 k.w 0) (nth 0 k.w 1)) else s1
    let s3 := if k.sys then s2 else instEvent s2 k.inst 5 (ctxTile c) 1
    let s4 := if status = 0 then clusterEvent s3 (ctxCluster c) 0x22 1 (ctxInst k) else bump s3 0x8100 10 k.table 64 1
    let s5 := moveBack (dropTables s4) c
    if c % 128 < 64 ∧ bindKind (bindRec s c) = 2 then wakeBlocked s5 else s5

/-- A step fault (R244): W14 and W15, then the fault handler, or the end of the invocation. -/
def stepFault (s : State) (c kind detail addr : Nat) : State :=
  let k := getCtx s c
  let s1 := clusterEvent (bump s 0x8000 4 k.engine 64 1) (ctxCluster c) 0x23 1 (ctxInst k)
  let e := faultEntry s k
  if kind = 9 ∨ kind = 10 ∨ k.handler = true ∨ e = 0xFFFF then
    endInvocation (setCtx s1 c { k with fault := kind, pend := none, w := setAt (setAt k.w 14 (addr % 2 ^ 64)) 15 (kind + 256 * detail) }) c kind
  else
    setCtx s1 c { k with st := 5, handler := true, sp := e % 16384, fault := kind, pend := none, evmask := 0
                         w := setAt (setAt k.w 14 (addr % 2 ^ 64)) 15 (kind + 256 * detail) }

/-- An invocation is stopped with 0x0A. -/
def stopRun (s : State) (c : Nat) : State :=
  if running (getCtx s c) = true ∧ (getCtx s c).st ≠ 6 then stepFault s c 0x0A 0 0 else s

/-- Some context serves a queue of an instance. -/
def queueServed (s : State) (i k : Nat) : Bool := (boundCtxs s i).any fun c => bit (bindQueues (bindRec s c)) k && (getCtx s c).st != 6

/-- Invocations on queues that no context serves complete at once with 0x0C (R239), while the completion ring has room. -/
def completeUnserved (s : State) (i : Nat) : State :=
  (List.range 16).foldl (fun a k =>
    if queueServed a i k then a
    else
      let n := min (ringOf a i k).length (256 - (look [] (getInst a i).compls k).length)
      ((ringOf a i k).take n).foldl (fun b d => pushCompl b i k (complBytes (fieldBe d 4 4) 0x0C 0 0 0)) (setRing a i k ((ringOf a i k).drop n))) s

/-- A step counts as executed (R243, R266): BUDGET, STEPS and the counters. -/
def account (s : State) (c : Nat) : State :=
  let k := getCtx s c
  let s1 := setCtx s c { k with budget := k.budget - 1, steps := (k.steps + 1) % 2 ^ 32 }
  let s2 := clusterEvent (bump s1 0x8000 3 k.engine 64 1) (ctxCluster c) 0x20 1 (ctxInst k)
  if k.sys then s2 else instEvent s2 k.inst 6 (ctxTile c) 1

/-- A step that takes a fault counts as executed. (Log 101: DEDUCED; log 102: DESIGN CHOICE.) -/
def faultStep (s : State) (c kind detail addr : Nat) : State := stepFault (account s c) c kind detail addr

/-- The next step. -/
def nextStep (s : State) (c : Nat) : State := setCtx s c { getCtx s c with sp := ((getCtx s c).sp + 1) % 16384 }

/-- A step retires: counted, and the next one is due. -/
def retire (s : State) (c : Nat) : State := nextStep (account s c) c

/-! The scheduler of an engine (R237). -/

/-- The ready contexts that an engine hosts, of the atomic ring or the general ring. -/
def ready (s : State) (e : Nat) (atom : Bool) : List (Nat × Ctx) :=
  s.gecko.ctxs.filter fun x => x.2.engine == e && (x.2.st == 2 || x.2.st == 5) && x.2.atom == atom

/-- The context of a ring nearest at or after the ring's pointer in slot order. -/
def ringChoice (ptr : Nat) (l : List (Nat × Ctx)) : Option (Nat × Ctx) :=
  l.foldl (fun a x =>
    match a with
    | none => some x
    | some b => if (x.2.slot + 72 - ptr) % 72 < (b.2.slot + 72 - ptr) % 72 then some x else a) none

/-- The engine's cycle serves the atomic ring. -/
def servesAtomic (s : State) (e : Nat) : Bool :=
  !(ready s e true).isEmpty && (!(look false s.gecko.lastAtomic e) || (ready s e false).isEmpty)

/-- The context that an engine serves in its next cycle. (Log 102: DESIGN CHOICE.) -/
def engineChoice (s : State) (e : Nat) : Option (Nat × Ctx) :=
  let a := servesAtomic s e
  ringChoice (look 0 s.gecko.rings (2 * e + b2n !a)) (ready s e a)

/-- The cycle is spent: the pointer of the ring moves one past the context. -/
def spendCycle (s : State) (e slot : Nat) : State :=
  let a := servesAtomic s e
  { s with gecko := { s.gecko with rings := put s.gecko.rings (2 * e + b2n !a) ((slot + 1) % 72)
                                   lastAtomic := put s.gecko.lastAtomic e a } }

/-- The step at a context's SP is the one named: it stands in the table; a vendor table whose words are not held runs any step. (Log 102: DESIGN CHOICE.) -/
def stepDue (s : State) (k : Ctx) (op : Nat) (f : StepF) : Bool :=
  match ctxTable s k with
  | some t => t.steps[k.sp]? == some (stepWord op f)
  | none => decide (k.table < 512)

/-- Classes and spaces that a context may not use at run time (R263, R273). -/
def notAllowed (k : Ctx) (op : Nat) (f : StepF) : Bool :=
  (decide (0x78 ≤ op) && !k.sys)
  || (spaceStep op && f.space.val == 1 && !k.sys)
  || ((spaceStep op || op == 0x49) && f.space.val == 0 && k.sys)
  || (decide (0x68 ≤ op ∧ op ≤ 0x6A) && k.sys)
  || ((op == 0x70 || op == 0x71) && !k.atom)
  || (op == 0x71 && k.committed)

/-- What every step shares: its context is the one that its engine serves now, and the step is due there; with BUDGET 0 fault 0x01 is taken
in its place; an undefined step, or one that is not allowed in the context, takes fault 0x0E. -/
def issue (s : State) (c op : Nat) (f : StepF) (body : State → State) : State :=
  let k := getCtx s c
  let e := k.engine
  if engineOn s e = false ∨ (engineChoice s e).map (·.1) ≠ some c ∨ stepDue s k op f = false then s
  else
    let s1 := spendCycle s e k.slot
    if k.budget = 0 then stepFault s1 c 1 0 0
    else if stepDefined (decide (k.table < 512)) k.sp op f = false ∨ notAllowed k op f = true then faultStep s1 c 0x0E 0 0
    else body s1

/-! Registers and operands. -/

def reg (k : Ctx) (r : Nat) : Nat := nth 0 k.w r

def setReg (k : Ctx) (r v : Nat) : Ctx := { k with w := setAt k.w r (v % 2 ^ 64) }

def ctxFlags (k : Ctx) : Flags := { z := k.z, n := k.n, c := k.c, v := k.v, dz := k.dz }

def setFlags (k : Ctx) (f : Flags) : Ctx := { k with z := f.z, n := f.n, c := f.c, v := f.v, dz := f.dz }

/-- The second operand (R261). -/
def operand (k : Ctx) (f : StepF) : Nat := if f.immb then f.imm.toNat else reg k f.rb.val

/-- The address of LD, ST, SLD, SST, XLD and XST (R261). -/
def stepAddr (k : Ctx) (f : StepF) : Nat := if f.immb then f.imm.toNat else (reg k f.ra.val + f.imm.toNat) % 2 ^ 64

/-- The word width of a step: 32 bits for SZ 2, else 64. -/
def stepWidth (f : StepF) : Nat := if f.sz.val = 2 then 32 else 64

/-- A step that retires at once changes only its context. -/
def plainStep (s : State) (c op : Nat) (f : StepF) (g : Ctx → Ctx) : State :=
  issue s c op f fun x =>
    let y := retire x c
    setCtx y c (g (getCtx y c))

/-- An arithmetic or logic step: result to RD, and flags. -/
def aluStep (s : State) (c op : Nat) (f : StepF) (g : Nat → Nat → Nat → Flags → Alu) : State :=
  plainStep s c op f fun k =>
    let w := stepWidth f
    let r := g w (reg k f.ra.val % 2 ^ w) (operand k f % 2 ^ w) (ctxFlags k)
    setFlags (setReg k f.rd.val r.1) r.2

/-- A shift: its count is the whole operand (R268). -/
def shiftStep (s : State) (c op : Nat) (f : StepF) (g : Nat → Nat → Nat → Flags → Alu) : State :=
  plainStep s c op f fun k =>
    let w := stepWidth f
    let r := g w (reg k f.ra.val % 2 ^ w) (operand k f) (ctxFlags k)
    setFlags (setReg k f.rd.val r.1) r.2

/-- A compare or test: flags only. -/
def flagStep (s : State) (c op : Nat) (f : StepF) (g : Nat → Nat → Nat → Flags → Alu) : State :=
  plainStep s c op f fun k =>
    let w := stepWidth f
    setFlags k (g w (reg k f.ra.val % 2 ^ w) (operand k f % 2 ^ w) (ctxFlags k)).2

/-- A division: by zero with DZT set it takes fault 0x02 and changes nothing else. -/
def divStep (s : State) (c op : Nat) (f : StepF) (g : Nat → Nat → Nat → Flags → Alu) : State :=
  issue s c op f fun x =>
    let k := getCtx x c
    let w := stepWidth f
    if operand k f % 2 ^ w = 0 ∧ k.dzt = true then faultStep x c 2 0 0
    else
      let y := retire x c
      let k1 := getCtx y c
      let r := g w (reg k1 f.ra.val % 2 ^ w) (operand k1 f % 2 ^ w) (ctxFlags k1)
      setCtx y c (setFlags (setReg k1 f.rd.val r.1) r.2)

/-! Memory steps (R245, R269 to R274). -/

/-- A stretch of memory that a step touches: address, bytes, and whether it writes. -/
structure Touch where
  addr : Nat
  len : Nat
  write : Bool

/-- A line-sized piece after translation and gate: the extent, key and location of its first byte. -/
inductive Reach where
  | ok (e key loc : Nat)
  | fault (kind detail : Nat) (miss : Trans)

/-- The bytes of a touch by granule: the addresses at which a new granule of 64 KiB starts. -/
def touchGranules (t : Touch) : List Nat :=
  (List.range ((t.addr + t.len - 1) / 65536 + 1 - t.addr / 65536)).map fun j => max t.addr ((t.addr / 65536 + j) * 65536)

/-- Translation of a step's address (R245): instance offsets as a host's; DPAs through the overlay. A granule under cut-over keeps its old entry and
is held at its home. (Log 101: DEDUCED.) -/
def reachAt (s : State) (k : Ctx) (dpa : Bool) (a : Nat) : Reach :=
  let key := if dpa then some (0, a) else
    (findExtent s k.inst a).map fun e => (e, extDpa (getExt s e) + (a - (getExt s e).offset))
  match key with
  | none => .fault 4 1 .noExtent
  | some (e, x) =>
    let loc := locOf s x
    let b := getBlk s (dpaTarget loc) (dpaBlock s loc)
    if b.st = 4 then .fault 4 2 (.lost e x (dpaTarget loc))
    else if b.st = 2 ∨ (dpa = true ∧ (b.st = 1 ∨ b.st = 3)) then .ok e x loc
    else .fault 4 1 (.corrupt e x (dpaTarget loc))

/-- The address space of a step is the DPA. -/
def byDpa (op : Nat) (f : StepF) : Bool := f.space.val == 1 || op == 0x70 || op == 0x71

/-- One granule is presented to its gate: nothing, or the fault. -/
def presentGranule (s : State) (c op : Nat) (f : StepF) (a : Nat) (write : Bool) : State × Option (Nat × Nat) :=
  let k := getCtx s c
  let dpa := byDpa op f
  let s0 := if k.sys ∨ dpa = true then s else walkTranslation s (ctxTile c) k.inst a
  match reachAt s k dpa a with
  | .fault kind d x =>
    (if k.sys then s0 else countMiss s0 k.inst write false (ctxTile c) x, some (kind, d))
  | .ok e key loc =>
    let s1 := if k.sys ∨ dpa = true then s0 else
      bump s0 (0x6820 + e / 65536) (if write then 4 else 3) (extQ e) 64 1
    let g := gate s1 key loc (if k.sys then .system else .tenant k.inst) write (ctxSource c)
    (g.1, if g.2 = 0 then none else some (3, g.2))

/-- All granules of a step are presented in address order; the first that fails ends it (R245, R271). -/
def presentAll (s : State) (c op : Nat) (f : StepF) : List (Nat × Bool) → State × Option (Nat × Nat × Nat)
  | [] => (s, none)
  | (a, w) :: t =>
    let x := presentGranule s c op f a w
    match x.2 with
    | some (kind, d) => (x.1, some (kind, d, a))
    | none => presentAll x.1 c op f t

/-- The access to one line of a step. -/
def lineAccess (s : State) (k : Ctx) (op : Nat) (f : StepF) (a : Nat) : LineAcc :=
  let x := match reachAt s k (byDpa op f) a with
    | .ok e key loc => (e, key, loc)
    | .fault _ _ _ => (0, 0, 0)
  { write := false, fromLast := false, own := false, atomic := none
    off := if byDpa op f then
        (match s.pool.extents.find? fun e => extInUse e.2 && e.2.inst == k.inst && coversDpa e.2 a with
         | some e => e.2.offset + (a - extDpa e.2)
         | none => a)
      else a
    extent := x.1, key := x.2.1, loc := x.2.2, be := 0, data := [] }

/-- The bytes of a value placed in a line at an address, and the mask of its bytes. -/
def placeBytes (a n v : Nat) : List Byte × Nat := (zeros (a % 64) ++ le n v ++ zeros (64 - a % 64 - n), (2 ^ n - 1) * 2 ^ (a % 64))

def pendInit (op : Nat) (f : StepF) : Pend :=
  { op := op, f := f, accs := [], bytes := [], last := [], bad := false, ready := false, value := 0, flag := false, fault := 0, detail := 0
    addr := 0, host := none, snoop := none, sample := none }

/-- The counted length of a memory step (Table 14-1). -/
def stepLen (op : Nat) (f : StepF) : Nat :=
  if op = 0x63 then 16
  else if op = 0x5C then 128 * lineCount f
  else if op = 0x49 ∨ op = 0x5A ∨ op = 0x5B ∨ op = 0x6A then 64 * lineCount f
  else 2 ^ f.sz.val

/-- A memory step's replay tag is kept (R255). (Log 103: DEDUCED.) -/
def keepTag (s : State) (c : Nat) : State :=
  let k := getCtx s c
  { s with gecko := { s.gecko with replay := put s.gecko.replay k.engine (((c, k.start, k.steps) :: look [] s.gecko.replay k.engine).take 256) } }

/-- The context waits for the step's replies (R236). A tenant step supplied by a queue passes its meter and shaper first (R301). (Log 169: DEDUCED.) -/
def startPend (s : State) (c : Nat) (p : Pend) : State :=
  let k := getCtx s c
  let cl := ctxCluster c
  let t := tagRequest s (ctxTile c) (64 + cl) (ctxInst k)
    { sampleInit with port := 0xFF, inst := (ctxInst k).getD 0xFFFF, cls := 0, opcode := p.op, source := ctxSource c
                      queue := if k.byQueue then k.queue else 0xFF
                      key := match p.accs with | a :: _ => a.key | [] => 0 }
  let s1 := match p.accs with | a :: _ => (if t.2.2 then creditSample t.1 (a.key / 65536) else t.1) | [] => t.1
  let s2 := keepTag (clusterEvent s1 cl 0x27 1 (ctxInst k)) c
  let s3 := setCtx s2 c { getCtx s2 c with st := 3, pend := some { p with ready := p.accs.isEmpty && p.host.isNone && p.snoop.isNone, sample := t.2.1 } }
  match p.accs with
  | [] => s3
  | a :: _ =>
    let r := { accReq s3 c a [] with kind := .step c, extent := 262144, len := stepLen p.op p.f }
    if k.byQueue ∧ k.sys = false then
      let q := qosArrive s3 r
      serveAll q.1 q.2
    else serve s3 r

/-- A memory step: alignment, then every granule in address order, then its accesses. -/
def memStep (s : State) (c op : Nat) (f : StepF) (align : List (Nat × Nat)) (touches : List Touch) (accs : State → Ctx → List LineAcc) : State :=
  issue s c op f fun x =>
    match align.find? fun e => e.1 % e.2 != 0 with
    | some e => faultStep x c 0x0D 0 e.1
    | none =>
      let gs := touches.flatMap fun t => (touchGranules t).map fun a => (a, t.write)
      let y := presentAll x c op f (gs.mergeSort fun a b => decide (a.1 ≤ b.1))
      match y.2 with
      | some (kind, d, a) => faultStep y.1 c kind d a
      | none => startPend y.1 c { pendInit op f with accs := accs y.1 (getCtx y.1 c), addr := match touches with | t :: _ => t.addr | [] => 0 }

/-- Reads of `n` lines; writes of `n` lines each from the line read before it, in the order that R271 gives. -/
def readLines (s : State) (k : Ctx) (op : Nat) (f : StepF) (a n : Nat) : List LineAcc :=
  (List.range n).map fun i => lineAccess s k op f (a + 64 * i)

def copyAccs (s : State) (k : Ctx) (op : Nat) (f : StepF) (dst src n : Nat) : List LineAcc :=
  let order := if src < dst then (List.range n).reverse else List.range n
  order.flatMap fun i =>
    [lineAccess s k op f (src + 64 * i), { lineAccess s k op f (dst + 64 * i) with write := true, fromLast := true, be := 2 ^ 64 - 1 }]

/-- An atomic step (R273): performed at the line's home; the old value returns. -/
def atomicStep (s : State) (c op : Nat) (f : StepF) (kind : AtomKind) (size : AtomSize) (a b : Ctx → Nat) : State :=
  let addr := reg (getCtx s c) f.ra.val
  let n := match size with | .w32 => 4 | .w64 => 8 | .w128 => 16
  memStep s c op f [(addr, n)] [⟨addr, n, true⟩] fun x k =>
    [{ lineAccess x k op f addr with write := true, atomic := some (kind, size, a k, b k) }]

/-- The size of an atomic step. -/
def atomSize (f : StepF) : AtomSize := if f.sz.val = 2 then .w32 else .w64

/-! Host memory (R274). -/

/-- The function of a context's instance lets requests out. -/
def fnOpen (s : State) (i : Nat) : Option Nat :=
  match instFn s i with
  | some k => if (getFn s k).bme = true ∧ (getFn s k).flr = false ∧ linkUp s (k / 32) = true then some k else none
  | none => none

/-- A read of host memory goes out; the context waits for its completion. (Log 63: DESIGN CHOICE.) -/
def hostFetch (s : State) (c fn addr len : Nat) (p : Pend) : State :=
  let x := getFn s fn
  let tag := freshTag x
  let s1 := emit (setFn s fn { x with reads := x.reads ++ [(c, tag)] }) (.hostRead fn addr len tag)
  startPend s1 c { p with host := some (tag, addr, len) }

/-! Replies (R236). -/

/-- The flags and registers that a completed memory step writes. -/
def replyRegs (k : Ctx) (p : Pend) : Ctx :=
  let f := p.f
  let a := p.addr % 64
  let op := p.op
  if op = 0x58 ∨ op = 0x68 then setReg k f.rd.val (fieldLe p.bytes (if op = 0x58 then a else 0) (2 ^ f.sz.val))
  else if op = 0x5C then
    let n := 64 * lineCount f
    let x := slice p.bytes 0 n
    let y := slice p.bytes n n
    let i := ((List.range n).find? fun j => x[j]? != y[j]?).getD n
    { setReg k f.rd.val i with z := i == n }
  else if op = 0x49 then setReg k f.rd.val (crcUpdate (bit f.imm.toNat 8) (reg k f.rd.val) p.bytes)
  else if op = 0x60 ∨ op = 0x61 then setReg k f.rd.val (ofLe p.bytes)
  else if op = 0x62 then { setReg k f.rd.val (ofLe p.bytes) with z := p.flag }
  else if op = 0x63 then { setReg (setReg k f.rd.val (fieldLe p.bytes 0 8)) (f.rd.val + 1) (fieldLe p.bytes 8 8) with z := p.flag }
  else if op = 0x70 then
    (if f.sz.val = 4 then setReg (setReg k f.rd.val (fieldLe p.bytes a 8)) (f.rd.val + 1) (fieldLe p.bytes (a + 8) 8)
     else setReg k f.rd.val (fieldLe p.bytes a (2 ^ f.sz.val)))
  else if op = 0x71 then { k with committed := true }
  else if op = 0x7A ∨ op = 0x7C then setReg k f.rd.val p.value
  else k

/-- The last reply of a memory step is in the context store: the step retires, or takes its fault. (Log 169: DEDUCED.) -/
def finishStep (s : State) (c : Nat) (p : Pend) : State :=
  let k := getCtx s c
  let s1 := endSample (clusterEvent s (ctxCluster c) 0x28 (if p.op = 0x49 ∨ (0x5A ≤ p.op ∧ p.op ≤ 0x5C) ∨ p.op = 0x6A then lineCount p.f else 0) (ctxInst k))
    (stamp s p.sample 5)
  let s2 := setCtx s1 c { awake (getCtx s1 c) with pend := none }
  if p.fault ≠ 0 then faultStep s2 c p.fault p.detail p.addr
  else if p.bad then faultStep s2 c 5 0 p.addr
  else
    let s3 := retire s2 c
    setCtx s3 c (replyRegs (getCtx s3 c) p)

/-- The lines that a host read brings are written into instance memory (XCPY). -/
def copyIn (s : State) (c : Nat) (p : Pend) (d : List Byte) : State :=
  let k := getCtx s c
  let dst := reg k p.f.rb.val
  let accs := (List.range (lineCount p.f)).map fun i =>
    { lineAccess s k p.op p.f (dst + 64 * i) with write := true, be := 2 ^ 64 - 1, data := padTo (slice d (64 * i) 64) 64 }
  let s1 := setCtx s c { k with pend := some { p with accs := accs, host := none, bytes := [] } }
  match accs with
  | a :: _ => drive 4096 s1 [accReq s1 c a []]
  | [] => s1

/-- A reply for a context (R236, R274): the completion of its host read, the answer of its BISnp, or the last of its memory replies. -/
def memoryReply (s : State) (c : Nat) (d : List Byte) (status : Nat) : State :=
  let k := getCtx s c
  match k.pend with
  | none => s
  | some p =>
    match p.host with
    | some (tag, addr, len) =>
      let s1 := match instFn s k.inst with
        | some fn => setFn s fn { getFn s fn with reads := (getFn s fn).reads.filter (· != (c, tag)) }
        | none => s
      if status ≠ 0 then finishStep s1 c { p with fault := 8, detail := status, addr := addr }
      else if p.op = 0x6A then copyIn s1 c p d
      else finishStep s1 c { p with bytes := padTo d len, host := none }
    | none =>
      match p.snoop with
      | some (q, line) => if (getLine s line).snoops.any (fun e => e.1 == q) then s else finishStep s c { p with snoop := none }
      | none =>
        if p.ready = false then s
        else if p.op = 0x6A ∧ bit p.f.imm.toNat 16 = true then
          -- instance to host: the lines leave, posted
          (match fnOpen s k.inst with
           | some fn => if p.bad then finishStep s c p else finishStep (emit s (.hostWrite fn (reg k p.f.ra.val) p.bytes)) c p
           | none => finishStep s c { p with fault := 7, addr := reg k p.f.ra.val })
        else finishStep s c p

/-- Host reads, as contexts with tags, end with a fault of their contexts and its detail. -/
def failReads (s : State) (l : List (Nat × Nat)) (code detail : Nat) : State :=
  l.foldl (fun a e =>
    match (getCtx a e.1).pend with
    | some p => (match p.host with
      | some (tag, addr, _) => if tag = e.2 then finishStep a e.1 { p with fault := code, detail := detail, addr := addr } else a
      | none => a)
    | none => a) s

/-- Host reads of a function that a block gives up (R95): their contexts take fault 0x07. -/
def dropReads (s : State) (l : List (Nat × Nat)) : State := failReads s l 7 0

/-! Starting invocations (R239, R300). -/

/-- The queues that a bound context serves, with an invocation waiting and room for its completion. -/
def startable (s : State) (i qs k : Nat) : Bool := bit qs k && !(ringOf s i k).isEmpty && !complFull s i k

/-- The queue that a context takes from next: strict queues, lowest k first; then the weighted queue it visits while the visit lasts, else the
next one with work. -/
def pickQueue (s : State) (i qs : Nat) (k : Ctx) : Option (Nat × Nat) :=
  match (List.range 4).find? fun q => startable s i qs q with
  | some q => some (q, k.visitLeft)
  | none =>
    if 4 ≤ k.visit ∧ 0 < k.visitLeft ∧ startable s i qs k.visit = true then some (k.visit, k.visitLeft - 1)
    else
      match ((List.range 12).map fun j => 4 + (k.visit - 4 + 1 + j) % 12).find? fun q => startable s i qs q with
      | some q => some (q, rd s 0x7100 3 (16 * i + q) - 1)
      | none => none

/-- A context takes an invocation: registers, flags, SP, BUDGET and START (R239). -/
def beginInvocation (s : State) (c tb inst : Nat) (dzt atom byQueue : Bool) (q tag ver budget : Nat) (args : List Nat) : State :=
  let k := getCtx s c
  let s1 := setCtx s c { k with
    st := 2, z := false, n := false, c := false, v := false, dz := false, dzt := dzt, atom := atom, inst := inst, table := tb, sp := 0
    budget := budget, start := tileCycles s (ctxTile c), queue := q, fault := 0
    w := (List.range 16).map fun j => if j < 7 then nth 0 args j % 2 ^ 64 else 0
    tag := tag, steps := 0, handler := false, committed := false, version := ver, byQueue := byQueue, pend := none, evmask := 0 }
  clusterEvent (bump s1 0x8100 9 tb 64 1) (ctxCluster c) 0x21 1 (if k.sys then none else some inst)

/-- The table an invocation names can start in a context's cluster: a vendor table, or a table of the instance that is resident there and not
unloading. (Log 100: DESIGN CHOICE.) -/
def tableFor (s : State) (c i tb : Nat) : Option (Nat × Nat) :=
  match getTable s tb with
  | some t =>
    if (tb < 512 ∨ (t.owner = i ∧ bit t.clusters (ctxCluster c) = true)) ∧ rd s 0x8100 1 tb = 2 then some (t.version, t.budget) else none
  | none => if vendorHere s tb then some (0, Config.vendorBudget tb) else none

/-- A bound context takes the next invocation of its queues; one whose table is not there completes at once with 0x0B and 0 steps. -/
def takeInvocation (s : State) (c : Nat) : State :=
  let k := getCtx s c
  let r := bindRec s c
  let i := bindInst r
  match pickQueue s i (bindQueues r) k with
  | none => s
  | some (q, left) =>
    match ringOf s i q with
    | [] => s
    | d :: rest =>
      let s1 := setRing s i q rest
      let k1 := getCtx s1 c
      let s2 := setCtx s1 c { k1 with visit := if q < 4 then k1.visit else q, visitLeft := left
                                      ext := if (List.range 16).any (fun j => bit (bindQueues r) j && !(ringOf s1 i j).isEmpty) then k1.ext else setBit k1.ext 0 false }
      let tb := fieldBe d 0 2 % 4096
      match tableFor s2 c i tb with
      | some (ver, budget) =>
        beginInvocation s2 c tb i (bit (fieldBe d 2 1) 0) false true q (fieldBe d 4 4) ver budget ((List.range 7).map fun j => fieldBe d (8 + 8 * j) 8)
      | none => pushCompl s2 i q (complBytes (fieldBe d 4 4) 0x0B 0 0 0)

/-- A context can start work: idle, its engine in service. -/
def canStart (s : State) (c : Nat) : Bool := (getCtx s c).st == 1 && engineOn s (getCtx s c).engine

/-- A pooled or system context starts a vendor table (R240 to R242). (Log 100: DESIGN CHOICE.) -/
def startVendor (s : State) (c : Nat) (x : VendorWork) : State :=
  let sys := decide (64 ≤ c % 128)
  if s.gecko.swapping.contains (ctxCluster c) ∨ (sys = false ∧ bindKind (bindRec s c) ≠ 2) ∨ (sys = true ∧ x.atom = true) then s
  else
    match tableFor s c x.inst.val x.table.val with
    | some (ver, budget) =>
      beginInvocation s c x.table.val (if sys then 0 else x.inst.val) false x.atom false 0 0 ver budget (x.args.map (·.toNat))
    | none => s

/-! Bindings (R238). -/

/-- The binding record of a context with records written from `start` on. -/
def newBinding (s : State) (e start : Nat) (recs : List Nat) (c : Nat) : Nat :=
  if c / 128 = e ∧ start ≤ c % 128 ∧ c % 128 < start + recs.length then nth 0 recs (c % 128 - start) else bindRec s c

/-- Contexts whose record is not the default. -/
def boundAll (s : State) : List Nat :=
  (s.tbl.filter fun x => x.1 / 4194304 / 65536 == 0x8000 * 256 + 7).map fun x => x.1 / 4194304 % 65536 * 128 + x.1 % 4194304

/-- A binding record of allowed values (Table 11-3). -/
def bindingForm (r : Nat) : Bool :=
  decide (bindKind r ≤ 2) && bindGroup r != 0xFF && (bindKind r == 1 || (bindGroup r == 0xFE && bindInst r == 0)) && decide (bindInst r < 4096)

/-- Steps that tables of other owners and this one take in a cluster's tenant area. -/
def tenantSteps (s : State) (cl : Nat) : Nat :=
  (s.gecko.tables.filter fun e => decide (512 ≤ e.1) && bit e.2.clusters cl).foldl (fun a e => a + e.2.steps.length) 0

/-- Clusters in which an instance holds a bound context. -/
def boundClusters (s : State) (i : Nat) : List Nat :=
  (List.range 32).filter fun cl => (boundAll s).any fun c => ctxCluster c == cl && bindKind (bindRec s c) == 1 && bindInst (bindRec s c) == i

/-- The tables of an owner are resident in every cluster where it holds a bound context, and in no other (R247). -/
def placeTables (s : State) (i : Nat) : State :=
  let mask := (boundClusters s i).foldl (fun a cl => a + 2 ^ cl) 0
  (s.gecko.tables.filter fun e => e.2.owner == i).foldl (fun a e =>
    wr { a with gecko := { a.gecko with tables := put a.gecko.tables e.1 { e.2 with clusters := mask } } } 0x8100 6 e.1 mask) s

/-- The tables of every owner fit in the tenant area of every cluster: 12,288 steps. -/
def tablesFit (s : State) : Bool := (List.range 32).all fun cl => decide (tenantSteps s cl ≤ 12288)

/-- The bound contexts of an instance are counted at 0x5000:05. -/
def countBound (s : State) (i : Nat) : State :=
  wr s 0x5000 5 i ((boundAll s).filter fun c => bindKind (bindRec s c) == 1 && bindInst (bindRec s c) == i).length

/-- A context takes its new binding: its scratch is zero, and it stands idle or free. -/
def rebind (s : State) (c r : Nat) : State :=
  let k := getCtx s c
  setCtx s c { clearCtx s c k with st := if bindKind r = 0 then 0 else 1, inst := if bindKind r = 1 then bindInst r else 0, wgroup := bindGroup r, scratch := []
                                   ext := 0, visit := 0, visitLeft := 0 }

/-- A chunk of binding records (R238): RANGE, then BUSY, else every record takes effect. -/
def bindingsWrite (s : State) (e start : Nat) (recs : List Nat) : State × Status :=
  let recs := recs.map fun r => r / 65536 * 65536
  let cs := (List.range recs.length).map fun j => e * 128 + start + j
  let new := newBinding s e start recs
  let all := (boundAll s ++ cs).eraseDups
  let others (c : Nat) : List Nat := all.filter (· != c)
  let bad (c : Nat) : Bool :=
    let r := new c
    bindKind r == 1 &&
      ((others c).any (fun d => bindKind (new d) == 1 && bindInst (new d) == bindInst r && (bindQueues (new d) &&& bindQueues r) != 0)
      || (decide (bindGroup r < 0xFE) && (others c).any fun d => bindKind (new d) == 1 && ctxCluster d == ctxCluster c
            && bindGroup (new d) == bindGroup r && bindInst (new d) != bindInst r)
      || decide (rd s 0x5000 4 (bindInst r) < (all.filter fun d => bindKind (new d) == 1 && bindInst (new d) == bindInst r).length))
  let pooled := ((List.range 64).filter fun j => bindKind (new (e * 128 + j)) == 2).length
  if recs = [] ∨ 64 < start + recs.length ∨ recs.any (fun r => !bindingForm r) ∨ cs.any bad ∨ pooled < rd s 0x8000 6 e then (s, .range)
  else if cs.any fun c => running (getCtx s c) then (s, .busy)
  else
    let old := (cs.filter fun c => bindKind (bindRec s c) == 1).map fun c => bindInst (bindRec s c)
    let now := (cs.filter fun c => bindKind (new c) == 1).map fun c => bindInst (new c)
    let s1 := cs.foldl (fun a c => rebind (wrTbl a 0x8000 7 e (c % 128) (new c)) c (new c)) s
    let is := (old ++ now).eraseDups
    let s2 := is.foldl (fun a i => completeUnserved (countBound (placeTables a i) i) i) s1
    if tablesFit s2 then (wakeBlocked s2, .ok) else (s, .busy)

/-! Loading and unloading (R248 to R250). -/

/-- The header of an image (Table 11-7) has its magic, its fields in range and its length. -/
def imageForm (v : List Byte) : Bool :=
  let n := fieldBe v 6 2
  fieldBe v 0 4 == 0x47535431 && decide (512 ≤ fieldBe v 4 2 ∧ fieldBe v 4 2 < 4096) && decide (1 ≤ n ∧ n ≤ 2048)
    && decide (1 ≤ fieldBe v 8 4 ∧ fieldBe v 8 4 ≤ 65536) && decide (fieldBe v 14 1 ≤ 7) && fieldBe v 15 1 == 0 && fieldBe v 16 8 == 0
    && fieldBe v 24 8 == 0 && v.length == 32 + 16 * n

/-- The steps of an image. -/
def imageSteps (v : List Byte) : List Nat := (List.range (fieldBe v 6 2)).map fun i => fieldBe v (32 + 16 * i) 16

/-- The tables of an owner. -/
def ownerTables (s : State) (i : Nat) : List Nat := (s.gecko.tables.filter fun e => e.2.owner == i).map (·.1)

/-- The REASON and step of the first rule of Table 11-8 that an image breaks, for an owner. -/
def verifyImage (s : State) (owner : Nat) (v : List Byte) : Option (Nat × Nat) :=
  let tb := fieldBe v 4 2
  let l := imageSteps v
  let mine := match getTable s tb with | some t => t.owner == owner | none => true
  if imageForm v = false then some (0xA1, 0xFFFF)
  else if mine = false then some (0xA2, 0xFFFF)
  else if 16 ≤ ((ownerTables s owner).filter (· != tb)).length then some (0xA3, 0xFFFF)
  else match verifySteps l (fieldBe v 12 2) (fieldBe v 8 4) with
    | some x => some x
    | none =>
      let used (cl : Nat) : Nat := tenantSteps s cl - (match getTable s tb with | some t => if bit t.clusters cl then t.steps.length else 0 | none => 0)
      if (boundClusters s owner).any fun cl => 12288 < used cl + l.length then some (0xAC, 0xFFFF)
      else if (boundClusters s owner).isEmpty then some (0xAD, 0xFFFF)
      else none

/-- Load of an image for an owner (R249): the REASON and step of the verifier, or the table resident. -/
def loadImage (s : State) (owner : Nat) (v : List Byte) : State × Nat × Nat :=
  let tb := fieldBe v 4 2
  let named := 512 ≤ tb ∧ tb < 4096
  match verifyImage s owner v with
  | some (reason, i) =>
    if named then
      let s1 := wr (wr s 0x8100 7 tb reason) 0x8100 8 tb i
      (if (getTable s tb).isSome then s1 else wr s1 0x8100 1 tb 3, reason, i)
    else (s, reason, i)
  | none =>
    let l := imageSteps v
    let s0 := match getTable s tb with
      | some t => { s with gecko := { s.gecko with old := put s.gecko.old (tb * 65536 + t.version % 65536) t } }
      | none => s
    let mask := (boundClusters s owner).foldl (fun a cl => a + 2 ^ cl) 0
    let t : StepTable := { owner := owner, budget := fieldBe v 8 4, entry := fieldBe v 12 2, steps := l, clusters := mask, version := s0.gecko.nextVersion }
    let s1 := { s0 with gecko := { s0.gecko with tables := put s0.gecko.tables tb t, nextVersion := s0.gecko.nextVersion + 1 } }
    let s2 := wr (wr (wr (wr s1 0x8100 1 tb 2) 0x8100 2 tb owner) 0x8100 3 tb l.length) 0x8100 4 tb t.budget
    let s3 := wr (wr (wr (wr s2 0x8100 5 tb (worstCase l t.entry)) 0x8100 6 tb mask) 0x8100 7 tb 0) 0x8100 8 tb 0xFFFF
    (dropTables (wr s3 0x8110 3 0 tb), 0, 0xFFFF)

/-- Unload (R250): absent for new invocations at once; gone when nothing runs it. -/
def unloadTable (s : State) (tb : Nat) : State :=
  match getTable s tb with
  | some _ => dropTables (wr s 0x8100 1 tb 4)
  | none =>
    if vendorHere s tb then dropTables (wr { s with gecko := { s.gecko with unloaded := s.gecko.unloaded ++ [tb] } } 0x8100 1 tb 4) else s

/-- Invocations of an unloaded table that still run end with 0x0B. -/
def unloadExpires (s : State) (tb : Nat) : State :=
  if rd s 0x8100 1 tb = 4 then
    ((s.gecko.ctxs.filter fun e => running e.2 && e.2.st != 6 && e.2.table == tb).map (·.1)).foldl (fun a c => endInvocation a c 0x0B) s
  else s

/-! Engines (R254 to R257). -/

/-- The contexts that an engine hosts and that are in use, in slot order. (Log 106: DEDUCED.) -/
def hosted (s : State) (e : Nat) : List Nat :=
  let own := (List.range 68).map (e * 128 + ·)
  let moved := (s.gecko.ctxs.filter fun x => x.2.engine == e && x.1 / 128 != e).map (·.1)
  ((own ++ moved).filter fun c => (getCtx s c).engine == e && (getCtx s c).st != 0).mergeSort fun a b => decide ((getCtx s a).slot ≤ (getCtx s b).slot)

/-- The free failover slots of an engine's siblings, in the order in which they are filled. -/
def failoverSlots (s : State) (e : Nat) : List (Nat × Nat) :=
  ((List.range 32).map (e / 32 * 32 + ·)).flatMap fun x =>
    if x = e ∨ engineOn s x = false then []
    else ([68, 69, 70, 71].filter fun sl => !(s.gecko.ctxs.any fun k => k.2.engine == x && k.2.slot == sl)).map fun sl => (x, sl)

/-- Failover slots free in a cluster (0x8010:03), of the engines in service. -/
def slotsFree (s : State) (cl : Nat) : Nat :=
  ((List.range 32).filter fun x => engineOn s (32 * cl + x)).length * 4
    - (s.gecko.ctxs.filter fun k => k.2.engine / 32 == cl && engineOn s k.2.engine && decide (68 ≤ k.2.slot)).length

/-- System contexts first, then pooled, then bound (R256). -/
def failRank (s : State) (c : Nat) : Nat := if 64 ≤ c % 128 then 0 else if bindKind (bindRec s c) = 2 then 1 else 2

/-- The contexts of an engine move to failover slots; those that find none are stopped, and their invocations end with 0x0A. The second component
says whether every one found a slot. -/
def moveContexts (s : State) (e : Nat) : State × Bool :=
  let cs := hosted s e
  let slots := failoverSlots s e
  let order := if cs.length ≤ slots.length then cs else cs.mergeSort fun a b => decide (failRank s a ≤ failRank s b)
  let s1 := (order.zip slots).foldl (fun a x => setCtx a x.1 { getCtx a x.1 with engine := x.2.1, slot := x.2.2 }) s
  let left := order.drop slots.length
  let s2 := left.foldl (fun a c => setCtx (endInvocation a c 0x0A) c { getCtx (endInvocation a c 0x0A) c with st := 6 }) s1
  let is := ((left.filter fun c => bindKind (bindRec s c) == 1).map fun c => bindInst (bindRec s c)).eraseDups
  (is.foldl completeUnserved s2, left.isEmpty)

/-- An engine fails (R254, R256); the memory steps that its contexts reissue are suppressed (R255). (Log 105: DESIGN CHOICE.) -/
def engineFails (s : State) (e : Nat) : State :=
  if engineOn s e then
    let again := (hosted s e).filter fun c => (getCtx s c).pend.isSome && (look [] s.gecko.replay e).contains (c, (getCtx s c).start, (getCtx s c).steps)
    let s0 := again.foldl (fun a c => clusterEvent a (e / 32) 0x29 1 (ctxInst (getCtx a c))) s
    let s1 := bump (wr s0 0x8000 2 e 2) 0x8000 5 e 32 1
    let x := moveContexts s1 e
    let s2 := raise x.1 (clusterSource (e / 32)) 3 .fault []
    if x.2 then s2 else raise s2 (clusterSource (e / 32)) 17 .critical []
  else s

/-- An engine returns to service (R257): its idle contexts move back at once; its stopped ones stay stopped until they are bound again. -/
def engineReturns (s : State) (e : Nat) : State :=
  let s1 := wr s 0x8000 2 e 1
  ((s1.gecko.ctxs.filter fun x => x.1 / 128 == e && x.2.engine != e && decide (x.2.st ≤ 1)).map (·.1)).foldl moveBack s1

/-- Target of an engine (0x8000:01): out of service, or back (R254, R257). -/
def engineTargetWrite (s : State) (e v : Nat) : State × Status :=
  let s1 := wr s 0x8000 1 e v
  if v = 0 then
    if engineOn s e = false then ({ s1 with gecko := { s1.gecko with checking := s1.gecko.checking.filter (· != e) } }, .ok)
    else if (failoverSlots s e).length < (hosted s e).length then (s, .busy)
    else ((moveContexts (wr s1 0x8000 2 e 0) e).1, .ok)
  else if rd s 0x8000 2 e = 0 then (engineReturns s1 e, .ok)
  else if rd s 0x8000 2 e = 2 then ({ s1 with gecko := { s1.gecko with checking := s1.gecko.checking.filter (· != e) ++ [e] } }, .ok)
  else (s1, .ok)

/-! The wait-cycle monitor (R253). -/

/-- The running contexts of a group. -/
def groupRunning (s : State) (cl g : Nat) : List (Nat × Ctx) :=
  s.gecko.ctxs.filter fun e => ctxCluster e.1 == cl && e.2.wgroup == g && running e.2 && e.2.st != 6

/-- A group is in a wait cycle: all its running contexts wait, on masks of group events, with no event of a mask pending and no invocation on a
queue that the group serves. -/
def inWaitCycle (s : State) (cl g : Nat) : Bool :=
  let l := groupRunning s cl g
  !l.isEmpty && l.all (fun e => e.2.st == 4 && decide (e.2.evmask < 2 ^ 24) && (pendingOf s e.1 &&& e.2.evmask) == 0)
    && (boundAll s).all fun c => !(ctxCluster c == cl && bindKind (bindRec s c) == 1 && bindGroup (bindRec s c) == g)
        || (List.range 16).all fun k => !bit (bindQueues (bindRec s c)) k || (ringOf s (bindInst (bindRec s c)) k).isEmpty

/-- The monitor declares a wait cycle: the youngest tenant context is aborted with 0x09; of the system group only the Fault is raised. -/
def waitCycle (s : State) (cl g : Nat) : State :=
  if g = 0xFE ∨ inWaitCycle s cl g = false then s
  else
    let s1 := bump s 0x8010 4 (32 * cl) 32 1
    let youngest := ((groupRunning s cl g).mergeSort fun a b => decide (b.2.start ≤ a.2.start)).head?
    match youngest with
    | some (c, _) =>
      if g = 0xFF then raiseEv s1 (clusterSource cl) 13 .fault 0 [g, c] true
      else
        let s2 := clusterEvent (bump s1 0x8010 5 (32 * cl) 32 1) cl 0x2A 1 (ctxInst (getCtx s c))
        raiseEv (stepFault s2 c 9 0 0) (clusterSource cl) 13 .fault 0 [g, c] true
    | none => s1

end Sys2Proof.Machine
end

