-- ==== Sys2Proof/Machine/InstOps.lean ====
section
/-!
DEFINITION. Instances (chapter 13): creation and destruction, presentation, HDM decoders, the dirty log, and the bytes of the tenant
mailbox's answers.
-/
namespace Sys2Proof.Machine

open Sys2Proof

/-! Creation and destruction (R278 to R280). -/

/-- The objects that are arrayed over an instance. -/
def instIndex (idx : Nat) : Bool :=
  [0x5000, 0x5010, 0x5020, 0x5100, 0x5200, 0x7000, 0x4310, 0x6810].contains idx

/-- An object key is one of an instance's, or of one of its queues. -/
def instKey (i key : Nat) : Bool :=
  let idx := key / 65536 / 256
  (instIndex idx && key % 65536 == i) || (idx == 0x7100 && key % 65536 / 16 == i)

/-- Every object of an instance holds its default, and nothing of it is kept elsewhere. -/
def resetInst (s : State) (i : Nat) : State :=
  let s1 := clearInstCounters s i
  { s1 with
    obj := delIf s1.obj fun k _ => instKey i k
    blob := delIf s1.blob fun k _ => instKey i k
    tbl := delIf s1.tbl fun k _ => instKey i (k / 4194304) || (k / 4194304 == okey 0x4120 1 0 && k % 4194304 / 8 == i)
    insts := del s1.insts i
    qos := { s1.qos with queues := delIf s1.qos.queues fun k _ => k / 16 == i, order := del s1.qos.order i
                         meters := delIf s1.qos.meters fun k _ => k / 4 == i, shapers := delIf s1.qos.shapers fun k _ => k / 16 == i } }

/-- Create (0x5001:01, R279). -/
def createWrite (s : State) (v : List Byte) : State × Status :=
  let n := fieldBe v 0 2
  let share := fieldBe v 2 2
  if v.length ≠ 8 then (s, .type)
  else if (4096 ≤ n ∧ n ≠ 0xFFFF) ∨ 4096 < share then (s, .range)
  else
    let pick := if n = 0xFFFF then (List.range 4096).find? fun i => !instExists s i else if instExists s n then none else some n
    match pick with
    | none => (cmdDone s 0x5001 1 0 (if n = 0xFFFF then 0x54 else 0x53), .ok)
    | some i =>
      let s1 := wr (wr (resetInst s i) 0x5000 1 i 1) 0x5000 4 i share
      (cmdDone (wr s1 0x5001 2 0 i) 0x5001 1 0 0, .ok)

/-! Decoders (R283). -/

/-- A decoder record is of allowed values. -/
def decForm (r : Nat) : Bool :=
  decide (decBase r % 0x10000000 = 0 ∧ decSize r % 0x10000000 = 0 ∧ decOffset r % 0x10000000 = 0)
    && decide (bits r 63 56 ≤ 4) && decide (bits r 55 48 ≤ 6) && decide (decPos r < decWays r)

/-- The bytes of an offset range that valid DC regions of an instance hold. -/
def inRegions (s : State) (i off n : Nat) : Bool :=
  let cover (x : Nat × Nat × Nat × Nat) : Nat := if dcValid x then min (off + n) (x.1 + x.2.1) - max off x.1 else 0
  n == (List.range 8).foldl (fun a r => a + cover (dcRegion s i r)) 0

/-- A range touches a shareable DC region. -/
def touchesShareable (s : State) (i off n : Nat) : Bool :=
  (List.range 8).any fun r =>
    let x := dcRegion s i r
    dcValid x && dcShareable x && decide (off < x.1 + x.2.1 ∧ x.1 < off + n)

/-- The modes of shared regions (Table 3-1). -/
def sharedMode (s : State) : Bool := modeNow s == 2 || modeNow s == 3 || modeNow s == 4

/-- Two ranges overlap. -/
def meet (a n b m : Nat) : Bool := decide (a < b + m ∧ b < a + n)

/-- A committed decoder keeps the rules of R283, beside the other committed ones. -/
def decOk (s : State) (i r : Nat) (others : List Nat) : Bool :=
  decForm r && (others.all fun o => !meet (decBase r) (decSize r) (decBase o) (decSize o) && !meet (decOffset r) (decSpan r) (decOffset o) (decSpan o))
    && inRegions s i (decOffset r) (decSpan r) && (!decBi r || sharedMode s) && (decBi r || !touchesShareable s i (decOffset r) (decSpan r))

/-- A record as it is stored: reserved bits 0. -/
def decStored (r : Nat) : Nat := r / 2 ^ 40 * 2 ^ 40 + bits r 34 32 * 2 ^ 32

def decWrite (s : State) (i d r : Nat) : State := wrTbl s 0x5020 1 i d (decStored r)

/-- The committed decoders of an instance but one. -/
def otherDecs (s : State) (i d : Nat) : List Nat :=
  ((List.range 8).filter fun x => x != d && decCommitted (decoderRec s i x)).map (decoderRec s i)

/-- The host commits a decoder through the LD's component registers: one that breaks a rule stays uncommitted. -/
def hostCommit (s : State) (i d r : Nat) : State :=
  let old := decoderRec s i d
  if rd s 0x5010 2 i ≠ 1 ∨ (decCommitted old = true ∧ bit old 34 = true) then s
  else if decCommitted r = false then decWrite s i d r
  else
    let ok := decOk s i r (otherDecs s i d)
    emit (decWrite s i d (if ok then r else r - 2 ^ 32)) (.decoder i d ok)

/-- The manager writes decoder records (0x5020:01): refused with RANGE when one that it commits breaks a rule. -/
def decodersWrite (s : State) (i start : Nat) (recs : List Nat) : State × Status :=
  let s1 := (List.range recs.length).foldl (fun a j => decWrite a i (start + j) (nth 0 recs j)) s
  let bad := (List.range 8).any fun d => decCommitted (decoderRec s1 i d) && !decOk s1 i (decoderRec s1 i d) (otherDecs s1 i d)
  if recs = [] ∨ 8 < start + recs.length ∨ bad then (s, .range) else (s1, .ok)

/-! The dirty log (R287 to R293). -/

/-- The highest end of the valid DC regions. -/
def dirtySpan (s : State) (i : Nat) : Nat :=
  (List.range 8).foldl (fun a r => if dcValid (dcRegion s i r) then max a ((dcRegion s i r).1 + (dcRegion s i r).2.1) else a) 0

/-- The KiB that a pair of bitmaps with their summaries takes. -/
def pairKib (span : Nat) : Nat :=
  let up (bytes : Nat) : Nat := ceilDiv bytes 65536 * 64
  2 * (up (ceilDiv span 32768) + up (ceilDiv span 16777216))

/-- The budget in force, in KiB. (Log 76: DEDUCED.) -/
def dirtyBudget (s : State) : Nat := s.sec.budgetAtBoot * 1048576

def getDirty (s : State) (i : Nat) : DirtySt := (getInst s i).dirty

def setDirty (s : State) (i : Nat) (d : DirtySt) : State := setInst s i { getInst s i with dirty := d }

/-- The summary lines that a bitmap marks. -/
def dirtyLines (m : SMap Bool) : List Nat := (m.map fun e => e.1 / 512).eraseDups

/-- The 64 bytes of a bitmap line. -/
def dirtyLine (m : SMap Bool) (line : Nat) : List Byte :=
  (List.range 64).map fun b => BitVec.ofNat 8 ((List.range 8).foldl (fun a j => if has m (line * 512 + 8 * b + j) then a + 2 ^ j else a) 0)

/-- The report of an epoch (Table 13-10). -/
def epochReport (epoch flags start stop : Nat) (m : SMap Bool) : List Byte :=
  be 4 epoch ++ be 4 flags ++ be 8 start ++ be 8 stop ++ be 8 m.length ++ be 4 (dirtyLines m).length ++ zeros 4

/-- The flags of the epoch that closes. -/
def epochFlags (d : DirtySt) (empty final : Bool) : Nat := b2n empty + 2 * b2n final + 4 * b2n d.allDirty + 8 * b2n d.extChanged

/-- An epoch closes: its bitmap is frozen, its report written, and the next epoch opens. -/
def closeEpoch (s : State) (i : Nat) (empty final : Bool) : State :=
  let d := getDirty s i
  let now := timeNow s
  let fl := epochFlags d empty final
  let s1 := wrBlob s 0x5200 5 i (epochReport d.epoch fl d.opened now (if empty then [] else d.active))
  setDirty s1 i { d with frozen := if empty then d.frozen else d.active, active := []
                         frozenEpoch := if empty = true ∧ d.transfer = true then d.frozenEpoch else d.epoch
                         frozenFlags := if empty = true ∧ d.transfer = true then d.frozenFlags else fl
                         epoch := d.epoch + 1, opened := now, allDirty := false, extChanged := false, flushing := true }

/-- The pair of bitmaps is released after a stop. -/
def releasePair (s : State) (i : Nat) : State :=
  let d := getDirty s i
  let s1 := wr s 0x5210 4 0 (rd s 0x5210 4 0 - d.kib)
  cmdEnd (setDirty s1 i { d with frozen := [], active := [], kib := 0, span := 0, kept := false, final := false }) 0x5200 2 i 2 0

/-- Start takes effect (R287). -/
def startLog (s : State) (i : Nat) : State :=
  let d := getDirty s i
  let kib := pairKib (dirtySpan s i)
  let fail (reason : Nat) : State := cmdEnd (wr (setDirty s i { d with startP := false, harvestP := false, stopP := false }) 0x5200 4 i 0) 0x5200 1 i 3 reason
  if dirtyBudget s < rd s 0x5210 4 0 + kib then fail 0x55
  else if 64 ≤ rd s 0x5210 3 0 then fail 0x56
  else
    let s1 := setDirty s i { d with startP := false, logging := true, span := dirtySpan s i, kib := kib, epoch := 1, opened := timeNow s
                                    active := [], frozen := [], kept := false, allDirty := false, extChanged := false }
    let s2 := wr (wr s1 0x5210 3 0 (rd s1 0x5210 3 0 + 1)) 0x5210 4 0 (rd s1 0x5210 4 0 + kib)
    cmdEnd (wr s2 0x5200 4 i (if d.stopP then 3 else 2)) 0x5200 1 i 2 0

/-- Logging ends with a final epoch. -/
def stopLog (s : State) (i : Nat) (empty : Bool) : State :=
  let s1 := closeEpoch s i empty true
  let s2 := setDirty s1 i { getDirty s1 i with stopP := false, logging := false, final := true }
  wr (wr s2 0x5210 3 0 (rd s2 0x5210 3 0 - 1)) 0x5200 4 i 0

/-- The boundary at one instance: Start, Harvest, Stop in this order (R290). A swap needs the other bitmap clear; when it was kept, it is
cleared first and the swap waits (R291). -/
def tickInst (s : State) (i : Nat) : State :=
  let d0 := getDirty s i
  if d0.final ∨ d0.clearing ∨ d0.flushing ∨ d0.transfer then s
  else
    let s1 := if d0.startP then startLog s i else s
    let opened := d0.startP
    let d1 := getDirty s1 i
    if d1.logging = false ∨ (d1.harvestP = false ∧ d1.stopP = false) then s1
    else if d1.kept = true ∧ d1.frozen ≠ [] then setDirty s1 i { d1 with clearing := true }
    else
      let s2 := if d1.harvestP then
          (let a := closeEpoch s1 i opened false
           setDirty a i { getDirty a i with harvestP := false, transfer := true, kept := false })
        else s1
      if d1.stopP then stopLog s2 i (opened || d1.harvestP) else s2

/-- A boundary of the device-wide tick. -/
def harvestTick (s : State) : State := (s.insts.map (·.1)).foldl tickInst s

/-- The mark caches have flushed: a Harvest without an address is complete, and a stopped log without a transfer gives up its pair. -/
def markFlushed (s : State) (i : Nat) : State :=
  let d := getDirty s i
  if d.flushing = false then s
  else
    let here := d.transfer && d.addr == 0
    let s1 := setDirty s i { d with flushing := false, transfer := d.transfer && !here, kept := if here then true else d.kept }
    let s2 := if here then cmdEnd s1 0x5200 3 i 2 0 else s1
    if (getDirty s2 i).final = true ∧ (getDirty s2 i).transfer = false then releasePair s2 i else s2

/-- The kept bitmap is clear; the swap waits for the next boundary. -/
def bitmapCleared (s : State) (i : Nat) : State :=
  let d := getDirty s i
  if d.clearing then setDirty s i { d with clearing := false, kept := false, frozen := [] } else s

/-- The report leaves for host memory of the manager's function (R292). -/
def harvestDone (s : State) (i : Nat) : State :=
  let d := getDirty s i
  if d.transfer = false ∨ d.flushing = true then s
  else
    let lines := dirtyLines d.frozen
    let n := min lines.length ((d.len - 32) / 72)
    let open_ := match mgrFn s with
      | some fn => if (getFn s fn).bme = true ∧ (getFn s fn).flr = false ∧ linkUp s (fn / 32) = true then some fn else none
      | none => none
    let whole := open_.isSome && n == lines.length && decide (32 ≤ d.len)
    let fl := if whole then d.frozenFlags else d.frozenFlags + 16
    let body := be 4 d.frozenEpoch ++ be 4 fl ++ be 8 n ++ be 8 d.frozen.length ++ zeros 8
      ++ (lines.take n).flatMap fun l => be 8 l ++ dirtyLine d.frozen l
    let s1 := match open_ with
      | some fn => if 32 ≤ d.len then emit s (.hostWrite fn d.addr body) else s
      | none => s
    let s2 := setDirty s1 i { d with transfer := false, kept := !whole, frozen := if whole then [] else d.frozen, frozenFlags := fl }
    -- the report object shows TRUNCATED while it is this epoch's
    let r := rdBlob s2 0x5200 5 i (zeros 40)
    let s3 := if fieldBe r 0 4 = d.frozenEpoch ∧ whole = false then wrBlob s2 0x5200 5 i (slice r 0 4 ++ be 4 fl ++ slice r 8 32) else s2
    let s4 := cmdEnd s3 0x5200 3 i 2 0
    if (getDirty s4 i).final then releasePair s4 i else s4

/-- The bitmaps of an instance change places (R275). -/
def swapBitmaps (s : State) (i : Nat) : State :=
  let d := getDirty s i
  if d.logging then setDirty s i { d with active := d.frozen, frozen := d.active } else s

/-- Start (0x5200:01). -/
def dirtyStartWrite (s : State) (i : Nat) : State × Status :=
  let d := getDirty s i
  if instExists s i = false then (s, .absent)
  else if d.stopP then (s, .busy)
  else if d.logging ∨ d.startP then (s, .ignored)
  else (wr (setDirty (cmdStart s 0x5200 1 i) i { d with startP := true }) 0x5200 4 i 1, .ok)

/-- Stop (0x5200:02). -/
def dirtyStopWrite (s : State) (i : Nat) : State × Status :=
  let d := getDirty s i
  if instExists s i = false then (s, .absent)
  else if (d.logging = false ∧ d.startP = false) ∨ d.stopP = true then (s, .ignored)
  else
    let s1 := setDirty (cmdStart s 0x5200 2 i) i { d with stopP := true }
    (if d.logging then wr s1 0x5200 4 i 3 else s1, .ok)

/-- Harvest (0x5200:03). -/
def dirtyHarvestWrite (s : State) (i : Nat) (v : List Byte) : State × Status :=
  let d := getDirty s i
  if instExists s i = false then (s, .absent)
  else if d.logging = false ∧ d.startP = false then (cmdDone s 0x5200 3 i 0x57, .ok)
  else if d.harvestP ∨ d.transfer then (s, .busy)
  else (setDirty (cmdStart s 0x5200 3 i) i { d with harvestP := true, addr := fieldBe v 0 8, len := fieldBe v 8 4 }, .ok)

/-- The log of an instance that is destroyed stops at once with a FINAL epoch (t1 of Table 13-3). -/
def abortLog (s : State) (i : Nat) : State :=
  let d := getDirty s i
  let s1 := if d.logging then stopLog s i false else setDirty s i { d with startP := false, stopP := false, harvestP := false }
  if (getDirty s1 i).final then releasePair (setDirty s1 i { getDirty s1 i with flushing := false, transfer := false, clearing := false }) i else s1

/-- Marks of the epoch may be lost (R293). -/
def loseMarks (s : State) (i : Nat) : State :=
  let d := getDirty s i
  if d.logging = true ∧ d.allDirty = false then raise (setDirty s i { d with allDirty := true }) (instSource i) 15 .notice [] else s

/-! Destruction (R280). -/

/-- t1 of Table 13-3: the log stops, invocations are discarded, contexts end and are free. Then every extent is force-released. -/
def stopInst (s : State) (i : Nat) : State :=
  let s1 := abortLog s i
  let s2 := setInst s1 i { getInst s1 i with rings := [], compls := [], destroying := 2 }
  let bound := boundCtxs s2 i
  let lent := (s2.gecko.ctxs.filter fun e => running e.2 && !e.2.sys && e.2.inst == i && e.2.st != 6).map (·.1)
  let s3 := (lent ++ bound).foldl stopRun s2
  let s4 := bound.foldl (fun a c => rebind (wrTbl a 0x8000 7 (c / 128) (c % 128) (0xFE * 2 ^ 48)) c (0xFE * 2 ^ 48)) s3
  let s5 := placeTables (countBound s4 i) i
  (instExtents s5 i).foldl (fun a e =>
    let x := getExt a e
    if x.st = 1 then withdrawOffer a e 0x6F
    else if x.st = 2 then beginRelease (dcEvent a 2 x) e
    else if x.st = 4 then beginRelease a e
    else a) s5

/-- t3 of Table 13-3: when no extent is left, the instance is free and every object of it holds its default. -/
def destroyComplete (s : State) (i : Nat) : State :=
  if (getInst s i).destroying = 2 ∧ (instExtents s i).isEmpty = true then
    let gone := (s.gecko.tables.filter fun e => e.2.owner == i).map (·.1)
    let s1 := gone.foldl (fun a tb =>
      let b := wr (wr (wr (wr (wr (wr a 0x8100 1 tb 0) 0x8100 2 tb 0xFFFF) 0x8100 3 tb 0) 0x8100 4 tb 0) 0x8100 5 tb 0) 0x8100 6 tb 0
      { b with gecko := { b.gecko with tables := del b.gecko.tables tb } }) s
    let w := rd s1 0x5000 3 i
    cmdEnd (wr (resetInst s1 i) 0x5000 3 i w) 0x5000 3 i 2 0
  else s

/-! Presentation (R281, R282). -/

/-- The share sets that an instance's extents name. -/
def instShareSets (s : State) (i : Nat) : List Nat :=
  ((instExtents s i).filter fun e => (getExt s e).shared).map fun e => (getExt s e).shareSet

/-- The other instances on a USP, presented or being bound as LDs. -/
def lodgers (s : State) (i p : Nat) : List Nat :=
  (s.insts.filter fun e => e.1 != i && (rd s 0x5010 2 e.1 == 1 || (rd s 0x5010 2 e.1 == 3 && rd s 0x5010 1 e.1 == 1)) && e.2.usp == p).map (·.1)

/-- A bind as an LD is possible (R281, R181). (Log 219: DESIGN CHOICE.) -/
def bindOk (s : State) (i p ld : Nat) : Bool :=
  let l := lodgers s i p
  instExists s i && rd s 0x5000 1 i != 3 && decide (p < 64) && portExists s p && actingRole s p == 1 && decide (l.length < 16)
    && l.all (fun j => (getInst s j).ld != ld && (instShareSets s i).all fun x => !(instShareSets s j).contains x)

/-- The bind reaches its actual state: an LD is announced as a hot-added device. -/
def bindDone (s : State) (i : Nat) : State :=
  if rd s 0x5010 2 i = 3 then
    let s1 := wr (wr s 0x5010 2 i (rd s 0x5010 1 i)) 0x5000 1 i (if rd s 0x5000 1 i = 1 then 2 else rd s 0x5000 1 i)
    if rd s 0x5010 1 i = 1 then emit s1 (.ldHotPlug (getInst s i).usp (getInst s i).ld true) else s1
  else s

/-- A bind to the target, when it is possible, reaches its actual state (R281). -/
def startBind (s : State) (i : Nat) : State :=
  let p := rd s 0x5010 3 i
  let ld := rd s 0x5010 4 i
  if rd s 0x5010 1 i = 1 ∧ bindOk s i p ld = true then
    bindDone (wr (setInst s i { getInst s i with usp := p, ld := ld }) 0x5010 2 i 3) i
  else if rd s 0x5010 1 i = 2 ∧ modeNow s = 3 ∧ instExists s i = true then
    bindDone (wr (setInst s i { getInst s i with usp := 0xFF, ld := 0 }) 0x5010 2 i 3) i
  else s

/-- Step 1 of R282: requests of the presentation are no longer accepted. A bind under way is given up. -/
def beginUnbind (s : State) (i : Nat) : State :=
  let a := rd s 0x5010 2 i
  if a = 1 ∨ a = 2 then wr s 0x5010 2 i 4 else if a = 3 then wr s 0x5010 2 i 0 else s

/-- The key ranges of an instance's HDM-DB ranges: of a GFD, all its extents. -/
def hdmDbRanges (s : State) (i : Nat) : List (Nat × Nat) :=
  let decs := ((List.range 8).map (decoderRec s i)).filter fun r => decCommitted r && decBi r
  (instExtents s i).flatMap fun e =>
    let x := getExt s e
    if (getInst s i).usp = 0xFF then [(extDpa x, extDpa x + extBytes x - 1)]
    else decs.filterMap fun r =>
      let lo := max x.offset (decOffset r)
      let hi := min (x.offset + extBytes x) (decOffset r + decSpan r)
      if lo < hi then some (extDpa x + (lo - x.offset), extDpa x + (hi - x.offset) - 1) else none

/-- The unbind is complete: decoders are uncommitted (step 5); a destroy goes on, or a rebind starts. -/
def unbound (s : State) (i : Nat) : State :=
  let x := getInst s i
  let s1 := (List.range 8).foldl (fun a d => if decCommitted (decoderRec a i d) then wrTbl a 0x5020 1 i d (decoderRec a i d - 2 ^ 32) else a) s
  let s2 := wr (wr s1 0x5010 2 i 0) 0x5000 1 i (if rd s1 0x5000 1 i = 2 then 1 else rd s1 0x5000 1 i)
  let s3 := if x.usp < 64 then emit s2 (.ldHotPlug x.usp x.ld false) else s2
  if x.destroying = 1 then stopInst s3 i else startBind s3 i

/-- Host requests of an instance that were accepted and are not complete: held in its queues, or at their lines (R282, Table 14-7). -/
def stillAccepted (s : State) (i : Nat) : Bool :=
  heldCount s i != 0
    || s.coh.lines.any fun e => (e.2.cur.toList ++ e.2.chain).any fun r => r.inst == i && decide (r.agent < 64)

/-- Steps 2 to 4 of R282: accepted requests complete first; host-memory steps fault, and the old host's tracked lines are called back. -/
def unbind (s : State) (i : Nat) : State :=
  if rd s 0x5010 2 i ≠ 4 ∨ stillAccepted s i = true then s
  else
    let x := getInst s i
    let fn := fnKey x.usp x.ld
    let reads := if x.usp < 64 then (getFn s fn).reads else []
    let s1 := if x.usp < 64 then setFn s fn { getFn s fn with heldTags := (getFn s fn).heldTags ++ reads.map (·.2), reads := [] } else s
    let s2 := dropReads s1 reads
    let ranges := hdmDbRanges s2 i
    if ranges = [] then unbound s2 i
    else startRbi s2 { ranges := ranges, port := if x.usp < 64 then some x.usp else none, why := .unbind i }

/-- Target (0x5010:01). (Log 174: DESIGN CHOICE; log 219: DESIGN CHOICE.) -/
def bindTargetWrite (s : State) (i v : Nat) : State × Status :=
  let a := rd s 0x5010 2 i
  let set := wr s 0x5010 1 i v
  if v = 0 then (beginUnbind set i, .ok)
  else if (v = 1 ∧ (a ≠ 1 ∧ bindOk s i (rd s 0x5010 3 i) (rd s 0x5010 4 i) = false)) ∨ (v = 2 ∧ (modeNow s ≠ 3 ∨ instExists s i = false)) then (s, .range)
  else if a = v ∨ a = 4 then (set, .ok)
  else if a = 0 ∨ a = 3 then (startBind set i, .ok)
  else (beginUnbind set i, .ok)

/-- USP and LD-ID (0x5010:03 and :04): a change while bound as an LD is a rebind. (Log 219: DESIGN CHOICE.) -/
def bindPlaceWrite (s : State) (i sub v : Nat) : State × Status :=
  let a := rd s 0x5010 2 i
  let set := wr s 0x5010 sub i v
  let p := rd set 0x5010 3 i
  let ld := rd set 0x5010 4 i
  if sub = 3 ∧ 64 ≤ v ∧ v ≠ 0xFF then (s, .range)
  else if (a = 1 ∨ (a = 3 ∧ rd s 0x5010 1 i = 1)) ∧ (p ≠ (getInst s i).usp ∨ ld ≠ (getInst s i).ld) then
    (if bindOk s i p ld = false then (s, .range)
     else if a = 1 then (beginUnbind set i, .ok)
     else (startBind set i, .ok))
  else (set, .ok)

/-- A number of 0x5010 by its name. -/
def bindSub (x : BindSub) : Nat := match x with | .target => 1 | .usp => 3 | .ldId => 4

/-- A write of 0x5010. -/
def presentationWrite (s : State) (i sub v : Nat) : State × Status :=
  if sub = 1 then bindTargetWrite s i v else bindPlaceWrite s i sub v

/-- Destroy (0x5000:03). -/
def destroyWrite (s : State) (i : Nat) : State × Status :=
  if instExists s i = false then (s, .absent)
  else
    let a := rd s 0x5010 2 i
    let s1 := beginUnbind (wr (cmdStart s 0x5000 3 i) 0x5000 1 i 3) i
    let s2 := setInst s1 i { getInst s1 i with destroying := 1, background := none }
    if a = 1 ∨ a = 2 ∨ a = 4 then (s2, .ok) else (stopInst s2 i, .ok)

end Sys2Proof.Machine
end

