-- ==== Sys2Proof/Machine/Switch.lean ====
section
/-!
DEFINITION. The commands of the switch core and Tidelinks (chapter 6) that touch nothing beyond them.
-/
namespace Sys2Proof.Machine

open Sys2Proof

/-- What a dropped cell leaves behind (R127, R129, Table 6-12): a request gets the synthetic completion of one sent on a lost link, a
response is replaced by one, a posted request is dropped and counted. -/
def cellLost (s : State) (c : Cell) : State :=
  let m := c.msg
  if c.ctrl ≠ .none ∨ c.last = false then s
  else match c.job with
    | .request r => cutAnswer s r
    | .leaving e k =>
      (match e.out with
       | .rsp tag (.drs _ _ v) => pushEgress s m.dst { e with out := .rsp tag (.drs (zeros 64) true v) }
       | .rsp tag (.ndr _ v) => pushEgress s m.dst { e with out := .rsp tag (.ndr 0 v) }
       | .rsp tag _ => pushEgress s m.dst { e with out := .rsp tag (.io 2 []) }
       | .snoop _ _ => cutSnoop s k m.dst
       | .fill _ => fillAway s k
       | _ => s)
    | .none =>
      let s := endSample s (flagSample m.sample 32)
      match m.kind with
      | .ioPosted => bump s 0x2200 6 m.dst 64 1
      | .ioCompletion =>
        (match s.txns.find? fun x => x.src == m.dst && x.dst == m.src && x.tag == m.tag with
         | some x => synthetic { s with txns := s.txns.filter (· != x) } x.dst { x with sent := true }
         | none => emit (bump s 0x2200 7 m.dst 64 1) (.response m.dst m.tag (.io 2 [])))
      | _ =>
        match s.txns.find? fun x => x.src == m.src && x.dst == m.dst && x.tag == m.tag with
        | some x => synthetic { s with txns := s.txns.filter (· != x) } m.dst { x with sent := true }
        | none => synthetic s m.dst { kind := m.kind, src := m.src, dst := m.dst, tag := m.tag, sent := true }

/-- The cells of a tile that a test names are dropped: queued, at the ingress, or held for a re-pin. -/
def dropCells (s : State) (t : Nat) (p : Cell → Bool) : State :=
  let x := getTile s t
  let held := x.repins.flatMap fun r => r.held.filter p
  let gone := x.voq.filter p ++ held
  let s1 := setTile s t { x with voq := x.voq.filter fun c => !p c
                                 ingress := x.ingress.filter fun c => !p c
                                 repins := x.repins.map fun r => { r with held := r.held.filter fun c => !p c } }
  let s2 := gone.foldl (fun a c => freeCell a t c.num) s1
  (gone ++ x.ingress.filter p).foldl cellLost s2

/-- The queued cells bound for the far side of a crossing, and those landed from it (Table 6-9). -/
def crossingCells (x : Nat) (c : Cell) : Bool :=
  if x < 16 then c.xpOut == x / 2
  else if x < 18 then decide (14 ≤ c.xpOut ∧ c.xpOut < 20)
  else if x < 30 then
    let j := (x - 18) / 4
    c.xpOut == 8 + 2 * j || c.xpOut == 9 + 2 * j || c.xpIn == 8 + 2 * j || c.xpIn == 9 + 2 * j
  else if x < 33 then
    let j := x - 30
    c.xpOut == 8 + 2 * j || c.xpOut == 9 + 2 * j
  else c.xpOut == 22

/-- A crossing is closed until it is re-established: later items from the reset side are discarded (R127). -/
def closeCrossing (s : State) (t x : Nat) : State :=
  let y := getTile s t
  setTile s t { y with closed := if y.closed.contains x then y.closed else x :: y.closed }

/-- A reset token arrives at a crossing (R127). -/
def resetToken (s : State) (t x : Nat) : State := dropCells (closeCrossing (crossed s t x 1) t x) t (crossingCells x)

/-- The tokens of a reset of a port group, of an HBM stack or of the Headland die at the crossings of a tile (R127): from a side whose
links or memory stay down nothing comes until they are up again. (Log 208: DEDUCED.) -/
def resetSide (s : State) (t : Nat) (xs : List Nat) : State := xs.foldl (fun a x => dropCells (crossed a t x 1) t (crossingCells x)) s

/-- The crossings of a port group. -/
def groupCrossings (g : Nat) : List Nat := [2 * (g % 8), 2 * (g % 8) + 1]

/-- The link of a Tidelink crossing of a tile. -/
def crossingLink (t x : Nat) : Option Nat :=
  if 18 ≤ x ∧ x < 30 then some (tileLink t ((x - 18) / 4)) else if 30 ≤ x ∧ x < 33 then some (tileLink t (x - 30)) else none

/-- The far side of a crossing is in reset or has its clock stopped by a power handshake, so it cannot time out (R128). -/
def crossingStopped (s : State) (t x : Nat) : Bool :=
  match crossingLink t x with
  | some l => !linkCarries s l
  | none =>
    if x < 16 then rd s 0x9000 2 (32 * t + 9 + x / 2) != 0 else if x < 18 then rd s 0x9000 2 (32 * t + 21) != 0
    else rd s 0x9000 2 129 != 0

/-- A crossing holds an item (R128): something waits on its way, in a tile's queues, at a scheduler behind it, or on its link; of the
Headland die a request of the dictionary window. (Log 205: DESIGN CHOICE.) -/
def crossingHolds (s : State) (t x : Nat) : Bool :=
  let y := getTile s t
  (y.voq ++ y.ingress ++ y.repins.flatMap (·.held)).any (crossingCells x)
    || (match crossingLink t x with
        | some l => [(getLink s l).up, (getLink s l).down].any fun d => !d.filling.isEmpty || !d.replay.isEmpty
        | none =>
          if x < 16 then !(egressOf s (16 * t + x / 2 * 2)).isEmpty || !(egressOf s (16 * t + x / 2 * 2 + 1)).isEmpty
          else if x < 18 then !(egressOf s (64 + t)).isEmpty
          else s.mgmt.odwBusy)

/-- RESET_TOKEN (R127). -/
def execResetToken (t : TileN) (x : CrossN) (s : State) : Host.Outcome State Fault Refusal := .next (resetToken s t.val x.val)

/-- CROSSING_TIMEOUT (R128): a Fault on the tile's crossing source; two Tidelink crossings of one link fail the link. -/
def execCrossingTimeout (t : TileN) (x : CrossN) (s : State) : Host.Outcome State Fault Refusal :=
  .next <|
    if crossingStopped s t.val x.val ∨ crossingHolds s t.val x.val = false then s
    else
      let s1 := raise (bump (crossed s t.val x.val 2) 0x3000 6 t.val 32 1) (0x3200 + t.val) 6 .fault []
      let s2 := dropCells (closeCrossing s1 t.val x.val) t.val (crossingCells x.val)
      match crossingLink t.val x.val with
      | none => s2
      | some l =>
        let seen := (getLink s2 l).timeouts
        let key := t.val * 64 + x.val
        if seen.contains key then s2
        else if seen = [] then setLink s2 l { getLink s2 l with timeouts := [key] }
        else failLink s2 l false

/-- TIDELINK_FLIT (R118, R119): a group resent four times without acknowledgement fails the link (R123). -/
def execTidelinkFlit (l : LinkN) (d : LinkDir) (f : TlFlit) (s : State) : Host.Outcome State Fault Refusal :=
  .next <|
    if linkCarries s l.val then
      let s1 := receiveFlit s l.val d f
      if replayExhausted s1 l.val .up ∨ replayExhausted s1 l.val .down then failLink s1 l.val false else s1
    else s

/-- ACK_TIMEOUT (R119): the sender resends from the oldest unacknowledged group. -/
def execAckTimeout (l : LinkN) (d : LinkDir) (s : State) : Host.Outcome State Fault Refusal :=
  .next <|
    if linkCarries s l.val then
      let s1 := resendGroups s l.val d
      if replayExhausted s1 l.val d then failLink s1 l.val false else s1
    else s

/-! The balancer (R115). -/

/-- The directed hops of a path. -/
def pathHops (a b v : Nat) : List (Nat × Nat) := if v = 0 then [(a, b)] else [(a, pathHop a b v), (pathHop a b v, b)]

/-- Cells that a directed hop is projected to carry in a period: those of all pairs' entries in their last periods (0x3210:08), on the
paths that re-pins take them to. -/
def hopCells (s : State) (h : Nat × Nat) : Nat :=
  (List.range 4).foldl (fun acc a => (otherTiles a).foldl (fun acc2 b =>
    (List.range 256).foldl (fun acc3 e =>
      if (pathHops a b (plannedPath s a b e)).contains h then acc3 + rdTbl s 0x3210 8 a (pathRec a b e) 0 else acc3) acc2) acc) 0

/-- The width of a directed hop: 64, or 32 narrowed. -/
def hopWidth (s : State) (h : Nat × Nat) : Nat :=
  let l := linkBetween h.1 h.2
  rd s 0x3100 (if (linkEnds l).1 = h.1 then 3 else 4) l

/-- The load of a hop against its capacity: cells, twice for a narrowed direction. -/
def hopLoad (s : State) (h : Nat × Nat) : Nat := hopCells s h * (if hopWidth s h = 32 then 2 else 1)

/-- The load is above a percentage of the capacity, 384 GB/s: cells of 128 bytes in a period of milliseconds. -/
def overLoad (load period percent : Nat) : Bool := decide (percent * 384000000000 * period < load * 128 * 1000 * 100)

/-- The load is below a percentage of the capacity. -/
def underLoad (load period percent : Nat) : Bool := decide (load * 128 * 1000 * 100 < percent * 384000000000 * period)

/-- The most loaded hop of a path. -/
def pathLoad (s : State) (a b v : Nat) : Nat := (pathHops a b v).foldl (fun m h => max m (hopLoad s h)) 0

/-- The values of the paths that entries of a pair use. -/
def usedPaths (s : State) (a b : Nat) : List Nat :=
  (List.range 3).filter fun v => (List.range 256).any fun e => plannedPath s a b e == v

/-- The entries of a pair on a path, heaviest first. (Log 70: DESIGN CHOICE.) -/
def heaviest (s : State) (a b : Nat) (p : Nat → Bool) : List Nat :=
  ((List.range 256).filter fun e => p (plannedPath s a b e)).mergeSort fun x y =>
    decide (rdTbl s 0x3210 8 a (pathRec a b y) 0 ≤ rdTbl s 0x3210 8 a (pathRec a b x) 0)

/-- The balancer acts on one ordered pair of tiles. (Log 70: DESIGN CHOICE.) -/
def balancePair (s : State) (a b : Nat) : State :=
  let period := rd s 0x3210 3 a
  let used := usedPaths s a b
  let live := livePaths s a b
  let quota := rd s 0x3210 5 a
  let worst := used.foldl (fun m v => if pathLoad s a b m < pathLoad s a b v then v else m) (nth 0 used 0)
  if overLoad (pathLoad s a b worst) period (rd s 0x3210 4 a) then
    match (live.filter (· != worst)) with
    | [] => s
    | v0 :: vs =>
      let best := vs.foldl (fun m v => if pathLoad s a b v < pathLoad s a b m then v else m) v0
      ((heaviest s a b (· == worst)).take quota).foldl (fun x e => repin x a b e best) s
  else if used.all (fun v => underLoad (pathLoad s a b v) period (rd s 0x3210 6 a)) ∧ live.contains 0 then
    ((heaviest s a b (· != 0)).take quota).foldl (fun x e => repin x a b e 0) s
  else s

/-- BALANCER_PERIOD (R115, R326): the period's cells become the entry loads; with the balancer enabled, and no mode transition
quiescing the path table, it acts on each pair in turn (Table 6-6). -/
def execBalancerPeriod (t : TileN) (s : State) : Host.Outcome State Fault Refusal :=
  .next <|
    let load := (getTile s t.val).load
    let s1 := (List.range 768).foldl (fun a k => wrTbl a 0x3210 8 t.val k (look 0 load k % 2 ^ 32)) s
    let s2 := setTile s1 t.val { getTile s1 t.val with load := [] }
    if rd s2 0x3210 2 t.val = 1 ∧ (rd s2 0x1200 3 0 = 0 ∨ s2.mode.touched.contains (okey 0x3210 1 t.val) = false) then
      (otherTiles t.val).foldl (fun a b => balancePair a t.val b) s2
    else s2

/-- A chunk written to the path table (R113, R116, Table 6-6): RANGE for a value above 2, BUSY for a path with a failed link,
the whole chunk unchanged; else each changed entry is re-pinned. -/
def pathTableWrite (s : State) (t start : Nat) (vals : List Nat) : State × Status :=
  if 768 < start + vals.length ∨ vals = [] then (s, .range)
  else if vals.any (fun v => decide (2 < v)) then (s, .range)
  else
    let recs := vals.mapIdx fun i v => (nth 0 (otherTiles t) ((start + i) / 256), (start + i) % 256, v)
    if recs.any (fun e => rd s 0x3100 2 (linkBetween t e.1) == 5 && e.2.2 == 0
        || (pathLinks t e.1 e.2.2).any fun l => rd s 0x3100 2 l == 5) then (s, .busy)
    else (recs.foldl (fun a e => if pathValue a t e.1 e.2.1 = e.2.2 then a else repin a t e.1 e.2.1 e.2.2) s, .ok)

/-- The checks of R431 on a chunk write of a TABLE or BLOB object (checks 1 to 4 by the item; TYPE for a scalar; the chunk's
lock and quiescence). -/
def chunkChecks (s : State) (r : Requester) (it : Item) : Option Status :=
  match reachChecks s r it true with
  | some st => some st
  | none =>
    match descOf it.idx it.sub with
    | none => some .absent
    | some d =>
      if d.acc = .ro then some .readOnly
      else if d.ty ≠ .table ∧ d.ty ≠ .blob then some .type
      else if it.cond.isSome ∧ it.cond ≠ some (changeOf s it.idx it.sub (itemQual r d it)) then some .conflict
      else if modeLocked s it.idx it.sub (itemQual r d it) then some .busy
      else if d.acc = .rwq ∧ unitQuiesced s it.idx (itemQual r d it) = false then some .notQuiesced
      else none

/-- A chunk write by a command with a row of its own. -/
def rowChunk (s : State) (r : Requester) (idx sub q : Nat) (h : State → State × Status) : State :=
  match chunkChecks s r (rowItem idx sub q []) with
  | some st => emit s (.wrote idx sub q st)
  | none => emit (finishWrite idx sub q (h s)).1 (.wrote idx sub q (finishWrite idx sub q (h s)).2)

/-- PATH_TABLE_WRITE (R116). -/
def execPathTableWrite (r : Requester) (t : TileN) (start : Fin 768) (vals : List Byte) (s : State) :
    Host.Outcome State Fault Refusal :=
  .next (rowChunk s r 0x3210 1 t.val fun x => pathTableWrite x t.val start.val (vals.map (·.toNat)))

/-- FENCE_CELL (R116): the fence cell has come to the destination tile ahead of the scheduler's own turns. -/
def execFenceCell (t dst : TileN) (e : Byte) (cls : Fin 8) (s : State) : Host.Outcome State Fault Refusal :=
  .next (fenceArrives (takeFence s t.val dst.val e.toNat cls.val) t.val dst.val e.toNat cls.val)

/-- FENCE_ACK (R116). -/
def execFenceAck (t dst : TileN) (e : Byte) (s : State) : Host.Outcome State Fault Refusal :=
  .next (fenceAcked s t.val dst.val e.toNat)

/-- TIDELINK_LANE_LOSS (R122). -/
def execTidelinkLaneLoss (l : LinkN) (d : LinkDir) (lane : Fin 64) (s : State) : Host.Outcome State Fault Refusal :=
  .next (tlLaneLost s l.val d lane.val)

/-- TIDELINK_FAILURE (R123). -/
def execTidelinkFailure (l : LinkN) (s : State) : Host.Outcome State Fault Refusal := .next (failLink s l.val false)

/-- A tile awaits the dedup report of a failed link. -/
def awaitsDedup (s : State) (l t : Nat) : Bool :=
  if (linkEnds l).1 = t then (getLink s l).awaitLow else if (linkEnds l).2 = t then (getLink s l).awaitHigh else false

/-- DEDUP_REPORT (R123). -/
def execDedupReport (l : LinkN) (t : TileN) (grp : Byte) (s : State) : Host.Outcome State Fault Refusal :=
  .next (if awaitsDedup s l.val t.val then dedup s l.val t.val grp.toNat else s)

/-- A tile that gets no dedup report acts as on a reset token from the other tile: its replay groups' requests to that tile get synthetic
completions, two-hop cells that were not acknowledged go out on the direct path (R123, Table 6-12). -/
def dedupLost (s : State) (l t : Nat) : State :=
  let far := if (linkEnds l).1 = t then (linkEnds l).2 else (linkEnds l).1
  let x := outDir s t l
  let cells := x.replay.flatMap (·.cells) ++ x.filling
  let gone := cells.filter fun c => c.destTile == far
  let s1 := resendCells s l t (cells.filter fun c => c.destTile != far)
  let s2 := gone.foldl cellLost (gone.foldl (fun a c => freeCell a t c.num) s1)
  reported (dropCells s2 t fun c => c.destTile == far) l t

/-- DEDUP_TIMEOUT (R123). -/
def execDedupTimeout (l : LinkN) (t : TileN) (s : State) : Host.Outcome State Fault Refusal :=
  .next (if awaitsDedup s l.val t.val then dedupLost s l.val t.val else s)

/-- A Tidelink's target (0x3100:01): 0 disables it, which fails it (R123); 1 lets it train. -/
def tidelinkTargetWrite (s : State) (l v : Nat) : State × Status :=
  let s1 := wr s 0x3100 1 l v
  (if v = 0 then
    (if linkCarries s1 l then failLink s1 l true else if rd s1 0x3100 2 l = 1 then wr s1 0x3100 2 l 0 else s1)
   else if rd s1 0x3100 2 l = 0 ∧ rd s1 0x3000 2 (linkEnds l).1 = 3 ∧ rd s1 0x3000 2 (linkEnds l).2 = 3 then wr s1 0x3100 2 l 1
   else s1, .ok)

/-- TIDELINK_TARGET (R123). -/
def execTidelinkTarget (r : Requester) (l : LinkN) (v : Byte) (s : State) : Host.Outcome State Fault Refusal :=
  .next (rowWrite s r 0x3100 1 l.val [v] fun x => tidelinkTargetWrite x l.val v.toNat)

/-- Repair (0x3100:12): BUSY outside SERVICE; all lanes retrain. -/
def tidelinkRepairWrite (s : State) (l : Nat) : State × Status :=
  if modeNow s ≠ 5 then (s, .busy) else (wr (cmdStart s 0x3100 12 l) 0x3100 2 l 1, .ok)

/-- REPAIR (R117). -/
def execTidelinkRepair (r : Requester) (l : LinkN) (s : State) : Host.Outcome State Fault Refusal :=
  .next (rowWrite s r 0x3100 12 l.val [1] fun x => tidelinkRepairWrite x l.val)

/-- A direction as training leaves it: `n` lanes that stayed faulty, of which spares replace two; the count names the lowest lanes. (Log
206: DESIGN CHOICE.) (Log 206: DESIGN CHOICE.) -/
def trainedDir (n : Nat) : TlDir :=
  { dirInit with lost := (List.range (min n 64)), spared := (List.range (min n 2)) }

/-- The receive crossings of a link at a tile are re-established (R127). -/
def openLink (s : State) (t l : Nat) : State :=
  let y := getTile s t
  setTile s t { y with closed := y.closed.filter fun x => crossingLink t x != some l }

/-- A Tidelink finishes training (R117, R122): the faulty lanes that remain in each direction are spared, or narrow it, or
leave it failed. An alarm of a narrowed link ends when both directions are full again. -/
def linkTrained (s : State) (l up down : Nat) : State :=
  if rd s 0x3100 1 l = 0 ∨ linkCarries s l ∨ rd s 0x3000 2 (linkEnds l).1 ≠ 3 ∨ rd s 0x3000 2 (linkEnds l).2 ≠ 3 then s
  else
    let s0 := openLink (openLink s (linkEnds l).1 l) (linkEnds l).2 l
    let s1 := setLink s0 l { up := trainedDir up, down := trainedDir down, awaitLow := false, awaitHigh := false, timeouts := [] }
    let s2 := if dirWidth (trainedDir up) = 0 ∨ dirWidth (trainedDir down) = 0 then
        wr (wr (wr s1 0x3100 2 l 5) 0x3100 3 l 0) 0x3100 4 l 0
      else showLink s1 l
    if rd s2 0x3100 2 l = 2 ∨ rd s2 0x3100 2 l = 3 then endLevel s2 (0x3100 + l) 5 else s2

/-- TIDELINK_TRAINED (R117). -/
def execTidelinkTrained (l : LinkN) (up down : Byte) (s : State) : Host.Outcome State Fault Refusal :=
  .next (linkTrained s l.val up.toNat down.toNat)

/-- Repair ends: completed when every lane is clean, else REASON 0x61. -/
def repairEnd (s : State) (l err : Nat) : State :=
  if cmdRunning s 0x3100 12 l then
    let s1 := if linkCarries s l then s else linkTrained s l (if err = 0 then 0 else 1) 0
    cmdEnd s1 0x3100 12 l (if err = 0 then 2 else 3) (if err = 0 then 0 else 0x61)
  else s

/-- The reference map of a pass (R124): cells in the tile's queues, in its unacknowledged replay groups, or allocated, queued or handed
over since the last pass. -/
def referenced (s : State) (t n : Nat) : Bool :=
  let x := getTile s t
  x.voq.any (fun c => c.num == n) || x.repins.any (fun r => r.held.any fun c => c.num == n) || x.seen.contains n
    || ((List.range 6).filter (endOf · t)).any fun l => ((outDir s t l).filling ++ (outDir s t l).replay.flatMap (·.cells)).any fun c => c.num == n

/-- One pass of Beachcomber (R124, R125): allocated cells that are not referenced get a strike, those that the event names having lost
their holder among them; those struck in the pass before are leaked: returned to the free list, counted, the last one and its owner
recorded. (Log 207: DESIGN CHOICE.) -/
def beachPass (s0 : State) (t : Nat) (lost : List Nat) : State :=
  let y := getTile s0 t
  let s := setTile s0 t { y with voq := y.voq.filter fun c => !lost.contains c.num, seen := y.seen.filter fun n => !lost.contains n }
  let x := getTile s t
  let un := (x.owner.map (·.1)).filter fun n => !referenced s t n
  let leaks := un.filter fun n => x.struck.contains n
  let strikes := un.filter fun n => !x.struck.contains n
  let s1 := setTile s t { x with struck := strikes, seen := [], leaked := x.leaked || !leaks.isEmpty }
  let s2 := leaks.foldl (fun a n =>
    let k := look 0 (getTile a t).owner n
    wr (wr (bump (freeCell a t n) 0x3300 3 t 64 1) 0x3300 4 t n) 0x3300 5 t (k / 8 * 256 + k % 8)) s1
  let s3 := wr (bump s2 0x3300 2 t 64 1) 0x3300 6 t strikes.length
  let s4 := if x.leaked = false ∧ leaks ≠ [] then raise s3 (0x3300 + t) 10 .notice [] else s3
  if rd s 0x3300 7 t ≠ 0 ∧ rd s 0x3300 7 t ≤ leaks.length then raise s4 (0x3300 + t) 10 .fault [] else s4

/-- BEACHCOMBER_PASS (R124). -/
def execBeachcomberPass (t : TileN) (lost : List Nat) (s : State) : Host.Outcome State Fault Refusal :=
  .next (if rd s 0x3300 1 t.val = 1 then beachPass s t.val lost else s)

/-- Beachcomber's enable (0x3300:01): 0 stops passes and clears all strikes. -/
def beachEnableWrite (s : State) (t v : Nat) : State × Status :=
  let s1 := wr s 0x3300 1 t v
  (if v = 0 then wr (setTile s1 t { getTile s1 t with struck := [] }) 0x3300 6 t 0 else s1, .ok)

end Sys2Proof.Machine
end

