-- ==== Sys2Proof/Machine/LinkOps.lean ====
section
/-!
DEFINITION. What a link going up or down does beyond its own port (R93, R98, R195, R413, R435, Table 13-12).
-/
namespace Sys2Proof.Machine

open Sys2Proof

/-! Down. -/

/-- Messages bound for a port in queues and buffers of every tile are dropped; those without a transaction are counted here (R93). -/
def purgeTile (s : State) (t p : Nat) : State :=
  let x := getTile s t
  let mine (c : Cell) : Bool := c.msg.dst == p && c.ctrl == .none
  let gone := x.voq.filter mine
  let kept := x.repins.flatMap fun r => r.held.filter mine
  let s1 := setTile s t { x with voq := x.voq.filter fun c => !mine c
                                 ingress := x.ingress.filter fun c => !mine c
                                 repins := x.repins.map fun r => { r with held := r.held.filter fun c => !mine c } }
  let s2 := (gone ++ kept).foldl (fun a c => freeCell a t c.num) s1
  ((gone ++ kept ++ x.ingress.filter mine).filter (·.last)).foldl (fun a c => countDropped a c.msg) s2

/-- What waits at a port's scheduler is dropped and counted. -/
def purgeEgress (s : State) (p : Nat) : State :=
  let s1 := (egressOf s p).foldl (fun a m => match m.out with
    | .fwd x => countDropped a x
    | .fill _ => a
    | .specRd _ _ => a
    | _ => bump (endSample a m.sample) 0x2200 6 p 64 1) s
  setEgress s1 p []

/-- Cells bound for a port that are on a Tidelink are dropped where they arrive. -/
def purgeLinks (s : State) (p : Nat) : State :=
  let f (c : Cell) : Cell := if c.msg.dst = p ∧ c.ctrl = .none then { c with ctrl := .dropped } else c
  let g (x : TlDir) : TlDir := { x with filling := x.filling.map f, replay := x.replay.map fun y => { y with cells := y.cells.map f } }
  { s with links := mapVals s.links fun _ x => { x with up := g x.up, down := g x.down } }

def purge (s : State) (p : Nat) : State := purgeEgress (purgeLinks ((List.range 4).foldl (fun a t => purgeTile a t p) s) p) p

/-- Requests of a lost host that are still under way take no copy for it. -/
def untrack (s : State) (p : Nat) : State :=
  let f (r : Req) : Req := if r.agent = p then { r with tracked := false } else r
  { s with
    coh := { s.coh with lines := mapVals s.coh.lines fun _ l => { l with cur := l.cur.map f, chain := l.chain.map f }
                        full := mapVals s.coh.full fun _ l => l.map f }
    lit := { s.lit with moves := mapVals s.lit.moves fun _ m => { m with held := m.held.map f }, locked := mapVals s.lit.locked fun _ l => l.map f }
    qos := { s.qos with queues := mapVals s.qos.queues fun _ l => l.map f } }

/-- Step 2 of a credit retrain, and a lost link: the host's outstanding snoops count as answered with BIRspI (Table 5-6); what still
arrives for them is late. (Log 198: DEDUCED.) -/
def endSnoops (s : State) (p : Nat) : State :=
  let ks := (s.coh.lines.filter fun e => e.2.snoops.any fun x => x.1 == p).map (·.1)
  let s1 := ks.foldl (fun a k => cutSnoop a k p) s
  setPort s1 p { getPort s1 p with lateSnoops := (getPort s1 p).lateSnoops ++ ks }

/-- The reads of host memory by the functions of a USP that are outstanding end with Completer Abort; their tags are held (R91, Table
5-6). (Log 198: DEDUCED.) -/
def endReads (s : State) (p : Nat) : State :=
  (List.range 17).foldl (fun a n =>
    let k := fnKey p n
    let f := getFn a k
    let b := setFn a k { f with heldTags := f.heldTags ++ f.reads.map (·.2), reads := [] }
    failReads (bump b 0x2200 7 p 64 f.reads.length) f.reads 8 4) s

/-- Step 2 of a credit retrain (R91): every transaction of the port that awaits a response is ended. -/
def cutPort (s : State) (p : Nat) : State := endReads (endSnoops (cutOutstanding s p) p) p

/-- The block of a function takes effect, and its contexts see their reads dropped (R94, R95). -/
def blockReads (s : State) (k : Nat) : State :=
  let reads := (getFn s k).reads
  dropReads (blockFn s k) reads

/-- What a function-level reset does to the LD's instance (Table 13-12): bound contexts and loans end with 0x0A; queued invocations and
unfetched completions are discarded; the mailbox command is aborted. -/
def resetLd (s : State) (i : Nat) : State :=
  let s1 := setInst s i { getInst s i with rings := [], background := none }
  let lent := (s1.gecko.ctxs.filter fun e => running e.2 && !e.2.sys && e.2.inst == i && e.2.st != 6).map (·.1)
  let s2 := (lent ++ boundCtxs s1 i).foldl stopRun s1
  setInst s2 i { getInst s2 i with compls := [] }

/-- Decoders of an instance read uncommitted. -/
def uncommit (s : State) (i : Nat) : State :=
  (List.range 8).foldl (fun a d => if decCommitted (decoderRec a i d) then wrTbl a 0x5020 1 i d (decoderRec a i d - 2 ^ 32) else a) s

/-- A USP's functions and LDs at a hot reset or link-down: as an FLR of each, with decoders uncommitted; the presentation is kept. -/
def resetUsp (s : State) (p : Nat) : State :=
  let s1 := blockReads s (fnKey p 16)
  (presentedOn s1 p).foldl (fun a i => uncommit (resetLd (blockReads a (fnKey p (getInst a i).ld)) i) i) s1

/-- The pool target of a DSP. -/
def dspTarget (p : Nat) : Nat := p + 16

/-- A DSP acts as a pool target: 0x4000:01 is not 0 (R98). -/
def isPoolDsp (s : State) (p : Nat) : Bool := rd s 0x4000 1 (dspTarget p) != 0

/-- What becomes of the pool target behind a DSP (R98, R435, Table 7-17): lost at a removal, else kept while its link is away; a join fails;
a candidate is gone. -/
def targetDown (s : State) (p : Nat) (removal : Bool) : State :=
  let t := dspTarget p
  let st := tgtState s t
  if st = 1 then setTgt (wr s 0x4000 2 t 0) t { getTgt s t with devCap := 0 }
  else if st = 2 then failJoin s t 0x7F
  else if st = 3 ∨ st = 4 then
    (if removal then targetLost s t
     else cutRequests (setPort (setTgt s t { getTgt s t with away := true }) p { getPort s p with targetKept := true }) (onTarget t))
  else s

/-- A port's data link goes down (R93). (Log 55: DEDUCED; log 61: PRESUMED.) -/
def portDown (s : State) (p cause : Nat) (removal : Bool) : State :=
  let role := actingRole s p
  if linkUp s p then
    let s1 := if role = 2 then targetDown s p (removal || cause == 5) else s
    let s2 := purge (markWindow (linkDownLocal s1 p cause) p true) p
    let s3 := setPort { s2 with coh := { s2.coh with iscWait := s2.coh.iscWait.filter (· != p) }, sec := { s2.sec with spdm := del s2.sec.spdm p } } p
      { getPort s2 p with iscSelect := 0, llReinitEn := false, partnerCtrl := 0 }
    let s4 := wr s3 0xD010 3 p 0
    let s5 := if role = 1 ∨ role = 3 then loseHost (untrack s4 p) p else s4
    let s6 := if role = 1 then resetUsp s5 p else s5
    let s7 := if removal then
        (let a := setPort s6 p { getPort s6 p with presence := false }
         if isPoolDsp a p then a else emit a (.hotPlug p false))
      else s6
    if cause = 2 then s7 else raise s7 (portSource p) 7 .notice []
  else if cause = 8 ∧ rd s 0x2010 2 p ≠ 0 then wr (wr s 0x2010 2 p 1) 0x2010 8 p 8
  else if cause = 2 ∨ rd s 0x2010 1 p = 0 ∨ role = 0 then wr s 0x2010 2 p 0
  else s

/-! Up. -/

/-- A memory device behind a DSP is challenged (R413); whether it may be offered. (Log 62: DEDUCED.) -/
def attestDevice (s : State) (p : Nat) (x : Partner) : State × Bool :=
  let policy := rd s 0xD000 10 0
  if policy = 0 then (s, true)
  else
    let code := match x.attest with | none => 3 | some true => 1 | some false => 2
    let s1 := wrBlob (wr s 0xD010 1 p code) 0xD010 2 p (padTo x.digests 96)
    if code = 1 then (s1, true)
    else (raise s1 (0xD000 + p) 22 (if policy = 2 then .fault else .notice) [], policy == 1)

/-- A kept target's link has returned (R435): its device's decoders are programmed again, and it is served, when the device is the one it joined
with. (Log 62: DEDUCED.) -/
def targetReturns (s : State) (p : Nat) (x : Partner) : State :=
  let t := dspTarget p
  let y := getTgt s t
  let s1 := setPort s p { getPort s p with targetKept := false }
  match x.mem with
  | some d =>
    if d.serial.toNat = y.joinedSerial ∧ y.joinedCap ≤ d.capacity.toNat then programDevice (setTgt s1 t { y with away := false }) t y.mapped
    else targetLost s1 t
  | none => targetLost s1 t

/-- A lost target returns to state 1 once its link is up and its extents have all been released (R153). -/
def lostReturns (s : State) (t : Nat) : State :=
  let y := getTgt s t
  if 16 ≤ t ∧ tgtState s t = 6 ∧ linkUp s (t - 16) = true ∧ 0 < y.devCap ∧ (extentsWhere s fun x => extInUse x && x.target == t) = [] then
    candidateNow (leavePool (setTgt s t { y with away := false }) t) t
  else s

/-- DL_Up of a DSP (R98): a memory device of a pool target, or of a port bound to no vPPB, is offered; any other device is told to the
host. -/
def dspUp (s : State) (p : Nat) (x : Partner) : State :=
  let t := dspTarget p
  if (getTgt s t).away then (if (rd s 0xD000 10 0) = 0 then targetReturns s p x else targetReturns (attestDevice s p x).1 p x)
  else match x.mem with
    | some d =>
      if isPoolDsp s p = true ∨ boundToVppb s p = false then
        let y := attestDevice s p x
        if y.2 = false then y.1
        else if tgtState y.1 t = 6 then
          lostReturns (noteDevice y.1 t d) t
        else if tgtState y.1 t = 0 ∨ tgtState y.1 t = 1 then candidate y.1 t d
        else if tgtState y.1 t = 5 ∨ tgtState y.1 t = 7 then candidate (leavePool y.1 t) t d
        else noteDevice y.1 t d
      else emit s (.hotPlug p true)
    | none => if isPoolDsp s p then s else emit s (.hotPlug p true)

/-- The highest version of inter-switch coherence on both sides, 0 none (R195). (Log 59: DESIGN CHOICE.) -/
def iscCommon (s : State) (x : Partner) : Nat :=
  let v := bits x.dvsec.toNat 15 8 &&& rd s 0x6000 5 0
  if bit v 1 then 2 else if bit v 0 then 1 else 0

/-- DL_Up of an inter-switch port (R195): the side with the lower PID writes the version into both; the other waits for that write. (Log 59: DESIGN CHOICE.) -/
def iscUp (s : State) (p : Nat) (x : Partner) : State :=
  let v := iscCommon s x
  let s1 := setPort (freeNext s) p { getPort s p with lowerPid := Config.lowerPid s.free }
  if v = 0 then raise s1 (0x6200 + p) 7 .fault []
  else
    if Config.lowerPid s.free then
      setPort s1 p { getPort s1 p with iscSelect := v, partnerCtrl := bit0 (getPort s1 p).partnerCtrl + v * 256 }
    else { s1 with coh := { s1.coh with iscWait := if s1.coh.iscWait.contains p then s1.coh.iscWait else s1.coh.iscWait ++ [p] } }
where
  bit0 (n : Nat) : Nat := n % 2

/-- DL_Up of a USP: the LDs presented there are announced again. -/
def uspUp (s : State) (p : Nat) : State := (presentedOn s p).foldl (fun a i => emit a (.ldHotPlug p (getInst a i).ld true)) s

/-- DL_Up of a port (R85). (Log 194: DEDUCED.) -/
def portUp (s : State) (p : Nat) (x : Partner) : State :=
  if canTrain s p x then
    let s0 := linkUpLocal s p x
    if rd s0 0x2010 3 p = 0 then portDown s0 p 8 false else
    let s1 := markWindow (portLimits s0 p) p false
    let s2 := { s1 with mode := { s1.mode with waitPorts := s1.mode.waitPorts.filter (· != p) } }
    let role := actingRole s2 p
    if role = 2 then dspUp s2 p x else if role = 3 then iscUp s2 p x else uspUp s2 p
  else s

/-! Quiescing a port group (R61). -/

/-- The ports of a group: of an x16 pair, the port stands in both groups. -/
def quiescePorts (s : State) (g : Nat) : List Nat :=
  (List.range 64).filter fun p => (portGroups s p).contains g && (portExists s p)

/-- The group is quiesced: its links are down by the manager's order. -/
def quiesceGroup (s : State) (g : Nat) : State :=
  let s1 := (quiescePorts s g).foldl (fun a p => dropWindow (wr (portDown a p 2 false) 0x2010 8 p 2) p) s
  wr s1 0x2140 2 (256 + g) 2

/-- Ports that are enabled and have a role wait for a partner again. -/
def releaseGroup (s : State) (g : Nat) : State :=
  let s1 := wr s 0x2140 2 (256 + g) 0
  (quiescePorts s1 g).foldl (fun a p => if rd a 0x2010 1 p = 1 ∧ actingRole a p ≠ 0 ∧ rd a 0x2010 2 p = 0 then wr a 0x2010 2 p 1 else a) s1

/-- Quiesce target (0x2140:01). -/
def quiesceWrite (s : State) (g v : Nat) : State × Status :=
  let s1 := wr s 0x2140 1 (256 + g) v
  (if v = 1 then quiesceGroup s1 g else releaseGroup s1 g, .ok)

/-- Port target (0x2010:01): 0 disables the link; 1 lets it train. -/
def portTargetWrite (s : State) (p v : Nat) : State × Status :=
  let s1 := wr s 0x2010 1 p v
  (if v = 0 then portDown s1 p 2 false
   else if actingRole s1 p ≠ 0 ∧ rd s1 0x2010 2 p = 0 ∧ (portGroups s1 p).all (fun g => rd s1 0x2140 2 (256 + g) == 0) then wr s1 0x2010 2 p 1
   else s1, .ok)

end Sys2Proof.Machine
end

