-- ==== Sys2Proof/Machine/TileOps.lean ====
section
/-!
DEFINITION. The reset, the loss and the return of a tile (R20, R129, Tables 6-10 and 6-12).
-/
namespace Sys2Proof.Machine

open Sys2Proof

/-- The update record in force: the valid one with the higher SEQ (R399). -/
def recordNow (s : State) : UpdRec :=
  match s.sec.u0, s.sec.u1 with
  | some a, some b => if a.seq.toNat < b.seq.toNat then b else a
  | some a, none => a
  | none, some b => b
  | none, none => { seq := 0, active := 0, trial := 0xFF, count := 0 }

/-- The ports of a tile. -/
def tilePorts (t : Nat) : List Nat := (List.range 16).map (· + 16 * t)

/-- The targets that a tile homes. -/
def tileTargets (t : Nat) : List Nat := tgtNumbers.filter fun x => tgtHome x == t

/-- The links of a tile. -/
def tileLinks (t : Nat) : List Nat := (List.range 6).filter fun l => (linkEnds l).1 == t || (linkEnds l).2 == t

/-- A link of a resetting tile goes down (R129): the neighbour receives the reset token of its crossings, every other tile drops the link
from its paths, two-hop cells that the neighbour's replay groups hold go out again on the direct path, and the neighbour drops what landed
from the tile and what is queued for it. -/
def tokenLink (s : State) (t l : Nat) : State :=
  let n := if (linkEnds l).1 = t then (linkEnds l).2 else (linkEnds l).1
  let s1 := wr (wr (wr s 0x3100 2 l 0) 0x3100 3 l 0) 0x3100 4 l 0
  let xs := (List.range 35).filter fun x => crossingLink n x == some l
  let s2 := xs.foldl (fun a x => closeCrossing (crossed a n x 1) n x) s1
  let s3 := repinTiles s2 l (some t) false
  let s4 := dropCells s3 n fun c => 8 ≤ c.xpIn && c.xpIn < 14 && tileLink n ((c.xpIn - 8) / 2) == l
  setLink (dedupLost s4 l n) l linkInit

/-- The contexts of a cluster lose their state: an invocation that runs there ends with 0x0A, and each context takes its binding afresh. (Log 73: DEDUCED.) -/
def resetCluster (s : State) (cl : Nat) : State :=
  let cs := (s.gecko.ctxs.filter fun e => e.2.engine / 32 == cl).map (·.1)
  let s1 := cs.foldl (fun a c =>
    let b := if running (getCtx a c) = true ∧ (getCtx a c).st ≠ 6 then endInvocation a c 0x0A else a
    rebind b c (bindRec b c)) s
  { s1 with gecko := { s1.gecko with events := delIf s1.gecko.events fun k _ => k / 256 == cl
                                     wake := delIf s1.gecko.wake fun k _ => k / 256 == cl
                                     rings := delIf s1.gecko.rings fun k _ => k / 64 == cl
                                     lastAtomic := delIf s1.gecko.lastAtomic fun k _ => k / 32 == cl
                                     replay := delIf s1.gecko.replay fun k _ => k / 32 == cl } }

/-- What a tile's slice and directory hold is gone: requests on its lines are answered, its lines are forgotten, and a line of another home
whose dirty copy stood in its slice is poisoned there. (Log 106: DEDUCED.) -/
def dropHome (s : State) (t : Nat) : State :=
  let engine (r : Req) : Bool := r.agent == 64 + t
  let here (r : Req) : Bool := !untranslated r && lineHome s (r.key / 64) == t
  let s1 := cutRequests (cutRequests s engine) here
  let s2 := { s1 with coh := { s1.coh with
    lines := s1.coh.lines.filter fun e => lineHome s e.1 != t
    full := s1.coh.full.filter fun e => e.1 / 4 != t
    backing := s1.coh.backing.filter fun e => lineHome s e.1 != t
    changed := s1.coh.changed.filter fun e => e.1 / 4 != t } }
  let held := (s2.coh.lines.filter fun e => sliceAt e.2 t != .i).map (·.1)
  held.foldl (fun a k =>
    let l := getLine a k
    let lost := dirtySt (sliceAt l t)
    let b := setLine a k { setSlice l t .i with sliceAsks := l.sliceAsks.filter (· != t) }
    resume (if lost then raise (markLine (putHome b k l.data true true) k) (0x6000 + lineHome b k) 15 .notice [] else b) k) s2

/-- The objects marked V that a tile's own reset returns to their defaults (R28), beside its state, its reset's own record (0x3000:02 to :06)
and the P objects: buffers, paths, crossings, Beachcomber, translation caches, Fabric Cache slice, directory and Tadpole. -/
def tileVolatile (idx sub : Nat) : Bool :=
  (idx == 0x3000 && sub == 7) || (idx == 0x3200 && decide (2 ≤ sub)) || (idx == 0x3210 && decide (7 ≤ sub)) || idx == 0x3220
    || (idx == 0x3300 && decide (2 ≤ sub)) || idx == 0x4020 || (idx == 0x6100 && decide (3 ≤ sub)) || idx == 0x6200
    || (idx == 0xB100 && decide (3 ≤ sub))

/-- Whether an object key is one of a tile's volatile objects. -/
def volatileKey (t k : Nat) : Bool := k % 65536 == t && tileVolatile (k / 16777216) (k / 65536 % 256)

/-- The volatile objects and records of a tile return to their defaults (R28). -/
def resetVolatile (s : State) (t : Nat) : State :=
  { s with obj := delIf s.obj fun k _ => volatileKey t k
           tbl := delIf s.tbl fun k _ => volatileKey t (k / 4194304) }

/-- Counters, instance-counter parts and the Tadpole ring of a tile start afresh (R321, R333), as do its volatile objects (R28). -/
def resetTelemetry (s : State) (t : Nat) : State :=
  let s3 := resetUnits s fun u => unitTile u == t
  let s4 := { s3 with tele := { s3.tele with parts := delIf s3.tele.parts fun k _ => k % 4 == t } }
  (tilePorts t).foldl dropWindow (resetVolatile s4 t)

/-- The instances with an extent on a target of a tile. -/
def tileInsts (s : State) (t : Nat) : List Nat :=
  ((extentsWhere s fun x => extInUse x && tgtHome x.target == t).map fun e => (getExt s e).inst).eraseDups

/-- A tile's own state is gone (t0 to t3 of Table 6-10). (Log 73: DEDUCED; log 88: DEDUCED.) -/
def wipeTile (s : State) (t : Nat) : State :=
  let marks := tileInsts s t
  let s0 := (tilePorts t).foldl (fun a p => portDown a p 5 false) s
  let s1 := (List.range 8).foldl (fun a j => resetLanes a (8 * t + j)) s0
  let s2 := (tileLinks t).foldl (fun a l => tokenLink a t l) (dropCells s1 t fun _ => true)
  let s3 := (tileTargets t).foldl targetLost s2
  let s4 := (List.range 8).foldl (fun a c => resetCluster a (8 * t + c)) (dropHome s3 t)
  let s5 := setTile s4 t tileInit
  let s6 := (List.range 32).foldl (fun a r => applyLimits a t r) s5
  let s7 := { s6 with
    pool := { s6.pool with caches := s6.pool.caches.filter fun e => e.1 % 8 != t, walks := s6.pool.walks.filter fun e => e.1 % 8 != t }
    lit := { s6.lit with heat := delIf s6.lit.heat fun k _ => k / 2 ^ 36 == t }
    qos := { s6.qos with rr := delIf s6.qos.rr fun k _ => k == t } }
  let s8 := setEgress s7 (64 + t) []
  marks.foldl loseMarks (resetTelemetry s8 t)

/-- A pending microcode is loaded with the reset of its tile (R406). -/
def loadMicrocode (s : State) (t : Nat) : State :=
  if s.sec.microPending.contains t then
    let left := s.sec.microPending.filter (· != t)
    let trial := ((recordNow s).trial != 0xFF) || s.sec.trialMicrocode
    let s1 := { s with sec := { s.sec with microPending := left, trialMicrocode := trial } }
    if left = [] then wr s1 0xD100 10 0 0 else s1
  else s

/-- A tile is reset or lost for a cause of 0x3000:05: 1 manager, 2 crossing timeout, 3 Critical fault, 4 domain forced off, 5 device reset;
a loss latches DATA_LOSS at Critical on its core source (R20). Its sources become unreachable (R343). -/
def tileReset (s : State) (t cause actual : Nat) : State :=
  let s1 := wipeTile s t
  let s2 := loadMicrocode (wr (wr (bump s1 0x3000 4 t 32 1) 0x3000 5 t cause) 0x3000 2 t actual) t
  holdTileSources (if cause = 1 ∨ cause = 5 then s2 else raise s2 (0x3000 + t) 15 .critical []) t

/-- The HBM target of a tile returns (R153), its blocks that no lost extent names to be scrubbed, but for those in which promoted granules lay
(Table 7-17: such a granule stays lost), or becomes active after a start-up, all
its blocks to be scrubbed (Table 19-4). -/
def hbmReturns (s : State) (t : Nat) : State :=
  if tgtState s t = 2 then nearJoins s t
  else if tgtState s t = 6 then
    let x := getTgt s t
    let lies (b g : Nat) : Bool := decide (dpaTarget (g * 65536) = t) && decide (dpaBlock s (g * 65536) = b)
    let named (b : Nat) : Bool := ((blockExtents s t b).any fun e => (getExt s e).st == 4) || s.pool.overlay.any fun o => o.1 != o.2.dest && lies b o.2.dest
    let kept := (x.blocks.filter fun e => decide (0 < e.2.sharers) || named e.1).map fun e => (e.1, if named e.1 then e.2 else { e.2 with st := 3, place := false })
    setTgt (wr s 0x4000 2 t 3) t { x with base := 3, blocks := kept }
  else s

/-- A tile is in service (t5): its sources are reachable, its links train, its HBM target returns. (Log 72: DESIGN CHOICE.) -/
def tileServes (s : State) (t : Nat) : State :=
  let s1 := freeSources (wr s 0x3000 2 t 3) (tileSources t)
  let s2 := (tileLinks t).foldl (fun a l =>
    if rd a 0x3100 1 l = 1 ∧ rd a 0x3100 2 l = 0 ∧ rd a 0x3000 2 (linkEnds l).1 = 3 ∧ rd a 0x3000 2 (linkEnds l).2 = 3 then wr a 0x3100 2 l 1 else a) s1
  let s3 := hbmReturns s2 t
  if cmdRunning s3 0x3000 3 t then cmdEnd s3 0x3000 3 t 2 0 else s3

/-- Reset (0x3000:03): the tile resets and is released again while its target is in service. -/
def tileResetWrite (s : State) (t : Nat) : State × Status :=
  let s1 := cmdStart s 0x3000 3 t
  if rd s 0x3000 2 t = 3 ∨ rd s 0x3000 2 t = 2 then (tileReset s1 t 1 (if rd s 0x3000 1 t = 1 then 2 else 1), .ok)
  else (cmdEnd s1 0x3000 3 t 2 0, .ok)

/-- Target (0x3000:01). -/
def tileTargetWrite (s : State) (t v : Nat) : State × Status :=
  let s1 := wr s 0x3000 1 t v
  (if v = 0 then (if rd s 0x3000 2 t = 3 ∨ rd s 0x3000 2 t = 2 then tileReset s1 t 1 1 else s1)
   else if rd s 0x3000 2 t = 1 then wr s1 0x3000 2 t 2 else s1, .ok)

end Sys2Proof.Machine
end

