-- ==== Sys2Proof/Machine/PwrOps.lean ====
section
/-!
DEFINITION. Power domains: the entry handshake, isolation and retention, waking, forced entry, clocks, droop, temperature and tile
rails (chapter 17).
-/
namespace Sys2Proof.Machine

open Sys2Proof

/-- The kinds of domain (Table 17-1). -/
inductive DomKind where
  | core (t : Nat)
  | cluster (cl : Nat)
  | group (g : Nat)
  | bank (t b : Nat)
  | hbm (t : Nat)
  | aon
  | hld
  | absent
  deriving DecidableEq, Repr

def domKind (d : Nat) : DomKind :=
  let t := d / 32
  let j := d % 32
  if d = 128 then .aon
  else if d = 129 then .hld
  else if 128 < d ∨ 21 < j then .absent
  else if j = 0 then .core t
  else if j ≤ 8 then .cluster (8 * t + j - 1)
  else if j ≤ 16 then .group (8 * t + j - 9)
  else if j ≤ 20 then .bank t (j - 17)
  else .hbm t

def coreDom (t : Nat) : Nat := 32 * t
def clusterDom (cl : Nat) : Nat := 32 * (cl / 8) + 1 + cl % 8
def groupDom (g : Nat) : Nat := 32 * (g / 8) + 9 + g % 8
def hbmDom (t : Nat) : Nat := 32 * t + 21

/-- The children of a core domain. -/
def childDoms (t : Nat) : List Nat := (List.range 21).map (32 * t + 1 + ·)

/-- The actual state: 0 ON, 1 RET, 2 OFF, 3 entering, 4 waking. (Log 165: DESIGN CHOICE.) -/
def domNow (s : State) (d : Nat) : Nat := rd s 0x9000 2 d

def domTarget (s : State) (d : Nat) : Nat := rd s 0x9000 1 d

def domInit : DomSt := { entry := none, fromOff := false, retried := false, woken := false, since := 0 }

def getDom (s : State) (d : Nat) : DomSt := look domInit s.pwr.doms d

def setDom (s : State) (d : Nat) (v : DomSt) : State := { s with pwr := { s.pwr with doms := put s.pwr.doms d v } }

/-- The tile of a domain; 4 for the Headland die. -/
def domTile (d : Nat) : Nat := min 4 (d / 32)

/-- Whether a domain is a child whose parent does not read ON (R359). -/
def parentOff (s : State) (d : Nat) : Bool := decide (d < 128) && decide (d % 32 ≠ 0) && domNow s (d / 32 * 32) != 0

/-! Blocks and their answers (Table 17-2). -/

/-- The code of a block: its kind in bits 15 to 8, its port or bank in bits 7 to 0 (0x9000:04). -/
def blockCode (b : BlockId) : Nat := b.kind.val * 256 + b.num.toNat

/-- The ports that have a lane in a group. -/
def domPorts (s : State) (g : Nat) : List Nat := (List.range 64).filter fun p => (portGroups s p).contains g && portExists s p

/-- The blocks that an entry request reaches. -/
def entryBlocks (s : State) (d : Nat) : List Nat :=
  match domKind d with
  | .group g => domPorts s g ++ [256]
  | .cluster cl => if cl % 8 = 0 then [512, 768] else [512]
  | .bank _ b => [1024 + b]
  | .hbm _ => [1280]
  | .core _ => [1536, 1792, 2048]
  | .hld => [2304]
  | _ => []

/-- A context of a cluster is bound, lent or held in a failover slot. -/
def clusterHeld (s : State) (cl : Nat) : Bool :=
  s.gecko.ctxs.any fun e => e.2.engine / 32 == cl
    && (bindKind (bindRec s e.1) == 1 || decide (68 ≤ e.2.slot) || (running e.2 && !e.2.sys && e.2.st != 6))

/-- The cluster is the last of its tile that is ON, on a core that is ON (R368). -/
def lastCluster (s : State) (cl : Nat) : Bool :=
  (List.range 8).all (fun c => cl % 8 == c || domNow s (clusterDom (cl / 8 * 8 + c)) != 0) && domNow s (coreDom (cl / 8)) == 0

/-- The directory backing of a tile cannot be reached: its stack is not ON. -/
def backingAway (s : State) (t : Nat) : Bool := domNow s (hbmDom t) != 0

/-- The stack holds something that its contents are needed for (0xB5). -/
def stackNeeded (s : State) (t : Nat) : Bool :=
  decide (0 < countBlk s t 2 ∨ 0 < countBlk s t 3)
    || !(tileFrames s t).isEmpty
    || s.coh.lines.any (fun e => lineHome s e.1 == t && wayUsed t e.2)
    || s.insts.any (fun e => e.2.dirty.logging || decide (0 < e.2.dirty.kib))

/-- The other stack that holds the device's tables is not ON while an extent is in use (0xB6). -/
def otherCopyAway (s : State) (t : Nat) : Bool :=
  (t == 0 || t == 2) && domNow s (hbmDom (2 - t)) != 0 && !(extentsWhere s extInUse).isEmpty

/-- A target homed on the tile holds an extent, or a remap leads there (0xB7). -/
def targetsNeeded (s : State) (t : Nat) : Bool :=
  !(extentsWhere s fun x => extInUse x && tgtHome x.target == t).isEmpty
    || s.pool.overlay.any fun e => tgtHome (dpaTarget (e.2.dest * 65536)) == t

/-- A CMD action runs, or a request stands in the window (0xB8). -/
def commandRuns (s : State) : Bool :=
  s.mgmt.odwBusy || s.obj.any fun e =>
    (match descOf (e.1 / 2 ^ 24) (e.1 / 65536 % 256) with
     | some x => x.acc == .cmd
     | none => false) && bits e.2 31 24 == 1

/-- The reason for which a block refuses now. -/
def blockRefuses (s : State) (d code : Nat) : Option Nat :=
  let yes (b : Bool) (r : Nat) : Option Nat := if b then some r else none
  let k := code / 256
  if k = 0 then yes (!(rd s 0x2010 2 (code % 256) == 0 || rd s 0x2010 2 (code % 256) == 5)) 0xB1
  else match domKind d with
    | .cluster cl => if k = 2 then yes (clusterHeld s cl || lastCluster s cl) 0xB2 else yes (litState s == 1 || !s.coh.rbis.isEmpty) 0xB3
    | .bank t _ => yes (backingAway s t) 0xB4
    | .hbm t => if stackNeeded s t then some 0xB5 else yes (otherCopyAway s t) 0xB6
    | .core t => if k = 6 then yes (targetsNeeded s t) 0xB7 else none
    | .hld => yes (commandRuns s) 0xB8
    | _ => none

/-- The reason of a block's refusal; Table 17-2 gives none to the blocks that never refuse. -/
def blockReason (s : State) (d code : Nat) : Nat :=
  match blockRefuses s d code with
  | some r => r
  | none =>
    let k := code / 256
    if k = 0 then 0xB1 else if k = 2 then 0xB2 else if k = 3 then 0xB3 else if k = 4 then 0xB4 else if k = 5 then 0xB5
    else if k = 6 then 0xB7 else if k = 9 then 0xB8 else freeBits s 8

/-- Blocks that never refuse. -/
def neverRefuses (code : Nat) : Bool := code / 256 == 1 || code / 256 == 7 || code / 256 == 8

/-! The handshake (R360). -/

/-- The transition ends as refused: every block resumes, the target follows the actual state unless the domain entered by itself. (Log 129: DESIGN CHOICE.) -/
def refuseEntry (s : State) (d reason code : Nat) : State :=
  let x := getDom s d
  match x.entry with
  | none => s
  | some e =>
    let s1 := wr (cmdEnd (setDom s d { x with entry := none }) 0x9000 3 d 3 reason) 0x9000 4 d code
    let s2 := wr s1 0x9000 2 d e.before
    let s3 := if e.byItself then s2 else wr s2 0x9000 1 d e.before
    match domKind d with
    | .bank t _ => if code / 256 = 4 then raise s3 (0x6100 + t) 5 .notice [] else s3
    | _ => s3

/-- A transition that leaves ON starts: the entry request reaches every block; a test on the group's spare stops. -/
def startEntry (s : State) (d want : Nat) (byItself : Bool) : State :=
  let e : Entry := { want := want, before := domNow s d, waits := entryBlocks s d, delayed := [], byItself := byItself, wakeAfter := false }
  let s1 := setDom (wr (wr (cmdStart s 0x9000 3 d) 0x9000 4 d 0xFFFF) 0x9000 2 d 3) d { getDom s d with entry := some e }
  match domKind d with
  | .group g => if domPorts s1 g |>.all (fun p => (blockRefuses s1 d p).isNone) then stopTest s1 (256 + g) 2 else s1
  | .bank t b => if backingAway s1 t then refuseEntry s1 d 0xB4 (1024 + b) else s1
  | _ => s1

/-- A block acknowledges: a bank has emptied then (R198). -/
def blockAcks (s : State) (d code : Nat) (e : Entry) : State :=
  match blockRefuses s d code with
  | some r => refuseEntry s d r code
  | none =>
    let s1 := match domKind d with | .bank t b => endLevel (emptyBank s t b) (0x6100 + t) 5 | _ => s
    setDom s1 d { getDom s1 d with entry := some { e with waits := e.waits.filter (· != code), delayed := e.delayed.filter (· != code) } }

/-- A block answers an entry request. (Log 126: DEDUCED.) -/
def blockAnswer (s : State) (d code : Nat) (a : BlockAns) : State :=
  match (getDom s d).entry with
  | none => s
  | some e =>
    if e.waits.contains code then
      match a with
      | .ack => blockAcks s d code e
      | .delay => if e.delayed.contains code then s else setDom s d { getDom s d with entry := some { e with delayed := e.delayed ++ [code] } }
      | .refuse => if neverRefuses code then s else refuseEntry s d (blockReason s d code) code
    else s

/-- A block that delayed has not answered in time. -/
def delayExpires (s : State) (d code : Nat) : State :=
  match (getDom s d).entry with
  | none => s
  | some e =>
    if e.waits.contains code ∧ e.delayed.contains code then
      (if neverRefuses code then refuseEntry (freeNext s) d (freeBits s 8) code else refuseEntry s d (blockReason s d code) code)
    else s

/-! Isolation and retention (R361 to R365). -/

/-- The sources of a domain's blocks (R343). -/
def domSources (s : State) (d : Nat) : List Nat :=
  match domKind d with
  | .group g => (0x2000 + g) :: (domPorts s g).map (0x2100 + ·)
  | .cluster cl => [0x8000 + cl]
  | .hbm t => [0x4100 + t]
  | .core t => (List.range 8).flatMap (fun i => [0x2000 + 8 * t + i, 0x8000 + 8 * t + i]) ++ (List.range 16).flatMap (fun i =>
      [0x2100 + 16 * t + i, 0x4010 + 16 * t + i, 0x4310 + 16 * t + i, 0x6200 + 16 * t + i])
      ++ [0x3000 + t, 0x3200 + t, 0x3300 + t, 0x4000 + t, 0x4100 + t, 0x4200 + t, 0x4300 + t, 0x6000 + t, 0x6100 + t, 0x6800 + t
        , 0x9000 + t, 0x9100 + t, 0x9200 + t]
  | _ => []

/-- The counter units of a domain. -/
def domUnit (d u : Nat) : Bool :=
  match domKind d with
  | .group g => u == g
  | .cluster cl => u == 32 + cl
  | .core t => decide (64 ≤ u) && unitTile u == t
  | _ => false

/-- The counters of a domain as they stand, added to the compat save area (R365). (Log 133: DEDUCED.) -/
def compatSave (s : State) (d : Nat) : State :=
  let mapped := match domKind d with | .group _ => true | .core _ => true | _ => false
  if mapped = true ∧ rd s 0x1220 1 0 = 1 then
    (s.tele.counters.filter fun e => domUnit d (e.1 / 32)).foldl (fun a e =>
      { a with pwr := { a.pwr with saved := put a.pwr.saved e.1 ((look 0 a.pwr.saved e.1 + e.2 % 2 ^ 48) % 2 ^ 48) } }) s
  else s

/-- What the domain loses (Table 17-4): `want` 1 RET, 2 OFF. (Log 133: DEDUCED.) -/
def loseDomain (s : State) (d want : Nat) : State :=
  let s0 := resetUnits (compatSave s d) (domUnit d)
  match domKind d with
  | .group g =>
    let s1 := wr s0 0x9101 3 (g / 8) (setBit (rd s0 0x9101 3 (g / 8)) (1 + g % 8) false)
    if want = 2 then resetSide (resetLanes ((domPorts s1 g).foldl (fun a p => portDown a p 2 false) s1) g) (g / 8) (groupCrossings g)
    else forgetEq s1 g
  | .cluster cl => resetCluster s0 cl
  | .hbm t =>
    let s1 := wr s0 0x9101 3 t (setBit (rd s0 0x9101 3 t) 10 false)
    if want = 2 then resetSide (setTgt s1 t { getTgt s1 t with base := 3 }) t [16, 17] else s1
  | .core t =>
    let s1 := (tileLinks t).foldl (fun a l => tokenLink a t l) (dropCells s0 t fun _ => true)
    let s2 := resetTelemetry (setTile s1 t tileInit) t
    let s3 := (List.range 32).foldl (fun a r => applyLimits a t r) s2
    let s4 := { s3 with pool := { s3.pool with
      caches := s3.pool.caches.filter fun e => e.1 % 8 != t || (want == 1 && e.1 / 8 == 0)
      walks := s3.pool.walks.filter fun e => e.1 % 8 != t } }
    wr (wr (wr s4 0x3000 2 t 0) 0x9101 1 t 2) 0x9101 3 t 0
  | .hld => wr s0 0x9100 1 0 0
  | _ => s0

/-- The domain comes to rest. -/
def restDomain (s : State) (d want : Nat) : State :=
  let s1 := (domSources s d).foldl holdSource (loseDomain s d want)
  setDom (bump (wr s1 0x9000 2 d want) 0x9000 5 d 32 1) d { domInit with since := s1.clock.core }

/-! Waking (R366 to R370). -/

/-- A wake starts: the power switch closes, reset is released on the RC clock, the PLLs start. -/
def startWake (s : State) (d : Nat) (woken : Bool) : State :=
  let tested := testsDomain s d
  let s1 := if tested then abortTest s else s
  let x := getDom s1 d
  let s2 := setDom s1 d { x with fromOff := domNow s1 d == 2 || tested || x.fromOff, retried := false, woken := woken }
  let s3 := wr s2 0x9000 2 d 4
  match domKind d with
  | .core t => wr s3 0x9101 1 t 0
  | _ => s3

/-- Milliseconds of rest since a core cycle. -/
def restMs (s : State) (since : Nat) : Nat := (s.clock.core - since) / 1500000

/-- Firmware wakes the children of a core whose target is ON. (Log 127: DEDUCED.) -/
def wakeChildren (s : State) (t : Nat) : State :=
  (childDoms t).foldl (fun a d => if domNow a d = 2 ∧ domTarget a d = 0 then startWake a d false else a) s

/-- What the domain takes up again when it reads ON. -/
def serveDomain (s : State) (d : Nat) (fromOff : Bool) : State :=
  match domKind d with
  | .group g =>
    let s1 := wr s 0x9101 3 (g / 8) (setBit (rd s 0x9101 3 (g / 8)) (1 + g % 8) true)
    (domPorts s1 g).foldl (fun a p =>
      if rd a 0x2010 1 p = 1 ∧ actingRole a p ≠ 0 ∧ rd a 0x2010 2 p = 0 ∧ (portGroups a p).all (fun h => rd a 0x2140 2 (256 + h) == 0) = true
      then wr a 0x2010 2 p 1 else a) s1
  | .bank t b => wakeBank s t b (!fromOff)
  | .hbm t => wr s 0x9101 3 t (setBit (rd s 0x9101 3 t) 10 true)
  | .core t =>
    let s1 := wr (wr s 0x9101 1 t 1) 0x9101 3 t (setBit (setBit (rd s 0x9101 3 t) 0 true) 9 true)
    wakeChildren (wr s1 0x3000 2 t (if rd s1 0x3000 1 t = 1 then 2 else 1)) t
  | .hld => wr s 0x9100 1 0 1
  | _ => s

/-- The PLLs of a waking domain report lock: running values are written back and the domain reads ON. -/
def wakeDone (s : State) (d : Nat) : State :=
  if domNow s d = 4 then
    let x := getDom s d
    let s1 := wr (bump s 0x9000 6 d 32 1) 0x9000 7 d (rd s 0x9000 7 d + restMs s x.since)
    let s2 := setDom (wr s1 0x9000 2 d 0) d { x with fromOff := false, retried := false }
    serveDomain (freeSources s2 (domSources s2 d)) d x.fromOff
  else s

/-- The entry completes: every block has acknowledged. -/
def entryComplete (s : State) (d : Nat) : State :=
  match (getDom s d).entry with
  | none => s
  | some e =>
    if e.waits = [] then
      let s1 := restDomain (cmdEnd s 0x9000 3 d 2 0) d e.want
      if e.wakeAfter then startWake s1 d true else s1
    else s

/-! Targets (R358, R359, R366). -/

/-- A state that the domain has, as a target. -/
def targetHas (d v : Nat) : Bool :=
  match domKind d with
  | .aon => v == 0
  | .hld => decide (v ≤ 1)
  | .group _ => decide (v ≤ 3)
  | .absent => false
  | _ => decide (v ≤ 2)

/-- The objects that a domain owns. -/
def domOwns (s : State) (d key : Nat) : Bool :=
  let q := key % 65536
  match descOf (key / 2 ^ 24) (key / 65536 % 256) with
  | none => false
  | some x =>
    match domKind d with
    | .group g =>
      (x.qual == .port && (portGroups s q).contains g) || (x.qual == .lane && laneGroup q == g) || (x.qual == .group && q == 256 + g)
    | .cluster cl => x.qual == .engine && q / 32 == cl
    | .bank t _ => x.qual == .tile && q == t && (x.idx == 0x6100 || x.idx == 0x6200)
    | .hbm t => (x.qual == .target || x.qual == .hbm) && q == t
    | .core t => (x.qual == .tile || x.qual == .target || x.qual == .gate || x.qual == .hbm) && (q == t || (16 ≤ q && tgtHome q == t))
    | .hld => decide (x.idx < 0x2000)
    | _ => false

/-- A mode transition quiesces units whose objects the domain owns (Table 17-12). -/
def modeTouches (s : State) (d : Nat) : Bool := rd s 0x1200 3 0 != 0 && s.mode.touched.any (domOwns s d)

/-- The trip's bar stands until every sensor reads below 95 degrees. -/
def tripBars (s : State) (d : Nat) : Bool := s.pwr.tripped && decide (d < 128)

/-- Every sensor reads below 95 degrees again. (Log 131: DESIGN CHOICE.) -/
def endTrip (s : State) : State :=
  let s1 := { s with pwr := { s.pwr with tripped := false } }
  endLevel ((List.range 4).foldl (fun a t => wr a 0x9200 3 t (look 0 a.pwr.thermal t)) s1) 0x9204 18

/-- Whether a domain may leave ON now (R359). (Log 127: DEDUCED.) -/
def mayLeave (s : State) (d : Nat) : Bool :=
  match domKind d with
  | .core t => (childDoms t).all fun c => domNow s c == 1 || domNow s c == 2
  | .hld => (List.range 4).all fun t => domNow s (coreDom t) == 2
  | _ => true

/-- Target of a domain (0x9000:01). (Log 128: DEDUCED; log 130: DEDUCED; log 134: DEDUCED.) -/
def domainTargetWrite (s0 : State) (d v : Nat) : State × Status :=
  let cool := tripBars s0 d && (domNow s0 d == 2) && (v == 0 || v == 3) && freeBits s0 1 == 0
  let s1 := if tripBars s0 d && (domNow s0 d == 2) then freeNext s0 else s0
  let s := if cool then endTrip s1 else s1
  let now := domNow s d
  if targetHas d v = false ∨ (now = 2 ∧ v = 1) then (s, .range)
  else if now = 3 ∨ now = 4 then (s, .busy)
  else if v = 0 ∨ (v = 3 ∧ now = 2) then
    (if now = 0 then (setDom (wr s 0x9000 1 d v) d { getDom s d with woken := false }, .ok)
     else if parentOff s d then (s, .busy)
     else if now = 2 ∧ tripBars s d = true then (s, .busy)
     else if now = 2 ∧ d < 128 ∧ s.pwr.pwrokT.contains (domTile d) = false then (wr s 0x9000 1 d v, .ok)
     else (startWake (wr s 0x9000 1 d v) d false, .ok))
  else if v = 3 then (wr s 0x9000 1 d v, .ok)
  else if now = 0 then
    (if mayLeave s d = false ∨ modeTouches s d = true then (s, .busy)
     else (startEntry (wr s 0x9000 1 d v) d v false, .ok))
  else if now = 1 ∧ v = 2 then (restDomain (cmdDone (wr s 0x9000 1 d v) 0x9000 3 d 0) d 2, .ok)
  else (wr s 0x9000 1 d v, .ok)

/-- A wake source that Table 17-5 gives the domain. -/
def wakesDomain (d : Nat) (x : WakeSrc) : Bool :=
  match domKind d, x with
  | .group _, .idleExit => true
  | .group _, .perstRise => true
  | .group _, .queuedRequest => true
  | .hld, .odp => true
  | .hld, .mctp => true
  | .hld, .perstRise => true
  | .hld, .slotEvent => true
  | _, _ => false

/-- A wake source arrives (R366, R367, Table 17-12). -/
def wakeSource (s : State) (d : Nat) (x : WakeSrc) : State :=
  if wakesDomain d x = false then s
  else if domNow s d = 1 then
    (if parentOff s d then cmdDone s 0x9000 3 d 0xBA else startWake s d true)
  else match (getDom s d).entry with
    | some e =>
      if e.waits = [] then setDom s d { getDom s d with entry := some { e with wakeAfter := true } }
      else refuseEntry (freeNext s) d (freeBits s 8) 0xFFFF
    | none => s

/-- The Headland die wakes for a request to it. -/
def hldWake (s : State) (x : WakeSrc) : State := wakeSource s 129 x

/-- The idle time passes with the wake condition absent: the domain enters RET by itself (R366, R367). -/
def idleEntry (s : State) (d : Nat) : State :=
  if domNow s d ≠ 0 then s
  else match domKind d with
    | .group g =>
      let wants := domTarget s d == 3 || (domTarget s d == 1 && (getDom s d).woken)
      if wants = true ∧ (domPorts s g).all (fun p => rd s 0x2010 2 p == 0 || rd s 0x2010 2 p == 5) = true then startEntry s d 1 true else s
    | .hld => if domTarget s d = 1 ∧ (getDom s d).woken = true ∧ mayLeave s d = true then startEntry s d 1 true else s
    | _ => s

/-- A PLL that has not locked within 50 µs: a Fault, and one retry. -/
def lockTimeout (s : State) (d : Nat) : State :=
  if domNow s d = 4 then
    let x := getDom s d
    raise (setDom s d { x with retried := true }) (0x9100 + domTile d) 6 .fault []
  else s

/-- A running PLL loses lock. -/
def lockLost (s : State) (t pll : Nat) : State :=
  if bit (rd s 0x9101 3 t) pll then bump (wr s 0x9101 3 t (setBit (rd s 0x9101 3 t) pll false)) 0x9101 4 t 32 1 else s

/-! Forced entry (R372). -/

/-- A tile goes OFF without the handshake, with every child domain. -/
def forceOff (s : State) (t : Nat) : State :=
  let s1 := if testsDomain s (coreDom t) || (childDoms t).any (testsDomain s) then abortTest s else s
  let s2 := tileReset s1 t 4 4
  let ds := coreDom t :: childDoms t
  let s3 := ds.foldl (fun a d =>
    if domNow a d = 2 then setDom a d { getDom a d with entry := none }
    else setDom (bump (wr a 0x9000 2 d 2) 0x9000 5 d 32 1) d
      { domInit with since := if domNow a d = 1 then (getDom a d).since else a.clock.core }) s2
  let s4 := wr (wr (wr s3 0x9101 1 t 2) 0x9101 3 t 0) 0x6100 2 t 0xF
  let s5 := setTgt s4 t { getTgt s4 t with base := if tgtState s4 t = 6 then (getTgt s4 t).base else 3 }
  let s6 := (ds.flatMap (domSources s5)).foldl holdSource s5
  cmdDone { s6 with pwr := { s6.pwr with droop := delIf s6.pwr.droop fun k _ => k / 64 == t } } 0x9000 3 (coreDom t) 0 |> fun a =>
    cmdEnd (wr a 0x9200 4 t 0) 0x9000 3 (coreDom t) 2 0xB9

/-- Force off (0x9000:08). -/
def forceOffWrite (s : State) (d : Nat) : State × Status :=
  match domKind d with
  | .core t => (cmdDone (forceOff s t) 0x9000 8 d 0, .ok)
  | _ => (s, .range)

/-- A tile is lost because its power fails (R371). -/
def powerLost (s : State) (t : Nat) : State :=
  if (coreDom t :: childDoms t).all fun d => domNow s d == 2 then s else forceOff s t

/-- PWROK_T falls. -/
def pwrokFalls (s : State) (t : Nat) : State :=
  powerLost { s with pwr := { s.pwr with pwrokT := s.pwr.pwrokT.filter (· != t) } } t

/-! Rails (R376, R377, R424). -/

def railInit : RailSt := { step := none, silent := false, phaseStatus := false, low := false }

def getRail (s : State) (r : Nat) : RailSt := look railInit s.pwr.rails r

def setRail (s : State) (r : Nat) (v : RailSt) : State := { s with pwr := { s.pwr with rails := put s.pwr.rails r v } }

/-- The setting that firmware works towards, in mV: the fused voltage, a temperature term of up to 20 mV, the margins; within 700 to 850. (Log 132: DESIGN CHOICE.) -/
def railWant (s : State) (r : Nat) : Nat :=
  let v : Int := 5 * (Config.fusedSteps r : Int) + 5 * (Config.freeValue s.free % 5 : Nat) + toSigned 32 (rd s 0x9210 3 r)
    + 10 * (rd s 0x9210 6 r : Int)
  (max 700 (min 850 v)).toNat

/-- The next AVSBus step is written, 5 mV towards the setting wanted, when none is in flight. -/
def railStep (s : State) (r : Nat) : State :=
  let x := getRail s r
  let now := rd s 0x9210 1 r
  let want := railWant s r
  if x.step.isSome ∨ want = now then freeNext s
  else setRail (freeNext s) r { x with step := some (if now < want then now + 5 else now - 5) }

/-- POWER on a rail's source ends with its last condition. -/
def railCalm (s : State) (r : Nat) : State :=
  let x := getRail s r
  if x.silent ∨ x.phaseStatus ∨ x.low then s else endLevel s (0x9300 + r) 19

/-- The clock hold of a tile: its thermal hold, and 3/4 while its regulator does not answer. -/
def showThrottle (s : State) (t : Nat) : State :=
  if rd s 0x9200 3 t = 3 then s else wr s 0x9200 3 t (max (look 0 s.pwr.thermal t) (b2n (getRail s t).silent))

/-- A regulator acknowledges the step in flight. -/
def railAck (s : State) (r : Nat) : State :=
  let x := getRail s r
  match x.step with
  | some v => railStep (railCalm (showThrottle (setRail (wr s 0x9210 1 r v) r { x with step := none, silent := false }) r) r) r
  | none => s

/-- A regulator does not acknowledge within 1 ms. -/
def railTimeout (s : State) (r : Nat) : State :=
  let x := getRail s r
  if x.step.isSome then
    raise (showThrottle (setRail (bump s 0x9210 7 r 32 1) r { x with silent := true }) r) (0x9300 + r) 19 .fault []
  else s

/-- A regulator reports lost phases. -/
def phaseLost (s : State) (r n : Nat) : State :=
  let s1 := setRail (wr (wr s 0x9210 5 r n) 0x9210 6 r 1) r { getRail s r with phaseStatus := true }
  raise (railStep s1 r) (0x9300 + r) 19 .fault []

/-- The lost-phase status clears: the margin ends once POWER is clear. -/
def phaseRestored (s : State) (r : Nat) : State :=
  let s1 := railCalm (setRail (wr s 0x9210 5 r 0) r { getRail s r with phaseStatus := false }) r
  if ((getSource s1 (0x9300 + r)).cause 19).latched then s1 else railStep (wr s1 0x9210 6 r 0) r

/-- Margin (0x9210:03). -/
def marginWrite (s : State) (r v : Nat) : State × Status :=
  if toSigned 32 v % 5 = 0 then (railStep (wr s 0x9210 3 r v) r, .ok) else (s, .range)

/-- A monitored rail falls below its threshold: the tile is lost as when PWROK_T falls; a shared rail takes every tile (R424). -/
def railFails (s : State) (x : RailSel) : State :=
  match x with
  | .tile t => raise (powerLost (setRail s t.val { getRail s t.val with low := true }) t.val) (0x9300 + t.val) 19 .critical []
  | .shared => raise ((List.range 4).foldl powerLost (setRail s 4 { getRail s 4 with low := true })) 0x9304 19 .critical []

/-- Firmware powers a tile's core: after the start-up, and in RECOVERY only that of the tile with the manager's USP (R46). (Log 130: DEDUCED.) -/
def mayPower (s : State) (t : Nat) : Bool :=
  s.sec.stage == 3 && (modeNow s != 6 || (rd s 0x1102 2 0 != 0xFF && rd s 0x1102 2 0 / 16 == t))

/-- PWROK_T rises: the tile's core may leave OFF. -/
def pwrokRises (s : State) (t : Nat) : State :=
  let s1 := { s with pwr := { s.pwr with pwrokT := if s.pwr.pwrokT.contains t then s.pwr.pwrokT else s.pwr.pwrokT ++ [t] } }
  let s2 := railCalm (setRail s1 t { getRail s1 t with low := false }) t
  let d := coreDom t
  if domNow s2 d = 2 ∧ domTarget s2 d = 0 ∧ tripBars s2 d = false ∧ mayPower s2 t = true then startWake s2 d false else s2

/-! Droop and temperature (R373, R375). -/

/-- The stretch that the detectors of a tile ask. -/
def stretchOf (s : State) (t : Nat) : Nat :=
  s.pwr.droop.foldl (fun a e => if e.1 / 64 = t then max a e.2 else a) 0

/-- A detector falls below a level. -/
def droopCrosses (s : State) (t det lvl : Nat) : State :=
  let k := 64 * t + det
  let s1 := { s with pwr := { s.pwr with droop := put s.pwr.droop k (max lvl (look 0 s.pwr.droop k)) } }
  let s2 := if rd s 0x9200 4 t = 0 then bump s1 0x9200 7 t 64 1 else s1
  wr s2 0x9200 4 t (stretchOf s2 t)

/-- The stretch is released: core cycles removed and its length are counted. -/
def stretchEnds (s : State) (t cycles ns : Nat) : State :=
  if rd s 0x9200 4 t = 0 then s
  else
    let s1 := { s with pwr := { s.pwr with droop := delIf s.pwr.droop fun k _ => k / 64 == t } }
    let s2 := bump (wr s1 0x9200 4 t 0) 0x9200 8 t 64 cycles
    endLevel (wr s2 0x9200 9 t (max (rd s2 0x9200 9 t) (ns % 2 ^ 32))) (0x9200 + t) 19

/-- A stretch lasts longer than 50 µs. -/
def stretchLong (s : State) (t : Nat) : State := if rd s 0x9200 4 t = 0 then s else raise s (0x9200 + t) 19 .fault []

/-- A tile reaches 100 or 105 degrees. -/
def thermalCrosses (s : State) (t lvl : Nat) : State :=
  let s1 := { s with pwr := { s.pwr with thermal := put s.pwr.thermal t (max lvl (look 0 s.pwr.thermal t)) } }
  raise (showThrottle s1 t) (0x9200 + t) 18 (if lvl = 2 then .fault else .notice) []

/-- The hold ends; how many core cycles it removed is the part's. (Log 135: DESIGN CHOICE.) -/
def thermalEnds (s : State) (t : Nat) : State :=
  if look 0 s.pwr.thermal t = 0 then s
  else
    let s1 := showThrottle { s with pwr := { s.pwr with thermal := del s.pwr.thermal t } } t
    endLevel (bump (freeNext s1) 0x9200 8 t 64 (freeBits s1 32)) (0x9200 + t) 18

/-- A tile reaches 115 degrees: every tile is forced OFF. -/
def thermalTrips (s : State) (t : Nat) : State :=
  let s1 := (List.range 4).foldl forceOff s
  let s2 := { s1 with pwr := { s1.pwr with tripped := true, thermal := [] } }
  raise (wr s2 0x9200 3 t 3) 0x9204 18 .critical []

end Sys2Proof.Machine
end

