-- ==== Sys2Proof/Machine/UpdateOps.lean ====
section
/-!
DEFINITION. Firmware images, update records and the stages of an update; keys and credentials (R397 to R410).
-/
namespace Sys2Proof.Machine

open Sys2Proof

/-! Firmware images (Tables 19-2 and 19-3). -/

def fwLen (img : List Byte) : Nat := fieldBe img 4 4
def fwVersion (img : List Byte) : Nat := fieldBe img 8 4
def fwSecver (img : List Byte) : Nat := fieldBe img 12 2
def fwSections (img : List Byte) : Nat := fieldBe img 17 1

/-- Section entries: type, offset, length, hash. -/
def fwEntries (img : List Byte) : List (Nat × Nat × Nat × List Byte) :=
  (List.range (fwSections img)).map fun i =>
    let e := slice img (64 + 64 * i) 64
    (fieldBe e 0 2, fieldBe e 4 4, fieldBe e 8 4, slice e 16 48)

/-- The sections of a type. -/
def fwOfType (img : List Byte) (k : Nat) : List (Nat × Nat × Nat × List Byte) := (fwEntries img).filter (·.1 == k)

/-- The hash of the first section of a type. -/
def fwHash (img : List Byte) (k : Nat) : List Byte := match (fwOfType img k).head? with | some e => e.2.2.2 | none => []

/-- Header and length, with the sections inside the image and the four required types once each. -/
def fwHeaderOk (img : List Byte) : Bool :=
  let n := fwSections img
  let first := 64 + 64 * n
  fieldBe img 0 4 == 0x544C4657 && decide (fwLen img ≤ 12582912 ∧ fwLen img = img.length ∧ 4 ≤ n ∧ n ≤ 8 ∧ first + 112 ≤ fwLen img)
    && (fwEntries img).all (fun e => e.2.1 % 16 == 0 && decide (first ≤ e.2.1 ∧ e.2.1 + e.2.2.1 + 112 ≤ fwLen img)
      && !(e.1 == 1 && decide (131072 < e.2.2.1)))
    && [1, 2, 3, 4].all fun k => (fwOfType img k).length == 1

/-- The key slots that the root of trust holds and has not revoked. -/
def rootSlots (s : State) : List Nat := (List.range 4).filter fun n => (Config.rootKey n).isSome && !s.sec.revoked.contains n

/-- The first 16 bytes of a key's digest name it (Table 3-12). -/
def keyId (k : List Byte) : List Byte := (Config.sha384 k).take 16

/-- A signature section of 112 bytes verifies over a digest under one of some keys. -/
def signedBy (keys : List (List Byte)) (sig digest : List Byte) : Bool :=
  keys.any fun k => keyId k == sig.take 16 && Config.ecdsaOk k digest (sig.drop 16)

/-- The root keys that may sign firmware. -/
def rootKeys (s : State) : List (List Byte) := (rootSlots s).filterMap Config.rootKey

def fwSigned (s : State) (img : List Byte) : Bool :=
  let n := fwLen img - 112
  signedBy (rootKeys s) (slice img n 112) (Config.sha384 (img.take n))

/-- The REASON of the first check that an image fails, 0 none (R398, R404). (Log 143: DEDUCED.) -/
def fwCheck (s : State) (img : List Byte) : Nat :=
  if fwHeaderOk img = false then 0xD1
  else if fwSigned s img = false then 0xD2
  else if fwSecver img < s.sec.counter then 0xD3
  else if fieldBe img 14 2 ≠ 0x6400 ∨ 0xB1 < fieldBe img 16 1 then 0xD4
  else if (fwEntries img).all (fun e => Config.sha384 (slice img e.2.1 e.2.2.1) == e.2.2.2) then 0
  else 0xD5

/-! Slots and records (R399). -/

def fwSlot (s : State) (n : Nat) : FwSlot := if n = 0 then s.sec.fwA else s.sec.fwB

def setFwSlot (s : State) (n : Nat) (v : FwSlot) : State :=
  { s with sec := if n = 0 then { s.sec with fwA := v } else { s.sec with fwB := v } }

/-- A slot's image can boot. -/
def fwValid (s : State) (n : Nat) : Bool := decide (2 ≤ (fwSlot s n).st) && fwCheck s (fwSlot s n).bytes == 0

/-- The image that runs: slot A, slot B or golden. -/
def runningImage (s : State) : List Byte := if s.sec.running = 2 then s.sec.goldenFw else (fwSlot s s.sec.running).bytes

/-- The 32 bytes of a record. -/
def recordBytes (r : UpdRec) : List Byte :=
  let b := be 4 r.seq.toNat ++ [r.active, r.trial, r.count] ++ zeros 21
  b ++ be 4 (crc32c b)

/-- A new record takes SEQ + 1 and the sector that does not hold the record in force. -/
def writeRecord (s : State) (active trial count : Nat) : State :=
  let r := recordNow s
  let n : UpdRec := { seq := r.seq + 1, active := BitVec.ofNat 8 active, trial := BitVec.ofNat 8 trial, count := BitVec.ofNat 8 count }
  let s1 := if s.sec.u0 = some r then { s with sec := { s.sec with u1 := some n } } else { s with sec := { s.sec with u0 := some n } }
  wr s1 0xD100 3 0 (count % 256)

def trialOpen (s : State) : Bool := (recordNow s).trial != 0xFF

def activeSlot (s : State) : Nat := (recordNow s).active.toNat % 2

/-- The slot that is neither ACTIVE nor TRIAL. -/
def downSlot (s : State) : Option Nat := if trialOpen s then none else some (1 - activeSlot s)

/-- An update action of 0xD100 runs. (Log 142: DEDUCED.) -/
def updateRuns (s : State) : Bool := [6, 7, 8, 9, 11, 12].any fun k => cmdRunning s 0xD100 k 0

/-- The action fails at once with a REASON. (Log 157: DEDUCED.) -/
def fails (s : State) (idx sub reason : Nat) : State × Status := (cmdDone s idx sub 0 reason, .ok)

/-! The stages. -/

/-- Begin (0xD100:06): the slot is erased. -/
def beginWrite (s : State) (len : Nat) : State × Status :=
  if cmdRunning s 0xD100 7 0 then (s, .busy)
  else if 12582912 < len then fails s 0xD100 6 0xD8
  else match downSlot s with
    | none => fails s 0xD100 6 0xD7
    | some n => (setFwSlot (cmdStart s 0xD100 6 0) n { st := 1, len := len, bytes := [] }, .ok)

/-- Bytes written over a partly programmed slot; what has not been programmed reads as erased. (Log 143: DEDUCED.) -/
def programmed (old data : List Byte) (start : Nat) : List Byte :=
  old.take start ++ List.replicate (start - old.length) 0xFF ++ data ++ old.drop (start + data.length)

/-- A chunk of the image (0xD100:05): programmed and read back. (Log 144: DEDUCED; log 145: DEDUCED.) -/
def downloadWrite (s : State) (start : Nat) (data : List Byte) (readBackOk : Bool) : State × Status :=
  match downSlot s with
  | none => (s, .range)
  | some n =>
    let x := fwSlot s n
    if cmdRunning s 0xD100 6 0 ∨ cmdRunning s 0xD100 7 0 then (s, .busy)
    else if x.st ≠ 1 ∨ data = [] ∨ x.len < start + data.length then (s, .range)
    else if readBackOk = false then (cmdEnd (setFwSlot s n { x with len := 0 }) 0xD100 6 0 3 0xD6, .ok)
    else
      let b := programmed x.bytes data start
      (setFwSlot s n { x with bytes := b, st := if b.length = x.len then 2 else 1 }, .ok)

/-- Verify (0xD100:07). -/
def verifyWrite (s : State) : State × Status :=
  if cmdRunning s 0xD100 6 0 then (s, .busy) else (cmdStart s 0xD100 7 0, .ok)

/-- Verify ends: the first failed check, or verified. -/
def verifyEnd (s : State) (err : Nat) : State :=
  match downSlot s with
  | none => cmdEnd s 0xD100 7 0 3 0xD1
  | some n =>
    let x := fwSlot s n
    let code := if x.st < 2 then 0xD1 else fwCheck s x.bytes
    let why := if code = 0 then err else code
    let s1 := if x.st < 2 then s else setFwSlot s n { x with st := if why = 0 then 3 else 2 }
    cmdEnd s1 0xD100 7 0 (if why = 0 then 2 else 3) why

/-- The vendor tables of every cluster are being replaced: new vendor invocations are held (R251). (Log 147: DESIGN CHOICE.) -/
def startSwap (s : State) : State := { s with gecko := { s.gecko with swapping := List.range 32 } }

/-- The swap is done; vendor invocations that still run end with 0x0A. (Log 147: DESIGN CHOICE.) -/
def endSwap (s : State) : State :=
  let cs := (s.gecko.ctxs.filter fun e => running e.2 && e.2.st != 6 && decide (e.2.table < 512)).map (·.1)
  let s1 := cs.foldl (fun a c => endInvocation a c 0x0A) s
  wakeBlocked { s1 with gecko := { s1.gecko with swapping := [], unloaded := [] } }

/-- Tile microcode that differs from what runs is pending; in SERVICE it is applied at once. -/
def microChange (s : State) (differs : Bool) : State :=
  if differs = false then { wr s 0xD100 10 0 0 with sec := { s.sec with microPending := [] } }
  else if modeNow s = 5 then { wr s 0xD100 10 0 0 with sec := { s.sec with microPending := [], trialMicrocode := (recordNow s).trial != 0xFF } }
  else { wr s 0xD100 10 0 1 with sec := { s.sec with microPending := List.range 4 } }

/-- Activate (0xD100:08). -/
def activateWrite (s : State) : State × Status :=
  if rd s 0x1200 3 0 ≠ 0 then (s, .busy)
  else match downSlot s with
    | none => fails s 0xD100 8 0xD7
    | some n =>
      if (fwSlot s n).st ≠ 3 then fails s 0xD100 8 0xD7
      else
        let s1 := writeRecord (cmdStart s 0xD100 8 0) (activeSlot s) n 1
        (startSwap { s1 with sec := { s1.sec with running := n, trialMicrocode := false } }, .ok)

/-- Activate ends: the clusters are swapped and the microcode is pending. -/
def activateEnd (s : State) (err : Nat) : State := cmdEnd (microChange (endSwap s) true) 0xD100 8 0 (if err = 0 then 2 else 3) err

/-- Apply microcode (0xD100:11): only in SERVICE; the tiles' ports are held down meanwhile. -/
def applyWrite (s : State) : State × Status :=
  if modeNow s ≠ 5 then (s, .busy)
  else
    let s1 := (List.range 64).foldl (fun a p => if linkUp a p then
        (let b := portDown a p 2 false
         if rd b 0x2010 1 p = 1 then wr b 0x2010 2 p 1 else b)
      else a) s
    (wr (cmdStart s1 0xD100 11 0) 0xD100 10 0 2, .ok)

def applyEnd (s : State) (err : Nat) : State :=
  let s1 := wr s 0xD100 10 0 0
  let s2 := { s1 with sec := { s1.sec with microPending := [], trialMicrocode := trialOpen s } }
  cmdEnd s2 0xD100 11 0 (if err = 0 then 2 else 3) err

/-- Confirm (0xD100:09). -/
def confirmWrite (s : State) : State × Status :=
  if trialOpen s then (cmdStart s 0xD100 9 0, .ok) else fails s 0xD100 9 0xD7

/-- Confirm ends: the trial slot is ACTIVE, and the counter rises to the image's SECVER. (Log 146: DEDUCED.) -/
def confirmEnd (s : State) (err : Nat) : State :=
  if err ≠ 0 ∨ trialOpen s = false then cmdEnd s 0xD100 9 0 3 err
  else
    let t := (recordNow s).trial.toNat % 2
    let s1 := writeRecord s t 0xFF 0
    let v := min 64 (fwSecver (fwSlot s1 t).bytes)
    cmdEnd { s1 with sec := { s1.sec with counter := max s1.sec.counter v, trialMicrocode := false } } 0xD100 9 0 2 0

/-- Revert (0xD100:12): the ACTIVE image takes over again. -/
def revertWrite (s : State) : State × Status :=
  if trialOpen s = false then fails s 0xD100 12 0xD7
  else if s.sec.trialMicrocode = true ∧ modeNow s ≠ 5 then (s, .busy)
  else
    let s1 := bump (writeRecord (cmdStart s 0xD100 12 0) (activeSlot s) 0xFF 0) 0xD100 4 0 32 1
    (startSwap { s1 with sec := { s1.sec with running := activeSlot s } }, .ok)

def revertEnd (s : State) (err : Nat) : State :=
  let had := s.sec.trialMicrocode
  let s1 := endSwap { s with sec := { s.sec with trialMicrocode := false } }
  cmdEnd (microChange s1 had) 0xD100 12 0 (if err = 0 then 2 else 3) err

/-! Keys and credentials (R408 to R410). -/

/-- The configuration keys that are enrolled. -/
def cfgKey (s : State) (n : Nat) : Option (List Byte) := look (if n = 0 then some Config.factoryCfgKey else none) s.sec.cfgKeys n

def setCfgKey (s : State) (n : Nat) (v : Option (List Byte)) : State := { s with sec := { s.sec with cfgKeys := put s.sec.cfgKeys n v } }

def cfgKeySlots (s : State) : List Nat := (List.range 4).filter fun n => (cfgKey s n).isSome

def enrollNonce (s : State) : List Byte := be 8 (rd s 0xD000 13 0)

/-- The nonce changes. (Log 150: DESIGN CHOICE.) -/
def newNonce (s : State) : State := wr (freeNext s) 0xD000 13 0 ((rd s 0xD000 13 0 + 1 + freeBits s 32) % 2 ^ 64)

/-- A signature of 96 bytes by an enrolled key of some slots, over bytes and the nonce. (Log 149: PRESUMED.) -/
def keySigned (s : State) (slots : List Nat) (msg sig : List Byte) : Bool :=
  slots.any fun n => match cfgKey s n with
    | some k => Config.ecdsaOk k (Config.sha384 (msg ++ enrollNonce s)) sig
    | none => false

/-- Enroll (0xD000:04). (Log 148: DEDUCED.) -/
def enrollWrite (s : State) (v : List Byte) : State × Status :=
  let n := fieldBe v 0 1
  let key := slice v 1 97
  if 3 < n then (s, .range)
  else if keySigned s (cfgKeySlots s) (v.take 98) (slice v 98 96) = false then fails s 0xD000 4 0xD9
  else if (cfgKey s n).isSome then fails s 0xD000 4 0xDA
  else (cmdDone (newNonce (setCfgKey s n (some key))) 0xD000 4 0 0, .ok)

/-- Revoke (0xD000:05): signed by another enrolled key. (Log 148: DEDUCED.) -/
def revokeWrite (s : State) (v : List Byte) : State × Status :=
  let n := fieldBe v 0 1
  let others := (cfgKeySlots s).filter (· != n)
  if 3 < n ∨ (cfgKey s n).isNone then (s, .range)
  else if others = [] then fails s 0xD000 5 0xDB
  else if keySigned s others (v.take 1) (slice v 1 96) = false then fails s 0xD000 5 0xD9
  else (cmdDone (newNonce (setCfgKey s n none)) 0xD000 5 0 0, .ok)

/-- Raise floor (0xD000:07): the floor never falls. -/
def floorWrite (s : State) : State × Status :=
  if rd s 0xD000 6 0 < rd s 0x1210 2 0 then (wr (cmdDone s 0xD000 7 0 0) 0xD000 6 0 (rd s 0x1210 2 0), .ok) else (s, .ignored)

/-- Set credential (0xD000:02): level 0 Vendor, 1 Manager, 2 Operator. -/
def credentialWrite (s : State) (r : Requester) (v : List Byte) : State × Status :=
  let n := fieldBe v 0 1
  if 2 < n then (s, .range)
  else if n = 0 ∧ r ≠ .vendor then (s, .denied)
  else (cmdDone { s with sec := { s.sec with creds := put s.sec.creds n (slice v 1 48) } } 0xD000 2 0 0, .ok)

/-- The credential of a level; the Vendor one is set at manufacture. (Log 27: DESIGN CHOICE.) -/
def credential (s : State) (n : Nat) : Option (List Byte) :=
  match s.sec.creds.find? fun e => e.1 == n with
  | some e => some e.2
  | none => if n = 0 then some Config.vendorCredential else none

/-- A root key slot is revoked for good, unless no valid slot would be left. (Log 151: DESIGN CHOICE.) -/
def revokeRoot (s : State) (n : Nat) : State :=
  if (rootSlots s).all (· == n) then emit s (.rootKey n 0xDB)
  else emit { s with sec := { s.sec with revoked := if s.sec.revoked.contains n then s.sec.revoked else s.sec.revoked ++ [n] } } (.rootKey n 0)

end Sys2Proof.Machine
end

