-- ==== Sys2Proof/Machine/TestOps.lean ====
section
/-!
DEFINITION. Self-tests, calibration and diagnostic memory accesses (R414, R415, Tables 19-8, 19-9 and 19-13).
-/
namespace Sys2Proof.Machine

open Sys2Proof

/-- Blocks of an HBM test. -/
def testBlocks (t : TestRun) : List Nat := (List.range t.count).map (· + t.first)

/-- A request's fields lie in their ranges. -/
def testForm (t : TestRun) : Bool :=
  if t.kind = 1 then (match domKind t.unit with | .absent => false | _ => true)
  else if t.kind = 2 then decide (t.unit < 4 ∧ 0 < t.count)
  else if t.kind = 3 then decide (t.unit < 288)
  else if t.kind = 4 then decide (t.unit < 4)
  else if t.kind = 5 then decide (t.unit < 4)
  else false

/-- A test is accepted while traffic runs (Table 19-9). -/
def testAccepted (s : State) (t : TestRun) : Bool :=
  if t.kind = 1 then decide (t.unit < 128) && (domNow s t.unit == 1 || domNow s t.unit == 2)
  else if t.kind = 2 then
    decide (t.first + t.count ≤ (getTgt s t.unit).cap) && (testBlocks t).all fun b => (getBlk s t.unit b).st == 1 && !(getBlk s t.unit b).place
  else if t.kind = 3 then (match laneKind s t.unit with | .spareIdle => true | .drained => true | _ => false)
  else if t.kind = 4 then modeNow s == 5 && (tilePorts t.unit).all fun p => rd s 0x2010 1 p == 0
  else true

/-- What the test takes: blocks leave free; the arrays of a domain are powered under isolation. -/
def testTakes (s : State) (t : TestRun) : State :=
  if t.kind = 2 then (testBlocks t).foldl (fun a b => setBlk a t.unit b { getBlk a t.unit b with test := true }) s
  else if t.kind = 1 then setDom s t.unit { getDom s t.unit with fromOff := true }
  else s

/-- Headland firmware reads and writes the blocks of an HBM test (Tables 8-1 and 8-6): each granule passes its gate. (Log 215: DEDUCED.) -/
def testGate (s : State) (t : TestRun) : State × Bool :=
  if t.kind = 2 then
    let n := t.count * blockSize s t.unit
    let x := gateRange s (blkLo s t.unit t.first) n .headland false headlandSource
    if x.2 then gateRange x.1 (blkLo s t.unit t.first) n .headland true headlandSource else x
  else (s, true)

/-- Test (0xE000:01). -/
def testWrite (s : State) (v : List Byte) : State × Status :=
  let t : TestRun := { kind := fieldBe v 0 1, unit := fieldBe v 2 2, first := fieldBe v 4 4, count := fieldBe v 8 4 }
  if v.length ≠ 16 then (s, .type)
  else if testForm t = false then (s, .range)
  else if s.sec.test.isSome ∨ testAccepted s t = false then (s, .busy)
  else
    let x := testGate (cmdStart s 0xE000 1 0) t
    if x.2 then (testTakes { x.1 with sec := { x.1.sec with test := some t } } t, .ok) else (cmdEnd x.1 0xE000 1 0 3 0x82, .ok)

/-- The test ends by itself; a tile under logic BIST is reset afterwards. -/
def testEnds (s : State) (units errors addr : Nat) : State :=
  match s.sec.test with
  | none => s
  | some t =>
    let s1 := endTest s (if errors = 0 then 2 else 3) (if errors = 0 then 0 else 0xE1) units errors addr
    if t.kind = 4 ∧ domNow s1 (coreDom t.unit) = 0 then tileReset s1 t.unit 1 (if rd s1 0x3000 1 t.unit = 1 then 2 else 1) else s1

/-! Diagnostic accesses (0xE010). -/

/-- The current bytes at a key DPA. -/
def diagBytes (s : State) (dpa n : Nat) : List Byte :=
  (List.range n).map fun i => nth 0 (copyRead s ((dpa + i) / 64)).1 ((dpa + i) % 64)

/-- Each granule of an access passes its gate as the manager's; the gates record a refusal. -/
def diagGate (s : State) (dpa n : Nat) (write : Bool) : State × Bool := gateRange s dpa n .manager write managerSource

/-- The lines of an access that memory serves are read from it. (Log 156: DESIGN CHOICE.) -/
def diagReads (s : State) (dpa n : Nat) : State :=
  (List.range ((dpa + n + 63) / 64 - dpa / 64)).foldl (fun a i =>
    let k := dpa / 64 + i
    if sliceAt (getLine a k) (lineHome a k) ≠ .i then a else hbmRead a (locOf a (k * 64))) s

/-- An access names 1 to 256 bytes of a target in the map. -/
def diagForm (s : State) (dpa n : Nat) : Bool := decide (1 ≤ n ∧ n ≤ 256 ∧ dpa + n ≤ 80 * 2 ^ 44) && tgtExists s (dpaTarget dpa)

/-- Read (0xE010:01). -/
def diagReadWrite (s : State) (v : List Byte) : State × Status :=
  let dpa := fieldBe v 0 8
  let n := fieldBe v 8 4
  if diagForm s dpa n = false then (s, .range)
  else
    let x := diagGate (cmdStart s 0xE010 1 0) dpa n false
    if x.2 then (cmdEnd (wrBlob (diagReads x.1 dpa n) 0xE010 2 0 (diagBytes x.1 dpa n)) 0xE010 1 0 2 0, .ok) else (cmdEnd x.1 0xE010 1 0 3 0x82, .ok)

/-- Bytes are written at the home of one line. -/
def diagLine (s : State) (k off : Nat) (d : List Byte) : State :=
  let old := (copyRead s k).1
  let new := old.take off ++ d ++ old.drop (off + d.length)
  if sliceAt (getLine s k) (lineHome s k) ≠ .i then putHome s k new (getLine s k).bad true
  else writeLine s (locOf s (k * 64)) new (poisoned s (locOf s (k * 64)))

/-- Bytes are written line by line. (Log 156: DESIGN CHOICE.) -/
def diagPut (s : State) (dpa : Nat) (d : List Byte) : State :=
  (List.range ((dpa + d.length + 63) / 64 - dpa / 64)).foldl (fun a i =>
    let k := dpa / 64 + i
    let lo := max dpa (k * 64)
    let hi := min (dpa + d.length) (k * 64 + 64)
    diagLine a k (lo % 64) (slice d (lo - dpa) (hi - lo))) s

/-- Write (0xE010:03). -/
def diagWriteWrite (s : State) (v : List Byte) : State × Status :=
  let dpa := fieldBe v 0 8
  let n := fieldBe v 8 4
  if diagForm s dpa n = false then (s, .range)
  else if v.length ≠ 12 + n then (s, .type)
  else
    let x := diagGate (cmdStart s 0xE010 3 0) dpa n true
    if x.2 then (cmdEnd (diagPut x.1 dpa (v.drop 12)) 0xE010 3 0 2 0, .ok) else (cmdEnd x.1 0xE010 3 0 3 0x82, .ok)

end Sys2Proof.Machine
end

