-- ==== Sys2Proof/Machine/Diagnostics.lean ====
section
/-!
DEFINITION. The commands of self-test and diagnostics (R414, R415).
-/
namespace Sys2Proof.Machine

open Sys2Proof

/-- SRAM_BIST. -/
def execSramBist (r : Requester) (v : List Byte) (s : State) : Host.Outcome State Fault Refusal :=
  .next (rowWrite s r 0xE000 1 0 v fun x => testWrite x v)

/-- HBM_BIST. -/
def execHbmBist (r : Requester) (v : List Byte) (s : State) : Host.Outcome State Fault Refusal :=
  .next (rowWrite s r 0xE000 1 0 v fun x => testWrite x v)

/-- RECEIVER_CALIBRATION. -/
def execReceiverCalibration (r : Requester) (v : List Byte) (s : State) : Host.Outcome State Fault Refusal :=
  .next (rowWrite s r 0xE000 1 0 v fun x => testWrite x v)

/-- LOGIC_BIST. -/
def execLogicBist (r : Requester) (v : List Byte) (s : State) : Host.Outcome State Fault Refusal :=
  .next (rowWrite s r 0xE000 1 0 v fun x => testWrite x v)

/-- PATROL_SCRUB_PASS. -/
def execPatrolScrubPass (r : Requester) (v : List Byte) (s : State) : Host.Outcome State Fault Refusal :=
  .next (rowWrite s r 0xE000 1 0 v fun x => testWrite x v)

/-- TEST_COMPLETE. -/
def execTestComplete (units errors addr : Nat) (s : State) : Host.Outcome State Fault Refusal := .next (testEnds s units errors addr)

/-- DIAGNOSTIC_READ. -/
def execDiagnosticRead (r : Requester) (v : List Byte) (s : State) : Host.Outcome State Fault Refusal :=
  .next (rowWrite s r 0xE010 1 0 v fun x => diagReadWrite x v)

/-- DIAGNOSTIC_WRITE. -/
def execDiagnosticWrite (r : Requester) (v : List Byte) (s : State) : Host.Outcome State Fault Refusal :=
  .next (rowWrite s r 0xE010 3 0 v fun x => diagWriteWrite x v)

end Sys2Proof.Machine
end

