-- ==== Sys2Proof/Machine/Gecko.lean ====
section
/-!
DEFINITION. The commands of the Gecko engines (chapter 11): invocations, bindings, replies and timers, the wait-cycle monitor, failover, and
step tables.
-/
namespace Sys2Proof.Machine

open Sys2Proof

/-- INVOCATION_START (R239, R240): a bound context takes its next invocation, or firmware starts a vendor table in a pooled or system
context. -/
def execInvocationStart (c : CtxN) (work : Option VendorWork) (s : State) : Host.Outcome State Fault Refusal :=
  .next (
    if canStart s c.val = false then s
    else match work with
      | none => if bindKind (bindRec s c.val) = 1 then takeInvocation s c.val else s
      | some x => startVendor s c.val x)

/-- A chunk of binding records: whole records of 8 bytes. -/
def bindingsChunk (s : State) (e start : Nat) (v : List Byte) : State × Status :=
  if v.length % 8 ≠ 0 then (s, .type) else bindingsWrite s e start (recordsOf 8 v)

/-- BINDINGS_WRITE (0x8000:07, R238). -/
def execBindingsWrite (r : Requester) (e : EngineN) (start : Fin 64) (recs : List Byte) (s : State) : Host.Outcome State Fault Refusal :=
  .next (rowChunk s r 0x8000 7 e.val fun x => bindingsChunk x e.val start.val recs)

/-- MEMORY_REPLY (R236). -/
def execMemoryReply (c : CtxN) (data : List Byte) (status : Byte) (s : State) : Host.Outcome State Fault Refusal :=
  .next (memoryReply s c.val data status.toNat)

/-- TIMER_EXPIRY (R252): event 25. -/
def execTimerExpiry (c : CtxN) (s : State) : Host.Outcome State Fault Refusal :=
  .next (
    if (getCtx s c.val).timer.isSome then raiseExt (setCtx s c.val { getCtx s c.val with timer := none }) c.val 25 else s)

/-- WAIT_CYCLE (R253). -/
def execWaitCycle (cl : ClusterN) (grp : Byte) (s : State) : Host.Outcome State Fault Refusal := .next (waitCycle s cl.val grp.toNat)

/-- ENGINE_FAILURE (R254). -/
def execEngineFailure (e : EngineN) (s : State) : Host.Outcome State Fault Refusal := .next (engineFails s e.val)

/-- ENGINE_OUT_OF_SERVICE (0x8000:01 written 0, R254). -/
def execEngineOutOfService (r : Requester) (e : EngineN) (s : State) : Host.Outcome State Fault Refusal :=
  .next (rowWrite s r 0x8000 1 e.val [0] fun x => engineTargetWrite x e.val 0)

/-- ENGINE_RETURN (0x8000:01 written 1, R257). -/
def execEngineReturn (r : Requester) (e : EngineN) (s : State) : Host.Outcome State Fault Refusal :=
  .next (rowWrite s r 0x8000 1 e.val [1] fun x => engineTargetWrite x e.val 1)

/-- BUILT_IN_CHECK_COMPLETE (R257). -/
def execBuiltInCheckComplete (e : EngineN) (ok : Bool) (s : State) : Host.Outcome State Fault Refusal :=
  .next (
    if s.gecko.checking.contains e.val then
      let s1 := { s with gecko := { s.gecko with checking := s.gecko.checking.filter (· != e.val) } }
      if ok then engineReturns s1 e.val else raise s1 (clusterSource (e.val / 32)) 25 .notice []
    else s)

/-- CONTEXT_MOVE_BACK (R257). -/
def execContextMoveBack (c : CtxN) (s : State) : Host.Outcome State Fault Refusal := .next (moveBack s c.val)

/-- Load (0x8110:02). -/
def loadWrite (s : State) (owner : Nat) : State × Status :=
  if 4096 ≤ owner then (s, .range)
  else
    let x := loadImage s owner s.gecko.staging
    (cmdDone x.1 0x8110 2 0 x.2.1, .ok)

/-- LOAD. -/
def execTableLoad (r : Requester) (owner : BitVec 16) (s : State) : Host.Outcome State Fault Refusal :=
  .next (rowWrite s r 0x8110 2 0 (be 2 owner.toNat) fun x => loadWrite x owner.toNat)

/-- Unload (0x8100:11): a vendor table at Vendor privilege; the action ends when nothing runs the table. -/
def unloadWrite (s : State) (r : Requester) (tb : Nat) : State × Status :=
  if tb < 512 ∧ r ≠ .vendor then (s, .denied)
  else
    if (getTable s tb).isSome = true ∨ vendorHere s tb = true then (unloadTable (cmdStart s 0x8100 11 tb) tb, .ok)
    else (cmdDone s 0x8100 11 tb 0, .ok)

/-- UNLOAD. -/
def execTableUnload (r : Requester) (tb : TableN) (s : State) : Host.Outcome State Fault Refusal :=
  .next (rowWrite s r 0x8100 11 tb.val [1] fun x => unloadWrite x r tb.val)

/-- UNLOAD_TIMEOUT (R250). -/
def execUnloadTimeout (tb : TableN) (s : State) : Host.Outcome State Fault Refusal := .next (unloadExpires s tb.val)

/-- Stop context (0x8001:01). -/
def stopWrite (s : State) (r : Requester) (e v : Nat) : State × Status :=
  if 68 ≤ v then (s, .range)
  else if 64 ≤ v ∧ r ≠ .vendor then (s, .denied)
  else (cmdDone (stopRun s (e * 128 + v)) 0x8001 1 e 0, .ok)

/-- STOP_CONTEXT. -/
def execStopContext (r : Requester) (e : EngineN) (v : Byte) (s : State) : Host.Outcome State Fault Refusal :=
  .next (rowWrite s r 0x8001 1 e.val (be 4 v.toNat) fun x => stopWrite x r e.val v.toNat)

end Sys2Proof.Machine
end

