-- ==== Sys2Proof/Machine/Instances.lean ====
section
/-!
DEFINITION. The commands of instances, of the two mailboxes and of the dirty log (chapter 13). Payloads of CXL's own mailbox commands
are in the CXL specification's layout and byte order, those of the vendor commands in network byte order.
-/
namespace Sys2Proof.Machine

open Sys2Proof

/-- CREATE. -/
def execInstCreate (r : Requester) (v : List Byte) (s : State) : Host.Outcome State Fault Refusal :=
  .next (rowWrite s r 0x5001 1 0 v fun x => createWrite x v)

/-- DESTROY. -/
def execInstDestroy (r : Requester) (i : InstN) (s : State) : Host.Outcome State Fault Refusal :=
  .next (rowWrite s r 0x5000 3 i.val [1] fun x => destroyWrite x i.val)

/-- DESTROY_COMPLETE. -/
def execDestroyComplete (i : InstN) (s : State) : Host.Outcome State Fault Refusal := .next (destroyComplete s i.val)

/-- BIND: a write of 0x5010. -/
def execInstBind (r : Requester) (i : InstN) (sub : BindSub) (v : Byte) (s : State) : Host.Outcome State Fault Refusal :=
  .next (rowWrite s r 0x5010 (bindSub sub) i.val [v] fun x => presentationWrite x i.val (bindSub sub) v.toNat)

/-- UNBIND (R282). -/
def execInstUnbind (i : InstN) (s : State) : Host.Outcome State Fault Refusal := .next (unbind s i.val)

/-- HDM_DECODER_COMMIT (R283). -/
def execHdmDecoderCommit (i : InstN) (d : Fin 8) (rec : List Byte) (s : State) : Host.Outcome State Fault Refusal :=
  .next (if rec.length = 32 then hostCommit s i.val d.val (ofBe rec) else s)

/-! The tenant mailbox (R284, R285). -/

/-- The LD's mailbox takes commands: the instance is presented as an LD, and its function is not in reset. (Log 19: DESIGN CHOICE.) -/
def mailboxOpen (s : State) (i : Nat) : Bool := rd s 0x5010 2 i == 1 && !(getFn s (fnKey (getInst s i).usp (getInst s i).ld)).flr

/-- The answer of a mailbox command. -/
def mailboxReply (s : State) (i code : Nat) (payload : List Byte) : State := emit s (.mailbox i code payload)

/-- A mailbox command: nothing without a mailbox. (Log 20: DEDUCED; log 107: PRESUMED.) -/
def mailboxRun (s : State) (i : Nat) (f : State → State) : State := if mailboxOpen s i then f s else s

/-- A vendor command is allowed (R285). -/
def vendorBit (s : State) (i op : Nat) : Bool := decide (0xC000 ≤ op ∧ op ≤ 0xC007) && bit (rd s 0x5100 5 i) (op - 0xC000)

/-- A vendor command: Unsupported while its bit is clear. (Log 20: DEDUCED.) -/
def vendorRun (s : State) (i op : Nat) (f : State → State) : State :=
  mailboxRun s i fun x => if vendorBit x i op then f x else mailboxReply x i 3 []

/-- The commands of CXL that the mailbox supports (Table 13-6). -/
def cxlCommands : List Nat :=
  [0x0100, 0x0101, 0x0102, 0x0103, 0x0300, 0x0400, 0x0401, 0x4000, 0x4200, 0x4300, 0x4800, 0x4801, 0x4802, 0x4803]

/-- IDENTIFY_MEMORY_DEVICE: the manual gives its fields no values of their own; the capacity is the instance's. -/
def execIdentifyMemoryDevice (i : InstN) (s : State) : Host.Outcome State Fault Refusal :=
  .next (mailboxRun s i.val fun x => mailboxReply x i.val 0 (Config.identifyBytes i.val (instBytes x i.val fun st => st == 2)))

/-- The Command Effects Log: an entry of each supported command. (Log 107: PRESUMED.) -/
def celBytes (s : State) (i : Nat) : List Byte :=
  (cxlCommands ++ ((List.range 8).map (· + 0xC000)).filter (vendorBit s i)).flatMap fun op => le 2 op ++ le 2 (Config.celEffect op)

/-- The identifier of the Command Effects Log. -/
def celUuid : List Byte := be 16 0x0DA9C0B5BF414B788F7996B1623B3F17

/-- GET_SUPPORTED_LOGS. -/
def execGetSupportedLogs (i : InstN) (s : State) : Host.Outcome State Fault Refusal :=
  .next (mailboxRun s i.val fun x => mailboxReply x i.val 0 (le 2 1 ++ zeros 6 ++ celUuid ++ le 4 (celBytes x i.val).length))

/-- GET_LOG (CEL): Invalid Input for a range beyond the log. -/
def execGetLog (i : InstN) (offset length : BitVec 32) (s : State) : Host.Outcome State Fault Refusal :=
  .next (mailboxRun s i.val fun x =>
    let l := celBytes x i.val
    if l.length < offset.toNat + length.toNat then mailboxReply x i.val 2 [] else mailboxReply x i.val 0 (slice l offset.toNat length.toNat))

/-- The records of an event log, as many as a payload holds. (Log 107: PRESUMED.) -/
def logRecords (s : State) (i log : Nat) : List EventRec := (getInst s i).events.filter fun e => e.log == log

/-- GET_EVENT_RECORDS. -/
def execGetEventRecords (i : InstN) (log : Byte) (s : State) : Host.Outcome State Fault Refusal :=
  .next (mailboxRun s i.val fun x =>
    let l := logRecords x i.val log.toNat
    let n := min l.length 511
    if 5 ≤ log.toNat then mailboxReply x i.val 2 []
    else mailboxReply x i.val 0 ([BitVec.ofNat 8 (2 * b2n (decide (n < l.length)))] ++ zeros 19 ++ le 2 n ++ zeros 10
      ++ (l.take n).flatMap fun e => padTo (zeros 20 ++ le 2 e.handle ++ e.body) 128))

/-- CLEAR_EVENT_RECORDS: Invalid Handle, and nothing changed, when a handle names no record of the log. -/
def execClearEventRecords (i : InstN) (log : Byte) (handles : List Nat) (s : State) : Host.Outcome State Fault Refusal :=
  .next (mailboxRun s i.val fun x =>
    let l := logRecords x i.val log.toNat
    let inst := getInst x i.val
    if 5 ≤ log.toNat then mailboxReply x i.val 2 []
    else if handles.all fun h => l.any fun e => e.handle == h then
      mailboxReply (setInst x i.val { inst with events := inst.events.filter fun e => !(e.log == log.toNat && handles.contains e.handle) }) i.val 0 []
    else mailboxReply x i.val 0x0E [])

/-- GET_EVENT_INTERRUPT_POLICY. -/
def execGetEventInterruptPolicy (i : InstN) (s : State) : Host.Outcome State Fault Refusal :=
  .next (mailboxRun s i.val fun x => mailboxReply x i.val 0 (getInst x i.val).policy)

/-- SET_EVENT_INTERRUPT_POLICY: four logs, or five with the dynamic capacity log. -/
def execSetEventInterruptPolicy (i : InstN) (policy : List Byte) (s : State) : Host.Outcome State Fault Refusal :=
  .next (mailboxRun s i.val fun x =>
    let inst := getInst x i.val
    if policy.length = 4 ∨ policy.length = 5 then
      mailboxReply (setInst x i.val { inst with policy := policy ++ inst.policy.drop policy.length }) i.val 0 []
    else mailboxReply x i.val 2 [])

/-- GET_HEALTH_INFO: its values are the part's. -/
def execGetHealthInfo (i : InstN) (s : State) : Host.Outcome State Fault Refusal :=
  .next (mailboxRun s i.val fun x => freeNext (mailboxReply x i.val 0 (Config.healthBytes x.free)))

/-- GET_TIMESTAMP: nanoseconds of operating time, since no timestamp can be set. -/
def execGetTimestamp (i : InstN) (s : State) : Host.Outcome State Fault Refusal :=
  .next (mailboxRun s i.val fun x => mailboxReply x i.val 0 (le 8 (x.clock.secBase * 1000000000 + x.clock.core * 2 / 3)))

/-- The poisoned lines of an instance by offset, in a range. -/
def poisonOffsets (s : State) (i off n : Nat) : List Nat :=
  (instExtents s i).flatMap fun e =>
    let x := getExt s e
    if x.st ≠ 2 then []
    else (s.pool.poison.filterMap fun p =>
      -- a promoted granule's lines stand at its remapped place
      let g := granuleOf (p.1 * 64)
      let key := match s.pool.overlay.find? fun r => r.2.dest == g with
        | some r => r.1 * 65536 + p.1 * 64 % 65536
        | none => p.1 * 64
      let a := x.offset + (key - extDpa x)
      if coversDpa x key = true ∧ off ≤ a ∧ a < off + n then some a else none)

/-- GET_POISON_LIST: offset and length of instance memory. -/
def execGetPoisonList (i : InstN) (offset length : BitVec 64) (s : State) : Host.Outcome State Fault Refusal :=
  .next (mailboxRun s i.val fun x =>
    let l := poisonOffsets x i.val offset.toNat length.toNat
    let n := min l.length 4094
    mailboxReply x i.val 0 ([BitVec.ofNat 8 (b2n (decide (n < l.length)))] ++ zeros 9 ++ le 2 n ++ zeros 20
      ++ (l.take n).flatMap fun a => le 8 (a + 2) ++ le 4 1 ++ zeros 4))

/-- The valid DC regions of an instance with their numbers. -/
def validRegions (s : State) (i : Nat) : List (Nat × Nat × Nat × Nat × Nat) :=
  ((List.range 8).map fun r => (r, dcRegion s i r)).filter fun x => dcValid x.2

/-- GET_DYNAMIC_CAPACITY_CONFIGURATION. -/
def execGetDynamicCapacityConfiguration (i : InstN) (first count : Byte) (s : State) : Host.Outcome State Fault Refusal :=
  .next (mailboxRun s i.val fun x =>
    let l := validRegions x i.val
    let part := slice l first.toNat count.toNat
    mailboxReply x i.val 0 (le 1 l.length ++ le 1 part.length ++ zeros 6
      ++ (part.flatMap fun r => le 8 r.2.1 ++ le 8 r.2.2.1 ++ le 8 r.2.2.1 ++ le 8 (2 ^ (21 + r.2.2.2.1)) ++ le 4 r.1
          ++ le 1 (4 * b2n (dcShareable r.2)) ++ zeros 3)
      ++ le 4 262144 ++ le 4 (262144 - (instExtents x i.val).length) ++ zeros 8))

/-- GET_DYNAMIC_CAPACITY_EXTENT_LIST: the extents in state 2, by offset; shared ones with their DCD tag (R136). -/
def execGetDynamicCapacityExtentList (i : InstN) (start count : BitVec 32) (s : State) : Host.Outcome State Fault Refusal :=
  .next (mailboxRun s i.val fun x =>
    let l := (((instExtents x i.val).filter fun e => (getExt x e).st == 2).mergeSort fun a b => decide ((getExt x a).offset ≤ (getExt x b).offset))
    let part := slice l start.toNat (min count.toNat 1637)
    if l.length < start.toNat then mailboxReply x i.val 2 []
    else mailboxReply x i.val 0 (le 4 part.length ++ le 4 l.length ++ le 4 (Config.extentListGen (l.map fun e => e * 65536 + (getExt x e).gen)) ++ zeros 4
      ++ part.flatMap fun e => le 8 (getExt x e).offset ++ le 8 (extBytes (getExt x e))
          ++ (if (getExt x e).shared then zeros 14 ++ be 2 (getExt x e).shareSet else zeros 16) ++ zeros 8))

/-- MAILBOX_UNSUPPORTED. -/
def execMailboxUnsupported (i : InstN) (opcode : BitVec 16) (s : State) : Host.Outcome State Fault Refusal :=
  .next (mailboxRun s i.val fun x =>
    if cxlCommands.contains opcode.toNat = true ∨ vendorBit x i.val opcode.toNat = true then x else mailboxReply x i.val 3 [])

/-- Invocations enter a queue (R239): those beyond 256 entries are not accepted. The contexts that serve it see event 24. -/
def submit (s : State) (i k : Nat) (descs : List (List Byte)) : State :=
  let old := ringOf s i k
  let n := min descs.length (256 - old.length)
  let s1 := setRing s i k (old ++ descs.take n)
  let s2 := ((boundCtxs s1 i).filter fun c => bit (bindQueues (bindRec s1 c)) k).foldl (fun a c => if 0 < n then raiseExt a c 24 else a) s1
  mailboxReply (completeUnserved s2 i) i 0 (be 1 n)

/-- SUBMIT_INVOCATIONS (0xC001). -/
def execSubmitInvocations (i : InstN) (k : QueueK) (descs : List (List Byte)) (s : State) : Host.Outcome State Fault Refusal :=
  .next (vendorRun s i.val 0xC001 fun x =>
    if descs = [] ∨ 63 < descs.length ∨ descs.any (fun d => d.length != 64) then mailboxReply x i.val 2 [] else submit x i.val k.val descs)

/-- Completions of the queues of a mask, lowest queue first. -/
def takeCompletions (s : State) (i mask : Nat) : List Nat → Nat → State × List Byte × Nat
  | [], _ => (s, [], 0)
  | k :: t, left =>
    let l := look [] (getInst s i).compls k
    let n := if bit mask k then min left l.length else 0
    let s1 := if n = 0 then s else setInst s i { getInst s i with compls := put (getInst s i).compls k (l.drop n) }
    let r := takeCompletions s1 i mask t (left - n)
    (r.1, ((l.take n).flatMap fun b => be 1 k ++ zeros 7 ++ b) ++ r.2.1, n + r.2.2)

/-- GET_COMPLETIONS (0xC002). -/
def execGetCompletions (i : InstN) (mask max : BitVec 16) (s : State) : Host.Outcome State Fault Refusal :=
  .next (vendorRun s i.val 0xC002 fun x =>
    let r := takeCompletions x i.val mask.toNat (List.range 16) (min max.toNat 1638)
    mailboxReply (completeUnserved r.1 i.val) i.val 0 (be 2 r.2.2 ++ zeros 6 ++ r.2.1))

/-- LOAD_STEP_TABLE (0xC003): Busy while a background command runs. -/
def execLoadStepTable (i : InstN) (image : List Byte) (s : State) : Host.Outcome State Fault Refusal :=
  .next (vendorRun s i.val 0xC003 fun x =>
    if (getInst x i.val).background.isSome then mailboxReply x i.val 6 []
    else
      let r := loadImage x i.val image
      mailboxReply r.1 i.val 0 (be 1 r.2.1 ++ be 2 r.2.2))

/-- UNLOAD_STEP_TABLE (0xC004): Invalid Input for a table that the instance does not own. -/
def execUnloadStepTable (i : InstN) (tb : BitVec 16) (s : State) : Host.Outcome State Fault Refusal :=
  .next (vendorRun s i.val 0xC004 fun x =>
    match getTable x tb.toNat with
    | some t =>
      if t.owner ≠ i.val then mailboxReply x i.val 2 []
      else if (getInst x i.val).background.isSome then mailboxReply x i.val 6 []
      else
        let y := unloadTable x tb.toNat
        -- in the background until nothing runs the table
        if (getTable y tb.toNat).isSome then mailboxReply (setInst y i.val { getInst y i.val with background := some tb.toNat }) i.val 1 []
        else mailboxReply y i.val 0 []
    | none => mailboxReply x i.val 2 [])

/-- GET_NOTICES (0xC005). -/
def execGetNotices (i : InstN) (max : Byte) (s : State) : Host.Outcome State Fault Refusal :=
  .next (vendorRun s i.val 0xC005 fun x =>
    let l := (getInst x i.val).notices.take max.toNat
    mailboxReply x i.val 0 (be 1 l.length ++ zeros 7 ++ l.flatMap Notice.bytes))

/-- Notices up to and including a SEQ are freed. -/
def ackNotices (s : State) (i seq : Nat) : State :=
  let x := getInst s i
  let l := x.notices.filter fun n => !decide ((seq + 2 ^ 32 - n.seq) % 2 ^ 32 < 2 ^ 31)
  wr (setInst s i { x with notices := l }) 0x5100 2 i l.length

/-- ACKNOWLEDGE_NOTICES (0xC006). -/
def execAcknowledgeNotices (i : InstN) (seq : BitVec 32) (s : State) : Host.Outcome State Fault Refusal :=
  .next (vendorRun s i.val 0xC006 fun x => mailboxReply (ackNotices x i.val seq.toNat) i.val 0 [])

/-- CONFIRM_FLUSH (0xC007): the confirmation stands at 0x5100:06 (R211). -/
def execConfirmFlush (i : InstN) (offset length : BitVec 64) (s : State) : Host.Outcome State Fault Refusal :=
  .next (vendorRun s i.val 0xC007 fun x =>
    mailboxReply (wrBlob x 0x5100 6 i.val (be 8 offset.toNat ++ be 8 length.toNat ++ be 8 (timeNow x))) i.val 0 [])

/-! The manager's notices (R286). -/

/-- Post notice (0x5100:01). -/
def postNoticeWrite (s : State) (i : Nat) (v : List Byte) : State × Status :=
  let k := fieldBe v 0 2
  if instExists s i = false then (s, .absent)
  else if !((4 ≤ k && k ≤ 7) || (0x100 ≤ k && k ≤ 0x7FFF)) then (s, .range)
  else if 64 ≤ (getInst s i).notices.length then (cmdDone s 0x5100 1 i 0x58, .ok)
  else (cmdDone (pushNotice s i k (v.drop 4)) 0x5100 1 i 0, .ok)

/-- POST_NOTICE. -/
def execPostNotice (r : Requester) (i : InstN) (v : List Byte) (s : State) : Host.Outcome State Fault Refusal :=
  .next (rowWrite s r 0x5100 1 i.val v fun x => postNoticeWrite x i.val v)

/-! The dirty log. -/

/-- START. -/
def execDirtyStart (r : Requester) (i : InstN) (s : State) : Host.Outcome State Fault Refusal :=
  .next (rowWrite s r 0x5200 1 i.val [1] fun x => dirtyStartWrite x i.val)

/-- STOP. -/
def execDirtyStop (r : Requester) (i : InstN) (s : State) : Host.Outcome State Fault Refusal :=
  .next (rowWrite s r 0x5200 2 i.val [1] fun x => dirtyStopWrite x i.val)

/-- HARVEST. -/
def execDirtyHarvest (r : Requester) (i : InstN) (v : List Byte) (s : State) : Host.Outcome State Fault Refusal :=
  .next (rowWrite s r 0x5200 3 i.val v fun x => dirtyHarvestWrite x i.val v)

/-- HARVEST_TICK. -/
def execHarvestTick (s : State) : Host.Outcome State Fault Refusal := .next (harvestTick s)

/-- MARK_FLUSH_COMPLETE. -/
def execMarkFlushComplete (i : InstN) (s : State) : Host.Outcome State Fault Refusal := .next (markFlushed s i.val)

/-- BITMAP_CLEAR_COMPLETE. -/
def execBitmapClearComplete (i : InstN) (s : State) : Host.Outcome State Fault Refusal := .next (bitmapCleared s i.val)

/-- HARVEST_TRANSFER_COMPLETE. -/
def execHarvestTransferComplete (i : InstN) (s : State) : Host.Outcome State Fault Refusal := .next (harvestDone s i.val)

end Sys2Proof.Machine
end

