-- ==== Sys2Proof/Machine/Pool.lean ====
section
/-!
DEFINITION. The commands of the memory pool (chapter 7).
-/
namespace Sys2Proof.Machine

open Sys2Proof

/-- Grant (0x4110:01): a grant that names blocks under test aborts the test. -/
def grantCommand (s : State) (v : List Byte) : State × Status :=
  let g := parseGrant v
  let y := grantWrite s v
  if y.2 = .ok ∧ g.any = false ∧ testsBlock s g.target g.first g.blocks = true then (abortTest y.1, .ok) else y

/-- GRANT: a grant that names a block under test aborts the test (R415). -/
def execGrant (r : Requester) (v : List Byte) (s : State) : Host.Outcome State Fault Refusal :=
  .next (rowWrite s r 0x4110 1 0 v fun x => grantCommand x v)

/-- ADD_DYNAMIC_CAPACITY_RESPONSE: Invalid Input when the extent is no longer offered to the instance. -/
def execAddDynamicCapacityResponse (i : InstN) (e : ExtentN) (accept : Bool) (s : State) : Host.Outcome State Fault Refusal :=
  .next (mailboxRun s i.val fun x =>
    let k := getExt x e.val
    if k.st = 1 ∧ k.inst = i.val then
      mailboxReply (if accept then acceptOffer x e.val else withdrawOffer x e.val 0x7B) i.val 0 []
    else mailboxReply x i.val 2 [])

/-- OFFER_TIMEOUT. -/
def execOfferTimeout (e : ExtentN) (s : State) : Host.Outcome State Fault Refusal :=
  .next (if (getExt s e.val).st = 1 then withdrawOffer s e.val 0x7C else s)

/-- RELEASE: value 0, through the host. -/
def execExtentRelease (r : Requester) (e : ExtentN) (s : State) : Host.Outcome State Fault Refusal :=
  .next (rowWrite s r (extObj e.val) 3 (extQ e.val) (be 4 0) fun x => releaseWrite x e.val (be 4 0))

/-- FORCED_RELEASE: value 1. -/
def execForcedRelease (r : Requester) (e : ExtentN) (s : State) : Host.Outcome State Fault Refusal :=
  .next (rowWrite s r (extObj e.val) 3 (extQ e.val) (be 4 1) fun x => releaseWrite x e.val (be 4 1))

/-- RELEASE_DYNAMIC_CAPACITY. -/
def execReleaseDynamicCapacity (i : InstN) (e : ExtentN) (s : State) : Host.Outcome State Fault Refusal :=
  .next (mailboxRun s i.val fun x =>
    let k := getExt x e.val
    if k.st = 2 ∧ k.inst = i.val then mailboxReply (beginRelease x e.val) i.val 0 [] else mailboxReply x i.val 2 [])

/-- CACHE_ACK: a new record enters the index as every tile sees it, also one that was lost meanwhile, or a releasing one has left it (R142). -/
def execCacheAck (e : ExtentN) (s : State) : Host.Outcome State Fault Refusal :=
  .next (
    let k := getExt s e.val
    if k.st = 2 ∨ k.st = 4 then setExt s e.val { k with indexed := true }
    else if k.st = 3 ∧ k.phase = 1 then dropIndex (setExt s e.val { k with indexed := false, phase := 2 }) e.val
    else s)

/-- t2 of Table 7-11: back-invalidation of the extent's lines for this instance's hosts, and of blocks without another sharer for all. (Log 74: DEDUCED.) -/
def startReleaseRbi (s : State) (e : Nat) : State :=
  let x := getExt s e
  let usp := (getInst s x.inst).usp
  let shared := (extBlocks x).filter fun b => !(blockExtents s x.target b).all (· == e)
  let range (b : Nat) : Nat × Nat := (blkLo s x.target b, blkLo s x.target b + blockSize s x.target - 1)
  let sole := if shared = [] then [(extDpa x, extDpa x + extBytes x - 1)]
    else ((extBlocks x).filter fun b => !shared.contains b).map range
  let s1 := setExt s e { x with phase := 3 }
  if shared = [] ∨ 64 ≤ usp ∧ rd s 0x5010 2 x.inst ≠ 2 then startRbi s1 { ranges := sole, port := none, why := .release e }
  else
    let p := if rd s 0x5010 2 x.inst = 2 then none else some usp
    startRbi (startRbi s1 { ranges := shared.map range, port := p, why := .release e }) { ranges := sole, port := none, why := .release e }

/-- RELEASE_DRAIN_TIMEOUT: what is still outstanding receives synthetic completions. (Log 75: DEDUCED.) -/
def execReleaseDrainTimeout (e : ExtentN) (s : State) : Host.Outcome State Fault Refusal :=
  .next (
    let k := getExt s e.val
    if k.st = 3 ∧ k.phase = 2 then startReleaseRbi (cutRequests s fun r => r.extent == e.val) e.val else s)

/-- Requests translated to an extent and not yet completed (0x41xx:04). -/
def inFlight (s : State) (e : Nat) : Nat :=
  let p (r : Req) : Bool := r.extent == e
  s.coh.lines.foldl (fun a x => a + (lineReqs x.2 p).length) 0
    + s.lit.moves.foldl (fun a x => a + (x.2.held.filter p).length) 0 + s.lit.locked.foldl (fun a x => a + (x.2.filter p).length) 0 + s.coh.full.foldl (fun a x => a + (x.2.filter p).length) 0

/-- RELEASE_REQUESTS_DONE: none is left. -/
def execReleaseRequestsDone (e : ExtentN) (s : State) : Host.Outcome State Fault Refusal :=
  .next (
    let k := getExt s e.val
    if k.st = 3 ∧ k.phase = 2 ∧ inFlight s e.val = 0 then startReleaseRbi s e.val else s)

/-- The scrub of a block: zeros written and read back by a system context of the target's home tile (R149, R161), in the system class of the
target's scheduler. A block whose scrub its gate refuses stays in scrubbing. (Log 216: DEDUCED.) -/
def scrubTarget (s : State) (t b : Nat) : State :=
  if (getBlk s t b).st = 3 ∧ (getBlk s t b).sharers = 0 then
    let n := blockSize s t
    let src := 2 ^ 28 + 256 * tgtHome t * 128 + 64
    let x := gateRange s (blkLo s t b) n .system true src
    let y := if x.2 then gateRange x.1 (blkLo s t b) n .system false src else x
    if y.2 then
      let s1 := systemTraffic y.1 t (2 * (n / 64))
      scrubBlock (if t < 4 then largeEvent s1 (76 + t) 8 (n / 64) else s1) t b
    else y.1
  else s

/-- SCRUB_COMPLETE. -/
def execScrubComplete (tg : TargetN) (blk : BlockN) (s : State) : Host.Outcome State Fault Refusal :=
  .next (if tgtState s tg.val = 6 then s else scrubTarget s tg.val blk)

/-- TARGET_POOL_WRITE. -/
def execTargetPoolWrite (r : Requester) (tg : TargetN) (v : Byte) (s : State) : Host.Outcome State Fault Refusal :=
  .next (rowWrite s r 0x4000 1 tg.val [v] fun x => targetPoolWrite x tg.val v.toNat)

/-- JOIN_COMPLETE. -/
def execJoinComplete (tg : TargetN) (deviceRefuses : Bool) (s : State) : Host.Outcome State Fault Refusal :=
  .next (if tgtState s tg.val = 2 then finishJoin s tg.val deviceRefuses else s)

/-- DRAIN_DONE. -/
def execDrainDone (tg : TargetN) (s : State) : Host.Outcome State Fault Refusal := .next (drainDone s tg.val)

/-- LINK_RETURN_TIMEOUT. -/
def execLinkReturnTimeout (tg : TargetN) (s : State) : Host.Outcome State Fault Refusal :=
  .next (if (getTgt s tg.val).away then targetLost s tg.val else s)

/-- Near-tier target (0x4000:08): cache frames beyond the room that is left are given up (R217). -/
def nearTierCommand (s : State) (t v : Nat) : State × Status :=
  let y := nearTierWrite s t v
  (trimFrames y.1 t, y.2)

/-- NEAR_TIER_WRITE. -/
def execNearTierWrite (r : Requester) (t : TileN) (v : BitVec 16) (s : State) : Host.Outcome State Fault Refusal :=
  .next (rowWrite s r 0x4000 8 t.val (be 2 v.toNat) fun x => nearTierCommand x t.val v.toNat)

/-- PSEUDO_CHANNEL_FAILURE. -/
def execPseudoChannelFailure (t : TileN) (pc : Fin 32) (s : State) : Host.Outcome State Fault Refusal :=
  .next (failChannel s t.val pc.val)

/-- Retire pseudo-channel (0x4001:05). -/
def retireWrite (s : State) (t v : Nat) : State × Status :=
  if 31 < v then (s, .range)
  else if 0 < failedIn s t (stripeSet v) ∧ bit (rd s 0x4001 1 t) v = false then (cmdDone s 0x4001 5 t 0x7A, .ok)
  else (cmdDone (failChannel s t v) 0x4001 5 t 0, .ok)

/-- RETIRE_PSEUDO_CHANNEL. -/
def execRetirePseudoChannel (r : Requester) (t : TileN) (v : Byte) (s : State) : Host.Outcome State Fault Refusal :=
  .next (rowWrite s r 0x4001 5 t.val (be 4 v.toNat) fun x => retireWrite x t.val v.toNat)

/-- The corrected errors of a row that passed the threshold at 0x4001:07 (R157): more than the threshold, how many more is free. (Log 212: DESIGN CHOICE.) -/
def rowErrors (s : State) (t : Nat) : State :=
  let n := rd s 0x4001 7 t + 1 + freeBits s 16
  largeEvent (bump (freeNext s) 0x4001 4 t 64 n) (76 + t) 5 n

/-- ROW_REPAIR: by a spare row, or the bank is exhausted. -/
def execRowRepair (t : TileN) (bank : Nat) (spareLeft : Bool) (s : State) : Host.Outcome State Fault Refusal :=
  .next (
    if spareLeft then
      let s1 := raise (bump (rowErrors s t.val) 0x4001 2 t.val 32 1) (0x4100 + t.val) 3 .notice []
      { s1 with pool := { s1.pool with softRepairs := s1.pool.softRepairs + 1 } }
    else
      let s1 := rowErrors s t.val
      if s1.pool.exhausted.contains (t.val, bank) then s1
      else bump { s1 with pool := { s1.pool with exhausted := (t.val, bank) :: s1.pool.exhausted } } 0x4001 3 t.val 32 1)

end Sys2Proof.Machine
end

