-- ==== Sys2Proof/Machine/Gates.lean ====
section
/-!
DEFINITION. The commands of the colour gates (chapter 8), and the end of a range back-invalidation (R190).
-/
namespace Sys2Proof.Machine

open Sys2Proof

/-- A refusal of the same cycle, as the gate records it. -/
def hitRefused (h : GateHit) : Refused :=
  { kind := h.kind.val, write := h.write, inst := match h.inst with | some i => i.val | none => 0xFFFF
    source := h.source.toNat, keyDpa := h.keyDpa.toNat, locDpa := h.locDpa.toNat, colour := h.colour.toNat, region := h.region.toNat
    policy := h.policy.toNat }

/-- CLEAR_CAPTURE. (Log 80: DEDUCED.) -/
def execClearCapture (r : Requester) (g : TargetN) (same : Option GateHit) (s : State) : Host.Outcome State Fault Refusal :=
  .next (rowWrite s r 0x4200 5 g.val [1] fun x => clearCaptureWrite x g.val
    (same.bind fun h => if 1 ≤ h.kind.val then some { hitRefused h with locDpa := g.val * 2 ^ 44 + h.locDpa.toNat % 2 ^ 44 } else none))

/-- The key granules of a list that lie in an HDM-DB shared region of some instance, as ranges. -/
def trackedRanges (s : State) (keys : List Nat) : List (Nat × Nat) :=
  let rs := (s.insts.map (·.1)).flatMap fun i => hdmDbRanges s i
  (keys.filter fun k => rs.any fun r => decide (r.1 < k + 65536 ∧ k ≤ r.2)).map fun k => (k, k + 65535)

/-- A granule is under the lock of a move (R225). -/
def locked (s : State) (key : Nat) : Bool := s.pool.overlay.any fun e => e.1 == granuleOf key && e.2.cutover

/-- The colour takes effect (R177): granules that were released meanwhile make the action end with 0x81. -/
def finishRecolour (s : State) (i off n c : Nat) : State :=
  let keys := recolourKeys s i off n
  let s1 := applyRecolour s i off n c
  let s2 := if c = 0xFF then movesClosed s1 fun g => keys.contains (some (g * 65536)) else s1
  if keys.any Option.isNone then cmdEnd s2 0x4300 3 0 3 0x81 else cmdEnd s2 0x4300 3 0 2 0

/-- Recolour (0x4300:03). -/
def recolourWrite (s : State) (v : List Byte) : State × Status :=
  let i := fieldBe v 0 2
  let off := fieldBe v 4 8
  let n := fieldBe v 12 4
  if n = 0 ∨ off % 65536 ≠ 0 then (s, .range)
  else if 4096 ≤ i ∨ instBytes s i (fun _ => true) < n * 65536 then (cmdDone s 0x4300 3 0 0x81, .ok)
  else
    let keys := recolourKeys s i off n
    let found := keys.filterMap id
    if keys.any Option.isNone then (cmdDone s 0x4300 3 0 0x81, .ok)
    else
      let s1 := cmdStart s 0x4300 3 0
      let rs := trackedRanges s found
      if rs ≠ [] ∨ found.any (locked s) = true then
        (startRbi s1 { ranges := rs, port := none, why := .recolour i off n (fieldBe v 3 1) }, .ok)
      else (finishRecolour s1 i off n (fieldBe v 3 1), .ok)

/-- RECOLOUR. -/
def execRecolour (r : Requester) (v : List Byte) (s : State) : Host.Outcome State Fault Refusal :=
  .next (rowWrite s r 0x4300 3 0 v fun x => recolourWrite x v)

/-- QUERY. -/
def execTagQuery (r : Requester) (v : List Byte) (s : State) : Host.Outcome State Fault Refusal :=
  .next (rowWrite s r 0x4300 4 0 v fun x => queryWrite x v)

/-- t3 to t5 of Table 7-11; the last extent of a lost target that is back makes it a candidate (R153). -/
def finishRelease (s : State) (e : Nat) : State :=
  let x := getExt s e
  if x.st = 3 ∧ x.phase = 3 then
    let sole := (extBlocks x).filter fun b => (blockExtents s x.target b).all (· == e)
    let whole := decide (sole.length = x.blocks)
    let ranges := if whole then [(extDpa x, extDpa x + extBytes x - 1)] else sole.map fun b => (blkLo s x.target b, blkLo s x.target b + blockSize s x.target - 1)
    let s1 := dropRange (abandonWhere s 0x92 fun g _ => soleGran s e g) ranges
    lostReturns (runMoves (releaseBlocks s1 e)) x.target
  else s

/-- What a range back-invalidation was asked for goes on; a release may wait for two. -/
def rbiDone (s : State) (x : RbiFor) : State :=
  match x with
  | .release e => if s.coh.rbis.any fun r => r.2.why == .release e then s else finishRelease s e
  | .recolour i off n c => finishRecolour s i off n c
  | .service => s
  | .move g => recallDone s g
  | .unbind i => unbound s i

/-- A recolour waits for the locks of its granules. -/
def rbiWaits (s : State) (x : RbiFor) : Bool :=
  match x with
  | .recolour i off n _ => ((recolourKeys s i off n).filterMap id).any (locked s)
  | _ => false

/-- RANGE_BACK_INVALIDATION_COMPLETE: a line that a host took again is cleared again first. -/
def execRangeBackInvalidationComplete (j : Nat) (s : State) : Host.Outcome State Fault Refusal :=
  .next (
    match s.coh.rbis.find? fun e => e.1 == j with
    | none => s
    | some (_, x) =>
      if rbiLeft s x ≠ [] then rbiScan s x
      else if rbiWaits s x.why then s
      else rbiDone { s with coh := { s.coh with rbis := del s.coh.rbis j } } x.why)

end Sys2Proof.Machine
end

