-- ==== Sys2Proof/Machine/Link.lean ====
section
/-!
DEFINITION. The commands of a port's link (chapter 5) that touch nothing beyond it.
-/
namespace Sys2Proof.Machine

open Sys2Proof

/-- QUIESCE_TARGET (R61). -/
def execQuiesceTarget (r : Requester) (g : GroupN) (v : Byte) (s : State) : Host.Outcome State Fault Refusal :=
  .next (rowWrite s r 0x2140 1 (256 + g.val) [v] fun x => quiesceWrite x g.val v.toNat)

/-- A link-down of a DSP is a removal when presence is lost and the manager did not order it (R98). (Log 57: DEDUCED.) -/
def isRemoval (s : State) (p : Nat) (c : DownCause) (presenceLost : Bool) : Bool :=
  actingRole s p == 2 && presenceLost && c != .disabled

/-- LINK_DOWN (R93). -/
def execLinkDown (p : PortN) (cause : DownCause) (presenceLost : Bool) (s : State) : Host.Outcome State Fault Refusal :=
  .next (
    let s1 := portDown s p.val (downCode cause) (isRemoval s p.val cause presenceLost)
    if presenceLost then setPort s1 p.val { getPort s1 p.val with presence := false } else s1)

/-- The function of a port that holds a tag (R95). -/
def holderOf (s : State) (p tag : Nat) : Option Nat :=
  ((List.range 17).map (fnKey p)).find? fun k => (getFn s k).heldTags.contains tag

/-- LATE_RESPONSE (R91, R93, R95): to a request that has had its synthetic completion, or to a read of a function that its block gave up,
whose tag is free again. -/
def execLateResponse (p : PortN) (tag : Nat) (s : State) : Host.Outcome State Fault Refusal :=
  .next (
    if (getPort s p.val).lateTags.contains tag then lateResponse s p.val tag
    else match holderOf s p.val tag with
      | some k => bump (setFn s k { getFn s k with heldTags := (getFn s k).heldTags.erase tag }) 0x2200 8 p.val 64 1
      | none => s)

/-- PRESENCE_CHANGE (R97, R435): a kept target whose partner is gone is lost; a hot-plug event goes to the manager for a pool target,
else to the host. -/
def execPresenceChange (p : PortN) (present : Bool) (s : State) : Host.Outcome State Fault Refusal :=
  .next (
    if actingRole s p.val ≠ 2 ∨ (getPort s p.val).presence = present then setPort s p.val { getPort s p.val with presence := present }
    else
      let s1 := setPort s p.val { getPort s p.val with presence := present }
      let s2 := if present = false ∧ (getTgt s1 (dspTarget p.val)).away = true then
          targetLost (setPort s1 p.val { getPort s1 p.val with targetKept := false }) (dspTarget p.val)
        else s1
      if isPoolDsp s2 p.val then raise s2 (portSource p.val) 7 .notice [] else emit s2 (.hotPlug p.val present))

/-- FLIT_CRC_ERROR (R86): counted, NAKed and replayed; beyond FEC it latches UNCORRECTABLE (Table 16-2). (Log 56: DESIGN CHOICE.) -/
def execFlitCrcError (p : PortN) (resent : Nat) (beyondFec : Bool) (s : State) : Host.Outcome State Fault Refusal :=
  .next (
    let n := min resent (replayFlits s p.val)
    let s1 := bump (bump s 0x2200 3 p.val 64 1) 0x2200 2 p.val 64 1
    let s2 := portEvent (bump s1 0x2200 1 p.val 64 n) p.val 7 n none 0
    if beyondFec then raise (bump s2 0x2200 4 p.val 64 1) (portSource p.val) 2 .notice [] else s2)

/-- REPLAY_TIMEOUT (R86). -/
def execReplayTimeout (p : PortN) (resent : Nat) (s : State) : Host.Outcome State Fault Refusal :=
  .next (
    let n := min resent (replayFlits s p.val)
    portEvent (bump (bump s 0x2200 5 p.val 32 1) 0x2200 1 p.val 64 n) p.val 7 n none 0)

/-- AUDIT_PERIOD (R89): a pool without a quiet point in the period makes the hold; a new period begins. -/
def execAuditPeriod (p : PortN) (s : State) : Host.Outcome State Fault Refusal :=
  .next (
    let q := getPort s p.val
    if linkUp s p.val then
      setPort s p.val { q with auditHold := q.auditHold || (q.pools.filter audited).any (fun k => !k.quiet)
                               pools := q.pools.map fun k => { k with quiet := false } }
    else s)

/-- QUIET_POINT (R90 to R92). -/
def execQuietPoint (p : PortN) (pool : Fin 18) (avail : BitVec 32) (s : State) : Host.Outcome State Fault Refusal :=
  .next (
    let x := quietPoint s p.val pool.val avail.toNat
    if x.2 then portDown x.1 p.val 4 false else x.1)

/-- AUDIT_HOLD_TIMEOUT (R89). -/
def execAuditHoldTimeout (p : PortN) (s : State) : Host.Outcome State Fault Refusal :=
  .next (
    if (getPort s p.val).auditHold then bump (setPort s p.val { getPort s p.val with auditHold := false }) 0x2210 7 p.val 32 1 else s)

/-- RETRAIN_DRAIN_COMPLETE (R91, steps 2 and 3). -/
def execRetrainDrainComplete (p : PortN) (s : State) : Host.Outcome State Fault Refusal :=
  .next (
    if (getPort s p.val).retrain = 1 then
      let s1 := emit (cutPort s p.val) (.llReset p.val)
      wr (setPort s1 p.val { getPort s1 p.val with retrain := 2 }) 0x2010 2 p.val 4
    else s)

/-- CREDIT_RETRAIN_COMPLETE (R91, steps 3 and 4): limits that wait for flow-control initialisation take effect (R110). -/
def execCreditRetrainComplete (p : PortN) (credits : List Nat) (s : State) : Host.Outcome State Fault Refusal :=
  .next (if 2 ≤ (getPort s p.val).retrain then portLimits (retrainDone s p.val credits) p.val else s)

/-- LLRESET (R91): the partner's link-layer reset, honoured when both sides show LL_REINIT. -/
def execLlreset (p : PortN) (s : State) : Host.Outcome State Fault Refusal :=
  .next (
    if linkUp s p.val = true ∧ llReinit s p.val = true ∧ (getPort s p.val).retrain = 0 then
      wr (setPort s p.val { getPort s p.val with retrain := 3 }) 0x2010 2 p.val 4
    else s)

/-- FORCE_RETRAIN (R91, 0x2210:09). -/
def execForceRetrain (r : Requester) (p : PortN) (s : State) : Host.Outcome State Fault Refusal :=
  .next (rowWrite s r 0x2210 9 p.val [1] fun x => forceRetrainWrite x p.val)

/-! The TLS6400's own functions. -/

/-- BME_CLEAR (R94): the configuration write completes after the block is in force. -/
def execBmeClear (p : PortN) (f : FuncSel) (s : State) : Host.Outcome State Fault Refusal :=
  .next (
    let k := fnKey p.val (funcNo f)
    if actingRole s p.val ≠ 1 then s
    else if (getFn s k).flr then emit s (.cfgRetry k)
    else emit (blockReads s k) (.cfgDone k))

/-- BME_SET (R94). -/
def execBmeSet (p : PortN) (f : FuncSel) (s : State) : Host.Outcome State Fault Refusal :=
  .next (
    let k := fnKey p.val (funcNo f)
    if actingRole s p.val ≠ 1 then s
    else if (getFn s k).flr then emit s (.cfgRetry k)
    else emit (openFn s k) (.cfgDone k))

/-- The instances presented as a function's LD. -/
def fnInsts (s : State) (p : Nat) (f : FuncSel) : List Nat :=
  match f with
  | .manager => []
  | .ld n => (presentedOn s p).filter fun i => (getInst s i).ld == n.val

/-- INITIATE_FLR (R96, t0 to t4 of Table 5-7); the mailbox of the manager's function holds no command between two of the block's. (Log 199: DESIGN CHOICE.) -/
def execInitiateFlr (p : PortN) (f : FuncSel) (s : State) : Host.Outcome State Fault Refusal :=
  .next (
    let k := fnKey p.val (funcNo f)
    if actingRole s p.val ≠ 1 then s
    else if (getFn s k).flr then emit s (.cfgRetry k)
    else
      let s1 := emit (blockReads s k) (.cfgDone k)
      let s2 := (fnInsts s1 p.val f).foldl resetLd s1
      let s3 := setFn s2 k { getFn s2 k with flr := true, msix := [] }
      if mgrFn s = some k then { s3 with flt := { s3.flt with msixPending := [] } } else s3)

/-- FLR_COMPLETE (R96, t5). (Log 199: DESIGN CHOICE.) -/
def execFlrComplete (p : PortN) (f : FuncSel) (s : State) : Host.Outcome State Fault Refusal :=
  .next (
    let k := fnKey p.val (funcNo f)
    setFn s k { getFn s k with flr := false })

/-- COMPLETION_TIMEOUT (R95, Table 11-5): the context takes fault 0x08, whose detail is unstated without a completion; a held tag is free
again. (Log 58: DESIGN CHOICE.) -/
def execCompletionTimeout (p : PortN) (f : FuncSel) (c : CtxN) (s : State) : Host.Outcome State Fault Refusal :=
  .next (
    let k := fnKey p.val (funcNo f)
    let x := getFn s k
    match x.reads.find? fun e => e.1 == c.val with
    | some e =>
      let s1 := freeNext (setFn s k { x with reads := x.reads.filter (· != e) })
      (match (getCtx s1 c.val).pend with
       | some y => (match y.host with
         | some (_, addr, _) => finishStep s1 c.val { y with fault := 8, detail := freeBits s 8, addr := addr }
         | none => s1)
       | none => s1)
    | none => setFn s k { x with heldTags := x.heldTags.tail })

/-- SCHEDULER_CYCLE (R105). -/
def execSchedulerCycle (t : TileN) (s : State) : Host.Outcome State Fault Refusal :=
  .next (if rd s 0x3000 2 t.val = 3 then
    takeArrived (schedule (releaseTile s t.val) t.val) t.val else s)

/-- PARTNER_DVSEC_WRITE (Tables 4-5 and 5-3, R195). -/
def execPartnerDvsecWrite (p : PortN) (w : DvsecWrite) (s : State) : Host.Outcome State Fault Refusal :=
  .next (
    if linkUp s p.val then dvsecWrite s p.val w else s)

end Sys2Proof.Machine
end

