-- ==== Sys2Proof/Machine/Littoral.lean ====
section
/-!
DEFINITION. The commands of Littoral (chapter 10).
-/
namespace Sys2Proof.Machine

open Sys2Proof

/-- EPOCH_END (R220 to R222). -/
def execEpochEnd (t : TileN) (s : State) : Host.Outcome State Fault Refusal := .next (epochEnd s t.val)

/-- MOVE_RECALL_COMPLETE (R224, phase 2). -/
def execMoveRecallComplete (g : GranN) (s : State) : Host.Outcome State Fault Refusal := .next (recallDone s g.toNat)

/-- MOVE_COPY_COMPLETE (R224, phases 3 and 4). -/
def execMoveCopyComplete (g : GranN) (s : State) : Host.Outcome State Fault Refusal := .next (copyDone s g.toNat)

/-- CUT_OVER_COMPLETE (R225). -/
def execCutOverComplete (g : GranN) (s : State) : Host.Outcome State Fault Refusal := .next (cutOver s g.toNat)

/-- LOCK_GUARD_EXPIRY (R227). -/
def execLockGuardExpiry (g : GranN) (s : State) : Host.Outcome State Fault Refusal := .next (guardExpires s g.toNat)

/-- RELEASE_MESSAGE (R226). -/
def execReleaseMessage (t : TileN) (g : GranN) (s : State) : Host.Outcome State Fault Refusal := .next (releaseMessage s t.val g.toNat)

/-- MOVE_SETTLE (R226). -/
def execMoveSettle (g : GranN) (s : State) : Host.Outcome State Fault Refusal := .next (settleMove s g.toNat)

/-- SECTOR_FILL (R230). -/
def execSectorFill (g : GranN) (sector : Fin 64) (s : State) : Host.Outcome State Fault Refusal :=
  .next (sectorFilled s g.toNat sector.val)

/-- MOVE (R231): Move at 0x6830:01. -/
def execLittoralMove (r : Requester) (v : List Byte) (s : State) : Host.Outcome State Fault Refusal :=
  .next (rowWrite s r 0x6830 1 0 v fun x => moveWrite x v)

end Sys2Proof.Machine
end

