-- ==== Sys2Proof/Machine/SpdmOps.lean ====
section
/-!
DEFINITION. SPDM responders, IDE keys and attestation (R411 to R413). Codes and body layouts are those of SPDM 1.2 and IDE_KM (PRESUMED).
-/
namespace Sys2Proof.Machine

open Sys2Proof

def spdmInit : SpdmSt := { phase := 0, sessions := [0, 0], secrets := [], keys := [], streams := [] }

def getSpdm (s : State) (p : Nat) : SpdmSt := look spdmInit s.sec.spdm p

def setSpdm (s : State) (p : Nat) (v : SpdmSt) : State := { s with sec := { s.sec with spdm := put s.sec.spdm p v } }

/-- A response of a port's responder. (Log 152: PRESUMED.) -/
def spdmSay (s : State) (p code : Nat) (body : List Byte) : State := emit s (.spdm p code body)

/-- An ERROR response with its code. -/
def spdmError (s : State) (p why : Nat) : State := spdmSay s p 0x7F (be 1 why ++ zeros 1)

/-- The responder of a USP or of an inter-switch port (Table 5-10) answers while its link is up; requests before their turn are
unexpected. -/
def spdmAsk (s : State) (p phase : Nat) (f : State → State) : State :=
  if (actingRole s p ≠ 1 ∧ actingRole s p ≠ 3) ∨ linkUp s p = false then s
  else if (getSpdm s p).phase < phase then spdmError s p 0x04
  else f s

/-- The negotiation moves on. -/
def spdmPhase (s : State) (p n : Nat) : State := setSpdm s p { getSpdm s p with phase := n }

/-- The digest of certificate slot 0. -/
def certDigest : List Byte := Config.sha384 Config.certChain

/-- The configuration that runs, as its slot holds it. -/
def activeCfg (s : State) : List Byte :=
  if rd s 0x1210 1 0 = 0 then s.mode.cfg0.image else if rd s 0x1210 1 0 = 1 then s.mode.cfg1.image else s.mode.golden.image

/-- The digest of a measurement index (Table 19-7). (Log 153: PRESUMED.) -/
def measured (s : State) (i : Nat) : List Byte :=
  let img := runningImage s
  if i = 1 then Config.romDigest
  else if i = 2 then Config.sha384 (img.take (64 + 64 * fwSections img))
  else if i = 3 then fwHash img 3
  else if i = 4 then
    let h := fwHash (if s.sec.microPending = [] then img else (fwSlot s (activeSlot s)).bytes) 4
    [if rd s 0xD100 10 0 = 1 then 1 else 0] ++ h.drop 1
  else if i = 5 then Config.sha384 ((activeCfg s).take ((activeCfg s).length - 112))
  else Config.sha384 ((rootKeys s).flatMap keyId ++ ((cfgKeySlots s).filterMap (cfgKey s)).flatMap keyId ++ be 8 (rd s 0xD000 6 0)
    ++ be 8 s.sec.counter)

/-- One measurement block: its index, DMTF specification, a digest. (Log 153: PRESUMED.) -/
def measBlock (s : State) (i : Nat) : List Byte := be 1 i ++ [1] ++ le 2 51 ++ [0] ++ le 2 48 ++ measured s i

/-- A signature by the device identity key. (Log 152: PRESUMED.) -/
def signed (body nonce : List Byte) : List Byte := Config.ecdsaSign Config.certChain (Config.sha384 (nonce ++ body))

/-- CHALLENGE_AUTH: slot 0 alone is provisioned. -/
def spdmChallengeIn (s : State) (p slot : Nat) (nonce : List Byte) : State :=
  if slot ≠ 0 then spdmError s p 0x01
  else
    let body := certDigest ++ Config.nonceBytes s.free ++ Config.sha384 ((List.range 6).flatMap fun i => measured s (i + 1)) ++ le 2 0
    spdmSay (freeNext s) p 0x03 (body ++ signed body nonce)

/-- MEASUREMENTS: 0 how many, 0xFF all, else one. -/
def spdmMeasureIn (s : State) (p op : Nat) (nonce : List Byte) : State :=
  let blocks : List Nat := if op = 0xFF then [1, 2, 3, 4, 5, 6] else [op]
  if op = 0 then spdmSay s p 0x60 (be 1 6 ++ zeros 4)
  else if op ≠ 0xFF ∧ 6 < op then spdmError s p 0x01
  else
    let rs := blocks.flatMap (measBlock s)
    let body := be 1 blocks.length ++ le 3 rs.length ++ rs ++ Config.nonceBytes s.free ++ le 2 0
    spdmSay (freeNext s) p 0x60 (body ++ signed body nonce)

/-- A part of the certificate chain. -/
def spdmCertificateIn (s : State) (p slot off n : Nat) : State :=
  let c := Config.certChain
  if slot ≠ 0 ∨ c.length ≤ off then spdmError s p 0x01
  else
    let part := slice c off n
    spdmSay s p 0x02 ([0, 0] ++ le 2 part.length ++ le 2 (c.length - off - part.length) ++ part)

/-- How many sessions are secured (0xD010:03). -/
def countSessions (s : State) (p : Nat) : State := wr s 0xD010 3 p ((getSpdm s p).sessions.filter (· == 2)).length

/-- KEY_EXCHANGE: a session opens in its handshake, two at most. -/
def spdmExchangeIn (s : State) (p : Nat) (req : List Byte) : State :=
  let x := getSpdm s p
  match [0, 1].find? fun i => nth 0 x.sessions i == 0 with
  | none => spdmError s p 0x0A
  | some i =>
    let y := { x with sessions := setAt x.sessions i 1, secrets := put x.secrets i (Config.spdmSecret req s.free) }
    spdmSay (freeNext (setSpdm s p y)) p 0x64 (be 1 i ++ Config.spdmExchange req s.free)

/-- FINISH: the session is secured when the peer's verification data is right, else it closes. -/
def spdmFinishIn (s : State) (p i : Nat) (mac : List Byte) : State :=
  let x := getSpdm s p
  let key := look [] x.secrets i
  if nth 0 x.sessions i ≠ 1 then spdmError s p 0x04
  else if mac = Config.hmacSha384 key (be 1 i) then
    spdmSay (countSessions (setSpdm s p { x with sessions := setAt x.sessions i 2 }) p) p 0x65 (Config.hmacSha384 key (be 1 (i + 2)))
  else spdmError (setSpdm s p { x with sessions := setAt x.sessions i 0, secrets := del x.secrets i }) p 0x06

/-- END_SESSION. -/
def spdmEndIn (s : State) (p i : Nat) : State :=
  let x := getSpdm s p
  if nth 0 x.sessions i ≠ 2 then spdmError s p 0x04
  else spdmSay (countSessions (setSpdm s p { x with sessions := setAt x.sessions i 0, secrets := del x.secrets i }) p) p 0x6C []

/-! IDE (R412). -/

/-- The TLS6400 keys a port's streams as the requester: on a DSP, and on an inter-switch port with the lower PID (Table 5-10). -/
def ideRequester (s : State) (p : Nat) : Bool := actingRole s p == 2 || (actingRole s p == 3 && (getPort s p).lowerPid)

/-- A message of IDE_KM inside a secured session, where the TLS6400 is the responder. (Log 152: PRESUMED.) -/
def ideAsk (s : State) (p i : Nat) (f : State → State) : State :=
  spdmAsk s p 3 fun x => if nth 0 (getSpdm x p).sessions i = 2 ∧ ideRequester x p = false then f x else spdmError x p 0x04

/-- The streams of a port (Table 5-10): 0 link IDE, 1 to 4 selective on a USP; 0xFF CXL.cachemem IDE in containment mode, 0xFE in skid
mode, which an inter-switch link does not have. (Log 201: DESIGN CHOICE.) -/
def streamOk (s : State) (p n : Nat) : Bool :=
  match actingRole s p with
  | 1 => decide (n ≤ 4 ∨ 0xFE ≤ n)
  | 2 => n == 0 || decide (0xFE ≤ n)
  | _ => n == 0 || n == 0xFF

/-- IDE state (0x2300:08). -/
def showIde (s : State) (p : Nat) : State :=
  let x := (getSpdm s p).streams
  wr s 0x2300 8 p (b2n (has x 0) + 2 * b2n (has x 0xFF) + 4 * b2n (has x 0xFE) + 16 * ([1, 2, 3, 4].filter fun n => has x n).length)

/-- A stream is secured under a key set; CXL.cachemem IDE runs in one mode. -/
def secureStream (s : State) (p stream keySet : Nat) : State :=
  let x := getSpdm s p
  let others := if stream = 0xFF then del x.streams 0xFE else if stream = 0xFE then del x.streams 0xFF else x.streams
  showIde (setSpdm s p { x with streams := put others stream keySet }) p

/-- The place of a stream's key set. -/
def keyPlace (stream : Nat) (keySet : Bool) : Nat := 2 * stream + b2n keySet

/-- KEY_PROG. -/
def keyProgIn (s : State) (p stream : Nat) (keySet : Bool) (key : List Byte) : State :=
  let x := getSpdm s p
  if streamOk s p stream = false then spdmError s p 0x01 else
  let s1 := setSpdm s p { x with keys := put x.keys (keyPlace stream keySet) key }
  spdmSay (bump s1 0xD010 4 p 32 1) p 0x7E ([3] ++ be 1 stream ++ be 1 (b2n keySet))

/-- K_SET_GO: the stream is secured under a key set that has been programmed. -/
def keySetGoIn (s : State) (p stream : Nat) (keySet : Bool) : State :=
  let x := getSpdm s p
  if has x.keys (keyPlace stream keySet) then
    spdmSay (secureStream s p stream (b2n keySet)) p 0x7E ([6] ++ be 1 stream ++ be 1 (b2n keySet))
  else spdmError s p 0x01

/-- The keys of one stream are refreshed: the other key set is programmed and taken up. -/
def refreshStream (s : State) (p stream keySet : Nat) : State :=
  let x := getSpdm s p
  let other := 1 - keySet % 2
  let s1 := setSpdm (freeNext s) p { x with keys := put x.keys (2 * stream + other) (Config.freshKey s.free) }
  bump (secureStream s1 p stream other) 0xD010 4 p 32 1

/-- The link IDE stream of a port that the TLS6400 keys as the requester; it is set up by its first refresh. -/
def ideStreams (s : State) (p : Nat) : SMap Nat := if (getSpdm s p).streams = [] then [(0, 1)] else (getSpdm s p).streams

/-- The refresh interval of a port's streams passes. -/
def ideRefresh (s : State) (p : Nat) : State :=
  if rd s 0xD000 11 0 = 0 ∨ ideRequester s p = false ∨ linkUp s p = false then s
  else (ideStreams s p).foldl (fun a e => refreshStream a p e.1 e.2) s

/-- An integrity failure: the stream is insecure, the link goes down and trains again; which cause 0x2010:08 shows is not stated. (Log 155: DESIGN CHOICE.) -/
def ideFailure (s : State) (p stream : Nat) : State :=
  if linkUp s p then
    let s1 := bump (setSpdm s p { getSpdm s p with streams := del (getSpdm s p).streams stream }) 0xD010 5 p 32 1
    let s2 := portDown s1 p 3 false
    raise (wr (freeNext s2) 0x2010 8 p (Config.freeValue s2.free % 9)) (0xD000 + p) 22 .fault []
  else s

/-! Attestation on demand (0xD010:06). -/

/-- Attest now starts the challenge of the partner of a downstream port (R413). (Log 154: DEDUCED.) -/
def attestWrite (s : State) (p : Nat) : State × Status := if actingRole s p = 2 then (cmdStart s 0xD010 6 p, .ok) else (s, .range)

/-- The challenge ends: 0 passed, 3 no SPDM, else failed; a partner that answers gives its digests. (Log 154: DEDUCED.) -/
def attestEnd (s : State) (p err : Nat) : State :=
  let code := if err = 0 then 1 else if err = 3 then 3 else 2
  let s1 := if code = 3 then wrBlob s 0xD010 2 p (zeros 96) else wrBlob (freeNext s) 0xD010 2 p (padTo (Config.partnerDigests s.free) 96)
  cmdEnd (wr s1 0xD010 1 p code) 0xD010 6 p (if err = 0 then 2 else 3) err

end Sys2Proof.Machine
end

