-- ==== Sys2Proof/Machine/Images.lean ====
section
/-!
DEFINITION. Configuration images (R48, R53 to R57): their layout, the checks of Table 13 of chapter 3, patch records, the
configuration that an image gives each mode, and the run-time delta.
-/
namespace Sys2Proof.Machine

open Sys2Proof

/-! Shapes of TABLE and BLOB objects. -/

/-- The record size of a TABLE or BLOB object in bytes. -/
def recSize (idx sub : Nat) : Nat :=
  if idx = 0x1104 ∨ idx = 0x1210 ∨ idx = 0x2210 ∨ idx = 0x3200 ∨ idx = 0x4120 then 16
  else if idx = 0x2320 ∨ idx = 0x2330 ∨ idx = 0x4121 ∨ idx = 0x6010 ∨ idx = 0x9200 then 4
  else if idx = 0x3000 ∨ idx = 0xB010 ∨ idx = 0xC000 ∧ sub = 4 ∨ idx = 0xC010 then 8
  else if idx = 0x3210 then (if sub = 1 then 1 else 4)
  else if idx = 0x4200 then (if sub = 1 then 16 else if sub = 7 then 8 else 1)
  else if idx = 0x5020 then 32
  else if idx = 0x5200 then (if sub = 6 then 64 else if sub = 7 then 8 else 1)
  else if idx = 0x6801 then (if sub = 2 then 64 else if sub = 3 then 4 else 1)
  else if idx = 0x7000 then (if sub = 3 then 32 else 24)
  else if idx = 0x7200 then (if sub = 1 then 1 else if sub = 5 then 8 else 4)
  else if idx = 0x8000 then (if sub = 7 then 8 else 16)
  else if idx = 0x8010 then 8
  else if idx = 0xB000 then (if sub = 2 then 8 else 4)
  else if idx = 0xB100 then 64
  else if idx = 0xB200 then (if sub = 7 then 48 else 1)
  else if idx = 0xC100 then 4
  else if idx = 0xC101 then 64
  else if idx = 0xD000 then (if sub = 3 then 32 else 1)
  else if idx = 0xD100 then (if sub = 2 then 16 else 1)
  else 1

/-- The record count of a writable TABLE object, and the byte limit of a writable BLOB object. -/
def recCount (idx sub : Nat) : Nat :=
  if idx = 0x2320 then 4096
  else if idx = 0x2330 ∨ idx = 0x6010 ∨ idx = 0x4200 ∨ idx = 0x8000 then 64
  else if idx = 0x3200 then 32
  else if idx = 0x3210 then 768
  else if idx = 0x4120 then 32768
  else if idx = 0x5020 ∨ idx = 0xB000 ∨ idx = 0xA000 then 8
  else if idx = 0x7000 then 4
  else if idx = 0x7200 then 12
  else if idx = 0x7100 then 32
  else if idx = 0x1211 then 8126464
  else if idx = 0x8110 then 32800
  else if idx = 0xD100 ∧ sub = 5 then 12582912
  else 0

/-- What a record of a TABLE object holds by default. (Log 2: DESIGN CHOICE.) -/
def recDefault (idx sub n : Nat) : Nat :=
  if idx = 0x2330 then 0x00FF0000
  else if idx = 0x3200 ∧ sub = 1 then limitRecDefault n
  else if idx = 0x4200 ∧ sub = 1 ∧ n = 0 then 2 ^ 127 + 2 ^ 125 + 0xFFFFFFF
  else if idx = 0x7200 ∧ sub = 1 then 16
  else if idx = 0x8000 ∧ sub = 7 then (if n < 60 then 0 else 2) * 2 ^ 56 + 0xFE * 2 ^ 48
  else if idx = 0xB000 ∧ sub = 3 then 0x000FFFFF
  else 0

/-! Patch records (Table 3-11). -/

/-- The records of a section; none when one does not parse. (Log 43: DEDUCED.) -/
def parsePatches : Nat → List Byte → Option (List Patch)
  | 0, l => if l = [] then some [] else none
  | n + 1, l =>
    if l = [] then some []
    else
      let len := fieldBe l 8 2
      let op := fieldBe l 3 1
      let total := 12 + ceilDiv len 4 * 4
      if l.length < 12 ∨ l.length < total ∨ op = 0 ∨ 3 < op then none
      else
        let p : Patch := { op := if op = 1 then .set else if op = 2 then .chunk else .dflt, idx := fieldBe l 0 2, sub := fieldBe l 2 1
                           q := fieldBe l 4 2, ty := fieldBe l 6 1, value := slice l 12 len }
        (parsePatches n (l.drop total)).map (p :: ·)

/-- The patch records of a run of bytes. -/
def patchesOf (l : List Byte) : Option (List Patch) := parsePatches (l.length / 12 + 1) l

/-- A record names a defined object whose type matches, and its value has that type's form. -/
def patchOk (p : Patch) : Bool :=
  match descOf p.idx p.sub with
  | none => false
  | some d =>
    let chunked := d.ty == .table || d.ty == .blob
    qualOk d.qual p.q && p.ty == d.ty.code &&
      (match p.op with
       | .set => d.ty != .table && lengthOk d p.value
       | .chunk => chunked && decide (8 ≤ p.value.length) && p.value.length == 8 + fieldBe p.value 4 2 * recSize p.idx p.sub
       | .dflt => p.value == [])

/-- The patch records as bytes. -/
def Patch.bytes (p : Patch) : List Byte :=
  be 2 p.idx ++ be 1 p.sub ++ be 1 (match p.op with | .set => 1 | .chunk => 2 | .dflt => 3) ++ be 2 p.q ++ be 1 p.ty ++ [0]
    ++ be 2 p.value.length ++ [0, 0] ++ pad4 p.value

/-! A configuration: the values of the P objects that differ from their defaults. -/

structure Cfg where
  obj : SMap Nat
  blob : SMap (List Byte)
  tbl : SMap Nat
  deriving DecidableEq, Repr

def Cfg.empty : Cfg := { obj := [], blob := [], tbl := [] }

/-- A patch takes effect on a configuration when its object is one that a configuration holds (R28): a writable P object. -/
def isConfigured (d : ObjDesc) : Bool := d.persist && (d.acc == .rw || d.acc == .rwq)

/-- The object returns to its default. -/
def Cfg.clear (c : Cfg) (k : Nat) : Cfg := { obj := del c.obj k, blob := del c.blob k, tbl := delIf c.tbl fun r _ => r / 4194304 == k }

/-- A chunk of a table's records. -/
def Cfg.chunk (c : Cfg) (p : Patch) : Cfg :=
  let start := fieldBe p.value 0 4
  let vals := recordsOf (recSize p.idx p.sub) (p.value.drop 8)
  if start + vals.length ≤ recCount p.idx p.sub then
    { c with tbl := (vals.mapIdx fun i v => (start + i, v)).foldl (fun a e => put a (tkey p.idx p.sub p.q e.1) e.2) c.tbl }
  else c

/-- The bytes of a BLOB with a run of them replaced. -/
def spliced (old data : List Byte) (start : Nat) : List Byte :=
  let l := padTo old (max old.length (start + data.length))
  l.take start ++ data ++ l.drop (start + data.length)

/-- One patch record over a configuration. -/
def Cfg.apply (c : Cfg) (p : Patch) : Cfg :=
  let k := okey p.idx p.sub p.q
  match descOf p.idx p.sub with
  | none => c
  | some d =>
    if isConfigured d = false then c
    else match p.op with
      | .dflt => c.clear k
      | .set =>
        if d.ty = .blob ∨ d.ty = .str32 then { c with blob := put c.blob k p.value }
        else if lengthOk d p.value && validOk d p.value && rangeOk d p.value then { c with obj := put c.obj k (ofBe p.value) }
        else c
      | .chunk =>
        if d.ty = .table then c.chunk p
        else { c with blob := put c.blob k (spliced (look [] c.blob k) (p.value.drop 8) (fieldBe p.value 0 4)) }

/-- The configuration of mode `n` (R48): defaults, base, delta, overlay. -/
def Image.config (img : Image) (delta : List Patch) (n : Nat) : Cfg :=
  (img.base ++ delta ++ look [] img.overlays n).foldl Cfg.apply Cfg.empty

/-- The object of a key: its index, subindex and qualifier. -/
def keyIdx (k : Nat) : Nat := k / 16777216
def keySub (k : Nat) : Nat := k / 65536 % 256
def keyQual (k : Nat) : Nat := k % 65536

/-- The keys of objects whose values differ between two configurations (R49). -/
def cfgDiff (a b : Cfg) : List Nat :=
  let objs := ((a.obj ++ b.obj).map (·.1)).eraseDups.filter fun k =>
    let d := objDefault (keyIdx k) (keySub k) (keyQual k)
    look d a.obj k != look d b.obj k
  let blobs := ((a.blob ++ b.blob).map (·.1)).eraseDups.filter fun k => look [] a.blob k != look [] b.blob k
  let recs := ((a.tbl ++ b.tbl).map (·.1)).eraseDups.filter fun r =>
    let k := r / 4194304
    let d := recDefault (keyIdx k) (keySub k) (r % 4194304)
    look d a.tbl r != look d b.tbl r
  objs ++ blobs ++ (recs.map (· / 4194304)).eraseDups

/-- The objects whose values differ and that a transition or an activation patches: not the target mode itself. (Log 186: DEDUCED.) -/
def patchKeys (a b : Cfg) : List Nat := (cfgDiff a b).filter fun k => k != okey 0x1200 1 0

/-! The image (Tables 3-9, 3-10 and 3-12). -/

/-- One entry of the section table: type, flags, offset, length, CRC. -/
structure Section where
  kind : Nat
  flags : Nat
  off : Nat
  len : Nat
  crc : Nat
  deriving DecidableEq, Repr

def imgLen (v : List Byte) : Nat := fieldBe v 8 4
def imgCount (v : List Byte) : Nat := fieldBe v 12 2
def imgMode (v : List Byte) : Nat := fieldBe v 19 1
def imgSerial (v : List Byte) : Nat := fieldBe v 24 8

/-- The section headers of an image, in their order (Table 3-10). (Log 42: DESIGN CHOICE.) -/
def imgSections (v : List Byte) : List Section :=
  (List.range (imgCount v)).map fun i =>
    let o := 64 + 16 * i
    { kind := fieldBe v o 2, flags := fieldBe v (o + 2) 2, off := fieldBe v (o + 4) 4, len := fieldBe v (o + 8) 4, crc := fieldBe v (o + 12) 4 }

/-- A kind of section that this stepping knows. -/
def knownKind (k : Nat) : Bool := k == 1 || decide (0x11 ≤ k ∧ k ≤ 0x16) || k == 0xF0

/-- Each section starts on 16 bytes, at or after the end of the one before it. -/
def placedOk : Nat → List Section → Bool
  | _, [] => true
  | low, x :: t => x.off % 16 == 0 && x.len % 4 == 0 && decide (low ≤ x.off) && placedOk (x.off + x.len) t

/-- The last section is the signature, and the only one. -/
def sigLast (l : List Section) : Bool :=
  (l.filter fun x => x.kind == 0xF0).length == 1 && (match l.getLast? with | some x => x.kind == 0xF0 && x.len == 112 | none => false)

/-- Check 2 of the image checks. -/
def layoutOk (v : List Byte) : Bool :=
  let l := imgSections v
  decide (imgLen v ≤ 8126464) && decide (imgLen v ≤ v.length) && decide (2 ≤ imgCount v ∧ imgCount v ≤ 16)
    && placedOk (64 + 16 * imgCount v) l && l.all (fun x => decide (x.off + x.len ≤ imgLen v)) && sigLast l

/-- The bytes of a section. -/
def secBytes (v : List Byte) (x : Section) : List Byte := slice v x.off x.len

/-- The signature section's offset. -/
def sigOff (v : List Byte) : Nat := match (imgSections v).getLast? with | some x => x.off | none => 0

/-- Check 3: a configuration signing key is enrolled under KEY_ID and its signature over the bytes before the signature
section is valid (R54). -/
def imgSigned (s : State) (v : List Byte) : Bool :=
  let o := sigOff v
  ((cfgKeySlots s).filterMap (cfgKey s)).any fun k =>
    keyId k == slice v o 16 && Config.ecdsaOk k (Config.sha384 (v.take o)) (slice v (o + 16) 96)

/-- Check 7: every section's CRC; one base; an unknown type only when optional, type 0x0030 never. -/
def sectionsOk (v : List Byte) : Bool :=
  let l := imgSections v
  l.all (fun x => crc32c (secBytes v x) == x.crc) && (l.filter fun x => x.kind == 1).length == 1
    && l.all fun x => knownKind x.kind || (x.kind != 0x30 && bit x.flags 0)

/-- The patch records of the first section of a kind. (Log 42: DESIGN CHOICE.) -/
def secPatches (v : List Byte) (k : Nat) : Option (List Patch) :=
  match (imgSections v).find? fun x => x.kind == k with
  | some x => patchesOf (secBytes v x)
  | none => some []

/-- The modes whose overlays an image holds. -/
def overlayModes (v : List Byte) : List Nat := (List.range 7).filter fun n => (imgSections v).any fun x => x.kind == 0x10 + n && n != 0

/-- What the device uses of an image. -/
def parseImage (v : List Byte) : Image :=
  { serial := imgSerial v, defaultMode := imgMode v, base := (secPatches v 1).getD []
    overlays := (overlayModes v).map fun n => (n, (secPatches v (0x10 + n)).getD []) }

/-- No gate of a configuration has two valid regions that overlap (R165). -/
def gatesOk (c : Cfg) : Bool :=
  let gates := (c.tbl.filterMap fun e => if keyIdx (e.1 / 4194304) = 0x4200 then some (keyQual (e.1 / 4194304)) else none).eraseDups
  gates.all fun g =>
    let f (n : Nat) : Nat := look (recDefault 0x4200 1 n) c.tbl (tkey 0x4200 1 g n)
    (firstOverlap f (List.range 64)).isNone

/-- No port of a configuration has role 3 (R83). -/
def rolesOk (c : Cfg) : Bool := c.obj.all fun e => !(e.1 / 65536 == 0x200001 && e.2 == 3)

/-- No tile's written buffer limits sum to more than its buffer (R111). -/
def sumsOk (c : Cfg) : Bool :=
  (List.range 4).all fun t => decide ((List.range 32).foldl (fun a r =>
    let v := look (limitRecDefault r) c.tbl (tkey 0x3200 1 t r)
    (List.range 8).foldl (fun b k => b + bits v (127 - 16 * k) (112 - 16 * k)) a) 0 ≤ 65536)

/-- Check 8: every record parses and names a defined object of its type; the overlay of DEFAULT_MODE is present; roles,
regions and limit sums as R83, R165 and R111 ask. -/
def recordsOk (v : List Byte) : Bool :=
  let img := parseImage v
  let ok (k : Nat) : Bool := match secPatches v k with | some l => l.all patchOk | none => false
  ok 1 && (overlayModes v).all (fun n => ok (0x10 + n)) && decide (1 ≤ imgMode v ∧ imgMode v ≤ 5) && (overlayModes v).contains (imgMode v)
    && gatesOk (img.base.foldl Cfg.apply Cfg.empty) && sumsOk (img.base.foldl Cfg.apply Cfg.empty)
    && (overlayModes v).all fun n => gatesOk (img.config [] n) && sumsOk (img.config [] n) && (n == 3 || rolesOk (img.config [] n))

/-- The checks of an image in their order (R55): 0, or the code of the first that fails. -/
def imageCheck (s : State) (v : List Byte) : Nat :=
  if fieldBe v 0 4 ≠ 0x544C4349 ∨ fieldBe v 4 2 ≠ 2 ∨ 1 < fieldBe v 6 2 then 0x31
  else if layoutOk v = false then 0x32
  else if imgSigned s v = false then 0x33
  else if imgSerial v < rd s 0xD000 6 0 then 0x34
  else if fieldBe v 16 2 ≠ 0x6400 ∨ 0xB1 < fieldBe v 18 1 then 0x35
  else if fieldBe v 20 2 ≠ 3 ∨ 1 < fieldBe v 22 2 then 0x36
  else if sectionsOk v = false then 0x37
  else if recordsOk v = false then 0x38
  else 0

/-! Slots and the delta. -/

/-- A configuration slot: 0 CFG0, 1 CFG1, 2 golden. -/
def cfgSlot (s : State) (n : Nat) : CfgSlot := if n = 0 then s.mode.cfg0 else if n = 1 then s.mode.cfg1 else s.mode.golden

def setCfgSlot (s : State) (n : Nat) (v : CfgSlot) : State :=
  if n = 0 then { s with mode := { s.mode with cfg0 := v } } else if n = 1 then { s with mode := { s.mode with cfg1 := v } } else s

def slotOk (s : State) (n : Nat) : Bool := imageCheck s (cfgSlot s n).image == 0

/-- The serial of a slot's image. -/
def slotSerial (s : State) (n : Nat) : Nat := imgSerial (cfgSlot s n).image

/-- The slot that is loaded: the valid one of the higher SERIAL, CFG0 at a tie (R56); none valid. -/
def bestSlot (s : State) : Option Nat :=
  if slotOk s 0 ∧ slotOk s 1 then some (if slotSerial s 0 < slotSerial s 1 then 1 else 0)
  else if slotOk s 0 then some 0 else if slotOk s 1 then some 1 else none

/-- Both slots hold valid images of one SERIAL (R56). -/
def slotTie (s : State) : Bool := slotOk s 0 && slotOk s 1 && slotSerial s 0 == slotSerial s 1

/-- The delta records of a slot's delta area for an image's SERIAL (R57); none when the area is not a valid delta. -/
def deltaOf (area : List Byte) (serial : Nat) : Option (List Patch) :=
  let n := fieldBe area 4 4
  if fieldBe area 0 4 ≠ 0x544C4454 ∨ 262080 < n ∨ n % 4 ≠ 0 ∨ fieldBe area 8 8 ≠ serial ∨ area.length < 64 + n
      ∨ slice area (16 + n) 48 ≠ Config.hmacSha384 Config.deviceKey (area.take (16 + n)) then none
  else match patchesOf (slice area 16 n) with
    | some l => if l.all (fun p => p.op != .dflt && patchOk p) then some l else none
    | none => none

/-- The delta area that holds records, its HMAC last (Table 3-19). -/
def deltaArea (serial : Nat) (recs : List Byte) : List Byte :=
  let head := be 4 0x544C4454 ++ be 4 recs.length ++ be 8 serial ++ recs
  head ++ Config.hmacSha384 Config.deviceKey head

/-- The configuration that runs in mode `n`. -/
def runningCfg (s : State) (n : Nat) : Cfg :=
  match s.mode.running with
  | some img => img.config s.mode.runningDelta n
  | none => Cfg.empty

end Sys2Proof.Machine
end

