-- ==== Sys2Proof/Machine/ModeOps.lean ====
section
/-!
DEFINITION. The writes that start a mode transition, an installation, an activation, a change of the run-time delta or a
reset (R48 to R51, R56, R57, Table 3-15).
-/
namespace Sys2Proof.Machine

open Sys2Proof

/-! Target mode (R48, R50, R51). -/

/-- The transitions of Table 3-4. -/
def allowedMode (a b : Nat) : Bool :=
  (decide (1 ≤ a ∧ a ≤ 3) && decide (1 ≤ b ∧ b ≤ 3)) || (decide (1 ≤ a ∧ a ≤ 4) && b == 5) || (a == 5 && decide (1 ≤ b ∧ b ≤ 4))

/-- A refused target write is recorded at 0x1200:04 (R50). -/
def recordRefusal (s : State) (reason : Nat) : State := wr s 0x1200 4 0 (cmdWord 3 reason (rd s 0x1200 4 0 % 2 ^ 16 + 1))

/-- An instance holds a shared region: a valid SHAREABLE DC region, a shared extent, or the range of a committed HDM-DB decoder (R180). (Log 32: DEDUCED.) -/
def holdsShared (s : State) : Bool :=
  (s.pool.extents.any fun e => extInUse e.2 && e.2.shared)
    || s.insts.any fun e => instExists s e.1 && (List.range 8).any fun r => (dcValid (dcRegion s e.1 r) && dcShareable (dcRegion s e.1 r))
      || (decCommitted (decoderRec s e.1 r) && decBi (decoderRec s e.1 r))

/-- A GFD instance is bound. (Log 33: DEDUCED.) -/
def gfdBound (s : State) : Bool := s.insts.any fun e => rd s 0x5010 2 e.1 == 2

/-- The REASON of the first precondition of the mode entered that fails, 0 when none does (Table 3-4). (Log 31: DEDUCED.) -/
def modeBlocked (s : State) (v : Nat) : Nat :=
  if v = 1 ∧ holdsShared s = true then 0x21
  else if (v = 1 ∨ v = 2) ∧ gfdBound s = true then 0x22
  else if v = 4 ∧ (extentsWhere s fun x => extInUse x && decide (16 ≤ x.target)) ≠ [] then 0x23
  else 0

/-- The overlay of mode `v` is present in the image that runs. -/
def hasOverlay (s : State) (v : Nat) : Bool := match s.mode.running with | some img => has img.overlays v | none => false

/-- The touched set of a transition (R49, R83): what the configurations differ in, and the roles that CASCADE or EXPANDER change. (Log 30: DEDUCED.) -/
def touchedSet (s : State) (v : Nat) : List Nat :=
  let a := modeNow s
  let roles := if v = 4 then List.range 64
    else if v = 5 then (if a = 3 then (List.range 64).filter fun p => rd s 0x2000 1 p == 3 else [])
    else if allUsp s then List.range 64
    else if (a = 3 ∨ v = 3) ∧ a ≠ v then (List.range 64).filter fun p => rd s 0x2000 1 p == 3
    else []
  (patchKeys (runningCfg s a) (runningCfg s v) ++ roles.map fun p => okey 0x2000 1 p).eraseDups

/-- Lines that a host or a remote slice holds are called back once no request is at them (t3 of Table 3-6). -/
def drainLines (s : State) : State :=
  (s.coh.lines.map (·.1)).foldl (fun a k =>
    if idleLine (getLine a k) && wayUsed (lineHome a k) (getLine a k) then resume (startEviction a k) k else a) s

/-- A transition starts: quiescing, or the drain into SERVICE with credits withheld and Littoral stopped (Table 3-6). -/
def startTransition (s : State) (v : Nat) : State :=
  let t := touchedSet s v
  let s1 := cmdStart (wr (wr s 0x1200 1 0 v) 0x1200 3 0 1) 0x1200 4 0
  let s2 := { s1 with mode := { s1.mode with target := v, touched := t, waitPorts := [], held := [] } }
  if v = 5 then drainLines (movesService { s2 with mode := { s2.mode with creditsHeld := true } }) else s2

/-- Target mode (0x1200:01). (Log 31: DEDUCED.) -/
def targetModeWrite (s : State) (v : Nat) : State × Status :=
  if rd s 0x1200 3 0 ≠ 0 then (s, .busy)
  else if v = modeNow s then (s, .ignored)
  else if allowedMode (modeNow s) v = false then (recordRefusal s 0x24, .range)
  else if hasOverlay s v = false then (recordRefusal s 0x26, .range)
  else if modeBlocked s v ≠ 0 then (recordRefusal s (modeBlocked s v), .busy)
  else (startTransition s v, .ok)

/-! Images (R55, R56). -/

/-- The slot that is not active: CFG0 when the golden configuration runs. (Log 39: DESIGN CHOICE.) -/
def otherSlot (s : State) : Nat := if rd s 0x1210 1 0 = 0 then 1 else 0

/-- Install (0x1211:02): the staged image is checked; an image not newer than the active one is refused with 0x3A. -/
def installWrite (s : State) : State × Status :=
  let c := imageCheck s s.mode.staging
  let s1 := wr s 0x1210 3 0 c
  if c ≠ 0 then (cmdDone (raise s1 0x1200 12 .notice []) 0x1211 2 0 c, .ok)
  else if imgSerial s.mode.staging ≤ rd s 0x1210 2 0 then (cmdDone s1 0x1211 2 0 0x3A, .ok)
  else
    let s2 := cmdStart s1 0x1211 2 0
    ({ s2 with mode := { s2.mode with installing := some (s.mode.staging.take (imgLen s.mode.staging)) } }, .ok)

/-- The installation ends: the image stands in the slot with an empty delta area, or both slots are unchanged. (Log 38: DEDUCED.) -/
def installEnd (s : State) (err : Nat) : State :=
  match s.mode.installing with
  | none => s
  | some v =>
    let s1 := { s with mode := { s.mode with installing := none } }
    if err = 0 then cmdEnd (setCfgSlot s1 (otherSlot s) { image := v, delta := [] }) 0x1211 2 0 2 0
    else cmdEnd s1 0x1211 2 0 3 err

/-- Activate (0x1212:01): BUSY outside SERVICE, and while a transition out of SERVICE runs. (Log 183: DEDUCED.) -/
def cfgActivateWrite (s : State) : State × Status :=
  if modeNow s ≠ 5 ∨ rd s 0x1200 3 0 ≠ 0 then (s, .busy) else (cmdStart s 0x1212 1 0, .ok)

/-! The run-time delta (R57). -/

/-- The base configuration of the image that runs: R48 steps 1 and 2, the default of 0x1200:01 being the image's DEFAULT_MODE (Table 3-2). -/
def baseCfg (s : State) : Cfg :=
  match s.mode.running with
  | some img => img.base.foldl Cfg.apply { Cfg.empty with obj := [(okey 0x1200 1 0, img.defaultMode)] }
  | none => Cfg.empty

/-- The values that the device runs with, as a configuration. -/
def liveCfg (s : State) : Cfg :=
  let keep (k : Nat) : Bool := match descOf (keyIdx k) (keySub k) with | some d => isConfigured d | none => false
  { obj := s.obj.filter (fun e => keep e.1), blob := s.blob.filter (fun e => keep e.1)
    tbl := s.tbl.filter fun e => keep (e.1 / 4194304) }

/-- The value of a scalar object as a patch record. -/
def setPatch (s : State) (k : Nat) : Option Patch :=
  match descOf (keyIdx k) (keySub k) with
  | none => none
  | some d =>
    let v := if d.ty = .blob ∨ d.ty = .str32 then look [] s.blob k else be d.ty.wire (look (objDefault d.idx d.sub (keyQual k)) s.obj k)
    some { op := .set, idx := d.idx, sub := d.sub, q := keyQual k, ty := d.ty.code, value := v }

/-- One record of a table as a patch record. -/
def recPatch (s : State) (r : Nat) : Patch :=
  let k := r / 4194304
  let n := r % 4194304
  { op := .chunk, idx := keyIdx k, sub := keySub k, q := keyQual k, ty := 0x0E
    value := be 4 n ++ be 2 1 ++ [0, 0] ++ be (recSize (keyIdx k) (keySub k)) (look (recDefault (keyIdx k) (keySub k) n) s.tbl r) }

/-- The table records that differ between two configurations. -/
def recDiff (a b : Cfg) : List Nat :=
  ((a.tbl ++ b.tbl).map (·.1)).eraseDups.filter fun r =>
    let d := recDefault (keyIdx (r / 4194304)) (keySub (r / 4194304)) (r % 4194304)
    look d a.tbl r != look d b.tbl r

/-- A patch sets a record of a table (its key and number): a chunk that spans it, or a return to the defaults. -/
def Patch.setsRec (p : Patch) (r : Nat) : Bool :=
  okey p.idx p.sub p.q == r / 4194304 && (match p.op with
    | .chunk => decide (fieldBe p.value 0 4 ≤ r % 4194304 ∧ r % 4194304 < fieldBe p.value 0 4 + fieldBe p.value 4 2)
    | _ => true)

/-- The patch records of a delta: every P object, and every record of a table, whose running value differs from the base's, but for values
that the overlay in force gives. (Log 41: DEDUCED.) -/
def deltaPatches (s : State) : List Patch :=
  let live := liveCfg s
  let base := baseCfg s
  let wider := runningCfg s (modeNow s)
  let laid := match s.mode.running with | some img => look [] img.overlays (modeNow s) | none => []
  let pinned (k : Nat) : Bool := (laid.any fun p => okey p.idx p.sub p.q == k) && !(cfgDiff live wider).contains k
  let scalars := (cfgDiff live base).filter fun k => !pinned k && (match descOf (keyIdx k) (keySub k) with | some d => d.ty != .table | none => false)
  let recs := (recDiff live base).filter fun r => !((laid.any fun p => p.setsRec r) && !(recDiff live wider).contains r)
  scalars.filterMap (setPatch s) ++ recs.map (recPatch s)

/-- Commit delta (0x1213:01): the size is checked, the area erased, the records written; the HMAC is still to come. (Log 40: DESIGN CHOICE.) -/
def commitWrite (s : State) : State × Status :=
  let recs := (deltaPatches s).flatMap Patch.bytes
  let n := rd s 0x1210 1 0
  if n = 2 then (cmdDone s 0x1213 1 0 (Status.code .range), .ok)
  else if 262080 < recs.length then (cmdDone s 0x1213 1 0 0x39, .ok)
  else
    let area := (deltaArea (slotSerial s n) recs).take (16 + recs.length)
    (setCfgSlot (cmdStart s 0x1213 1 0) n { cfgSlot s n with delta := area }, .ok)

/-- The delta of the running configuration is the valid one of the active slot (R48, step 3). -/
def refreshDelta (s : State) : State :=
  let n := rd s 0x1210 1 0
  { s with mode := { s.mode with runningDelta := (deltaOf (cfgSlot s n).delta (rd s 0x1210 2 0)).getD [] } }

/-- Commit ends: the HMAC is written last, and the delta is the running configuration's. -/
def commitEnd (s : State) (err : Nat) : State :=
  let n := rd s 0x1210 1 0
  let area := (cfgSlot s n).delta
  if err = 0 then
    cmdEnd (refreshDelta (setCfgSlot s n { cfgSlot s n with delta := area ++ Config.hmacSha384 Config.deviceKey area })) 0x1213 1 0 2 0
  else cmdEnd (refreshDelta s) 0x1213 1 0 3 err

/-- Clear delta (0x1213:02). (Log 40: DESIGN CHOICE.) -/
def clearDeltaWrite (s : State) : State × Status :=
  let n := rd s 0x1210 1 0
  if n = 2 then (cmdDone s 0x1213 2 0 (Status.code .range), .ok) else (cmdStart s 0x1213 2 0, .ok)

/-- Clear ends: the delta area of the active slot is erased. -/
def clearDeltaEnd (s : State) (err : Nat) : State :=
  let n := rd s 0x1210 1 0
  if err = 0 then cmdEnd (refreshDelta (setCfgSlot s n { cfgSlot s n with delta := [] })) 0x1213 2 0 2 0 else cmdEnd s 0x1213 2 0 3 err

/-! Reset (Table 3-15). -/

/-- Device reset (0x1201:01): the reset itself starts when the reply has been sent. -/
def deviceResetWrite (s : State) (v : Nat) : State × Status :=
  if v = 1 then (cmdStart s 0x1201 1 0, .ok)
  else if v = 2 then (cmdStart { s with mode := { s.mode with ignoreBootsel := true } } 0x1201 1 0, .ok)
  else (s, .range)

end Sys2Proof.Machine
end

