-- ==== Sys2Proof/Machine/SlotOps.lean ====
section
/-!
DEFINITION. Slot controllers: starting, trips, warnings, stops and the thermal model (chapter 18).
-/
namespace Sys2Proof.Machine

open Sys2Proof

def slotInit : SlotSt :=
  { en := false, cleared := false, offTime := false, warn := false, model := none, acc := 0, disagree := false }

def getSlot (s : State) (n : Nat) : SlotSt := look slotInit s.slots n

def setSlot (s : State) (n : Nat) (v : SlotSt) : State := { s with slots := put s.slots n v }

def slotSource (n : Nat) : Nat := 0xA000 + n

/-- The state of a slot (Table 18-2). -/
def slotNow (s : State) (n : Nat) : Nat := rd s 0xA000 2 n

/-- The measurements of a slot (0xA000:22), 32 bytes. (Log 140: DESIGN CHOICE.) -/
def slotMeas (s : State) (n : Nat) : List Byte := rdBlob s 0xA000 22 n (zeros 32)

/-- VIN as last measured, in mV. (Log 140: DESIGN CHOICE.) -/
def slotVin (s : State) (n : Nat) : Nat := fieldBe (slotMeas s n) 0 2

/-- The FET model (0xA000:20): R_on in µΩ, Rth in 0.01 °C/W, tau in ms, the ambient in °C. -/
def fetModel (s : State) (n : Nat) : Nat × Nat × Nat × Int :=
  let m := rdBlob s 0xA000 20 n (be 8 0x03E805DC07D00046)
  (fieldBe m 0 2, fieldBe m 2 2, fieldBe m 4 2, toSigned 16 (fieldBe m 6 2))

/-- The model's temperature, in 10^-9 °C. -/
def modelTemp (s : State) (n : Nat) : Int :=
  match (getSlot s n).model with
  | some x => x
  | none => (fetModel s n).2.2.2 * 1000000000

/-- The selected FET temperature, in 10^-9 °C: the diode when it is selected and valid, else the model (R387). (Log 140: DESIGN CHOICE.) -/
def fetTemp (s : State) (n : Nat) : Int :=
  let d := fieldBe (slotMeas s n) 12 2
  if rd s 0xA000 17 n = 0 ∧ d ≠ 0x8000 ∧ rd s 0xA000 24 n = 0 then toSigned 16 d * 62500000 else modelTemp s n

/-- The current that the slot acts on, in mA: channel A, channel B once A has failed, the higher while they disagree (R381). -/
def slotCurrent (s : State) (n : Nat) : Int :=
  let a := toSigned 32 (fieldBe (slotMeas s n) 4 4)
  let b := toSigned 32 (fieldBe (slotMeas s n) 8 4)
  if rd s 0xA000 23 n = 1 then b
  else if rd s 0xA000 23 n = 2 then a
  else if (getSlot s n).disagree then max a b else a

/-- The ports of a slot: every DSP that names it. -/
def slotPorts (s : State) (n : Nat) : List Nat := (List.range 64).filter fun p => actingRole s p == 2 && rd s 0x2000 7 p == n

/-- A DSP loses its sled's power (R394). (Log 136: DEDUCED.) -/
def slotPortDown (s : State) (ordered : Bool) (p : Nat) : State :=
  if linkUp s p then
    let s1 := portDown s p (if ordered then 2 else 1) true
    if rd s1 0x2010 1 p = 1 ∧ rd s1 0x2010 2 p = 0 then wr s1 0x2010 2 p 1 else s1
  else if isPoolDsp s p then targetLost s (dspTarget p) else s

/-- The slot's state changes; leaving ON or RAMPING takes each DSP's link down, leaving ON ends the warning. -/
def moveSlot (s : State) (n v : Nat) (ordered : Bool) : State :=
  let old := slotNow s n
  let s1 := wr (wr s 0xA000 2 n v) 0xA010 2 0 (setBit (rd s 0xA010 2 0) n (v == 3))
  let s2 := if old = 3 ∧ v ≠ 3 then endLevel (setSlot s1 n { getSlot s1 n with warn := false }) (slotSource n) 21 else s1
  if (old = 2 ∨ old = 3) ∧ v ≠ 2 ∧ v ≠ 3 then (slotPorts s2 n).foldl (fun a p => slotPortDown a ordered p) s2 else s2

/-- The conditions of every start from OFF (R388). -/
def mayStartSlot (s : State) (n : Nat) : Bool :=
  slotNow s n == 0 && rd s 0xA000 1 n == 1 && (getSlot s n).en && !(getSlot s n).offTime
    && decide (fetTemp s n < (rd s 0xA000 19 n : Int) * 1000000000)
    && decide (rd s 0xA000 11 n + 300 ≤ slotVin s n ∧ slotVin s n ≤ rd s 0xA000 13 n)

/-- A slot whose start conditions hold waits for its stagger slot; a stagger of 0 starts it at once (R384). -/
def tryStart (s : State) (n : Nat) : State :=
  if mayStartSlot s n then wr s 0xA000 2 n (if rd s 0xA010 1 0 = 0 then 2 else 1) else s

/-- The FET opens and the slot stops (R390, R393). -/
def stopSlot (s : State) (n : Nat) (ordered : Bool) : State :=
  let s1 := moveSlot s n 5 ordered
  setSlot s1 n { getSlot s1 n with offTime := true }

/-- A trip (R388). -/
def tripSlot (s : State) (n kind : Nat) : State :=
  let s1 := bump (wr (moveSlot s n 6 false) 0xA000 3 n kind) 0xA000 4 n 32 1
  let s2 := setSlot s1 n { getSlot s1 n with offTime := true, cleared := false }
  hldWake (raiseEv s2 (slotSource n) 20 (if kind = 7 then .critical else .fault) kind [] false) .slotEvent

/-- The FET conducts: RAMPING, ON, WARNING_LEAD. -/
def fetOn (s : State) (n : Nat) : Bool := decide (2 ≤ slotNow s n ∧ slotNow s n ≤ 4)

/-- A trip while the FET conducts. -/
def tripOn (s : State) (n kind : Nat) : State := if fetOn s n then tripSlot s n kind else s

/-- A toggle leaves TRIPPED (R388). -/
def untrip (s : State) (n : Nat) : State := tryStart (setSlot (wr s 0xA000 2 n 0) n { getSlot s n with cleared := false }) n

/-- Target 0. -/
def slotOff (s0 : State) (n : Nat) (ordered : Bool) : State :=
  let s := wr s0 0xA000 1 n 0
  let st := slotNow s n
  if st = 1 then wr s 0xA000 2 n 0
  else if st = 2 then stopSlot s n ordered
  else if st = 3 then (if rd s 0xA000 14 n = 0 then stopSlot s n ordered else moveSlot s n 4 ordered)
  else if st = 6 then setSlot s n { getSlot s n with cleared := true }
  else s

/-- Target of a slot (0xA000:01); `ordered` when the manager writes it. (Log 139: DEDUCED.) -/
def slotTargetWrite (s : State) (n v : Nat) (ordered : Bool) : State × Status :=
  if v = 0 then (slotOff s n ordered, .ok)
  else
    let s1 := wr s 0xA000 1 n 1
    if slotNow s n = 6 then (if (getSlot s n).cleared then (untrip s1 n, .ok) else (s1, .ignored))
    else (tryStart s1 n, .ok)

/-- SLOT_EN rises, after at least 10 ms low or not. -/
def slotEnRises (s : State) (n : Nat) (long : Bool) : State :=
  let s1 := setSlot (wr s 0xA000 27 n 1) n { getSlot s n with en := true }
  hldWake (if slotNow s1 n = 6 then (if long then untrip s1 n else s1) else tryStart s1 n) .slotEvent

/-- SLOT_EN falls. -/
def slotEnFalls (s : State) (n : Nat) : State :=
  let s1 := setSlot (wr s 0xA000 27 n 0) n { getSlot s n with en := false }
  let st := slotNow s1 n
  hldWake (if st = 0 ∨ st = 5 ∨ st = 6 then s1 else stopSlot s1 n false) .slotEvent

/-- Power good: the ramp's energy is kept. -/
def slotGood (s : State) (n energy : Nat) : State :=
  if slotNow s n = 2 then
    let m := slotMeas s n
    moveSlot (wrBlob s 0xA000 22 n (m.take 20 ++ be 4 energy ++ m.drop 24)) n 3 false
  else s

/-- VIN of a slot is measured. -/
def slotSeesVin (s : State) (n vin : Nat) : State := wrBlob s 0xA000 22 n (be 2 vin ++ (slotMeas s n).drop 2)

/-- PWRWARN_N goes low in ON (R389). -/
def warnSlot (s : State) (n : Nat) : State :=
  if slotNow s n = 3 ∧ (getSlot s n).warn = false then
    let s1 := setSlot (bump s 0xA000 25 n 32 1) n { getSlot s n with warn := true }
    hldWake (raise s1 (slotSource n) 21 .notice []) .slotEvent
  else s

/-- PWRWARN_N goes high again. -/
def unwarnSlot (s : State) (n : Nat) : State :=
  if slotNow s n = 3 ∧ (getSlot s n).warn = true then endLevel (setSlot s n { getSlot s n with warn := false }) (slotSource n) 21 else s

/-- A stop for input loss, undervoltage or overvoltage (R390). (Log 137: DEDUCED.) -/
def inputStop (s : State) (n : Nat) (k : LossKind) : State :=
  if fetOn s n then
    let s1 := if k = .overvoltage then s else warnSlot s n
    hldWake (stopSlot (bump s1 0xA000 26 n 32 1) n false) .slotEvent
  else s

/-! Measurements (R381, R385, R387). -/

/-- The limit that holds the current, in mA: the soft-start limit in RAMPING. -/
def slotLimit (s : State) (n : Nat) : Nat :=
  if slotNow s n = 2 then rd s 0xA000 6 n * rd s 0xA000 8 n else rd s 0xA000 6 n * 100

/-- The breaker accumulator after 10 µs, in µs. -/
def breakerAcc (s : State) (n : Nat) (i : Int) : Nat :=
  let acc := (getSlot s n).acc
  if (slotLimit s n : Int) ≤ i then acc + 10 else acc - 1

/-- One update of the thermal model: the power in the FET in pW, then the temperature's step in 10^-9 °C. -/
def modelStep (s : State) (n : Nat) (vin vout : Nat) (i : Int) : Int :=
  let f := fetModel s n
  let drop : Int := ((vin : Int) - vout) * i * 1000000 - i * i * (rd s 0xA000 5 n : Int)
  let p := max drop (i * i * (f.1 : Int))
  let tf := modelTemp s n
  tf + (p * (f.2.1 : Int) / 100000 - (tf - f.2.2.2 * 1000000000)) / (100 * max 1 (f.2.2.1 : Int))

/-- What the diode reads: its temperature field, its state, DEGRADED. (Log 140: DESIGN CHOICE.) -/
def diodeSeen (s : State) (n : Nat) (d : Diode) : State :=
  let st : Nat := match d with | .valid _ => 0 | .opened => 1 | .shorted => 2
  let picked := rd s 0xA000 17 n == 0
  let s1 := wr s 0xA000 24 n (if picked then st else 3)
  if picked = true ∧ st ≠ 0 then raise s1 (slotSource n) 5 .notice [] else endLevel s1 (slotSource n) 5

/-- The total current over all slots (0xA010:03). -/
def totalCurrent (s : State) : Nat := (List.range 16).foldl (fun a n => a + (slotCurrent s n).toNat) 0

/-- What the measurements of a conducting slot trip (R385, R386, R387): a good channel at twice the limit, the breaker accumulator at its
time, the selected temperature at the trip temperature. -/
def limitTrips (s : State) (n : Nat) (ia ib : Int) : State :=
  let twice : Int := (rd s 0xA000 6 n * 200 : Nat)
  let ramp := slotNow s n == 2
  if fetOn s n = false then s
  else if (bit (rd s 0xA000 23 n) 0 = false ∧ twice ≤ ia) ∨ (bit (rd s 0xA000 23 n) 1 = false ∧ twice ≤ ib) then tripSlot s n 1
  else if (if ramp then rd s 0xA000 9 n else rd s 0xA000 7 n) ≤ (getSlot s n).acc then tripSlot s n (if ramp then 3 else 2)
  else if (rd s 0xA000 18 n : Int) * 1000000000 ≤ fetTemp s n then tripSlot s n 5
  else s

/-- The measurements of a slot are taken, the model and the breaker accumulator updated, and a limit that is reached trips. -/
def measureSlot (s : State) (n : Nat) (m : Meas) : State :=
  let t : List Byte := match m.diode with | .valid x => be 2 x.toNat | _ => be 2 0x8000
  let s1 := diodeSeen (wrBlob s 0xA000 22 n (be 2 m.vin.toNat ++ be 2 m.vout.toNat ++ be 4 m.ia.toNat ++ be 4 m.ib.toNat ++ (slotMeas s n).drop 12)) n m.diode
  let i := slotCurrent s1 n
  let tf := modelStep s1 n m.vin.toNat m.vout.toNat i
  let acc := breakerAcc s1 n i
  let s2 := setSlot s1 n { getSlot s1 n with model := some tf, acc := acc }
  let old := slotMeas s2 n
  let s3 := wrBlob s2 0xA000 22 n (old.take 12 ++ t ++ be 2 (ofSigned 16 (tf * 16 / 1000000000)) ++ be 4 acc ++ old.drop 20)
  tryStart (limitTrips (wr s3 0xA010 3 0 (totalCurrent s3 % 2 ^ 32)) n m.ia.toInt m.ib.toInt) n

/-- The reference check of both channels: a channel that fails stays failed. (Log 138: DEDUCED.) -/
def checkChannels (s : State) (n : Nat) (aGood bGood : Bool) : State :=
  let old := rd s 0xA000 23 n
  let a := !aGood || bit old 0
  let b := !bGood || bit old 1
  let now := b2n a + 2 * b2n b
  if now = old then s
  else
    let s1 := wr s 0xA000 23 n now
    if now = 3 then tripSlot s1 n 7 else hldWake (raise s1 (slotSource n) 3 .fault []) .slotEvent

/-- The channels disagree by more than 5 % of the limit plus 0.5 A for 1 ms. (Log 138: DEDUCED.) -/
def channelsDisagree (s : State) (n : Nat) (a b : Int) : State :=
  if rd s 0xA000 23 n = 0 ∧ (rd s 0xA000 6 n * 5 + 500 : Nat) < (a - b).natAbs then
    let old := slotMeas s n
    let s1 := wrBlob s 0xA000 22 n (old.take 4 ++ be 4 (ofSigned 32 a) ++ be 4 (ofSigned 32 b) ++ old.drop 12)
    hldWake (raise (setSlot s1 n { getSlot s1 n with disagree := true }) (slotSource n) 3 .fault []) .slotEvent
  else s

/-! Plain objects with rules of their own. -/

/-- Sense resistance and current limit: a sense voltage of 10 to 40 mV (R385). -/
def senseOk (lim r : Nat) : Bool := decide (100000 ≤ lim * r ∧ lim * r ≤ 400000)

/-- Objects of a slot that a write may break a rule with (R385, R391, Table 18-7). -/
def slotWrite (s : State) (sub n v : Nat) : State × Status :=
  let ok :=
    if sub = 5 then senseOk (rd s 0xA000 6 n) v
    else if sub = 6 then senseOk v (rd s 0xA000 5 n)
    else if sub = 11 then decide (rd s 0xA000 12 n + 500 ≤ v)
    else if sub = 12 then decide (v + 500 ≤ rd s 0xA000 11 n)
    else if sub = 19 then decide (40 ≤ v ∧ v + 20 ≤ rd s 0xA000 18 n)
    else true
  if ok then (wr s 0xA000 sub n v, .ok) else (s, .range)

/-- The FET model's fields in their ranges. -/
def fetModelWrite (s : State) (n : Nat) (v : List Byte) : State × Status :=
  let amb := toSigned 16 (fieldBe v 6 2)
  if 100 ≤ fieldBe v 0 2 ∧ fieldBe v 0 2 ≤ 10000 ∧ 10 ≤ fieldBe v 2 2 ∧ fieldBe v 2 2 ≤ 10000 ∧ 1 ≤ fieldBe v 4 2 ∧ fieldBe v 4 2 ≤ 60000
      ∧ -20 ≤ amb ∧ amb ≤ 100 then (wrBlob s 0xA000 20 n v, .ok)
  else (s, .range)

/-- Power Controller Control of a DSP's virtual bridge (R97, R382). (Log 136: DEDUCED.) -/
def powerControl (s : State) (p : Nat) (on : Bool) : State :=
  let n := rd s 0x2000 7 p
  if actingRole s p = 2 ∧ n < 16 ∧ isPoolDsp s p = false then (slotTargetWrite s n (b2n on) false).1 else s

end Sys2Proof.Machine
end

