-- ==== Sys2Proof/Machine/Strandline.lean ====
section
/-!
DEFINITION. The commands of fault sources and the Strandline recorder (chapter 16).
-/
namespace Sys2Proof.Machine

open Sys2Proof

/-- A Critical fault of a tile core takes its tile to OFF (R372). (Log 125: DEDUCED.) -/
def coreCritical (s : State) (src : Nat) (sev : Severity) : State :=
  if sev = .critical ∧ src / 256 = 0x30 ∧ src % 256 < 4 ∧ domNow s (coreDom (src % 256)) ≠ 2 then forceOff s (src % 256) else s

/-- CAUSE_OCCURRENCE (R337 to R339): a cause occurs on a fault source; it latches, merges or escalates. -/
def execCauseOccurrence (src : BitVec 16) (cause : CauseN) (sev : Severity) (params : List Nat) (s : State) :
    Host.Outcome State Fault Refusal :=
  .next (coreCritical (raise s src.toNat cause.val sev params) src.toNat sev)

/-- Clear of a source (0xC000:06): its rules, with an occurrence of the same cycle (R340). The action completes at
once. -/
def faultClearWrite (s : State) (src mask : Nat) (same : Option CauseOcc) : State × Status :=
  (cmdEnd (clearSame (cmdStart s 0xC000 6 src) src mask same) 0xC000 6 src 2 0, .ok)

/-- CLEAR (R340). An occurrence of the same cycle happens whether or not the write is accepted. -/
def execFaultClear (r : Requester) (src : BitVec 16) (mask : BitVec 32) (same : Option CauseOcc) (s : State) :
    Host.Outcome State Fault Refusal :=
  .next <| (fun x => match same with | some e => coreCritical x src.toNat e.sev | none => x) <|
    match writeChecks s r (rowItem 0xC000 6 src.toNat (be 4 mask.toNat)), same with
    | some _, some e =>
      raise (rowWrite s r 0xC000 6 src.toNat (be 4 mask.toNat) fun x => (x, .ok)) src.toNat e.cause.val e.sev e.params
    | _, _ => rowWrite s r 0xC000 6 src.toNat (be 4 mask.toNat) fun x => faultClearWrite x src.toNat mask.toNat same

/-- Clear all (0xC010:04). -/
def faultClearAllWrite (s : State) : State × Status :=
  (cmdEnd (clearAllSources (cmdStart s 0xC010 4 0)) 0xC010 4 0 2 0, .ok)

/-- CLEAR_ALL (R340). -/
def execFaultClearAll (r : Requester) (s : State) : Host.Outcome State Fault Refusal :=
  .next (rowWrite s r 0xC010 4 0 [1] faultClearAllWrite)

/-- LEVEL_UNLATCH (R336): the condition of a latched level cause ends. -/
def execLevelUnlatch (src : BitVec 16) (cause : CauseN) (s : State) : Host.Outcome State Fault Refusal :=
  .next (endLevel s src.toNat cause.val)

/-- RESCAN (R344): Headland firmware scans every source and records the latched causes that have no record. -/
def execFaultRescan (s : State) : Host.Outcome State Fault Refusal := .next (rescanAll s)

/-- RECORD_COMMIT (R351, R352, R436): the oldest record that awaits commit is committed; while the store has failed
nothing is. The first commit after an Erase is record 0x0005, which ends the Erase. -/
def execRecordCommit (s : State) : Host.Outcome State Fault Refusal :=
  .next <|
    if storeState s = 1 then s
    else match nextCommit s with
      | none => s
      | some r =>
        let s1 := commitRec s r
        if storeState s = 2 then
          let s2 := wr s1 0xC100 1 0 0
          if cmdRunning s2 0xC100 6 0 then cmdEnd s2 0xC100 6 0 2 0 else s2
        else s1

/-- STORE_FAILURE (R354). (Log 123: DEDUCED.) -/
def execStoreFailure (s : State) : Host.Outcome State Fault Refusal := .next (storeFails s)

/-- Retry store (0xC100:07). -/
def retryStoreWrite (s : State) (answers : Bool) : State × Status := (retryStore s answers, .ok)

/-- RETRY_STORE (R354): the probe succeeds when the store answers. -/
def execRetryStore (r : Requester) (answers : Bool) (s : State) : Host.Outcome State Fault Refusal :=
  .next (rowWrite s r 0xC100 7 0 [1] fun x => retryStoreWrite x answers)

/-- Erase (0xC100:06). -/
def strandEraseWrite (s : State) : State × Status := (eraseStore s, .ok)

/-- ERASE (R436). -/
def execStrandErase (r : Requester) (s : State) : Host.Outcome State Fault Refusal :=
  .next (rowWrite s r 0xC100 6 0 [1] strandEraseWrite)

/-- SECONDS_SAVE (R350): Headland firmware saves the operating seconds to NOR. -/
def execSecondsSave (s : State) : Host.Outcome State Fault Refusal :=
  .next { s with flt := { s.flt with savedSeconds := secondsNow s } }

end Sys2Proof.Machine
end

