-- ==== Sys2Proof/Machine/Telemetry.lean ====
section
/-!
DEFINITION. The commands of the meters and of telemetry (chapters 14 and 15).
-/
namespace Sys2Proof.Machine

open Sys2Proof

/-- METER_REFILL (R303). -/
def execMeterRefill (t : TileN) (s : State) : Host.Outcome State Fault Refusal := 
  .next (releaseTile (refillTile s t.val) t.val)

/-- CLEAR_OVERFLOW (R321): counters that wrap in the same cycle keep OVF. -/
def execClearOverflow (r : Requester) (u : UnitN) (mask wraps : BitVec 64) (s : State) : Host.Outcome State Fault Refusal :=
  .next (rowWrite s r 0xB000 4 u.val (be 8 mask.toNat) fun x =>
    (clearOverflow (cmdDone x 0xB000 4 u.val 0) u.val mask.toNat wraps.toNat, .ok))

/-- INSTANCE_CLEAR_OVERFLOW (R325). -/
def execInstanceClearOverflow (r : Requester) (i : InstN) (s : State) : Host.Outcome State Fault Refusal :=
  .next (rowWrite s r 0xB010 2 i.val [1] fun x => (clearInstOverflow (cmdDone x 0xB010 2 i.val 0) i.val, .ok))

/-- CONTROL_RECORD_WRITE (R322). -/
def execControlRecordWrite (r : Requester) (u : UnitN) (n : Fin 8) (rec : BitVec 32) (s : State) : Host.Outcome State Fault Refusal :=
  .next (rowChunk s r 0xB000 3 u.val fun x => controlWrite x u.val n.val rec.toNat)

/-- WINDOW_START (R328). -/
def execWindowStart (r : Requester) (p : PortN) (s : State) : Host.Outcome State Fault Refusal :=
  .next (rowWrite s r 0xB200 3 p.val [1] fun x => windowStartWrite x p.val)

/-- WINDOW_STOP (R328). -/
def execWindowStop (r : Requester) (p : PortN) (s : State) : Host.Outcome State Fault Refusal :=
  .next (rowWrite s r 0xB200 4 p.val [1] fun x => windowStopWrite x p.val)

/-- WINDOW_END (R327). -/
def execWindowEnd (p : PortN) (s : State) : Host.Outcome State Fault Refusal := .next (endWindow s p.val)

end Sys2Proof.Machine
end

