-- ==== Sys2Proof/Machine/Views.lean ====
section
/-!
DEFINITION. What the objects of the dictionary read as: the values that a unit's state gives its read-only objects, the
records of TABLE objects, the bytes of BLOB and STR32 objects.
-/
namespace Sys2Proof.Machine

open Sys2Proof

/-! Integer objects. -/

/-- A sensor's reading, or a physical count, as the object's type holds it: a free value of the part and the moment. (Log 28: DESIGN CHOICE.) -/
def sensed (s : State) (idx sub q w : Nat) : Nat := Config.sense (okey idx sub q) s.clock.core % 2 ^ w

/-- Identity and transports: 0x1000 and 0x1100. -/
def view1 (s : State) (idx sub q : Nat) : Nat :=
  if idx = 0x1000 ∧ sub = 5 then Config.pciVendor % 2 ^ 16
  else if idx = 0x1000 ∧ sub = 6 then fwVersion (runningImage s)
  else if idx = 0x1000 ∧ sub = 7 then timeNow s
  else if idx = 0x1000 ∧ sub = 9 then s.sec.running
  else if idx = 0x1100 ∧ sub = 2 then (if rd s 0x1100 1 0 = 0 then 0 else sensed s idx sub q 64 % 3)
  else if idx = 0x1101 ∧ sub = 3 then (if rd s 0x1101 1 0 = 0 then 0 else sensed s idx sub q 64 % 3)
  else rd s idx sub q

/-- Ports and lanes: 0x2000 to 0x23FF. (Log 190: DESIGN CHOICE.) -/
def view2 (s : State) (idx sub q : Nat) : Nat :=
  if idx = 0x2140 ∧ sub = 4 then shapeActual s (q - 256)
  else if idx = 0x2100 ∧ sub = 1 then (if rd s 0x2110 2 q = 0 then rd s 0x2100 1 q else 5)
  else if idx = 0x2110 ∧ (sub = 6 ∨ sub = 7) ∧ (getLane s q).inSync = true then sat64 (rd s idx sub q) (sensed s idx sub q 64)
  else if idx = 0x2103 ∧ (sub = 6 ∨ sub = 7) then sensed s idx sub q 16
  else rd s idx sub q

/-- The extent of an object 0x4100 to 0x4103 or 0x6820 to 0x6823: 65,536 to each index. -/
def viewExtent (idx q : Nat) : Nat := idx % 16 * 65536 + q

/-- Blocks that extents in use cover, each once. -/
def grantedBytes (s : State) : Nat :=
  tgtNumbers.foldl (fun a t =>
    let blocks := (s.pool.extents.filter fun e => extInUse e.2 && e.2.target == t).flatMap fun e => extBlocks e.2
    a + blocks.eraseDups.length * blockSize s t) 0

/-- The translation region of R143 in MiB at the limits in force: the extent table, the indexes and the overlay in two copies, and
on each tile a block map of 8 bytes for each 2 MiB of the capacity its tags cover. -/
def translationMib (s : State) : Nat :=
  400 + (List.range 4).foldl (fun a t => a + ceilDiv (tagBytes s t * 65536 / 2097152 * 8) 1048576) 0

/-- The pool: 0x4000 to 0x43FF. -/
def view4 (s : State) (idx sub q : Nat) : Nat :=
  if idx = 0x4000 ∧ sub = 4 then tgtHome q
  else if idx = 0x4000 ∧ 9 ≤ sub ∧ sub ≤ 12 then countBlk s q (sub - 8)
  else if idx = 0x4000 ∧ sub = 14 then (extentsWhere s fun x => extInUse x && x.target == q).length
  else if idx = 0x4010 ∧ sub = 2 then poolBytes s
  else if idx = 0x4010 ∧ sub = 3 then grantedBytes s
  else if idx = 0x4010 ∧ sub = 4 then tgtNumbers.foldl (fun a t => a + countBlk s t 1 * blockSize s t) 0
  else if idx = 0x4010 ∧ sub = 5 then translationMib s
  else if idx = 0x4010 ∧ sub = 6 then (extentsWhere s extInUse).length
  else if 0x4100 ≤ idx ∧ idx ≤ 0x4103 ∧ sub = 2 then (getExt s (viewExtent idx q)).st
  else if 0x4100 ≤ idx ∧ idx ≤ 0x4103 ∧ sub = 4 then inFlight s (viewExtent idx q)
  else if idx = 0x4300 ∧ sub = 2 then (List.range 4).foldl (fun a t => a * 65536 + tagBytes s t / 1048576) 0
  else rd s idx sub q

/-- Instances: 0x5000 to 0x52FF. -/
def view5 (s : State) (idx sub q : Nat) : Nat :=
  if idx = 0x5000 ∧ sub = 7 then instBytes s q (fun st => st == 2) else rd s idx sub q

/-- Coherence and Littoral: 0x6000 to 0x68FF. -/
def view6 (s : State) (idx sub q : Nat) : Nat :=
  let homed := s.coh.lines.filter fun e => lineHome s e.1 == q
  if idx = 0x6000 ∧ sub = 4 then ((List.range 64).filter fun p => s.coh.lines.any fun e => (holders s e.1 e.2).contains p).length
  else if idx = 0x6100 ∧ sub = 5 then dirtyCount s q
  else if idx = 0x6200 ∧ sub = 1 then (homed.filter fun e => wayUsed q e.2).length
  else if idx = 0x6200 ∧ sub = 2 then (homed.filter fun e => wayUsed q e.2 && e.2.coarse).length
  else if idx = 0x6801 ∧ sub = 1 then litState s
  else if idx = 0x6810 ∧ sub = 3 then promotedBytes s q
  else if idx = 0x6810 ∧ sub = 4 then cachedBytes s q
  else if 0x6820 ≤ idx ∧ idx ≤ 0x6823 ∧ sub = 5 then remappedCount s (getExt s (viewExtent idx q))
  else if 0x6820 ≤ idx ∧ idx ≤ 0x6823 ∧ sub = 6 then cachedGranules s (getExt s (viewExtent idx q))
  else rd s idx sub q

/-- QoS: 0x7000 to 0x72FF. -/
def view7 (s : State) (idx sub q : Nat) : Nat :=
  if idx = 0x7000 ∧ sub = 6 then heldCount s q
  else if idx = 0x7100 ∧ sub = 4 then (heldOf s q).length
  else if idx = 0x7100 ∧ sub = 5 then (ringOf s (q / 16) (q % 16)).length
  else if idx = 0x7100 ∧ sub = 8 then shaperState s q
  else rd s idx sub q

/-- A vendor table's object (R247): resident in every cluster, its length and budget the firmware's; while it unloads it is still there. -/
def vendorView (s : State) (sub q : Nat) : Option Nat :=
  let here := vendorHere s q
  if here = false ∧ (s.gecko.unloaded.contains q = false ∨ rd s 0x8100 1 q ≠ 4) then none
  else if sub = 1 then some (if here then 2 else 4)
  else if sub = 2 then some 0xFFFE
  else if sub = 3 then some (Config.vendorLength q % 65536)
  else if sub = 4 then some (Config.vendorBudget q % 2 ^ 32)
  else if sub = 6 then some 0xFFFFFFFF
  else none

/-- Gecko: 0x8000 to 0x81FF. -/
def view8 (s : State) (idx sub q : Nat) : Nat :=
  if idx = 0x8100 then (vendorView s sub q).getD (rd s idx sub q)
  else if idx = 0x8010 ∧ sub = 1 then Config.vendorVersion (fwHash (runningImage s) 4) % 2 ^ 32
  else if idx = 0x8010 ∧ sub = 2 then 12288 - tenantSteps s (q / 32)
  else if idx = 0x8010 ∧ sub = 3 then slotsFree s (q / 32)
  else rd s idx sub q

/-- Power: 0x9000 to 0x92FF. -/
def view9 (s : State) (idx sub q : Nat) : Nat :=
  if idx = 0x9000 ∧ sub = 7 then
    (rd s idx sub q + (if rd s 0x9000 2 q = 1 ∨ rd s 0x9000 2 q = 2 then restMs s (getDom s q).since else 0)) % 2 ^ 64
  else if idx = 0x9100 ∧ (sub = 2 ∨ sub = 3) ∨ idx = 0x9101 ∧ sub = 2 then sensed s idx sub q 1
  else if idx = 0x9200 ∧ sub = 2 then sensed s idx sub q 32
  else if idx = 0x9210 ∧ sub = 2 then sensed s idx sub q 16
  else if idx = 0x9210 ∧ sub = 4 then sensed s idx sub q 32
  else rd s idx sub q

/-- Telemetry: 0xB000 to 0xB2FF. -/
def viewB (s : State) (idx sub q : Nat) : Nat :=
  if idx = 0xB000 ∧ sub = 1 then b2n (decide (64 ≤ q))
  else if idx = 0xB000 ∧ sub = 5 then overflowBits s q
  else rd s idx sub q

/-- Faults and Strandline: 0xC000 to 0xC1FF. -/
def viewC (s : State) (idx sub q : Nat) : Nat :=
  let x := getSource s q
  if idx = 0xC000 ∧ sub = 1 then causeBits x
  else if idx = 0xC000 ∧ sub = 2 then topSeverity x
  else if idx = 0xC000 ∧ sub = 3 then mergedBits x
  else if idx = 0xC000 ∧ sub = 9 then reachCode x
  else if idx = 0xC010 ∧ sub = 1 then b2n (faultN s)
  else if idx = 0xC010 ∧ sub = 3 then (openSources s).length
  else if idx = 0xC100 ∧ sub = 2 then s.flt.nextSeq
  else if idx = 0xC100 ∧ sub = 3 then s.flt.store.length
  else if idx = 0xC100 ∧ sub = 5 then awaiting s
  else rd s idx sub q

/-- Security and update: 0xD000 to 0xD1FF. -/
def viewD (s : State) (idx sub q : Nat) : Nat :=
  if idx = 0xD000 ∧ sub = 8 then s.sec.counter
  else if idx = 0xD000 ∧ sub = 9 then
    (List.range 4).foldl (fun a n => a + b2n (Config.rootKey n).isSome * 2 ^ n + b2n (s.sec.revoked.contains n) * 2 ^ (8 + n)) 0
  else rd s idx sub q

/-- What an integer object reads as. (Log 28: DESIGN CHOICE.) -/
def objInt (s : State) (idx sub q : Nat) : Nat :=
  if sub = 0 then rd s idx sub q
  else if idx < 0x2000 then view1 s idx sub q
  else if idx < 0x4000 then (if idx < 0x3000 then view2 s idx sub q
    else if idx = 0x3200 ∧ sub = 2 then writtenSum s q
    else if idx = 0x3200 ∧ sub = 3 then inForceSum s q
    else if idx = 0x3200 ∧ sub = 5 then freeCells s q
    else rd s idx sub q)
  else if idx < 0x5000 then view4 s idx sub q
  else if idx < 0x6000 then view5 s idx sub q
  else if idx < 0x7000 then view6 s idx sub q
  else if idx < 0x8000 then view7 s idx sub q
  else if idx < 0x9000 then view8 s idx sub q
  else if idx < 0xA000 then view9 s idx sub q
  else if idx < 0xB000 then rd s idx sub q
  else if idx < 0xC000 then viewB s idx sub q
  else if idx < 0xD000 then viewC s idx sub q
  else viewD s idx sub q

/-! BLOB and STR32 objects. -/

/-- The ASCII bytes of a name. -/
def ascii (x : String) : List Byte := x.toList.map fun c => BitVec.ofNat 8 c.toNat

/-- The 64 bytes of a first capture: of the block, else of the held copy. -/
def firstCapture (s : State) (src : Nat) : List Byte :=
  let x := getSource s src
  padTo (if x.first = [] then x.heldFirst else x.first) 64

/-- What a BLOB or STR32 object reads as. -/
def objBytes (s : State) (idx sub q : Nat) : List Byte :=
  if idx = 0x1000 then (if sub = 1 then ascii "Melewell" else if sub = 2 then ascii "TLS6400" else Config.serial.take 32)
  else if 0x4100 ≤ idx ∧ idx ≤ 0x4103 then extRecord s (getExt s (viewExtent idx q))
  else if idx = 0x4200 then captureOf s q
  else if idx = 0x5000 then rdBlob s idx sub q []
  else if idx = 0x5100 then rdBlob s idx sub q (zeros 24)
  else if idx = 0x5200 then rdBlob s idx sub q (zeros 40)
  else if idx = 0x6801 then rdBlob s idx sub q (zeros 24)
  else if idx = 0x7100 then rdBlob s idx sub q (zeros 32)
  else if idx = 0xA000 then (if sub = 20 then rdBlob s idx sub q [0x03, 0xE8, 0x05, 0xDC, 0x07, 0xD0, 0x00, 0x46] else slotMeas s q)
  else if idx = 0xB200 then rdBlob s idx sub q (zeros 48)
  else if idx = 0xC000 then firstCapture s q
  else if idx = 0xD000 then Config.certChain
  else if idx = 0xD010 then rdBlob s idx sub q (zeros 96)
  else if idx = 0xD100 then recordBytes (recordNow s)
  else if idx = 0xE000 then rdBlob s idx sub q (zeros 32)
  else rdBlob s idx sub q []

/-! TABLE objects. -/

/-- The record of one session (0x1104:01). -/
def sessionRec (s : State) (x : Session) : List Byte :=
  be 4 x.id ++ be 1 (match x.transport with | .udp => 0 | .mctp => 1)
    ++ be 1 (match x.level with | .vendor => 0 | .manager => 1 | .operator => 2 | .tenant _ => 3) ++ zeros 2
    ++ be 4 (secondsNow s - x.lastValid) ++ be 4 x.high

/-- The record of a credit pool (0x2210:08). -/
def poolRec (k : CreditPool) : List Byte := be 4 k.initial ++ be 4 k.usable ++ be 4 k.leaked ++ be 4 k.overReturned

/-- Word 0 of a context record (Table 11-2). -/
def ctxWord0 (k : Ctx) : Nat :=
  k.st * 2 ^ 61 + b2n k.z * 2 ^ 60 + b2n k.n * 2 ^ 59 + b2n k.c * 2 ^ 58 + b2n k.v * 2 ^ 57 + b2n k.dz * 2 ^ 56 + b2n k.dzt * 2 ^ 55
    + b2n k.atom * 2 ^ 54 + b2n k.sys * 2 ^ 53 + k.inst % 4096 * 2 ^ 41 + k.table % 4096 * 2 ^ 29 + k.sp % 16384 * 2 ^ 15 + k.wgroup % 256 * 2 ^ 7

/-- The record of a context (0x8000:08). -/
def ctxRec (s : State) (c : Nat) : List Byte :=
  let k := getCtx s c
  be 8 (ctxWord0 k) ++ be 4 k.budget ++ be 2 k.engine ++ zeros 2

/-- The record of a wait group (0x8010:06). -/
def groupRec (s : State) (cl g : Nat) : List Byte :=
  let members := s.gecko.ctxs.filter fun e => ctxCluster e.1 == cl && e.2.wgroup == g && running e.2
  let bound := (boundAll s).filter fun c => ctxCluster c == cl && bindGroup (bindRec s c) == g
  let owner := if g = 0xFF then 0xFFFE else match bound.head? with | some c => bindInst (bindRec s c) | none => 0xFFFF
  be 2 owner ++ be 1 members.length ++ be 1 (members.filter fun e => e.2.st == 4).length ++ be 4 (look 0 s.gecko.events (256 * cl + g))

/-- The `j`-th extent of an instance in the order of offsets, 0xFFFF_FFFF after the last (0x4121:01). (Log 108: DESIGN CHOICE.) -/
def extentListRec (s : State) (i j : Nat) : Nat :=
  nth 0xFFFFFFFF ((instExtents s i).mergeSort fun a b => decide ((getExt s a).offset ≤ (getExt s b).offset)) j

/-- The counts of a cause (0xC000:04). -/
def countRec (s : State) (src c : Nat) : List Byte :=
  let k := (getSource s src).cause c
  be 4 k.count ++ be 1 (if k.latched then sevCode k.sev else if k.held then sevCode k.heldSev else 0) ++ zeros 3

/-- One record of the open sources (0xC010:02). -/
def openRec (s : State) (src : Nat) : List Byte :=
  let x := getSource s src
  be 2 src ++ be 1 (topSeverity x) ++ be 1 (reachCode x) ++ be 4 (causeBits x)

/-- State, version, length and security version of a firmware slot (0xD100:02). -/
def fwSlotRec (s : State) (n : Nat) : List Byte :=
  let bytes := if n = 2 then s.sec.goldenFw else (fwSlot s n).bytes
  let st := if n = 2 then 3
    else if trialOpen s = true ∧ (recordNow s).trial.toNat = n then 5
    else if activeSlot s = n ∧ (fwSlot s n).st ≠ 0 then 4 else (fwSlot s n).st
  be 1 st ++ zeros 3 ++ be 4 (fwVersion bytes) ++ be 4 (fwLen bytes) ++ be 2 (fwSecver bytes) ++ zeros 2

/-- How many records a TABLE object holds now. -/
def tblCount (s : State) (idx sub q : Nat) : Nat :=
  if idx = 0x1104 then s.mgmt.sessions.length
  else if idx = 0x1210 then 3
  else if idx = 0x2210 then 18
  else if idx = 0x3000 then 35
  else if idx = 0x3200 then 32
  else if idx = 0x3210 then 768
  else if idx = 0x4121 then 4194304
  else if idx = 0x4200 ∧ sub = 7 then 6
  else if idx = 0x5200 then (let lines := ceilDiv (getDirty s q).span (512 * 4096); if sub = 6 then lines else ceilDiv lines 64)
  else if idx = 0x6010 then 64
  else if idx = 0x6801 then (if sub = 2 then 4 else 9)
  else if idx = 0x7000 then 4
  else if idx = 0x7200 then (if sub = 1 then 12 else 16)
  else if idx = 0x8000 ∧ sub = 8 then 68
  else if idx = 0x8010 then 256
  else if idx = 0xB000 ∧ sub = 2 then (if q < 64 then 9 else unitEvents q)
  else if idx = 0xB010 then 8
  else if idx = 0xB100 then 4096
  else if idx = 0xB200 then 16
  else if idx = 0xC000 then 32
  else if idx = 0xC010 then (openSources s).length
  else if idx = 0xC100 then 4
  else if idx = 0xC101 then (if sub = 1 then 131072 else 1024)
  else if idx = 0x9200 then (if q = 4 then 4 else 16)
  else if idx = 0xD000 then 4
  else if idx = 0xD100 then 3
  else recCount idx sub

/-- Records that a unit's state gives, of objects below 0x6000. -/
def tblLow (s : State) (idx sub q n : Nat) : Option (List Byte) :=
  if idx = 0x1104 then s.mgmt.sessions[n]?.map (sessionRec s)
  else if idx = 0x1210 then some (be 8 (slotSerial s n) ++ be 1 (b2n (slotOk s n)) ++ zeros 7)
  else if idx = 0x2210 then some (poolRec (nth poolInit (getPort s q).pools n))
  else if idx = 0x3200 ∧ sub = 4 then some ((List.range 8).flatMap fun c => be 2 (occupancy s q n c))
  else if idx = 0x4121 then some (be 4 (extentListRec s (n / 1024) (n % 1024)))
  else if idx = 0x5200 ∧ sub = 6 then some (dirtyLine (getDirty s q).frozen n)
  else if idx = 0x5200 ∧ sub = 7 then
    some ((List.range 8).map fun b => BitVec.ofNat 8 ((List.range 8).foldl (fun a j =>
      if (dirtyLines (getDirty s q).frozen).contains (64 * n + 8 * b + j) then a + 2 ^ j else a) 0))
  else none

/-- Records that a unit's state gives, of objects from 0x6000. -/
def tblHigh (s : State) (idx sub q n : Nat) : Option (List Byte) :=
  if idx = 0x6010 ∧ sub = 1 then some (be 1 (iscVersion s n) ++ be 1 (getPort s n).iscSelect ++ zeros 2)
  else if idx = 0x6801 ∧ sub = 2 then some (litRecord s n)
  else if idx = 0x7200 ∧ sub = 7 then some (be 4 ((egressOf s (schedOf q)).filter fun m => m.cls == n).length)
  else if idx = 0x8000 ∧ sub = 8 then some (ctxRec s (128 * q + n))
  else if idx = 0x8010 then some (groupRec s (q / 32) n)
  else if idx = 0xB000 ∧ sub = 2 then some (be 8 (readCounter s q n))
  else if idx = 0xB010 then some (be 8 (instCounter s q n))
  else if idx = 0xC000 then some (countRec s q n)
  else if idx = 0xC010 then (openSources s)[n]?.map (openRec s)
  else if idx = 0xC101 ∧ sub = 1 then some (match s.flt.store[n]? with | some r => r.bytes | none => zeros 64)
  else if idx = 0xC101 then some (match s.flt.ring[n]? with | some r => r.entry.bytes | none => zeros 64)
  else if idx = 0x9200 then some (be 4 (Config.sense (tkey idx sub q n) s.clock.core))
  else if idx = 0xD000 then
    some (match cfgKey s n with | some k => [1] ++ zeros 15 ++ keyId k | none => zeros 32)
  else if idx = 0xD100 then some (fwSlotRec s n)
  else none

/-- Record `n` of a TABLE object. -/
def tblRec (s : State) (idx sub q n : Nat) : List Byte :=
  let v := if idx < 0x6000 then tblLow s idx sub q n else tblHigh s idx sub q n
  match v with
  | some b => b
  | none => be (recSize idx sub) (rdTbl s idx sub q n (recDefault idx sub n))

/-- What a scalar object reads as on the wire (Table 2-1); a CMD object as its status word. -/
def objRead (s : State) (d : ObjDesc) (q : Nat) : List Byte :=
  match d.ty with
  | .blob => objBytes s d.idx d.sub q
  | .str32 => objBytes s d.idx d.sub q
  | t => be t.wire (objInt s d.idx d.sub q)

end Sys2Proof.Machine
end

