-- ==== Sys2Proof/Machine/Dictionary.lean ====
section
/-!
DEFINITION. The dictionary service (R28, R38, R431): what a write of each object does, by its own rules (check 12), and
the reads, writes and chunks of one object as every transport makes them.
-/
namespace Sys2Proof.Machine

open Sys2Proof

/-! Objects whose write has no command of its own. -/

/-- Sessions of a transport beyond a limit are closed, the newest first (0x1100:07, 0x1101:05). -/
def closeSessions (s : State) (t : Transport) (n : Nat) : State :=
  let mine := s.mgmt.sessions.filter fun x => x.transport == t
  let gone := (mine.take (mine.length - n)).map (·.id)
  { s with mgmt := { s.mgmt with sessions := s.mgmt.sessions.filter fun x => !gone.contains x.id } }

/-- A port's links follow a change of the role it acts in: the old link goes down, and the port waits for a partner or is
disabled (R50, R83). -/
def roleChanges (s : State) (p : Nat) (f : State → State) : State :=
  let before := actingRole s p
  let after := actingRole (f s) p
  if before = after then f s
  else
    let s1 := f (if linkUp s p then portDown s p 2 false else s)
    let quiesced := (portGroups s1 p).any fun g => rd s1 0x2140 2 (256 + g) != 0
    wr s1 0x2010 2 p (if after ≠ 0 ∧ rd s1 0x2010 1 p = 1 ∧ quiesced = false then 1 else 0)

/-- A role for a port in a mode that it will run in: 3 only where that mode is CASCADE (R83). -/
def roleIn (s : State) (mode p v : Nat) : State × Status :=
  if v = 3 ∧ mode ≠ 3 then (s, .range) else (roleChanges s p fun x => wr x 0x2000 1 p v, .ok)

/-- Role (0x2000:01), as a run-time write. -/
def roleWrite (s : State) (p v : Nat) : State × Status := roleIn s (modeNow s) p v

/-- Knob of an instance or extent: granules that become excluded leave their moves (R230). -/
def knobWrite (s : State) (idx q v : Nat) : State × Status := (movesExcluded (wr s idx 1 q v), .ok)

/-- Seed (0xB100:02): the generators of the tile start from it again. (Log 119: DEDUCED.) -/
def seedWrite (s : State) (t v : Nat) : State × Status :=
  let gone (g : Nat) : Bool := if g < 64 then g / 16 == t else (g - 64) / 8 == t
  (wr { s with tele := { s.tele with prng := delIf s.tele.prng fun g _ => gone g } } 0xB100 2 t v, .ok)

/-- Shape (0x2140:03): links of the partner group that the pair being half written leaves without lanes fall (R60). (Log 52: DEDUCED.) -/
def shapeWrite (s : State) (g v : Nat) : State × Status :=
  let falls := [2 * pairOf g, 2 * pairOf g + 1].filter fun p => linkUp s p && portLanes (wr s 0x2140 3 (256 + g) v) p != portLanes s p
  let s1 := falls.foldl (fun a p => portDown a p 2 false) s
  (falls.foldl (fun a p => if rd a 0x2010 1 p = 1 then wr a 0x2010 2 p 1 else a) (shapeWritten s1 g v), .ok)

/-- A free bit, and the next state of the source of free values. -/
def freeBool (s : State) : Bool × State := (freeBits s 1 == 1, freeNext s)

/-! What a write of each object does, by index ranges. -/

/-- 0x1000 to 0x1FFF. -/
def write1 (s : State) (idx sub : Nat) (v : List Byte) : State × Status :=
  let n := ofBe v
  if idx = 0x1100 ∧ sub = 7 then (closeSessions (wr s 0x1100 7 0 n) .udp n, .ok)
  else if idx = 0x1101 ∧ sub = 5 then (closeSessions (wr s 0x1101 5 0 n) .mctp n, .ok)
  else if idx = 0x1200 ∧ sub = 1 then targetModeWrite s n
  else if idx = 0x1201 then deviceResetWrite s n
  else if idx = 0x1211 ∧ sub = 1 then ({ s with mode := { s.mode with staging := v } }, .ok)
  else if idx = 0x1211 ∧ sub = 2 then installWrite s
  else if idx = 0x1212 then cfgActivateWrite s
  else if idx = 0x1213 then (if sub = 1 then commitWrite s else clearDeltaWrite s)
  else (wr s idx sub 0 n, .ok)

/-- Lane tests and test modes (0x2110). -/
def writeLane (s : State) (sub q n : Nat) : State × Status :=
  if sub = 1 then testTargetWrite s q n
  else if sub = 3 then (if rd s 0x2110 2 q ≠ 0 then (s, .busy) else (wr s 0x2110 3 q n, .ok))
  else if sub = 4 then loopbackWrite s q n
  else if sub = 5 then injectWrite s q n
  else if sub = 9 then clearCountersWrite s q
  else (wr s 0x2110 sub q n, .ok)

/-- 0x2000 to 0x3FFF. -/
def write2 (s : State) (idx sub q n : Nat) : State × Status :=
  if idx = 0x2000 ∧ sub = 1 then roleWrite s q n
  else if idx = 0x2010 then portTargetWrite s q n
  else if idx = 0x2101 ∨ idx = 0x2102 then laneDirWrite s idx q n
  else if idx = 0x2110 then writeLane s sub q n
  else if idx = 0x2140 ∧ sub = 1 then quiesceWrite s (q - 256) n
  else if idx = 0x2140 ∧ sub = 3 then shapeWrite s (q - 256) n
  else if idx = 0x2140 ∧ sub = 11 then swapBackWrite s (q - 256)
  else if idx = 0x2140 ∧ sub = 12 then retireLaneWrite s (q - 256) n
  else if idx = 0x2210 ∧ sub = 9 then forceRetrainWrite s q
  else if idx = 0x3000 ∧ sub = 1 then tileTargetWrite s q n
  else if idx = 0x3000 ∧ sub = 3 then tileResetWrite s q
  else if idx = 0x3100 ∧ sub = 1 then tidelinkTargetWrite s q n
  else if idx = 0x3100 ∧ sub = 12 then tidelinkRepairWrite s q
  else if idx = 0x3300 ∧ sub = 1 then beachEnableWrite s q n
  else (wr s idx sub q n, .ok)

/-- 0x4000 to 0x4FFF. -/
def write4 (s : State) (idx sub q : Nat) (v : List Byte) : State × Status :=
  let n := ofBe v
  if idx = 0x4000 ∧ sub = 1 then targetPoolWrite s q n
  else if idx = 0x4000 ∧ sub = 8 then nearTierCommand s q n
  else if idx = 0x4001 ∧ sub = 5 then retireWrite s q n
  else if 0x4100 ≤ idx ∧ idx ≤ 0x4103 then releaseWrite s (viewExtent idx q) v
  else if idx = 0x4110 then grantCommand s v
  else if idx = 0x4200 ∧ sub = 5 then clearCaptureWrite s q none
  else if idx = 0x4300 ∧ sub = 1 then
    (if n / 2 ^ 24 + n / 2 ^ 16 % 256 + n / 256 % 256 + n % 256 = 100 then (wr s 0x4300 1 0 n, .ok) else (s, .range))
  else if idx = 0x4300 ∧ sub = 3 then recolourWrite s v
  else if idx = 0x4300 ∧ sub = 4 then queryWrite s v
  else if idx = 0x4310 then keySetWrite s q n
  else (wr s idx sub q n, .ok)

/-- 0x5000 to 0x5FFF. -/
def write5 (s : State) (idx sub q : Nat) (v : List Byte) : State × Status :=
  let n := ofBe v
  if idx = 0x5000 ∧ sub = 2 then (wrBlob s 0x5000 2 q v, .ok)
  else if idx = 0x5000 ∧ sub = 3 then destroyWrite s q
  else if idx = 0x5000 ∧ sub = 4 then (if n < rd s 0x5000 5 q then (s, .busy) else (wr s 0x5000 4 q n, .ok))
  else if idx = 0x5001 then createWrite s v
  else if idx = 0x5010 then presentationWrite s q sub n
  else if idx = 0x5100 ∧ sub = 1 then postNoticeWrite s q v
  else if idx = 0x5200 then (if sub = 1 then dirtyStartWrite s q else if sub = 2 then dirtyStopWrite s q else dirtyHarvestWrite s q v)
  else (wr s idx sub q n, .ok)

/-- 0x6000 to 0x6FFF. -/
def write6 (s : State) (idx sub q : Nat) (v : List Byte) : State × Status :=
  let n := ofBe v
  if idx = 0x6100 ∧ sub = 11 then (cmdDone (flushTile s q) 0x6100 11 q 0, .ok)
  else if idx = 0x6200 ∧ sub = 8 then lookupWrite s q v
  else if idx = 0x6800 ∧ sub = 6 then (if n < rd s 0x6800 5 0 then (wr s 0x6800 6 0 n, .ok) else (s, .range))
  else if (idx = 0x6810 ∨ 0x6820 ≤ idx ∧ idx ≤ 0x6823) ∧ sub = 1 then knobWrite s idx q n
  else if idx = 0x6830 then moveWrite s v
  else (wr s idx sub q n, .ok)

/-- 0x7000 to 0x8FFF. -/
def write7 (s : State) (r : Requester) (idx sub q : Nat) (v : List Byte) : State × Status :=
  let n := ofBe v
  if idx = 0x7100 ∧ sub = 2 then shaperWrite s q v
  else if idx = 0x8000 ∧ sub = 1 then engineTargetWrite s q n
  else if idx = 0x8001 then stopWrite s r q n
  else if idx = 0x8100 then unloadWrite s r q
  else if idx = 0x8110 ∧ sub = 1 then ({ s with gecko := { s.gecko with staging := v } }, .ok)
  else if idx = 0x8110 ∧ sub = 2 then loadWrite s n
  else (wr s idx sub q n, .ok)

/-- 0x9000 to 0xAFFF. -/
def write9 (s : State) (idx sub q : Nat) (v : List Byte) : State × Status :=
  let n := ofBe v
  if idx = 0x9000 ∧ sub = 1 then domainTargetWrite s q n
  else if idx = 0x9000 ∧ sub = 8 then forceOffWrite s q
  else if idx = 0x9200 ∧ sub = 6 then (if rd s 0x9200 5 q < n then (wr s 0x9200 6 q n, .ok) else (s, .range))
  else if idx = 0x9210 then marginWrite s q n
  else if idx = 0xA000 ∧ sub = 1 then slotTargetWrite s q n true
  else if idx = 0xA000 ∧ sub = 20 then fetModelWrite s q v
  else if idx = 0xA000 then slotWrite s sub q n
  else (wr s idx sub q n, .ok)

/-- 0xB000 to 0xCFFF. -/
def writeB (s : State) (idx sub q n : Nat) : State × Status :=
  if idx = 0xB000 ∧ sub = 4 then (clearOverflow (cmdDone s 0xB000 4 q 0) q n 0, .ok)
  else if idx = 0xB010 ∧ sub = 2 then (clearInstOverflow (cmdDone s 0xB010 2 q 0) q, .ok)
  else if idx = 0xB100 ∧ sub = 2 then seedWrite s q n
  else if idx = 0xB200 ∧ sub = 1 then windowLengthWrite s q n
  else if idx = 0xB200 ∧ sub = 3 then windowStartWrite s q
  else if idx = 0xB200 ∧ sub = 4 then windowStopWrite s q
  else if idx = 0xC000 ∧ sub = 6 then faultClearWrite s q n none
  else if idx = 0xC010 ∧ sub = 4 then faultClearAllWrite s
  else if idx = 0xC100 ∧ sub = 6 then strandEraseWrite s
  else if idx = 0xC100 ∧ sub = 7 then retryStoreWrite (freeBool s).2 (freeBool s).1
  else (wr s idx sub q n, .ok)

/-- 0xD000 to 0xEFFF. -/
def writeD (s : State) (r : Requester) (idx sub q : Nat) (v : List Byte) : State × Status :=
  let n := ofBe v
  if idx = 0xD000 ∧ sub = 2 then credentialWrite s r v
  else if idx = 0xD000 ∧ sub = 4 then enrollWrite s v
  else if idx = 0xD000 ∧ sub = 5 then revokeWrite s v
  else if idx = 0xD000 ∧ sub = 7 then floorWrite s
  else if idx = 0xD010 then attestWrite s q
  else if idx = 0xD100 ∧ sub = 5 then downloadWrite (freeBool s).2 0 v (freeBool s).1
  else if idx = 0xD100 ∧ sub = 6 then beginWrite s n
  else if idx = 0xD100 ∧ sub = 7 then verifyWrite s
  else if idx = 0xD100 ∧ sub = 8 then activateWrite s
  else if idx = 0xD100 ∧ sub = 9 then confirmWrite s
  else if idx = 0xD100 ∧ sub = 11 then applyWrite s
  else if idx = 0xD100 ∧ sub = 12 then revertWrite s
  else if idx = 0xE000 ∧ sub = 1 then testWrite s v
  else if idx = 0xE010 ∧ sub = 1 then diagReadWrite s v
  else if idx = 0xE010 ∧ sub = 3 then diagWriteWrite s v
  else (wr s idx sub q n, .ok)

/-- The object's own rules and effect (check 12 of R431). -/
def objWrite (s : State) (r : Requester) (d : ObjDesc) (q : Nat) (v : List Byte) : State × Status :=
  if d.idx < 0x2000 then write1 s d.idx d.sub v
  else if d.idx < 0x4000 then write2 s d.idx d.sub q (ofBe v)
  else if d.idx < 0x5000 then write4 s d.idx d.sub q v
  else if d.idx < 0x6000 then write5 s d.idx d.sub q v
  else if d.idx < 0x7000 then write6 s d.idx d.sub q v
  else if d.idx < 0x9000 then write7 s r d.idx d.sub q v
  else if d.idx < 0xB000 then write9 s d.idx d.sub q v
  else if d.idx < 0xD000 then writeB s d.idx d.sub q (ofBe v)
  else writeD s r d.idx d.sub q v

/-! Chunks (R38). -/

/-- Records written as they are. -/
def plainRecs (s : State) (idx sub q start : Nat) (recs : List Nat) : State :=
  (recs.mapIdx fun i v => (start + i, v)).foldl (fun a e => wrTbl a idx sub q e.1 e.2) s

/-- PBR routes (Table 5-11): KIND 0 with a port, or KIND 1; reserved bits are not kept. -/
def routesWrite (s : State) (p start : Nat) (recs : List Nat) : State × Status :=
  if recs.any fun r => decide (1 < bits r 30 28) || (bits r 30 28 == 0 && decide (64 ≤ bits r 11 0)) then (s, .range)
  else (plainRecs s 0x2320 1 p start (recs.map fun r => bits r 31 28 * 2 ^ 28 + bits r 11 0), .ok)

/-- VCS bindings (Table 5-12): a bound record names a DSP; a single-logical device stands in one virtual switch only. -/
def vcsWrite (s : State) (u start : Nat) (recs : List Nat) : State × Status :=
  let s1 := plainRecs s 0x2330 1 u start (recs.map fun r => bits r 31 31 * 2 ^ 31 + bits r 23 16 * 65536 + bits r 7 0)
  let wrong (r : Nat) : Bool := bound r && (actingRole s (boundPort r) != 2 || (boundLd r != 0xFF && decide (15 < boundLd r)))
  let homes (p : Nat) : Nat :=
    (List.range 64).countP fun v => (List.range 64).any fun k =>
      let r := bindingOf s1 v k
      bound r && boundLd r == 0xFF && boundPort r == p
  if recs.any (fun r => decide (63 < bits r 7 0) || wrong r || (bound r && boundLd r == 0xFF && decide (1 < homes (boundPort r)))) then (s, .range)
  else (s1, .ok)

/-- A DC region as base, length in bytes, MIN_CODE, flags. -/
def dcFields (r : Nat) : Nat × Nat × Nat × Nat := (bits r 127 64, bits r 63 32 * 2097152, bits r 31 24, bits r 23 16)

/-- DC regions (R145): overlap, or a length of 0, is refused with RANGE; a region that an extent would fall out of, with BUSY; as
is a change that would raise the span of an instance that logs (R287). A region that a committed HDM-H decoder reaches does not become
shareable (R180). (Log 218: DEDUCED.) -/
def dcWrite (s : State) (start : Nat) (recs : List Nat) : State × Status :=
  let kept := recs.map fun r => bits r 127 24 * 2 ^ 24 + bits r 17 16 * 65536
  let s1 := plainRecs s 0x4120 1 0 start kept
  let insts := ((List.range recs.length).map fun k => (start + k) / 8).eraseDups
  let form (r : Nat) : Bool := !bit r 16 || ((dcFields r).1 % 2097152 == 0 && decide ((dcFields r).2.1 ≠ 0 ∧ (dcFields r).2.2.1 ≤ 9))
  let overlap (i : Nat) : Bool := (List.range 8).any fun a => (List.range 8).any fun b =>
    let x := dcRegion s1 i a
    let y := dcRegion s1 i b
    decide (a < b) && dcValid x && dcValid y && meet x.1 x.2.1 y.1 y.2.1
  let outside (i : Nat) : Bool := (instExtents s i).any fun e =>
    let x := getExt s e
    !dcHolds (dcRegion s1 i x.region) x.offset (extBytes x)
  let grows (i : Nat) : Bool := (getDirty s i).logging && decide (dirtySpan s i < dirtySpan s1 i)
  let exposed (i : Nat) : Bool := (List.range 8).any fun d =>
    let r := decoderRec s i d
    decCommitted r && !decBi r && touchesShareable s1 i (decOffset r) (decSpan r) && !touchesShareable s i (decOffset r) (decSpan r)
  if kept.any (fun r => !form r) || insts.any overlap || insts.any exposed then (s, .range)
  else if insts.any outside || insts.any grows then (s, .busy)
  else (s1, .ok)

/-- Proxy slots (R196): a valid record names an inter-switch port, and no pair stands twice. -/
def proxyWrite (s : State) (start : Nat) (recs : List Nat) : State × Status :=
  let s1 := plainRecs s 0x6010 2 0 start (recs.map fun r => bits r 31 31 * 2 ^ 31 + bits r 23 18 * 2 ^ 18 + bits r 11 0)
  let rec' (j : Nat) : Nat := rdTbl s1 0x6010 2 0 j 0
  let valid := (List.range 64).filter fun j => bit (rec' j) 31
  let mine := (List.range recs.length).map (· + start)
  if valid.any (fun j => mine.contains j && rd s 0x2000 1 (bits (rec' j) 23 18) != 3)
      || valid.any (fun j => valid.any fun k => decide (j < k) && rec' j == rec' k) then (s, .range)
  else (s1, .ok)

/-- Control records of a small unit, one by one; the chunk is refused as a whole. -/
def controlsWrite (s : State) (u start : Nat) (recs : List Nat) : State × Status :=
  (recs.mapIdx fun i v => (start + i, v)).foldl (fun a e =>
    if a.2 = .ok then (let x := controlWrite a.1 u e.1 e.2; if x.2 = .ok then x else (s, x.2)) else a) (s, .ok)

/-- A chunk of a TABLE object. -/
def tableWrite (s : State) (idx sub q start : Nat) (recs : List Nat) : State × Status :=
  if idx = 0x2320 then routesWrite s q start recs
  else if idx = 0x2330 then vcsWrite s q start recs
  else if idx = 0x3200 then limitsWrite s q start recs
  else if idx = 0x3210 then pathTableWrite s q start recs
  else if idx = 0x4120 then dcWrite s start recs
  else if idx = 0x4200 then regionsCommand s q start recs
  else if idx = 0x5020 then (if instExists s q then decodersWrite s q start recs else (s, .absent))
  else if idx = 0x6010 then proxyWrite s start recs
  else if idx = 0x7000 then metersWrite s q start recs
  else if idx = 0x7200 then weightsWrite s q start recs
  else if idx = 0x8000 then bindingsWrite s q start recs
  else if idx = 0xB000 then controlsWrite s q start recs
  else (plainRecs s idx sub q start recs, .ok)

/-- A chunk of a BLOB object. -/
def blobWrite (s : State) (idx q start : Nat) (data : List Byte) : State × Status :=
  if idx = 0x1211 then ({ s with mode := { s.mode with staging := spliced s.mode.staging data start } }, .ok)
  else if idx = 0x8110 then ({ s with gecko := { s.gecko with staging := spliced s.gecko.staging data start } }, .ok)
  else if idx = 0xD100 then downloadWrite (freeBool s).2 start data (freeBool s).1
  else if idx = 0x7100 then shaperWrite s q (spliced (rdBlob s 0x7100 2 q (zeros 32)) data start)
  else fetModelWrite s q (spliced (objBytes s 0xA000 20 q) data start)

/-- A chunk write's own rules: a count of 0, records beyond the table, or a length that is no whole number of records are
refused (R38). -/
def chunkWrite (s : State) (d : ObjDesc) (q start count : Nat) (data : List Byte) : State × Status :=
  let n := recSize d.idx d.sub
  if count = 0 ∨ recCount d.idx d.sub < start + count then (s, .range)
  else if data.length ≠ count * n then (s, .type)
  else if d.ty = .table then tableWrite s d.idx d.sub q start (recordsOf n data)
  else blobWrite s d.idx q start data

/-! Items, as every transport makes them. -/

/-- One write item (R431): its checks, the object's rules, the change counter, and the skews that it ends (R30). -/
def writeItem (s : State) (r : Requester) (it : Item) : State × Status :=
  match writeChecks s r it with
  | some st => (s, st)
  | none =>
    match descOf it.idx it.sub with
    | none => (s, .absent)
    | some d =>
      let q := canonQual d.idx (itemQual r d it)
      let x := finishWrite d.idx d.sub q (objWrite s r d q it.value)
      (settleViews x.1, x.2)

/-- The start, the count and the data of a chunk item (Table 2-9). -/
def chunkStart (it : Item) : Nat := fieldBe it.value 0 4
def chunkAsked (it : Item) : Nat := fieldBe it.value 4 2
def chunkData (it : Item) : List Byte := it.value.drop 8

/-- The value of a chunk item. -/
def chunkValue (start count : Nat) (data : List Byte) : List Byte := be 4 start ++ be 2 count ++ zeros 2 ++ data

/-- Checks 1 to 7 of R431 on a chunk write: the form of the item's value before its range. (Log 11: DEDUCED.) -/
def chunkForm (s : State) (r : Requester) (it : Item) : Option Status :=
  match reachChecks s r it true with
  | some st => some st
  | none =>
    match descOf it.idx it.sub with
    | none => some .absent
    | some d =>
      if d.acc = .ro then some .readOnly
      else if d.ty ≠ .table ∧ d.ty ≠ .blob then some .type
      else if it.ty ≠ d.ty.code ∨ it.value.length < 8 ∨ (chunkData it).length ≠ chunkAsked it * recSize d.idx d.sub then some .type
      else if chunkAsked it = 0 ∨ recCount d.idx d.sub < chunkStart it + chunkAsked it then some .range
      else none

/-- One chunk write (R38, R431). -/
def writeChunk (s : State) (r : Requester) (it : Item) : State × Status :=
  match chunkForm s r it with
  | some st => (s, st)
  | none =>
    match chunkChecks s r it with
    | some st => (s, st)
    | none =>
      match descOf it.idx it.sub with
      | none => (s, .absent)
      | some d =>
        let q := canonQual d.idx (itemQual r d it)
        let x := finishWrite d.idx d.sub q (chunkWrite s d q (chunkStart it) (chunkAsked it) (chunkData it))
        (settleViews x.1, x.2)

/-- One read item: its status and value. -/
def readItem (s : State) (r : Requester) (it : Item) : Status × List Byte :=
  match readChecks s r it with
  | some st => (st, [])
  | none =>
    match descOf it.idx it.sub with
    | none => (.absent, [])
    | some d => if it.value = [] then (.ok, objRead s d (canonQual d.idx (itemQual r d it))) else (.type, [])

/-- The checks of a chunk read: those of a read, but TYPE for an object that is neither TABLE nor BLOB. -/
def readChunkChecks (s : State) (r : Requester) (it : Item) : Option Status :=
  match reachChecks s r it false with
  | some st => some st
  | none =>
    match descOf it.idx it.sub with
    | none => some .absent
    | some d =>
      if d.acc = .wo then some .writeOnly
      else if d.ty ≠ .table ∧ d.ty ≠ .blob then some .type
      else if typeOk d it.ty false = false then some .type
      else none

/-- The record count of a TABLE, or the length of a BLOB. -/
def chunkTotal (s : State) (d : ObjDesc) (q : Nat) : Nat := if d.ty = .table then tblCount s d.idx d.sub q else (objBytes s d.idx d.sub q).length

/-- A record of a TABLE as the requester sees it: a tenant's view of a sample ring hides what is not its own (R332). -/
def seenRec (s : State) (r : Requester) (idx sub q n : Nat) : List Byte :=
  match r with
  | .tenant i => if idx = 0xB100 ∧ sub = 3 then tenantSample i.val (tblRec s idx sub q n) else tblRec s idx sub q n
  | _ => tblRec s idx sub q n

/-- The records of a chunk read: as many as fit in `room` bytes, then the total count (R38). -/
def readChunk (s : State) (r : Requester) (it : Item) (room : Nat) : Status × List Byte :=
  match readChunkChecks s r it with
  | some st => (st, [])
  | none =>
    match descOf it.idx it.sub with
    | none => (.absent, [])
    | some d =>
      let q := canonQual d.idx (itemQual r d it)
      let n := recSize d.idx d.sub
      let total := chunkTotal s d q
      if it.value.length ≠ 8 then (.type, [])
      else if chunkAsked it = 0 ∨ total < chunkStart it + chunkAsked it then (.range, [])
      else
        let k := min (chunkAsked it) (room / n)
        (.ok, (if d.ty = .table then (List.range k).flatMap fun i => seenRec s r d.idx d.sub q (chunkStart it + i)
          else slice (objBytes s d.idx d.sub q) (chunkStart it) k) ++ be 4 total)

/-- The numbers that describe a range. -/
def VRange.nums : VRange → List Nat
  | .any => [0]
  | .between lo hi => [1, lo, hi]
  | .betweenOr lo hi x => [2, lo, hi, x]
  | .betweenOr2 lo hi x y => [3, lo, hi, x, y]
  | .sBetween lo hi => [4, ofSigned 64 lo, ofSigned 64 hi]
  | .sBetweenOr lo hi x => [5, ofSigned 64 lo, ofSigned 64 hi, x]
  | .oneOf vs => 6 :: vs
  | .mask m => [7, m]
  | .maskNZ m => [8, m]
  | .maskBit0 m => [9, m]

/-- The code of an access kind, in the order of Table 2-2. -/
def Acc.code : Acc → Nat
  | .ro => 0 | .rw => 1 | .wo => 2 | .rwq => 3 | .cmd => 4

/-- One DESCRIBE item: type, access, persistence, default, record size and count, range (Table 2-9); the manual gives no layout. (Log 23: DESIGN CHOICE.) -/
def describeItem (s : State) (r : Requester) (it : Item) : Status × List Byte :=
  match reachChecks s r it false with
  | some st => (st, [])
  | none =>
    match descOf it.idx it.sub with
    | none => (.absent, [])
    | some d =>
      let q := canonQual d.idx (itemQual r d it)
      (.ok, Config.describeForm ([d.ty.code, d.acc.code, b2n d.persist, objDefault d.idx d.sub q, recSize d.idx d.sub,
        if d.ty = .table ∨ d.ty = .blob then chunkTotal s d q else 1] ++ d.range.nums))

/-! The rows of the dictionary. -/

/-- OBJECT_WRITE (R28): a scalar object, records of a table, or a register of the dictionary window (Tables 2-16 and 2-18): the
window's registers and request buffer take the bytes that lie in them, reserved bits excepted; the request buffer and ODW_REQLEN
take nothing while a request is processed, as R41 allows. (Log 25: PRESUMED; log 26: DESIGN CHOICE.) -/
def windowWrite (s : State) (off : Nat) (v : List Byte) : State :=
  if (mgrFn s).isNone ∨ rd s 0x1102 1 0 = 0 then s
  else if s.mgmt.odwBusy ∧ (off / 4 = 3 ∨ 0x1000 ≤ off ∧ off < 0x2000) then freeNext s
  else if off = 0 then
    let n := ofLe (v.take 4)
    { s with mgmt := { s.mgmt with odwVec := bits n 15 8, odwIrqEn := bit n 1, odwEnable := bit n 0 } }
  else if off = 12 then { s with mgmt := { s.mgmt with odwReqLen := ofLe (v.take 4) % 8192 } }
  else if 0x1000 ≤ off ∧ off < 0x2000 then
    { s with mgmt := { s.mgmt with odwReq := (spliced (padTo s.mgmt.odwReq 4096) v (off - 0x1000)).take 4096 } }
  else s

end Sys2Proof.Machine
end

