-- ==== Sys2Proof/Machine/TransOps.lean ====
section
/-!
DEFINITION. The phases of a mode transition (R49 to R52, Tables 3-4, 3-6 and 3-8): applying the patches of an overlay, the change of
roles, the end of a transition, its failure; activation of a configuration image.
-/
namespace Sys2Proof.Machine

open Sys2Proof

/-! Patches. -/

/-- The tile that an object of a kind of qualifier stands on. -/
def qualTile (k : QualKind) (q : Nat) : Option Nat :=
  match k with
  | .tile => some q
  | .port => some (q / 16)
  | .lane => some (laneGroup q / 8)
  | .group => some ((q - 256) / 8)
  | .target => some (tgtHome q)
  | .gate => some (tgtHome q)
  | .hbm => some q
  | .engine => some (q / 256)
  | _ => none

/-- What a BLOB or STR32 object of the configuration holds by default. -/
def blobDefault (idx : Nat) : List Byte :=
  if idx = 0x7100 then zeros 32 else if idx = 0xA000 then be 8 0x03E805DC07D00046 else []

/-- The records in which a TABLE object differs between two configurations: the lowest, and one past the highest. -/
def recSpan (a b : Cfg) (k : Nat) : Option (Nat × Nat) :=
  let rs := ((recDiff a b).filter fun r => r / 4194304 == k).map (· % 4194304)
  match rs with
  | [] => none
  | r :: t => some (t.foldl min r, t.foldl max r + 1)

/-- The value that a configuration gives a scalar object. -/
def cfgValue (c : Cfg) (d : ObjDesc) (k : Nat) : List Byte :=
  if d.ty = .blob ∨ d.ty = .str32 then look (blobDefault d.idx) c.blob k else be d.ty.wire (look (objDefault d.idx d.sub (keyQual k)) c.obj k)

/-- The patch of one object, as the configuration entered gives it: refused by the object's own rules, or by a unit that does not count
as quiesced. (Log 35: DEDUCED.) -/
def patchObject (s : State) (a b : Cfg) (k : Nat) : State × Status :=
  match descOf (keyIdx k) (keySub k) with
  | none => (s, .absent)
  | some d =>
    let q := canonQual d.idx (keyQual k)
    if d.acc = .rwq ∧ unitQuiesced s d.idx q = false then (s, .notQuiesced)
    else if d.idx = 0x2000 ∧ d.sub = 1 then roleIn s (if rd s 0x1200 3 0 = 0 then modeNow s else s.mode.target) q (ofBe (cfgValue b d k))
    else if d.ty = .table then
      match recSpan a b k with
      | none => (s, .ok)
      | some (lo, hi) =>
        let data := (List.range (hi - lo)).flatMap fun i =>
          be (recSize d.idx d.sub) (look (recDefault d.idx d.sub (lo + i)) b.tbl (tkey d.idx d.sub (keyQual k) (lo + i)))
        chunkWrite s d q lo (hi - lo) data
    else objWrite s .vendor d q (cfgValue b d k)

/-- A patch of a unit on a lost tile is skipped and logged (Table 3-8). -/
def patchSkipped (s : State) (k : Nat) : Bool :=
  match descOf (keyIdx k) (keySub k) with
  | none => true
  | some d => match qualTile d.qual (keyQual k) with
    | some t => rd s 0x3000 2 t == 4
    | none => false

/-- An object's address as records carry it (R30). -/
def keyAddress (k : Nat) : Nat := keyIdx k * 2 ^ 32 + keySub k * 2 ^ 16 + keyQual k

/-- CONFIG at Notice on 0x1200, with its record whether or not it merges (R51, R52). (Log 50: DEDUCED.) -/
def configNotice (s : State) (ps : List Nat) : State := raiseEv s 0x1200 12 .notice 0 ps true

/-- The patches of the touched objects, one after another; the key of the first that is refused. (Log 35: DEDUCED.) -/
def patchAll (a b : Cfg) : List Nat → State → State × Option Nat
  | [], s => (s, none)
  | k :: t, s =>
    if patchSkipped s k then patchAll a b t (configNotice s [keyAddress k])
    else
      let x := patchObject s a b k
      if x.2 = .ok ∨ x.2 = .ignored then patchAll a b t (bumpChange x.1 (keyIdx k) (keySub k) (keyQual k)) else (s, some k)

/-! The end of a transition. -/

/-- The requests that the transition held are released in the order they were queued. (Log 45: DEDUCED.) -/
def releaseHeld (s : State) : State :=
  s.mode.held.foldl (fun a h =>
    match h with
    | .mem p hpa m => hostAccess a p hpa m
    | .io p x => ioRequest a p x
    | .pbr p pid x => pbrRequest a p pid x
    | .cache p dst id d2h tag bytes => cacheMessage a p dst id d2h .req tag bytes) { s with mode := { s.mode with held := [] } }

/-- Targets that became candidates while the transition ran start to join (Table 3-8). -/
def lateJoins (s : State) : State :=
  tgtNumbers.foldl (fun a t => if 4 ≤ t ∧ tgtState a t = 1 ∧ rd a 0x4000 1 t = 1 ∧ tgtLinkUp a t = true then startJoin a t else a) s

/-- The mode is entered (on entry to SERVICE soft row repairs are made hard, R157): stable again, the word completed, what was held goes on. -/
def finishMode (s : State) : State :=
  let v := s.mode.target
  let s1 := wr (wr (wr s 0x1200 5 0 (modeNow s)) 0x1200 2 0 v) 0x1200 3 0 0
  let s2 := cmdEnd { s1 with mode := { s1.mode with touched := [], waitPorts := [], creditsHeld := v == 5 }
                             pool := { s1.pool with softRepairs := if v = 5 then 0 else s1.pool.softRepairs } } 0x1200 4 0 2 0
  releaseHeld (lateJoins s2)

/-- The mode that stands goes on. -/
def stableMode (s : State) : State :=
  let s1 := wr s 0x1200 3 0 0
  releaseHeld (lateJoins { s1 with mode := { s1.mode with touched := [], waitPorts := [], creditsHeld := modeNow s == 5 } })

/-- The transition fails: the old mode resumes (R51, R52). (Log 37: DEDUCED.) -/
def failMode (s : State) (reason : Nat) (ps : List Nat) : State := stableMode (configNotice (cmdEnd s 0x1200 4 0 3 reason) ps)

/-- The ports whose acting role the entered mode changes, against the state before the patches. -/
def rolesChanged (before after : State) : List Nat := (List.range 64).filter fun p => actingRole before p != actingRole after p

/-- Resuming (R50): ports of another role give up their link and wait for a partner; the mode is entered once each of their links is in L0
or 100 ms have passed, at once where no role changes. -/
def resumeMode (before s : State) : State :=
  let ps := rolesChanged before (wr s 0x1200 3 0 3)
  let s1 := ps.foldl (fun a p => if linkUp a p then portDown a p 2 false else a) s
  let s2 := wr s1 0x1200 3 0 3
  let s3 := ps.foldl (fun a p =>
    let quiesced := (portGroups a p).any fun g => rd a 0x2140 2 (256 + g) != 0
    wr a 0x2010 2 p (if actingRole a p ≠ 0 ∧ rd a 0x2010 1 p = 1 ∧ quiesced = false then 1 else 0)) s2
  let s4 := { s3 with mode := { s3.mode with waitPorts := ps } }
  if ps = [] then finishMode s4 else s4

/-- The units of the touched set are quiesced: the patches of the overlay are applied; one that is refused reverts them all (R52). (Log 36: DEDUCED.) -/
def applyMode (s : State) : State :=
  let a := runningCfg s (modeNow s)
  let b := runningCfg s s.mode.target
  let x := patchAll a b s.mode.touched (wr s 0x1200 3 0 2)
  match x.2 with
  | some k => failMode s 0x27 [keyAddress k]
  | none => resumeMode s x.1

/-! The drain into SERVICE (Table 3-6). -/

/-- Traffic of CXL.mem and CXL.cache between ports, against that of CXL.io. -/
def memTxn (k : TxnKind) : Bool :=
  match k with
  | .ioNonPosted => false
  | .ioConfig => false
  | .ioPosted => false
  | .ioCompletion => false
  | _ => true

/-- Every tenant request is answered and every move has ended. (Log 46: DEDUCED.) -/
def requestsDone (s : State) : Bool :=
  s.coh.lines.all (fun e => idleLine e.2) && s.coh.full.all (fun e => e.2.isEmpty) && s.coh.rbis.isEmpty && s.coh.blocked.isEmpty
    && s.lit.moves.isEmpty && s.txns.all fun t => !memTxn t.kind

/-- On entry to SERVICE the inter-switch ports act as none (R83): their links go down, and they are disabled. (Log 185: DEDUCED.) -/
def leaveCascade (s : State) : State :=
  ((List.range 64).filter fun p => actingRole s p == 3).foldl (fun a p => wr (if linkUp a p then portDown a p 2 false else a) 0x2010 2 p 0) s

/-- The drain finishes: lines that became idle since it began are called back first; with none left the overlay is applied, dirty lines
are written to memory and the directory is empty. (Log 46: DEDUCED; log 185: DEDUCED.) -/
def drainEnds (s : State) : State :=
  if requestsDone s = false then s
  else if s.coh.lines.any fun e => wayUsed (lineHome s e.1) e.2 then drainLines s
  else
    let s1 := (List.range 4).foldl flushTile s
    let s2 := { s1 with coh := { s1.coh with lines := [] } }
    let x := patchAll (runningCfg s (modeNow s)) (runningCfg s 5) s.mode.touched (wr s2 0x1200 3 0 2)
    match x.2 with
    | some k => failMode s 0x27 [keyAddress k]
    | none => finishMode (leaveCascade x.1)

/-! Activation of a configuration image (R56, Table 3-14). -/

/-- A slot's image as the running configuration: its records and the valid delta of its area; a delta that is there but not valid is
ignored and logged (R57). -/
def takeImage (s : State) (n : Nat) : State :=
  let x := cfgSlot s n
  let img := parseImage x.image
  let d := if n = 2 then none else deltaOf x.delta img.serial
  let s1 := wr (wr (wr s 0x1210 1 0 n) 0x1210 2 0 img.serial) 0x1210 3 0 0
  let s2 := { s1 with mode := { s1.mode with running := some img, runningDelta := d.getD [] } }
  if d.isNone = true ∧ n ≠ 2 ∧ x.delta ≠ [] then raise s2 0x1200 12 .notice [] else s2

/-- Both slots hold valid images of one SERIAL: a Notice with both slot numbers (R56). -/
def tieNotice (s : State) : State := if slotTie s then configNotice s [0, 1] else s

/-- Activate ends: the valid slot of the higher SERIAL is loaded; what it changes for SERVICE is applied, and the device stays there. (Log 38: DEDUCED.) -/
def cfgActivateEnd (s : State) (err : Nat) : State :=
  match bestSlot s with
  | none =>
    let c := imageCheck s (cfgSlot s (otherSlot s)).image
    cmdEnd (raise (wr s 0x1210 3 0 c) 0x1200 12 .notice []) 0x1212 1 0 3 c
  | some n =>
    if err ≠ 0 then cmdEnd s 0x1212 1 0 3 err
    else
      let s1 := tieNotice (takeImage s n)
      let a := runningCfg s 5
      let b := runningCfg s1 5
      let x := patchAll a b (patchKeys a b) (wr s1 0x1200 3 0 2)
      match x.2 with
      | some k => cmdEnd (configNotice s [keyAddress k]) 0x1212 1 0 3 0x27
      | none => cmdEnd (wr x.1 0x1200 3 0 0) 0x1212 1 0 2 0

end Sys2Proof.Machine
end

