-- ==== Sys2Proof/Machine/StartOps.lean ====
section
/-!
DEFINITION. Start-up and reset (R46, R47, R349, R397 to R402, R424, Table 19-4): what NOR, fuses and the AON island keep, the ROM's choice
of firmware, the end of the start-up, the warm resets.
-/
namespace Sys2Proof.Machine

open Sys2Proof

/-! What stands without power. -/

/-- A firmware slot as its bytes show it: empty, downloaded when they are a whole image, else partial. -/
def fwSlotOf (b : List Byte) : FwSlot :=
  { st := if b = [] then 0 else if fieldBe b 0 4 = 0x544C4657 ∧ fwLen b = b.length then 2 else 1, len := b.length, bytes := b }

/-- NOR contents that were written while the device was off (R56). (Log 44: DESIGN CHOICE.) -/
def norWritten (s : State) (n : NorImage) : State :=
  { s with
    mode := { s.mode with cfg0 := { image := n.cfg0, delta := n.delta0 }, cfg1 := { image := n.cfg1, delta := n.delta1 }
                          golden := { image := n.goldenCfg, delta := [] } }
    sec := { s.sec with fwA := fwSlotOf n.fwA, fwB := fwSlotOf n.fwB, goldenFw := n.goldenFw, u0 := n.u0, u1 := n.u1 } }

/-- An Install cut by a loss of power leaves part of its image, and no delta, in the slot that is not active. (Log 44: DESIGN CHOICE.) -/
def cutInstall (s : State) : State :=
  match s.mode.installing with
  | none => s
  | some v => setCfgSlot (freeNext s) (otherSlot s) { image := v.take (Config.freeValue s.free % (v.length + 1)), delta := [] }

/-- What a loss of AON power leaves: NOR, the fuses and what the root of trust keeps; the waiting commands and the model's record stand
outside the device. -/
def unpowered (s0 : State) : State :=
  let s := cutInstall s0
  let z := State.reset
  { z with
    pending := s.pending, out := s.out, free := s.free
    obj := s.obj.filter fun e => e.1 == okey 0xD000 6 0 || e.1 == okey 0xD000 13 0
    clock := { z.clock with powerCycles := s.clock.powerCycles }
    flt := { z.flt with store := s.flt.store, savedSeconds := s.flt.savedSeconds, savedCycles := s.flt.savedCycles }
    mode := { z.mode with cfg0 := s.mode.cfg0, cfg1 := s.mode.cfg1, golden := s.mode.golden }
    sec := { z.sec with u0 := s.sec.u0, u1 := s.sec.u1, fwA := s.sec.fwA, fwB := s.sec.fwB, goldenFw := s.sec.goldenFw
                        counter := s.sec.counter, revoked := s.sec.revoked, cfgKeys := s.sec.cfgKeys, creds := s.sec.creds } }

/-! The ROM's choice of firmware (R400). -/

/-- The firmware of a slot runs. -/
def runFirmware (s : State) (n : Nat) : State := wr { s with sec := { s.sec with running := n, stage := 2 } } 0x1200 8 0 0

/-- The golden firmware runs: RECOVERY, with its reason. -/
def goldenRuns (s : State) (reason : Nat) : State := wr { s with sec := { s.sec with running := 2, stage := 2 } } 0x1200 8 0 reason

/-- ACTIVE, else the other slot, else RECOVERY. -/
def runActive (s : State) : State :=
  let a := activeSlot s
  if fwValid s a then runFirmware s a else if fwValid s (1 - a) then runFirmware s (1 - a) else goldenRuns s 2

/-- The trial ends in the record: TRIAL none. (Log 159: DEDUCED.) -/
def closeTrial (s : State) : State :=
  bump (writeRecord s (recordNow s).active.toNat 0xFF (recordNow s).count.toNat) 0xD100 4 0 32 1

/-- The firmware by the record in force. -/
def chooseFirmware (s : State) : State :=
  let r := recordNow s
  let t := r.trial.toNat
  if t ≠ 0xFF ∧ r.count.toNat < 3 then
    let s1 := writeRecord s r.active.toNat t (r.count.toNat + 1)
    if t < 2 ∧ fwValid s1 t = true then runFirmware s1 t else runActive (closeTrial s1)
  else if t ≠ 0xFF ∧ r.count.toNat = 3 then
    let s1 := raise (closeTrial s) 0xD100 23 .fault []
    if fwValid s1 (activeSlot s1) then runFirmware s1 (activeSlot s1) else goldenRuns s1 4
  else runActive s

/-- A slot that was verified reads downloaded after a start; a partial one waits for a new Begin (Table 19-6). (Log 163: DEDUCED.) -/
def restartSlot (x : FwSlot) : FwSlot := if x.st = 3 then { x with st := 2 } else if x.st = 1 then { x with len := 0 } else x

/-- A start of the Headland die: the self-test of ROM entry, the strap, the records. (Log 1: DESIGN CHOICE.) -/
def romStart (s : State) : State :=
  if s.sec.corePasses = false ∧ s.sec.otherPasses = false then { s with sec := { s.sec with stage := 4 } }
  else
    let strapped := decide (s.sec.straps = 1) && !s.mode.ignoreBootsel
    let s1 := { s with
      sec := { s.sec with fwA := restartSlot s.sec.fwA, fwB := restartSlot s.sec.fwB }
      mode := { s.mode with ignoreBootsel := false } }
    let s2 := wr s1 0xD100 3 0 (recordNow s1).count.toNat
    if s.sec.corePasses = false ∨ s.sec.otherPasses = false then goldenRuns s2 5
    else if strapped then goldenRuns s2 1
    else chooseFirmware s2

/-! Power-up (R349, R350, R424). -/

/-- Every domain of a tile that Table 17-1 has. -/
def tileDomains : List Nat := (List.range 128).filter fun d => domKind d != .absent

/-- The sources of blocks whose domains are not ON are unreachable (R343). -/
def darkSources (s : State) : State :=
  let l := tileDomains.flatMap (domSources s)
  { s with flt := { s.flt with sources := l.foldl (fun a x => put a x { look sourceInit a x with unreachable := true }) s.flt.sources } }

/-- The first SEQ after a power-up: the highest found in NOR plus 1,025, from 1 and around 0xFFFF_FFFF. (Log 164: DEDUCED.) -/
def firstSeq (s : State) : Nat :=
  let high := match s.flt.store.getLast? with | some r => r.seq | none => 0
  (high + 1024) % (2 ^ 32 - 1) + 1

/-- VDD_HLD is in range and TEST_N high: the Headland die leaves reset. -/
def releaseHeadland (s : State) : State := if s.pwr.testMode = false ∧ s.pwr.hldOk = true then romStart s else s

/-- PWROK_AON rises. (Log 1: DESIGN CHOICE; log 164: DEDUCED.) -/
def powerUp (s0 : State) (b : PowerUp) : State :=
  let s1 := unpowered s0
  let s2 := match b.nor with | some n => norWritten s1 n | none => s1
  let cyc := s2.clock.powerCycles + 1
  let s3 := { s2 with
    clock := { core := 0, secBase := s2.flt.savedSeconds + 60, powerCycles := cyc }
    flt := { s2.flt with nextSeq := firstSeq s2, scanning := true, savedCycles := cyc }
    pwr := { s2.pwr with aonOk := true, hldOk := b.hldInRange, testMode := !b.testN }
    sec := { s2.sec with stage := if b.testN then 1 else 0, kind := 0, straps := b.bootsel.val, corePasses := b.corePasses
                         otherPasses := b.otherPasses } }
  releaseHeadland (darkSources s3)

/-! The end of the start-up (R47, R401, Table 19-4). -/

/-- A configuration's values over the objects. -/
def loadCfg (s : State) (c : Cfg) : State :=
  { s with obj := c.obj.foldl (fun a e => put a e.1 e.2) s.obj, blob := c.blob.foldl (fun a e => put a e.1 e.2) s.blob
           tbl := c.tbl.foldl (fun a e => put a e.1 e.2) s.tbl }

/-- The qualifiers under which a configuration holds an object, and the values. -/
def cfgQuals (c : Cfg) (idx sub : Nat) : List (Nat × Nat) := (c.obj.filter fun e => e.1 / 65536 == idx * 256 + sub).map fun e => (e.1 % 65536, e.2)

/-- State that follows from configured values: regions counted, contexts bound, engines out of service, limits in force, boot-time values. -/
def settleCfg (s : State) (c : Cfg) : State :=
  let gates := (c.tbl.filter fun e => e.1 / 4194304 / 65536 == 0x420001).map (fun e => e.1 / 4194304 % 65536) |>.eraseDups
  let s1 := gates.foldl (fun a g => wr a 0x4200 3 g ((List.range 64).filter fun n => regValid (regionRec a g n)).length) s
  let ctxs := (c.tbl.filter fun e => e.1 / 4194304 / 65536 == 0x800007).map fun e => e.1 / 4194304 % 65536 * 128 + e.1 % 4194304
  let s2 := ctxs.foldl (fun a x => rebind a x (bindRec a x)) s1
  let insts := ((ctxs.filter fun x => bindKind (bindRec s2 x) == 1).map fun x => bindInst (bindRec s2 x)).eraseDups
  let s3 := insts.foldl countBound s2
  let s4 := (cfgQuals c 0x8000 1).foldl (fun a e => if e.2 = 0 then wr a 0x8000 2 e.1 0 else a) s3
  let s5 := (List.range 4).foldl (fun a t => (List.range 32).foldl (fun b r => applyLimits b t r) a) s4
  let s6 := (List.range 4).foldl (fun a t => wr a 0x9210 1 t (railWant a t)) s5
  { s6 with pool := { s6.pool with limitAtBoot := rd s6 0x4010 1 0, sharesAtBoot := rd s6 0x4300 1 0 }
            sec := { s6.sec with budgetAtBoot := rd s6 0x5210 1 0 } }

/-- A slot whose image is there but fails a check is reported, with the code of the check. -/
def slotReport (s : State) (n : Nat) : State :=
  let c := imageCheck s (cfgSlot s n).image
  if (cfgSlot s n).image = [] ∨ c = 0 then s else raise (wr s 0x1210 3 0 c) 0x1200 12 .notice []

/-- What remains of an HBM stack (R16): 48 GiB less the directory backing, its part of the tag store (R168), of the translation and remap
region (R143, Table 7-7) and of the dirty-log budget. -/
def hbmRemainder (s : State) (t : Nat) : Nat :=
  let tables := (if t = 0 ∨ t = 2 then 200 * 2 ^ 20 else 0) + ceilDiv (tagBytes s t * 65536 / 2097152 * 8) (2 ^ 20) * 2 ^ 20
  48 * 2 ^ 30 - (2 ^ 30 + tagBytes s t + tables + s.sec.budgetAtBoot * 2 ^ 30 / 4)

/-- HBM stacks read what remains of them; HBM targets in the pool wait for their tiles; those out of it are absent. (Log 72: DESIGN CHOICE.) -/
def startTargets (s : State) : State :=
  (List.range 4).foldl (fun a t =>
    let b := wr a 0x4000 7 t (hbmRemainder a t)
    if rd b 0x4000 1 t = 1 then wr b 0x4000 2 t 2 else b) s

/-- Tile cores leave OFF where PWROK_T is high, in RECOVERY that of the manager's USP alone. -/
def startCores (s : State) : State :=
  (List.range 4).foldl (fun a t =>
    if domNow a (coreDom t) = 2 ∧ domTarget a (coreDom t) = 0 ∧ a.pwr.pwrokT.contains t = true ∧ mayPower a t = true then startWake a (coreDom t) false
    else if domNow a (coreDom t) = 0 ∧ rd a 0x3000 2 t = 1 ∧ rd a 0x3000 1 t = 1 ∧ mayPower a t = true then wr a 0x3000 2 t 2
    else a) s

/-- In RECOVERY the tiles without the manager's USP are OFF (R46). (Log 161: DEDUCED.) -/
def recoveryTiles (s : State) : State :=
  if modeNow s ≠ 6 then s
  else
    let out := (List.range 4).filter fun t => !mayPower s t && domNow s (coreDom t) != 2
    out.foldl (fun a t =>
      holdTileSources ((coreDom t :: childDoms t).foldl (fun b d => wr b 0x9000 2 d 2) (wr (wipeTile a t) 0x3000 2 t 0)) t) s

/-- Slots whose target is 1 start, in ascending order (R384); under BOOTSEL 0b10 none does until the manager writes a target. (Log 49: DEDUCED.) -/
def startSlots (s : State) : State :=
  if s.sec.straps = 2 then (List.range 16).foldl (fun a n => if slotNow a n = 0 then wr a 0xA000 1 n 0 else a) s
  else (List.range 16).foldl (fun a n => if slotNow a n = 0 then tryStart a n else a) s

/-- An object of a slot that a configuration sets. (Log 49: DEDUCED.) -/
def slotConfigured (k : Nat) : Bool :=
  k / 16777216 == 0xA000 && (match descOf 0xA000 (k / 65536 % 256) with | some d => d.persist | none => false)

/-- The slots' objects of the configuration before it are forgotten. -/
def dropConfigured (s : State) : State :=
  { s with obj := s.obj.filter (fun e => !slotConfigured e.1), blob := s.blob.filter (fun e => !slotConfigured e.1) }

/-- The configuration is chosen and loaded and its mode entered: the valid slot of the higher SERIAL, else the golden configuration; RECOVERY
when golden firmware runs or no slot is valid. (Log 182: DESIGN CHOICE.) -/
def enterConfig (s0 : State) : State :=
  let s := slotReport (slotReport (dropConfigured s0) 0) 1
  let best := bestSlot s
  let n := best.getD 2
  let s1 := if best.isNone ∧ s.sec.running ≠ 2 then wr { s with sec := { s.sec with running := 2 } } 0x1200 8 0 3 else s
  let v := if rd s1 0x1200 8 0 ≠ 0 then 6 else imgMode (cfgSlot s1 n).image
  let was := rd s1 0x1210 3 0
  let s2 := wr (takeImage s1 n) 0x1210 3 0 was
  let c := runningCfg s2 v
  let s3 := loadCfg s2 c
  let s4 := wr (wr s3 0x1200 1 0 (look (imgMode (cfgSlot s1 n).image) c.obj (okey 0x1200 1 0))) 0x1200 2 0 v
  startTargets (settleCfg { s4 with mode := { s4.mode with creditsHeld := decide (5 ≤ v) } } c)

/-- Records 0x0001, 0x0003 and 0x0006 of a power-up (Table 16-7); the manual gives no code for a reset cause of record 0x0001. (Log 124: DESIGN CHOICE.) -/
def powerRecords (s : State) : State :=
  let first := s.flt.nextSeq
  let lost (k : Nat) : Nat := (first + (2 ^ 32 - 2) - k) % (2 ^ 32 - 1) + 1
  let s1 := record (freeNext s) .info 0x0001 0x1000 [0, freeBits s 64, s.sec.running, rd s 0x1210 1 0, modeNow s, rd s 0x1200 8 0]
  let s2 := record (bump s1 0xC100 8 0 32 1) .notice 0x0003 0xC100 [0, lost 1024, lost 1, 0, 0, 0]
  record s2 .info 0x0006 0x1000 [0, s.flt.savedSeconds, s.clock.secBase, 0, 0, 0]

/-- The reserved strap is recorded (R400): the manual gives the record no event number. (Log 48: DESIGN CHOICE.) -/
def strapRecord (s : State) : State :=
  if s.sec.straps = 3 then record (freeNext s) .notice (freeBits s 16) 0x1000 [0, 3, 0, 0, 0, 0] else s

/-- The start-up of a cold start or a device warm reset ends (t3). -/
def bootDevice (s : State) : State :=
  let tie := slotTie s
  let s1 := enterConfig s
  let s2 := { s1 with sec := { s1.sec with stage := 3 } }
  let s3 := if s.sec.kind = 0 then powerRecords s2 else record s2 .info 0x0002 0x1000 [0, 1, 0, 0, 0, 0]
  let s4 := strapRecord (if tie then configNotice s3 [0, 1] else s3)
  startSlots (startCores (recoveryTiles s4))

/-- The Headland die alone has restarted: record 0x0002; an interrupted swap of vendor tables is carried through (Table 19-6). -/
def bootHeadland (s : State) : State :=
  let s1 := record { s with sec := { s.sec with stage := 3 } } .info 0x0002 0x1000 [0, 3, 0, 0, 0, 0]
  let s2 := if s1.gecko.swapping = [] then s1 else microChange (endSwap s1) true
  let s3 := if rd s2 0x1200 8 0 = 0 then s2
    else recoveryTiles (wr { s2 with mode := { s2.mode with creditsHeld := true } } 0x1200 2 0 6)
  if s3.sec.straps = 2 then s3 else (List.range 16).foldl tryStart s3

/-- BOOT_COMPLETE. -/
def bootEnds (s : State) : State := if s.sec.stage ≠ 2 then s else if s.sec.kind = 2 then bootHeadland s else bootDevice s

/-! Warm resets (R344, R351, R402, R436). -/

/-- An object that a device warm reset leaves: what the AON island, the root of trust, the slots and the rails hold, the state of the
power domains and of the tiles just reset. -/
def keptObj (k : Nat) : Bool :=
  let idx := k / 16777216
  let sub := k / 65536 % 256
  idx == 0xA000 || (idx == 0xD000 && (sub == 6 || sub == 13)) || (idx == 0xC100 && sub != 6 && sub != 7)
    || (idx == 0x3000 && (sub == 2 || sub == 4 || sub == 5)) || (idx == 0x9000 && sub == 2) || (idx == 0x9101 && (sub == 1 || sub == 3))
    || (idx == 0x9200 && (sub == 3 || sub == 4)) || (idx == 0x9210 && sub == 1)

/-- The objects after a device warm reset; a domain that was entering RET or OFF is ON. -/
def keptObjs (s : State) : SMap Nat :=
  (s.obj.filter fun e => keptObj e.1).map fun e => (e.1, if e.1 / 65536 = 0x900002 ∧ e.2 = 3 then 0 else e.2)

/-- What a device warm reset leaves of a state whose tiles are reset. (Log 162: DEDUCED.) -/
def deviceCleared (s : State) : State :=
  { State.reset with
    pending := s.pending, out := s.out, free := s.free, clock := s.clock, flt := s.flt, slots := s.slots, mem := s.mem
    obj := keptObjs s
    ports := mapVals s.ports fun _ x => { portInit with presence := x.presence }
    blob := s.blob.filter fun e => e.1 / 16777216 == 0xA000
    mode := { ModeSt.reset with cfg0 := s.mode.cfg0, cfg1 := s.mode.cfg1, golden := s.mode.golden, ignoreBootsel := s.mode.ignoreBootsel }
    pwr := { PwrSt.reset with pwrokT := s.pwr.pwrokT, aonOk := s.pwr.aonOk, hldOk := s.pwr.hldOk, testMode := s.pwr.testMode
                              tripped := s.pwr.tripped, thermal := s.pwr.thermal, rails := s.pwr.rails
                              doms := mapVals s.pwr.doms fun _ x => { x with entry := none } }
    sec := { SecSt.reset with u0 := s.sec.u0, u1 := s.sec.u1, fwA := s.sec.fwA, fwB := s.sec.fwB, goldenFw := s.sec.goldenFw
                              counter := s.sec.counter, revoked := s.sec.revoked, cfgKeys := s.sec.cfgKeys, creds := s.sec.creds
                              kind := 1, straps := s.sec.straps, corePasses := s.sec.corePasses, otherPasses := s.sec.otherPasses } }

/-- A device warm reset (R402): every tile is reset, held fault copies, the ring, the clock and the slots survive, and the start-up runs
again from the ROM. (Log 162: DEDUCED.) -/
def deviceReset (s : State) : State :=
  romStart (deviceCleared ((List.range 4).foldl
    (fun a t => if rd a 0x3000 2 t = 2 ∨ rd a 0x3000 2 t = 3 then tileReset a t 5 1 else a) (cutInstall s)))

/-- A reset that a reply has promised starts (Table 3-15). -/
def promisedReset (s : State) : State := if cmdRunning s 0x1201 1 0 then deviceReset s else s

/-- Objects of the Headland die: those of management, modes and images start afresh, but for the mode itself and P objects. -/
def headlandObj (k : Nat) : Bool :=
  let idx := k / 16777216
  let sub := k / 65536 % 256
  match descOf idx sub with
  | none => false
  | some d => !d.persist && (decide (idx < 0x1200) || (decide (idx < 0x1300) && !(idx == 0x1200 && (sub == 2 || sub == 5)) && idx != 0x1210)
      || idx == 0xE000 || idx == 0xE010 || (idx == 0xD100 && sub != 3 && sub != 4 && sub != 10) || (idx == 0xC100 && (sub == 6 || sub == 7)))

/-- What a restart of the Headland die leaves: the sessions and the window's contents end. (Log 160: DEDUCED.) -/
def headlandCleared (s : State) : State :=
  let s1 := { s with
    obj := s.obj.filter fun e => !headlandObj e.1
    blob := s.blob.filter fun e => !headlandObj e.1
    mgmt := { Mgmt.reset with skewed := s.mgmt.skewed }
    sec := { s.sec with kind := 2, test := none } }
  { s1 with mode := { s1.mode with staging := [], installing := none } }

/-- The Headland die alone restarts (R344): a running transition ends in the mode that stands, and the ROM chooses the firmware; RECOVERY,
which only a reset of the device leaves, keeps the golden one (R46, R50). (Log 160: DEDUCED.) -/
def headlandReset (s : State) : State :=
  if s.sec.stage ≠ 2 ∧ s.sec.stage ≠ 3 then s
  else
    let sr := (List.range 4).foldl (fun a t => resetSide a t [33, 34]) s
    let s1 := if rd s 0x1200 3 0 = 0 then sr else stableMode sr
    let s0 := romStart (headlandCleared (cutInstall s1))
    let s2 := if modeNow s = 6 ∧ s0.sec.running ≠ 2 then goldenRuns s0 (rd s 0x1200 8 0) else s0
    if s2.sec.running = s1.sec.running ∨ s2.sec.running = 2 then s2 else microChange s2 s2.sec.trialMicrocode

/-! Pins. -/

/-- PWROK_AON falls (R424): every tile is forced OFF, every slot gate low; what is staged is lost. (Log 79: DEDUCED.) -/
def powerFails (s : State) : State := if s.pwr.aonOk then unpowered s else s

/-- PERST_N of a group (R93, R402): the links of its ports go down; the ports wait for a partner again. (Log 64: DEDUCED.) -/
def perstGroup (s : State) (g : Nat) : State :=
  let s1 := (domPorts s g).foldl (fun a p =>
    let b := portDown a p 6 false
    if rd b 0x2010 1 p = 1 ∧ actingRole b p ≠ 0 ∧ (portGroups b p).all (fun h => rd b 0x2140 2 (256 + h) == 0) = true then wr b 0x2010 2 p 1 else b) s
  let s1 := resetSide s1 (g / 8) (groupCrossings g)
  let s2 := if recording s1 then record s1 .info 0x0002 0x1000 [0, 2, 0, 0, 0, 0] else s1
  hldWake (wakeSource s2 (groupDom g) .perstRise) .perstRise

end Sys2Proof.Machine
end

