-- ==== Sys2Proof/Machine/OdpOps.lean ====
section
/-!
DEFINITION. The Object Dictionary Protocol (R33 to R37, R431, R432, R434): messages, items, sessions and replies, over UDP and MCTP, in the
dictionary window and in the tenant mailbox.
-/
namespace Sys2Proof.Machine

open Sys2Proof

/-! Messages (Tables 2-8 to 2-10). -/

/-- An item of a body: its header and value (Table 2-10). -/
structure WireItem where
  idx : Nat
  sub : Nat
  iflags : Nat
  q : Nat
  ty : Nat
  change : Nat
  value : List Byte
  deriving DecidableEq, Repr

/-- The items of a body: none when it is not exactly so many. (Log 13: DEDUCED.) -/
def parseItems : Nat → List Byte → Option (List WireItem)
  | 0, b => if b = [] then some [] else none
  | n + 1, b =>
    let len := fieldBe b 8 2
    let size := 12 + ceilDiv len 4 * 4
    if b.length < 12 ∨ b.length < size then none
    else match parseItems n (b.drop size) with
      | none => none
      | some t =>
        some ({ idx := fieldBe b 0 2, sub := fieldBe b 2 1, iflags := fieldBe b 3 1, q := fieldBe b 4 2, ty := fieldBe b 6 1
                change := fieldBe b 10 2, value := slice b 12 len } :: t)

/-- An opcode whose body is items. -/
def itemOp (op : Nat) : Bool := op == 0x10 || op == 0x11 || op == 0x12 || op == 0x13 || op == 0x20

/-- The body has the form of Table 2-9. (Log 12: DEDUCED.) -/
def bodyOk (m : OdpMsg) : Bool :=
  let op := m.opcode.toNat
  if itemOp op then
    (parseItems m.items.toNat m.body).isSome && !((op == 0x12 || op == 0x13) && m.items != 1)
  else if op = 0x02 then m.body.length == 36
  else if op = 0x30 then m.body.length == 4
  else if op = 0x01 ∨ op = 0x03 ∨ op = 0x3F then m.body == []
  else true

/-- A message that is not discarded for its form (R33, R35): MAGIC, lengths, the room of its path, a tag of so many bytes. (Log 12: DEDUCED; log 13: DEDUCED.) -/
def formOk (m : OdpMsg) (limit tag : Nat) : Bool :=
  m.magic == 0x4F44 && m.bodyLen.toNat == m.body.length && m.body.length % 4 == 0 && decide (24 + m.body.length + m.tag.length ≤ limit)
    && m.tag.length == tag && bodyOk m

/-- A discarded message is counted (0x1100:09). -/
def discard (s : State) : State := bump s 0x1100 9 0 32 1

/-- A reply: the request's header with RSP set, a status, and a body. (Log 16: DEDUCED.) -/
def replyTo (m : OdpMsg) (version : Nat) (st : Nat) (session : BitVec 32) (items : Nat) (body : List Byte) : OdpMsg :=
  { m with version := BitVec.ofNat 8 version, flags := 1, status := BitVec.ofNat 16 st, session := session, items := BitVec.ofNat 16 items
           bodyLen := BitVec.ofNat 16 body.length, reserved := 0, body := body, tag := [] }

/-- A reply under a session's key. -/
def tagged (key : List Byte) (m : OdpMsg) : OdpMsg := { m with tag := odpTag key (odpBytes m) }

/-- A reply for which the device holds no key (R36). -/
def untagged (m : OdpMsg) : OdpMsg := { m with tag := zeros 16 }

/-- HELLO (Sessions): the highest common version; an offer of 0 is answered VERSION, with 3. -/
def helloReply (m : OdpMsg) : OdpMsg :=
  if m.version = 0 then replyTo m 3 (Status.code .version) 0 0 []
  else replyTo m (min m.version.toNat 3) 0 0 0 []

/-! Requests of items (R34, R431, R432). -/

/-- The version from which an opcode that a session may use exists; none for the others. -/
def opFrom (op : Nat) : Option Nat :=
  if op = 0x03 ∨ op = 0x10 ∨ op = 0x11 ∨ op = 0x20 ∨ op = 0x3F then some 1
  else if op = 0x12 ∨ op = 0x13 then some 2
  else if op = 0x30 then some 3
  else none

/-- STATUS VERSION: the version field, the opcode, the item count of version 1, a COND item before version 3. (Log 178: DEDUCED.) -/
def versionBad (m : OdpMsg) (ver : Nat) : Bool :=
  m.version.toNat != ver
    || (match opFrom m.opcode.toNat with | some v => decide (ver < v) | none => true)
    || (itemOp m.opcode.toNat
        && ((ver == 1 && m.items != 1) || (decide (ver < 3) && ((parseItems m.items.toNat m.body).getD []).any fun w => bit w.iflags 1)))

/-- An item as the dictionary takes it; a qualifier that QUAL does not announce is 0. (Log 179: DEDUCED.) -/
def WireItem.item (w : WireItem) : Item :=
  { idx := w.idx, sub := w.sub, qual := bit w.iflags 0, q := if bit w.iflags 0 then w.q else 0, ty := w.ty, value := w.value
    cond := if bit w.iflags 1 then some w.change else none }

/-- The object instance of an item, as its change counter is kept. (Log 15: DEDUCED.) -/
def itemChange (s : State) (r : Requester) (w : WireItem) : Nat :=
  match descOf w.idx w.sub with
  | none => 0
  | some d => changeOf s w.idx w.sub (canonQual d.idx (itemQual r d w.item))

/-- An item of a reply: its type is the one the request named and, for a value read under any type (0x00), the object's; its change counter
stands in version 3, and reads 0 for an object that is answered ABSENT. (Log 15: DEDUCED.) -/
def replyItem (s : State) (r : Requester) (ver : Nat) (w : WireItem) (st : Status) (v : List Byte) : List Byte :=
  let ty := if st ≠ .ok ∨ w.ty ≠ 0 then w.ty else match descOf w.idx w.sub with | some d => d.ty.code | none => w.ty
  let change := if st = .absent ∨ ver < 3 then 0 else itemChange s r w
  be 2 w.idx ++ be 1 w.sub ++ be 1 w.iflags ++ be 2 w.q ++ be 1 ty ++ be 1 st.code ++ be 2 v.length ++ be 2 change ++ pad4 v

/-- What a request of items is answered: the status, the number of items and the body. -/
structure Answer where
  status : Nat
  items : Nat
  body : List Byte
  deriving DecidableEq, Repr

/-- The body of a request that writes: one item after another. -/
def writeItems (r : Requester) (ver : Nat) (chunk : Bool) : List WireItem → State → State × List Byte
  | [], s => (s, [])
  | w :: t, s =>
    let x := if chunk then writeChunk s r w.item else writeItem s r w.item
    let y := writeItems r ver chunk t x.1
    (y.1, replyItem x.1 r ver w x.2 [] ++ y.2)

/-- The status and value of an item that reads. (Log 11: DEDUCED.) -/
def readOne (s : State) (r : Requester) (op room : Nat) (w : WireItem) : Status × List Byte :=
  if op = 0x10 then readItem s r w.item
  else if op = 0x12 then readChunk s r w.item (room - 16)
  else describeItem s r w.item

/-- A request of items: TOO_LARGE is settled before any item is applied; `room` is what the path leaves for the body. -/
def serveItems (s : State) (r : Requester) (ver room : Nat) (m : OdpMsg) : State × Answer :=
  let ws := (parseItems m.items.toNat m.body).getD []
  let op := m.opcode.toNat
  if op = 0x11 ∨ op = 0x13 then
    if room < 12 * ws.length then (s, { status := Status.code .tooLarge, items := 0, body := [] })
    else
      let x := writeItems r ver (op == 0x13) ws s
      (x.1, { status := 0, items := ws.length, body := x.2 })
  else
    let body := ws.flatMap fun w =>
      let x := readOne s r op room w
      replyItem s r ver w x.1 x.2
    if room < body.length then (s, { status := Status.code .tooLarge, items := 0, body := [] })
    else (s, { status := 0, items := ws.length, body := body })

/-! Sessions (R36, R37). -/

/-- The transport takes messages: it is on, and UDP has an address. -/
def transportOpen (s : State) (t : Transport) : Bool :=
  s.mgmt.ready && match t with
    | .udp => rd s 0x1100 1 0 == 1 && !(rd s 0x1100 3 0 == 0 && rd s 0x1100 4 0 == 0)
    | .mctp => rd s 0x1101 1 0 == 1

/-- The message limit of a transport (R33, R39). -/
def msgLimit (t : Transport) : Nat :=
  match t with
  | .udp => 1472
  | .mctp => 1024

/-- The session limit of a transport. -/
def sessionLimit (s : State) (t : Transport) : Nat :=
  match t with
  | .udp => rd s 0x1100 7 0
  | .mctp => rd s 0x1101 5 0

/-- The privilege of a level number of OPEN. (Log 27: DESIGN CHOICE.) -/
def levelOf (n : Nat) : Requester := if n = 0 then .vendor else if n = 1 then .manager else .operator

/-- The first status that refuses an OPEN (R36). -/
def openRefusal (s : State) (t : Transport) (m : OdpMsg) : Option Status :=
  let level := fieldBe m.body 0 1
  if m.version.toNat < 1 ∨ 3 < m.version.toNat then some .version
  else if 3 ≤ level then some .range
  else if (level = 0 ∧ rd s 0xD000 1 0 = 0) ∨ (credential s level).isNone then some .denied
  else if sessionLimit s t ≤ (s.mgmt.sessions.filter fun x => x.transport == t).length then some .limit
  else none

/-- A session number: a free value, but neither 0 nor that of an open session. (Log 18: DESIGN CHOICE.) -/
def freshSession (s : State) : Nat :=
  let x := freeBits s 32
  ((List.range (s.mgmt.sessions.length + 2)).map fun k => (x + k) % 2 ^ 32).find? (fun n => n != 0 && !(s.mgmt.sessions.map (·.id)).contains n)
    |>.getD 0

/-- OPEN. -/
def openSession (s : State) (t : Transport) (m : OdpMsg) : State :=
  match openRefusal s t m with
  | some st => sendOdp s t (untagged (replyTo m m.version.toNat st.code 0 0 []))
  | none =>
    let level := fieldBe m.body 0 1
    let id := freshSession s
    let nonce := padTo (Config.nonceBytes (s.free + 1)) 32
    let key := Config.hkdfSha384 ((credential s level).getD []) (slice m.body 4 32 ++ nonce)
    let x : Session :=
      { id := id, transport := t, level := levelOf level, version := m.version.toNat, key := key, proved := false, high := 0, replies := []
        sub := none, lastValid := secondsNow s }
    let s1 := freeNext (freeNext { s with mgmt := { s.mgmt with sessions := x :: s.mgmt.sessions } })
    sendOdp s1 t (tagged key (replyTo m m.version.toNat 0 (BitVec.ofNat 32 id) 0 nonce))

/-- A session is forgotten. -/
def dropSession (s : State) (id : Nat) : State :=
  { s with mgmt := { s.mgmt with sessions := s.mgmt.sessions.filter fun x => x.id != id } }

/-- A session changes. -/
def setSession (s : State) (id : Nat) (f : Session → Session) : State :=
  { s with mgmt := { s.mgmt with sessions := s.mgmt.sessions.map fun x => if x.id = id then f x else x } }

/-- A sequence number lies ahead of H by 1 to 2^31 - 1. -/
def ahead (n high : Nat) : Bool := decide (1 ≤ (n + 2 ^ 32 - high) % 2 ^ 32 ∧ (n + 2 ^ 32 - high) % 2 ^ 32 ≤ 2 ^ 31 - 1)

/-- SUBSCRIBE: 0xFF ends it. -/
def subscribed (v : Nat) : Option Nat := if v = 0xFF then none else some v

/-- What a new request of a session does, and its answer. -/
def sessionOp (s : State) (x : Session) (m : OdpMsg) : State × Answer :=
  if versionBad m x.version then (s, { status := Status.code .version, items := 0, body := [] })
  else if m.opcode = 0x03 then (dropSession s x.id, { status := 0, items := 0, body := [] })
  else if m.opcode = 0x30 then
    (setSession s x.id fun y => { y with sub := subscribed (fieldBe m.body 0 1) }, { status := 0, items := 0, body := [] })
  else if m.opcode = 0x3F then (s, { status := 0, items := 0, body := [] })
  else serveItems s x.level x.version (msgLimit x.transport - 40) m

/-- A new request of a session is executed, and its reply kept. (Log 14: DEDUCED.) -/
def runInSession (s : State) (x : Session) (m : OdpMsg) : State :=
  let s1 := setSession s x.id fun y => { y with high := m.sequence.toNat }
  let a := sessionOp s1 x m
  let reply := tagged x.key (replyTo m x.version a.2.status m.session a.2.items a.2.body)
  let s2 := setSession a.1 x.id fun y => { y with replies := ((m.sequence.toNat, reply) :: y.replies).take 32 }
  promisedReset (sendOdp s2 x.transport reply)

/-- A correctly tagged request of a session (R37). (Log 14: DEDUCED.) -/
def inSession (s : State) (x : Session) (m : OdpMsg) : State :=
  let s1 := setSession s x.id fun y => { y with proved := true, lastValid := secondsNow s }
  match x.replies.find? fun e => e.1 == m.sequence.toNat with
  | some e => sendOdp s1 x.transport e.2
  | none =>
    if x.proved = true ∧ ahead m.sequence.toNat x.high = false then
      sendOdp s1 x.transport (tagged x.key (replyTo m x.version (Status.code .stale) m.session 0 []))
    else runInSession s1 x m

/-- The session that a message of a transport names. -/
def sessionOf (s : State) (t : Transport) (m : OdpMsg) : Option Session :=
  s.mgmt.sessions.find? fun x => x.id == m.session.toNat && x.transport == t

/-- A message of ODP arrives. -/
def odpArrives (s : State) (t : Transport) (m : OdpMsg) : State :=
  if formOk m (msgLimit t) (if m.opcode = 0x01 then 0 else 16) = false then discard s
  else if m.opcode = 0x01 then sendOdp s t (helloReply m)
  else if m.opcode = 0x02 then openSession s t m
  else match sessionOf s t m with
    | none => sendOdp s t (untagged (replyTo m m.version.toNat (Status.code .session) 0 0 []))
    | some x =>
      if m.tag ≠ odpTag x.key (odpBytes m) then discard (if x.proved then s else dropSession s x.id)
      else inSession s x m

/-- The wake source of a transport (Table 17-5). -/
def transportWake (t : Transport) : WakeSrc :=
  match t with
  | .udp => .odp
  | .mctp => .mctp

/-- A message of ODP on a transport: no reply before the dictionary answers (R43). (Log 19: DESIGN CHOICE.) -/
def odpRequest (s : State) (t : Transport) (m : OdpMsg) : State :=
  if transportOpen s t then odpArrives (hldWake s (transportWake t)) t m else s

/-! Messages without a session (R41, R434). -/

/-- A message as bytes spell it, without a tag. -/
def msgOfBytes (b : List Byte) : OdpMsg :=
  { magic := BitVec.ofNat 16 (fieldBe b 0 2), version := BitVec.ofNat 8 (fieldBe b 2 1), opcode := BitVec.ofNat 8 (fieldBe b 3 1)
    flags := BitVec.ofNat 16 (fieldBe b 4 2), status := BitVec.ofNat 16 (fieldBe b 6 2), session := BitVec.ofNat 32 (fieldBe b 8 4)
    sequence := BitVec.ofNat 32 (fieldBe b 12 4), items := BitVec.ofNat 16 (fieldBe b 16 2), bodyLen := BitVec.ofNat 16 (fieldBe b 18 2)
    reserved := BitVec.ofNat 32 (fieldBe b 20 4), body := b.drop 24, tag := [] }

/-- A message without a session: its status and reply, or none where R35 discards it. (Log 16: DEDUCED; log 17: DESIGN CHOICE.) -/
def plainRequest (s : State) (r : Requester) (b : List Byte) : State × Option (Nat × List Byte) :=
  let m := msgOfBytes b
  if b.length < 24 ∨ formOk m 4096 0 = false then (discard s, none)
  else if m.opcode = 0x01 then (s, some ((helloReply m).status.toNat, odpBytes (helloReply m)))
  else if m.version.toNat < 1 ∨ 3 < m.version.toNat ∨ versionBad m m.version.toNat = true ∨ itemOp m.opcode.toNat = false then
    (s, some (Status.code .version, odpBytes (replyTo m m.version.toNat (Status.code .version) m.session 0 [])))
  else
    let a := serveItems s r m.version.toNat 4072 m
    (a.1, some (a.2.status, odpBytes (replyTo m m.version.toNat a.2.status m.session a.2.items a.2.body)))

/-- The window's registers exist: the window is exposed on the manager's port (0x1102). (Log 19: DESIGN CHOICE.) -/
def windowOpen (s : State) : Bool := (mgrFn s).isSome && rd s 0x1102 1 0 == 1

/-- The request in the window is taken (R44), and its reply stands ready: 0xFFFF and no reply where it is discarded. (Log 26: DESIGN CHOICE.) -/
def windowTaken (s : State) : State :=
  let b := padTo s.mgmt.odwReq 4096
  let n := s.mgmt.odwReqLen
  if n < 24 ∨ 4096 < n then
    let m := msgOfBytes (b.take 24)
    let st := Status.code .tooLarge
    { s with mgmt := { s.mgmt with odwReply := some (st, odpBytes (replyTo m m.version.toNat st m.session 0 [])) } }
  else
    let x := plainRequest s .manager (b.take n)
    { x.1 with mgmt := { x.1.mgmt with odwReply := some (x.2.getD (0xFFFF, [])) } }

/-- GO (R41, R43). (Log 17: DESIGN CHOICE; log 26: DESIGN CHOICE.) -/
def windowGo (s : State) : State :=
  if windowOpen s = false ∨ s.mgmt.odwEnable = false then s
  else if s.mgmt.odwBusy then { s with mgmt := { s.mgmt with odwOverrun := true } }
  else
    let s1 := { s with mgmt := { s.mgmt with odwBusy := true, odwReply := none } }
    if s.mgmt.ready then windowTaken s1 else s1

/-- The processing of the window's request ends: reply, LAST_STATUS, DONE and the interrupt. -/
def windowDone (s : State) : State :=
  match s.mgmt.odwReply with
  | none => s
  | some (st, b) =>
    if s.mgmt.odwBusy = false then s
    else
      let s1 := { s with mgmt := { s.mgmt with odwBusy := false, odwDone := true, odwLast := st, odwRspLen := b.length, odwRsp := b
                                               odwReply := none } }
      let s2 := if s.mgmt.odwIrqEn then (match mgrFn s1 with | some k => msixSend s1 k s.mgmt.odwVec | none => s1) else s1
      promisedReset s2

/-- The dictionary begins to answer (R43); a request that waits in the window is taken. -/
def dictionaryReady (s : State) : State :=
  if s.pwr.testMode = true ∨ (s.sec.stage ≠ 2 ∧ s.sec.stage ≠ 3) ∨ s.mgmt.ready = true then s
  else
    let s1 := { s with mgmt := { s.mgmt with ready := true } }
    if s.mgmt.odwBusy = true ∧ s.mgmt.odwReply.isNone = true then windowTaken s1 else s1

end Sys2Proof.Machine
end

