-- ==== Sys2Proof/Machine/FmOps.lean ====
section
/-!
DEFINITION. The FM API (R40, R102, R316): each command as one request of several items at Manager privilege, and its return code.
-/
namespace Sys2Proof.Machine

open Sys2Proof

/-- The return code of a status (Table 5-13); the numbers are those of the CXL specification. (Log 109: PRESUMED.) -/
def fmCode (st : Status) : Nat :=
  match st with
  | .ok => 0 | .ignored => 0
  | .absent => 2 | .type => 2 | .range => 2
  | .denied => 3 | .readOnly => 3 | .writeOnly => 3 | .version => 3
  | .notQuiesced => 6 | .busy => 6
  | .conflict => 5
  | .tooLarge => 0x16
  | .session => 4 | .stale => 4 | .limit => 4

/-- The path takes FM API commands (0x1103): over MCTP, or over the mailbox of the manager's function. (Log 110: DEDUCED.) -/
def fmOpen (s : State) (via : FmPath) : Bool :=
  match via with
  | .mctp => transportOpen s .mctp && rd s 0x1103 1 0 == 1
  | .cci => s.mgmt.ready && rd s 0x1103 2 0 == 1 && (mgrFn s).isSome

/-- A command on its path; over MCTP it wakes the Headland die. -/
def fmRun (s : State) (via : FmPath) (f : State → State) : State :=
  if fmOpen s via then f (if via = .mctp then hldWake s .mctp else s) else s

/-- The command codes of Table 2-14, as the CXL specification numbers them. -/
def fmOpcode (op : Nat) : Bool :=
  decide (0x5100 ≤ op ∧ op ≤ 0x5103) || decide (0x5200 ≤ op ∧ op ≤ 0x5203) || decide (0x5300 ≤ op ∧ op ≤ 0x5302)
    || decide (0x5400 ≤ op ∧ op ≤ 0x5409) || decide (0x5600 ≤ op ∧ op ≤ 0x5605)

/-- The reply of a command; a failed one carries no output. (Log 109: PRESUMED.) -/
def fmReply (s : State) (via : FmPath) (code : Nat) (payload : List Byte) : State :=
  emit s (.fmApi via code (if code ≤ 1 then payload else []))

/-- The first status of a list that is a failure. -/
def firstFailure (l : List Status) : Status := (l.find? fun st => fmCode st != 0).getD .ok

/-- A plain read item at Manager privilege. -/
def fmItem (idx sub q : Nat) : Item := { idx := idx, sub := sub, qual := true, q := q, ty := 0, value := [], cond := none }

/-- A command that reads objects: their values stand in an output that the CXL specification lays out. -/
def fmReads (s : State) (via : FmPath) (op : Nat) (items : List (Nat × Nat × Nat)) : State :=
  let xs := items.map fun e => readItem s .manager (fmItem e.1 e.2.1 e.2.2)
  fmReply s via (fmCode (firstFailure (xs.map (·.1)))) (Config.fmBytes (op :: xs.map fun x => ofBe x.2))

/-- A command that writes objects, one item after another: the state, and the first failure. (Log 174: DESIGN CHOICE.) -/
def fmWrites (s : State) (items : List (Nat × Nat × Nat × List Byte)) : State × Status :=
  let x := items.foldl (fun (a : State × List Status) e =>
    let y := writeItem a.1 .manager (rowItem e.1 e.2.1 e.2.2.1 e.2.2.2)
    (y.1, a.2 ++ [y.2])) (s, [])
  (x.1, firstFailure x.2)

/-- A command that writes records of a table. -/
def fmChunk (s : State) (idx sub q start : Nat) (data : List Byte) : State × Status :=
  writeChunk s .manager (rowItem idx sub q (chunkValue start (data.length / max 1 (recSize idx sub)) data))

/-! Ports. -/

/-- The ports of the configuration. -/
def configPorts (s : State) : List Nat := (List.range 64).filter fun p => portExists s p

/-- Physical Port Control: the manual maps it to the port's objects; PERST is held by disabling the link, a reset of the bridge takes the link
down by a hot reset. (Log 111: PRESUMED.) -/
def portControl (s : State) (p : Nat) (op : PortOp) : State × Status :=
  match op with
  | .assertPerst => fmWrites s [(0x2010, 1, p, [0])]
  | .deassertPerst => fmWrites s [(0x2010, 1, p, [1])]
  | .resetPpb =>
    let x := readItem s .manager (fmItem 0x2000 1 p)
    if x.1 = .ok then (if linkUp s p then portDown s p 7 false else s, .ok) else (s, x.1)

/-- A word with the bytes that the enables name replaced. -/
def mergeDword (old new be : Nat) : Nat :=
  (List.range 4).foldl (fun a i => a + (if be.testBit i then bits new (8 * i + 7) (8 * i) else bits old (8 * i + 7) (8 * i)) * 2 ^ (8 * i)) 0

/-- A configuration request to the bridge of a port. (Log 65: DESIGN CHOICE.) -/
def ppbRequest (s : State) (via : FmPath) (p : Nat) (x : CfgReq) : State :=
  let st := (readItem s .manager (fmItem 0x2000 1 p)).1
  if st ≠ .ok then fmReply s via (fmCode st) []
  else
    let old := ppbRead s p x.reg.toNat
    match x.write with
    | none => fmReply s via 0 (le 4 (mergeDword 0 old x.be.toNat))
    | some w =>
      fmReply (ppbWrite s p x.reg.toNat (mergeDword old w.toNat x.be.toNat)) via 0 []

/-! Virtual switches. -/

/-- The records of a table, at Manager privilege. -/
def fmTable (s : State) (via : FmPath) (op idx sub q start count : Nat) : State :=
  let it : Item := { fmItem idx sub q with value := chunkValue start count [] }
  let x := readChunk s .manager it 4096
  fmReply s via (fmCode x.1) (Config.fmBytes (op :: (recordsOf (recSize idx sub) (x.2.take (x.2.length - 4)))))

/-- A binding record (Table 5-12). (Log 112: DEDUCED.) -/
def bindingRecord (isBound : Bool) (ld dsp : Nat) : List Byte := be 4 (b2n isBound * 2 ^ 31 + ld * 65536 + dsp)

/-- A command that a unit outside the dictionary carries out: refused like a read of the object that stands for its port. (Log 63: DESIGN CHOICE; log 172: DESIGN CHOICE.) -/
def fmForward (s : State) (via : FmPath) (idx sub q : Nat) (f : State → State) (payload : List Byte) : State :=
  let st := (readItem s .manager (fmItem idx sub q)).1
  if st = .ok then fmReply (f s) via 0 payload else fmReply s via (fmCode st) []

/-- What a device behind a port answers. (Log 63: DESIGN CHOICE.) -/
def deviceAnswer (s : State) (op : Nat) : List Byte := Config.fmBytes [op, Config.freeValue s.free]

/-! Logical devices. -/

/-- The instance that a USP presents as an LD. -/
def ldInst (s : State) (p n : Nat) : Option Nat := (presentedOn s p).find? fun i => (getInst s i).ld == n

/-- Bytes of the FM API that are stored and read back: the fields of Set QoS Control by USP, the fractions of an LD, its allocation. (Log 113: DESIGN CHOICE.) -/
def fmStored (s : State) (k : Nat) : List Byte := look [] s.qos.stored k

/-- What an FM API setting without another stated effect stores, under its key. (Log 113: DESIGN CHOICE.) -/
def fmStore (s : State) (k : Nat) (v : List Byte) : State := { s with qos := { s.qos with stored := put s.qos.stored k v } }

def ctlKey (p : Nat) : Nat := p
def bwKey (p n : Nat) : Nat := 4096 + 16 * p + n
def limitKey (p n : Nat) : Nat := 8192 + 16 * p + n
def allocKey (p n : Nat) : Nat := 12288 + 16 * p + n

/-- The LDs of a USP with what is stored of them, as numbers. -/
def ldNumbers (s : State) (p : Nat) : List Nat :=
  (List.range 16).flatMap fun n =>
    match ldInst s p n with
    | none => []
    | some i => [n, instBytes s i (fun st => st == 2), ofBe (fmStored s (allocKey p n))]

/-- Set QoS Control: the two limits of the USP, in the order in which a rising pair passes (R99); the other fields are stored. (Log 197: DEDUCED.) -/
def qosControl (s : State) (p : Nat) (moderate severe : Byte) (rest : List Byte) : State × Status :=
  let x := fmWrites s (if moderate.toNat < rd s 0x2300 3 p then [(0x2300, 2, p, [moderate]), (0x2300, 3, p, [severe])]
    else [(0x2300, 3, p, [severe]), (0x2300, 2, p, [moderate])])
  if x.2 = .ok then (fmStore x.1 (ctlKey p) rest, .ok) else x

/-- A meter record of MODE 2. (Log 114: DEDUCED.) -/
def meter2 (ovh cir pir cbs pbs : Nat) : Nat := 2 * 2 ^ 248 + ovh * 2 ^ 224 + cir * 2 ^ 192 + pir * 2 ^ 160 + cbs * 2 ^ 128 + pbs * 2 ^ 96

/-- Meter 0 with a committed rate (Set QoS Allocated BW): a meter that was off takes its defaults. -/
def meterWithCir (r cir raw : Nat) : Nat :=
  if mtrMode r = 0 then meter2 0 cir (max raw cir) 65536 131072
  else meter2 (bits r 239 224) cir (max (mtrPir r) cir) (mtrCbs r) (mtrEbs r)

/-- Meter 0 with a peak rate (Set QoS BW Limit). (Log 114: DEDUCED.) -/
def meterWithPir (r pir : Nat) : Nat :=
  if mtrMode r = 0 then meter2 0 pir pir 65536 131072
  else meter2 (bits r 239 224) (min (mtrCir r) pir) pir (mtrCbs r) (mtrEbs r)

/-- A command on meter 0 of an LD's instance. -/
def ldMeter (s : State) (p n f key : Nat) (g : Nat → Nat) : State × Status :=
  match ldInst s p n with
  | none => (s, .absent)
  | some i =>
    let x := fmChunk s 0x7000 3 i 0 (be 32 (g (meterRec s i 0)))
    if x.2 = .ok then (fmStore x.1 key [BitVec.ofNat 8 f], .ok) else x

def allocatedBw (s : State) (p n f : Nat) : State × Status :=
  ldMeter s p n f (bwKey p n) fun r => if f = 0 then 0 else meterWithCir r (f * rawRate s p / 256) (rawRate s p)

/-- The bandwidth limit of an LD as the rate of its meter (Table 14-6). (Log 114: DEDUCED.) -/
def bwLimit (s : State) (p n f : Nat) : State × Status :=
  if f = 0 then (s, .range) else ldMeter s p n f (limitKey p n) fun r => meterWithPir r (f * rawRate s p / 256)

/-- The fractions of an LD as they were set. (Log 113: DESIGN CHOICE.) -/
def ldFraction (s : State) (via : FmPath) (p n key : Nat) : State :=
  match ldInst s p n with
  | none => fmReply s via (fmCode .absent) []
  | some _ => fmReply s via 0 [(fmStored s key).headD 0]

/-! Dynamic capacity. -/

/-- The code of a command that wrote CMD objects: Background Command Started while an action of one still runs. -/
def fmCmdCode (s : State) (x : Status) (cmds : List (Nat × Nat × Nat)) : Nat :=
  if fmCode x = 0 ∧ cmds.any (fun e => cmdRunning s e.1 e.2.1 e.2.2) = true then 1 else fmCode x

/-- Initiate Dynamic Capacity Add: one grant per request. (Log 116: DEDUCED.) -/
def capacityAdd (s : State) (via : FmPath) (reqs : List (List Byte)) : State :=
  if reqs = [] then fmReply s via (fmCode .range) []
  else
    let x := fmWrites s (reqs.map fun v => (0x4110, 1, 0, v))
    fmReply x.1 via (fmCmdCode x.1 x.2 [(0x4110, 1, 0)]) []

/-- The Release object of an extent. -/
def releaseObj (e : Nat) : Nat × Nat × Nat := (0x4100 + e / 65536, 3, e % 65536)

/-- Initiate Dynamic Capacity Release. (Log 116: DEDUCED.) -/
def capacityRelease (s : State) (via : FmPath) (exts : List Nat) (forced : Bool) : State :=
  if exts = [] then fmReply s via (fmCode .range) []
  else
    let x := fmWrites s (exts.map fun e => (0x4100 + e / 65536, 3, e % 65536, be 4 (b2n forced)))
    fmReply x.1 via (fmCmdCode x.1 x.2 (exts.map releaseObj)) []

end Sys2Proof.Machine
end

