-- ==== Sys2Proof/Machine/FmApi.lean ====
section
/-!
DEFINITION. The FM API commands (Table 2-14, R40, R102, R145, R146, R148, R316).
-/
namespace Sys2Proof.Machine

open Sys2Proof

/-- IDENTIFY_SWITCH_DEVICE: the ports, their roles and links. -/
def execIdentifySwitchDevice (via : FmPath) (s : State) : Host.Outcome State Fault Refusal :=
  .next (fmRun s via fun x => fmReads x via 0x5100 ((configPorts x).flatMap fun p => [(0x2000, 1, p), (0x2010, 2, p)]))

/-- GET_PHYSICAL_PORT_STATE. -/
def execGetPhysicalPortState (via : FmPath) (ports : List PortN) (s : State) : Host.Outcome State Fault Refusal :=
  .next (fmRun s via fun x => fmReads x via 0x5101
    (ports.flatMap fun p => [(0x2000, 1, p.val), (0x2010, 2, p.val), (0x2010, 3, p.val), (0x2010, 4, p.val), (0x2010, 5, p.val), (0x2010, 6, p.val)]))

/-- PHYSICAL_PORT_CONTROL. -/
def execPhysicalPortControl (via : FmPath) (p : PortN) (op : PortOp) (s : State) : Host.Outcome State Fault Refusal :=
  .next (fmRun s via fun x =>
    let y := portControl x p.val op
    fmReply y.1 via (fmCode y.2) [])

/-- SEND_PPB_CXL_IO_CONFIGURATION_REQUEST. -/
def execSendPpbCxlIoConfigurationRequest (via : FmPath) (p : PortN) (req : CfgReq) (s : State) : Host.Outcome State Fault Refusal :=
  .next (fmRun s via fun x => ppbRequest x via p.val req)

/-- GET_VIRTUAL_CXL_SWITCH_INFO. -/
def execGetVirtualCxlSwitchInfo (via : FmPath) (p : PortN) (s : State) : Host.Outcome State Fault Refusal :=
  .next (fmRun s via fun x => fmTable x via 0x5200 0x2330 1 p.val 0 64)

/-- BIND_VPPB: a binding record. -/
def execBindVppb (via : FmPath) (p : PortN) (vppb : VppbN) (dsp : PortN) (ld : Byte) (s : State) : Host.Outcome State Fault Refusal :=
  .next (fmRun s via fun x =>
    let y := fmChunk x 0x2330 1 p.val vppb.val (bindingRecord true ld.toNat dsp.val)
    fmReply y.1 via (fmCode y.2) [])

/-- UNBIND_VPPB: the record of an unbound vPPB. -/
def execUnbindVppb (via : FmPath) (p : PortN) (vppb : VppbN) (s : State) : Host.Outcome State Fault Refusal :=
  .next (fmRun s via fun x =>
    let y := fmChunk x 0x2330 1 p.val vppb.val (bindingRecord false 0xFF 0)
    fmReply y.1 via (fmCode y.2) [])

/-- GENERATE_AER_EVENT. -/
def execGenerateAerEvent (via : FmPath) (p : PortN) (vppb : VppbN) (err : BitVec 32) (s : State) : Host.Outcome State Fault Refusal :=
  .next (fmRun s via fun x => fmForward x via 0x2000 1 p.val (fun y => emit y (.aer p.val vppb.val err.toNat)) [])

/-- TUNNEL_MANAGEMENT_COMMAND: what the device behind the port answers is its own. -/
def execTunnelManagementCommand (via : FmPath) (p : PortN) (payload : List Byte) (s : State) : Host.Outcome State Fault Refusal :=
  .next (fmRun s via fun x =>
    fmForward x via 0x2300 1 p.val (fun y => freeNext (emit y (.tunnel p.val payload))) (deviceAnswer x 0x5300))

/-- SEND_LD_CXL_IO_CONFIGURATION_REQUEST. -/
def execSendLdCxlIoConfigurationRequest (via : FmPath) (p : PortN) (ld : LdN) (req : CfgReq) (s : State) :
    Host.Outcome State Fault Refusal :=
  .next (fmRun s via fun x =>
    fmForward x via 0x2300 1 p.val (fun y => freeNext (emit y (.ldConfig p.val ld.val req))) (deviceAnswer x 0x5301))

/-- SEND_LD_CXL_IO_MEMORY_REQUEST. -/
def execSendLdCxlIoMemoryRequest (via : FmPath) (p : PortN) (ld : LdN) (req : MemReq) (s : State) : Host.Outcome State Fault Refusal :=
  .next (fmRun s via fun x =>
    fmForward x via 0x2300 1 p.val (fun y => freeNext (emit y (.ldMemory p.val ld.val req))) (deviceAnswer x 0x5302))

/-- GET_LD_INFO: the LDs that the device presents. -/
def execGetLdInfo (via : FmPath) (s : State) : Host.Outcome State Fault Refusal :=
  .next (fmRun s via fun x => fmReply x via 0 (Config.fmBytes (0x5400 :: (List.range 64).flatMap (ldNumbers x))))

/-- GET_LD_ALLOCATIONS. -/
def execGetLdAllocations (via : FmPath) (p : PortN) (s : State) : Host.Outcome State Fault Refusal :=
  .next (fmRun s via fun x => fmForward x via 0x2000 1 p.val id (Config.fmBytes (0x5401 :: ldNumbers x p.val)))

/-- SET_LD_ALLOCATIONS: the allocation of an LD is stored; what an instance holds is its extents (R136). -/
def execSetLdAllocations (via : FmPath) (p : PortN) (ld : LdN) (rec : List Byte) (s : State) : Host.Outcome State Fault Refusal :=
  .next (fmRun s via fun x =>
    match ldInst x p.val ld.val with
    | none => fmReply x via (fmCode .absent) []
    | some _ => fmReply (fmStore x (allocKey p.val ld.val) rec) via 0 rec)

/-- GET_QOS_CONTROL. -/
def execGetQosControl (via : FmPath) (p : PortN) (s : State) : Host.Outcome State Fault Refusal :=
  .next (fmRun s via fun x =>
    fmForward x via 0x2300 2 p.val id (be 1 (rd x 0x2300 2 p.val) ++ be 1 (rd x 0x2300 3 p.val) ++ fmStored x (ctlKey p.val)))

/-- SET_QOS_CONTROL. -/
def execSetQosControl (via : FmPath) (p : PortN) (moderate severe : Byte) (rest : List Byte) (s : State) : Host.Outcome State Fault Refusal :=
  .next (fmRun s via fun x =>
    let y := qosControl x p.val moderate severe rest
    fmReply y.1 via (fmCode y.2) (if y.2 = .ok then moderate :: severe :: rest else []))

/-- GET_QOS_STATUS: the share of the last millisecond is a measurement. (Log 115: DESIGN CHOICE.) -/
def execGetQosStatus (via : FmPath) (p : PortN) (s : State) : Host.Outcome State Fault Refusal :=
  .next (fmRun s via fun x => fmForward x via 0x2300 2 p.val freeNext
    (be 1 (if presentedOn x p.val = [] then 0 else Config.freeValue x.free % 101)))

/-- GET_QOS_ALLOCATED_BW. -/
def execGetQosAllocatedBw (via : FmPath) (p : PortN) (ld : LdN) (s : State) : Host.Outcome State Fault Refusal :=
  .next (fmRun s via fun x => ldFraction x via p.val ld.val (bwKey p.val ld.val))

/-- SET_QOS_ALLOCATED_BW. -/
def execSetQosAllocatedBw (via : FmPath) (p : PortN) (ld : LdN) (f : Byte) (s : State) : Host.Outcome State Fault Refusal :=
  .next (fmRun s via fun x =>
    let y := allocatedBw x p.val ld.val f.toNat
    fmReply y.1 via (fmCode y.2) [f])

/-- GET_QOS_BW_LIMIT. -/
def execGetQosBwLimit (via : FmPath) (p : PortN) (ld : LdN) (s : State) : Host.Outcome State Fault Refusal :=
  .next (fmRun s via fun x => ldFraction x via p.val ld.val (limitKey p.val ld.val))

/-- SET_QOS_BW_LIMIT. -/
def execSetQosBwLimit (via : FmPath) (p : PortN) (ld : LdN) (f : Byte) (s : State) : Host.Outcome State Fault Refusal :=
  .next (fmRun s via fun x =>
    let y := bwLimit x p.val ld.val f.toNat
    fmReply y.1 via (fmCode y.2) [f])

/-- GET_DCD_INFO: the numbers that the manual gives (R145): instances, regions per instance, extent records. -/
def execGetDcdInfo (via : FmPath) (s : State) : Host.Outcome State Fault Refusal :=
  .next (fmRun s via fun x => fmReply x via 0 (Config.fmBytes [0x5600, 4096, 8, 262144]))

/-- GET_HOST_DC_REGION_CONFIGURATION: records 8i to 8i + 7 of 0x4120. -/
def execGetHostDcRegionConfiguration (via : FmPath) (i : InstN) (s : State) : Host.Outcome State Fault Refusal :=
  .next (fmRun s via fun x => fmTable x via 0x5601 0x4120 1 0 (8 * i.val) 8)

/-- SET_DC_REGION_CONFIGURATION (R145). -/
def execSetDcRegionConfiguration (via : FmPath) (i : InstN) (reg : Fin 8) (rec : List Byte) (s : State) : Host.Outcome State Fault Refusal :=
  .next (fmRun s via fun x =>
    let y := fmChunk x 0x4120 1 0 (8 * i.val + reg.val) rec
    fmReply y.1 via (fmCode y.2) [])

/-- GET_DCD_EXTENT_LISTS: the extents of an instance. -/
def execGetDcdExtentLists (via : FmPath) (i : InstN) (s : State) : Host.Outcome State Fault Refusal :=
  .next (fmRun s via fun x =>
    fmForward x via 0x5000 1 i.val id
      (Config.fmBytes (0x5603 :: (instExtents x i.val).flatMap fun e => [e, (getExt x e).offset, extBytes (getExt x e)])))

/-- INITIATE_DYNAMIC_CAPACITY_ADD (R146). -/
def execInitiateDynamicCapacityAdd (via : FmPath) (reqs : List (List Byte)) (s : State) : Host.Outcome State Fault Refusal :=
  .next (fmRun s via fun x => capacityAdd x via reqs)

/-- INITIATE_DYNAMIC_CAPACITY_RELEASE (R148). -/
def execInitiateDynamicCapacityRelease (via : FmPath) (exts : List ExtentN) (forced : Bool) (s : State) :
    Host.Outcome State Fault Refusal :=
  .next (fmRun s via fun x => capacityRelease x via (exts.map (·.val)) forced)

/-- FM_API_UNSUPPORTED (R40). (Log 117: DEDUCED.) -/
def execFmApiUnsupported (via : FmPath) (opcode : BitVec 16) (s : State) : Host.Outcome State Fault Refusal :=
  .next (if fmOpen s via = true ∧ fmOpcode opcode.toNat = false then fmReply s via 3 [] else s)

end Sys2Proof.Machine
end

