-- ==== Sys2Proof/Machine/Lanes.lean ====
section
/-!
DEFINITION. The commands of lanes, sparing and lane tests (chapter 4).
-/
namespace Sys2Proof.Machine

open Sys2Proof

/-- LANE_LOCK (R65): 64 consecutive good units on a lane whose receive direction is ACTIVE. -/
def execLaneLock (l : LaneN) (s : State) : Host.Outcome State Fault Refusal :=
  .next (if rd s 0x2102 2 l.val = 0 then wr s 0x2100 5 l.val 2 else s)

/-- A loss joins the Recovery that runs (Table 4-9): the spare takes the lane when it is free, the lower-numbered of two lanes of a group;
the others are excluded. -/
def joinRecovery (s : State) (p l : Nat) : State :=
  let q := getPort s p
  if q.subLane = some l ∨ q.excluded.contains l = true then s
  else match q.subLane, q.swap with
    | some x, false =>
      if l < x ∧ spareable s p [l] = some l then setPort s p { q with subPhase := 5, subLane := some l, excluded := q.excluded ++ [x] }
      else setPort s p { q with subPhase := 5, excluded := q.excluded ++ [l] }
    | some _, true => setPort s p { q with subPhase := 5, excluded := q.excluded ++ [l] }
    | none, _ =>
      match spareable s p [l] with
      | some x => setPort (stopTest s (spareOf l) 2) p { q with subPhase := 5, subLane := some x }
      | none => setPort s p { q with subPhase := 5, excluded := q.excluded ++ [l] }

/-- A lane of a port in L0 or Recovery lost lock: the decision window opens, or the loss joins it or the Recovery (R72,
Table 4-9). A second loss inside the window leads into Recovery at once; one while Swap back moves a lane ends the Swap back. (Log 188: DEDUCED.) -/
def lockLossOf (s : State) (p l : Nat) : State :=
  let q := getPort s p
  if rd s 0x2010 2 p = 4 then joinRecovery s p l
  else if rd s 0x2010 2 p = 3 ∧ q.swap = true then
    (match q.subLane with
     | some x => setPort (cmdEnd s 0x2140 11 (256 + laneGroup x) 4 0) p { q with subPhase := 0, subLane := none, swap := false, window := true, lost := [l] }
     | none => s)
  else if rd s 0x2010 2 p ≠ 3 then s
  else if q.window then recoverLanes s p (q.lost ++ [l])
  else if q.subPhase ≠ 0 then
    recoverLanes s p (match q.subLane with | some x => if x = l then [l] else [x, l] | none => [l])
  else setPort s p { q with window := true, lost := [l] }

/-- LANE_LOCK_LOSS (R66, R72): 16 of 64 units bad on a locked lane that is judged. (Log 190: DESIGN CHOICE.) -/
def execLaneLockLoss (l : LaneN) (s : State) : Host.Outcome State Fault Refusal :=
  .next <|
    let p := lanePort s l.val
    if rd s 0x2100 5 l.val = 2 ∧ rd s 0x2102 2 l.val = 0 ∧ (rd s 0x2010 2 p = 3 ∨ rd s 0x2010 2 p = 4) then
      let s0 := bump (wr s 0x2100 5 l.val 1) 0x2100 6 l.val 32 1
      let s1 := freeNext (bump s0 0x2100 7 l.val 64 (16 + Config.freeValue s.free))
      if laneRole s1 l.val = 1 ∨ laneRole s1 l.val = 3 then lockLossOf s1 p l.val else s1
    else s

/-- DECISION_WINDOW_CLOSE (R72). -/
def execDecisionWindowClose (p : PortN) (s : State) : Host.Outcome State Fault Refusal :=
  .next <|
    let q := getPort s p.val
    if q.window then
      match q.lost with
      | [l] => beginSubstitution s p.val l
      | [] => setPort s p.val { q with window := false }
      | ls => recoverLanes s p.val ls
    else s

/-- SPARING_REQUEST (R73): the partner's request for a lane that failed at its end; a window closes on receipt. -/
def execSparingRequest (p : PortN) (l : LaneN) (s : State) : Host.Outcome State Fault Refusal :=
  .next <|
    let q := getPort s p.val
    if l.val < 256 ∧ lanePort s l.val = p.val ∧ laneRole s l.val = 1 ∧ rd s 0x2010 2 p.val = 3
        ∧ sparingMode s p.val (laneGroup l.val) = 3 ∧ spareFree s (laneGroup l.val) p.val = true ∧ q.swap = false then
      let others := (q.lost ++ (match q.subLane with | some x => [x] | none => [])).filter (· != l.val)
      let s1 := stopTest s (spareOf l.val) 2
      if others ≠ [] then recoverLanes s p.val (others ++ [l.val])
      else emit (setPort s1 p.val { getPort s1 p.val with window := false, lost := [], subPhase := 2, subLane := some l.val, excluded := [] }) (.sparingAck p.val l.val)
    else s

/-- SPARING_ACK (R73): the partner's acknowledgement fixes the switch flit. -/
def execSparingAck (p : PortN) (s : State) : Host.Outcome State Fault Refusal :=
  .next <|
    let q := getPort s p.val
    if q.subPhase = 1 then setPort s p.val { q with subPhase := 2 } else s

/-- SWITCH_FLIT (R73): the spare carries the failed lane's logical lane; the port never leaves L0. -/
def execSwitchFlit (p : PortN) (s : State) : Host.Outcome State Fault Refusal :=
  .next <|
    let q := getPort s p.val
    match q.subPhase, q.subLane with
    | 2, some l =>
      let s1 := setPort s p.val { q with subPhase := 0, subLane := none, swap := false }
      if q.swap then restored s1 (laneGroup l) else substituted s1 p.val l
    | _, _ => s

/-- One direction of a port takes an L0p width (R67, R68): the lanes inside it ACTIVE, the others in DOZE. -/
def setWidth (s : State) (p idx w : Nat) : State :=
  (linkLanes s p).foldl (fun a l => setDir a idx l (if rd s 0x2100 3 l < w then 0 else 1)) s

/-- The width to which an L0P substitution narrows first: the widest whose logical lanes exclude the lane that leaves (R74); of a Swap back,
the lane that the spare carries. -/
def narrowWidth (s : State) (q : PortSt) (l : Nat) : Nat :=
  l0pWithout q.fullWidth (rd s 0x2100 3 (if q.swap then spareOf l else l))

/-- A width of one direction, or of both when the partner cannot run them apart (R67, R68). -/
def takeWidth (s : State) (p : Nat) (d : DirSel) (n : Nat) : State :=
  let q := getPort s p
  let both := q.asymmetric = false ∨ d = .both
  let s1 := if both ∨ d = .tx then setWidth s p 0x2101 n else s
  let s2 := if both ∨ d = .rx then setWidth s1 p 0x2102 n else s1
  setPort s2 p { getPort s2 p with widthTx := if both ∨ d = .tx then n else q.widthTx
                                   widthRx := if both ∨ d = .rx then n else q.widthRx }

/-- The widths that a port's link may take now: in an L0P substitution only the one that its step asks for (R74). -/
def widthAllowed (s : State) (p n : Nat) : Bool :=
  let q := getPort s p
  q.l0p && rd s 0x2010 2 p == 3 && n != 0 && decide (n ≤ q.fullWidth)
    && (match q.subPhase, q.subLane with
        | 3, some l => n == narrowWidth s q l
        | 4, some _ => n == q.fullWidth
        | _, _ => true)

/-- An L0P substitution goes on: narrow in both directions, then wide again with the spare, or with the lane that Swap back returns. -/
def widthStep (s : State) (p : Nat) (stuck : Option LaneN) : State :=
  let q := getPort s p
  match q.subPhase, q.subLane with
  | 3, some l => if q.widthTx = narrowWidth s q l ∧ q.widthRx = narrowWidth s q l then setPort s p { q with subPhase := 4 } else s
  | 4, some l =>
    if q.widthTx = q.fullWidth ∧ q.widthRx = q.fullWidth then
      (let s1 := setPort s p { q with subPhase := 0, subLane := none, swap := false }
       if q.swap then restored s1 (laneGroup l) else substituted s1 p l)
    else s
  | _, _ =>
    match stuck with
    | some l =>
      (match spareable s p [l.val] with
       | some x => if lanePort s x = p then substituted s p x else s
       | none => s)
    | none => s

/-- L0P_WIDTH_CHANGE (R67, R68, R74): a direction, or both when the partner cannot run them apart, takes a width. A lane
that cannot lock in a widening is replaced by the spare. The narrowing and widening of an L0P substitution end here. -/
def execL0pWidthChange (p : PortN) (d : DirSel) (w : Byte) (stuck : Option LaneN) (s : State) :
    Host.Outcome State Fault Refusal :=
  .next (if widthAllowed s p.val w.toNat then widthStep (takeWidth s p.val d w.toNat) p.val stuck else s)

/-- RECOVERY_COMPLETE (R71, R75): the link returns to L0, or goes down where no width is left for it. (Log 194: DEDUCED.) -/
def execRecoveryComplete (p : PortN) (spareLocked : Bool) (s : State) : Host.Outcome State Fault Refusal :=
  .next (
    if rd s 0x2010 2 p.val = 4 then
      let s1 := recoveryDone s p.val spareLocked
      if rd s1 0x2010 3 p.val = 0 then portDown s1 p.val 8 false else s1
    else s)

/-- RECOVERY_ENTRY (R72, Table 4-9): the partner leads the link into Recovery; a pending substitution joins it. -/
def execRecoveryEntry (p : PortN) (s : State) : Host.Outcome State Fault Refusal :=
  .next <|
    let q := getPort s p.val
    if rd s 0x2010 2 p.val ≠ 3 then s
    else if q.window then recoverLanes s p.val q.lost
    else enterRecovery s p.val q.subLane q.excluded

/-- More corrected symbols than a threshold are counted on a lane (0x2103:08). (Log 190: DESIGN CHOICE.) -/
def fecCounted (s : State) (l n : Nat) : State := freeNext (bump s 0x2103 8 l 64 (n + 1 + Config.freeValue s.free))

/-- DEGRADE_THRESHOLD (R77): a data lane exceeds 0x2140:13 corrected symbols in a second; only when the spare is idle. -/
def execDegradeThreshold (l : LaneN) (s : State) : Host.Outcome State Fault Refusal :=
  .next <|
    let g := laneGroup l.val
    let p := lanePort s l.val
    if l.val < 256 ∧ rd s 0x2140 13 (256 + g) ≠ 0 ∧ laneRole s l.val = 1 ∧ rd s 0x2010 2 p = 3
        ∧ (getPort s p).subPhase = 0 ∧ (getPort s p).window = false ∧ spareable s p [l.val] = some l.val then
      beginSubstitution (fecCounted s l.val (rd s 0x2140 13 (256 + g))) p l.val
    else if l.val < 256 ∧ rd s 0x2140 13 (256 + g) ≠ 0 then fecCounted s l.val (rd s 0x2140 13 (256 + g)) else s

/-- SPARE_EXCHANGE_COMPLETE (R70): the PRBS31 exchange of a port on the spare ends; a failure makes its mode NONE. -/
def execSpareExchangeComplete (p : PortN) (ok : Bool) (s : State) : Host.Outcome State Fault Refusal :=
  .next <|
    (portGroups s p.val).foldl (fun a g =>
      if (getGroup a g).exchange.contains p.val then
        (if ok then
          (let a1 := setGroup a g { getGroup a g with exchange := (getGroup a g).exchange.filter (· != p.val) }
           if bit (getPort a p.val).spareCap 3 then keepaliveRuns a1 g p.val else a1)
         else raise (wr (keepaliveEnds a g p.val) 0x2140 (sparingSub a p.val) (256 + g) 0) (0x2000 + g) 4 .notice [])
      else a) s

/-- KEEPALIVE_LOSS (R70, Table 4-9): the idle spare's keep-alive fails: mode NONE until the next link-up. The errors that ended it are
counted. (Log 190: DESIGN CHOICE.) -/
def execKeepaliveLoss (g : GroupN) (s : State) : Host.Outcome State Fault Refusal :=
  .next <|
    if (getGroup s g.val).keepalive ≠ [] then
      let s1 := setGroup s g.val { getGroup s g.val with keepalive := [] }
      let s2 := freeNext (bump (spareRests s1 g.val) 0x2140 14 (256 + g.val) 64 (64 + Config.freeValue s.free))
      raise (wr (wr s2 0x2140 7 (256 + g.val) 0) 0x2140 8 (256 + g.val) 0) (0x2000 + g.val) 4 .notice []
    else s

/-- SWAP_BACK (R81). -/
def execSwapBack (r : Requester) (g : GroupN) (s : State) : Host.Outcome State Fault Refusal :=
  .next (rowWrite s r 0x2140 11 (256 + g.val) [1] fun x => swapBackWrite x g.val)

/-- RETIRE_LANE (R76). -/
def execRetireLane (r : Requester) (g : GroupN) (v : Byte) (s : State) : Host.Outcome State Fault Refusal :=
  .next (rowWrite s r 0x2140 12 (256 + g.val) (be 4 v.toNat) fun x => retireLaneWrite x g.val v.toNat)

/-- The object of a lane direction. -/
def dirIndex (d : Dir) : Nat :=
  match d with
  | .tx => 0x2101
  | .rx => 0x2102

/-- LANE_DIRECTION_TARGET (R67). -/
def execLaneDirectionTarget (r : Requester) (l : LaneN) (d : Dir) (v : Byte) (s : State) :
    Host.Outcome State Fault Refusal :=
  .next (rowWrite s r (dirIndex d) 1 l.val [v] fun x => laneDirWrite x (dirIndex d) l.val v.toNat)

/-- TEST_TARGET (R80). -/
def execTestTarget (r : Requester) (l : LaneN) (v : Byte) (s : State) : Host.Outcome State Fault Refusal :=
  .next (rowWrite s r 0x2110 1 l.val [v] fun x => testTargetWrite x l.val v.toNat)

/-- LOOPBACK (R80, Table 4-11). -/
def execTestLoopback (r : Requester) (l : LaneN) (v : Byte) (s : State) : Host.Outcome State Fault Refusal :=
  .next (rowWrite s r 0x2110 4 l.val [v] fun x => loopbackWrite x l.val v.toNat)

/-- LOOPBACK_ENTRY (R80): the far-end loopback answers a partner that leads the Loopback state, where Table 4-12 permits
it. -/
def execLoopbackEntry (l : LaneN) (s : State) : Host.Outcome State Fault Refusal :=
  .next (if farEndOk (laneKind s l.val) then setLane s l.val { getLane s l.val with farEnd := true } else s)

/-- INJECT (R79). -/
def execTestInject (r : Requester) (l : LaneN) (n : BitVec 32) (s : State) : Host.Outcome State Fault Refusal :=
  .next (rowWrite s r 0x2110 5 l.val (be 4 n.toNat) fun x => injectWrite x l.val n.toNat)

/-- CLEAR_COUNTERS (R78). -/
def execClearCounters (r : Requester) (l : LaneN) (s : State) : Host.Outcome State Fault Refusal :=
  .next (rowWrite s r 0x2110 9 l.val [1] fun x => clearCountersWrite x l.val)

/-- CHECKER_SYNC (R78): 256 consecutive error-free bits on a lane whose checker runs. -/
def execCheckerSync (l : LaneN) (s : State) : Host.Outcome State Fault Refusal :=
  .next (if 2 ≤ rd s 0x2110 2 l.val ∨ laneKind s l.val = .spareKeepalive then
    setLane s l.val { getLane s l.val with inSync := true } else s)

/-- CHECKER_SYNC_LOSS (R78): 64 of 256 bits in error after the bits and errors counted while in sync. -/
def execCheckerSyncLoss (l : LaneN) (bits errs : Nat) (s : State) : Host.Outcome State Fault Refusal :=
  .next <|
    if (getLane s l.val).inSync then
      let s2 := countBits s l.val bits errs
      setLane (bump s2 0x2110 8 l.val 32 1) l.val { getLane s2 l.val with inSync := false }
    else s

/-- L1_ENTRY (R67): a link whose port offers L1 enters it; its lane directions go to DOZE. -/
def execL1Entry (p : PortN) (s : State) : Host.Outcome State Fault Refusal :=
  .next <|
    if rd s 0x2010 2 p.val = 3 ∧ rd s 0x2000 5 p.val = 1 ∧ actingRole s p.val ≠ 3 then
      (linkLanes s p.val).foldl (fun a l => setDirs a l 1) (wr s 0x2010 2 p.val 5)
    else s

/-- L1_EXIT (R67): a link in L1 on a group that is ON returns to L0; its lanes within each direction's width return to ACTIVE. -/
def execL1Exit (p : PortN) (s : State) : Host.Outcome State Fault Refusal :=
  .next <|
    if rd s 0x2010 2 p.val = 5 ∧ (portGroups s p.val).all (fun g => rd s 0x9000 2 (32 * (g / 8) + 9 + g % 8) == 0) then
      let q := getPort s p.val
      setWidth (setWidth (wr s 0x2010 2 p.val 3) p.val 0x2101 q.widthTx) p.val 0x2102 q.widthRx
    else s

end Sys2Proof.Machine
end

