-- ==== Sys2Proof/Machine/CompatOps.lean ====
section
/-!
DEFINITION. The TLS3200 compatibility window (R58, Tables 3-16 to 3-18): the object behind each of its registers, what a read of it gives, and
what a write of it does.
-/
namespace Sys2Proof.Machine

open Sys2Proof

/-- The window stands in BAR4 of the manager's function. -/
def compatOpen (s : State) : Bool := rd s 0x1220 1 0 == 1 && (mgrFn s).isSome

/-- What stands behind a register of the window: an object as it is read and as it is written, a pair of buffer limits, a half of a
counter, or COMPAT_STATUS. -/
inductive CompatReg where
  | none
  | status
  | partId
  | object (idx rsub wsub q : Nat)
  | limits (tile rec pair : Nat)
  | counter (unit slot : Nat) (high : Bool)
  deriving DecidableEq, Repr

/-- The register at an offset, the first port shown being `base` (Table 3-17). (Log 184: PRESUMED.) -/
def compatPlace (base off : Nat) : CompatReg :=
  let w := off / 4
  if off < 0x100 then
    (if w = 0 then .partId else if w = 1 then .object 0x1000 3 3 0 else if w = 2 then .object 0x1200 2 1 0
     else if w = 3 then .object 0xC010 1 1 0 else if w = 0x3C then .status else .none)
  else if off < 0x500 then
    let p := base + (off - 0x100) / 32
    let k := w % 8
    if k = 0 then .object 0x2010 2 1 p
    else if k < 4 then .object 0x2010 (k + 1) (k + 1) p
    else .object 0x2200 (k - 3) (k - 3) p
  else if off < 0x700 then
    let p := base + (off - 0x500) / 16
    .limits (p / 16) (p % 16) (w % 4)
  else
    let k := (off - 0x700) / 8
    .counter (base / 2 + k / 2) (1 + k % 2) (w % 2 == 0)

/-- The part ID that the compatibility window shows (0x1220:03). -/
def compatPartId (s : State) : Nat := if rd s 0x1220 3 0 = 0 then 0x3200 else 0x6400

/-- COMPAT_STATUS (Table 3-18). -/
def compatStatus (s : State) : Nat :=
  s.mode.compatAddr % 65536 * 65536 + s.mode.compatCode % 256 * 256 + b2n s.mode.compatRefused

/-- The rate code that TLS3200 software knows: that of 64 GT/s (6) for 128 GT/s (R58). -/
def compatRate (v : Nat) : Nat := min v 6

/-- A counter slot of the window (R365): what was saved at the entries into RET or OFF, and the live counter. -/
def savedCounter (s : State) (u n : Nat) : Nat :=
  let w := counterWord s u n
  w / 2 ^ 48 * 2 ^ 48 + (look 0 s.pwr.saved (32 * u + n) + w % 2 ^ 48) % 2 ^ 48

/-- A read of the window (R58): the actual view wherever an object has one; an absent object reads 0. (Log 184: PRESUMED.) -/
def compatRead (s : State) (off : Nat) : Option Nat :=
  if compatOpen s = false then none
  else some (match compatPlace (rd s 0x1220 2 0) off with
    | .none => 0
    | .status => compatStatus s
    | .partId => compatPartId s
    | .object idx sub _ q =>
      let v := ofBe (readItem s .manager { rowItem idx sub q [] with ty := 0 }).2 % 2 ^ 32
      if idx = 0x2010 ∧ sub = 4 then compatRate v else v
    | .limits t r k => bits (rdTbl s 0x3200 1 t r (limitRecDefault r)) (127 - 32 * k) (96 - 32 * k)
    | .counter u n high => let v := savedCounter s u n; if high then v / 2 ^ 32 % 2 ^ 32 else v % 2 ^ 32)

/-- A refused write shows at COMPAT_STATUS. -/
def compatRefuse (s : State) (off : Nat) (st : Status) : State :=
  { s with mode := { s.mode with compatRefused := true, compatAddr := off, compatCode := st.code } }

/-- The outcome of a dictionary write that a register made. -/
def compatTaken (off : Nat) (x : State × Status) : State := if x.2 = .ok ∨ x.2 = .ignored then x.1 else compatRefuse x.1 off x.2

/-- A record of buffer limits with one pair of its classes replaced. -/
def withLimits (old k v : Nat) : Nat := old - bits old (127 - 32 * k) (96 - 32 * k) * 2 ^ (96 - 32 * k) + v * 2 ^ (96 - 32 * k)

/-- REFUSED is cleared where the mask says so, but for a refusal of the same cycle (R4). -/
def compatClear (s : State) (mask : Nat) (same : Bool) : State :=
  { s with mode := { s.mode with compatRefused := same || (s.mode.compatRefused && !bit mask 0) } }

/-- The dictionary write that a write of the window makes, at Manager privilege (R58). -/
def compatItem (s : State) (off v : Nat) : State × Status :=
  match compatPlace (rd s 0x1220 2 0) off with
  | .none => (s, .ok)
  | .status => (compatClear s v false, .ok)
  | .partId => writeItem s .manager (rowItem 0x1000 2 0 (be 4 v))
  | .object idx _ sub q =>
    let n := match descOf idx sub with | some d => d.ty.wire | none => 4
    if 2 ^ (8 * n) ≤ v then (s, .range) else writeItem s .manager (rowItem idx sub q (be n v))
  | .limits t r k => writeChunk s .manager (rowItem 0x3200 1 t (chunkValue r 1 (be 16 (withLimits (rdTbl s 0x3200 1 t r (limitRecDefault r)) k v))))
  | .counter u _ _ => writeItem s .manager (rowItem 0xB000 2 u (be 4 v))

/-- A write of a register of the window. (Log 184: PRESUMED.) -/
def compatWriteAt (s : State) (off v : Nat) : State := compatTaken off (compatItem s off v)

end Sys2Proof.Machine
end

