-- ==== Sys2Proof/Machine/Modes.lean ====
section
/-!
DEFINITION. The commands of operating modes and configuration images (chapter 3).
-/
namespace Sys2Proof.Machine

open Sys2Proof

/-- TARGET_MODE_WRITE. -/
def execTargetModeWrite (r : Requester) (v : Byte) (s : State) : Host.Outcome State Fault Refusal :=
  .next (rowWrite s r 0x1200 1 0 [v] fun x => targetModeWrite x v.toNat)

/-- QUIESCE_COMPLETE. -/
def execQuiesceComplete (s : State) : Host.Outcome State Fault Refusal :=
  .next (if rd s 0x1200 3 0 = 1 ∧ s.mode.target ≠ 5 then applyMode s else s)

/-- QUIESCE_TIMEOUT. -/
def execQuiesceTimeout (s : State) : Host.Outcome State Fault Refusal :=
  .next (if rd s 0x1200 3 0 = 1 ∧ s.mode.target ≠ 5 then failMode s 0x25 [] else s)

/-- DRAIN_COMPLETE. -/
def execDrainComplete (s : State) : Host.Outcome State Fault Refusal :=
  .next (if rd s 0x1200 3 0 = 1 ∧ s.mode.target = 5 then drainEnds s else s)

/-- DRAIN_TIMEOUT. -/
def execDrainTimeout (s : State) : Host.Outcome State Fault Refusal :=
  .next (if rd s 0x1200 3 0 = 1 ∧ s.mode.target = 5 then failMode s 0x25 [] else s)

/-- ROLE_CHANGE_TIMEOUT. -/
def execRoleChangeTimeout (s : State) : Host.Outcome State Fault Refusal :=
  .next (if rd s 0x1200 3 0 = 3 then finishMode s else s)

/-- INSTALL. -/
def execCfgInstall (r : Requester) (s : State) : Host.Outcome State Fault Refusal := .next (rowWrite s r 0x1211 2 0 [1] installWrite)

/-- INSTALL_COMPLETE. -/
def execInstallComplete (err : Byte) (s : State) : Host.Outcome State Fault Refusal := .next (installEnd s err.toNat)

/-- ACTIVATE. -/
def execCfgActivate (r : Requester) (s : State) : Host.Outcome State Fault Refusal := .next (rowWrite s r 0x1212 1 0 [1] cfgActivateWrite)

/-- COMMIT_DELTA. -/
def execCommitDelta (r : Requester) (s : State) : Host.Outcome State Fault Refusal := .next (rowWrite s r 0x1213 1 0 [1] commitWrite)

/-- CLEAR_DELTA. -/
def execClearDelta (r : Requester) (s : State) : Host.Outcome State Fault Refusal := .next (rowWrite s r 0x1213 2 0 [1] clearDeltaWrite)

/-! The TLS3200 compatibility window (R58, Tables 3-16 to 3-18). -/

/-- COMPAT_WRITE: the write of the object that the register maps to, at Manager privilege. (Log 47: DESIGN CHOICE.) -/
def execCompatWrite (off : Fin 2048) (v : BitVec 32) (s : State) : Host.Outcome State Fault Refusal :=
  .next (if compatOpen s then compatWriteAt s (off.val - off.val % 4) v.toNat else s)

/-- COMPAT_STATUS_CLEAR: a refusal of the same cycle wins (R4). -/
def execCompatStatusClear (mask : BitVec 32) (setRefused : Bool) (s : State) : Host.Outcome State Fault Refusal :=
  .next (if compatOpen s then compatClear s mask.toNat setRefused else s)

end Sys2Proof.Machine
end

