-- ==== Sys2Proof/Machine/Odp.lean ====
section
/-!
DEFINITION. The commands of the management transports and of the object dictionary (chapter 2). A row of an ODP opcode carries a message
with that opcode.
-/
namespace Sys2Proof.Machine

open Sys2Proof

/-- HELLO (R34, R42). -/
def execOdpHello (t : Transport) (m : OdpMsg) (s : State) : Host.Outcome State Fault Refusal := .next (odpRequest s t { m with opcode := 0x01 })

/-- OPEN (R36). -/
def execOdpOpen (t : Transport) (m : OdpMsg) (s : State) : Host.Outcome State Fault Refusal := .next (odpRequest s t { m with opcode := 0x02 })

/-- CLOSE (R37). -/
def execOdpClose (t : Transport) (m : OdpMsg) (s : State) : Host.Outcome State Fault Refusal := .next (odpRequest s t { m with opcode := 0x03 })

/-- READ (R431). -/
def execOdpRead (t : Transport) (m : OdpMsg) (s : State) : Host.Outcome State Fault Refusal := .next (odpRequest s t { m with opcode := 0x10 })

/-- WRITE (R34). -/
def execOdpWrite (t : Transport) (m : OdpMsg) (s : State) : Host.Outcome State Fault Refusal := .next (odpRequest s t { m with opcode := 0x11 })

/-- READ_CHUNK (R38). -/
def execOdpReadChunk (t : Transport) (m : OdpMsg) (s : State) : Host.Outcome State Fault Refusal :=
  .next (odpRequest s t { m with opcode := 0x12 })

/-- WRITE_CHUNK (R38). -/
def execOdpWriteChunk (t : Transport) (m : OdpMsg) (s : State) : Host.Outcome State Fault Refusal :=
  .next (odpRequest s t { m with opcode := 0x13 })

/-- DESCRIBE (Table 2-9). -/
def execOdpDescribe (t : Transport) (m : OdpMsg) (s : State) : Host.Outcome State Fault Refusal :=
  .next (odpRequest s t { m with opcode := 0x20 })

/-- SUBSCRIBE (R37). -/
def execOdpSubscribe (t : Transport) (m : OdpMsg) (s : State) : Host.Outcome State Fault Refusal :=
  .next (odpRequest s t { m with opcode := 0x30 })

/-- KEEPALIVE (R37). -/
def execOdpKeepalive (t : Transport) (m : OdpMsg) (s : State) : Host.Outcome State Fault Refusal :=
  .next (odpRequest s t { m with opcode := 0x3F })

/-- SESSION_IDLE_TIMEOUT (R37). -/
def execSessionIdleTimeout (sid : BitVec 32) (s : State) : Host.Outcome State Fault Refusal := .next (dropSession s sid.toNat)

/-- DICTIONARY_READY (R43). -/
def execDictionaryReady (s : State) : Host.Outcome State Fault Refusal := .next (dictionaryReady s)

/-- A chunk of a table or blob whose records are whole, as OBJECT_WRITE carries it. -/
def chunkOf (idx sub q start : Nat) (data : List Byte) : Item :=
  rowItem idx sub q (chunkValue start (data.length / recSize idx sub) data)

/-- OBJECT_WRITE (R28, R38): an object, a chunk of records, or a register of the dictionary window. -/
def execObjectWrite (w : RegWrite) (s : State) : Host.Outcome State Fault Refusal :=
  .next (
    match w.place with
    | .object idx sub q =>
      let x := writeItem s w.requester (rowItem idx.toNat sub.toNat q.toNat w.value)
      promisedReset (emit x.1 (.wrote idx.toNat sub.toNat q.toNat x.2))
    | .chunk idx sub q start =>
      let x := writeChunk s w.requester (chunkOf idx.toNat sub.toNat q.toNat start.toNat w.value)
      emit x.1 (.wrote idx.toNat sub.toNat q.toNat x.2)
    | .window off => windowWrite s off.val w.value)

/-- The highest code of an actual view that the datapath drives; none for the mode, which only a transition changes. (Log 21: DESIGN CHOICE.) -/
def actualMax (idx : Nat) : Option Nat :=
  if idx = 0x2010 ∨ idx = 0x3100 then some 5
  else if idx = 0x2101 ∨ idx = 0x2102 ∨ idx = 0x2140 ∨ idx = 0x8000 then some 2
  else if idx = 0x3000 ∨ idx = 0x9000 then some 4
  else if idx = 0x4000 then some 7
  else if idx = 0xA000 then some 6
  else none

/-- The unit has a pair of views. (Log 21: DESIGN CHOICE.) -/
def viewExists (s : State) (idx q : Nat) : Bool :=
  match descOf idx 2 with
  | some d => qualOk d.qual q && present s d q
  | none => false

/-- ACTUAL_VIEW_CHANGE (R29): subindex 2 shows what the datapath does. -/
def execActualViewChange (u : ViewUnit) (v : Byte) (s : State) : Host.Outcome State Fault Refusal :=
  .next (
    match actualMax u.idx.toNat with
    | some n =>
      if v.toNat ≤ n ∧ viewExists s u.idx.toNat u.q.toNat = true then settleViews (wr s u.idx.toNat 2 u.q.toNat v.toNat) else s
    | none => s)

/-- STATE_SKEW (R30). (Log 180: DEDUCED.) -/
def execStateSkew (u : ViewUnit) (s : State) : Host.Outcome State Fault Refusal :=
  .next (
    let idx := u.idx.toNat
    let q := u.q.toNat
    let k := okey idx 1 q
    if statefulObjs.contains idx = false ∨ viewExists s idx q = false ∨ has s.mgmt.skewed k = true then s
    else if viewsAgree s idx q then settleViews s
    else
      let s1 := { s with mgmt := { s.mgmt with skewed := put s.mgmt.skewed k true } }
      raiseEv s1 (viewSource idx q) 0 .notice 0 [keyAddress k, rd s idx 1 q, rd s idx 2 q] true)

/-! The dictionary window (R41). -/

/-- GO. -/
def execOdwGo (s : State) : Host.Outcome State Fault Refusal := .next (windowGo s)

/-- ODW_DONE. -/
def execOdwDone (s : State) : Host.Outcome State Fault Refusal := .next (windowDone s)

/-- ODW_STATUS_CLEAR (R4): an event of the same cycle wins. -/
def execOdwStatusClear (mask : BitVec 32) (setDone setOverrun : Bool) (s : State) : Host.Outcome State Fault Refusal :=
  .next (
    if windowOpen s = false then s
    else
      let s1 := { s with mgmt := { s.mgmt with odwDone := s.mgmt.odwDone && !mask.getLsbD 1
                                               odwOverrun := (s.mgmt.odwOverrun && !mask.getLsbD 2) || (setOverrun && s.mgmt.odwBusy) } }
      if setDone then windowDone s1 else s1)

/-! MCTP control messages (R39). -/

/-- An MCTP control message is answered. (Log 24: PRESUMED.) -/
def mctpControl (s : State) (f : State → State) : State := if transportOpen s .mctp then f (hldWake s .mctp) else s

/-- ENDPOINT_DISCOVERY. -/
def execEndpointDiscovery (s : State) : Host.Outcome State Fault Refusal := .next (mctpControl s fun x => emit x (.mctp 0 []))

/-- EID_ASSIGNMENT: 0 and 0xFF name no endpoint, by the MCTP specification. -/
def execEidAssignment (eid : Byte) (s : State) : Host.Outcome State Fault Refusal :=
  .next (mctpControl s fun x =>
    if eid = 0 ∨ eid = 0xFF then emit x (.mctp 2 []) else emit (wr x 0x1101 4 0 eid.toNat) (.mctp 0 [0, eid, 0]))

/-- VERSION_QUERY: the versions are those of the MCTP specification. -/
def execVersionQuery (mtype : Byte) (s : State) : Host.Outcome State Fault Refusal :=
  .next (mctpControl s fun x => emit x (.mctp 0 (Config.fmBytes [0, mtype.toNat])))

/-! The tenant mailbox. -/

/-- DICTIONARY_REQUEST (R434): Tenant privilege; a discarded message is Invalid Input. -/
def execDictionaryRequest (i : InstN) (msg : List Byte) (s : State) : Host.Outcome State Fault Refusal :=
  .next (vendorRun s i.val 0xC000 fun x =>
    if x.mgmt.ready = false then x
    else
      let y := plainRequest x (.tenant i) msg
      match y.2 with
      | some (_, b) => mailboxReply y.1 i.val 0 b
      | none => mailboxReply y.1 i.val 2 [])

end Sys2Proof.Machine
end

