-- ==== Sys2Proof/Machine/Power.lean ====
section
/-!
DEFINITION. The commands of power domains, clocks, droop, temperature and tile rails (chapter 17).
-/
namespace Sys2Proof.Machine

open Sys2Proof

/-- DOMAIN_TARGET. -/
def execDomainTarget (r : Requester) (d : DomainN) (v : Byte) (s : State) : Host.Outcome State Fault Refusal :=
  .next (rowWrite s r 0x9000 1 d.val [v] fun x => domainTargetWrite x d.val v.toNat)

/-- BLOCK_ANSWER. -/
def execBlockAnswer (d : DomainN) (b : BlockId) (a : BlockAns) (s : State) : Host.Outcome State Fault Refusal :=
  .next (blockAnswer s d.val (blockCode b) a)

/-- DELAY_TIMEOUT. -/
def execDelayTimeout (d : DomainN) (b : BlockId) (s : State) : Host.Outcome State Fault Refusal := .next (delayExpires s d.val (blockCode b))

/-- DOMAIN_ENTRY_COMPLETE. -/
def execDomainEntryComplete (d : DomainN) (s : State) : Host.Outcome State Fault Refusal := .next (entryComplete s d.val)

/-- BANK_EMPTY: the bank's acknowledgement. (Log 126: DEDUCED.) -/
def execBankEmpty (t : TileN) (b : Fin 4) (s : State) : Host.Outcome State Fault Refusal :=
  .next (blockAnswer s (32 * t.val + 17 + b.val) (1024 + b.val) .ack)

/-- WAKE_SOURCE. -/
def execWakeSource (d : DomainN) (x : WakeSrc) (s : State) : Host.Outcome State Fault Refusal := .next (wakeSource s d.val x)

/-- IDLE_TIME. -/
def execIdleTime (d : DomainN) (s : State) : Host.Outcome State Fault Refusal := .next (idleEntry s d.val)

/-- PLL_LOCK. -/
def execPllLock (d : DomainN) (s : State) : Host.Outcome State Fault Refusal := .next (wakeDone s d.val)

/-- PLL_LOCK_TIMEOUT. -/
def execPllLockTimeout (d : DomainN) (s : State) : Host.Outcome State Fault Refusal := .next (lockTimeout s d.val)

/-- PLL_LOCK_LOSS. -/
def execPllLockLoss (t : TileN) (pll : Fin 11) (s : State) : Host.Outcome State Fault Refusal := .next (lockLost s t.val pll.val)

/-- CYCLE_COUNT_TRIM: the counts of T1 to T3 are trimmed against T0; by how much, within two cycles, is the part's (R319). -/
def execCycleCountTrim (t : TileN) (s : State) : Host.Outcome State Fault Refusal :=
  .next (if t.val = 0 then s else wr (freeNext s) 0x9101 5 t.val (ofSigned 32 ((Config.freeValue s.free % 5 : Nat) - 2)))

/-- FORCE_OFF. -/
def execForceOff (r : Requester) (d : DomainN) (s : State) : Host.Outcome State Fault Refusal :=
  .next (rowWrite s r 0x9000 8 d.val [1] fun x => forceOffWrite x d.val)

/-- DROOP_CROSSING. -/
def execDroopCrossing (t : TileN) (det : Fin 64) (lvl : DroopLevel) (s : State) : Host.Outcome State Fault Refusal :=
  .next (droopCrosses s t.val det.val (match lvl with | .a => 1 | .b => 2))

/-- STRETCH_RELEASE. -/
def execStretchRelease (t : TileN) (cycles ns : Nat) (s : State) : Host.Outcome State Fault Refusal := .next (stretchEnds s t.val cycles ns)

/-- STRETCH_TIMEOUT. -/
def execStretchTimeout (t : TileN) (s : State) : Host.Outcome State Fault Refusal := .next (stretchLong s t.val)

/-- THERMAL_THRESHOLD. -/
def execThermalThreshold (t : TileN) (lvl : ThermLevel) (s : State) : Host.Outcome State Fault Refusal :=
  .next (thermalCrosses s t.val (match lvl with | .c100 => 1 | .c105 => 2))

/-- THERMAL_HOLD_END. -/
def execThermalHoldEnd (t : TileN) (s : State) : Host.Outcome State Fault Refusal := .next (thermalEnds s t.val)

/-- THERMAL_TRIP. -/
def execThermalTrip (t : TileN) (s : State) : Host.Outcome State Fault Refusal := .next (thermalTrips s t.val)

/-- AVS_ACK. -/
def execAvsAck (rail : TileN) (s : State) : Host.Outcome State Fault Refusal := .next (railAck s rail.val)

/-- AVS_TIMEOUT. -/
def execAvsTimeout (rail : TileN) (s : State) : Host.Outcome State Fault Refusal := .next (railTimeout s rail.val)

/-- PHASE_LOST. -/
def execPhaseLost (rail : TileN) (n : Byte) (s : State) : Host.Outcome State Fault Refusal := .next (phaseLost s rail.val n.toNat)

/-- PHASE_RESTORED. -/
def execPhaseRestored (rail : TileN) (s : State) : Host.Outcome State Fault Refusal := .next (phaseRestored s rail.val)

/-- PWROK_T_RISE. -/
def execPwrokTRise (t : TileN) (s : State) : Host.Outcome State Fault Refusal := .next (pwrokRises s t.val)

/-- PWROK_T_FALL. -/
def execPwrokTFall (t : TileN) (s : State) : Host.Outcome State Fault Refusal := .next (pwrokFalls s t.val)

/-- RAIL_MONITOR. -/
def execRailMonitor (rail : RailSel) (s : State) : Host.Outcome State Fault Refusal := .next (railFails s rail)

end Sys2Proof.Machine
end

