-- ==== Sys2Proof/Machine/Requests.lean ====
section
/-!
DEFINITION. The commands that requests make at the ports: CXL.mem, AtomicOps, CXL.io, PBR and CXL.cache messages, the
walks of the translation and directory caches, and the turns of the schedulers (chapters 5, 9, 14).
-/
namespace Sys2Proof.Machine

open Sys2Proof

/-- MEMRD (R186): a read that asks S, E or the current value. -/
def execMemrd (p : PortN) (hpa : BitVec 64) (ask : Ask) (tag : BitVec 16) (tc : Fin 4) (s : State) : Host.Outcome State Fault Refusal :=
  .next <| hostAccess s p.val (hpa.toNat / 64 * 64)
    { kind := .rd ask, tag := tag.toNat, tc := tc.val, len := 64, cls := 0, opcode := 1, data := [], be := 0, keepS := false }

/-- MEMRDDATA (R186). -/
def execMemrddata (p : PortN) (hpa : BitVec 64) (tag : BitVec 16) (tc : Fin 4) (s : State) : Host.Outcome State Fault Refusal :=
  .next <| hostAccess s p.val (hpa.toNat / 64 * 64)
    { kind := .rdData, tag := tag.toNat, tc := tc.val, len := 64, cls := 0, opcode := 2, data := [], be := 0, keepS := false }

/-- MEMINV (R186). -/
def execMeminv (p : PortN) (hpa : BitVec 64) (ask : Ask) (tag : BitVec 16) (tc : Fin 4) (s : State) : Host.Outcome State Fault Refusal :=
  .next <| hostAccess s p.val (hpa.toNat / 64 * 64)
    { kind := .inv ask, tag := tag.toNat, tc := tc.val, len := 0, cls := 0, opcode := 0, data := [], be := 0, keepS := false }

/-- MEMWR (R186): a whole line, or the bytes that the byte enables name. -/
def execMemwr (p : PortN) (hpa : BitVec 64) (data : List Byte) (be : BitVec 64) (keepS : Bool) (tag : BitVec 16) (tc : Fin 4) (s : State) :
    Host.Outcome State Fault Refusal :=
  .next <| hostAccess s p.val (hpa.toNat / 64 * 64)
    { kind := .wr, tag := tag.toNat, tc := tc.val, len := 64, cls := 1, opcode := if be.toNat = 2 ^ 64 - 1 then 1 else 2
      data := padTo data 64, be := be.toNat, keepS := keepS }

/-- MEMCLNEVCT (R186). -/
def execMemclnevct (p : PortN) (hpa : BitVec 64) (tag : BitVec 16) (tc : Fin 4) (s : State) : Host.Outcome State Fault Refusal :=
  .next <| hostAccess s p.val (hpa.toNat / 64 * 64)
    { kind := .clnEvct, tag := tag.toNat, tc := tc.val, len := 0, cls := 0, opcode := 10, data := [], be := 0, keepS := false }

/-- MEMSPECRD (R207): no response. -/
def execMemspecrd (p : PortN) (hpa : BitVec 64) (s : State) : Host.Outcome State Fault Refusal :=
  .next <| hostAccess s p.val (hpa.toNat / 64 * 64)
    { kind := .specRd, tag := 0, tc := 0, len := 0, cls := 0, opcode := 8, data := [], be := 0, keepS := false }

/-- ATOMICOP (R204): one that the base specification does not have is completed with Unsupported Request. (Log 67: PRESUMED.) -/
def execAtomicop (p : PortN) (hpa : BitVec 64) (k : AtomKind) (size : AtomSize) (a b : BitVec 128) (tag : BitVec 16) (tc : Fin 4) (s : State) :
    Host.Outcome State Fault Refusal :=
  .next <|
    if takesMem s p.val = false then s
    else if atomOk k size hpa.toNat = false then emit (portEvent s p.val 3 1 none 6) (.response p.val tag.toNat (.io 1 []))
    else hostAccess s p.val hpa.toNat
      { kind := .atomic k size a.toNat b.toNat, tag := tag.toNat, tc := tc.val, len := atomLen k size, cls := 6, opcode := atomOpcode k
        data := [], be := 0, keepS := false }

/-- BIRSP (R187). -/
def execBirsp (p : PortN) (key : LineN) (rsp : BiRsp) (data : Option (List Byte)) (s : State) : Host.Outcome State Fault Refusal :=
  .next (
    let q := getPort s p.val
    let k := key.toNat
    if linkUp s p.val = false then s
    else if (getLine s k).snoops.any (fun e => e.1 == p.val) = false ∧ q.lateSnoops.contains k = true then
      bump (setPort s p.val { q with lateSnoops := q.lateSnoops.erase k }) 0x2200 8 p.val 64 1
    else snoopAnswer s k p.val rsp data)

/-- BICONFLICT (R188): the acknowledgement follows the record of the snoop. -/
def execBiconflict (p : PortN) (key : LineN) (s : State) : Host.Outcome State Fault Refusal :=
  .next <|
    if linkUp s p.val then
      pushEgress (largeEvent s (68 + lineHome s key.toNat) 6 1) p.val
        { cls := 16, low := false, len := 0, line := none, out := .conflictAck (hostAddr s p.val key.toNat), sample := none }
    else s

/-- SLICE_RESPONSE (R200). -/
def execSliceResponse (t : TileN) (key : LineN) (data : Option (List Byte)) (s : State) : Host.Outcome State Fault Refusal :=
  .next (sliceAnswer s t.val key.toNat data)

/-- CXL_IO_REQUEST (R101). -/
def execCxlIoRequest (p : PortN) (req : IoReq) (s : State) : Host.Outcome State Fault Refusal := .next (ioRequest s p.val req)

/-- CXL_IO_COMPLETION (R114). -/
def execCxlIoCompletion (p dst : PortN) (tag : BitVec 16) (bytes : Nat) (s : State) : Host.Outcome State Fault Refusal :=
  .next (ioCompletion s p.val dst.val tag.toNat bytes)

/-- PBR_REQUEST (R101). -/
def execPbrRequest (p : PortN) (pid : Fin 4096) (req : PbrReq) (s : State) : Host.Outcome State Fault Refusal :=
  .next (pbrRequest s p.val pid.val req)

/-- CXL_CACHE_MESSAGE (R180). -/
def execCxlCacheMessage (p dst : PortN) (cacheId : Fin 16) (d2h : Bool) (ch : CacheChannel) (tag : BitVec 16) (bytes : Nat) (s : State) :
    Host.Outcome State Fault Refusal :=
  .next (cacheMessage s p.val dst.val cacheId.val d2h ch tag.toNat bytes)

/-- The number of a walk's cache. -/
def walkKind (k : WalkKind) : Nat :=
  match k with
  | .index => 0 | .remap => 1 | .block => 2 | .directory => 3 | .frame => 4 | .tag => 5

/-- WALK_COMPLETE (R141, R162, R184, R229). -/
def execWalkComplete (t : TileN) (k : WalkKind) (key : Nat) (s : State) : Host.Outcome State Fault Refusal :=
  .next (if k = .directory then dirFill s t.val key else cacheFill s (walkKind k) t.val key)

/-- EGRESS_SCHEDULE (R311 to R314). -/
def execEgressSchedule (q : SchedN) (s : State) : Host.Outcome State Fault Refusal := .next (egressTurn s (schedOf q.val))

end Sys2Proof.Machine
end

