-- ==== Sys2Proof/Machine/Slots.lean ====
section
/-!
DEFINITION. The commands of the slot controllers (chapter 18).
-/
namespace Sys2Proof.Machine

open Sys2Proof

/-- SLOT_TARGET. -/
def execSlotTarget (r : Requester) (n : SlotN) (v : Byte) (s : State) : Host.Outcome State Fault Refusal :=
  .next (rowWrite s r 0xA000 1 n.val [v] fun x => slotTargetWrite x n.val v.toNat true)

/-- POWER_CONTROLLER_CONTROL. -/
def execPowerControllerControl (p : PortN) (on : Bool) (s : State) : Host.Outcome State Fault Refusal := .next (powerControl s p.val on)

/-- SLOT_EN_RISE. -/
def execSlotEnRise (n : SlotN) (lowFor10ms : Bool) (s : State) : Host.Outcome State Fault Refusal := .next (slotEnRises s n.val lowFor10ms)

/-- SLOT_EN_FALL. -/
def execSlotEnFall (n : SlotN) (s : State) : Host.Outcome State Fault Refusal := .next (slotEnFalls s n.val)

/-- STAGGER. -/
def execSlotStagger (n : SlotN) (s : State) : Host.Outcome State Fault Refusal :=
  .next (if slotNow s n.val = 1 then wr s 0xA000 2 n.val 2 else s)

/-- POWER_GOOD. -/
def execPowerGood (n : SlotN) (energy : BitVec 32) (s : State) : Host.Outcome State Fault Refusal := .next (slotGood s n.val energy.toNat)

/-- START_TIMEOUT. -/
def execStartTimeout (n : SlotN) (s : State) : Host.Outcome State Fault Refusal :=
  .next (if slotNow s n.val = 2 then tripSlot s n.val 4 else s)

/-- BREAKER_TRIP. -/
def execBreakerTrip (n : SlotN) (s : State) : Host.Outcome State Fault Refusal :=
  .next (tripOn s n.val (if slotNow s n.val = 2 then 3 else 2))

/-- FAST_TRIP: a channel that has failed trips nothing. -/
def execFastTrip (n : SlotN) (ch : Chan) (s : State) : Host.Outcome State Fault Refusal :=
  .next (if bit (rd s 0xA000 23 n.val) (match ch with | .a => 0 | .b => 1) then s else tripOn s n.val 1)

/-- FET_TEMPERATURE_TRIP. -/
def execFetTemperatureTrip (n : SlotN) (s : State) : Host.Outcome State Fault Refusal := .next (tripOn s n.val 5)

/-- MODEL_UPDATE. -/
def execModelUpdate (n : SlotN) (m : Meas) (s : State) : Host.Outcome State Fault Refusal := .next (measureSlot s n.val m)

/-- CHANNEL_CHECK. -/
def execChannelCheck (n : SlotN) (aGood bGood : Bool) (s : State) : Host.Outcome State Fault Refusal := .next (checkChannels s n.val aGood bGood)

/-- CHANNEL_DISAGREEMENT. -/
def execChannelDisagreement (n : SlotN) (a b : BitVec 32) (s : State) : Host.Outcome State Fault Refusal :=
  .next (channelsDisagree s n.val a.toInt b.toInt)

/-- PWRWARN. -/
def execSlotPwrwarn (n : SlotN) (vin : BitVec 16) (s : State) : Host.Outcome State Fault Refusal :=
  .next (warnSlot (slotSeesVin s n.val vin.toNat) n.val)

/-- PWRWARN_RECOVERY. -/
def execPwrwarnRecovery (n : SlotN) (s : State) : Host.Outcome State Fault Refusal := .next (unwarnSlot s n.val)

/-- INPUT_LOSS. -/
def execInputLoss (n : SlotN) (k : LossKind) (s : State) : Host.Outcome State Fault Refusal := .next (inputStop s n.val k)

/-- WARNING_LEAD_END. -/
def execWarningLeadEnd (n : SlotN) (s : State) : Host.Outcome State Fault Refusal :=
  .next (if slotNow s n.val = 4 then stopSlot s n.val true else s)

/-- STOP_COMPLETE. -/
def execStopComplete (n : SlotN) (s : State) : Host.Outcome State Fault Refusal :=
  .next (if slotNow s n.val = 5 then tryStart (wr s 0xA000 2 n.val 0) n.val else s)

/-- OFF_TIME_END. -/
def execOffTimeEnd (n : SlotN) (s : State) : Host.Outcome State Fault Refusal :=
  .next (tryStart (setSlot s n.val { getSlot s n.val with offTime := false }) n.val)

end Sys2Proof.Machine
end

