-- ==== Sys2Proof/Machine/Spdm.lean ====
section
/-!
DEFINITION. The commands of a port's SPDM responder, IDE and attestation (R411 to R413).
-/
namespace Sys2Proof.Machine

open Sys2Proof

/-- GET_VERSION: SPDM 1.2. -/
def execGetVersion (p : PortN) (s : State) : Host.Outcome State Fault Refusal :=
  .next (spdmAsk s p.val 0 fun x => spdmSay (spdmPhase x p.val 1) p.val 0x04 [0, 1, 0, 0x12])

/-- GET_CAPABILITIES: certificates, challenge, measurements with signature, encryption, MAC, key exchange. -/
def execGetCapabilities (p : PortN) (s : State) : Host.Outcome State Fault Refusal :=
  .next (spdmAsk s p.val 1 fun x => spdmSay (spdmPhase x p.val 2) p.val 0x61 (zeros 5 ++ le 4 0x2F6))

/-- NEGOTIATE_ALGORITHMS. -/
def execNegotiateAlgorithms (p : PortN) (req : List Byte) (s : State) : Host.Outcome State Fault Refusal :=
  .next (spdmAsk s p.val 2 fun x => spdmSay (spdmPhase x p.val 3) p.val 0x63 (Config.spdmAlgorithms req))

/-- GET_DIGESTS: slot 0 alone. -/
def execGetDigests (p : PortN) (s : State) : Host.Outcome State Fault Refusal :=
  .next (spdmAsk s p.val 3 fun x => spdmSay x p.val 0x01 ([0, 1] ++ certDigest))

/-- GET_CERTIFICATE. -/
def execGetCertificate (p : PortN) (slot : Byte) (offset length : BitVec 16) (s : State) : Host.Outcome State Fault Refusal :=
  .next (spdmAsk s p.val 3 fun x => spdmCertificateIn x p.val slot.toNat offset.toNat length.toNat)

/-- CHALLENGE. -/
def execSpdmChallenge (p : PortN) (slot : Byte) (nonce : List Byte) (s : State) : Host.Outcome State Fault Refusal :=
  .next (spdmAsk s p.val 3 fun x => spdmChallengeIn x p.val slot.toNat nonce)

/-- GET_MEASUREMENTS. -/
def execGetMeasurements (p : PortN) (op : Byte) (nonce : List Byte) (s : State) : Host.Outcome State Fault Refusal :=
  .next (spdmAsk s p.val 3 fun x => spdmMeasureIn x p.val op.toNat nonce)

/-- KEY_EXCHANGE. -/
def execKeyExchange (p : PortN) (req : List Byte) (s : State) : Host.Outcome State Fault Refusal :=
  .next (spdmAsk s p.val 3 fun x => spdmExchangeIn x p.val req)

/-- FINISH. -/
def execSpdmFinish (p : PortN) (sid : Fin 2) (mac : List Byte) (s : State) : Host.Outcome State Fault Refusal :=
  .next (spdmAsk s p.val 3 fun x => spdmFinishIn x p.val sid.val mac)

/-- END_SESSION. -/
def execEndSession (p : PortN) (sid : Fin 2) (s : State) : Host.Outcome State Fault Refusal :=
  .next (spdmAsk s p.val 3 fun x => spdmEndIn x p.val sid.val)

/-- KEY_PROG. -/
def execKeyProg (p : PortN) (sid : Fin 2) (stream : Byte) (keySet : Bool) (key : List Byte) (s : State) : Host.Outcome State Fault Refusal :=
  .next (ideAsk s p.val sid.val fun x => keyProgIn x p.val stream.toNat keySet key)

/-- K_SET_GO. -/
def execKSetGo (p : PortN) (sid : Fin 2) (stream : Byte) (keySet : Bool) (s : State) : Host.Outcome State Fault Refusal :=
  .next (ideAsk s p.val sid.val fun x => keySetGoIn x p.val stream.toNat keySet)

/-- IDE_REFRESH. -/
def execIdeRefresh (p : PortN) (s : State) : Host.Outcome State Fault Refusal := .next (ideRefresh s p.val)

/-- IDE_INTEGRITY_FAILURE. -/
def execIdeIntegrityFailure (p : PortN) (stream : Byte) (s : State) : Host.Outcome State Fault Refusal :=
  .next (ideFailure s p.val stream.toNat)

/-- ATTEST_NOW. -/
def execAttestNow (r : Requester) (p : PortN) (s : State) : Host.Outcome State Fault Refusal :=
  .next (rowWrite s r 0xD010 6 p.val [1] fun x => attestWrite x p.val)

end Sys2Proof.Machine
end

