-- ==== Sys2Proof/Machine/Startup.lean ====
section
/-!
DEFINITION. The commands of start-up, reset and the pins, a link coming up, and the ends of actions that are steps of their own.
-/
namespace Sys2Proof.Machine

open Sys2Proof

/-- POWER_ON (R397 to R400): PWROK_AON rises. (Log 141: DESIGN CHOICE.) -/
def execPowerOn (b : PowerUp) (s : State) : Host.Outcome State Fault Refusal := .next (if s.pwr.aonOk then s else powerUp s b)

/-- VDD_HLD_IN_RANGE (R424): the Headland die leaves reset, unless TEST_N holds it. -/
def execVddHldInRange (s : State) : Host.Outcome State Fault Refusal :=
  .next (
    if s.pwr.aonOk = true ∧ s.pwr.hldOk = false then
      let s1 := { s with pwr := { s.pwr with hldOk := true } }
      if s.sec.stage = 1 then releaseHeadland s1 else s1
    else s)

/-- BOOT_COMPLETE (R401). -/
def execBootComplete (s : State) : Host.Outcome State Fault Refusal := .next (bootEnds s)

/-- PWROK_AON_FALL (R424). -/
def execPwrokAonFall (s : State) : Host.Outcome State Fault Refusal := .next (powerFails s)

/-- PERST_N (R402). -/
def execPerstN (g : GroupN) (s : State) : Host.Outcome State Fault Refusal := .next (if s.pwr.aonOk then perstGroup s g.val else s)

/-- HEADLAND_WARM_RESET (R344). -/
def execHeadlandWarmReset (s : State) : Host.Outcome State Fault Refusal := .next (headlandReset s)

/-- DEVICE_RESET (R402): after the reply. -/
def execDeviceReset (r : Requester) (s : State) : Host.Outcome State Fault Refusal :=
  .next (promisedReset (rowWrite s r 0x1201 1 0 (be 4 1) fun x => deviceResetWrite x 1))

/-- DEVICE_RESET_IGNORE_BOOTSEL (R402): after the reply, and with BOOTSEL's RECOVERY selection ignored once. -/
def execDeviceResetIgnoreBootsel (r : Requester) (s : State) : Host.Outcome State Fault Refusal :=
  .next (promisedReset (rowWrite s r 0x1201 1 0 (be 4 2) fun x => deviceResetWrite x 2))

/-- LINK_UP (R85); the last link that a mode transition waits for completes it (R50). -/
def execLinkUp (p : PortN) (x : Partner) (s : State) : Host.Outcome State Fault Refusal :=
  .next (
    let s1 := portUp s p.val x
    if rd s1 0x1200 3 0 = 3 ∧ s1.mode.waitPorts = [] then finishMode s1 else s1)

/-- The end of an action while it runs. -/
def actionEnds (s : State) (idx sub q : Nat) (f : State → State) : State := if cmdRunning s idx sub q then f s else s

/-- ACTION_COMPLETE (R25): err is 0, or the REASON of the failure. -/
def execActionComplete (a : ActionId) (err : Byte) (s : State) : Host.Outcome State Fault Refusal :=
  .next (
    let e := err.toNat
    match a with
    | .commitDelta => actionEnds s 0x1213 1 0 fun x => commitEnd x e
    | .clearDelta => actionEnds s 0x1213 2 0 fun x => clearDeltaEnd x e
    | .cfgActivate => actionEnds s 0x1212 1 0 fun x => cfgActivateEnd x e
    | .fwBegin => actionEnds s 0xD100 6 0 fun x => cmdEnd x 0xD100 6 0 (if e = 0 then 2 else 3) e
    | .fwVerify => actionEnds s 0xD100 7 0 fun x => verifyEnd x e
    | .fwActivate => actionEnds s 0xD100 8 0 fun x => activateEnd x e
    | .fwMicrocode => actionEnds s 0xD100 11 0 fun x => applyEnd x e
    | .fwConfirm => actionEnds s 0xD100 9 0 fun x => confirmEnd x e
    | .fwRevert => actionEnds s 0xD100 12 0 fun x => revertEnd x e
    | .swapBack g => actionEnds s 0x2140 11 (256 + g.val) fun x => swapBackEnd x g.val e
    | .repair l => actionEnds s 0x3100 12 l.val fun x => repairEnd x l.val e
    | .attest p => actionEnds s 0xD010 6 p.val fun x => attestEnd x p.val e)

end Sys2Proof.Machine
end

