-- ==== Sys2Proof/Machine/Steps.lean ====
section
/-!
DEFINITION. The steps that any table may hold, and the two vendor steps (chapter 12): one meaning for each row of Table 12-3, but for the
system operations.
-/
namespace Sys2Proof.Machine

open Sys2Proof

/-! Control and events (Table 12-4). -/

/-- NOP. -/
def execStepNop (c : CtxN) (f : StepF) (s : State) : Host.Outcome State Fault Refusal := .next (plainStep s c.val 0x01 f fun k => k)

/-- END (R265). -/
def execStepEnd (c : CtxN) (f : StepF) (s : State) : Host.Outcome State Fault Refusal :=
  .next (issue s c.val 0x02 f fun x =>
    let y := account x c.val
    let k := getCtx y c.val
    endInvocation y c.val (if k.handler = true ∧ f.imm.toNat ≠ 1 then k.fault else 0))

/-- YIELD (R252): the ring's pointer has moved one past the context, which is behind every other ready one. -/
def execStepYield (c : CtxN) (f : StepF) (s : State) : Host.Outcome State Fault Refusal := .next (plainStep s c.val 0x03 f fun k => k)

/-- WAIT (R252): the lowest pending event of the mask is consumed, or the context enters event wait. -/
def waitStep (s : State) (c : Nat) (f : StepF) : State :=
  issue s c 0x04 f fun x =>
    let y := retire x c
    match lowestBit (pendingOf y c &&& f.imm.toNat) with
    | some ev =>
      let z := consume y c ev
      setCtx z c (setReg (getCtx z c) f.rd.val ev)
    | none => setCtx y c { getCtx y c with st := 4, evmask := f.imm.toNat, waitRd := f.rd.val }

/-- WAIT. -/
def execStepWait (c : CtxN) (f : StepF) (s : State) : Host.Outcome State Fault Refusal := .next (waitStep s c.val f)

/-- SIGNAL: an event of the context's own group, or of a group of its cluster. -/
def execStepSignal (c : CtxN) (f : StepF) (s : State) : Host.Outcome State Fault Refusal :=
  .next (issue s c.val 0x05 f fun x =>
    let y := retire x c.val
    signalGroup y (ctxCluster c.val) (if bit f.imm.toNat 16 then (getCtx y c.val).wgroup else bits f.imm.toNat 15 8) (f.imm.toNat % 32))

/-- TIMER: the low 32 bits of the operand, in core cycles from now; 0 cancels. -/
def execStepTimer (c : CtxN) (f : StepF) (s : State) : Host.Outcome State Fault Refusal :=
  .next (plainStep s c.val 0x06 f fun k =>
    let n := operand k f % 2 ^ 32
    { k with timer := if n = 0 then none else some (tileCycles s (ctxTile c.val) + n) })

/-- The values of Table 12-6, in the context as the step leaves it. -/
def sysrValue (s : State) (c sel : Nat) (k : Ctx) : Nat :=
  if sel = 0 then tileCycles s (ctxTile c)
  else if sel = 1 then k.budget
  else if sel = 2 then (if k.sys then 0xFFFF else k.inst)
  else if sel = 3 then k.queue
  else if sel = 4 then k.tag
  else if sel = 5 then c
  else if sel = 6 then pendingOf s c
  else k.steps

/-- SYSR. -/
def execStepSysr (c : CtxN) (f : StepF) (s : State) : Host.Outcome State Fault Refusal :=
  .next (plainStep s c.val 0x07 f fun k => setReg k f.rd.val (sysrValue s c.val (f.imm.toNat % 256) k))

/-- RDF. -/
def execStepRdf (c : CtxN) (f : StepF) (s : State) : Host.Outcome State Fault Refusal :=
  .next (plainStep s c.val 0x08 f fun k => setReg k f.rd.val (flagBits (ctxFlags k)))

/-- WRF. -/
def execStepWrf (c : CtxN) (f : StepF) (s : State) : Host.Outcome State Fault Refusal :=
  .next (plainStep s c.val 0x09 f fun k => setFlags k (flagsOf (operand k f)))

/-- BR. -/
def execStepBr (c : CtxN) (f : StepF) (s : State) : Host.Outcome State Fault Refusal :=
  .next (plainStep s c.val 0x10 f fun k => if condHolds f.cond.val (ctxFlags k) then { k with sp := f.target.val } else k)

/-- LOOP (R264). -/
def execStepLoop (c : CtxN) (f : StepF) (s : State) : Host.Outcome State Fault Refusal :=
  .next (plainStep s c.val 0x11 f fun k =>
    let n := reg k f.ra.val
    if n + 1 < f.imm.toNat then { setReg k f.ra.val (n + 1) with sp := f.target.val } else k)

/-- MOV. -/
def execStepMov (c : CtxN) (f : StepF) (s : State) : Host.Outcome State Fault Refusal :=
  .next (plainStep s c.val 0x18 f fun k => setReg k f.rd.val (operand k f))

/-- CSEL. -/
def execStepCsel (c : CtxN) (f : StepF) (s : State) : Host.Outcome State Fault Refusal :=
  .next (plainStep s c.val 0x19 f fun k => setReg k f.rd.val (if condHolds f.cond.val (ctxFlags k) then reg k f.ra.val else reg k f.rb.val))

/-- SEXT. -/
def execStepSext (c : CtxN) (f : StepF) (s : State) : Host.Outcome State Fault Refusal :=
  .next (plainStep s c.val 0x1A f fun k => setReg k f.rd.val (signExtend (2 ^ f.sz.val) (reg k f.ra.val)))

/-! Arithmetic and logic (Table 12-5). -/

/-- ADD. -/
def execStepAdd (c : CtxN) (f : StepF) (s : State) : Host.Outcome State Fault Refusal :=
  .next (aluStep s c.val 0x20 f fun w a b g => aluAdd w a b 0 g)

/-- ADC. -/
def execStepAdc (c : CtxN) (f : StepF) (s : State) : Host.Outcome State Fault Refusal :=
  .next (aluStep s c.val 0x21 f fun w a b g => aluAdd w a b (b2n g.c) g)

/-- SUB. -/
def execStepSub (c : CtxN) (f : StepF) (s : State) : Host.Outcome State Fault Refusal :=
  .next (aluStep s c.val 0x22 f fun w a b g => aluSub w a b 0 g)

/-- SBB. -/
def execStepSbb (c : CtxN) (f : StepF) (s : State) : Host.Outcome State Fault Refusal :=
  .next (aluStep s c.val 0x23 f fun w a b g => aluSub w a b (b2n g.c) g)

/-- NEG. -/
def execStepNeg (c : CtxN) (f : StepF) (s : State) : Host.Outcome State Fault Refusal :=
  .next (aluStep s c.val 0x24 f fun w a _ g => aluNeg w a g)

/-- CMP. -/
def execStepCmp (c : CtxN) (f : StepF) (s : State) : Host.Outcome State Fault Refusal :=
  .next (flagStep s c.val 0x25 f fun w a b g => aluSub w a b 0 g)

/-- MUL. -/
def execStepMul (c : CtxN) (f : StepF) (s : State) : Host.Outcome State Fault Refusal := .next (aluStep s c.val 0x26 f aluMul)

/-- MULHU. -/
def execStepMulhu (c : CtxN) (f : StepF) (s : State) : Host.Outcome State Fault Refusal := .next (aluStep s c.val 0x27 f aluMulhu)

/-- MULHS. -/
def execStepMulhs (c : CtxN) (f : StepF) (s : State) : Host.Outcome State Fault Refusal := .next (aluStep s c.val 0x28 f aluMulhs)

/-- DIVU. -/
def execStepDivu (c : CtxN) (f : StepF) (s : State) : Host.Outcome State Fault Refusal := .next (divStep s c.val 0x29 f aluDivu)

/-- DIVS. -/
def execStepDivs (c : CtxN) (f : StepF) (s : State) : Host.Outcome State Fault Refusal := .next (divStep s c.val 0x2A f aluDivs)

/-- REMU. -/
def execStepRemu (c : CtxN) (f : StepF) (s : State) : Host.Outcome State Fault Refusal := .next (divStep s c.val 0x2B f aluRemu)

/-- REMS. -/
def execStepRems (c : CtxN) (f : StepF) (s : State) : Host.Outcome State Fault Refusal := .next (divStep s c.val 0x2C f aluRems)

/-- MINU. -/
def execStepMinu (c : CtxN) (f : StepF) (s : State) : Host.Outcome State Fault Refusal := .next (aluStep s c.val 0x2D f aluMinu)

/-- MAXU. -/
def execStepMaxu (c : CtxN) (f : StepF) (s : State) : Host.Outcome State Fault Refusal := .next (aluStep s c.val 0x2E f aluMaxu)

/-- MINS. -/
def execStepMins (c : CtxN) (f : StepF) (s : State) : Host.Outcome State Fault Refusal := .next (aluStep s c.val 0x2F f aluMins)

/-- MAXS. -/
def execStepMaxs (c : CtxN) (f : StepF) (s : State) : Host.Outcome State Fault Refusal := .next (aluStep s c.val 0x30 f aluMaxs)

/-- AND. -/
def execStepAnd (c : CtxN) (f : StepF) (s : State) : Host.Outcome State Fault Refusal := .next (aluStep s c.val 0x38 f aluAnd)

/-- OR. -/
def execStepOr (c : CtxN) (f : StepF) (s : State) : Host.Outcome State Fault Refusal := .next (aluStep s c.val 0x39 f aluOr)

/-- XOR. -/
def execStepXor (c : CtxN) (f : StepF) (s : State) : Host.Outcome State Fault Refusal := .next (aluStep s c.val 0x3A f aluXor)

/-- TST. -/
def execStepTst (c : CtxN) (f : StepF) (s : State) : Host.Outcome State Fault Refusal := .next (flagStep s c.val 0x3B f aluAnd)

/-- LSL. -/
def execStepLsl (c : CtxN) (f : StepF) (s : State) : Host.Outcome State Fault Refusal := .next (shiftStep s c.val 0x3C f aluLsl)

/-- LSR. -/
def execStepLsr (c : CtxN) (f : StepF) (s : State) : Host.Outcome State Fault Refusal := .next (shiftStep s c.val 0x3D f aluLsr)

/-- ASR. -/
def execStepAsr (c : CtxN) (f : StepF) (s : State) : Host.Outcome State Fault Refusal := .next (shiftStep s c.val 0x3E f aluAsr)

/-- ROL. -/
def execStepRol (c : CtxN) (f : StepF) (s : State) : Host.Outcome State Fault Refusal := .next (shiftStep s c.val 0x3F f aluRol)

/-- ROR. -/
def execStepRor (c : CtxN) (f : StepF) (s : State) : Host.Outcome State Fault Refusal := .next (shiftStep s c.val 0x40 f aluRor)

/-- POPC. -/
def execStepPopc (c : CtxN) (f : StepF) (s : State) : Host.Outcome State Fault Refusal :=
  .next (aluStep s c.val 0x41 f fun w a _ g => aluPopc w a g)

/-- CLZ. -/
def execStepClz (c : CtxN) (f : StepF) (s : State) : Host.Outcome State Fault Refusal :=
  .next (aluStep s c.val 0x42 f fun w a _ g => aluClz w a g)

/-- BSWAP. -/
def execStepBswap (c : CtxN) (f : StepF) (s : State) : Host.Outcome State Fault Refusal :=
  .next (aluStep s c.val 0x43 f fun w a _ g => aluBswap w a g)

/-- CRC: RD updated by the SZ bytes of W[RA], least significant first. -/
def execStepCrc (c : CtxN) (f : StepF) (s : State) : Host.Outcome State Fault Refusal :=
  .next (plainStep s c.val 0x48 f fun k =>
    setReg k f.rd.val (crcUpdate (bit f.imm.toNat 8) (reg k f.rd.val) (le (2 ^ f.sz.val) (reg k f.ra.val))))

/-- LCRC: RD updated by lines of instance memory. -/
def execStepLcrc (c : CtxN) (f : StepF) (s : State) : Host.Outcome State Fault Refusal :=
  .next (
    let a := reg (getCtx s c.val) f.ra.val
    memStep s c.val 0x49 f [(a, 64)] [⟨a, 64 * lineCount f, false⟩] fun x k => readLines x k 0x49 f a (lineCount f))

/-! Scratch (R246). -/

/-- The bytes of a context's scratch window. -/
def scratchSize (k : Ctx) : Nat := if k.sys then 4096 else 256

/-- A scratch step: alignment, then the window. (Log 104: DEDUCED.) -/
def scratchStep (s : State) (c op : Nat) (f : StepF) (g : Ctx → Nat → Ctx) : State :=
  issue s c op f fun x =>
    let k := getCtx x c
    let a := stepAddr k f
    let n := 2 ^ f.sz.val
    if a % n ≠ 0 then faultStep x c 0x0D 0 a
    else if scratchSize k < a + n then faultStep x c 6 0 a
    else
      let y := retire x c
      setCtx y c (g (getCtx y c) a)

/-- SLD. -/
def execStepSld (c : CtxN) (f : StepF) (s : State) : Host.Outcome State Fault Refusal :=
  .next (scratchStep s c.val 0x50 f fun k a =>
    setReg k f.rd.val (ofLe ((List.range (2 ^ f.sz.val)).map fun j => look 0 k.scratch (a + j))))

/-- SST. -/
def execStepSst (c : CtxN) (f : StepF) (s : State) : Host.Outcome State Fault Refusal :=
  .next (scratchStep s c.val 0x51 f fun k a =>
    { k with scratch := (List.range (2 ^ f.sz.val)).foldl (fun m j => put m (a + j) (nth 0 (le (2 ^ f.sz.val) (reg k f.rb.val)) j)) k.scratch })

/-! Instance and pool memory (Table 12-8). -/

/-- LD. -/
def execStepLd (c : CtxN) (f : StepF) (s : State) : Host.Outcome State Fault Refusal :=
  .next (
    let a := stepAddr (getCtx s c.val) f
    let n := 2 ^ f.sz.val
    memStep s c.val 0x58 f [(a, n)] [⟨a, n, false⟩] fun x k => [lineAccess x k 0x58 f a])

/-- A store of a value of `n` bytes. -/
def storeAcc (s : State) (k : Ctx) (op : Nat) (f : StepF) (a n v : Nat) : LineAcc :=
  { lineAccess s k op f a with write := true, data := (placeBytes a n v).1, be := (placeBytes a n v).2 }

/-- ST. -/
def execStepSt (c : CtxN) (f : StepF) (s : State) : Host.Outcome State Fault Refusal :=
  .next (
    let a := stepAddr (getCtx s c.val) f
    let n := 2 ^ f.sz.val
    memStep s c.val 0x59 f [(a, n)] [⟨a, n, true⟩] fun x k => [storeAcc x k 0x59 f a n (reg k f.rb.val)])

/-- LCOPY (R271). -/
def execStepLcopy (c : CtxN) (f : StepF) (s : State) : Host.Outcome State Fault Refusal :=
  .next (
    let d := reg (getCtx s c.val) f.ra.val
    let a := reg (getCtx s c.val) f.rb.val
    let n := lineCount f
    memStep s c.val 0x5A f [(d, 64), (a, 64)] [⟨a, 64 * n, false⟩, ⟨d, 64 * n, true⟩] fun x k => copyAccs x k 0x5A f d a n)

/-- LFILL: each line holds W[RB] eight times. -/
def execStepLfill (c : CtxN) (f : StepF) (s : State) : Host.Outcome State Fault Refusal :=
  .next (
    let d := reg (getCtx s c.val) f.ra.val
    let n := lineCount f
    memStep s c.val 0x5B f [(d, 64)] [⟨d, 64 * n, true⟩] fun x k =>
      (List.range n).map fun i =>
        { lineAccess x k 0x5B f (d + 64 * i) with write := true, be := 2 ^ 64 - 1, data := (List.replicate 8 (le 8 (reg k f.rb.val))).flatten })

/-- LCMP. -/
def execStepLcmp (c : CtxN) (f : StepF) (s : State) : Host.Outcome State Fault Refusal :=
  .next (
    let a := reg (getCtx s c.val) f.ra.val
    let b := reg (getCtx s c.val) f.rb.val
    let n := lineCount f
    memStep s c.val 0x5C f [(a, 64), (b, 64)] [⟨a, 64 * n, false⟩, ⟨b, 64 * n, false⟩] fun x k =>
      readLines x k 0x5C f a n ++ readLines x k 0x5C f b n)

/-- AADD (R273). -/
def execStepAadd (c : CtxN) (f : StepF) (s : State) : Host.Outcome State Fault Refusal :=
  .next (atomicStep s c.val 0x60 f .fetchAdd (atomSize f) (fun k => reg k f.rb.val) fun _ => 0)

/-- ASWP. -/
def execStepAswp (c : CtxN) (f : StepF) (s : State) : Host.Outcome State Fault Refusal :=
  .next (atomicStep s c.val 0x61 f .swap (atomSize f) (fun k => reg k f.rb.val) fun _ => 0)

/-- ACAS. -/
def execStepAcas (c : CtxN) (f : StepF) (s : State) : Host.Outcome State Fault Refusal :=
  .next (atomicStep s c.val 0x62 f .cas (atomSize f) (fun k => reg k f.rb.val) fun k => reg k f.rc.val)

/-- A register pair: the even register holds bits 63 to 0. -/
def regPair (k : Ctx) (r : Nat) : Nat := reg k r + 2 ^ 64 * reg k (r + 1)

/-- ACAS128. -/
def execStepAcas128 (c : CtxN) (f : StepF) (s : State) : Host.Outcome State Fault Refusal :=
  .next (atomicStep s c.val 0x63 f .cas .w128 (fun k => regPair k f.rb.val) fun k => regPair k f.rc.val)

/-! Host memory (R274). -/

/-- A host step on an address: alignment, then the function's egress. -/
def hostStep (s : State) (c op : Nat) (f : StepF) (go : State → Nat → Nat → State) : State :=
  issue s c op f fun x =>
    let k := getCtx x c
    let a := stepAddr k f
    if a % 2 ^ f.sz.val ≠ 0 then faultStep x c 0x0D 0 a
    else
      match fnOpen x k.inst with
      | some fn => go x fn a
      | none => faultStep x c 7 0 a

/-- XLD. -/
def execStepXld (c : CtxN) (f : StepF) (s : State) : Host.Outcome State Fault Refusal :=
  .next (hostStep s c.val 0x68 f fun x fn a => hostFetch x c.val fn a (2 ^ f.sz.val) { pendInit 0x68 f with addr := a })

/-- XST: posted, complete when sent. -/
def execStepXst (c : CtxN) (f : StepF) (s : State) : Host.Outcome State Fault Refusal :=
  .next (hostStep s c.val 0x69 f fun x fn a =>
    startPend (emit x (.hostWrite fn a (le (2 ^ f.sz.val) (reg (getCtx x c.val) f.rb.val)))) c.val { pendInit 0x69 f with addr := a })

/-- XCPY: lines between host address W[RA] and instance offset W[RB], to the instance or (IMM[16]) to the host. -/
def xcpyStep (s : State) (c : Nat) (f : StepF) : State :=
  issue s c 0x6A f fun x =>
    let k := getCtx x c
    let h := reg k f.ra.val
    let a := reg k f.rb.val
    let n := lineCount f
    let toHost := bit f.imm.toNat 16
    if h % 64 ≠ 0 then faultStep x c 0x0D 0 h
    else if a % 64 ≠ 0 then faultStep x c 0x0D 0 a
    else
      match fnOpen x k.inst with
      | none => faultStep x c 7 0 h
      | some fn =>
        let y := presentAll x c 0x6A f ((touchGranules ⟨a, 64 * n, !toHost⟩).map fun g => (g, !toHost))
        match y.2 with
        | some (kind, d, g) => faultStep y.1 c kind d g
        | none =>
          if toHost then startPend y.1 c { pendInit 0x6A f with accs := readLines y.1 (getCtx y.1 c) 0x6A f a n, addr := a }
          else hostFetch y.1 c fn h (64 * n) { pendInit 0x6A f with addr := a }

/-- XCPY. -/
def execStepXcpy (c : CtxN) (f : StepF) (s : State) : Host.Outcome State Fault Refusal := .next (xcpyStep s c.val f)

/-! Atomic tables (R204, R205). -/

/-- HLD: the home slice gains the line, and RD its bytes. -/
def execStepHld (c : CtxN) (f : StepF) (s : State) : Host.Outcome State Fault Refusal :=
  .next (
    let a := reg (getCtx s c.val) f.ra.val
    let n := 2 ^ f.sz.val
    memStep s c.val 0x70 f [(a, n)] [⟨a, n, false⟩] fun x k => [{ lineAccess x k 0x70 f a with own := true }])

/-- HCMT: the commit step. -/
def execStepHcmt (c : CtxN) (f : StepF) (s : State) : Host.Outcome State Fault Refusal :=
  .next (
    let a := reg (getCtx s c.val) f.ra.val
    let n := 2 ^ f.sz.val
    memStep s c.val 0x71 f [(a, n)] [⟨a, n, true⟩] fun x k =>
      [storeAcc x k 0x71 f a n (if f.sz.val = 4 then regPair k f.rb.val else reg k f.rb.val)])

/-- UNDEFINED_STEP (R260): a word that is no defined step, reached in a vendor table. The tenant tables hold none: the verifier refuses it. -/
def execUndefinedStep (c : CtxN) (w : BitVec 128) (s : State) : Host.Outcome State Fault Refusal :=
  .next (
    let op := wordOp w.toNat
    let f := wordStep w.toNat
    let k := getCtx s c.val
    if wordReserved w.toNat = true ∧ stepDefined true k.sp op f = true then s
    else if engineOn s k.engine = false ∨ (engineChoice s k.engine).map (·.1) ≠ some c.val ∨ 512 ≤ k.table then s
    else
      let s1 := spendCycle s k.engine k.slot
      if k.budget = 0 then stepFault s1 c.val 1 0 0 else faultStep s1 c.val 0x0E 0 0)

end Sys2Proof.Machine
end

