-- ==== Sys2Proof/Machine/SysSteps.lean ====
section
/-!
DEFINITION. The system operations of the step tables (R275, Table 12-9). Their operand layouts are the firmware's; a command carries what
the step works on.
-/
namespace Sys2Proof.Machine

open Sys2Proof

/-- BISNP: a BISnp for a tracked line that the host may hold; the context waits for its answer. -/
def execStepBisnp (c : CtxN) (f : StepF) (p : PortN) (key : LineN) (s : State) : Host.Outcome State Fault Refusal :=
  .next (issue s c.val 0x78 f fun x =>
    let held := (holders x key.toNat (getLine x key.toNat)).contains p.val && linkUp x p.val
    let y := if held then sendSnoop x key.toNat p.val .inv else x
    startPend y c.val { pendInit 0x78 f with snoop := if held then some (p.val, key.toNat) else none })

/-- DLSWAP. -/
def execStepDlswap (c : CtxN) (f : StepF) (i : InstN) (s : State) : Host.Outcome State Fault Refusal :=
  .next (issue s c.val 0x79 f fun x => swapBitmaps (retire x c.val) i.val)

/-- CNTRD: a counter of a unit into RD. -/
def execStepCntrd (c : CtxN) (f : StepF) (u : UnitN) (n : Byte) (s : State) : Host.Outcome State Fault Refusal :=
  .next (plainStep s c.val 0x7A f fun k => setReg k f.rd.val (readCounter s u.val (n.toNat % 32)))

/-- The cut-over lock of a granule is taken, or released with its remap entry written; an entry of the granule's own place is none.
Without a way in the granule's set no entry is placed (R140), and a set conflict is counted. (Log 217: DESIGN CHOICE.) -/
def remapWrite (s : State) (g : Nat) (take : Bool) (dest : Nat) : State :=
  let old := match s.pool.overlay.find? fun e => e.1 == g with | some e => e.2.dest | none => g
  if take = true ∨ dest ≠ g then
    if overlayRoom s g = false then litBump s (keyTile g) 5 1
    else if take then setRemap s g { cutover := true, dest := old }
    else unlock (setRemap s g { cutover := false, dest := dest }) g
  else unlock (delRemap s g) g
where
  unlock (a : State) (g : Nat) : State := freeHeld (takeLocked a g).1 (takeLocked a g).2

/-- RMAP. -/
def execStepRmap (c : CtxN) (f : StepF) (g : GranN) (take : Bool) (dest : BitVec 36) (s : State) : Host.Outcome State Fault Refusal :=
  .next (issue s c.val 0x7B f fun x => remapWrite (retire x c.val) g.toNat take dest.toNat)

/-- A heat-table entry as Table 10-2 lays it out. -/
def heatWord (g : Nat) (h : Heat) : Nat := g * 2 ^ 28 + h.heat * 2 ^ 16 + h.place * 2 ^ 14 + h.samples

/-- A heat-table entry is written; a set without room takes none. -/
def heatWrite (s : State) (g w : Nat) : State :=
  match heatRoom s (keyTile g) g with
  | some s1 => setHeat s1 (keyTile g) g { heat := bits w 27 16, place := bits w 15 14, samples := bits w 11 0 }
  | none => s

/-- HEAT: an entry is read into RD, or written. -/
def execStepHeat (c : CtxN) (f : StepF) (g : GranN) (wr : Option (BitVec 64)) (s : State) : Host.Outcome State Fault Refusal :=
  .next (match wr with
    | none => plainStep s c.val 0x7C f fun k => setReg k f.rd.val (heatWord g.toNat (getHeat s (keyTile g.toNat) g.toNat))
    | some w => issue s c.val 0x7C f fun x => heatWrite (retire x c.val) g.toNat w.toNat)

/-- NOTIFY: a device notice (R286). -/
def execStepNotify (c : CtxN) (f : StepF) (i : InstN) (kind : BitVec 16) (params : List Byte) (s : State) : Host.Outcome State Fault Refusal :=
  .next (issue s c.val 0x7D f fun x =>
    let y := retire x c.val
    if 1 ≤ kind.toNat ∧ kind.toNat ≤ 0xFF then postDevice y i.val kind.toNat params else y)

end Sys2Proof.Machine
end

