-- ==== Sys2Proof/Machine/Tiles.lean ====
section
/-!
DEFINITION. The commands of a tile's reset (R129, R131).
-/
namespace Sys2Proof.Machine

open Sys2Proof

/-- TILE_RESET. -/
def execTileReset (r : Requester) (t : TileN) (s : State) : Host.Outcome State Fault Refusal :=
  .next (rowWrite s r 0x3000 3 t.val [1] fun x => tileResetWrite x t.val)

/-- TILE_TARGET. -/
def execTileTarget (r : Requester) (t : TileN) (v : Byte) (s : State) : Host.Outcome State Fault Refusal :=
  .next (rowWrite s r 0x3000 1 t.val [v] fun x => tileTargetWrite x t.val v.toNat)

/-- TILE_IN_SERVICE: a tile that is starting, with its core domain ON. -/
def execTileInService (t : TileN) (s : State) : Host.Outcome State Fault Refusal :=
  .next (if rd s 0x3000 2 t.val = 2 then tileServes s t.val else s)

end Sys2Proof.Machine
end

