-- ==== Sys2Proof/Machine/Update.lean ====
section
/-!
DEFINITION. The commands of firmware update, keys and credentials (chapter 19).
-/
namespace Sys2Proof.Machine

open Sys2Proof

/-- BEGIN. -/
def execFwBegin (r : Requester) (len : BitVec 32) (s : State) : Host.Outcome State Fault Refusal :=
  .next (rowWrite s r 0xD100 6 0 (be 4 len.toNat) fun x => beginWrite x len.toNat)

/-- DOWNLOAD. -/
def execFwDownload (r : Requester) (start : BitVec 32) (data : List Byte) (readBackOk : Bool) (s : State) : Host.Outcome State Fault Refusal :=
  .next (rowChunk s r 0xD100 5 0 fun x => downloadWrite x start.toNat data readBackOk)

/-- VERIFY. -/
def execFwVerify (r : Requester) (s : State) : Host.Outcome State Fault Refusal := .next (rowWrite s r 0xD100 7 0 [1] verifyWrite)

/-- ACTIVATE_FIRMWARE. -/
def execActivateFirmware (r : Requester) (s : State) : Host.Outcome State Fault Refusal := .next (rowWrite s r 0xD100 8 0 [1] activateWrite)

/-- APPLY_MICROCODE. -/
def execApplyMicrocode (r : Requester) (s : State) : Host.Outcome State Fault Refusal := .next (rowWrite s r 0xD100 11 0 [1] applyWrite)

/-- CONFIRM. -/
def execFwConfirm (r : Requester) (s : State) : Host.Outcome State Fault Refusal := .next (rowWrite s r 0xD100 9 0 [1] confirmWrite)

/-- REVERT. -/
def execFwRevert (r : Requester) (s : State) : Host.Outcome State Fault Refusal := .next (rowWrite s r 0xD100 12 0 [1] revertWrite)

/-- SET_CREDENTIAL. -/
def execSetCredential (r : Requester) (v : List Byte) (s : State) : Host.Outcome State Fault Refusal :=
  .next (rowWrite s r 0xD000 2 0 v fun x => credentialWrite x r v)

/-- ENROLL_KEY. -/
def execEnrollKey (r : Requester) (v : List Byte) (s : State) : Host.Outcome State Fault Refusal :=
  .next (rowWrite s r 0xD000 4 0 v fun x => enrollWrite x v)

/-- REVOKE_KEY. -/
def execRevokeKey (r : Requester) (v : List Byte) (s : State) : Host.Outcome State Fault Refusal :=
  .next (rowWrite s r 0xD000 5 0 v fun x => revokeWrite x v)

/-- RAISE_FLOOR. -/
def execRaiseFloor (r : Requester) (s : State) : Host.Outcome State Fault Refusal := .next (rowWrite s r 0xD000 7 0 [1] floorWrite)

/-- REVOKE_ROOT_KEY: Vendor privilege. -/
def execRevokeRootKey (r : Requester) (n : Fin 4) (s : State) : Host.Outcome State Fault Refusal :=
  .next (if r = .vendor then revokeRoot s n.val else emit s (.wrote 0xD000 9 0 .denied))

end Sys2Proof.Machine
end

