-- ==== Sys2Proof/Machine/Dispatch.lean ====
section
/-!
DEFINITION. The one dispatch of the model: one arm per command of the operation table, each a direct call of
that command's own meaning.
-/
namespace Sys2Proof.Machine

open Sys2Proof

def exec (i : Instr) (s : State) : Host.Outcome State Fault Refusal :=
  match i with
  | .odpHello t m => Sys2Proof.Machine.execOdpHello t m s
  | .odpOpen t m => Sys2Proof.Machine.execOdpOpen t m s
  | .odpClose t m => Sys2Proof.Machine.execOdpClose t m s
  | .odpRead t m => Sys2Proof.Machine.execOdpRead t m s
  | .odpWrite t m => Sys2Proof.Machine.execOdpWrite t m s
  | .odpReadChunk t m => Sys2Proof.Machine.execOdpReadChunk t m s
  | .odpWriteChunk t m => Sys2Proof.Machine.execOdpWriteChunk t m s
  | .odpDescribe t m => Sys2Proof.Machine.execOdpDescribe t m s
  | .odpSubscribe t m => Sys2Proof.Machine.execOdpSubscribe t m s
  | .odpKeepalive t m => Sys2Proof.Machine.execOdpKeepalive t m s
  | .sessionIdleTimeout sid => Sys2Proof.Machine.execSessionIdleTimeout sid s
  | .dictionaryReady => Sys2Proof.Machine.execDictionaryReady s
  | .objectWrite w => Sys2Proof.Machine.execObjectWrite w s
  | .actualViewChange u v => Sys2Proof.Machine.execActualViewChange u v s
  | .stateSkew u => Sys2Proof.Machine.execStateSkew u s
  | .odwGo => Sys2Proof.Machine.execOdwGo s
  | .odwDone => Sys2Proof.Machine.execOdwDone s
  | .odwStatusClear mask setDone setOverrun => Sys2Proof.Machine.execOdwStatusClear mask setDone setOverrun s
  | .endpointDiscovery => Sys2Proof.Machine.execEndpointDiscovery s
  | .eidAssignment eid => Sys2Proof.Machine.execEidAssignment eid s
  | .versionQuery mtype => Sys2Proof.Machine.execVersionQuery mtype s
  | .identifySwitchDevice via => Sys2Proof.Machine.execIdentifySwitchDevice via s
  | .getPhysicalPortState via ports => Sys2Proof.Machine.execGetPhysicalPortState via ports s
  | .physicalPortControl via p op => Sys2Proof.Machine.execPhysicalPortControl via p op s
  | .sendPpbCxlIoConfigurationRequest via p req => Sys2Proof.Machine.execSendPpbCxlIoConfigurationRequest via p req s
  | .getVirtualCxlSwitchInfo via p => Sys2Proof.Machine.execGetVirtualCxlSwitchInfo via p s
  | .bindVppb via p vppb dsp ld => Sys2Proof.Machine.execBindVppb via p vppb dsp ld s
  | .unbindVppb via p vppb => Sys2Proof.Machine.execUnbindVppb via p vppb s
  | .generateAerEvent via p vppb err => Sys2Proof.Machine.execGenerateAerEvent via p vppb err s
  | .tunnelManagementCommand via p payload => Sys2Proof.Machine.execTunnelManagementCommand via p payload s
  | .sendLdCxlIoConfigurationRequest via p ld req => Sys2Proof.Machine.execSendLdCxlIoConfigurationRequest via p ld req s
  | .sendLdCxlIoMemoryRequest via p ld req => Sys2Proof.Machine.execSendLdCxlIoMemoryRequest via p ld req s
  | .getLdInfo via => Sys2Proof.Machine.execGetLdInfo via s
  | .getLdAllocations via p => Sys2Proof.Machine.execGetLdAllocations via p s
  | .setLdAllocations via p ld rec => Sys2Proof.Machine.execSetLdAllocations via p ld rec s
  | .getQosControl via p => Sys2Proof.Machine.execGetQosControl via p s
  | .setQosControl via p moderate severe rest => Sys2Proof.Machine.execSetQosControl via p moderate severe rest s
  | .getQosStatus via p => Sys2Proof.Machine.execGetQosStatus via p s
  | .getQosAllocatedBw via p ld => Sys2Proof.Machine.execGetQosAllocatedBw via p ld s
  | .setQosAllocatedBw via p ld f => Sys2Proof.Machine.execSetQosAllocatedBw via p ld f s
  | .getQosBwLimit via p ld => Sys2Proof.Machine.execGetQosBwLimit via p ld s
  | .setQosBwLimit via p ld f => Sys2Proof.Machine.execSetQosBwLimit via p ld f s
  | .getDcdInfo via => Sys2Proof.Machine.execGetDcdInfo via s
  | .getHostDcRegionConfiguration via inst => Sys2Proof.Machine.execGetHostDcRegionConfiguration via inst s
  | .setDcRegionConfiguration via inst reg rec => Sys2Proof.Machine.execSetDcRegionConfiguration via inst reg rec s
  | .getDcdExtentLists via inst => Sys2Proof.Machine.execGetDcdExtentLists via inst s
  | .initiateDynamicCapacityAdd via reqs => Sys2Proof.Machine.execInitiateDynamicCapacityAdd via reqs s
  | .initiateDynamicCapacityRelease via exts forced => Sys2Proof.Machine.execInitiateDynamicCapacityRelease via exts forced s
  | .fmApiUnsupported via opcode => Sys2Proof.Machine.execFmApiUnsupported via opcode s
  | .targetModeWrite r v => Sys2Proof.Machine.execTargetModeWrite r v s
  | .quiesceComplete => Sys2Proof.Machine.execQuiesceComplete s
  | .quiesceTimeout => Sys2Proof.Machine.execQuiesceTimeout s
  | .drainComplete => Sys2Proof.Machine.execDrainComplete s
  | .drainTimeout => Sys2Proof.Machine.execDrainTimeout s
  | .roleChangeTimeout => Sys2Proof.Machine.execRoleChangeTimeout s
  | .cfgInstall r => Sys2Proof.Machine.execCfgInstall r s
  | .installComplete err => Sys2Proof.Machine.execInstallComplete err s
  | .cfgActivate r => Sys2Proof.Machine.execCfgActivate r s
  | .commitDelta r => Sys2Proof.Machine.execCommitDelta r s
  | .clearDelta r => Sys2Proof.Machine.execClearDelta r s
  | .deviceReset r => Sys2Proof.Machine.execDeviceReset r s
  | .deviceResetIgnoreBootsel r => Sys2Proof.Machine.execDeviceResetIgnoreBootsel r s
  | .compatWrite off v => Sys2Proof.Machine.execCompatWrite off v s
  | .compatStatusClear mask setRefused => Sys2Proof.Machine.execCompatStatusClear mask setRefused s
  | .laneLock l => Sys2Proof.Machine.execLaneLock l s
  | .laneLockLoss l => Sys2Proof.Machine.execLaneLockLoss l s
  | .decisionWindowClose p => Sys2Proof.Machine.execDecisionWindowClose p s
  | .sparingRequest p l => Sys2Proof.Machine.execSparingRequest p l s
  | .sparingAck p => Sys2Proof.Machine.execSparingAck p s
  | .switchFlit p => Sys2Proof.Machine.execSwitchFlit p s
  | .l0pWidthChange p d w stuck => Sys2Proof.Machine.execL0pWidthChange p d w stuck s
  | .recoveryComplete p spareLocked => Sys2Proof.Machine.execRecoveryComplete p spareLocked s
  | .degradeThreshold l => Sys2Proof.Machine.execDegradeThreshold l s
  | .spareExchangeComplete p ok => Sys2Proof.Machine.execSpareExchangeComplete p ok s
  | .keepaliveLoss g => Sys2Proof.Machine.execKeepaliveLoss g s
  | .quiesceTarget r g v => Sys2Proof.Machine.execQuiesceTarget r g v s
  | .swapBack r g => Sys2Proof.Machine.execSwapBack r g s
  | .retireLane r g v => Sys2Proof.Machine.execRetireLane r g v s
  | .laneDirectionTarget r l d v => Sys2Proof.Machine.execLaneDirectionTarget r l d v s
  | .testTarget r l v => Sys2Proof.Machine.execTestTarget r l v s
  | .testLoopback r l v => Sys2Proof.Machine.execTestLoopback r l v s
  | .loopbackEntry l => Sys2Proof.Machine.execLoopbackEntry l s
  | .testInject r l n => Sys2Proof.Machine.execTestInject r l n s
  | .clearCounters r l => Sys2Proof.Machine.execClearCounters r l s
  | .checkerSync l => Sys2Proof.Machine.execCheckerSync l s
  | .checkerSyncLoss l bits errs => Sys2Proof.Machine.execCheckerSyncLoss l bits errs s
  | .linkUp p x => Sys2Proof.Machine.execLinkUp p x s
  | .linkDown p cause presenceLost => Sys2Proof.Machine.execLinkDown p cause presenceLost s
  | .lateResponse p tag => Sys2Proof.Machine.execLateResponse p tag s
  | .presenceChange p present => Sys2Proof.Machine.execPresenceChange p present s
  | .powerControllerControl p on => Sys2Proof.Machine.execPowerControllerControl p on s
  | .flitCrcError p resent beyondFec => Sys2Proof.Machine.execFlitCrcError p resent beyondFec s
  | .replayTimeout p resent => Sys2Proof.Machine.execReplayTimeout p resent s
  | .auditPeriod p => Sys2Proof.Machine.execAuditPeriod p s
  | .quietPoint p pool avail => Sys2Proof.Machine.execQuietPoint p pool avail s
  | .auditHoldTimeout p => Sys2Proof.Machine.execAuditHoldTimeout p s
  | .retrainDrainComplete p => Sys2Proof.Machine.execRetrainDrainComplete p s
  | .creditRetrainComplete p credits => Sys2Proof.Machine.execCreditRetrainComplete p credits s
  | .llreset p => Sys2Proof.Machine.execLlreset p s
  | .forceRetrain r p => Sys2Proof.Machine.execForceRetrain r p s
  | .bmeClear p f => Sys2Proof.Machine.execBmeClear p f s
  | .bmeSet p f => Sys2Proof.Machine.execBmeSet p f s
  | .initiateFlr p f => Sys2Proof.Machine.execInitiateFlr p f s
  | .flrComplete p f => Sys2Proof.Machine.execFlrComplete p f s
  | .completionTimeout p f c => Sys2Proof.Machine.execCompletionTimeout p f c s
  | .memrd p hpa ask tag tc => Sys2Proof.Machine.execMemrd p hpa ask tag tc s
  | .memrddata p hpa tag tc => Sys2Proof.Machine.execMemrddata p hpa tag tc s
  | .meminv p hpa ask tag tc => Sys2Proof.Machine.execMeminv p hpa ask tag tc s
  | .memwr p hpa data be keepS tag tc => Sys2Proof.Machine.execMemwr p hpa data be keepS tag tc s
  | .memclnevct p hpa tag tc => Sys2Proof.Machine.execMemclnevct p hpa tag tc s
  | .memspecrd p hpa => Sys2Proof.Machine.execMemspecrd p hpa s
  | .birsp p key rsp data => Sys2Proof.Machine.execBirsp p key rsp data s
  | .biconflict p key => Sys2Proof.Machine.execBiconflict p key s
  | .sliceResponse t key data => Sys2Proof.Machine.execSliceResponse t key data s
  | .atomicop p hpa k size a b tag tc => Sys2Proof.Machine.execAtomicop p hpa k size a b tag tc s
  | .cxlIoRequest p req => Sys2Proof.Machine.execCxlIoRequest p req s
  | .cxlIoCompletion p dst tag bytes => Sys2Proof.Machine.execCxlIoCompletion p dst tag bytes s
  | .pbrRequest p pid req => Sys2Proof.Machine.execPbrRequest p pid req s
  | .cxlCacheMessage p dst cacheId d2h ch tag bytes => Sys2Proof.Machine.execCxlCacheMessage p dst cacheId d2h ch tag bytes s
  | .walkComplete t k key => Sys2Proof.Machine.execWalkComplete t k key s
  | .schedulerCycle t => Sys2Proof.Machine.execSchedulerCycle t s
  | .tidelinkFlit l d f => Sys2Proof.Machine.execTidelinkFlit l d f s
  | .ackTimeout l d => Sys2Proof.Machine.execAckTimeout l d s
  | .balancerPeriod t => Sys2Proof.Machine.execBalancerPeriod t s
  | .pathTableWrite r t start vals => Sys2Proof.Machine.execPathTableWrite r t start vals s
  | .fenceCell t dst e cls => Sys2Proof.Machine.execFenceCell t dst e cls s
  | .fenceAck t dst e => Sys2Proof.Machine.execFenceAck t dst e s
  | .tidelinkLaneLoss l d lane => Sys2Proof.Machine.execTidelinkLaneLoss l d lane s
  | .tidelinkFailure l => Sys2Proof.Machine.execTidelinkFailure l s
  | .dedupReport l t grp => Sys2Proof.Machine.execDedupReport l t grp s
  | .dedupTimeout l t => Sys2Proof.Machine.execDedupTimeout l t s
  | .tidelinkTarget r l v => Sys2Proof.Machine.execTidelinkTarget r l v s
  | .tidelinkRepair r l => Sys2Proof.Machine.execTidelinkRepair r l s
  | .beachcomberPass t unref => Sys2Proof.Machine.execBeachcomberPass t unref s
  | .resetToken t x => Sys2Proof.Machine.execResetToken t x s
  | .crossingTimeout t x => Sys2Proof.Machine.execCrossingTimeout t x s
  | .tileReset r t => Sys2Proof.Machine.execTileReset r t s
  | .tileTarget r t v => Sys2Proof.Machine.execTileTarget r t v s
  | .tileInService t => Sys2Proof.Machine.execTileInService t s
  | .grant r v => Sys2Proof.Machine.execGrant r v s
  | .addDynamicCapacityResponse inst e accept => Sys2Proof.Machine.execAddDynamicCapacityResponse inst e accept s
  | .offerTimeout e => Sys2Proof.Machine.execOfferTimeout e s
  | .extentRelease r e => Sys2Proof.Machine.execExtentRelease r e s
  | .forcedRelease r e => Sys2Proof.Machine.execForcedRelease r e s
  | .releaseDynamicCapacity inst e => Sys2Proof.Machine.execReleaseDynamicCapacity inst e s
  | .cacheAck e => Sys2Proof.Machine.execCacheAck e s
  | .releaseDrainTimeout e => Sys2Proof.Machine.execReleaseDrainTimeout e s
  | .releaseRequestsDone e => Sys2Proof.Machine.execReleaseRequestsDone e s
  | .scrubComplete tg blk => Sys2Proof.Machine.execScrubComplete tg blk s
  | .targetPoolWrite r tg v => Sys2Proof.Machine.execTargetPoolWrite r tg v s
  | .joinComplete tg deviceRefuses => Sys2Proof.Machine.execJoinComplete tg deviceRefuses s
  | .drainDone tg => Sys2Proof.Machine.execDrainDone tg s
  | .linkReturnTimeout tg => Sys2Proof.Machine.execLinkReturnTimeout tg s
  | .nearTierWrite r t v => Sys2Proof.Machine.execNearTierWrite r t v s
  | .pseudoChannelFailure t pc => Sys2Proof.Machine.execPseudoChannelFailure t pc s
  | .retirePseudoChannel r t v => Sys2Proof.Machine.execRetirePseudoChannel r t v s
  | .rowRepair t bank spareLeft => Sys2Proof.Machine.execRowRepair t bank spareLeft s
  | .clearCapture r g same => Sys2Proof.Machine.execClearCapture r g same s
  | .recolour r v => Sys2Proof.Machine.execRecolour r v s
  | .tagQuery r v => Sys2Proof.Machine.execTagQuery r v s
  | .biTimeout p key => Sys2Proof.Machine.execBiTimeout p key s
  | .rangeBackInvalidationComplete j => Sys2Proof.Machine.execRangeBackInvalidationComplete j s
  | .holdWindowEnd key => Sys2Proof.Machine.execHoldWindowEnd key s
  | .lostHostScan p => Sys2Proof.Machine.execLostHostScan p s
  | .cacheFlush r t => Sys2Proof.Machine.execCacheFlush r t s
  | .dirLookup r t v => Sys2Proof.Machine.execDirLookup r t v s
  | .iscSelectTimeout p => Sys2Proof.Machine.execIscSelectTimeout p s
  | .epochEnd t => Sys2Proof.Machine.execEpochEnd t s
  | .moveRecallComplete g => Sys2Proof.Machine.execMoveRecallComplete g s
  | .moveCopyComplete g => Sys2Proof.Machine.execMoveCopyComplete g s
  | .cutOverComplete g => Sys2Proof.Machine.execCutOverComplete g s
  | .lockGuardExpiry g => Sys2Proof.Machine.execLockGuardExpiry g s
  | .releaseMessage t g => Sys2Proof.Machine.execReleaseMessage t g s
  | .moveSettle g => Sys2Proof.Machine.execMoveSettle g s
  | .sectorFill g sector => Sys2Proof.Machine.execSectorFill g sector s
  | .littoralMove r v => Sys2Proof.Machine.execLittoralMove r v s
  | .invocationStart c work => Sys2Proof.Machine.execInvocationStart c work s
  | .bindingsWrite r e start recs => Sys2Proof.Machine.execBindingsWrite r e start recs s
  | .memoryReply c data status => Sys2Proof.Machine.execMemoryReply c data status s
  | .timerExpiry c => Sys2Proof.Machine.execTimerExpiry c s
  | .waitCycle cl grp => Sys2Proof.Machine.execWaitCycle cl grp s
  | .engineFailure e => Sys2Proof.Machine.execEngineFailure e s
  | .engineOutOfService r e => Sys2Proof.Machine.execEngineOutOfService r e s
  | .engineReturn r e => Sys2Proof.Machine.execEngineReturn r e s
  | .builtInCheckComplete e ok => Sys2Proof.Machine.execBuiltInCheckComplete e ok s
  | .contextMoveBack c => Sys2Proof.Machine.execContextMoveBack c s
  | .tableLoad r owner => Sys2Proof.Machine.execTableLoad r owner s
  | .tableUnload r tb => Sys2Proof.Machine.execTableUnload r tb s
  | .unloadTimeout tb => Sys2Proof.Machine.execUnloadTimeout tb s
  | .stopContext r e v => Sys2Proof.Machine.execStopContext r e v s
  | .stepNop c f => Sys2Proof.Machine.execStepNop c f s
  | .stepEnd c f => Sys2Proof.Machine.execStepEnd c f s
  | .stepYield c f => Sys2Proof.Machine.execStepYield c f s
  | .stepWait c f => Sys2Proof.Machine.execStepWait c f s
  | .stepSignal c f => Sys2Proof.Machine.execStepSignal c f s
  | .stepTimer c f => Sys2Proof.Machine.execStepTimer c f s
  | .stepSysr c f => Sys2Proof.Machine.execStepSysr c f s
  | .stepRdf c f => Sys2Proof.Machine.execStepRdf c f s
  | .stepWrf c f => Sys2Proof.Machine.execStepWrf c f s
  | .stepBr c f => Sys2Proof.Machine.execStepBr c f s
  | .stepLoop c f => Sys2Proof.Machine.execStepLoop c f s
  | .stepMov c f => Sys2Proof.Machine.execStepMov c f s
  | .stepCsel c f => Sys2Proof.Machine.execStepCsel c f s
  | .stepSext c f => Sys2Proof.Machine.execStepSext c f s
  | .stepAdd c f => Sys2Proof.Machine.execStepAdd c f s
  | .stepAdc c f => Sys2Proof.Machine.execStepAdc c f s
  | .stepSub c f => Sys2Proof.Machine.execStepSub c f s
  | .stepSbb c f => Sys2Proof.Machine.execStepSbb c f s
  | .stepNeg c f => Sys2Proof.Machine.execStepNeg c f s
  | .stepCmp c f => Sys2Proof.Machine.execStepCmp c f s
  | .stepMul c f => Sys2Proof.Machine.execStepMul c f s
  | .stepMulhu c f => Sys2Proof.Machine.execStepMulhu c f s
  | .stepMulhs c f => Sys2Proof.Machine.execStepMulhs c f s
  | .stepDivu c f => Sys2Proof.Machine.execStepDivu c f s
  | .stepDivs c f => Sys2Proof.Machine.execStepDivs c f s
  | .stepRemu c f => Sys2Proof.Machine.execStepRemu c f s
  | .stepRems c f => Sys2Proof.Machine.execStepRems c f s
  | .stepMinu c f => Sys2Proof.Machine.execStepMinu c f s
  | .stepMaxu c f => Sys2Proof.Machine.execStepMaxu c f s
  | .stepMins c f => Sys2Proof.Machine.execStepMins c f s
  | .stepMaxs c f => Sys2Proof.Machine.execStepMaxs c f s
  | .stepAnd c f => Sys2Proof.Machine.execStepAnd c f s
  | .stepOr c f => Sys2Proof.Machine.execStepOr c f s
  | .stepXor c f => Sys2Proof.Machine.execStepXor c f s
  | .stepTst c f => Sys2Proof.Machine.execStepTst c f s
  | .stepLsl c f => Sys2Proof.Machine.execStepLsl c f s
  | .stepLsr c f => Sys2Proof.Machine.execStepLsr c f s
  | .stepAsr c f => Sys2Proof.Machine.execStepAsr c f s
  | .stepRol c f => Sys2Proof.Machine.execStepRol c f s
  | .stepRor c f => Sys2Proof.Machine.execStepRor c f s
  | .stepPopc c f => Sys2Proof.Machine.execStepPopc c f s
  | .stepClz c f => Sys2Proof.Machine.execStepClz c f s
  | .stepBswap c f => Sys2Proof.Machine.execStepBswap c f s
  | .stepCrc c f => Sys2Proof.Machine.execStepCrc c f s
  | .stepLcrc c f => Sys2Proof.Machine.execStepLcrc c f s
  | .stepSld c f => Sys2Proof.Machine.execStepSld c f s
  | .stepSst c f => Sys2Proof.Machine.execStepSst c f s
  | .stepLd c f => Sys2Proof.Machine.execStepLd c f s
  | .stepSt c f => Sys2Proof.Machine.execStepSt c f s
  | .stepLcopy c f => Sys2Proof.Machine.execStepLcopy c f s
  | .stepLfill c f => Sys2Proof.Machine.execStepLfill c f s
  | .stepLcmp c f => Sys2Proof.Machine.execStepLcmp c f s
  | .stepAadd c f => Sys2Proof.Machine.execStepAadd c f s
  | .stepAswp c f => Sys2Proof.Machine.execStepAswp c f s
  | .stepAcas c f => Sys2Proof.Machine.execStepAcas c f s
  | .stepAcas128 c f => Sys2Proof.Machine.execStepAcas128 c f s
  | .stepXld c f => Sys2Proof.Machine.execStepXld c f s
  | .stepXst c f => Sys2Proof.Machine.execStepXst c f s
  | .stepXcpy c f => Sys2Proof.Machine.execStepXcpy c f s
  | .stepHld c f => Sys2Proof.Machine.execStepHld c f s
  | .stepHcmt c f => Sys2Proof.Machine.execStepHcmt c f s
  | .stepBisnp c f p key => Sys2Proof.Machine.execStepBisnp c f p key s
  | .stepDlswap c f inst => Sys2Proof.Machine.execStepDlswap c f inst s
  | .stepCntrd c f u n => Sys2Proof.Machine.execStepCntrd c f u n s
  | .stepRmap c f g take dest => Sys2Proof.Machine.execStepRmap c f g take dest s
  | .stepHeat c f g wr => Sys2Proof.Machine.execStepHeat c f g wr s
  | .stepNotify c f inst kind params => Sys2Proof.Machine.execStepNotify c f inst kind params s
  | .undefinedStep c w => Sys2Proof.Machine.execUndefinedStep c w s
  | .instCreate r v => Sys2Proof.Machine.execInstCreate r v s
  | .instDestroy r inst => Sys2Proof.Machine.execInstDestroy r inst s
  | .destroyComplete inst => Sys2Proof.Machine.execDestroyComplete inst s
  | .instBind r inst sub v => Sys2Proof.Machine.execInstBind r inst sub v s
  | .instUnbind inst => Sys2Proof.Machine.execInstUnbind inst s
  | .hdmDecoderCommit inst d rec => Sys2Proof.Machine.execHdmDecoderCommit inst d rec s
  | .identifyMemoryDevice inst => Sys2Proof.Machine.execIdentifyMemoryDevice inst s
  | .getSupportedLogs inst => Sys2Proof.Machine.execGetSupportedLogs inst s
  | .getLog inst offset length => Sys2Proof.Machine.execGetLog inst offset length s
  | .getEventRecords inst log => Sys2Proof.Machine.execGetEventRecords inst log s
  | .clearEventRecords inst log handles => Sys2Proof.Machine.execClearEventRecords inst log handles s
  | .getEventInterruptPolicy inst => Sys2Proof.Machine.execGetEventInterruptPolicy inst s
  | .setEventInterruptPolicy inst policy => Sys2Proof.Machine.execSetEventInterruptPolicy inst policy s
  | .getHealthInfo inst => Sys2Proof.Machine.execGetHealthInfo inst s
  | .getTimestamp inst => Sys2Proof.Machine.execGetTimestamp inst s
  | .getPoisonList inst offset length => Sys2Proof.Machine.execGetPoisonList inst offset length s
  | .getDynamicCapacityConfiguration inst first count => Sys2Proof.Machine.execGetDynamicCapacityConfiguration inst first count s
  | .getDynamicCapacityExtentList inst start count => Sys2Proof.Machine.execGetDynamicCapacityExtentList inst start count s
  | .mailboxUnsupported inst opcode => Sys2Proof.Machine.execMailboxUnsupported inst opcode s
  | .dictionaryRequest inst msg => Sys2Proof.Machine.execDictionaryRequest inst msg s
  | .submitInvocations inst k descs => Sys2Proof.Machine.execSubmitInvocations inst k descs s
  | .getCompletions inst mask max => Sys2Proof.Machine.execGetCompletions inst mask max s
  | .loadStepTable inst image => Sys2Proof.Machine.execLoadStepTable inst image s
  | .unloadStepTable inst tb => Sys2Proof.Machine.execUnloadStepTable inst tb s
  | .getNotices inst max => Sys2Proof.Machine.execGetNotices inst max s
  | .acknowledgeNotices inst seq => Sys2Proof.Machine.execAcknowledgeNotices inst seq s
  | .confirmFlush inst offset length => Sys2Proof.Machine.execConfirmFlush inst offset length s
  | .postNotice r inst v => Sys2Proof.Machine.execPostNotice r inst v s
  | .dirtyStart r inst => Sys2Proof.Machine.execDirtyStart r inst s
  | .dirtyStop r inst => Sys2Proof.Machine.execDirtyStop r inst s
  | .dirtyHarvest r inst v => Sys2Proof.Machine.execDirtyHarvest r inst v s
  | .harvestTick => Sys2Proof.Machine.execHarvestTick s
  | .markFlushComplete inst => Sys2Proof.Machine.execMarkFlushComplete inst s
  | .bitmapClearComplete inst => Sys2Proof.Machine.execBitmapClearComplete inst s
  | .harvestTransferComplete inst => Sys2Proof.Machine.execHarvestTransferComplete inst s
  | .meterRefill t => Sys2Proof.Machine.execMeterRefill t s
  | .egressSchedule q => Sys2Proof.Machine.execEgressSchedule q s
  | .clearOverflow r u mask wraps => Sys2Proof.Machine.execClearOverflow r u mask wraps s
  | .instanceClearOverflow r inst => Sys2Proof.Machine.execInstanceClearOverflow r inst s
  | .controlRecordWrite r u n rec => Sys2Proof.Machine.execControlRecordWrite r u n rec s
  | .windowStart r p => Sys2Proof.Machine.execWindowStart r p s
  | .windowStop r p => Sys2Proof.Machine.execWindowStop r p s
  | .windowEnd p => Sys2Proof.Machine.execWindowEnd p s
  | .causeOccurrence src cause sev params => Sys2Proof.Machine.execCauseOccurrence src cause sev params s
  | .faultClear r src mask same => Sys2Proof.Machine.execFaultClear r src mask same s
  | .faultClearAll r => Sys2Proof.Machine.execFaultClearAll r s
  | .levelUnlatch src cause => Sys2Proof.Machine.execLevelUnlatch src cause s
  | .faultRescan => Sys2Proof.Machine.execFaultRescan s
  | .recordCommit => Sys2Proof.Machine.execRecordCommit s
  | .storeFailure => Sys2Proof.Machine.execStoreFailure s
  | .retryStore r answers => Sys2Proof.Machine.execRetryStore r answers s
  | .strandErase r => Sys2Proof.Machine.execStrandErase r s
  | .secondsSave => Sys2Proof.Machine.execSecondsSave s
  | .domainTarget r d v => Sys2Proof.Machine.execDomainTarget r d v s
  | .blockAnswer d b a => Sys2Proof.Machine.execBlockAnswer d b a s
  | .delayTimeout d b => Sys2Proof.Machine.execDelayTimeout d b s
  | .domainEntryComplete d => Sys2Proof.Machine.execDomainEntryComplete d s
  | .bankEmpty t b => Sys2Proof.Machine.execBankEmpty t b s
  | .wakeSource d src => Sys2Proof.Machine.execWakeSource d src s
  | .idleTime d => Sys2Proof.Machine.execIdleTime d s
  | .pllLock d => Sys2Proof.Machine.execPllLock d s
  | .pllLockTimeout d => Sys2Proof.Machine.execPllLockTimeout d s
  | .forceOff r d => Sys2Proof.Machine.execForceOff r d s
  | .droopCrossing t det lvl => Sys2Proof.Machine.execDroopCrossing t det lvl s
  | .stretchRelease t cycles ns => Sys2Proof.Machine.execStretchRelease t cycles ns s
  | .stretchTimeout t => Sys2Proof.Machine.execStretchTimeout t s
  | .thermalThreshold t lvl => Sys2Proof.Machine.execThermalThreshold t lvl s
  | .thermalHoldEnd t => Sys2Proof.Machine.execThermalHoldEnd t s
  | .thermalTrip t => Sys2Proof.Machine.execThermalTrip t s
  | .avsAck rail => Sys2Proof.Machine.execAvsAck rail s
  | .avsTimeout rail => Sys2Proof.Machine.execAvsTimeout rail s
  | .phaseLost rail n => Sys2Proof.Machine.execPhaseLost rail n s
  | .pwrokTFall t => Sys2Proof.Machine.execPwrokTFall t s
  | .railMonitor rail => Sys2Proof.Machine.execRailMonitor rail s
  | .slotTarget r n v => Sys2Proof.Machine.execSlotTarget r n v s
  | .slotEnRise n lowFor10ms => Sys2Proof.Machine.execSlotEnRise n lowFor10ms s
  | .slotEnFall n => Sys2Proof.Machine.execSlotEnFall n s
  | .slotStagger n => Sys2Proof.Machine.execSlotStagger n s
  | .powerGood n energy => Sys2Proof.Machine.execPowerGood n energy s
  | .startTimeout n => Sys2Proof.Machine.execStartTimeout n s
  | .breakerTrip n => Sys2Proof.Machine.execBreakerTrip n s
  | .fastTrip n ch => Sys2Proof.Machine.execFastTrip n ch s
  | .fetTemperatureTrip n => Sys2Proof.Machine.execFetTemperatureTrip n s
  | .modelUpdate n m => Sys2Proof.Machine.execModelUpdate n m s
  | .channelCheck n aGood bGood => Sys2Proof.Machine.execChannelCheck n aGood bGood s
  | .channelDisagreement n a b => Sys2Proof.Machine.execChannelDisagreement n a b s
  | .slotPwrwarn n vin => Sys2Proof.Machine.execSlotPwrwarn n vin s
  | .pwrwarnRecovery n => Sys2Proof.Machine.execPwrwarnRecovery n s
  | .inputLoss n k => Sys2Proof.Machine.execInputLoss n k s
  | .warningLeadEnd n => Sys2Proof.Machine.execWarningLeadEnd n s
  | .stopComplete n => Sys2Proof.Machine.execStopComplete n s
  | .offTimeEnd n => Sys2Proof.Machine.execOffTimeEnd n s
  | .powerOn b => Sys2Proof.Machine.execPowerOn b s
  | .pwrokAonFall => Sys2Proof.Machine.execPwrokAonFall s
  | .perstN g => Sys2Proof.Machine.execPerstN g s
  | .bootComplete => Sys2Proof.Machine.execBootComplete s
  | .fwBegin r len => Sys2Proof.Machine.execFwBegin r len s
  | .fwDownload r start data readBackOk => Sys2Proof.Machine.execFwDownload r start data readBackOk s
  | .fwVerify r => Sys2Proof.Machine.execFwVerify r s
  | .activateFirmware r => Sys2Proof.Machine.execActivateFirmware r s
  | .applyMicrocode r => Sys2Proof.Machine.execApplyMicrocode r s
  | .fwConfirm r => Sys2Proof.Machine.execFwConfirm r s
  | .fwRevert r => Sys2Proof.Machine.execFwRevert r s
  | .setCredential r v => Sys2Proof.Machine.execSetCredential r v s
  | .enrollKey r v => Sys2Proof.Machine.execEnrollKey r v s
  | .revokeKey r v => Sys2Proof.Machine.execRevokeKey r v s
  | .raiseFloor r => Sys2Proof.Machine.execRaiseFloor r s
  | .revokeRootKey r n => Sys2Proof.Machine.execRevokeRootKey r n s
  | .getVersion p => Sys2Proof.Machine.execGetVersion p s
  | .getCapabilities p => Sys2Proof.Machine.execGetCapabilities p s
  | .negotiateAlgorithms p req => Sys2Proof.Machine.execNegotiateAlgorithms p req s
  | .getDigests p => Sys2Proof.Machine.execGetDigests p s
  | .getCertificate p slot offset length => Sys2Proof.Machine.execGetCertificate p slot offset length s
  | .spdmChallenge p slot nonce => Sys2Proof.Machine.execSpdmChallenge p slot nonce s
  | .getMeasurements p op nonce => Sys2Proof.Machine.execGetMeasurements p op nonce s
  | .keyExchange p req => Sys2Proof.Machine.execKeyExchange p req s
  | .spdmFinish p sid mac => Sys2Proof.Machine.execSpdmFinish p sid mac s
  | .endSession p sid => Sys2Proof.Machine.execEndSession p sid s
  | .keyProg p sid stream keySet key => Sys2Proof.Machine.execKeyProg p sid stream keySet key s
  | .kSetGo p sid stream keySet => Sys2Proof.Machine.execKSetGo p sid stream keySet s
  | .ideRefresh p => Sys2Proof.Machine.execIdeRefresh p s
  | .ideIntegrityFailure p stream => Sys2Proof.Machine.execIdeIntegrityFailure p stream s
  | .attestNow r p => Sys2Proof.Machine.execAttestNow r p s
  | .sramBist r v => Sys2Proof.Machine.execSramBist r v s
  | .hbmBist r v => Sys2Proof.Machine.execHbmBist r v s
  | .receiverCalibration r v => Sys2Proof.Machine.execReceiverCalibration r v s
  | .logicBist r v => Sys2Proof.Machine.execLogicBist r v s
  | .patrolScrubPass r v => Sys2Proof.Machine.execPatrolScrubPass r v s
  | .testComplete units errors addr => Sys2Proof.Machine.execTestComplete units errors addr s
  | .diagnosticRead r v => Sys2Proof.Machine.execDiagnosticRead r v s
  | .diagnosticWrite r v => Sys2Proof.Machine.execDiagnosticWrite r v s
  | .pwrokTRise t => Sys2Proof.Machine.execPwrokTRise t s
  | .l1Entry p => Sys2Proof.Machine.execL1Entry p s
  | .l1Exit p => Sys2Proof.Machine.execL1Exit p s
  | .recoveryEntry p => Sys2Proof.Machine.execRecoveryEntry p s
  | .headlandWarmReset => Sys2Proof.Machine.execHeadlandWarmReset s
  | .partnerDvsecWrite p w => Sys2Proof.Machine.execPartnerDvsecWrite p w s
  | .actionComplete a err => Sys2Proof.Machine.execActionComplete a err s
  | .tidelinkTrained l up down => Sys2Proof.Machine.execTidelinkTrained l up down s
  | .vddHldInRange => Sys2Proof.Machine.execVddHldInRange s
  | .phaseRestored rail => Sys2Proof.Machine.execPhaseRestored rail s
  | .cycleCountTrim t => Sys2Proof.Machine.execCycleCountTrim t s
  | .pllLockLoss t pll => Sys2Proof.Machine.execPllLockLoss t pll s

end Sys2Proof.Machine
end

