-- ==== Sys2Proof/Machine/Step.lean ====
section
/-!
DEFINITION. One step of the block: the command at the front of the queue, or the passing of time when none waits.
-/
namespace Sys2Proof.Machine

open Sys2Proof

/-- No command waits: core cycles pass while the AON island is powered, and the views settle (R30). (Log 3: DESIGN CHOICE.) -/
def idle (s : State) : State :=
  if s.pwr.aonOk then
    settleViews (freeNext { s with clock := { s.clock with core := s.clock.core + Config.idleCycles s.free } })
  else s

/-- One step: the command at the front, executed with the queue's rest. -/
def step (s : State) : Host.Outcome State Fault Refusal :=
  match s.pending with
  | [] => .next (idle s)
  | c :: rest => exec c { s with pending := rest }

/-- The state with the command that a word spells at the front of its queue; unchanged where it spells none. (Log 6: DESIGN CHOICE.) -/
def State.withFetchWord (s : State) (nbits w : Nat) : State :=
  match decodeTableWord nbits w with
  | some c => { s with pending := c :: s.pending }
  | none => s

end Sys2Proof.Machine
end

