-- ==== Sys2Proof/WellFormed.lean ====
section
/-!
DEFINITION. The form of a command's operands, beyond what their types say: a number that names a unit the manual has, data of the length
that its message carries. A command that is not well-formed cannot arrive.
-/
namespace Sys2Proof

/-- A context of an engine: 0 to 67 of its 128 numbers (R235). -/
def ctxOk (c : CtxN) : Bool := decide (c.val % 128 < 68)

/-- A memory target: HBM stacks 0 to 3, DSP targets 16 to 79 (Table 2-5). -/
def targetOk (t : TargetN) : Bool := decide (t.val < 4 ∨ 16 ≤ t.val)

/-- The data of one line. -/
def lineOk (d : List Byte) : Bool := d.length == 64

def optLineOk (d : Option (List Byte)) : Bool :=
  match d with
  | some l => lineOk l
  | none => true

/-- A write that carries a destination PID carries one line. -/
def pbrOk (x : PbrReq) : Bool :=
  match x with
  | .memWr _ d _ _ _ => lineOk d
  | .memRd _ _ _ _ => true
  | .memInv _ _ _ _ => true
  | .memSpecRd _ => true
  | .memClnEvct _ _ _ => true
  | .biSnp _ _ => true
  | .io _ _ _ d => decide (d.length ≤ 512)

/-- A TLP carries at most 512 bytes (Table 5-1). -/
def ioOk (x : IoReq) : Bool :=
  match x with
  | .window _ _ _ _ _ => true
  | .mem _ _ _ _ d => decide (d.length ≤ 512)
  | .config _ _ d => decide (d.length ≤ 4)

/-- A value fits its item, and a write of the window stays in it (Tables 2-10 and 2-15). -/
def regWriteOk (w : RegWrite) : Bool :=
  match w.place with
  | .object _ _ _ => decide (w.value.length ≤ 65535)
  | .chunk _ _ _ _ => decide (w.value.length ≤ 65535)
  | .window off => decide (0 < w.value.length ∧ off.val + w.value.length ≤ 16384)

/-- A partner names data lanes of the port's own groups, and grants at most the 18 pools of Table 5-4. -/
def partnerOk (p : PortN) (x : Partner) : Bool :=
  let mine (l : LaneN) : Bool := decide (l.val < 256 ∧ p.val / 4 * 16 ≤ l.val ∧ l.val < p.val / 4 * 16 + 16)
  x.inverted.all mine && x.failed.all mine && decide (x.credits.length ≤ 18) && decide (x.width.val ≤ 16)

/-- The form of a command. -/
def Instr.wf (i : Instr) : Bool :=
  match i with
  | .odpHello _ _ => true
  | .odpOpen _ _ => true
  | .odpClose _ _ => true
  | .odpRead _ _ => true
  | .odpWrite _ _ => true
  | .odpReadChunk _ _ => true
  | .odpWriteChunk _ _ => true
  | .odpDescribe _ _ => true
  | .odpSubscribe _ _ => true
  | .odpKeepalive _ _ => true
  | .sessionIdleTimeout _ => true
  | .dictionaryReady => true
  | .objectWrite w => regWriteOk w
  | .actualViewChange _ _ => true
  | .stateSkew _ => true
  | .odwGo => true
  | .odwDone => true
  | .odwStatusClear _ _ _ => true
  | .endpointDiscovery => true
  | .eidAssignment _ => true
  | .versionQuery _ => true
  | .identifySwitchDevice _ => true
  | .getPhysicalPortState _ _ => true
  | .physicalPortControl _ _ _ => true
  | .sendPpbCxlIoConfigurationRequest _ _ _ => true
  | .getVirtualCxlSwitchInfo _ _ => true
  | .bindVppb _ _ _ _ _ => true
  | .unbindVppb _ _ _ => true
  | .generateAerEvent _ _ _ _ => true
  | .tunnelManagementCommand _ _ _ => true
  | .sendLdCxlIoConfigurationRequest _ _ _ _ => true
  | .sendLdCxlIoMemoryRequest _ _ _ _ => true
  | .getLdInfo _ => true
  | .getLdAllocations _ _ => true
  | .setLdAllocations _ _ _ _ => true
  | .getQosControl _ _ => true
  | .setQosControl _ _ _ _ _ => true
  | .getQosStatus _ _ => true
  | .getQosAllocatedBw _ _ _ => true
  | .setQosAllocatedBw _ _ _ _ => true
  | .getQosBwLimit _ _ _ => true
  | .setQosBwLimit _ _ _ _ => true
  | .getDcdInfo _ => true
  | .getHostDcRegionConfiguration _ _ => true
  | .setDcRegionConfiguration _ _ _ rec => rec.length == 16
  | .getDcdExtentLists _ _ => true
  | .initiateDynamicCapacityAdd _ _ => true
  | .initiateDynamicCapacityRelease _ _ _ => true
  | .fmApiUnsupported _ _ => true
  | .targetModeWrite _ _ => true
  | .quiesceComplete => true
  | .quiesceTimeout => true
  | .drainComplete => true
  | .drainTimeout => true
  | .roleChangeTimeout => true
  | .cfgInstall _ => true
  | .installComplete _ => true
  | .cfgActivate _ => true
  | .commitDelta _ => true
  | .clearDelta _ => true
  | .deviceReset _ => true
  | .deviceResetIgnoreBootsel _ => true
  | .compatWrite _ _ => true
  | .compatStatusClear _ _ => true
  | .laneLock _ => true
  | .laneLockLoss _ => true
  | .decisionWindowClose _ => true
  | .sparingRequest _ _ => true
  | .sparingAck _ => true
  | .switchFlit _ => true
  | .l0pWidthChange _ _ _ _ => true
  | .recoveryComplete _ _ => true
  | .degradeThreshold _ => true
  | .spareExchangeComplete _ _ => true
  | .keepaliveLoss _ => true
  | .quiesceTarget _ _ _ => true
  | .swapBack _ _ => true
  | .retireLane _ _ _ => true
  | .laneDirectionTarget _ _ _ _ => true
  | .testTarget _ _ _ => true
  | .testLoopback _ _ _ => true
  | .loopbackEntry _ => true
  | .testInject _ _ _ => true
  | .clearCounters _ _ => true
  | .checkerSync _ => true
  | .checkerSyncLoss _ bits errs => decide (errs ≤ bits)
  | .linkUp p x => partnerOk p x
  | .linkDown _ _ _ => true
  | .lateResponse _ _ => true
  | .presenceChange _ _ => true
  | .powerControllerControl _ _ => true
  | .flitCrcError _ _ _ => true
  | .replayTimeout _ _ => true
  | .auditPeriod _ => true
  | .quietPoint _ _ _ => true
  | .auditHoldTimeout _ => true
  | .retrainDrainComplete _ => true
  | .creditRetrainComplete _ credits => decide (credits.length ≤ 18)
  | .llreset _ => true
  | .forceRetrain _ _ => true
  | .bmeClear _ _ => true
  | .bmeSet _ _ => true
  | .initiateFlr _ _ => true
  | .flrComplete _ _ => true
  | .completionTimeout _ _ c => ctxOk c
  | .memrd _ _ _ _ _ => true
  | .memrddata _ _ _ _ => true
  | .meminv _ _ _ _ _ => true
  | .memwr _ _ data _ _ _ _ => lineOk data
  | .memclnevct _ _ _ _ => true
  | .memspecrd _ _ => true
  | .birsp _ _ _ data => optLineOk data
  | .biconflict _ _ => true
  | .sliceResponse _ _ data => optLineOk data
  | .atomicop _ _ _ _ _ _ _ _ => true
  | .cxlIoRequest _ req => ioOk req
  | .cxlIoCompletion _ _ _ _ => true
  | .pbrRequest _ _ req => pbrOk req
  | .cxlCacheMessage _ _ _ _ _ _ _ => true
  | .walkComplete _ _ _ => true
  | .schedulerCycle _ => true
  | .tidelinkFlit _ _ f => f.length == 256
  | .ackTimeout _ _ => true
  | .balancerPeriod _ => true
  | .pathTableWrite _ _ start vals => decide (0 < vals.length ∧ start.val + vals.length ≤ 768)
  | .fenceCell _ _ _ _ => true
  | .fenceAck _ _ _ => true
  | .tidelinkLaneLoss _ _ _ => true
  | .tidelinkFailure _ => true
  | .dedupReport _ _ _ => true
  | .dedupTimeout _ _ => true
  | .tidelinkTarget _ _ _ => true
  | .tidelinkRepair _ _ => true
  | .beachcomberPass _ _ => true
  | .resetToken _ _ => true
  | .crossingTimeout _ _ => true
  | .tileReset _ _ => true
  | .tileTarget _ _ _ => true
  | .tileInService _ => true
  | .grant _ _ => true
  | .addDynamicCapacityResponse _ _ _ => true
  | .offerTimeout _ => true
  | .extentRelease _ _ => true
  | .forcedRelease _ _ => true
  | .releaseDynamicCapacity _ _ => true
  | .cacheAck _ => true
  | .releaseDrainTimeout _ => true
  | .releaseRequestsDone _ => true
  | .scrubComplete tg _ => targetOk tg
  | .targetPoolWrite _ tg _ => targetOk tg
  | .joinComplete tg _ => targetOk tg
  | .drainDone tg => targetOk tg
  | .linkReturnTimeout tg => targetOk tg
  | .nearTierWrite _ _ _ => true
  | .pseudoChannelFailure _ _ => true
  | .retirePseudoChannel _ _ _ => true
  | .rowRepair _ _ _ => true
  | .clearCapture _ g _ => targetOk g
  | .recolour _ _ => true
  | .tagQuery _ _ => true
  | .biTimeout _ _ => true
  | .rangeBackInvalidationComplete _ => true
  | .holdWindowEnd _ => true
  | .lostHostScan _ => true
  | .cacheFlush _ _ => true
  | .dirLookup _ _ _ => true
  | .iscSelectTimeout _ => true
  | .epochEnd _ => true
  | .moveRecallComplete _ => true
  | .moveCopyComplete _ => true
  | .cutOverComplete _ => true
  | .lockGuardExpiry _ => true
  | .releaseMessage _ _ => true
  | .moveSettle _ => true
  | .sectorFill _ _ => true
  | .littoralMove _ _ => true
  | .invocationStart c _ => ctxOk c
  | .bindingsWrite _ _ start recs => recs.length % 8 == 0 && decide (0 < recs.length ∧ start.val + recs.length / 8 ≤ 64)
  | .memoryReply c _ _ => ctxOk c
  | .timerExpiry c => ctxOk c
  | .waitCycle _ _ => true
  | .engineFailure _ => true
  | .engineOutOfService _ _ => true
  | .engineReturn _ _ => true
  | .builtInCheckComplete _ _ => true
  | .contextMoveBack c => ctxOk c
  | .tableLoad _ _ => true
  | .tableUnload _ _ => true
  | .unloadTimeout _ => true
  | .stopContext _ _ _ => true
  | .stepNop c _ => ctxOk c
  | .stepEnd c _ => ctxOk c
  | .stepYield c _ => ctxOk c
  | .stepWait c _ => ctxOk c
  | .stepSignal c _ => ctxOk c
  | .stepTimer c _ => ctxOk c
  | .stepSysr c _ => ctxOk c
  | .stepRdf c _ => ctxOk c
  | .stepWrf c _ => ctxOk c
  | .stepBr c _ => ctxOk c
  | .stepLoop c _ => ctxOk c
  | .stepMov c _ => ctxOk c
  | .stepCsel c _ => ctxOk c
  | .stepSext c _ => ctxOk c
  | .stepAdd c _ => ctxOk c
  | .stepAdc c _ => ctxOk c
  | .stepSub c _ => ctxOk c
  | .stepSbb c _ => ctxOk c
  | .stepNeg c _ => ctxOk c
  | .stepCmp c _ => ctxOk c
  | .stepMul c _ => ctxOk c
  | .stepMulhu c _ => ctxOk c
  | .stepMulhs c _ => ctxOk c
  | .stepDivu c _ => ctxOk c
  | .stepDivs c _ => ctxOk c
  | .stepRemu c _ => ctxOk c
  | .stepRems c _ => ctxOk c
  | .stepMinu c _ => ctxOk c
  | .stepMaxu c _ => ctxOk c
  | .stepMins c _ => ctxOk c
  | .stepMaxs c _ => ctxOk c
  | .stepAnd c _ => ctxOk c
  | .stepOr c _ => ctxOk c
  | .stepXor c _ => ctxOk c
  | .stepTst c _ => ctxOk c
  | .stepLsl c _ => ctxOk c
  | .stepLsr c _ => ctxOk c
  | .stepAsr c _ => ctxOk c
  | .stepRol c _ => ctxOk c
  | .stepRor c _ => ctxOk c
  | .stepPopc c _ => ctxOk c
  | .stepClz c _ => ctxOk c
  | .stepBswap c _ => ctxOk c
  | .stepCrc c _ => ctxOk c
  | .stepLcrc c _ => ctxOk c
  | .stepSld c _ => ctxOk c
  | .stepSst c _ => ctxOk c
  | .stepLd c _ => ctxOk c
  | .stepSt c _ => ctxOk c
  | .stepLcopy c _ => ctxOk c
  | .stepLfill c _ => ctxOk c
  | .stepLcmp c _ => ctxOk c
  | .stepAadd c _ => ctxOk c
  | .stepAswp c _ => ctxOk c
  | .stepAcas c _ => ctxOk c
  | .stepAcas128 c _ => ctxOk c
  | .stepXld c _ => ctxOk c
  | .stepXst c _ => ctxOk c
  | .stepXcpy c _ => ctxOk c
  | .stepHld c _ => ctxOk c
  | .stepHcmt c _ => ctxOk c
  | .stepBisnp c _ _ _ => ctxOk c
  | .stepDlswap c _ _ => ctxOk c
  | .stepCntrd c _ _ _ => ctxOk c
  | .stepRmap c _ _ _ _ => ctxOk c
  | .stepHeat c _ _ _ => ctxOk c
  | .stepNotify c _ _ _ params => ctxOk c && decide (params.length ≤ 48)
  | .undefinedStep c _ => ctxOk c
  | .instCreate _ _ => true
  | .instDestroy _ _ => true
  | .destroyComplete _ => true
  | .instBind _ _ _ _ => true
  | .instUnbind _ => true
  | .hdmDecoderCommit _ _ rec => rec.length == 32
  | .identifyMemoryDevice _ => true
  | .getSupportedLogs _ => true
  | .getLog _ _ _ => true
  | .getEventRecords _ _ => true
  | .clearEventRecords _ _ _ => true
  | .getEventInterruptPolicy _ => true
  | .setEventInterruptPolicy _ _ => true
  | .getHealthInfo _ => true
  | .getTimestamp _ => true
  | .getPoisonList _ _ _ => true
  | .getDynamicCapacityConfiguration _ _ _ => true
  | .getDynamicCapacityExtentList _ _ _ => true
  | .mailboxUnsupported _ _ => true
  | .dictionaryRequest _ _ => true
  | .submitInvocations _ _ descs => descs.all fun d => d.length == 64
  | .getCompletions _ _ _ => true
  | .loadStepTable _ _ => true
  | .unloadStepTable _ _ => true
  | .getNotices _ _ => true
  | .acknowledgeNotices _ _ => true
  | .confirmFlush _ _ _ => true
  | .postNotice _ _ _ => true
  | .dirtyStart _ _ => true
  | .dirtyStop _ _ => true
  | .dirtyHarvest _ _ _ => true
  | .harvestTick => true
  | .markFlushComplete _ => true
  | .bitmapClearComplete _ => true
  | .harvestTransferComplete _ => true
  | .meterRefill _ => true
  | .egressSchedule _ => true
  | .clearOverflow _ _ _ _ => true
  | .instanceClearOverflow _ _ => true
  | .controlRecordWrite _ _ _ _ => true
  | .windowStart _ _ => true
  | .windowStop _ _ => true
  | .windowEnd _ => true
  | .causeOccurrence _ _ _ params => decide (params.length ≤ 6)
  | .faultClear _ _ _ _ => true
  | .faultClearAll _ => true
  | .levelUnlatch _ _ => true
  | .faultRescan => true
  | .recordCommit => true
  | .storeFailure => true
  | .retryStore _ _ => true
  | .strandErase _ => true
  | .secondsSave => true
  | .domainTarget _ _ _ => true
  | .blockAnswer _ _ _ => true
  | .delayTimeout _ _ => true
  | .domainEntryComplete _ => true
  | .bankEmpty _ _ => true
  | .wakeSource _ _ => true
  | .idleTime _ => true
  | .pllLock _ => true
  | .pllLockTimeout _ => true
  | .forceOff _ _ => true
  | .droopCrossing _ _ _ => true
  | .stretchRelease _ _ _ => true
  | .stretchTimeout _ => true
  | .thermalThreshold _ _ => true
  | .thermalHoldEnd _ => true
  | .thermalTrip _ => true
  | .avsAck _ => true
  | .avsTimeout _ => true
  | .phaseLost _ _ => true
  | .pwrokTFall _ => true
  | .railMonitor _ => true
  | .slotTarget _ _ _ => true
  | .slotEnRise _ _ => true
  | .slotEnFall _ => true
  | .slotStagger _ => true
  | .powerGood _ _ => true
  | .startTimeout _ => true
  | .breakerTrip _ => true
  | .fastTrip _ _ => true
  | .fetTemperatureTrip _ => true
  | .modelUpdate _ _ => true
  | .channelCheck _ _ _ => true
  | .channelDisagreement _ _ _ => true
  | .slotPwrwarn _ _ => true
  | .pwrwarnRecovery _ => true
  | .inputLoss _ _ => true
  | .warningLeadEnd _ => true
  | .stopComplete _ => true
  | .offTimeEnd _ => true
  | .powerOn _ => true
  | .pwrokAonFall => true
  | .perstN _ => true
  | .bootComplete => true
  | .fwBegin _ _ => true
  | .fwDownload _ _ _ _ => true
  | .fwVerify _ => true
  | .activateFirmware _ => true
  | .applyMicrocode _ => true
  | .fwConfirm _ => true
  | .fwRevert _ => true
  | .setCredential _ _ => true
  | .enrollKey _ _ => true
  | .revokeKey _ _ => true
  | .raiseFloor _ => true
  | .revokeRootKey _ _ => true
  | .getVersion _ => true
  | .getCapabilities _ => true
  | .negotiateAlgorithms _ _ => true
  | .getDigests _ => true
  | .getCertificate _ _ _ _ => true
  | .spdmChallenge _ _ nonce => nonce.length == 32
  | .getMeasurements _ _ nonce => nonce.length == 32
  | .keyExchange _ _ => true
  | .spdmFinish _ _ _ => true
  | .endSession _ _ => true
  | .keyProg _ _ _ _ key => key.length == 32
  | .kSetGo _ _ _ _ => true
  | .ideRefresh _ => true
  | .ideIntegrityFailure _ _ => true
  | .attestNow _ _ => true
  | .sramBist _ _ => true
  | .hbmBist _ _ => true
  | .receiverCalibration _ _ => true
  | .logicBist _ _ => true
  | .patrolScrubPass _ _ => true
  | .testComplete _ _ _ => true
  | .diagnosticRead _ _ => true
  | .diagnosticWrite _ _ => true
  | .pwrokTRise _ => true
  | .l1Entry _ => true
  | .l1Exit _ => true
  | .recoveryEntry _ => true
  | .headlandWarmReset => true
  | .partnerDvsecWrite _ _ => true
  | .actionComplete _ _ => true
  | .tidelinkTrained _ _ _ => true
  | .vddHldInRange => true
  | .phaseRestored _ => true
  | .cycleCountTrim _ => true
  | .pllLockLoss _ _ => true

end Sys2Proof
end

