-- ==== Sys2Proof/Safety.lean ====
section
/-!
DEFINITION. What the statements call a good state and a good step: the canonical form of the block's sparse data, the
well-formedness of its queue, and the parts of a state that no command takes back.
-/
namespace Sys2Proof.Machine

open Sys2Proof

/-- The keys of sparse data strictly rise from a bound: no key stands twice, and equal contents are equal data. -/
def risingFrom {α : Type} : Nat → SMap α → Bool
  | _, [] => true
  | n, (k, _) :: t => decide (n ≤ k) && risingFrom (k + 1) t

/-- Sparse data in its canonical form. -/
def canonical {α : Type} (m : SMap α) : Bool := risingFrom 0 m

/-- The objects, records, change counters and memory of a state in canonical form. -/
def State.Inv (s : State) : Prop :=
  canonical s.obj = true ∧ canonical s.blob = true ∧ canonical s.tbl = true ∧ canonical s.chg = true ∧ Memory.wf s.mem = true

/-- Every waiting command is well-formed. -/
def State.queueOk (s : State) : Prop := s.pending.all Instr.wf = true

/-- What one command does to the parts of a state that no command takes back: what has left the device stays, the source of free
values only advances, the queue is left alone, and canonical forms are kept. -/
structure Keeps (s t : State) : Prop where
  pending : t.pending = s.pending
  out : s.out <:+ t.out
  free : s.free ≤ t.free
  obj : canonical s.obj = true → canonical t.obj = true
  blob : canonical s.blob = true → canonical t.blob = true
  tbl : canonical s.tbl = true → canonical t.tbl = true
  chg : canonical s.chg = true → canonical t.chg = true
  mem : Memory.wf s.mem = true → Memory.wf t.mem = true

/-- A write command passes checks 1 to 11 of R431 for its requester. -/
def accepted (s : State) (r : Requester) (idx sub q : Nat) (v : List Byte) : Prop := writeChecks s r (rowItem idx sub q v) = none

/-- An accepted write is answered: on OK its change counter rises (R34); views that agree again end their skew (R30); the status leaves. -/
def answered (u : State) (idx sub q : Nat) (st : Status) : State :=
  emit (settleViews (if st = .ok then bumpChange u idx sub q else u)) (.wrote idx sub q st)

/-- A chunk write of a table object passes the checks for its requester. -/
def chunkAccepted (s : State) (r : Requester) (idx sub q : Nat) : Prop := chunkChecks s r (rowItem idx sub q []) = none

/-- An accepted chunk write is answered. -/
def chunkAnswered (u : State) (idx sub q : Nat) (st : Status) : State :=
  emit (if st = .ok then bumpChange u idx sub q else u) (.wrote idx sub q st)

/-- A request of an open session is in order (R36, R37): its transport is open, its form and tag are right, it repeats no kept reply,
runs ahead of H, and names a version and an opcode of its session. -/
def inOrder (s : State) (t : Transport) (x : Session) (m : OdpMsg) : Prop :=
  transportOpen s t = true ∧ formOk m (msgLimit t) 16 = true ∧ sessionOf (hldWake s (transportWake t)) t m = some x ∧ x.transport = t
    ∧ m.tag = odpTag x.key (odpBytes m) ∧ (x.replies.find? fun e => e.1 == m.sequence.toNat) = none
    ∧ (x.proved = true → ahead m.sequence.toNat x.high = true) ∧ versionBad m x.version = false

/-- A session's state before its request acts: the session is proved, its idle time starts again, and H is the request's sequence. -/
def beforeOp (s : State) (t : Transport) (x : Session) (m : OdpMsg) : State :=
  setSession (setSession (hldWake s (transportWake t)) x.id fun y =>
    { y with proved := true, lastValid := secondsNow (hldWake s (transportWake t)) }) x.id fun y => { y with high := m.sequence.toNat }

/-- A session's request is answered: the reply carries the session's tag and is kept among the last 32. -/
def afterOp (u : State) (x : Session) (m : OdpMsg) (a : Answer) : State :=
  let reply := tagged x.key (replyTo m x.version a.status m.session a.items a.body)
  promisedReset (sendOdp (setSession u x.id fun y => { y with replies := ((m.sequence.toNat, reply) :: y.replies).take 32 })
    x.transport reply)

/-- An item as Table 2-10 lays it out: a header of 12 bytes, and the value with zeros up to a multiple of 4 bytes. -/
def WireItem.bytes (w : WireItem) : List Byte :=
  be 2 w.idx ++ be 1 w.sub ++ be 1 w.iflags ++ be 2 w.q ++ be 1 w.ty ++ [0] ++ be 2 w.value.length ++ be 2 w.change ++ pad4 w.value

/-- An item whose fields have the widths of Table 2-10. -/
def WireItem.fits (w : WireItem) : Prop :=
  w.idx < 2 ^ 16 ∧ w.sub < 2 ^ 8 ∧ w.iflags < 2 ^ 8 ∧ w.q < 2 ^ 16 ∧ w.ty < 2 ^ 8 ∧ w.change < 2 ^ 16 ∧ w.value.length < 2 ^ 16

/-- What the rise of a group's PERST_N does to a port of its domain: it goes down, and trains again where its target is 1, it has a
role and every lane group of it is powered. -/
def perstPort (a : State) (p : Nat) : State :=
  let b := portDown a p 6 false
  if rd b 0x2010 1 p = 1 ∧ actingRole b p ≠ 0 ∧ (portGroups b p).all (fun h => rd b 0x2140 2 (256 + h) == 0) = true then wr b 0x2010 2 p 1
  else b

/-- The cell of a message between two ports, before its number is given (R104). -/
def switchCell (m : Msg) : Cell :=
  cellFor (portTile m.src) (m.src % 16) (portXp m.src) m.cls m.key 0xFFF false (portTile m.dst) (portXp m.dst) m .none m.sample.isSome

/-- The opcode that a sample of a port-based routed request carries. -/
def pbrOpcode (x : PbrReq) : Nat :=
  match pbrAsk x with
  | some (_, m) => m.opcode
  | none => (match x with | .io posted _ _ _ => if posted then 0x60 else 0x20 | _ => 0)

/-- A message is admitted to a tile (R104, R108): its cells own free cell numbers, the message tag advances, and they stand in their queues. -/
def placed (s : State) (t : Nat) (c : Cell) : State :=
  let cells := messageCells s t c
  let x := getTile s t
  let s1 := setTile s t { x with owner := cells.foldl (fun o c => put o c.num (c.limit * 8 + c.cls)) x.owner, mtag := (x.mtag + 1) % 65536 }
  cells.foldl (fun a c => enqueueCell (seeCell (crossIn a t c.xpIn) t c.num) t c) s1

/-- A step issues (R237, R260, R261): its engine is in service and has chosen the context, the context's table holds the step at its
index, the budget is not used up, and the step is defined and allowed there. -/
def issues (s : State) (c op : Nat) (f : StepF) : Prop :=
  engineOn s (getCtx s c).engine = true ∧ (engineChoice s (getCtx s c).engine).map (·.1) = some c ∧ stepDue s (getCtx s c) op f = true
    ∧ (getCtx s c).budget ≠ 0 ∧ stepDefined (decide ((getCtx s c).table < 512)) (getCtx s c).sp op f = true ∧ notAllowed (getCtx s c) op f = false

/-- The cycle of a step that issues is spent: the ring moves on. -/
def spent (s : State) (c : Nat) : State := spendCycle s (getCtx s c).engine (getCtx s c).slot

/-- A step that issues is counted and the context stands at the next step. -/
def stepped (s : State) (c : Nat) : State := retire (spent s c) c

/-- A step that issues changes the context, which stands at the next step, by a function of its fields. -/
def stepDone (s : State) (c : Nat) (g : Ctx → Ctx) : State := setCtx (stepped s c) c (g (getCtx (stepped s c) c))

/-- The object that a row writes, with the value: requester, index, subindex, qualifier, bytes. Rows whose command does more than its write are
not among them. -/
def rowOf : Instr → Option (Requester × Nat × Nat × Nat × List Byte)
  | .cacheFlush r t => some (r, 0x6100, 11, t.val, [1])
  | .dirLookup r t v => some (r, 0x6200, 8, t.val, v)
  | .sramBist r v => some (r, 0xE000, 1, 0, v)
  | .hbmBist r v => some (r, 0xE000, 1, 0, v)
  | .receiverCalibration r v => some (r, 0xE000, 1, 0, v)
  | .logicBist r v => some (r, 0xE000, 1, 0, v)
  | .patrolScrubPass r v => some (r, 0xE000, 1, 0, v)
  | .diagnosticRead r v => some (r, 0xE010, 1, 0, v)
  | .diagnosticWrite r v => some (r, 0xE010, 3, 0, v)
  | .clearCapture r g _ => some (r, 0x4200, 5, g.val, [1])
  | .recolour r v => some (r, 0x4300, 3, 0, v)
  | .tagQuery r v => some (r, 0x4300, 4, 0, v)
  | .engineOutOfService r e => some (r, 0x8000, 1, e.val, [0])
  | .engineReturn r e => some (r, 0x8000, 1, e.val, [1])
  | .tableLoad r owner => some (r, 0x8110, 2, 0, (be 2 owner.toNat))
  | .tableUnload r tb => some (r, 0x8100, 11, tb.val, [1])
  | .stopContext r e v => some (r, 0x8001, 1, e.val, (be 4 v.toNat))
  | .instCreate r v => some (r, 0x5001, 1, 0, v)
  | .instDestroy r i => some (r, 0x5000, 3, i.val, [1])
  | .instBind r i sub v => some (r, 0x5010, (bindSub sub), i.val, [v])
  | .postNotice r i v => some (r, 0x5100, 1, i.val, v)
  | .dirtyStart r i => some (r, 0x5200, 1, i.val, [1])
  | .dirtyStop r i => some (r, 0x5200, 2, i.val, [1])
  | .dirtyHarvest r i v => some (r, 0x5200, 3, i.val, v)
  | .swapBack r g => some (r, 0x2140, 11, (256 + g.val), [1])
  | .retireLane r g v => some (r, 0x2140, 12, (256 + g.val), (be 4 v.toNat))
  | .laneDirectionTarget r l d v => some (r, (dirIndex d), 1, l.val, [v])
  | .testTarget r l v => some (r, 0x2110, 1, l.val, [v])
  | .testLoopback r l v => some (r, 0x2110, 4, l.val, [v])
  | .testInject r l n => some (r, 0x2110, 5, l.val, (be 4 n.toNat))
  | .clearCounters r l => some (r, 0x2110, 9, l.val, [1])
  | .quiesceTarget r g v => some (r, 0x2140, 1, (256 + g.val), [v])
  | .forceRetrain r p => some (r, 0x2210, 9, p.val, [1])
  | .littoralMove r v => some (r, 0x6830, 1, 0, v)
  | .targetModeWrite r v => some (r, 0x1200, 1, 0, [v])
  | .cfgInstall r => some (r, 0x1211, 2, 0, [1])
  | .cfgActivate r => some (r, 0x1212, 1, 0, [1])
  | .commitDelta r => some (r, 0x1213, 1, 0, [1])
  | .clearDelta r => some (r, 0x1213, 2, 0, [1])
  | .grant r v => some (r, 0x4110, 1, 0, v)
  | .extentRelease r e => some (r, (extObj e.val), 3, (extQ e.val), (be 4 0))
  | .forcedRelease r e => some (r, (extObj e.val), 3, (extQ e.val), (be 4 1))
  | .targetPoolWrite r tg v => some (r, 0x4000, 1, tg.val, [v])
  | .nearTierWrite r t v => some (r, 0x4000, 8, t.val, (be 2 v.toNat))
  | .retirePseudoChannel r t v => some (r, 0x4001, 5, t.val, (be 4 v.toNat))
  | .domainTarget r d v => some (r, 0x9000, 1, d.val, [v])
  | .forceOff r d => some (r, 0x9000, 8, d.val, [1])
  | .slotTarget r n v => some (r, 0xA000, 1, n.val, [v])
  | .attestNow r p => some (r, 0xD010, 6, p.val, [1])
  | .faultClearAll r => some (r, 0xC010, 4, 0, [1])
  | .retryStore r _ => some (r, 0xC100, 7, 0, [1])
  | .strandErase r => some (r, 0xC100, 6, 0, [1])
  | .tidelinkTarget r l v => some (r, 0x3100, 1, l.val, [v])
  | .tidelinkRepair r l => some (r, 0x3100, 12, l.val, [1])
  | .clearOverflow r u mask _ => some (r, 0xB000, 4, u.val, (be 8 mask.toNat))
  | .instanceClearOverflow r i => some (r, 0xB010, 2, i.val, [1])
  | .windowStart r p => some (r, 0xB200, 3, p.val, [1])
  | .windowStop r p => some (r, 0xB200, 4, p.val, [1])
  | .tileReset r t => some (r, 0x3000, 3, t.val, [1])
  | .tileTarget r t v => some (r, 0x3000, 1, t.val, [v])
  | .fwBegin r len => some (r, 0xD100, 6, 0, (be 4 len.toNat))
  | .fwVerify r => some (r, 0xD100, 7, 0, [1])
  | .activateFirmware r => some (r, 0xD100, 8, 0, [1])
  | .applyMicrocode r => some (r, 0xD100, 11, 0, [1])
  | .fwConfirm r => some (r, 0xD100, 9, 0, [1])
  | .fwRevert r => some (r, 0xD100, 12, 0, [1])
  | .setCredential r v => some (r, 0xD000, 2, 0, v)
  | .enrollKey r v => some (r, 0xD000, 4, 0, v)
  | .revokeKey r v => some (r, 0xD000, 5, 0, v)
  | .raiseFloor r => some (r, 0xD000, 7, 0, [1])
  | _ => none

/-- The table or blob object that a row writes a chunk of. -/
def chunkRowOf : Instr → Option (Requester × Nat × Nat × Nat)
  | .bindingsWrite r e _ _ => some (r, 0x8000, 7, e.val)
  | .pathTableWrite r t _ _ => some (r, 0x3210, 1, t.val)
  | .controlRecordWrite r u _ _ => some (r, 0xB000, 3, u.val)
  | .fwDownload r _ _ _ => some (r, 0xD100, 5, 0)
  | _ => none

/-- The context, operation code and fields of a step command. -/
def stepOf : Instr → Option (Nat × Nat × StepF)
  | .stepNop c f => some (c.val, 0x01, f)
  | .stepEnd c f => some (c.val, 0x02, f)
  | .stepYield c f => some (c.val, 0x03, f)
  | .stepWait c f => some (c.val, 0x04, f)
  | .stepSignal c f => some (c.val, 0x05, f)
  | .stepTimer c f => some (c.val, 0x06, f)
  | .stepSysr c f => some (c.val, 0x07, f)
  | .stepRdf c f => some (c.val, 0x08, f)
  | .stepWrf c f => some (c.val, 0x09, f)
  | .stepBr c f => some (c.val, 0x10, f)
  | .stepLoop c f => some (c.val, 0x11, f)
  | .stepMov c f => some (c.val, 0x18, f)
  | .stepCsel c f => some (c.val, 0x19, f)
  | .stepSext c f => some (c.val, 0x1A, f)
  | .stepAdd c f => some (c.val, 0x20, f)
  | .stepAdc c f => some (c.val, 0x21, f)
  | .stepSub c f => some (c.val, 0x22, f)
  | .stepSbb c f => some (c.val, 0x23, f)
  | .stepNeg c f => some (c.val, 0x24, f)
  | .stepCmp c f => some (c.val, 0x25, f)
  | .stepMul c f => some (c.val, 0x26, f)
  | .stepMulhu c f => some (c.val, 0x27, f)
  | .stepMulhs c f => some (c.val, 0x28, f)
  | .stepDivu c f => some (c.val, 0x29, f)
  | .stepDivs c f => some (c.val, 0x2A, f)
  | .stepRemu c f => some (c.val, 0x2B, f)
  | .stepRems c f => some (c.val, 0x2C, f)
  | .stepMinu c f => some (c.val, 0x2D, f)
  | .stepMaxu c f => some (c.val, 0x2E, f)
  | .stepMins c f => some (c.val, 0x2F, f)
  | .stepMaxs c f => some (c.val, 0x30, f)
  | .stepAnd c f => some (c.val, 0x38, f)
  | .stepOr c f => some (c.val, 0x39, f)
  | .stepXor c f => some (c.val, 0x3A, f)
  | .stepTst c f => some (c.val, 0x3B, f)
  | .stepLsl c f => some (c.val, 0x3C, f)
  | .stepLsr c f => some (c.val, 0x3D, f)
  | .stepAsr c f => some (c.val, 0x3E, f)
  | .stepRol c f => some (c.val, 0x3F, f)
  | .stepRor c f => some (c.val, 0x40, f)
  | .stepPopc c f => some (c.val, 0x41, f)
  | .stepClz c f => some (c.val, 0x42, f)
  | .stepBswap c f => some (c.val, 0x43, f)
  | .stepCrc c f => some (c.val, 0x48, f)
  | .stepLcrc c f => some (c.val, 0x49, f)
  | .stepSld c f => some (c.val, 0x50, f)
  | .stepSst c f => some (c.val, 0x51, f)
  | .stepLd c f => some (c.val, 0x58, f)
  | .stepSt c f => some (c.val, 0x59, f)
  | .stepLcopy c f => some (c.val, 0x5A, f)
  | .stepLfill c f => some (c.val, 0x5B, f)
  | .stepLcmp c f => some (c.val, 0x5C, f)
  | .stepAadd c f => some (c.val, 0x60, f)
  | .stepAswp c f => some (c.val, 0x61, f)
  | .stepAcas c f => some (c.val, 0x62, f)
  | .stepAcas128 c f => some (c.val, 0x63, f)
  | .stepXld c f => some (c.val, 0x68, f)
  | .stepXst c f => some (c.val, 0x69, f)
  | .stepXcpy c f => some (c.val, 0x6A, f)
  | .stepHld c f => some (c.val, 0x70, f)
  | .stepHcmt c f => some (c.val, 0x71, f)
  | .stepBisnp c f _ _ => some (c.val, 0x78, f)
  | .stepDlswap c f _ => some (c.val, 0x79, f)
  | .stepCntrd c f _ _ => some (c.val, 0x7A, f)
  | .stepRmap c f _ _ _ => some (c.val, 0x7B, f)
  | .stepHeat c f _ _ => some (c.val, 0x7C, f)
  | .stepNotify c f _ _ _ => some (c.val, 0x7D, f)
  | _ => none

/-- The run is safe at a state: the next step neither faults nor refuses. -/
def Safe (s : State) : Prop := ∃ t, step s = .next t

end Sys2Proof.Machine
end

