-- ==== Sys2Proof/Certificates/Slice0/Obligations.lean ====
section
/-!
DEFINITION. The statements for the provers: what the rules of the specification say of the block, family by family.
-/
section

open Sys2Proof Sys2Proof.Machine

/-! Lanes and port groups (chapter 4). -/

/-- Writes to lane objects (R67, R76, R78 to R81): an accepted write of a lane direction's target, a test target, a loopback, an
injection, a Clear, a Swap back or a Retire does the register writes of its rule and nothing else. -/
def Obligations.LaneWritesComplete : Prop :=
  ∀ (s : State) (r : Requester),
    (∀ (l : LaneN) (d : Dir) (v : Byte), accepted s r (dirIndex d) 1 l.val [v] →
      (v = 2 → laneRole s l.val ≠ 1 ∧ laneRole s l.val ≠ 3) →
      exec (.laneDirectionTarget r l d v) s = .next (answered
        (if v = 2 then wr (wr s (dirIndex d) 1 l.val 2) (dirIndex d) 2 l.val 2 else wr s (dirIndex d) 1 l.val v.toNat) (dirIndex d) 1 l.val .ok))
    ∧ (∀ (l : LaneN) (v : Byte), accepted s r 0x2110 1 l.val [v] → (v.toNat % 2 = 1 → generatorOk (laneKind s l.val) = true) →
      (2 ≤ v.toNat → checkerOk (laneKind s l.val) = true) →
      ∃ u, exec (.testTarget r l v) s = .next (answered u 0x2110 1 l.val .ok) ∧ rd u 0x2110 1 l.val = v.toNat ∧ rd u 0x2110 2 l.val = v.toNat
        ∧ (v ≠ 0 → rd u 0x2110 11 l.val = 0) ∧ (v = 0 → rd s 0x2110 2 l.val ≠ 0 → rd u 0x2110 11 l.val = 1)
        ∧ (getLane u l.val).inSync = false ∧ u = { s with obj := u.obj, lanes := u.lanes, free := u.free })
    ∧ (∀ (l : LaneN) (v : Byte), accepted s r 0x2110 4 l.val [v] → (v = 1 ∨ v = 2 → nearEndOk (laneKind s l.val) = true) →
      (v = 3 → farEndOk (laneKind s l.val) = true) →
      exec (.testLoopback r l v) s = .next (answered (wr s 0x2110 4 l.val v.toNat) 0x2110 4 l.val .ok))
    ∧ (∀ (l : LaneN) (n : BitVec 32), accepted s r 0x2110 5 l.val (be 4 n.toNat) → 1 ≤ n.toNat ∧ n.toNat ≤ 255 →
      laneKind s l.val ≠ .traffic → laneKind s l.val ≠ .spareBusy →
      rd s 0x2110 2 l.val % 2 = 1 ∨ laneKind s l.val = .spareKeepalive →
      exec (.testInject r l n) s = .next (answered
        (setLane (cmdDone s 0x2110 5 l.val 0) l.val { getLane s l.val with inject := n.toNat }) 0x2110 5 l.val .ok))
    ∧ (∀ l : LaneN, accepted s r 0x2110 9 l.val [1] →
      exec (.clearCounters r l) s = .next (answered
        (cmdDone (wr (wr (wr s 0x2110 6 l.val 0) 0x2110 7 l.val 0) 0x2110 8 l.val 0) 0x2110 9 l.val 0) 0x2110 9 l.val .ok))
    ∧ (∀ g : GroupN, accepted s r 0x2140 11 (256 + g.val) [1] → spareInUse s g.val = true →
      exec (.swapBack r g) s = .next (answered
        (cmdStart (stopTest s (8 * g.val + rd s 0x2140 9 (256 + g.val)) 2) 0x2140 11 (256 + g.val)) 0x2140 11 (256 + g.val) .ok))
    ∧ (∀ (g : GroupN) (v : Byte), accepted s r 0x2140 12 (256 + g.val) (be 4 v.toNat) → spareTaken s g.val = false →
      (getPort s (lanePort s (8 * g.val + v.toNat))).subPhase = 0 → (getPort s (lanePort s (8 * g.val + v.toNat))).window = false →
      exec (.retireLane r g v) s = .next (answered
        (if laneRole s (8 * g.val + v.toNat) = 1 then
          beginSubstitution (cmdDone s 0x2140 12 (256 + g.val) 0) (lanePort s (8 * g.val + v.toNat)) (8 * g.val + v.toNat)
         else retireIdle (cmdDone s 0x2140 12 (256 + g.val) 0) g.val (8 * g.val + v.toNat)) 0x2140 12 (256 + g.val) .ok))

/-- Lane and link events (R62, R67, R72 to R75): what a lock, a loss of lock, a decision window's close, a sparing exchange between the
two sides, an L0p width change, and an entry into Recovery or its end do to the lane and port state. -/
def Obligations.LaneEventsComplete : Prop :=
  ∀ s : State,
    (∀ l : LaneN, rd s 0x2102 2 l.val = 0 → exec (.laneLock l) s = .next (wr s 0x2100 5 l.val 2))
    ∧ (∀ l : LaneN, rd s 0x2100 5 l.val = 2 → rd s 0x2102 2 l.val = 0 → rd s 0x2010 2 (lanePort s l.val) = 3 →
      laneRole s l.val ≠ 1 → laneRole s l.val ≠ 3 →
      exec (.laneLockLoss l) s = .next (freeNext (bump (bump (wr s 0x2100 5 l.val 1) 0x2100 6 l.val 32 1) 0x2100 7 l.val 64 (16 + Config.freeValue s.free))))
    ∧ (∀ l : LaneN, rd s 0x2100 5 l.val = 2 → rd s 0x2102 2 l.val = 0 → rd s 0x2010 2 (lanePort s l.val) = 3 →
      laneRole s l.val = 1 ∨ laneRole s l.val = 3 → lanePort s l.val < 64 → (getPort s (lanePort s l.val)).window = false →
      (getPort s (lanePort s l.val)).subPhase = 0 →
      (getPort s (lanePort s l.val)).swap = false →
      exec (.laneLockLoss l) s = .next (setPort (freeNext (bump (bump (wr s 0x2100 5 l.val 1) 0x2100 6 l.val 32 1) 0x2100 7 l.val 64 (16 + Config.freeValue s.free))) (lanePort s l.val)
        { getPort s (lanePort s l.val) with window := true, lost := [l.val] }))
    ∧ (∀ p : PortN, (getPort s p.val).window = true →
      exec (.decisionWindowClose p) s = .next (
        match (getPort s p.val).lost with
        | [] => setPort s p.val { getPort s p.val with window := false }
        | [l] => beginSubstitution s p.val l
        | ls => recoverLanes s p.val ls))
    ∧ (∀ (p : PortN) (l : LaneN), l.val < 256 → lanePort s l.val = p.val → laneRole s l.val = 1 → rd s 0x2010 2 p.val = 3 →
      sparingMode s p.val (laneGroup l.val) = 3 → spareFree s (laneGroup l.val) p.val = true → (getPort s p.val).swap = false →
      (∀ x ∈ (getPort s p.val).lost, x = l.val) → (∀ x, (getPort s p.val).subLane = some x → x = l.val) →
      exec (.sparingRequest p l) s = .next (emit (setPort (stopTest s (256 + l.val / 8) 2) p.val
        { getPort s p.val with window := false, lost := [], subPhase := 2, subLane := some l.val, excluded := [] })
        (.sparingAck p.val l.val)))
    ∧ (∀ p : PortN, (getPort s p.val).subPhase = 1 →
      exec (.sparingAck p) s = .next (setPort s p.val { getPort s p.val with subPhase := 2 }))
    ∧ (∀ (p : PortN) (l : Nat), (getPort s p.val).subPhase = 2 → (getPort s p.val).subLane = some l →
      exec (.switchFlit p) s = .next (
        if (getPort s p.val).swap then restored (setPort s p.val { getPort s p.val with subPhase := 0, subLane := none, swap := false }) (laneGroup l)
        else substituted (setPort s p.val { getPort s p.val with subPhase := 0, subLane := none, swap := false }) p.val l))
    ∧ (∀ (p : PortN) (w : Byte), (getPort s p.val).l0p = true → rd s 0x2010 2 p.val = 3 → w.toNat ≠ 0 →
      w.toNat ≤ (getPort s p.val).fullWidth → (getPort s p.val).subPhase = 0 →
      exec (.l0pWidthChange p .both w none) s = .next (setPort (setWidth (setWidth s p.val 0x2101 w.toNat) p.val 0x2102 w.toNat) p.val
        { getPort s p.val with widthTx := w.toNat, widthRx := w.toNat }))
    ∧ (∀ (p : PortN) (w : Byte) (x : Nat), (getPort s p.val).l0p = true → rd s 0x2010 2 p.val = 3 → w.toNat ≠ 0 →
      w.toNat ≤ (getPort s p.val).fullWidth → (getPort s p.val).subPhase = 3 → (getPort s p.val).subLane = some x → x < 256 →
      w.toNat = narrowWidth s (getPort s p.val) x →
      ∃ t, exec (.l0pWidthChange p .both w none) s = .next t ∧ getPort t p.val =
          { getPort s p.val with subPhase := 4, widthTx := w.toNat, widthRx := w.toNat }
        ∧ t.obj = (setWidth (setWidth s p.val 0x2101 w.toNat) p.val 0x2102 w.toNat).obj ∧ t.mem = s.mem ∧ t.lanes = s.lanes)
    ∧ (∀ (p : PortN) (ok : Bool), rd s 0x2010 2 p.val = 4 → rd s 0x2010 3 p.val ≠ 0 →
      (getPort s p.val).subLane = none → (getPort s p.val).excluded = [] →
      exec (.recoveryComplete p ok) s = .next
        (setPort (wr s 0x2010 2 p.val 3) p.val
          { getPort s p.val with subPhase := 0, subLane := none, excluded := [], swap := false }))
    ∧ (∀ p : PortN, rd s 0x2010 2 p.val = 3 → (getPort s p.val).window = false →
      exec (.recoveryEntry p) s = .next (setPort (wr s 0x2010 2 p.val 4) p.val
        { getPort s p.val with window := false, lost := [], subPhase := 5, swap := false }))
    ∧ (∀ l : LaneN, l.val < 256 → rd s 0x2140 13 (256 + laneGroup l.val) ≠ 0 → laneRole s l.val = 1 →
      rd s 0x2010 2 (lanePort s l.val) = 3 → (getPort s (lanePort s l.val)).subPhase = 0 → (getPort s (lanePort s l.val)).window = false →
      spareable s (lanePort s l.val) [l.val] = some l.val →
      exec (.degradeThreshold l) s = .next (beginSubstitution (fecCounted s l.val (rd s 0x2140 13 (256 + laneGroup l.val))) (lanePort s l.val) l.val))

/-- The spare's exchange and keep-alive, loopback, the checker and L1 (R67, R70, R78, R80). -/
def Obligations.LaneChecksComplete : Prop :=
  ∀ s : State,
    (∀ (p : PortN) (g : Nat), portGroups s p.val = [g] → p.val ∈ (getGroup s g).exchange → bit (getPort s p.val).spareCap 3 = false →
      exec (.spareExchangeComplete p true) s = .next
        (setGroup s g { getGroup s g with exchange := (getGroup s g).exchange.filter (· != p.val) }))
    ∧ (∀ (p : PortN) (g : Nat), portGroups s p.val = [g] → p.val ∈ (getGroup s g).exchange →
      exec (.spareExchangeComplete p false) s = .next (raise
        (wr (keepaliveEnds s g p.val) 0x2140 (sparingSub s p.val) (256 + g) 0) (0x2000 + g) 4 .notice []))
    ∧ (∀ g : GroupN, (getGroup s g.val).keepalive ≠ [] →
      exec (.keepaliveLoss g) s = .next (raise
        (wr (wr (freeNext (bump (spareRests (setGroup s g.val { getGroup s g.val with keepalive := [] }) g.val) 0x2140 14 (256 + g.val) 64
          (64 + Config.freeValue s.free))) 0x2140 7 (256 + g.val) 0) 0x2140 8 (256 + g.val) 0) (0x2000 + g.val) 4 .notice []))
    ∧ (∀ l : LaneN, farEndOk (laneKind s l.val) = true →
      exec (.loopbackEntry l) s = .next (setLane s l.val { getLane s l.val with farEnd := true }))
    ∧ (∀ l : LaneN, 2 ≤ rd s 0x2110 2 l.val ∨ laneKind s l.val = .spareKeepalive →
      exec (.checkerSync l) s = .next (setLane s l.val { getLane s l.val with inSync := true }))
    ∧ (∀ (l : LaneN) (bits errs : Nat), (getLane s l.val).inSync = true →
      ∃ t, exec (.checkerSyncLoss l bits errs) s = .next t ∧ (getLane t l.val).inSync = false
        ∧ rd t 0x2110 6 l.val = sat64 (rd s 0x2110 6 l.val) bits ∧ rd t 0x2110 7 l.val = sat64 (rd s 0x2110 7 l.val) errs
        ∧ rd t 0x2110 8 l.val = (rd s 0x2110 8 l.val + 1) % 2 ^ 32 ∧ t = { s with obj := t.obj, lanes := t.lanes })
    ∧ (∀ p : PortN, rd s 0x2010 2 p.val = 3 → rd s 0x2000 5 p.val = 1 → actingRole s p.val ≠ 3 →
      exec (.l1Entry p) s = .next ((linkLanes s p.val).foldl (fun a l => setDirs a l 1) (wr s 0x2010 2 p.val 5)))
    ∧ (∀ p : PortN, rd s 0x2010 2 p.val = 5 → (∀ g ∈ portGroups s p.val, rd s 0x9000 2 (32 * (g / 8) + 9 + g % 8) = 0) →
      exec (.l1Exit p) s = .next
        (setWidth (setWidth (wr s 0x2010 2 p.val 3) p.val 0x2101 (getPort s p.val).widthTx) p.val 0x2102 (getPort s p.val).widthRx))

/-- Link events (R82 to R86, R97, R98): a quiesce or its release, a link-down with its cause, a late response, a change of presence, flit errors and
replay timeouts, each with every register it changes. -/
def Obligations.LinkWritesAndDownsComplete : Prop :=
  ∀ s : State,
    (∀ (r : Requester) (g : GroupN) (v : Byte), accepted s r 0x2140 1 (256 + g.val) [v] → exec (.quiesceTarget r g v) s = .next (answered (if v.toNat
      = 1 then quiesceGroup (wr s 0x2140 1 (256 + g.val) v.toNat) g.val else releaseGroup (wr s 0x2140 1 (256 + g.val) v.toNat) g.val) 0x2140 1 (256
      + g.val) .ok))
    ∧ (∀ (p : PortN) (c : DownCause), exec (.linkDown p c false) s = .next (portDown s p.val (downCode c) false))
    ∧ (∀ (p : PortN) (tag : Nat), (getPort s p.val).lateTags.contains tag = true → exec (.lateResponse p tag) s = .next (bump (setPort s p.val { getPort s p.val with lateTags := (getPort s p.val).lateTags.erase tag })
      0x2200 8 p.val 64 1))
    ∧ (∀ (p : PortN) (v : Bool), actingRole s p.val ≠ 2 → exec (.presenceChange p v) s = .next (setPort s p.val { getPort s p.val with presence := v }))
    ∧ (∀ (p : PortN), actingRole s p.val = 2 → (getPort s p.val).presence = false → isPoolDsp s p.val = true → exec (.presenceChange p true) s =
      .next (raise (setPort s p.val { getPort s p.val with presence := true }) (portSource p.val) 7 .notice []))
    ∧ (∀ (p : PortN), actingRole s p.val = 2 → (getPort s p.val).presence = false → isPoolDsp s p.val = false → exec (.presenceChange p true) s =
      .next (emit (setPort s p.val { getPort s p.val with presence := true }) (.hotPlug p.val true)))
    ∧ (∀ (p : PortN), actingRole s p.val = 2 → (getPort s p.val).presence = true → (getTgt s (dspTarget p.val)).away = false → isPoolDsp s p.val =
      true → exec (.presenceChange p false) s = .next (raise (setPort s p.val { getPort s p.val with presence := false }) (portSource p.val) 7
      .notice []))
    ∧ (∀ (p : PortN), actingRole s p.val = 2 → (getPort s p.val).presence = true → (getTgt s (dspTarget p.val)).away = false → isPoolDsp s p.val =
      false → exec (.presenceChange p false) s = .next (emit (setPort s p.val { getPort s p.val with presence := false }) (.hotPlug p.val false)))
    ∧ (∀ (p : PortN) (c : DownCause), exec (.linkDown p c true) s = .next (setPort (portDown s p.val (downCode c) (isRemoval s p.val c true)) p.val { getPort (portDown s p.val (downCode c) (isRemoval s p.val c true)) p.val with presence := false }))
    ∧ (∀ (p : PortN) (n : Nat), exec (.flitCrcError p n false) s = .next (portEvent (bump (bump (bump s 0x2200 3 p.val 64 1) 0x2200 2 p.val 64 1)
      0x2200 1 p.val 64 (min n (replayFlits s p.val))) p.val 7 (min n (replayFlits s p.val)) none 0))
    ∧ (∀ (p : PortN) (n : Nat), exec (.flitCrcError p n true) s = .next (raise (bump (portEvent (bump (bump (bump s 0x2200 3 p.val 64 1) 0x2200 2
      p.val 64 1) 0x2200 1 p.val 64 (min n (replayFlits s p.val))) p.val 7 (min n (replayFlits s p.val)) none 0) 0x2200 4 p.val 64 1) (0x2100 +
      p.val) 2 .notice []))
    ∧ (∀ (p : PortN) (n : Nat), exec (.replayTimeout p n) s = .next (portEvent (bump (bump s 0x2200 5 p.val 32 1) 0x2200 1 p.val 64 (min n
      (replayFlits s p.val))) p.val 7 (min n (replayFlits s p.val)) none 0))

/-- The credit audit and the retrain (R89 to R92): the audit period's start, a quiet point without a shortage, the hold's timeout, the drain before a
retrain, its end, the partner's LLRESET and a forced retrain. -/
def Obligations.CreditAuditComplete : Prop :=
  ∀ s : State,
    (∀ (p : PortN), linkUp s p.val = true → exec (.auditPeriod p) s = .next (setPort s p.val { getPort s p.val with auditHold := (getPort s p.val).auditHold || ((getPort s p.val).pools.filter audited).any (fun k => !k.quiet), pools := (getPort s p.val).pools.map fun k => { k with quiet := false } }))
    ∧ (∀ (p : PortN) (pool : Fin 18) (n : BitVec 32), linkUp s p.val = true → audited (nth poolInit (getPort s p.val).pools pool.val) = true → rd s
      0x2210 1 p.val = 0 → n.toNat ≤ (nth poolInit (getPort s p.val).pools pool.val).initial → (auditPool (nth poolInit (getPort s p.val).pools
      pool.val) n.toNat).noticed = (nth poolInit (getPort s p.val).pools pool.val).noticed → poolAwaits s p.val pool.val = false → exec (.quietPoint
      p pool n) s = .next (setPort s p.val { getPort s p.val with pools := setAt (getPort s p.val).pools pool.val (auditPool (nth poolInit (getPort s p.val).pools pool.val) n.toNat), auditHold := (getPort s p.val).auditHold && !((setAt (getPort s p.val).pools pool.val (auditPool (nth poolInit (getPort s p.val).pools pool.val) n.toNat)).filter audited).all (·.quiet) }))
    ∧ (∀ (p : PortN), (getPort s p.val).auditHold = true → exec (.auditHoldTimeout p) s = .next (bump (setPort s p.val { getPort s p.val with auditHold := false })
      0x2210 7 p.val 32 1))
    ∧ (∀ (p : PortN), (getPort s p.val).retrain = 1 → exec (.retrainDrainComplete p) s = .next (wr (setPort (emit (cutPort s p.val) (.llReset p.val))
      p.val { getPort (cutPort s p.val) p.val with retrain := 2 }) 0x2010 2 p.val 4))
    ∧ (∀ (p : PortN) (cs : List Nat), 2 ≤ (getPort s p.val).retrain → exec (.creditRetrainComplete p cs) s = .next (portLimits (retrainDone s p.val
      cs) p.val))
    ∧ (∀ (p : PortN), linkUp s p.val = true → llReinit s p.val = true → (getPort s p.val).retrain = 0 → exec (.llreset p) s = .next (wr (setPort s
      p.val { getPort s p.val with retrain := 3 }) 0x2010 2 p.val 4))
    ∧ (∀ (r : Requester) (p : PortN), accepted s r 0x2210 9 p.val [1] → linkUp s p.val = true → llReinit s p.val = true → (getPort s p.val).retrain =
      0 → exec (.forceRetrain r p) s = .next (answered (startRetrain (cmdStart s 0x2210 9 p.val) p.val) 0x2210 9 p.val .ok))

/-- The TLS6400's own functions (R94 to R96, Table 5-3): clearing and setting Bus Master Enable, a function-level reset and its end, a completion
timeout of a held tag, the partner's writes, and one cycle of a tile's scheduler. -/
def Obligations.FunctionEventsComplete : Prop :=
  ∀ s : State,
    (∀ (p : PortN) (f : FuncSel), actingRole s p.val = 1 → (getFn s (fnKey p.val (funcNo f))).flr = false → exec (.bmeClear p f) s = .next (emit
      (blockReads s (fnKey p.val (funcNo f))) (.cfgDone (fnKey p.val (funcNo f)))))
    ∧ (∀ (p : PortN) (f : FuncSel), actingRole s p.val = 1 → (getFn s (fnKey p.val (funcNo f))).flr = false → exec (.bmeSet p f) s = .next (emit
      (openFn s (fnKey p.val (funcNo f))) (.cfgDone (fnKey p.val (funcNo f)))))
    ∧ (∀ (p : PortN) (f : FuncSel), actingRole s p.val = 1 → (getFn s (fnKey p.val (funcNo f))).flr = false → ∃ t, exec (.initiateFlr p f) s = .next
      t ∧ (getFn t (fnKey p.val (funcNo f))).flr = true ∧ (getFn t (fnKey p.val (funcNo f))).msix = [])
    ∧ (∀ (p : PortN) (f : FuncSel), exec (.flrComplete p f) s = .next (setFn s (fnKey p.val (funcNo f)) { getFn s (fnKey p.val (funcNo f)) with flr := false }))
    ∧ (∀ (p : PortN) (f : FuncSel) (c : CtxN), (getFn s (fnKey p.val (funcNo f))).reads.find? (fun e => e.1 == c.val) = none → exec
      (.completionTimeout p f c) s = .next (setFn s (fnKey p.val (funcNo f)) { getFn s (fnKey p.val (funcNo f)) with heldTags := (getFn s (fnKey p.val (funcNo f))).heldTags.tail }))
    ∧ (∀ (p : PortN) (f : FuncSel) (c : CtxN) (e : Nat × Nat) (y : Pend) (k a b : Nat), k = fnKey p.val (funcNo f) → (getFn s k).reads.find? (fun e
      => e.1 == c.val) = some e → (getCtx s c.val).pend = some y → y.host = some (k, a, b) → exec (.completionTimeout p f c) s = .next (finishStep
      (freeNext (setFn s k { getFn s k with reads := (getFn s k).reads.filter (· != e) })) c.val { y with fault := 8, detail := freeBits s 8, addr := a }))
    ∧ (∀ (t : TileN), rd s 0x3000 2 t.val = 3 → exec (.schedulerCycle t) s = .next (takeArrived (schedule (releaseTile s t.val) t.val) t.val))
    ∧ (∀ (p : PortN) (v : Bool), linkUp s p.val = true → exec (.partnerDvsecWrite p (.llReinitEn v)) s = .next (setPort s p.val { getPort s p.val with llReinitEn := v }))
    ∧ (∀ (p : PortN) (v : Bool), linkUp s p.val = true → exec (.partnerDvsecWrite p (.spareEn v)) s = .next (setPort s p.val { getPort s p.val with spareEn := v }))
    ∧ (∀ (p : PortN) (v : Byte), linkUp s p.val = true → s.coh.iscWait.contains p.val = true → v.toNat ≠ 0 → exec (.partnerDvsecWrite p (.iscSelect
      v)) s = .next ({ setPort s p.val { getPort s p.val with iscSelect := v.toNat } with coh := { s.coh with iscWait := s.coh.iscWait.filter (· != p.val) } }))

/-- The M2S requests (chapter 5, R169, R207): on a port that takes them, while no transition holds requests, each enters the instance, offset and
protocol that its host address decodes to, as the message of its opcode, with the bytes and buffer class of Table 5-6 and Table 14-1. -/
def Obligations.HostRequestsReachTheirInstance : Prop :=
  ∀ s : State,
    (∀ (p : PortN) (hpa : BitVec 64) (ask : Ask) (tag : BitVec 16) (tc : Fin 4) (i off : Nat) (db : Bool), takesMem s p.val = true → modeHolding s =
      false → decodeHpa s p.val (hpa.toNat / 64 * 64) = some (i, off, db) → exec (.memrd p hpa ask tag tc) s = .next (enterInst s p.val i off db { kind := .rd ask, tag := tag.toNat, tc := tc.val, len := 64, cls := 0, opcode := 1, data := [], be := 0, keepS := false }))
    ∧ (∀ (p : PortN) (hpa : BitVec 64) (tag : BitVec 16) (tc : Fin 4) (i off : Nat) (db : Bool), takesMem s p.val = true → modeHolding s = false →
      decodeHpa s p.val (hpa.toNat / 64 * 64) = some (i, off, db) → exec (.memrddata p hpa tag tc) s = .next (enterInst s p.val i off db { kind := .rdData, tag := tag.toNat, tc := tc.val, len := 64, cls := 0, opcode := 2, data := [], be := 0, keepS := false }))
    ∧ (∀ (p : PortN) (hpa : BitVec 64) (ask : Ask) (tag : BitVec 16) (tc : Fin 4) (i off : Nat) (db : Bool), takesMem s p.val = true → modeHolding s
      = false → decodeHpa s p.val (hpa.toNat / 64 * 64) = some (i, off, db) → exec (.meminv p hpa ask tag tc) s = .next (enterInst s p.val i off db { kind := .inv ask, tag := tag.toNat, tc := tc.val, len := 0, cls := 0, opcode := 0, data := [], be := 0, keepS := false }))
    ∧ (∀ (p : PortN) (hpa : BitVec 64) (data : List Byte) (m : BitVec 64) (ks : Bool) (tag : BitVec 16) (tc : Fin 4) (i off : Nat) (db : Bool),
      takesMem s p.val = true → modeHolding s = false → decodeHpa s p.val (hpa.toNat / 64 * 64) = some (i, off, db) → exec (.memwr p hpa data m ks
      tag tc) s = .next (enterInst s p.val i off db { kind := .wr, tag := tag.toNat, tc := tc.val, len := 64, cls := 1, opcode := if m.toNat = 2 ^ 64 - 1 then 1 else 2, data := padTo data 64, be := m.toNat, keepS := ks }))
    ∧ (∀ (p : PortN) (hpa : BitVec 64) (tag : BitVec 16) (tc : Fin 4) (i off : Nat) (db : Bool), takesMem s p.val = true → modeHolding s = false →
      decodeHpa s p.val (hpa.toNat / 64 * 64) = some (i, off, db) → exec (.memclnevct p hpa tag tc) s = .next (enterInst s p.val i off db { kind := .clnEvct, tag := tag.toNat, tc := tc.val, len := 0, cls := 0, opcode := 10, data := [], be := 0, keepS := false }))
    ∧ (∀ (p : PortN) (hpa : BitVec 64)  (i off : Nat) (db : Bool), takesMem s p.val = true → modeHolding s = false → decodeHpa s p.val (hpa.toNat /
      64 * 64) = some (i, off, db) → exec (.memspecrd p hpa) s = .next (enterInst s p.val i off db { kind := .specRd, tag := 0, tc := 0, len := 0, cls := 0, opcode := 8, data := [], be := 0, keepS := false }))
    ∧ (∀ (p : PortN) (hpa : BitVec 64) (k : AtomKind) (size : AtomSize) (a b : BitVec 128) (tag : BitVec 16) (tc : Fin 4) (i off : Nat) (db : Bool),
      takesMem s p.val = true → modeHolding s = false → atomOk k size hpa.toNat = true → decodeHpa s p.val hpa.toNat = some (i, off, db) → exec
      (.atomicop p hpa k size a b tag tc) s = .next (enterInst s p.val i off db { kind := .atomic k size a.toNat b.toNat, tag := tag.toNat, tc := tc.val, len := atomLen k size, cls := 6, opcode := atomOpcode k, data := [], be := 0, keepS := false }))
    ∧ (∀ (p : PortN) (hpa : BitVec 64) (k : AtomKind) (size : AtomSize) (a b : BitVec 128) (tag : BitVec 16) (tc : Fin 4), takesMem s p.val = true →
      atomOk k size hpa.toNat = false → exec (.atomicop p hpa k size a b tag tc) s = .next (emit (portEvent s p.val 3 1 none 6) (.response p.val
      tag.toNat (.io 1 []))))

/-- Answers and events of the directory (R180 to R210): a BIRsp to an invalidation takes the host out of the entry, a conflict is acknowledged, a
slice gives its copy up, a silent host is given up, a hold window ends, a scan and a lookup of the directory, and the partner that writes no
ISC_SELECT. -/
def Obligations.SnoopAnswersComplete : Prop :=
  ∀ s : State,
    (∀ (p : PortN) (key : LineN) (x : BiRsp), linkUp s p.val = true → (getLine s key.toNat).snoops = [(p.val, .inv)] → (getLine s key.toNat).coarse =
      false → (dropHolder { getLine s key.toNat with snoops := [] } p.val).coarse = false → exec (.birsp p key x none) s = .next (resume (largeEvent
      (setLine s key.toNat (dropHolder { getLine s key.toNat with snoops := [] } p.val)) (68 + lineHome s key.toNat) 4 1) key.toNat))
    ∧ (∀ (p : PortN) (key : LineN), linkUp s p.val = true → exec (.biconflict p key) s = .next (pushEgress (largeEvent s (68 + lineHome s key.toNat)
      6 1) p.val { cls := 16, low := false, len := 0, line := none, out := .conflictAck (hostAddr s p.val key.toNat), sample := none }))
    ∧ (∀ (t : TileN) (key : LineN), (getLine s key.toNat).sliceAsks.contains t.val = true → (getLine s key.toNat).cur = none → dirtySt (sliceAt
      (getLine s key.toNat) t.val) = false → exec (.sliceResponse t key none) s = .next (resume (setLine s key.toNat (setSlice { getLine s key.toNat with sliceAsks := (getLine s key.toNat).sliceAsks.filter (· != t.val) }
      t.val .i)) key.toNat))
    ∧ (∀ (p : PortN) (key : LineN), (getLine s key.toNat).snoops.any (fun e => e.1 == p.val) = true → rd s 0x2300 4 p.val ≠ 1 → exec (.biTimeout p
      key) s = .next (loseHost (raise (bump s 0x6000 9 0 32 1) (0x6200 + p.val) 6 .critical []) p.val))
    ∧ (∀ (key : LineN), exec (.holdWindowEnd key) s = .next (settle (setLine s key.toNat { getLine s key.toNat with hold := false }) key.toNat))
    ∧ (∀ (p : PortN), s.coh.lostHosts.contains p.val = true → ∃ t, exec (.lostHostScan p) s = .next t ∧ t.coh.lostHosts.contains p.val = false)
    ∧ (∀ (r : Requester) (t : TileN), accepted s r 0x6100 11 t.val [1] → exec (.cacheFlush r t) s = .next (answered (cmdDone (flushTile s t.val)
      0x6100 11 t.val 0) 0x6100 11 t.val .ok))
    ∧ (∀ (r : Requester) (t : TileN) (v : List Byte), accepted s r 0x6200 8 t.val v → exec (.dirLookup r t v) s = .next (answered (wr (cmdDone s
      0x6200 8 t.val 0) 0x6200 9 t.val (if lineHome s (ofBe v / 64) = t.val then entryWord s (ofBe v / 64) else 0)) 0x6200 8 t.val .ok))
    ∧ (∀ (p : PortN), s.coh.iscWait.contains p.val = true → exec (.iscSelectTimeout p) s = .next (raise { s with coh := { s.coh with iscWait := s.coh.iscWait.filter (· != p.val) } }
      (0x6200 + p.val) 7 .fault []))
    ∧ (∀ (t : TileN) (k : WalkKind) (key x : Nat) (u : State), k ≠ .directory → s.pool.walks.contains (8 * walkKind k + t.val, key) = true → walkKey
      s (walkKind k) key = some x → (cacheKeys s (cacheSlot (walkKind k)) t.val).contains x = false → ((cacheKeys s (cacheSlot (walkKind k))
      t.val).filter fun y => cacheSet (cacheSlot (walkKind k)) y == cacheSet (cacheSlot (walkKind k)) x).length < cacheWays (cacheSlot (walkKind k))
      → u = { s with pool := { s.pool with caches := put s.pool.caches (8 * cacheSlot (walkKind k) + t.val) (cacheKeys s (cacheSlot (walkKind k)) t.val ++ [x]), walks := s.pool.walks.filter (· != (8 * walkKind k + t.val, key)) } }
      → exec (.walkComplete t k key) s = .next (if walkKind k ≤ 2 then bump u 0x4020 5 t.val 64 (if walkKind k = 0 then 2 else 1) else u))
    ∧ (∀ (t : TileN) (key : Nat), s.pool.walks.contains (24 + t.val, key) = true → entryWord s key ≠ 0 → exec (.walkComplete t .directory key) s =
      .next (dirPut { s with pool := { s.pool with walks := s.pool.walks.filter (· != (24 + t.val, key)) } } t.val key))

/-- CXL.io, port-based routing, CXL.cache and the egress turn (R99 to R103, R193, R311): a window write of a bridge; a memory request, a
configuration request, a completion, a port-based routed request and a CXL.cache message whose destination's link is up and whose cells find room
are admitted to their tile, a request that awaits an answer as an outstanding transaction; a request with no route is answered Unsupported Request;
and the message a scheduler picks leaves. -/
def Obligations.IoTrafficComplete : Prop :=
  ∀ s : State,
    (∀ (p : PortN) (v : VppbN) (b l : BitVec 64) (lo hi : Byte), linkUp s p.val = true → modeHolding s = false → actingRole s p.val = 1 → exec
      (.cxlIoRequest p (.window v b l lo hi)) s = .next ({ s with bridges := put s.bridges (64 * p.val + v.val) { base := b.toNat, limit := l.toNat, busLo := lo.toNat, busHi := hi.toNat } }))
    ∧ (∀ (p : PortN) (a : BitVec 64) (tag : BitVec 16) (tc : Fin 8) (d : List Byte), linkUp s p.val = true → modeHolding s = false → routeMem
      (enterSwitched s p.val 6 0x20).1 p.val a.toNat = none → exec (.cxlIoRequest p (.mem a false tag tc d)) s = .next (emit (endSample
      (enterSwitched s p.val 6 0x20).1 (flagSample (enterSwitched s p.val 6 0x20).2 32)) (.response p.val tag.toNat (.io 1 []))))
    ∧ (∀ (p : PortN) (a : BitVec 64) (tag : BitVec 16) (tc : Fin 8) (d : List Byte) (q : Nat) (e : State × Option Sample) (v : State) (m : Msg) (x :
      Option Sample), linkUp s p.val = true → modeHolding s = false → e = enterSwitched s p.val 6 0x20 → routeMem e.1 p.val a.toNat = some q → m =
      ioMsg p.val q tag.toNat tc.val 6 .ioNonPosted d → x = hopSample e.1 (portTile p.val) (portTile q) m.key ((stamp e.1 e.2 0).map fun y => { y with egress := q })
      → linkUp e.1 q = true → v = { e.1 with txns := e.1.txns ++ [{ kind := .ioNonPosted, src := p.val, dst := q, tag := tag.toNat, sent := false, sample := x }] }
      → admits v (portTile p.val) (switchCell m) = true → exec (.cxlIoRequest p (.mem a false tag tc d)) s = .next (placed v (portTile p.val)
      (switchCell m)))
    ∧ (∀ (p : PortN) (a : BitVec 64) (tag : BitVec 16) (tc : Fin 8) (d : List Byte) (q : Nat) (e : State × Option Sample) (v : State) (m : Msg) (x :
      Option Sample), linkUp s p.val = true → modeHolding s = false → e = enterSwitched s p.val 5 0x60 → routeMem e.1 p.val a.toNat = some q → m =
      ioMsg p.val q tag.toNat tc.val 5 .ioPosted d → x = hopSample e.1 (portTile p.val) (portTile q) m.key ((stamp e.1 e.2 0).map fun y => { y with egress := q })
      → linkUp e.1 q = true → v = e.1 → admits v (portTile p.val) (switchCell { m with sample := x }) = true → exec (.cxlIoRequest p (.mem a true tag
      tc d)) s = .next (placed v (portTile p.val) (switchCell { m with sample := x })))
    ∧ (∀ (p : PortN) (bus : Byte) (tag : BitVec 16) (d : List Byte) (q : Nat) (e : State × Option Sample) (v : State) (m : Msg) (x : Option Sample),
      linkUp s p.val = true → modeHolding s = false → e = enterSwitched s p.val 6 0x05 → routeCfg e.1 p.val bus.toNat = some q → m = ioMsg p.val q
      tag.toNat 0 6 .ioConfig d → x = hopSample e.1 (portTile p.val) (portTile q) m.key ((stamp e.1 e.2 0).map fun y => { y with egress := q }) →
      linkUp e.1 q = true → v = { e.1 with txns := e.1.txns ++ [{ kind := .ioConfig, src := p.val, dst := q, tag := tag.toNat, sent := false, sample := x }] }
      → admits v (portTile p.val) (switchCell m) = true → exec (.cxlIoRequest p (.config bus tag d)) s = .next (placed v (portTile p.val) (switchCell
      m)))
    ∧ (∀ (p q : PortN) (tag : BitVec 16) (n : Nat) (v : State) (m : Msg), linkUp s p.val = true → (getPort s p.val).lateTags.contains tag.toNat =
      false → linkUp s (completionPort s p.val q.val) = true → v = endTxn (portEvent s p.val 3 1 none 7) p.val q.val tag.toNat → m = { ioMsg p.val (completionPort s p.val q.val) tag.toNat 0 7 .ioCompletion (zeros n) with sample := answeredSample s p.val q.val tag.toNat }
      → admits v (portTile p.val) (switchCell m) = true → exec (.cxlIoCompletion p q tag n) s = .next (placed v (portTile p.val) (switchCell m)))
    ∧ (∀ (p : PortN) (pid : Fin 4096) (a : BitVec 64) (k : Ask) (tag : BitVec 16) (tc : Fin 4) (q : Nat) (e : State × Option Sample) (v : State) (m :
      Msg) (x : Option Sample), takesPbr s p.val (.memRd a k tag tc) = true → modeHolding s = false → bit (pbrRoute s p.val pid.val) 31 = true → bits
      (pbrRoute s p.val pid.val) 30 28 = 0 → q = pbrRoute s p.val pid.val % 64 → e = enterSwitched s p.val 0 1 → m = pbrMsg (.memRd a k tag tc) p.val
      q → x = hopSample e.1 (portTile p.val) (portTile q) m.key ((stamp e.1 e.2 0).map fun y => { y with egress := q }) → linkUp e.1 q = true → v = { e.1 with txns := e.1.txns ++ [{ kind := .memRd, src := p.val, dst := q, tag := tag.toNat, sent := false, ndr := pbrNdr s p.val (.memRd a k tag tc), sample := x }] }
      → admits v (portTile p.val) (switchCell m) = true → exec (.pbrRequest p pid (.memRd a k tag tc)) s = .next (placed v (portTile p.val)
      (switchCell m)))
    ∧ (∀ (p : PortN) (pid : Fin 4096) (x : PbrReq) (e : State × Option Sample) (q : Nat), takesPbr s p.val x = true → modeHolding s = false → bit
      (pbrRoute s p.val pid.val) 31 = true → bits (pbrRoute s p.val pid.val) 30 28 = 0 → q = pbrRoute s p.val pid.val % 64 → e = enterSwitched s
      p.val (pbrMsg x p.val p.val).cls (pbrOpcode x) → exec (.pbrRequest p pid x) s = .next (forwardTo e.1 { kind := pbrKind x, src := p.val, dst := q, tag := pbrTag x, sent := false, ndr := pbrNdr s p.val x, sample := e.2 }
      (pbrMsg x p.val q)))
    ∧ (∀ (p : PortN) (pid : Fin 4096) (x : PbrReq) (off i : Nat) (a : Ask1), takesPbr s p.val x = true → modeHolding s = false → bit (pbrRoute s
      p.val pid.val) 31 = true → bits (pbrRoute s p.val pid.val) 30 28 ≠ 0 → i = pbrRoute s p.val pid.val % 4096 → rd s 0x5010 2 i = 2 → pbrAsk x =
      some (off, a) → exec (.pbrRequest p pid x) s = .next (enterInst s p.val i (off / 64 * 64 + (if a.len = 64 then 0 else off % 64)) (actingRole s
      p.val == 1 || iscVersion s p.val != 0) a))
    ∧ (∀ (p q0 : PortN) (cid : Fin 16) (d2h : Bool) (tag : BitVec 16) (n : Nat) (q : Nat) (e : State × Option Sample) (v : State) (m : Msg) (x :
      Option Sample), q = q0.val → takesCache s p.val = true → actingRole s p.val = (if d2h then 2 else 1) → modeHolding s = false → e =
      enterSwitched (freeNext s) p.val 0 (freeBits s 8) → m = { kind := if d2h then TxnKind.d2hReq else .h2dSnp, src := p.val, dst := q, tag := tag.toNat, len := 16 + n, cls := 0, data := zeros n, key := cacheKey p.val q cid.val, tc := 0 }
      → x = hopSample e.1 (portTile p.val) (portTile q) m.key ((stamp e.1 e.2 0).map fun y => { y with egress := q }) → linkUp e.1 q = true → v = { e.1 with txns := e.1.txns ++ [{ kind := if d2h then TxnKind.d2hReq else .h2dSnp, src := p.val, dst := q, tag := tag.toNat, sent := false, sample := x }] }
      → admits v (portTile p.val) (switchCell m) = true → exec (.cxlCacheMessage p q0 cid d2h .req tag n) s = .next (placed v (portTile p.val)
      (switchCell m)))
    ∧ (∀ (q : SchedN) (i : Nat) (m : EgMsg), (pickEgress s (schedOf q.val)).2 = some i → (egressOf (pickEgress s (schedOf q.val)).1 (schedOf
      q.val))[i]? = some m → exec (.egressSchedule q) s = .next (leave (takeEgress (pickEgress s (schedOf q.val)).1 (schedOf q.val) i m) (schedOf
      q.val) m))

/-- The tag gate's commands (R172 to R177, R190): Clear empties the capture, an accepted Recolour without tracked lines takes effect at once, Query
reads the colour of the granule of a key, and a range back-invalidation with nothing left ends in what it was asked for. -/
def Obligations.GateCommandsComplete : Prop :=
  ∀ s : State,
    (∀ (r : Requester) (g : TargetN), accepted s r 0x4200 5 g.val [1] → exec (.clearCapture r g none) s = .next (answered (wrBlob (cmdDone s 0x4200 5
      g.val 0) 0x4200 4 g.val (zeros 40)) 0x4200 5 g.val .ok))
    ∧ (∀ (r : Requester) (v : List Byte), accepted s r 0x4300 3 0 v → fieldBe v 12 4 ≠ 0 → fieldBe v 4 8 % 65536 = 0 → fieldBe v 0 2 < 4096 → fieldBe
      v 12 4 * 65536 ≤ instBytes s (fieldBe v 0 2) (fun _ => true) → (recolourKeys s (fieldBe v 0 2) (fieldBe v 4 8) (fieldBe v 12 4)).any
      Option.isNone = false → trackedRanges s ((recolourKeys s (fieldBe v 0 2) (fieldBe v 4 8) (fieldBe v 12 4)).filterMap id) = [] → ((recolourKeys
      s (fieldBe v 0 2) (fieldBe v 4 8) (fieldBe v 12 4)).filterMap id).any (locked s) = false → exec (.recolour r v) s = .next (answered
      (finishRecolour (cmdStart s 0x4300 3 0) (fieldBe v 0 2) (fieldBe v 4 8) (fieldBe v 12 4) (fieldBe v 3 1)) 0x4300 3 0 .ok))
    ∧ (∀ (r : Requester) (v : List Byte) (key : Nat), accepted s r 0x4300 4 0 v → keyAt s (fieldBe v 0 2) (fieldBe v 4 8) extInUse = some key → exec
      (.tagQuery r v) s = .next (answered (wr (cmdDone s 0x4300 4 0 0) 0x4300 5 0 (0x100 + colourAt s (granuleOf (locOf s key)))) 0x4300 4 0 .ok))
    ∧ (∀ (j : Nat) (x : Rbi), s.coh.rbis.find? (fun e => e.1 == j) = some (j, x) → rbiLeft s x = [] → rbiWaits s x.why = false → exec
      (.rangeBackInvalidationComplete j) s = .next (rbiDone { s with coh := { s.coh with rbis := del s.coh.rbis j } } x.why))

/-- The life of an extent (R144 to R153): Grant acts on its request, an accepted offer becomes active, an offer times out, releases start and are
asked for, the tiles acknowledge, the drain ends by itself or by its limit, and a scrubbed block is cleared. -/
def Obligations.ExtentCommandsComplete : Prop :=
  ∀ s : State,
    (∀ (r : Requester) (v : List Byte) (f : Nat), accepted s r 0x4110 1 0 v → v.length = 32 → grantForm (parseGrant v) = true → testsBlock s
      (parseGrant v).target (parseGrant v).first (parseGrant v).blocks = false → grantChecks (cmdStart s 0x4110 1 0) (parseGrant v) = 0 → grantRun
      (cmdStart s 0x4110 1 0) (parseGrant v) = some f → exec (.grant r v) s = .next (answered (cmdEnd (makeExtent (cmdStart s 0x4110 1 0) (parseGrant
      v) f) 0x4110 1 0 2 0) 0x4110 1 0 .ok))
    ∧ (∀ (i : InstN) (e : ExtentN), mailboxOpen s i.val = true → (getExt s e.val).st = 1 → (getExt s e.val).inst = i.val → exec
      (.addDynamicCapacityResponse i e true) s = .next (mailboxReply (extChanged (setExt s e.val { getExt s e.val with st := 2 }) i.val) i.val 0 []))
    ∧ (∀ (i : InstN) (e : ExtentN), mailboxOpen s i.val = true → (getExt s e.val).st = 1 → (getExt s e.val).inst = i.val → exec
      (.addDynamicCapacityResponse i e false) s = .next (mailboxReply (withdrawOffer s e.val 0x7B) i.val 0 []))
    ∧ (∀ (e : ExtentN), (getExt s e.val).st = 1 → exec (.offerTimeout e) s = .next (withdrawOffer s e.val 0x7C))
    ∧ (∀ (r : Requester) (e : ExtentN), accepted s r (extObj e.val) 3 (extQ e.val) (be 4 0) → (getExt s e.val).st = 2 → exec (.extentRelease r e) s =
      .next (answered (dcEvent (setExt (setExt (cmdStart s (extObj e.val) 3 (extQ e.val)) e.val { getExt s e.val with cmd := true }) e.val { getExt s e.val with cmd := true, asked := true })
      1 (getExt s e.val)) (extObj e.val) 3 (extQ e.val) .ok))
    ∧ (∀ (r : Requester) (e : ExtentN), accepted s r (extObj e.val) 3 (extQ e.val) (be 4 1) → (getExt s e.val).st = 2 → exec (.forcedRelease r e) s =
      .next (answered (beginRelease (dcEvent (setExt (cmdStart s (extObj e.val) 3 (extQ e.val)) e.val { getExt s e.val with cmd := true }) 2 (getExt
      s e.val)) e.val) (extObj e.val) 3 (extQ e.val) .ok))
    ∧ (∀ (i : InstN) (e : ExtentN), mailboxOpen s i.val = true → (getExt s e.val).st = 2 → (getExt s e.val).inst = i.val → exec
      (.releaseDynamicCapacity i e) s = .next (mailboxReply (extChanged (setExt s e.val { getExt s e.val with st := 3, phase := 1, asked := false })
      i.val) i.val 0 []))
    ∧ (∀ (e : ExtentN), (getExt s e.val).st = 2 ∨ (getExt s e.val).st = 4 → exec (.cacheAck e) s = .next (setExt s e.val { getExt s e.val with indexed := true }))
    ∧ (∀ (e : ExtentN), (getExt s e.val).st = 3 → (getExt s e.val).phase = 1 → exec (.cacheAck e) s = .next (dropIndex (setExt s e.val { getExt s e.val with indexed := false, phase := 2 })
      e.val))
    ∧ (∀ (e : ExtentN), (getExt s e.val).st = 3 → (getExt s e.val).phase = 2 → exec (.releaseDrainTimeout e) s = .next (startReleaseRbi (cutRequests
      s fun r => r.extent == e.val) e.val))
    ∧ (∀ (e : ExtentN), (getExt s e.val).st = 3 → (getExt s e.val).phase = 2 → inFlight s e.val = 0 → exec (.releaseRequestsDone e) s = .next
      (startReleaseRbi s e.val))
    ∧ (∀ (g : TargetN) (b : BlockN), tgtState s g.val ≠ 6 → exec (.scrubComplete g b) s = .next (scrubTarget s g.val b))
    ∧ (∀ (g : TargetN) (b : BlockN) (n c : Nat) (x y w : State), tgtState s g.val ≠ 6 → (getBlk s g.val b).st = 3 → (getBlk s g.val b).sharers = 0 →
      n = blockSize s g.val → c = 2 ^ 28 + 256 * tgtHome g.val * 128 + 64 → gateRange s (blkLo s g.val b) n .system true c = (x, true) → gateRange x
      (blkLo s g.val b) n .system false c = (y, true) → w = (if g.val < 4 then largeEvent (systemTraffic y g.val (2 * (n / 64))) (76 + g.val) 8 (n /
      64) else systemTraffic y g.val (2 * (n / 64))) → (getBlk w g.val b).st = 3 → (getBlk w g.val b).sharers = 0 → exec (.scrubComplete g b) s =
      .next (scrubDone (changeBlk (clearRange w (blkLo w g.val b) (blkLo w g.val b + blockSize w g.val)) g.val b { getBlk w g.val b with st := 1 })
      g.val b))

/-- Targets (R134, R153 to R157, R435): writes of the pool target, the end of a join and of a drain, the return that does not come, the near tier's
size, a failed pseudo-channel, its retirement by the manager, and a row repair. -/
def Obligations.TargetCommandsComplete : Prop :=
  ∀ s : State,
    (∀ (r : Requester) (g : TargetN) (v : Byte), accepted s r 0x4000 1 g.val [v] → v.toNat = 0 → tgtState s g.val = 0 ∨ tgtState s g.val = 1 → exec
      (.targetPoolWrite r g v) s = .next (answered (wr s 0x4000 1 g.val 0) 0x4000 1 g.val .ok))
    ∧ (∀ (r : Requester) (g : TargetN) (v : Byte), accepted s r 0x4000 1 g.val [v] → v.toNat = 1 → 4 ≤ g.val → tgtState s g.val = 1 → tgtLinkUp s
      g.val = true → boundToVppb s (g.val - 16) = false → exec (.targetPoolWrite r g v) s = .next (answered (wr (startJoin (leavePool s g.val) g.val)
      0x4000 1 g.val 1) 0x4000 1 g.val .ok))
    ∧ (∀ (r : Requester) (g : TargetN) (v : Byte), accepted s r 0x4000 1 g.val [v] → v.toNat = 2 → tgtState s g.val = 3 → exec (.targetPoolWrite r g
      v) s = .next (answered (Machine.drainDone (wr (wr s 0x4000 2 g.val 4) 0x4000 1 g.val 2) g.val) 0x4000 1 g.val .ok))
    ∧ (∀ (g : TargetN) (n b : Nat) (u v : State), tgtState s g.val = 2 → n = devBlocks s g.val → b = n * blockSize s g.val → n ≠ 0 → poolBytes s -
      tgtBytes s g.val + b ≤ poolLimit s → homedBytes s (tgtHome g.val) - tgtBytes s g.val + b ≤ tagBytes s (tgtHome g.val) * 65536 → u =
      programDevice s g.val b → v = dropBlks (setTgt u g.val { getTgt u g.val with cap := n, base := 3, blocks := [], joinedSerial := (getTgt u g.val).serial, joinedCap := (getTgt u g.val).devCap, away := false })
      g.val (fun _ => true) → exec (.joinComplete g false) s = .next (wr (wr (wr { v with pool := { v.pool with colours := delIf v.pool.colours fun k _ => dpaTarget (k * 65536) == g.val } }
      0x4000 2 g.val 3) 0x4000 16 g.val 0) 0x4000 6 g.val b))
    ∧ (∀ (g : TargetN) (n b : Nat), tgtState s g.val = 2 → n = devBlocks s g.val → b = n * blockSize s g.val → poolLimit s < poolBytes s - tgtBytes s
      g.val + b ∨ tagBytes s (tgtHome g.val) * 65536 < homedBytes s (tgtHome g.val) - tgtBytes s g.val + b → ∀ v, exec (.joinComplete g v) s = .next
      (failJoin s g.val 0x7E))
    ∧ (∀ (g : TargetN), tgtState s g.val = 4 → extentsWhere s (fun x => extInUse x && x.target == g.val) = [] → s.pool.overlay.any (fun e =>
      dpaTarget (e.2.dest * 65536) == g.val) = false → exec (.drainDone g) s = .next (wr s 0x4000 2 g.val 5))
    ∧ (∀ (g : TargetN), (getTgt s g.val).away = true → tgtState s g.val = 3 ∨ tgtState s g.val = 4 → exec (.linkReturnTimeout g) s = .next
      (cutRequests (movesLost (loseTarget s g.val) g.val) (onTarget g.val)))
    ∧ (∀ (r : Requester) (t : TileN) (v : BitVec 16), accepted s r 0x4000 8 t.val (be 2 v.toNat) → tgtState s t.val < 3 ∨ tgtState s t.val = 7 → exec
      (.nearTierWrite r t v) s = .next (answered (trimFrames (wr s 0x4000 8 t.val v.toNat) t.val) 0x4000 8 t.val .ok))
    ∧ (∀ (r : Requester) (t : TileN) (v : BitVec 16), accepted s r 0x4000 8 t.val (be 2 v.toNat) → 3 ≤ tgtState s t.val → tgtState s t.val ≤ 6 →
      highBlock s t.val * blockSize s t.val ≤ min (nearBytes (wr s 0x4000 8 t.val v.toNat) t.val) (nearRoom s t.val) → exec (.nearTierWrite r t v) s
      = .next (answered (trimFrames (setNear (wr s 0x4000 8 t.val v.toNat) t.val) t.val) 0x4000 8 t.val .ok))
    ∧ (∀ (t : TileN) (pc : Fin 32), bit (rd s 0x4001 1 t.val) pc.val = false → failedIn (wr s 0x4001 1 t.val (setBit (rd s 0x4001 1 t.val) pc.val
      true)) t.val (stripeSet pc.val) < 2 → exec (.pseudoChannelFailure t pc) s = .next (raise (wr s 0x4001 1 t.val (setBit (rd s 0x4001 1 t.val)
      pc.val true)) (0x4100 + t.val) 3 .fault []))
    ∧ (∀ (r : Requester) (t : TileN) (v : Byte), accepted s r 0x4001 5 t.val (be 4 v.toNat) → v.toNat ≤ 31 → failedIn s t.val (stripeSet v.toNat) = 0
      → exec (.retirePseudoChannel r t v) s = .next (answered (cmdDone (failChannel s t.val v.toNat) 0x4001 5 t.val 0) 0x4001 5 t.val .ok))
    ∧ (∀ (t : TileN) (n : Nat) (u : State), u = raise (bump (rowErrors s t.val) 0x4001 2 t.val 32 1) (0x4100 + t.val) 3 .notice [] → exec (.rowRepair
      t n true) s = .next { u with pool := { u.pool with softRepairs := u.pool.softRepairs + 1 } })
    ∧ (∀ (t : TileN) (n : Nat), (rowErrors s t.val).pool.exhausted.contains (t.val, n) = false → exec (.rowRepair t n false) s = .next (bump { rowErrors s t.val with pool := { (rowErrors s t.val).pool with exhausted := (t.val, n) :: (rowErrors s t.val).pool.exhausted } }
      0x4001 3 t.val 32 1))

/-- Littoral (R213 to R231): the end of an epoch, the stages of a move in their order, the lock's guard, the tiles' release, the settlement, a
sector's fill, and a manual move of granules that exist and may move. -/
def Obligations.LittoralEventsComplete : Prop :=
  ∀ s : State,
    (∀ (t : TileN) (u v : State), u = { returnPlaces (decayHeat (litBump s t.val 0 1) t.val) t.val with lit := { (returnPlaces (decayHeat (litBump s t.val 0 1) t.val) t.val).lit with spent := put (returnPlaces (decayHeat (litBump s t.val 0 1) t.val) t.val).lit.spent t.val 0, queue := (returnPlaces (decayHeat (litBump s t.val 0 1) t.val) t.val).lit.queue.filter fun w => w.manual || w.tile != t.val } }
      → v = (if litState u = 1 ∧ hasHeat u t.val = true then { u with lit := { u.lit with queue := u.lit.queue ++ policyQueue u t.val } } else u) →
      exec (.epochEnd t) s = .next (if litState v = 2 then v else runMoves v))
    ∧ (∀ (g : GranN) (m n : Move) (u : State), moveAt s g.toNat = some m → m.phase = 2 → recallLines s g.toNat = [] → n = { m with phase := 3, mask := 0 }
      → copyGate (setMove s g.toNat n) g.toNat n = (u, true) → exec (.moveRecallComplete g) s = .next (copyLines u g.toNat n (List.range 1024)))
    ∧ (∀ (g : GranN) (m n : Move) (u : State), moveAt s g.toNat = some m → m.phase = 3 → n = { m with phase := 4, mask := 0, rounds := m.rounds + 1 }
      → copyGate (setMove s g.toNat n) g.toNat n = (u, true) → exec (.moveCopyComplete g) s = .next (copyLines u g.toNat n (marked m)))
    ∧ (∀ (g : GranN) (m : Move), moveAt s g.toNat = some m → m.phase = 4 → (marked m).length ≤ rd s 0x6800 10 0 → recallLines s g.toNat = [] → exec
      (.moveCopyComplete g) s = .next (setRemap (setMove s g.toNat { m with phase := 5, lockAt := s.clock.core }) g.toNat { cutover := true, dest := m.source }))
    ∧ (∀ (g : GranN) (m : Move) (u v w x y z : State), moveAt s g.toNat = some m → m.phase = 5 → m.held = [] → copyGate s g.toNat m = (u, true) → v =
      copyLines u g.toNat m (marked m) → w = setColour (setColour v m.dest (colourAt v m.source)) m.source 0 → x = handOver w g.toNat (moveTile m)
      (tgtHome (dpaTarget (m.dest * 65536))) → y = (if m.back then delRemap x g.toNat else setRemap x g.toNat { cutover := false, dest := m.dest }) →
      z = setMove (litBump y (moveTile m) (if m.back then 2 else 1) 1) g.toNat { m with phase := 6, mask := 0, held := [], waits := [0, 1, 2, 3] } →
      look [] z.lit.locked g.toNat = [] → exec (.cutOverComplete g) s = .next { z with lit := { z.lit with locked := del z.lit.locked g.toNat } })
    ∧ (∀ (g : GranN) (m : Move), moveAt s g.toNat = some m → m.phase = 5 → exec (.lockGuardExpiry g) s = .next (runMoves (raise (litBump (abandonMove
      s g.toNat 0x98) (moveTile m) 12 1) (litSource (moveTile m)) 14 .notice [])))
    ∧ (∀ (t : TileN) (g : GranN) (m : Move), moveAt s g.toNat = some m → m.phase = 6 → exec (.releaseMessage t g) s = .next (freeHeld (setMove s
      g.toNat { m with held := m.held.filter (fun r => reqTile r != t.val), waits := m.waits.filter (· != t.val) }) (m.held.filter fun r => reqTile r
      == t.val)))
    ∧ (∀ (g : GranN) (m : Move), moveAt s g.toNat = some m → m.phase = 6 → m.waits = [] → m.back = true → m.manual = false → 4 ≤ dpaTarget (m.source
      * 65536) → exec (.moveSettle g) s = .next (runMoves (markPlace { s with lit := { s.lit with moves := del s.lit.moves g.toNat, slots := del s.lit.slots m.source } }
      g.toNat 0)))
    ∧ (∀ (g : GranN) (k : Fin 64), has s.lit.frames g.toNat = true → bit (getFrame s g.toNat).filling k.val = true → exec (.sectorFill g k) s = .next
      (setFrame s g.toNat { getFrame s g.toNat with filling := setBit (getFrame s g.toNat).filling k.val false, svalid := (getFrame s g.toNat).svalid ||| 2 ^ k.val }))
    ∧ (∀ (r : Requester) (v : List Byte) (gs : List Nat) (a : Nat) (u : State), accepted s r 0x6830 1 0 v → v.length = 24 → a = fieldBe v 2 1 → a ≤ 3
      → (a = 0 → fieldBe v 3 1 ≤ 3 ∨ fieldBe v 3 1 = 255) → fieldBe v 12 4 ≠ 0 → fieldBe v 4 8 % 65536 = 0 → fieldBe v 12 4 * 65536 ≤ instBytes s
      (fieldBe v 0 2) (fun _ => true) → gs = (rangeGrans s (fieldBe v 0 2) (fieldBe v 4 8) (fieldBe v 12 4)).filterMap id → gs.length = fieldBe v 12
      4 → gs.any (fun g => !farGran g) = false → gs.any (fun g => ((a == 0 || a == 3) && granKnob s g == 3) || (a == 0 && granKnob s g == 2)) = false
      → u = { wr (cmdStart s 0x6830 1 0) 0x6830 2 0 0 with lit := { s.lit with queue := s.lit.queue.filter (·.manual) ++ gs.map (fun g => { g := g, action := a, stack := fieldBe v 3 1, tile := keyTile g, manual := true }) ++ s.lit.queue.filter (fun x => !x.manual), left := fieldBe v 12 4, lastReason := 0 } }
      → exec (.littoralMove r v) s = .next (answered (if litState u = 2 then u else runMoves u) 0x6830 1 0 .ok))

/-- Mode transitions (R49 to R52): an allowed target mode with an overlay and no failing precondition starts its transition; quiesced units take the
overlay's patches; a timeout fails the transition with REASON 0x25; the drain into SERVICE calls back, flushes and applies; a role change that
finds no partner ends. -/
def Obligations.ModeTransitionsComplete : Prop :=
  ∀ s : State,
    (∀ (r : Requester) (v : Byte), accepted s r 0x1200 1 0 [v] → rd s 0x1200 3 0 = 0 → v.toNat ≠ modeNow s → allowedMode (modeNow s) v.toNat = true →
      hasOverlay s v.toNat = true → modeBlocked s v.toNat = 0 → exec (.targetModeWrite r v) s = .next (answered (startTransition s v.toNat) 0x1200 1
      0 .ok))
    ∧ (∀ (u : State), rd s 0x1200 3 0 = 1 → s.mode.target ≠ 5 → patchAll (runningCfg s (modeNow s)) (runningCfg s s.mode.target) s.mode.touched (wr s
      0x1200 3 0 2) = (u, none) → exec (.quiesceComplete) s = .next (resumeMode s u))
    ∧ (rd s 0x1200 3 0 = 1 → s.mode.target ≠ 5 → exec (.quiesceTimeout) s = .next (stableMode (raiseEv (cmdEnd s 0x1200 4 0 3 0x25) 0x1200 12 .notice
      0 [] true)))
    ∧ (∀ (u : State), rd s 0x1200 3 0 = 1 → s.mode.target = 5 → requestsDone s = true → (s.coh.lines.any fun e => wayUsed (lineHome s e.1) e.2) =
      false → patchAll (runningCfg s (modeNow s)) (runningCfg s 5) s.mode.touched (wr { (List.range 4).foldl flushTile s with coh := { ((List.range 4).foldl flushTile s).coh with lines := [] } }
      0x1200 3 0 2) = (u, none) → exec (.drainComplete) s = .next (finishMode (leaveCascade u)))
    ∧ (rd s 0x1200 3 0 = 1 → s.mode.target = 5 → exec (.drainTimeout) s = .next (stableMode (raiseEv (cmdEnd s 0x1200 4 0 3 0x25) 0x1200 12 .notice 0
      [] true)))
    ∧ (rd s 0x1200 3 0 = 3 → exec (.roleChangeTimeout) s = .next (finishMode s))

/-- Configuration images (R55 to R58): a staged image that checks and is newer starts its installation, which puts it into the slot that is not
active with an empty delta area; Activate starts in SERVICE; Commit writes the delta area of the active slot and Clear starts its erase; a
compatibility register's write is the write of the object it maps to, and a clear of COMPAT_STATUS loses to a refusal of its cycle. -/
def Obligations.ImageCommandsComplete : Prop :=
  ∀ s : State,
    (∀ (r : Requester), accepted s r 0x1211 2 0 [1] → exec (.cfgInstall r) s = .next (answered (if imageCheck s s.mode.staging ≠ 0 then cmdDone
      (raise (wr s 0x1210 3 0 (imageCheck s s.mode.staging)) 0x1200 12 .notice []) 0x1211 2 0 (imageCheck s s.mode.staging) else if imgSerial
      s.mode.staging ≤ rd s 0x1210 2 0 then cmdDone (wr s 0x1210 3 0 0) 0x1211 2 0 0x3A else { cmdStart (wr s 0x1210 3 0 0) 0x1211 2 0 with mode := { s.mode with installing := some (s.mode.staging.take (imgLen s.mode.staging)) } })
      0x1211 2 0 .ok))
    ∧ (∀ (v : List Byte), s.mode.installing = some v → exec (.installComplete 0) s = .next (cmdEnd (setCfgSlot { s with mode := { s.mode with installing := none } }
      (otherSlot s) { image := v, delta := [] }) 0x1211 2 0 2 0))
    ∧ (∀ (err : Byte) (v : List Byte), s.mode.installing = some v → err ≠ 0 → exec (.installComplete err) s = .next (cmdEnd { s with mode := { s.mode with installing := none } }
      0x1211 2 0 3 err.toNat))
    ∧ (∀ (r : Requester), accepted s r 0x1212 1 0 [1] → modeNow s = 5 → rd s 0x1200 3 0 = 0 → exec (.cfgActivate r) s = .next (answered (cmdStart s
      0x1212 1 0) 0x1212 1 0 .ok))
    ∧ (∀ (r : Requester), accepted s r 0x1213 1 0 [1] → rd s 0x1210 1 0 ≠ 2 → ((deltaPatches s).flatMap Patch.bytes).length ≤ 262080 → exec
      (.commitDelta r) s = .next (answered (setCfgSlot (cmdStart s 0x1213 1 0) (rd s 0x1210 1 0) { cfgSlot s (rd s 0x1210 1 0) with delta := (deltaArea (slotSerial s (rd s 0x1210 1 0)) ((deltaPatches s).flatMap Patch.bytes)).take (16 + ((deltaPatches s).flatMap Patch.bytes).length) })
      0x1213 1 0 .ok))
    ∧ (∀ (r : Requester), accepted s r 0x1213 2 0 [1] → rd s 0x1210 1 0 ≠ 2 → exec (.clearDelta r) s = .next (answered (cmdStart s 0x1213 2 0) 0x1213
      2 0 .ok))
    ∧ (∀ (off : Fin 2048) (v : BitVec 32), compatOpen s = true → exec (.compatWrite off v) s = .next (if (compatItem s (off.val - off.val % 4)
      v.toNat).2 = .ok ∨ (compatItem s (off.val - off.val % 4) v.toNat).2 = .ignored then (compatItem s (off.val - off.val % 4) v.toNat).1 else
      compatRefuse (compatItem s (off.val - off.val % 4) v.toNat).1 (off.val - off.val % 4) (compatItem s (off.val - off.val % 4) v.toNat).2))
    ∧ (∀ (mask : BitVec 32) (f : Bool), compatOpen s = true → exec (.compatStatusClear mask f) s = .next ({ s with mode := { s.mode with compatRefused := f || (s.mode.compatRefused && !bit mask.toNat 0) } }))

/-- ODP requests (R33 to R38, Table 2-9): HELLO and OPEN are answered without a session, OPEN adding the session it grants; a request in order
advances H, acts (reads leave the block as it is, writes act item after item, CLOSE forgets the session, SUBSCRIBE sets its severity), and its
tagged reply is sent and kept. -/
def Obligations.OdpRequestsComplete : Prop :=
  ∀ s : State,
    (∀ (t : Transport) (m n : OdpMsg), n = { m with opcode := 0x01 } → transportOpen s t = true → formOk n (msgLimit t) 0 = true → exec (.odpHello t
      m) s = .next (sendOdp (hldWake s (transportWake t)) t (helloReply n)))
    ∧ (∀ (t : Transport) (m n : OdpMsg) (u : State) (cred nonce key : List Byte), n = { m with opcode := 0x02 } → transportOpen s t = true → formOk n
      (msgLimit t) 16 = true → u = hldWake s (transportWake t) → openRefusal u t n = none → credential u (fieldBe n.body 0 1) = some cred → nonce =
      padTo (Config.nonceBytes (u.free + 1)) 32 → key = Config.hkdfSha384 cred (slice n.body 4 32 ++ nonce) → exec (.odpOpen t m) s = .next (sendOdp
      (freeNext (freeNext { u with mgmt := { u.mgmt with sessions := { id := freshSession u, transport := t, level := levelOf (fieldBe n.body 0 1), version := n.version.toNat, key := key, proved := false, high := 0, replies := [], sub := none, lastValid := secondsNow u } :: u.mgmt.sessions } }))
      t (tagged key (replyTo n n.version.toNat 0 (BitVec.ofNat 32 (freshSession u)) 0 nonce))))
    ∧ (∀ (t : Transport) (m n : OdpMsg) (x : Session), n = { m with opcode := 0x03 } → inOrder s t x n → exec (.odpClose t m) s = .next (afterOp
      (dropSession (beforeOp s t x n) x.id) x n ({ status := 0, items := 0, body := [] })))
    ∧ (∀ (t : Transport) (m n : OdpMsg) (x : Session), n = { m with opcode := 0x10 } → inOrder s t x n → (((parseItems n.items.toNat n.body).getD
      []).flatMap (fun w => replyItem (beforeOp s t x n) x.level x.version w (readOne (beforeOp s t x n) x.level n.opcode.toNat (msgLimit t - 40)
      w).1 (readOne (beforeOp s t x n) x.level n.opcode.toNat (msgLimit t - 40) w).2)).length ≤ msgLimit t - 40 → exec (.odpRead t m) s = .next
      (afterOp (beforeOp s t x n) x n ({ status := 0, items := ((parseItems n.items.toNat n.body).getD []).length, body := ((parseItems n.items.toNat n.body).getD []).flatMap (fun w => replyItem (beforeOp s t x n) x.level x.version w (readOne (beforeOp s t x n) x.level n.opcode.toNat (msgLimit t - 40) w).1 (readOne (beforeOp s t x n) x.level n.opcode.toNat (msgLimit t - 40) w).2) })))
    ∧ (∀ (t : Transport) (m n : OdpMsg) (x : Session), n = { m with opcode := 0x11 } → inOrder s t x n → 12 * ((parseItems n.items.toNat n.body).getD
      []).length ≤ msgLimit t - 40 → exec (.odpWrite t m) s = .next (afterOp ((writeItems x.level x.version false ((parseItems n.items.toNat
      n.body).getD []) (beforeOp s t x n)).1) x n ({ status := 0, items := ((parseItems n.items.toNat n.body).getD []).length, body := (writeItems x.level x.version false ((parseItems n.items.toNat n.body).getD []) (beforeOp s t x n)).2 })))
    ∧ (∀ (t : Transport) (m n : OdpMsg) (x : Session), n = { m with opcode := 0x12 } → inOrder s t x n → (((parseItems n.items.toNat n.body).getD
      []).flatMap (fun w => replyItem (beforeOp s t x n) x.level x.version w (readOne (beforeOp s t x n) x.level n.opcode.toNat (msgLimit t - 40)
      w).1 (readOne (beforeOp s t x n) x.level n.opcode.toNat (msgLimit t - 40) w).2)).length ≤ msgLimit t - 40 → exec (.odpReadChunk t m) s = .next
      (afterOp (beforeOp s t x n) x n ({ status := 0, items := ((parseItems n.items.toNat n.body).getD []).length, body := ((parseItems n.items.toNat n.body).getD []).flatMap (fun w => replyItem (beforeOp s t x n) x.level x.version w (readOne (beforeOp s t x n) x.level n.opcode.toNat (msgLimit t - 40) w).1 (readOne (beforeOp s t x n) x.level n.opcode.toNat (msgLimit t - 40) w).2) })))
    ∧ (∀ (t : Transport) (m n : OdpMsg) (x : Session), n = { m with opcode := 0x13 } → inOrder s t x n → 12 * ((parseItems n.items.toNat n.body).getD
      []).length ≤ msgLimit t - 40 → exec (.odpWriteChunk t m) s = .next (afterOp ((writeItems x.level x.version true ((parseItems n.items.toNat
      n.body).getD []) (beforeOp s t x n)).1) x n ({ status := 0, items := ((parseItems n.items.toNat n.body).getD []).length, body := (writeItems x.level x.version true ((parseItems n.items.toNat n.body).getD []) (beforeOp s t x n)).2 })))
    ∧ (∀ (t : Transport) (m n : OdpMsg) (x : Session), n = { m with opcode := 0x20 } → inOrder s t x n → (((parseItems n.items.toNat n.body).getD
      []).flatMap (fun w => replyItem (beforeOp s t x n) x.level x.version w (readOne (beforeOp s t x n) x.level n.opcode.toNat (msgLimit t - 40)
      w).1 (readOne (beforeOp s t x n) x.level n.opcode.toNat (msgLimit t - 40) w).2)).length ≤ msgLimit t - 40 → exec (.odpDescribe t m) s = .next
      (afterOp (beforeOp s t x n) x n ({ status := 0, items := ((parseItems n.items.toNat n.body).getD []).length, body := ((parseItems n.items.toNat n.body).getD []).flatMap (fun w => replyItem (beforeOp s t x n) x.level x.version w (readOne (beforeOp s t x n) x.level n.opcode.toNat (msgLimit t - 40) w).1 (readOne (beforeOp s t x n) x.level n.opcode.toNat (msgLimit t - 40) w).2) })))
    ∧ (∀ (t : Transport) (m n : OdpMsg) (x : Session), n = { m with opcode := 0x30 } → inOrder s t x n → exec (.odpSubscribe t m) s = .next (afterOp
      (setSession (beforeOp s t x n) x.id fun y => { y with sub := subscribed (fieldBe n.body 0 1) }) x n ({ status := 0, items := 0, body := [] })))
    ∧ (∀ (t : Transport) (m n : OdpMsg) (x : Session), n = { m with opcode := 0x3F } → inOrder s t x n → exec (.odpKeepalive t m) s = .next (afterOp
      (beforeOp s t x n) x n ({ status := 0, items := 0, body := [] })))

/-- The dictionary's own events (R28 to R44, R434): a session idles out, the dictionary starts to answer, an object, a chunk or a register of the
window is written, an actual view changes, a skew raises STATE_SKEW once, GO and the end of a window's request, a clear of its status, the MCTP
control messages, and a tenant's dictionary request. -/
def Obligations.DictionaryCommandsComplete : Prop :=
  ∀ s : State,
    (∀ (sid : BitVec 32), exec (.sessionIdleTimeout sid) s = .next ({ s with mgmt := { s.mgmt with sessions := s.mgmt.sessions.filter fun x => x.id != sid.toNat } }))
    ∧ (s.pwr.testMode = false → s.sec.stage = 2 ∨ s.sec.stage = 3 → s.mgmt.ready = false → s.mgmt.odwBusy = false → exec (.dictionaryReady) s = .next
      ({ s with mgmt := { s.mgmt with ready := true } }))
    ∧ (∀ (w : RegWrite) (idx q : BitVec 16) (sub : Byte) (u : State), w.place = .object idx sub q → writeItem s w.requester (rowItem idx.toNat
      sub.toNat q.toNat w.value) = (u, .ok) → exec (.objectWrite w) s = .next (promisedReset (emit u (.wrote idx.toNat sub.toNat q.toNat .ok))))
    ∧ (∀ (w : RegWrite) (idx q : BitVec 16) (sub : Byte) (start : BitVec 32) (u : State), w.place = .chunk idx sub q start → writeChunk s w.requester
      (rowItem idx.toNat sub.toNat q.toNat (chunkValue start.toNat (w.value.length / recSize idx.toNat sub.toNat) w.value)) = (u, .ok) → exec
      (.objectWrite w) s = .next (emit u (.wrote idx.toNat sub.toNat q.toNat .ok)))
    ∧ (∀ (w : RegWrite) (off : Fin 16384), w.place = .window off → exec (.objectWrite w) s = .next (windowWrite s off.val w.value))
    ∧ (∀ (u : ViewUnit) (v : Byte) (n : Nat), actualMax u.idx.toNat = some n → v.toNat ≤ n → viewExists s u.idx.toNat u.q.toNat = true → exec
      (.actualViewChange u v) s = .next (settleViews (wr s u.idx.toNat 2 u.q.toNat v.toNat)))
    ∧ (∀ (u : ViewUnit), statefulObjs.contains u.idx.toNat = true → viewExists s u.idx.toNat u.q.toNat = true → has s.mgmt.skewed (okey u.idx.toNat 1
      u.q.toNat) = false → viewsAgree s u.idx.toNat u.q.toNat = false → exec (.stateSkew u) s = .next (raiseEv { s with mgmt := { s.mgmt with skewed := put s.mgmt.skewed (okey u.idx.toNat 1 u.q.toNat) true } }
      (viewSource u.idx.toNat u.q.toNat) 0 .notice 0 [keyAddress (okey u.idx.toNat 1 u.q.toNat), rd s u.idx.toNat 1 u.q.toNat, rd s u.idx.toNat 2
      u.q.toNat] true))
    ∧ (windowOpen s = true → s.mgmt.odwEnable = true → s.mgmt.odwBusy = false → s.mgmt.ready = true → exec (.odwGo) s = .next (windowTaken { s with mgmt := { s.mgmt with odwBusy := true, odwReply := none } }))
    ∧ (windowOpen s = true → s.mgmt.odwEnable = true → s.mgmt.odwBusy = true → exec (.odwGo) s = .next ({ s with mgmt := { s.mgmt with odwOverrun := true } }))
    ∧ (∀ (st : Nat) (b : List Byte), s.mgmt.odwReply = some (st, b) → s.mgmt.odwBusy = true → s.mgmt.odwIrqEn = false → exec (.odwDone) s = .next
      (promisedReset { s with mgmt := { s.mgmt with odwBusy := false, odwDone := true, odwLast := st, odwRspLen := b.length, odwRsp := b, odwReply := none } }))
    ∧ (∀ (mask : BitVec 32) (o : Bool), windowOpen s = true → exec (.odwStatusClear mask false o) s = .next ({ s with mgmt := { s.mgmt with odwDone := s.mgmt.odwDone && !mask.getLsbD 1, odwOverrun := (s.mgmt.odwOverrun && !mask.getLsbD 2) || (o && s.mgmt.odwBusy) } }))
    ∧ (transportOpen s .mctp = true → exec (.endpointDiscovery) s = .next (emit (hldWake s .mctp) (.mctp 0 [])))
    ∧ (∀ (eid : Byte), transportOpen s .mctp = true → eid ≠ 0 → eid ≠ 0xFF → exec (.eidAssignment eid) s = .next (emit (wr (hldWake s .mctp) 0x1101 4
      0 eid.toNat) (.mctp 0 [0, eid, 0])))
    ∧ (∀ (k : Byte), transportOpen s .mctp = true → exec (.versionQuery k) s = .next (emit (hldWake s .mctp) (.mctp 0 (Config.fmBytes [0,
      k.toNat]))))
    ∧ (∀ (i : InstN) (v : List Byte) (u : State) (n : Nat) (b : List Byte), mailboxOpen s i.val = true → vendorBit s i.val 0xC000 = true →
      s.mgmt.ready = true → plainRequest s (.tenant i) v = (u, some (n, b)) → exec (.dictionaryRequest i v) s = .next (mailboxReply u i.val 0 b))

/-- The life of an instance (R278 to R286): Create takes the lowest free number or the one named, Destroy unbinds a presented instance or stops it at
once, its end frees it, a write of the binding starts or ends a presentation, an unbind calls back what the old host tracks, a host's decoder is
committed only by R283's rules, and a posted notice takes its slot. -/
def Obligations.InstanceCommandsComplete : Prop :=
  ∀ s : State,
    (∀ (r : Requester) (v : List Byte) (j : Nat), accepted s r 0x5001 1 0 v → v.length = 8 → fieldBe v 0 2 = 0xFFFF → fieldBe v 2 2 ≤ 4096 →
      ((List.range 4096).find? fun i => !instExists s i) = some j → exec (.instCreate r v) s = .next (answered (cmdDone (wr (wr (wr (resetInst s j)
      0x5000 1 j 1) 0x5000 4 j (fieldBe v 2 2)) 0x5001 2 0 j) 0x5001 1 0 0) 0x5001 1 0 .ok))
    ∧ (∀ (r : Requester) (v : List Byte) (j : Nat), accepted s r 0x5001 1 0 v → v.length = 8 → fieldBe v 0 2 = j → j < 4096 → fieldBe v 2 2 ≤ 4096 →
      instExists s j = false → exec (.instCreate r v) s = .next (answered (cmdDone (wr (wr (wr (resetInst s j) 0x5000 1 j 1) 0x5000 4 j (fieldBe v 2
      2)) 0x5001 2 0 j) 0x5001 1 0 0) 0x5001 1 0 .ok))
    ∧ (∀ (r : Requester) (i : InstN), accepted s r 0x5000 3 i.val [1] → instExists s i.val = true → rd s 0x5010 2 i.val = 1 ∨ rd s 0x5010 2 i.val = 2
      ∨ rd s 0x5010 2 i.val = 4 → exec (.instDestroy r i) s = .next (answered (setInst (beginUnbind (wr (cmdStart s 0x5000 3 i.val) 0x5000 1 i.val 3)
      i.val) i.val { getInst (beginUnbind (wr (cmdStart s 0x5000 3 i.val) 0x5000 1 i.val 3) i.val) i.val with destroying := 1, background := none })
      0x5000 3 i.val .ok))
    ∧ (∀ (r : Requester) (i : InstN), accepted s r 0x5000 3 i.val [1] → instExists s i.val = true → rd s 0x5010 2 i.val = 0 → exec (.instDestroy r i)
      s = .next (answered (stopInst (setInst (wr (cmdStart s 0x5000 3 i.val) 0x5000 1 i.val 3) i.val { getInst (wr (cmdStart s 0x5000 3 i.val) 0x5000 1 i.val 3) i.val with destroying := 1, background := none })
      i.val) 0x5000 3 i.val .ok))
    ∧ (∀ (i : InstN), (getInst s i.val).destroying = 2 → (instExtents s i.val).isEmpty = true → s.gecko.tables.any (fun e => e.2.owner == i.val) =
      false → exec (.destroyComplete i) s = .next (cmdEnd (wr (resetInst s i.val) 0x5000 3 i.val (rd s 0x5000 3 i.val)) 0x5000 3 i.val 2 0))
    ∧ (∀ (r : Requester) (i : InstN) (v : Byte), accepted s r 0x5010 1 i.val [v] → v.toNat = 1 → rd s 0x5010 2 i.val = 0 → bindOk s i.val (rd s
      0x5010 3 i.val) (rd s 0x5010 4 i.val) = true → exec (.instBind r i .target v) s = .next (answered (startBind (wr s 0x5010 1 i.val 1) i.val)
      0x5010 1 i.val .ok))
    ∧ (∀ (r : Requester) (i : InstN) (v : Byte), accepted s r 0x5010 1 i.val [v] → v.toNat = 0 → exec (.instBind r i .target v) s = .next (answered
      (beginUnbind (wr s 0x5010 1 i.val 0) i.val) 0x5010 1 i.val .ok))
    ∧ (∀ (r : Requester) (i : InstN) (v : Byte), accepted s r 0x5010 3 i.val [v] → v.toNat < 64 → rd s 0x5010 2 i.val = 0 → exec (.instBind r i .usp
      v) s = .next (answered (wr s 0x5010 3 i.val v.toNat) 0x5010 3 i.val .ok))
    ∧ (∀ (r : Requester) (i : InstN) (v : Byte), accepted s r 0x5010 4 i.val [v] → rd s 0x5010 2 i.val = 0 → exec (.instBind r i .ldId v) s = .next
      (answered (wr s 0x5010 4 i.val v.toNat) 0x5010 4 i.val .ok))
    ∧ (∀ (i : InstN), rd s 0x5010 2 i.val = 4 → stillAccepted s i.val = false → 64 ≤ (getInst s i.val).usp → hdmDbRanges s i.val = [] → exec
      (.instUnbind i) s = .next (unbound s i.val))
    ∧ (∀ (i : InstN) (k : Nat) (l : List (Nat × Nat)) (u : State), rd s 0x5010 2 i.val = 4 → stillAccepted s i.val = false → (getInst s i.val).usp <
      64 → k = fnKey (getInst s i.val).usp (getInst s i.val).ld → l = (getFn s k).reads → u = dropReads (setFn s k { getFn s k with heldTags := (getFn s k).heldTags ++ l.map (·.2), reads := [] })
      l → exec (.instUnbind i) s = .next (if hdmDbRanges u i.val = [] then unbound u i.val else startRbi u { ranges := hdmDbRanges u i.val, port := some (getInst s i.val).usp, why := .unbind i.val }))
    ∧ (∀ (i : InstN) (d : Fin 8) (b : List Byte), b.length = 32 → rd s 0x5010 2 i.val = 1 → decCommitted (decoderRec s i.val d.val) = false →
      decCommitted (ofBe b) = true → decOk s i.val (ofBe b) (otherDecs s i.val d.val) = true → exec (.hdmDecoderCommit i d b) s = .next (emit
      (decWrite s i.val d.val (ofBe b)) (.decoder i.val d.val true)))
    ∧ (∀ (r : Requester) (i : InstN) (v : List Byte), accepted s r 0x5100 1 i.val v → instExists s i.val = true → (4 ≤ fieldBe v 0 2 ∧ fieldBe v 0 2
      ≤ 7) ∨ (0x100 ≤ fieldBe v 0 2 ∧ fieldBe v 0 2 ≤ 0x7FFF) → fieldBe v 2 2 = 0 → (getInst s i.val).notices.length < 64 → exec (.postNotice r i v)
      s = .next (answered (cmdDone (pushNotice s i.val (fieldBe v 0 2) (v.drop 4)) 0x5100 1 i.val 0) 0x5100 1 i.val .ok))

/-- The tenant mailbox of an instance presented as an LD (R239, R284, R285, R211): each command's answer and what it changes; reads change nothing;
submissions enter a queue; completions and notices leave; a confirmation of a flush is recorded with its time. -/
def Obligations.MailboxCommandsComplete : Prop :=
  ∀ s : State,
    (∀ (i : InstN), mailboxOpen s i.val = true → exec (.identifyMemoryDevice i) s = .next (mailboxReply s i.val 0 (Config.identifyBytes i.val
      (instBytes s i.val fun st => st == 2))))
    ∧ (∀ (i : InstN), mailboxOpen s i.val = true → exec (.getSupportedLogs i) s = .next (mailboxReply s i.val 0 (le 2 1 ++ zeros 6 ++ celUuid ++ le 4
      (celBytes s i.val).length)))
    ∧ (∀ (i : InstN) (o n : BitVec 32), mailboxOpen s i.val = true → o.toNat + n.toNat ≤ (celBytes s i.val).length → exec (.getLog i o n) s = .next
      (mailboxReply s i.val 0 (slice (celBytes s i.val) o.toNat n.toNat)))
    ∧ (∀ (i : InstN) (k : Byte) (l : List EventRec) (n : Nat), mailboxOpen s i.val = true → k.toNat < 5 → l = (getInst s i.val).events.filter (fun e
      => e.log == k.toNat) → n = min l.length 511 → exec (.getEventRecords i k) s = .next (mailboxReply s i.val 0 ([BitVec.ofNat 8 (2 * b2n (decide
      (n < l.length)))] ++ zeros 19 ++ le 2 n ++ zeros 10 ++ (l.take n).flatMap fun e => padTo (zeros 20 ++ le 2 e.handle ++ e.body) 128)))
    ∧ (∀ (i : InstN) (k : Byte) (hs : List Nat), mailboxOpen s i.val = true → k.toNat < 5 → (hs.all fun h => (logRecords s i.val k.toNat).any fun e
      => e.handle == h) = true → exec (.clearEventRecords i k hs) s = .next (mailboxReply (setInst s i.val { getInst s i.val with events := (getInst s i.val).events.filter fun e => !(e.log == k.toNat && hs.contains e.handle) })
      i.val 0 []))
    ∧ (∀ (i : InstN), mailboxOpen s i.val = true → exec (.getEventInterruptPolicy i) s = .next (mailboxReply s i.val 0 (getInst s i.val).policy))
    ∧ (∀ (i : InstN) (p : List Byte), mailboxOpen s i.val = true → p.length = 4 ∨ p.length = 5 → exec (.setEventInterruptPolicy i p) s = .next
      (mailboxReply (setInst s i.val { getInst s i.val with policy := p ++ (getInst s i.val).policy.drop p.length }) i.val 0 []))
    ∧ (∀ (i : InstN), mailboxOpen s i.val = true → exec (.getHealthInfo i) s = .next (freeNext (mailboxReply s i.val 0 (Config.healthBytes s.free))))
    ∧ (∀ (i : InstN), mailboxOpen s i.val = true → exec (.getTimestamp i) s = .next (mailboxReply s i.val 0 (le 8 (s.clock.secBase * 1000000000 +
      s.clock.core * 2 / 3))))
    ∧ (∀ (i : InstN) (o n : BitVec 64) (l : List Nat), mailboxOpen s i.val = true → l = poisonOffsets s i.val o.toNat n.toNat → exec (.getPoisonList
      i o n) s = .next (mailboxReply s i.val 0 ([BitVec.ofNat 8 (b2n (decide (4094 < l.length)))] ++ zeros 9 ++ le 2 (min l.length 4094) ++ zeros 20
      ++ (l.take 4094).flatMap fun a => le 8 (a + 2) ++ le 4 1 ++ zeros 4)))
    ∧ (∀ (i : InstN) (a n : Byte) (l : List (Nat × Nat × Nat × Nat × Nat)), mailboxOpen s i.val = true → l = validRegions s i.val → exec
      (.getDynamicCapacityConfiguration i a n) s = .next (mailboxReply s i.val 0 (le 1 l.length ++ le 1 (slice l a.toNat n.toNat).length ++ zeros 6
      ++ ((slice l a.toNat n.toNat).flatMap fun r => le 8 r.2.1 ++ le 8 r.2.2.1 ++ le 8 r.2.2.1 ++ le 8 (2 ^ (21 + r.2.2.2.1)) ++ le 4 r.1 ++ le 1 (4
      * b2n (dcShareable r.2)) ++ zeros 3) ++ le 4 262144 ++ le 4 (262144 - (instExtents s i.val).length) ++ zeros 8)))
    ∧ (∀ (i : InstN) (a n : BitVec 32) (l : List Nat), mailboxOpen s i.val = true → l = (((instExtents s i.val).filter fun e => (getExt s e).st ==
      2).mergeSort fun a b => decide ((getExt s a).offset ≤ (getExt s b).offset)) → a.toNat ≤ l.length → exec (.getDynamicCapacityExtentList i a n) s
      = .next (mailboxReply s i.val 0 (le 4 (slice l a.toNat (min n.toNat 1637)).length ++ le 4 l.length ++ le 4 (Config.extentListGen (l.map fun e
      => e * 65536 + (getExt s e).gen)) ++ zeros 4 ++ (slice l a.toNat (min n.toNat 1637)).flatMap fun e => le 8 (getExt s e).offset ++ le 8
      (extBytes (getExt s e)) ++ (if (getExt s e).shared then zeros 14 ++ be 2 (getExt s e).shareSet else zeros 16) ++ zeros 8)))
    ∧ (∀ (i : InstN) (op : BitVec 16), mailboxOpen s i.val = true → cxlCommands.contains op.toNat = false → vendorBit s i.val op.toNat = false → exec
      (.mailboxUnsupported i op) s = .next (mailboxReply s i.val 3 []))
    ∧ (∀ (i : InstN) (k : QueueK) (ds : List (List Byte)) (n : Nat) (u : State), mailboxOpen s i.val = true → vendorBit s i.val 0xC001 = true → ds ≠
      [] → ds.length ≤ 63 → (∀ d ∈ ds, d.length = 64) → n = min ds.length (256 - (ringOf s i.val k.val).length) → u = setRing s i.val k.val (ringOf s
      i.val k.val ++ ds.take n) → exec (.submitInvocations i k ds) s = .next (mailboxReply (completeUnserved (((boundCtxs u i.val).filter fun c =>
      bit (bindQueues (bindRec u c)) k.val).foldl (fun a c => if 0 < n then raiseExt a c 24 else a) u) i.val) i.val 0 (be 1 n)))
    ∧ (∀ (i : InstN) (mask m : BitVec 16) (u : State) (b : List Byte) (n : Nat), mailboxOpen s i.val = true → vendorBit s i.val 0xC002 = true →
      takeCompletions s i.val mask.toNat (List.range 16) (min m.toNat 1638) = (u, b, n) → exec (.getCompletions i mask m) s = .next (mailboxReply
      (completeUnserved u i.val) i.val 0 (be 2 n ++ zeros 6 ++ b)))
    ∧ (∀ (i : InstN) (b : List Byte) (u : State) (code at_ : Nat), mailboxOpen s i.val = true → vendorBit s i.val 0xC003 = true → (getInst s
      i.val).background = none → loadImage s i.val b = (u, code, at_) → exec (.loadStepTable i b) s = .next (mailboxReply u i.val 0 (be 1 code ++ be
      2 at_)))
    ∧ (∀ (i : InstN) (tb : BitVec 16) (t : StepTable), mailboxOpen s i.val = true → vendorBit s i.val 0xC004 = true → getTable s tb.toNat = some t →
      t.owner = i.val → (getInst s i.val).background = none → getTable (unloadTable s tb.toNat) tb.toNat = none → exec (.unloadStepTable i tb) s =
      .next (mailboxReply (unloadTable s tb.toNat) i.val 0 []))
    ∧ (∀ (i : InstN) (m : Byte), mailboxOpen s i.val = true → vendorBit s i.val 0xC005 = true → exec (.getNotices i m) s = .next (mailboxReply s
      i.val 0 (be 1 ((getInst s i.val).notices.take m.toNat).length ++ zeros 7 ++ ((getInst s i.val).notices.take m.toNat).flatMap Notice.bytes)))
    ∧ (∀ (i : InstN) (q : BitVec 32) (l : List Notice), mailboxOpen s i.val = true → vendorBit s i.val 0xC006 = true → l = (getInst s
      i.val).notices.filter (fun n => !decide ((q.toNat + 2 ^ 32 - n.seq) % 2 ^ 32 < 2 ^ 31)) → exec (.acknowledgeNotices i q) s = .next
      (mailboxReply (wr (setInst s i.val { getInst s i.val with notices := l }) 0x5100 2 i.val l.length) i.val 0 []))
    ∧ (∀ (i : InstN) (o n : BitVec 64), mailboxOpen s i.val = true → vendorBit s i.val 0xC007 = true → exec (.confirmFlush i o n) s = .next
      (mailboxReply (wrBlob s 0x5100 6 i.val (be 8 o.toNat ++ be 8 n.toNat ++ be 8 (timeNow s))) i.val 0 []))

/-- The dirty log (R287 to R293): Start, Stop and Harvest are pending until the device-wide tick, which goes to every instance; the flush of marks
ends a Harvest without an address, a kept bitmap is cleared, and a report leaves for host memory. -/
def Obligations.DirtyLogCommandsComplete : Prop :=
  ∀ s : State,
    (∀ (r : Requester) (i : InstN), accepted s r 0x5200 1 i.val [1] → instExists s i.val = true → (getDirty s i.val).stopP = false → (getDirty s
      i.val).logging = false → (getDirty s i.val).startP = false → exec (.dirtyStart r i) s = .next (answered (wr (setDirty (cmdStart s 0x5200 1
      i.val) i.val { getDirty s i.val with startP := true }) 0x5200 4 i.val 1) 0x5200 1 i.val .ok))
    ∧ (∀ (r : Requester) (i : InstN), accepted s r 0x5200 2 i.val [1] → instExists s i.val = true → (getDirty s i.val).stopP = false → (getDirty s
      i.val).logging = true → exec (.dirtyStop r i) s = .next (answered (wr (setDirty (cmdStart s 0x5200 2 i.val) i.val { getDirty s i.val with stopP := true })
      0x5200 4 i.val 3) 0x5200 2 i.val .ok))
    ∧ (∀ (r : Requester) (i : InstN) (v : List Byte), accepted s r 0x5200 3 i.val v → instExists s i.val = true → fieldBe v 12 4 = 0 → (getDirty s
      i.val).logging = true → (getDirty s i.val).harvestP = false → (getDirty s i.val).transfer = false → exec (.dirtyHarvest r i v) s = .next
      (answered (setDirty (cmdStart s 0x5200 3 i.val) i.val { getDirty s i.val with harvestP := true, addr := fieldBe v 0 8, len := fieldBe v 8 4 })
      0x5200 3 i.val .ok))
    ∧ (exec (.harvestTick) s = .next ((s.insts.map (·.1)).foldl tickInst s))
    ∧ (∀ (i : InstN) (d : DirtySt), d = getDirty s i.val → d.flushing = true → d.transfer = true → d.addr ≠ 0 → exec (.markFlushComplete i) s = .next
      (setDirty s i.val { d with flushing := false }))
    ∧ (∀ (i : InstN) (d : DirtySt), d = getDirty s i.val → d.flushing = true → d.transfer = true → d.addr = 0 → d.final = false → exec
      (.markFlushComplete i) s = .next (cmdEnd (setDirty s i.val { d with flushing := false, transfer := false, kept := true }) 0x5200 3 i.val 2 0))
    ∧ (∀ (i : InstN), (getDirty s i.val).clearing = true → exec (.bitmapClearComplete i) s = .next (setDirty s i.val { getDirty s i.val with clearing := false, kept := false, frozen := [] }))
    ∧ (∀ (i : InstN), (getDirty s i.val).transfer = true → (getDirty s i.val).flushing = false → mgrFn s = none → (getDirty s i.val).final = false →
      fieldBe (rdBlob s 0x5200 5 i.val (zeros 40)) 0 4 ≠ (getDirty s i.val).frozenEpoch → exec (.harvestTransferComplete i) s = .next (cmdEnd
      (setDirty s i.val { getDirty s i.val with transfer := false, kept := true, frozenFlags := (getDirty s i.val).frozenFlags + 16 }) 0x5200 3 i.val
      2 0))
    ∧ (∀ (i : InstN) (d : DirtySt) (fn n : Nat) (l : List Nat), d = getDirty s i.val → d.transfer = true → d.flushing = false → d.final = false →
      mgrFn s = some fn → (getFn s fn).bme = true → (getFn s fn).flr = false → linkUp s (fn / 32) = true → l = dirtyLines d.frozen → 32 + 72 *
      l.length ≤ d.len → n = l.length → exec (.harvestTransferComplete i) s = .next (cmdEnd (setDirty (emit s (.hostWrite fn d.addr (be 4
      d.frozenEpoch ++ be 4 d.frozenFlags ++ be 8 n ++ be 8 d.frozen.length ++ zeros 8 ++ l.flatMap fun x => be 8 x ++ dirtyLine d.frozen x))) i.val
      { d with transfer := false, kept := false, frozen := [] }) 0x5200 3 i.val 2 0))

/-- Control, event and move steps (R252, R264, R265, Tables 12-4 and 12-6): a step that issues is counted, the context stands at the next step, and
it does what its row says: END ends the invocation, WAIT consumes the lowest pending event of its mask or waits, SIGNAL sets an event, TIMER sets
or cancels the timer, BR and LOOP go to their target, and the moves write RD. -/
def Obligations.ControlStepsComplete : Prop :=
  ∀ s : State,
    (∀ (c : CtxN) (f : StepF), issues s c.val 0x01 f → exec (.stepNop c f) s = .next (stepDone s c.val fun k => k))
    ∧ (∀ (c : CtxN) (f : StepF), issues s c.val 0x02 f → exec (.stepEnd c f) s = .next (endInvocation (account (spent s c.val) c.val) c.val (if
      (getCtx (account (spent s c.val) c.val) c.val).handler = true ∧ f.imm.toNat ≠ 1 then (getCtx (account (spent s c.val) c.val) c.val).fault else
      0)))
    ∧ (∀ (c : CtxN) (f : StepF), issues s c.val 0x03 f → exec (.stepYield c f) s = .next (stepDone s c.val fun k => k))
    ∧ (∀ (c : CtxN) (f : StepF) (ev : Nat), issues s c.val 0x04 f → lowestBit (pendingOf (stepped s c.val) c.val &&& f.imm.toNat) = some ev → exec
      (.stepWait c f) s = .next (setCtx (consume (stepped s c.val) c.val ev) c.val (setReg (getCtx (consume (stepped s c.val) c.val ev) c.val)
      f.rd.val ev)))
    ∧ (∀ (c : CtxN) (f : StepF), issues s c.val 0x04 f → lowestBit (pendingOf (stepped s c.val) c.val &&& f.imm.toNat) = none → exec (.stepWait c f)
      s = .next (stepDone s c.val fun k => { k with st := 4, evmask := f.imm.toNat, waitRd := f.rd.val }))
    ∧ (∀ (c : CtxN) (f : StepF), issues s c.val 0x05 f → exec (.stepSignal c f) s = .next (signalGroup (stepped s c.val) (ctxCluster c.val) (if bit
      f.imm.toNat 16 then (getCtx (stepped s c.val) c.val).wgroup else bits f.imm.toNat 15 8) (f.imm.toNat % 32)))
    ∧ (∀ (c : CtxN) (f : StepF), issues s c.val 0x06 f → exec (.stepTimer c f) s = .next (stepDone s c.val fun k => { k with timer := if operand k f % 2 ^ 32 = 0 then none else some (tileCycles s (ctxTile c.val) + operand k f % 2 ^ 32) }))
    ∧ (∀ (c : CtxN) (f : StepF), issues s c.val 0x07 f → exec (.stepSysr c f) s = .next (stepDone s c.val fun k => setReg k f.rd.val (sysrValue s
      c.val (f.imm.toNat % 256) k)))
    ∧ (∀ (c : CtxN) (f : StepF), issues s c.val 0x08 f → exec (.stepRdf c f) s = .next (stepDone s c.val fun k => setReg k f.rd.val (b2n k.z + 2 *
      b2n k.n + 4 * b2n k.c + 8 * b2n k.v + 16 * b2n k.dz)))
    ∧ (∀ (c : CtxN) (f : StepF), issues s c.val 0x09 f → exec (.stepWrf c f) s = .next (stepDone s c.val fun k => { k with z := bit (operand k f) 0, n := bit (operand k f) 1, c := bit (operand k f) 2, v := bit (operand k f) 3, dz := bit (operand k f) 4 }))
    ∧ (∀ (c : CtxN) (f : StepF), issues s c.val 0x10 f → exec (.stepBr c f) s = .next (stepDone s c.val fun k => if condHolds f.cond.val (ctxFlags k)
      then { k with sp := f.target.val } else k))
    ∧ (∀ (c : CtxN) (f : StepF), issues s c.val 0x11 f → exec (.stepLoop c f) s = .next (stepDone s c.val fun k => if reg k f.ra.val + 1 <
      f.imm.toNat then { setReg k f.ra.val (reg k f.ra.val + 1) with sp := f.target.val } else k))
    ∧ (∀ (c : CtxN) (f : StepF), issues s c.val 0x18 f → exec (.stepMov c f) s = .next (stepDone s c.val fun k => setReg k f.rd.val (operand k f)))
    ∧ (∀ (c : CtxN) (f : StepF), issues s c.val 0x19 f → exec (.stepCsel c f) s = .next (stepDone s c.val fun k => setReg k f.rd.val (if condHolds
      f.cond.val (ctxFlags k) then reg k f.ra.val else reg k f.rb.val)))
    ∧ (∀ (c : CtxN) (f : StepF), issues s c.val 0x1A f → exec (.stepSext c f) s = .next (stepDone s c.val fun k => setReg k f.rd.val (signExtend (2 ^
      f.sz.val) (reg k f.ra.val))))
    ∧ (∀ (c : CtxN) (w : BitVec 128), ¬(wordReserved w.toNat = true ∧ stepDefined true (getCtx s c.val).sp (wordOp w.toNat) (wordStep w.toNat) =
      true) → engineOn s (getCtx s c.val).engine = true → (engineChoice s (getCtx s c.val).engine).map (·.1) = some c.val → (getCtx s c.val).table <
      512 → (getCtx s c.val).budget ≠ 0 → exec (.undefinedStep c w) s = .next (stepFault (account (spent s c.val) c.val) c.val 0x0E 0 0))

/-- The arithmetic steps (R262, R267, Tables 12-5 and 12-7): a step that issues is counted, the context stands at the next step, RD takes the result
at the width that SZ names and the flags take those of its row; CMP and TST write flags alone; a division whose divisor is not 0, or whose
invocation does not trap on it, writes its result. -/
def Obligations.ArithmeticStepsComplete : Prop :=
  ∀ s : State,
    (∀ (c : CtxN) (f : StepF), issues s c.val 0x20 f → exec (.stepAdd c f) s = .next (stepDone s c.val fun k => setFlags (setReg k f.rd.val (aluAdd
      (stepWidth f) (reg k f.ra.val % 2 ^ stepWidth f) (operand k f % 2 ^ stepWidth f) 0 (ctxFlags k)).1) (aluAdd (stepWidth f) (reg k f.ra.val % 2 ^
      stepWidth f) (operand k f % 2 ^ stepWidth f) 0 (ctxFlags k)).2))
    ∧ (∀ (c : CtxN) (f : StepF), issues s c.val 0x21 f → exec (.stepAdc c f) s = .next (stepDone s c.val fun k => setFlags (setReg k f.rd.val (aluAdd
      (stepWidth f) (reg k f.ra.val % 2 ^ stepWidth f) (operand k f % 2 ^ stepWidth f) (b2n k.c) (ctxFlags k)).1) (aluAdd (stepWidth f) (reg k
      f.ra.val % 2 ^ stepWidth f) (operand k f % 2 ^ stepWidth f) (b2n k.c) (ctxFlags k)).2))
    ∧ (∀ (c : CtxN) (f : StepF), issues s c.val 0x22 f → exec (.stepSub c f) s = .next (stepDone s c.val fun k => setFlags (setReg k f.rd.val (aluSub
      (stepWidth f) (reg k f.ra.val % 2 ^ stepWidth f) (operand k f % 2 ^ stepWidth f) 0 (ctxFlags k)).1) (aluSub (stepWidth f) (reg k f.ra.val % 2 ^
      stepWidth f) (operand k f % 2 ^ stepWidth f) 0 (ctxFlags k)).2))
    ∧ (∀ (c : CtxN) (f : StepF), issues s c.val 0x23 f → exec (.stepSbb c f) s = .next (stepDone s c.val fun k => setFlags (setReg k f.rd.val (aluSub
      (stepWidth f) (reg k f.ra.val % 2 ^ stepWidth f) (operand k f % 2 ^ stepWidth f) (b2n k.c) (ctxFlags k)).1) (aluSub (stepWidth f) (reg k
      f.ra.val % 2 ^ stepWidth f) (operand k f % 2 ^ stepWidth f) (b2n k.c) (ctxFlags k)).2))
    ∧ (∀ (c : CtxN) (f : StepF), issues s c.val 0x24 f → exec (.stepNeg c f) s = .next (stepDone s c.val fun k => setFlags (setReg k f.rd.val (aluSub
      (stepWidth f) 0 (reg k f.ra.val % 2 ^ stepWidth f) 0 (ctxFlags k)).1) (aluSub (stepWidth f) 0 (reg k f.ra.val % 2 ^ stepWidth f) 0 (ctxFlags
      k)).2))
    ∧ (∀ (c : CtxN) (f : StepF), issues s c.val 0x25 f → exec (.stepCmp c f) s = .next (stepDone s c.val fun k => setFlags k (aluSub (stepWidth f)
      (reg k f.ra.val % 2 ^ stepWidth f) (operand k f % 2 ^ stepWidth f) 0 (ctxFlags k)).2))
    ∧ (∀ (c : CtxN) (f : StepF), issues s c.val 0x26 f → exec (.stepMul c f) s = .next (stepDone s c.val fun k => setFlags (setReg k f.rd.val (aluMul
      (stepWidth f) (reg k f.ra.val % 2 ^ stepWidth f) (operand k f % 2 ^ stepWidth f) (ctxFlags k)).1) (aluMul (stepWidth f) (reg k f.ra.val % 2 ^
      stepWidth f) (operand k f % 2 ^ stepWidth f) (ctxFlags k)).2))
    ∧ (∀ (c : CtxN) (f : StepF), issues s c.val 0x27 f → exec (.stepMulhu c f) s = .next (stepDone s c.val fun k => setFlags (setReg k f.rd.val
      (aluMulhu (stepWidth f) (reg k f.ra.val % 2 ^ stepWidth f) (operand k f % 2 ^ stepWidth f) (ctxFlags k)).1) (aluMulhu (stepWidth f) (reg k
      f.ra.val % 2 ^ stepWidth f) (operand k f % 2 ^ stepWidth f) (ctxFlags k)).2))
    ∧ (∀ (c : CtxN) (f : StepF), issues s c.val 0x28 f → exec (.stepMulhs c f) s = .next (stepDone s c.val fun k => setFlags (setReg k f.rd.val
      (aluMulhs (stepWidth f) (reg k f.ra.val % 2 ^ stepWidth f) (operand k f % 2 ^ stepWidth f) (ctxFlags k)).1) (aluMulhs (stepWidth f) (reg k
      f.ra.val % 2 ^ stepWidth f) (operand k f % 2 ^ stepWidth f) (ctxFlags k)).2))
    ∧ (∀ (c : CtxN) (f : StepF), issues s c.val 0x29 f → ¬(operand (getCtx (spent s c.val) c.val) f % 2 ^ stepWidth f = 0 ∧ (getCtx (spent s c.val)
      c.val).dzt = true) → exec (.stepDivu c f) s = .next (stepDone s c.val fun k => setFlags (setReg k f.rd.val (aluDivu (stepWidth f) (reg k
      f.ra.val % 2 ^ stepWidth f) (operand k f % 2 ^ stepWidth f) (ctxFlags k)).1) (aluDivu (stepWidth f) (reg k f.ra.val % 2 ^ stepWidth f) (operand
      k f % 2 ^ stepWidth f) (ctxFlags k)).2))
    ∧ (∀ (c : CtxN) (f : StepF), issues s c.val 0x2A f → ¬(operand (getCtx (spent s c.val) c.val) f % 2 ^ stepWidth f = 0 ∧ (getCtx (spent s c.val)
      c.val).dzt = true) → exec (.stepDivs c f) s = .next (stepDone s c.val fun k => setFlags (setReg k f.rd.val (aluDivs (stepWidth f) (reg k
      f.ra.val % 2 ^ stepWidth f) (operand k f % 2 ^ stepWidth f) (ctxFlags k)).1) (aluDivs (stepWidth f) (reg k f.ra.val % 2 ^ stepWidth f) (operand
      k f % 2 ^ stepWidth f) (ctxFlags k)).2))
    ∧ (∀ (c : CtxN) (f : StepF), issues s c.val 0x2B f → ¬(operand (getCtx (spent s c.val) c.val) f % 2 ^ stepWidth f = 0 ∧ (getCtx (spent s c.val)
      c.val).dzt = true) → exec (.stepRemu c f) s = .next (stepDone s c.val fun k => setFlags (setReg k f.rd.val (aluRemu (stepWidth f) (reg k
      f.ra.val % 2 ^ stepWidth f) (operand k f % 2 ^ stepWidth f) (ctxFlags k)).1) (aluRemu (stepWidth f) (reg k f.ra.val % 2 ^ stepWidth f) (operand
      k f % 2 ^ stepWidth f) (ctxFlags k)).2))
    ∧ (∀ (c : CtxN) (f : StepF), issues s c.val 0x2C f → ¬(operand (getCtx (spent s c.val) c.val) f % 2 ^ stepWidth f = 0 ∧ (getCtx (spent s c.val)
      c.val).dzt = true) → exec (.stepRems c f) s = .next (stepDone s c.val fun k => setFlags (setReg k f.rd.val (aluRems (stepWidth f) (reg k
      f.ra.val % 2 ^ stepWidth f) (operand k f % 2 ^ stepWidth f) (ctxFlags k)).1) (aluRems (stepWidth f) (reg k f.ra.val % 2 ^ stepWidth f) (operand
      k f % 2 ^ stepWidth f) (ctxFlags k)).2))
    ∧ (∀ (c : CtxN) (f : StepF), issues s c.val 0x2D f → exec (.stepMinu c f) s = .next (stepDone s c.val fun k => setFlags (setReg k f.rd.val
      (aluMinu (stepWidth f) (reg k f.ra.val % 2 ^ stepWidth f) (operand k f % 2 ^ stepWidth f) (ctxFlags k)).1) (aluMinu (stepWidth f) (reg k
      f.ra.val % 2 ^ stepWidth f) (operand k f % 2 ^ stepWidth f) (ctxFlags k)).2))
    ∧ (∀ (c : CtxN) (f : StepF), issues s c.val 0x2E f → exec (.stepMaxu c f) s = .next (stepDone s c.val fun k => setFlags (setReg k f.rd.val
      (aluMaxu (stepWidth f) (reg k f.ra.val % 2 ^ stepWidth f) (operand k f % 2 ^ stepWidth f) (ctxFlags k)).1) (aluMaxu (stepWidth f) (reg k
      f.ra.val % 2 ^ stepWidth f) (operand k f % 2 ^ stepWidth f) (ctxFlags k)).2))
    ∧ (∀ (c : CtxN) (f : StepF), issues s c.val 0x2F f → exec (.stepMins c f) s = .next (stepDone s c.val fun k => setFlags (setReg k f.rd.val
      (aluMins (stepWidth f) (reg k f.ra.val % 2 ^ stepWidth f) (operand k f % 2 ^ stepWidth f) (ctxFlags k)).1) (aluMins (stepWidth f) (reg k
      f.ra.val % 2 ^ stepWidth f) (operand k f % 2 ^ stepWidth f) (ctxFlags k)).2))
    ∧ (∀ (c : CtxN) (f : StepF), issues s c.val 0x30 f → exec (.stepMaxs c f) s = .next (stepDone s c.val fun k => setFlags (setReg k f.rd.val
      (aluMaxs (stepWidth f) (reg k f.ra.val % 2 ^ stepWidth f) (operand k f % 2 ^ stepWidth f) (ctxFlags k)).1) (aluMaxs (stepWidth f) (reg k
      f.ra.val % 2 ^ stepWidth f) (operand k f % 2 ^ stepWidth f) (ctxFlags k)).2))
    ∧ (∀ (c : CtxN) (f : StepF), issues s c.val 0x38 f → exec (.stepAnd c f) s = .next (stepDone s c.val fun k => setFlags (setReg k f.rd.val (aluAnd
      (stepWidth f) (reg k f.ra.val % 2 ^ stepWidth f) (operand k f % 2 ^ stepWidth f) (ctxFlags k)).1) (aluAnd (stepWidth f) (reg k f.ra.val % 2 ^
      stepWidth f) (operand k f % 2 ^ stepWidth f) (ctxFlags k)).2))
    ∧ (∀ (c : CtxN) (f : StepF), issues s c.val 0x39 f → exec (.stepOr c f) s = .next (stepDone s c.val fun k => setFlags (setReg k f.rd.val (aluOr
      (stepWidth f) (reg k f.ra.val % 2 ^ stepWidth f) (operand k f % 2 ^ stepWidth f) (ctxFlags k)).1) (aluOr (stepWidth f) (reg k f.ra.val % 2 ^
      stepWidth f) (operand k f % 2 ^ stepWidth f) (ctxFlags k)).2))
    ∧ (∀ (c : CtxN) (f : StepF), issues s c.val 0x3A f → exec (.stepXor c f) s = .next (stepDone s c.val fun k => setFlags (setReg k f.rd.val (aluXor
      (stepWidth f) (reg k f.ra.val % 2 ^ stepWidth f) (operand k f % 2 ^ stepWidth f) (ctxFlags k)).1) (aluXor (stepWidth f) (reg k f.ra.val % 2 ^
      stepWidth f) (operand k f % 2 ^ stepWidth f) (ctxFlags k)).2))
    ∧ (∀ (c : CtxN) (f : StepF), issues s c.val 0x3B f → exec (.stepTst c f) s = .next (stepDone s c.val fun k => setFlags k (aluAnd (stepWidth f)
      (reg k f.ra.val % 2 ^ stepWidth f) (operand k f % 2 ^ stepWidth f) (ctxFlags k)).2))
    ∧ (∀ (c : CtxN) (f : StepF), issues s c.val 0x3C f → exec (.stepLsl c f) s = .next (stepDone s c.val fun k => setFlags (setReg k f.rd.val (aluLsl
      (stepWidth f) (reg k f.ra.val % 2 ^ stepWidth f) (operand k f) (ctxFlags k)).1) (aluLsl (stepWidth f) (reg k f.ra.val % 2 ^ stepWidth f)
      (operand k f) (ctxFlags k)).2))
    ∧ (∀ (c : CtxN) (f : StepF), issues s c.val 0x3D f → exec (.stepLsr c f) s = .next (stepDone s c.val fun k => setFlags (setReg k f.rd.val (aluLsr
      (stepWidth f) (reg k f.ra.val % 2 ^ stepWidth f) (operand k f) (ctxFlags k)).1) (aluLsr (stepWidth f) (reg k f.ra.val % 2 ^ stepWidth f)
      (operand k f) (ctxFlags k)).2))
    ∧ (∀ (c : CtxN) (f : StepF), issues s c.val 0x3E f → exec (.stepAsr c f) s = .next (stepDone s c.val fun k => setFlags (setReg k f.rd.val (aluAsr
      (stepWidth f) (reg k f.ra.val % 2 ^ stepWidth f) (operand k f) (ctxFlags k)).1) (aluAsr (stepWidth f) (reg k f.ra.val % 2 ^ stepWidth f)
      (operand k f) (ctxFlags k)).2))
    ∧ (∀ (c : CtxN) (f : StepF), issues s c.val 0x3F f → exec (.stepRol c f) s = .next (stepDone s c.val fun k => setFlags (setReg k f.rd.val (aluRol
      (stepWidth f) (reg k f.ra.val % 2 ^ stepWidth f) (operand k f) (ctxFlags k)).1) (aluRol (stepWidth f) (reg k f.ra.val % 2 ^ stepWidth f)
      (operand k f) (ctxFlags k)).2))
    ∧ (∀ (c : CtxN) (f : StepF), issues s c.val 0x40 f → exec (.stepRor c f) s = .next (stepDone s c.val fun k => setFlags (setReg k f.rd.val (aluRor
      (stepWidth f) (reg k f.ra.val % 2 ^ stepWidth f) (operand k f) (ctxFlags k)).1) (aluRor (stepWidth f) (reg k f.ra.val % 2 ^ stepWidth f)
      (operand k f) (ctxFlags k)).2))
    ∧ (∀ (c : CtxN) (f : StepF), issues s c.val 0x41 f → exec (.stepPopc c f) s = .next (stepDone s c.val fun k => setFlags (setReg k f.rd.val
      (aluPopc (stepWidth f) (reg k f.ra.val % 2 ^ stepWidth f) (ctxFlags k)).1) (aluPopc (stepWidth f) (reg k f.ra.val % 2 ^ stepWidth f) (ctxFlags
      k)).2))
    ∧ (∀ (c : CtxN) (f : StepF), issues s c.val 0x42 f → exec (.stepClz c f) s = .next (stepDone s c.val fun k => setFlags (setReg k f.rd.val (aluClz
      (stepWidth f) (reg k f.ra.val % 2 ^ stepWidth f) (ctxFlags k)).1) (aluClz (stepWidth f) (reg k f.ra.val % 2 ^ stepWidth f) (ctxFlags k)).2))
    ∧ (∀ (c : CtxN) (f : StepF), issues s c.val 0x43 f → exec (.stepBswap c f) s = .next (stepDone s c.val fun k => setFlags (setReg k f.rd.val
      (aluBswap (stepWidth f) (reg k f.ra.val % 2 ^ stepWidth f) (ctxFlags k)).1) (aluBswap (stepWidth f) (reg k f.ra.val % 2 ^ stepWidth f)
      (ctxFlags k)).2))
    ∧ (∀ (c : CtxN) (f : StepF), issues s c.val 0x48 f → exec (.stepCrc c f) s = .next (stepDone s c.val fun k => setReg k f.rd.val (crcUpdate (bit
      f.imm.toNat 8) (reg k f.rd.val) (le (2 ^ f.sz.val) (reg k f.ra.val)))))

/-- The memory steps (R245, R246, R269 to R274): an aligned step whose granules all answer starts its accesses and the context waits for them; a
scratch step inside its window reads or writes it at once; a host step of an open function leaves as a host read or a posted write. -/
def Obligations.MemoryStepsComplete : Prop :=
  ∀ s : State,
    (∀ (c : CtxN) (f : StepF) (u : State), issues s c.val 0x49 f → ([(reg (getCtx s c.val) f.ra.val, 64)]).find? (fun e => e.1 % e.2 != 0) = none →
      presentAll (spent s c.val) c.val 0x49 f ((([⟨reg (getCtx s c.val) f.ra.val, 64 * lineCount f, false⟩] : List Touch).flatMap fun t =>
      (touchGranules t).map fun a => (a, t.write)).mergeSort fun a b => decide (a.1 ≤ b.1)) = (u, none) → exec (.stepLcrc c f) s = .next (startPend u
      c.val { pendInit 0x49 f with accs := readLines u (getCtx u c.val) 0x49 f (reg (getCtx s c.val) f.ra.val) (lineCount f), addr := reg (getCtx s c.val) f.ra.val }))
    ∧ (∀ (c : CtxN) (f : StepF), issues s c.val 0x50 f → stepAddr (getCtx (spent s c.val) c.val) f % 2 ^ f.sz.val = 0 → stepAddr (getCtx (spent s
      c.val) c.val) f + 2 ^ f.sz.val ≤ scratchSize (getCtx (spent s c.val) c.val) → exec (.stepSld c f) s = .next (stepDone s c.val fun k => setReg k
      f.rd.val (ofLe ((List.range (2 ^ f.sz.val)).map fun j => look 0 k.scratch (stepAddr (getCtx (spent s c.val) c.val) f + j)))))
    ∧ (∀ (c : CtxN) (f : StepF), issues s c.val 0x51 f → stepAddr (getCtx (spent s c.val) c.val) f % 2 ^ f.sz.val = 0 → stepAddr (getCtx (spent s
      c.val) c.val) f + 2 ^ f.sz.val ≤ scratchSize (getCtx (spent s c.val) c.val) → exec (.stepSst c f) s = .next (stepDone s c.val fun k => { k with scratch := (List.range (2 ^ f.sz.val)).foldl (fun m j => put m (stepAddr (getCtx (spent s c.val) c.val) f + j) (nth 0 (le (2 ^ f.sz.val) (reg k f.rb.val)) j)) k.scratch }))
    ∧ (∀ (c : CtxN) (f : StepF) (u : State), issues s c.val 0x58 f → ([(stepAddr (getCtx s c.val) f, 2 ^ f.sz.val)]).find? (fun e => e.1 % e.2 != 0)
      = none → presentAll (spent s c.val) c.val 0x58 f ((([⟨stepAddr (getCtx s c.val) f, 2 ^ f.sz.val, false⟩] : List Touch).flatMap fun t =>
      (touchGranules t).map fun a => (a, t.write)).mergeSort fun a b => decide (a.1 ≤ b.1)) = (u, none) → exec (.stepLd c f) s = .next (startPend u
      c.val { pendInit 0x58 f with accs := [lineAccess u (getCtx u c.val) 0x58 f (stepAddr (getCtx s c.val) f)], addr := stepAddr (getCtx s c.val) f }))
    ∧ (∀ (c : CtxN) (f : StepF) (u : State), issues s c.val 0x59 f → ([(stepAddr (getCtx s c.val) f, 2 ^ f.sz.val)]).find? (fun e => e.1 % e.2 != 0)
      = none → presentAll (spent s c.val) c.val 0x59 f ((([⟨stepAddr (getCtx s c.val) f, 2 ^ f.sz.val, true⟩] : List Touch).flatMap fun t =>
      (touchGranules t).map fun a => (a, t.write)).mergeSort fun a b => decide (a.1 ≤ b.1)) = (u, none) → exec (.stepSt c f) s = .next (startPend u
      c.val { pendInit 0x59 f with accs := [storeAcc u (getCtx u c.val) 0x59 f (stepAddr (getCtx s c.val) f) (2 ^ f.sz.val) (reg (getCtx u c.val) f.rb.val)], addr := stepAddr (getCtx s c.val) f }))
    ∧ (∀ (c : CtxN) (f : StepF) (u : State), issues s c.val 0x5A f → ([(reg (getCtx s c.val) f.ra.val, 64), (reg (getCtx s c.val) f.rb.val,
      64)]).find? (fun e => e.1 % e.2 != 0) = none → presentAll (spent s c.val) c.val 0x5A f ((([⟨reg (getCtx s c.val) f.rb.val, 64 * lineCount f,
      false⟩, ⟨reg (getCtx s c.val) f.ra.val, 64 * lineCount f, true⟩] : List Touch).flatMap fun t => (touchGranules t).map fun a => (a,
      t.write)).mergeSort fun a b => decide (a.1 ≤ b.1)) = (u, none) → exec (.stepLcopy c f) s = .next (startPend u c.val { pendInit 0x5A f with accs := copyAccs u (getCtx u c.val) 0x5A f (reg (getCtx s c.val) f.ra.val) (reg (getCtx s c.val) f.rb.val) (lineCount f), addr := reg (getCtx s c.val) f.rb.val }))
    ∧ (∀ (c : CtxN) (f : StepF) (u : State), issues s c.val 0x5B f → ([(reg (getCtx s c.val) f.ra.val, 64)]).find? (fun e => e.1 % e.2 != 0) = none →
      presentAll (spent s c.val) c.val 0x5B f ((([⟨reg (getCtx s c.val) f.ra.val, 64 * lineCount f, true⟩] : List Touch).flatMap fun t =>
      (touchGranules t).map fun a => (a, t.write)).mergeSort fun a b => decide (a.1 ≤ b.1)) = (u, none) → exec (.stepLfill c f) s = .next (startPend
      u c.val { pendInit 0x5B f with accs := (List.range (lineCount f)).map fun i => { lineAccess u (getCtx u c.val) 0x5B f (reg (getCtx s c.val) f.ra.val + 64 * i) with write := true, be := 2 ^ 64 - 1, data := (List.replicate 8 (le 8 (reg (getCtx u c.val) f.rb.val))).flatten }, addr := reg (getCtx s c.val) f.ra.val }))
    ∧ (∀ (c : CtxN) (f : StepF) (u : State), issues s c.val 0x5C f → ([(reg (getCtx s c.val) f.ra.val, 64), (reg (getCtx s c.val) f.rb.val,
      64)]).find? (fun e => e.1 % e.2 != 0) = none → presentAll (spent s c.val) c.val 0x5C f ((([⟨reg (getCtx s c.val) f.ra.val, 64 * lineCount f,
      false⟩, ⟨reg (getCtx s c.val) f.rb.val, 64 * lineCount f, false⟩] : List Touch).flatMap fun t => (touchGranules t).map fun a => (a,
      t.write)).mergeSort fun a b => decide (a.1 ≤ b.1)) = (u, none) → exec (.stepLcmp c f) s = .next (startPend u c.val { pendInit 0x5C f with accs := readLines u (getCtx u c.val) 0x5C f (reg (getCtx s c.val) f.ra.val) (lineCount f) ++ readLines u (getCtx u c.val) 0x5C f (reg (getCtx s c.val) f.rb.val) (lineCount f), addr := reg (getCtx s c.val) f.ra.val }))
    ∧ (∀ (c : CtxN) (f : StepF) (u : State), issues s c.val 0x60 f → ([(reg (getCtx s c.val) f.ra.val, (if f.sz.val = 2 then 4 else 8))]).find? (fun
      e => e.1 % e.2 != 0) = none → presentAll (spent s c.val) c.val 0x60 f ((([⟨reg (getCtx s c.val) f.ra.val, (if f.sz.val = 2 then 4 else 8),
      true⟩] : List Touch).flatMap fun t => (touchGranules t).map fun a => (a, t.write)).mergeSort fun a b => decide (a.1 ≤ b.1)) = (u, none) → exec
      (.stepAadd c f) s = .next (startPend u c.val { pendInit 0x60 f with accs := [{ lineAccess u (getCtx u c.val) 0x60 f (reg (getCtx s c.val) f.ra.val) with write := true, atomic := some (.fetchAdd, (if f.sz.val = 2 then .w32 else .w64), reg (getCtx u c.val) f.rb.val, 0) }], addr := reg (getCtx s c.val) f.ra.val }))
    ∧ (∀ (c : CtxN) (f : StepF) (u : State), issues s c.val 0x61 f → ([(reg (getCtx s c.val) f.ra.val, (if f.sz.val = 2 then 4 else 8))]).find? (fun
      e => e.1 % e.2 != 0) = none → presentAll (spent s c.val) c.val 0x61 f ((([⟨reg (getCtx s c.val) f.ra.val, (if f.sz.val = 2 then 4 else 8),
      true⟩] : List Touch).flatMap fun t => (touchGranules t).map fun a => (a, t.write)).mergeSort fun a b => decide (a.1 ≤ b.1)) = (u, none) → exec
      (.stepAswp c f) s = .next (startPend u c.val { pendInit 0x61 f with accs := [{ lineAccess u (getCtx u c.val) 0x61 f (reg (getCtx s c.val) f.ra.val) with write := true, atomic := some (.swap, (if f.sz.val = 2 then .w32 else .w64), reg (getCtx u c.val) f.rb.val, 0) }], addr := reg (getCtx s c.val) f.ra.val }))
    ∧ (∀ (c : CtxN) (f : StepF) (u : State), issues s c.val 0x62 f → ([(reg (getCtx s c.val) f.ra.val, (if f.sz.val = 2 then 4 else 8))]).find? (fun
      e => e.1 % e.2 != 0) = none → presentAll (spent s c.val) c.val 0x62 f ((([⟨reg (getCtx s c.val) f.ra.val, (if f.sz.val = 2 then 4 else 8),
      true⟩] : List Touch).flatMap fun t => (touchGranules t).map fun a => (a, t.write)).mergeSort fun a b => decide (a.1 ≤ b.1)) = (u, none) → exec
      (.stepAcas c f) s = .next (startPend u c.val { pendInit 0x62 f with accs := [{ lineAccess u (getCtx u c.val) 0x62 f (reg (getCtx s c.val) f.ra.val) with write := true, atomic := some (.cas, (if f.sz.val = 2 then .w32 else .w64), reg (getCtx u c.val) f.rb.val, reg (getCtx u c.val) f.rc.val) }], addr := reg (getCtx s c.val) f.ra.val }))
    ∧ (∀ (c : CtxN) (f : StepF) (u : State), issues s c.val 0x63 f → ([(reg (getCtx s c.val) f.ra.val, 16)]).find? (fun e => e.1 % e.2 != 0) = none →
      presentAll (spent s c.val) c.val 0x63 f ((([⟨reg (getCtx s c.val) f.ra.val, 16, true⟩] : List Touch).flatMap fun t => (touchGranules t).map fun
      a => (a, t.write)).mergeSort fun a b => decide (a.1 ≤ b.1)) = (u, none) → exec (.stepAcas128 c f) s = .next (startPend u c.val { pendInit 0x63 f with accs := [{ lineAccess u (getCtx u c.val) 0x63 f (reg (getCtx s c.val) f.ra.val) with write := true, atomic := some (.cas, .w128, regPair (getCtx u c.val) f.rb.val, regPair (getCtx u c.val) f.rc.val) }], addr := reg (getCtx s c.val) f.ra.val }))
    ∧ (∀ (c : CtxN) (f : StepF) (fn : Nat), issues s c.val 0x68 f → stepAddr (getCtx (spent s c.val) c.val) f % 2 ^ f.sz.val = 0 → fnOpen (spent s
      c.val) (getCtx (spent s c.val) c.val).inst = some fn → exec (.stepXld c f) s = .next (hostFetch (spent s c.val) c.val fn (stepAddr (getCtx
      (spent s c.val) c.val) f) (2 ^ f.sz.val) { pendInit 0x68 f with addr := stepAddr (getCtx (spent s c.val) c.val) f }))
    ∧ (∀ (c : CtxN) (f : StepF) (fn : Nat), issues s c.val 0x69 f → stepAddr (getCtx (spent s c.val) c.val) f % 2 ^ f.sz.val = 0 → fnOpen (spent s
      c.val) (getCtx (spent s c.val) c.val).inst = some fn → exec (.stepXst c f) s = .next (startPend (emit (spent s c.val) (.hostWrite fn (stepAddr
      (getCtx (spent s c.val) c.val) f) (le (2 ^ f.sz.val) (reg (getCtx (spent s c.val) c.val) f.rb.val)))) c.val { pendInit 0x69 f with addr := stepAddr (getCtx (spent s c.val) c.val) f }))
    ∧ (∀ (c : CtxN) (f : StepF) (fn : Nat) (x u : State), issues s c.val 0x6A f → x = spent s c.val → reg (getCtx x c.val) f.ra.val % 64 = 0 → reg
      (getCtx x c.val) f.rb.val % 64 = 0 → fnOpen x (getCtx x c.val).inst = some fn → bit f.imm.toNat 16 = false → presentAll x c.val 0x6A f
      ((touchGranules ⟨reg (getCtx x c.val) f.rb.val, 64 * lineCount f, true⟩).map fun g => (g, true)) = (u, none) → exec (.stepXcpy c f) s = .next
      (hostFetch u c.val fn (reg (getCtx x c.val) f.ra.val) (64 * lineCount f) { pendInit 0x6A f with addr := reg (getCtx x c.val) f.rb.val }))
    ∧ (∀ (c : CtxN) (f : StepF) (fn : Nat) (x u : State), issues s c.val 0x6A f → x = spent s c.val → reg (getCtx x c.val) f.ra.val % 64 = 0 → reg
      (getCtx x c.val) f.rb.val % 64 = 0 → fnOpen x (getCtx x c.val).inst = some fn → bit f.imm.toNat 16 = true → presentAll x c.val 0x6A f
      ((touchGranules ⟨reg (getCtx x c.val) f.rb.val, 64 * lineCount f, false⟩).map fun g => (g, false)) = (u, none) → exec (.stepXcpy c f) s = .next
      (startPend u c.val { pendInit 0x6A f with accs := readLines u (getCtx u c.val) 0x6A f (reg (getCtx x c.val) f.rb.val) (lineCount f), addr := reg (getCtx x c.val) f.rb.val }))
    ∧ (∀ (c : CtxN) (f : StepF) (u : State), issues s c.val 0x70 f → ([(reg (getCtx s c.val) f.ra.val, 2 ^ f.sz.val)]).find? (fun e => e.1 % e.2 !=
      0) = none → presentAll (spent s c.val) c.val 0x70 f ((([⟨reg (getCtx s c.val) f.ra.val, 2 ^ f.sz.val, false⟩] : List Touch).flatMap fun t =>
      (touchGranules t).map fun a => (a, t.write)).mergeSort fun a b => decide (a.1 ≤ b.1)) = (u, none) → exec (.stepHld c f) s = .next (startPend u
      c.val { pendInit 0x70 f with accs := [{ lineAccess u (getCtx u c.val) 0x70 f (reg (getCtx s c.val) f.ra.val) with own := true }], addr := reg (getCtx s c.val) f.ra.val }))
    ∧ (∀ (c : CtxN) (f : StepF) (u : State), issues s c.val 0x71 f → ([(reg (getCtx s c.val) f.ra.val, 2 ^ f.sz.val)]).find? (fun e => e.1 % e.2 !=
      0) = none → presentAll (spent s c.val) c.val 0x71 f ((([⟨reg (getCtx s c.val) f.ra.val, 2 ^ f.sz.val, true⟩] : List Touch).flatMap fun t =>
      (touchGranules t).map fun a => (a, t.write)).mergeSort fun a b => decide (a.1 ≤ b.1)) = (u, none) → exec (.stepHcmt c f) s = .next (startPend u
      c.val { pendInit 0x71 f with accs := [storeAcc u (getCtx u c.val) 0x71 f (reg (getCtx s c.val) f.ra.val) (2 ^ f.sz.val) (if f.sz.val = 4 then reg (getCtx u c.val) f.rb.val + 2 ^ 64 * reg (getCtx u c.val) (f.rb.val + 1) else reg (getCtx u c.val) f.rb.val)], addr := reg (getCtx s c.val) f.ra.val }))

/-- The system operations of the firmware's contexts (R275, Table 12-9): a back-invalidation snoop of a holder is sent and waited for, a bitmap swap,
a counter into RD, a remap entry and its cut-over lock, a heat-table entry read or written, and a device notice. -/
def Obligations.SystemStepsComplete : Prop :=
  ∀ s : State,
    (∀ (c : CtxN) (f : StepF) (p : PortN) (key : LineN), issues s c.val 0x78 f → (holders (spent s c.val) key.toNat (getLine (spent s c.val)
      key.toNat)).contains p.val = true → linkUp (spent s c.val) p.val = true → exec (.stepBisnp c f p key) s = .next (startPend (sendSnoop (spent s
      c.val) key.toNat p.val .inv) c.val { pendInit 0x78 f with snoop := some (p.val, key.toNat) }))
    ∧ (∀ (c : CtxN) (f : StepF) (i : InstN), issues s c.val 0x79 f → exec (.stepDlswap c f i) s = .next (if (getDirty (stepped s c.val)
      i.val).logging then setDirty (stepped s c.val) i.val { getDirty (stepped s c.val) i.val with active := (getDirty (stepped s c.val) i.val).frozen, frozen := (getDirty (stepped s c.val) i.val).active }
      else stepped s c.val))
    ∧ (∀ (c : CtxN) (f : StepF) (u : UnitN) (n : Byte), issues s c.val 0x7A f → exec (.stepCntrd c f u n) s = .next (stepDone s c.val fun k => setReg
      k f.rd.val (readCounter s u.val (n.toNat % 32))))
    ∧ (∀ (c : CtxN) (f : StepF) (g : GranN) (take : Bool) (dest : BitVec 36), issues s c.val 0x7B f → exec (.stepRmap c f g take dest) s = .next
      (remapWrite (stepped s c.val) g.toNat take dest.toNat))
    ∧ (∀ (c : CtxN) (f : StepF) (g : GranN), issues s c.val 0x7C f → exec (.stepHeat c f g none) s = .next (stepDone s c.val fun k => setReg k
      f.rd.val (heatWord g.toNat (getHeat s (keyTile g.toNat) g.toNat))))
    ∧ (∀ (c : CtxN) (f : StepF) (g : GranN) (w : BitVec 64) (u : State), issues s c.val 0x7C f → heatRoom (stepped s c.val) (keyTile g.toNat) g.toNat
      = some u → exec (.stepHeat c f g (some w)) s = .next (setHeat u (keyTile g.toNat) g.toNat { heat := bits w.toNat 27 16, place := bits w.toNat 15 14, samples := bits w.toNat 11 0 }))
    ∧ (∀ (c : CtxN) (f : StepF) (i : InstN) (kind : BitVec 16) (ps : List Byte), issues s c.val 0x7D f → 1 ≤ kind.toNat → kind.toNat ≤ 0xFF → exec
      (.stepNotify c f i kind ps) s = .next (postDevice (stepped s c.val) i.val kind.toNat ps))

/-- The engines' commands (R236 to R257): an invocation starts, bindings are written, a reply of memory completes its step, a timer raises event 25,
a wait cycle is broken, an engine fails, leaves and returns, its check ends, a context moves back, a table is loaded, unloaded and times out, and a
context is stopped. -/
def Obligations.GeckoCommandsComplete : Prop :=
  ∀ s : State,
    (∀ (c : CtxN), canStart s c.val = true → bindKind (bindRec s c.val) = 1 → exec (.invocationStart c none) s = .next (takeInvocation s c.val))
    ∧ (∀ (c : CtxN) (x : VendorWork) (ver b : Nat), canStart s c.val = true → s.gecko.swapping.contains (ctxCluster c.val) = false → c.val % 128 < 64
      → bindKind (bindRec s c.val) = 2 → tableFor s c.val x.inst.val x.table.val = some (ver, b) → exec (.invocationStart c (some x)) s = .next
      (beginInvocation s c.val x.table.val x.inst.val false x.atom false 0 0 ver b (x.args.map (·.toNat))))
    ∧ (∀ (r : Requester) (e : EngineN) (a : Fin 64) (v : List Byte) (u : State), chunkAccepted s r 0x8000 7 e.val → v.length % 8 = 0 →
      Machine.bindingsWrite s e.val a.val (recordsOf 8 v) = (u, .ok) → exec (.bindingsWrite r e a v) s = .next (chunkAnswered (u) 0x8000 7 e.val
      .ok))
    ∧ (∀ (c : CtxN) (d : List Byte) (p : Pend), (getCtx s c.val).pend = some p → p.host = none → p.snoop = none → p.ready = true → p.op ≠ 0x6A → exec
      (.memoryReply c d 0) s = .next (finishStep s c.val p))
    ∧ (∀ (c : CtxN) (d : List Byte) (p : Pend) (tag a n fn : Nat), (getCtx s c.val).pend = some p → p.host = some (tag, a, n) → p.op ≠ 0x6A → instFn
      s (getCtx s c.val).inst = some fn → exec (.memoryReply c d 0) s = .next (finishStep (setFn s fn { getFn s fn with reads := (getFn s fn).reads.filter (· != (c.val, tag)) })
      c.val { p with bytes := padTo d n, host := none }))
    ∧ (∀ (c : CtxN) (d : List Byte) (p : Pend) (q k : Nat), (getCtx s c.val).pend = some p → p.host = none → p.snoop = some (q, k) → (getLine s
      k).snoops.any (fun e => e.1 == q) = false → exec (.memoryReply c d 0) s = .next (finishStep s c.val { p with snoop := none }))
    ∧ (∀ (c : CtxN) (n : Nat), (getCtx s c.val).timer = some n → exec (.timerExpiry c) s = .next (raiseExt (setCtx s c.val { getCtx s c.val with timer := none })
      c.val 25))
    ∧ (∀ (cl : ClusterN) (g : Byte) (y : Nat × Ctx) (l : List (Nat × Ctx)), g.toNat < 0xFE → inWaitCycle s cl.val g.toNat = true → ((groupRunning
      (bump s 0x8010 4 (32 * cl.val) 32 1) cl.val g.toNat).mergeSort fun a b => decide (b.2.start ≤ a.2.start)) = y :: l → exec (.waitCycle cl g) s =
      .next (raiseEv (stepFault (clusterEvent (bump (bump s 0x8010 4 (32 * cl.val) 32 1) 0x8010 5 (32 * cl.val) 32 1) cl.val 0x2A 1 (ctxInst (getCtx
      s y.1))) y.1 9 0 0) (clusterSource cl.val) 13 .fault 0 [g.toNat, y.1] true))
    ∧ (∀ (e : EngineN) (l : List Nat) (w u : State), engineOn s e.val = true → l = (hosted s e.val).filter (fun c => (getCtx s c).pend.isSome &&
      (look [] s.gecko.replay e.val).contains (c, (getCtx s c).start, (getCtx s c).steps)) → w = l.foldl (fun a c => clusterEvent a (e.val / 32) 0x29
      1 (ctxInst (getCtx a c))) s → moveContexts (bump (wr w 0x8000 2 e.val 2) 0x8000 5 e.val 32 1) e.val = (u, true) → exec (.engineFailure e) s =
      .next (raise u (clusterSource (e.val / 32)) 3 .fault []))
    ∧ (∀ (r : Requester) (e : EngineN), accepted s r 0x8000 1 e.val [0] → engineOn s e.val = true → (hosted s e.val).length ≤ (failoverSlots s
      e.val).length → exec (.engineOutOfService r e) s = .next (answered ((moveContexts (wr (wr s 0x8000 1 e.val 0) 0x8000 2 e.val 0) e.val).1)
      0x8000 1 e.val .ok))
    ∧ (∀ (r : Requester) (e : EngineN), accepted s r 0x8000 1 e.val [1] → rd s 0x8000 2 e.val = 0 → exec (.engineReturn r e) s = .next (answered
      (engineReturns (wr s 0x8000 1 e.val 1) e.val) 0x8000 1 e.val .ok))
    ∧ (∀ (r : Requester) (e : EngineN), accepted s r 0x8000 1 e.val [1] → rd s 0x8000 2 e.val = 2 → exec (.engineReturn r e) s = .next (answered ({ wr s 0x8000 1 e.val 1 with gecko := { s.gecko with checking := s.gecko.checking.filter (· != e.val) ++ [e.val] } })
      0x8000 1 e.val .ok))
    ∧ (∀ (e : EngineN), (s.gecko.checking.contains e.val) = true → exec (.builtInCheckComplete e true) s = .next (engineReturns { s with gecko := { s.gecko with checking := s.gecko.checking.filter (· != e.val) } }
      e.val))
    ∧ (∀ (e : EngineN), (s.gecko.checking.contains e.val) = true → exec (.builtInCheckComplete e false) s = .next (raise { s with gecko := { s.gecko with checking := s.gecko.checking.filter (· != e.val) } }
      (clusterSource (e.val / 32)) 25 .notice []))
    ∧ (∀ (c : CtxN), (getCtx s c.val).engine ≠ c.val / 128 → engineOn s (c.val / 128) = true → exec (.contextMoveBack c) s = .next (setCtx s c.val { getCtx s c.val with engine := c.val / 128, slot := c.val % 128 }))
    ∧ (∀ (r : Requester) (o : BitVec 16) (u : State) (code i : Nat), accepted s r 0x8110 2 0 (be 2 o.toNat) → o.toNat < 4096 → loadImage s o.toNat
      s.gecko.staging = (u, code, i) → exec (.tableLoad r o) s = .next (answered (cmdDone u 0x8110 2 0 code) 0x8110 2 0 .ok))
    ∧ (∀ (r : Requester) (tb : TableN) (t : StepTable), accepted s r 0x8100 11 tb.val [1] → 512 ≤ tb.val → getTable s tb.val = some t → exec
      (.tableUnload r tb) s = .next (answered (dropTables (wr (cmdStart s 0x8100 11 tb.val) 0x8100 1 tb.val 4)) 0x8100 11 tb.val .ok))
    ∧ (∀ (tb : TableN), rd s 0x8100 1 tb.val = 4 → exec (.unloadTimeout tb) s = .next (((s.gecko.ctxs.filter fun e => running e.2 && e.2.st != 6 &&
      e.2.table == tb.val).map (·.1)).foldl (fun a c => endInvocation a c 0x0B) s))
    ∧ (∀ (r : Requester) (e : EngineN) (v : Byte), accepted s r 0x8001 1 e.val (be 4 v.toNat) → v.toNat < 64 ∨ (v.toNat < 68 ∧ r = .vendor) → exec
      (.stopContext r e v) s = .next (answered (cmdDone (stopRun s (e.val * 128 + v.toNat)) 0x8001 1 e.val 0) 0x8001 1 e.val .ok))

/-- The FM API over MCTP or the mailbox of the manager's function (R40, R98, R145, R146, R148, Tables 2-14 and 5-13): on an open path each command
reads or writes the objects that it stands for, or is forwarded, and answers Success with its output; an opcode outside the list is answered
Unsupported. -/
def Obligations.FmApiCommandsComplete : Prop :=
  ∀ s : State,
    (∀ (via : FmPath) (x : State), fmOpen s via = true → x = (if via = .mctp then hldWake s .mctp else s) → exec (.identifySwitchDevice via) s =
      .next (fmReads x via 0x5100 ((configPorts x).flatMap fun p => [(0x2000, 1, p), (0x2010, 2, p)])))
    ∧ (∀ (via : FmPath) (x : State) (ps : List PortN), fmOpen s via = true → x = (if via = .mctp then hldWake s .mctp else s) → exec
      (.getPhysicalPortState via ps) s = .next (fmReads x via 0x5101 (ps.flatMap fun p => [(0x2000, 1, p.val), (0x2010, 2, p.val), (0x2010, 3,
      p.val), (0x2010, 4, p.val), (0x2010, 5, p.val), (0x2010, 6, p.val)])))
    ∧ (∀ (via : FmPath) (x : State) (p : PortN) (op : PortOp) (u : State), fmOpen s via = true → x = (if via = .mctp then hldWake s .mctp else s) →
      portControl x p.val op = (u, .ok) → exec (.physicalPortControl via p op) s = .next (fmReply u via 0 []))
    ∧ (∀ (via : FmPath) (x : State) (p : PortN) (q : CfgReq), fmOpen s via = true → x = (if via = .mctp then hldWake s .mctp else s) → (readItem x
      .manager (fmItem 0x2000 1 p.val)).1 = .ok → q.write = none → exec (.sendPpbCxlIoConfigurationRequest via p q) s = .next (fmReply x via 0 (le 4
      (mergeDword 0 (ppbRead x p.val q.reg.toNat) q.be.toNat))))
    ∧ (∀ (via : FmPath) (x : State) (p : PortN) (q : CfgReq) (w : BitVec 32), fmOpen s via = true → x = (if via = .mctp then hldWake s .mctp else s)
      → (readItem x .manager (fmItem 0x2000 1 p.val)).1 = .ok → q.write = some w → exec (.sendPpbCxlIoConfigurationRequest via p q) s = .next
      (fmReply (ppbWrite x p.val q.reg.toNat (mergeDword (ppbRead x p.val q.reg.toNat) w.toNat q.be.toNat)) via 0 []))
    ∧ (∀ (via : FmPath) (x : State) (p : PortN) (q : CfgReq) (w : BitVec 32), fmOpen s via = true → x = (if via = .mctp then hldWake s .mctp else s)
      → (readItem x .manager (fmItem 0x2000 1 p.val)).1 = .ok → q.write = some w → capAt (q.reg.toNat / 4 % 1024) = none → exec
      (.sendPpbCxlIoConfigurationRequest via p q) s = .next (fmReply { x with ppb := put x.ppb (1024 * p.val + q.reg.toNat / 4 % 1024) (mergeDword (ppbRead x p.val q.reg.toNat) w.toNat q.be.toNat) }
      via 0 []))
    ∧ (∀ (via : FmPath) (x : State) (p : PortN), fmOpen s via = true → x = (if via = .mctp then hldWake s .mctp else s) → exec
      (.getVirtualCxlSwitchInfo via p) s = .next (fmTable x via 0x5200 0x2330 1 p.val 0 64))
    ∧ (∀ (via : FmPath) (x : State) (p : PortN) (v : VppbN) (d : PortN) (l : Byte) (u : State), fmOpen s via = true → x = (if via = .mctp then
      hldWake s .mctp else s) → fmChunk x 0x2330 1 p.val v.val (be 4 (b2n true * 2 ^ 31 + l.toNat * 65536 + d.val)) = (u, .ok) → exec (.bindVppb via
      p v d l) s = .next (fmReply u via 0 []))
    ∧ (∀ (via : FmPath) (x : State) (p : PortN) (v : VppbN) (u : State), fmOpen s via = true → x = (if via = .mctp then hldWake s .mctp else s) →
      fmChunk x 0x2330 1 p.val v.val (be 4 (b2n false * 2 ^ 31 + 0xFF * 65536 + 0)) = (u, .ok) → exec (.unbindVppb via p v) s = .next (fmReply u via
      0 []))
    ∧ (∀ (via : FmPath) (x : State) (p : PortN) (v : VppbN) (e : BitVec 32), fmOpen s via = true → x = (if via = .mctp then hldWake s .mctp else s) →
      (readItem x .manager (fmItem 0x2000 1 p.val)).1 = .ok → exec (.generateAerEvent via p v e) s = .next (fmReply (emit x (.aer p.val v.val
      e.toNat)) via 0 []))
    ∧ (∀ (via : FmPath) (x : State) (p : PortN) (b : List Byte), fmOpen s via = true → x = (if via = .mctp then hldWake s .mctp else s) → (readItem x
      .manager (fmItem 0x2300 1 p.val)).1 = .ok → exec (.tunnelManagementCommand via p b) s = .next (fmReply (freeNext (emit x (.tunnel p.val b)))
      via 0 (deviceAnswer x 0x5300)))
    ∧ (∀ (via : FmPath) (x : State) (p : PortN) (l : LdN) (q : CfgReq), fmOpen s via = true → x = (if via = .mctp then hldWake s .mctp else s) →
      (readItem x .manager (fmItem 0x2300 1 p.val)).1 = .ok → exec (.sendLdCxlIoConfigurationRequest via p l q) s = .next (fmReply (freeNext (emit x
      (.ldConfig p.val l.val q))) via 0 (deviceAnswer x 0x5301)))
    ∧ (∀ (via : FmPath) (x : State) (p : PortN) (l : LdN) (q : MemReq), fmOpen s via = true → x = (if via = .mctp then hldWake s .mctp else s) →
      (readItem x .manager (fmItem 0x2300 1 p.val)).1 = .ok → exec (.sendLdCxlIoMemoryRequest via p l q) s = .next (fmReply (freeNext (emit x
      (.ldMemory p.val l.val q))) via 0 (deviceAnswer x 0x5302)))
    ∧ (∀ (via : FmPath) (x : State), fmOpen s via = true → x = (if via = .mctp then hldWake s .mctp else s) → exec (.getLdInfo via) s = .next
      (fmReply x via 0 (Config.fmBytes (0x5400 :: (List.range 64).flatMap (ldNumbers x)))))
    ∧ (∀ (via : FmPath) (x : State) (p : PortN), fmOpen s via = true → x = (if via = .mctp then hldWake s .mctp else s) → (readItem x .manager
      (fmItem 0x2000 1 p.val)).1 = .ok → exec (.getLdAllocations via p) s = .next (fmReply x via 0 (Config.fmBytes (0x5401 :: ldNumbers x p.val))))
    ∧ (∀ (via : FmPath) (x : State) (p : PortN) (l : LdN) (b : List Byte) (i : Nat), fmOpen s via = true → x = (if via = .mctp then hldWake s .mctp
      else s) → ldInst x p.val l.val = some i → exec (.setLdAllocations via p l b) s = .next (fmReply (fmStore x (allocKey p.val l.val) b) via 0 b))
    ∧ (∀ (via : FmPath) (x : State) (p : PortN), fmOpen s via = true → x = (if via = .mctp then hldWake s .mctp else s) → (readItem x .manager
      (fmItem 0x2300 2 p.val)).1 = .ok → exec (.getQosControl via p) s = .next (fmReply x via 0 (be 1 (rd x 0x2300 2 p.val) ++ be 1 (rd x 0x2300 3
      p.val) ++ fmStored x (ctlKey p.val))))
    ∧ (∀ (via : FmPath) (x : State) (p : PortN) (a b : Byte) (rest : List Byte) (u : State), fmOpen s via = true → x = (if via = .mctp then hldWake s
      .mctp else s) → fmWrites x (if a.toNat < rd x 0x2300 3 p.val then [(0x2300, 2, p.val, [a]), (0x2300, 3, p.val, [b])] else [(0x2300, 3, p.val,
      [b]), (0x2300, 2, p.val, [a])]) = (u, .ok) → exec (.setQosControl via p a b rest) s = .next (fmReply (fmStore u (ctlKey p.val) rest) via 0 (a
      :: b :: rest)))
    ∧ (∀ (via : FmPath) (x : State) (p : PortN), fmOpen s via = true → x = (if via = .mctp then hldWake s .mctp else s) → (readItem x .manager
      (fmItem 0x2300 2 p.val)).1 = .ok → exec (.getQosStatus via p) s = .next (fmReply (freeNext x) via 0 (be 1 (if presentedOn x p.val = [] then 0
      else Config.freeValue x.free % 101))))
    ∧ (∀ (via : FmPath) (x : State) (p : PortN) (l : LdN) (i : Nat), fmOpen s via = true → x = (if via = .mctp then hldWake s .mctp else s) → ldInst
      x p.val l.val = some i → exec (.getQosAllocatedBw via p l) s = .next (fmReply x via 0 [(fmStored x (bwKey p.val l.val)).headD 0]))
    ∧ (∀ (via : FmPath) (x : State) (p : PortN) (l : LdN) (k : Byte) (u : State), fmOpen s via = true → x = (if via = .mctp then hldWake s .mctp else
      s) → allocatedBw x p.val l.val k.toNat = (u, .ok) → exec (.setQosAllocatedBw via p l k) s = .next (fmReply u via 0 [k]))
    ∧ (∀ (via : FmPath) (x : State) (p : PortN) (l : LdN) (i : Nat), fmOpen s via = true → x = (if via = .mctp then hldWake s .mctp else s) → ldInst
      x p.val l.val = some i → exec (.getQosBwLimit via p l) s = .next (fmReply x via 0 [(fmStored x (limitKey p.val l.val)).headD 0]))
    ∧ (∀ (via : FmPath) (x : State) (p : PortN) (l : LdN) (k : Byte) (u : State), fmOpen s via = true → x = (if via = .mctp then hldWake s .mctp else
      s) → bwLimit x p.val l.val k.toNat = (u, .ok) → exec (.setQosBwLimit via p l k) s = .next (fmReply u via 0 [k]))
    ∧ (∀ (via : FmPath) (x : State), fmOpen s via = true → x = (if via = .mctp then hldWake s .mctp else s) → exec (.getDcdInfo via) s = .next
      (fmReply x via 0 (Config.fmBytes [0x5600, 4096, 8, 262144])))
    ∧ (∀ (via : FmPath) (x : State) (i : InstN), fmOpen s via = true → x = (if via = .mctp then hldWake s .mctp else s) → exec
      (.getHostDcRegionConfiguration via i) s = .next (fmTable x via 0x5601 0x4120 1 0 (8 * i.val) 8))
    ∧ (∀ (via : FmPath) (x : State) (i : InstN) (g : Fin 8) (b : List Byte) (u : State), fmOpen s via = true → x = (if via = .mctp then hldWake s
      .mctp else s) → fmChunk x 0x4120 1 0 (8 * i.val + g.val) b = (u, .ok) → exec (.setDcRegionConfiguration via i g b) s = .next (fmReply u via 0
      []))
    ∧ (∀ (via : FmPath) (x : State) (i : InstN), fmOpen s via = true → x = (if via = .mctp then hldWake s .mctp else s) → (readItem x .manager
      (fmItem 0x5000 1 i.val)).1 = .ok → exec (.getDcdExtentLists via i) s = .next (fmReply x via 0 (Config.fmBytes (0x5603 :: (instExtents x
      i.val).flatMap fun e => [e, (getExt x e).offset, extBytes (getExt x e)]))))
    ∧ (∀ (via : FmPath) (x : State) (qs : List (List Byte)) (u : State), fmOpen s via = true → x = (if via = .mctp then hldWake s .mctp else s) → qs
      ≠ [] → fmWrites x (qs.map fun v => (0x4110, 1, 0, v)) = (u, .ok) → exec (.initiateDynamicCapacityAdd via qs) s = .next (fmReply u via (if
      cmdRunning u 0x4110 1 0 = true then 1 else 0) []))
    ∧ (∀ (via : FmPath) (x : State) (es : List ExtentN) (k : Bool) (u : State), fmOpen s via = true → x = (if via = .mctp then hldWake s .mctp else
      s) → es ≠ [] → fmWrites x (es.map fun e => (0x4100 + e.val / 65536, 3, e.val % 65536, be 4 (b2n k))) = (u, .ok) → exec
      (.initiateDynamicCapacityRelease via es k) s = .next (fmReply u via (if es.any (fun e => cmdRunning u (0x4100 + e.val / 65536) 3 (e.val %
      65536)) = true then 1 else 0) []))
    ∧ (∀ (via : FmPath) (op : BitVec 16), fmOpen s via = true → fmOpcode op.toNat = false → exec (.fmApiUnsupported via op) s = .next (emit s (.fmApi
      via 3 [])))

/-- Power domains (R358 to R372): a target that the domain may take starts its entry; each block's answer moves the handshake on, delays or ends it;
the entry rests the domain when no block is waited for; a wake source wakes a domain at rest; locks, their loss and their timeouts; and Force off
of a core. -/
def Obligations.PowerDomainsComplete : Prop :=
  ∀ s : State,
    (∀ (r : Requester) (d : DomainN) (v : Byte), accepted s r 0x9000 1 d.val [v] → targetHas d.val v.toNat = true → v.toNat = 1 ∨ v.toNat = 2 →
      domNow s d.val = 0 → mayLeave s d.val = true → modeTouches s d.val = false → exec (.domainTarget r d v) s = .next (answered (startEntry (wr s
      0x9000 1 d.val v.toNat) d.val v.toNat false) 0x9000 1 d.val .ok))
    ∧ (∀ (r : Requester) (d : DomainN) (v : Byte), accepted s r 0x9000 1 d.val [v] → targetHas d.val v.toNat = true → v.toNat = 0 → domNow s d.val =
      1 → parentOff s d.val = false → exec (.domainTarget r d v) s = .next (answered (startWake (wr s 0x9000 1 d.val 0) d.val false) 0x9000 1 d.val
      .ok))
    ∧ (∀ (d : DomainN) (b : BlockId) (e : Entry), (getDom s d.val).entry = some e → e.waits.contains (blockCode b) = true → blockRefuses s d.val
      (blockCode b) = none → (∀ t k, domKind d.val ≠ .bank t k) → exec (.blockAnswer d b .ack) s = .next (setDom s d.val { getDom s d.val with entry := some { e with waits := e.waits.filter (· != blockCode b), delayed := e.delayed.filter (· != blockCode b) } }))
    ∧ (∀ (d : DomainN) (b : BlockId) (e : Entry), (getDom s d.val).entry = some e → e.waits.contains (blockCode b) = true → e.delayed.contains
      (blockCode b) = false → exec (.blockAnswer d b .delay) s = .next (setDom s d.val { getDom s d.val with entry := some { e with delayed := e.delayed ++ [blockCode b] } }))
    ∧ (∀ (d : DomainN) (b : BlockId) (e : Entry), (getDom s d.val).entry = some e → e.waits.contains (blockCode b) = true → neverRefuses (blockCode
      b) = false → exec (.blockAnswer d b .refuse) s = .next (refuseEntry s d.val (blockReason s d.val (blockCode b)) (blockCode b)))
    ∧ (∀ (d : DomainN) (b : BlockId) (e : Entry), (getDom s d.val).entry = some e → e.waits.contains (blockCode b) = true → e.delayed.contains
      (blockCode b) = true → neverRefuses (blockCode b) = false → exec (.delayTimeout d b) s = .next (refuseEntry s d.val (blockReason s d.val
      (blockCode b)) (blockCode b)))
    ∧ (∀ (d : DomainN) (e : Entry), (getDom s d.val).entry = some e → e.waits = [] → e.wakeAfter = false → exec (.domainEntryComplete d) s = .next
      (restDomain (cmdEnd s 0x9000 3 d.val 2 0) d.val e.want))
    ∧ (∀ (t : TileN) (b : Fin 4) (e : Entry), (getDom s (32 * t.val + 17 + b.val)).entry = some e → e.waits.contains (1024 + b.val) = true →
      blockRefuses s (32 * t.val + 17 + b.val) (1024 + b.val) = none → exec (.bankEmpty t b) s = .next (setDom (endLevel (emptyBank s t.val b.val)
      (0x6100 + t.val) 5) (32 * t.val + 17 + b.val) { getDom (endLevel (emptyBank s t.val b.val) (0x6100 + t.val) 5) (32 * t.val + 17 + b.val) with entry := some { e with waits := e.waits.filter (· != 1024 + b.val), delayed := e.delayed.filter (· != 1024 + b.val) } }))
    ∧ (∀ (d : DomainN) (x : WakeSrc), wakesDomain d.val x = true → domNow s d.val = 1 → parentOff s d.val = false → exec (.wakeSource d x) s = .next
      (startWake s d.val true))
    ∧ (∀ (d : DomainN), domNow s d.val = 0 → d.val = 129 → domTarget s d.val = 1 → (getDom s d.val).woken = true → mayLeave s d.val = true → exec
      (.idleTime d) s = .next (startEntry s d.val 1 true))
    ∧ (∀ (d : DomainN) (u : State), domNow s d.val = 4 → u = setDom (wr (wr (bump s 0x9000 6 d.val 32 1) 0x9000 7 d.val (rd s 0x9000 7 d.val + restMs
      s (getDom s d.val).since)) 0x9000 2 d.val 0) d.val { getDom s d.val with fromOff := false, retried := false } → exec (.pllLock d) s = .next
      (serveDomain (freeSources u (domSources u d.val)) d.val (getDom s d.val).fromOff))
    ∧ (∀ (d : DomainN), domNow s d.val = 4 → exec (.pllLockTimeout d) s = .next (raise (setDom s d.val { getDom s d.val with retried := true })
      (0x9100 + domTile d.val) 6 .fault []))
    ∧ (∀ (t : TileN) (k : Fin 11), bit (rd s 0x9101 3 t.val) k.val = true → exec (.pllLockLoss t k) s = .next (bump (wr s 0x9101 3 t.val (setBit (rd
      s 0x9101 3 t.val) k.val false)) 0x9101 4 t.val 32 1))
    ∧ (∀ (t : TileN), t.val ≠ 0 → exec (.cycleCountTrim t) s = .next (wr (freeNext s) 0x9101 5 t.val (ofSigned 32 ((Config.freeValue s.free % 5 :
      Nat) - 2))))
    ∧ (∀ (r : Requester) (d : DomainN) (t : Nat), accepted s r 0x9000 8 d.val [1] → domKind d.val = .core t → exec (.forceOff r d) s = .next
      (answered (cmdDone (Machine.forceOff s t) 0x9000 8 d.val 0) 0x9000 8 d.val .ok))

/-- Droop, temperature and rails (R371 to R377, R424): a crossing stretches its tile's clock, whose release and length are counted; 100 and 105
degrees hold the clock, 115 forces every tile OFF; a regulator's acknowledgement is the rail's new setting; lost phases, the power-good input and
the rail monitor. -/
def Obligations.TileRailsComplete : Prop :=
  ∀ s : State,
    (∀ (t : TileN) (k : Fin 64) (l : DroopLevel) (u : State), rd s 0x9200 4 t.val = 0 → u = bump { s with pwr := { s.pwr with droop := put s.pwr.droop (64 * t.val + k.val) (max (match l with | .a => 1 | .b => 2) (look 0 s.pwr.droop (64 * t.val + k.val))) } }
      0x9200 7 t.val 64 1 → exec (.droopCrossing t k l) s = .next (wr u 0x9200 4 t.val (stretchOf u t.val)))
    ∧ (∀ (t : TileN) (c n : Nat) (u : State), rd s 0x9200 4 t.val ≠ 0 → u = bump (wr { s with pwr := { s.pwr with droop := delIf s.pwr.droop fun k _ => k / 64 == t.val } }
      0x9200 4 t.val 0) 0x9200 8 t.val 64 c → exec (.stretchRelease t c n) s = .next (endLevel (wr u 0x9200 9 t.val (max (rd u 0x9200 9 t.val) (n % 2
      ^ 32))) (0x9200 + t.val) 19))
    ∧ (∀ (t : TileN), rd s 0x9200 4 t.val ≠ 0 → exec (.stretchTimeout t) s = .next (raise s (0x9200 + t.val) 19 .fault []))
    ∧ (∀ (t : TileN) (l : ThermLevel), exec (.thermalThreshold t l) s = .next (raise (showThrottle { s with pwr := { s.pwr with thermal := put s.pwr.thermal t.val (max (match l with | .c100 => 1 | .c105 => 2) (look 0 s.pwr.thermal t.val)) } }
      t.val) (0x9200 + t.val) 18 (match l with | .c100 => .notice | .c105 => .fault) []))
    ∧ (∀ (t : TileN) (u : State), look 0 s.pwr.thermal t.val ≠ 0 → u = showThrottle { s with pwr := { s.pwr with thermal := del s.pwr.thermal t.val } }
      t.val → exec (.thermalHoldEnd t) s = .next (endLevel (bump (freeNext u) 0x9200 8 t.val 64 (freeBits u 32)) (0x9200 + t.val) 18))
    ∧ (∀ (t : TileN) (u : State), u = (List.range 4).foldl Machine.forceOff s → exec (.thermalTrip t) s = .next (raise (wr { u with pwr := { u.pwr with tripped := true, thermal := [] } }
      0x9200 3 t.val 3) 0x9204 18 .critical []))
    ∧ (∀ (k : TileN) (v : Nat), (getRail s k.val).step = some v → exec (.avsAck k) s = .next (railStep (railCalm (showThrottle (setRail (wr s 0x9210
      1 k.val v) k.val { getRail s k.val with step := none, silent := false }) k.val) k.val) k.val))
    ∧ (∀ (k : TileN) (v : Nat), (getRail s k.val).step = some v → exec (.avsTimeout k) s = .next (raise (showThrottle (setRail (bump s 0x9210 7 k.val
      32 1) k.val { getRail s k.val with silent := true }) k.val) (0x9300 + k.val) 19 .fault []))
    ∧ (∀ (k : TileN) (n : Byte), exec (.phaseLost k n) s = .next (raise (railStep (setRail (wr (wr s 0x9210 5 k.val n.toNat) 0x9210 6 k.val 1) k.val
      { getRail s k.val with phaseStatus := true }) k.val) (0x9300 + k.val) 19 .fault []))
    ∧ (∀ (k : TileN) (u : State), u = railCalm (setRail (wr s 0x9210 5 k.val 0) k.val { getRail s k.val with phaseStatus := false }) k.val → exec
      (.phaseRestored k) s = .next (if ((getSource u (0x9300 + k.val)).cause 19).latched then u else railStep (wr u 0x9210 6 k.val 0) k.val))
    ∧ (∀ (t : TileN) (u : State), u = railCalm (setRail { s with pwr := { s.pwr with pwrokT := if s.pwr.pwrokT.contains t.val then s.pwr.pwrokT else s.pwr.pwrokT ++ [t.val] } }
      t.val { getRail s t.val with low := false }) t.val → domNow u (coreDom t.val) = 2 → domTarget u (coreDom t.val) = 0 → tripBars u (coreDom
      t.val) = false → mayPower u t.val = true → exec (.pwrokTRise t) s = .next (startWake u (coreDom t.val) false))
    ∧ (∀ (t : TileN), (coreDom t.val :: childDoms t.val).all (fun d => domNow s d == 2) = false → exec (.pwrokTFall t) s = .next (Machine.forceOff { s with pwr := { s.pwr with pwrokT := s.pwr.pwrokT.filter (· != t.val) } }
      t.val))
    ∧ (∀ (t : TileN), exec (.railMonitor (.tile t)) s = .next (raise (powerLost (setRail s t.val { getRail s t.val with low := true }) t.val) (0x9300
      + t.val) 19 .critical []))
    ∧ (exec (.railMonitor .shared) s = .next (raise ((List.range 4).foldl powerLost (setRail s 4 { getRail s 4 with low := true })) 0x9304 19
      .critical []))

/-- Slot controllers (R380 to R394): a target or SLOT_EN starts a slot whose conditions hold, in its stagger slot; power good turns it ON; each trip
latches its code and counts; measurements move the thermal model and the breaker; channel checks, the warning of R389 and its end, stops for input
loss, the lead's end, a completed stop and the end of the off time. -/
def Obligations.SlotCommandsComplete : Prop :=
  ∀ s : State,
    (∀ (r : Requester) (n : SlotN) (v : Byte), accepted s r 0xA000 1 n.val [v] → v.toNat = 0 → exec (.slotTarget r n v) s = .next (answered (slotOff
      s n.val true) 0xA000 1 n.val .ok))
    ∧ (∀ (r : Requester) (n : SlotN) (v : Byte) (u : State), accepted s r 0xA000 1 n.val [v] → v.toNat ≠ 0 → slotNow s n.val ≠ 6 → u = wr s 0xA000 1
      n.val 1 → mayStartSlot u n.val = true → exec (.slotTarget r n v) s = .next (answered (wr u 0xA000 2 n.val (if rd u 0xA010 1 0 = 0 then 2 else
      1)) 0xA000 1 n.val .ok))
    ∧ (∀ (r : Requester) (n : SlotN) (v : Byte) (u : State), accepted s r 0xA000 1 n.val [v] → v.toNat ≠ 0 → slotNow s n.val ≠ 6 → u = wr s 0xA000 1
      n.val 1 → mayStartSlot u n.val = false → exec (.slotTarget r n v) s = .next (answered (u) 0xA000 1 n.val .ok))
    ∧ (∀ (p : PortN) (n : Nat) (u : State), actingRole s p.val = 2 → n = rd s 0x2000 7 p.val → n < 16 → isPoolDsp s p.val = false → slotNow s n ≠ 6 →
      u = wr s 0xA000 1 n 1 → mayStartSlot u n = true → exec (.powerControllerControl p true) s = .next (wr u 0xA000 2 n (if rd u 0xA010 1 0 = 0 then
      2 else 1)))
    ∧ (∀ (p : PortN) (n : Nat), actingRole s p.val = 2 → n = rd s 0x2000 7 p.val → n < 16 → isPoolDsp s p.val = false → exec (.powerControllerControl
      p false) s = .next (slotOff s n false))
    ∧ (∀ (p : PortN) (n : Nat), actingRole s p.val = 2 → n = rd s 0x2000 7 p.val → n < 16 → isPoolDsp s p.val = false → slotNow (wr s 0xA000 1 n 0) n
      = 2 → exec (.powerControllerControl p false) s = .next (stopSlot (wr s 0xA000 1 n 0) n false))
    ∧ (∀ (n : SlotN) (l : Bool) (u : State), u = setSlot (wr s 0xA000 27 n.val 1) n.val { getSlot s n.val with en := true } → slotNow u n.val ≠ 6 →
      mayStartSlot u n.val = true → exec (.slotEnRise n l) s = .next (hldWake (wr u 0xA000 2 n.val (if rd u 0xA010 1 0 = 0 then 2 else 1))
      .slotEvent))
    ∧ (∀ (n : SlotN) (u : State), u = setSlot (wr s 0xA000 27 n.val 0) n.val { getSlot s n.val with en := false } → exec (.slotEnFall n) s = .next
      (hldWake (if slotNow u n.val = 0 ∨ slotNow u n.val = 5 ∨ slotNow u n.val = 6 then u else stopSlot u n.val false) .slotEvent))
    ∧ (∀ (n : SlotN), slotNow s n.val = 1 → exec (.slotStagger n) s = .next (wr s 0xA000 2 n.val 2))
    ∧ (∀ (n : SlotN) (e : BitVec 32), slotNow s n.val = 2 → exec (.powerGood n e) s = .next (moveSlot (wrBlob s 0xA000 22 n.val ((slotMeas s
      n.val).take 20 ++ be 4 e.toNat ++ (slotMeas s n.val).drop 24)) n.val 3 false))
    ∧ (∀ (n : SlotN), slotNow s n.val = 2 → exec (.startTimeout n) s = .next (tripSlot s n.val 4))
    ∧ (∀ (n : SlotN), fetOn s n.val = true → exec (.breakerTrip n) s = .next (tripSlot s n.val (if slotNow s n.val = 2 then 3 else 2)))
    ∧ (∀ (n : SlotN) (c : Chan), fetOn s n.val = true → bit (rd s 0xA000 23 n.val) (match c with | .a => 0 | .b => 1) = false → exec (.fastTrip n c)
      s = .next (tripSlot s n.val 1))
    ∧ (∀ (n : SlotN), fetOn s n.val = true → exec (.fetTemperatureTrip n) s = .next (tripSlot s n.val 5))
    ∧ (∀ (n : SlotN) (m : Meas), ∃ t, exec (.modelUpdate n m) s = .next t ∧ (slotMeas t n.val).take 12 = be 2 m.vin.toNat ++ be 2 m.vout.toNat ++ be
      4 m.ia.toNat ++ be 4 m.ib.toNat)
    ∧ (∀ (n : SlotN) (a b : Bool), b2n (!a || bit (rd s 0xA000 23 n.val) 0) + 2 * b2n (!b || bit (rd s 0xA000 23 n.val) 1) ≠ rd s 0xA000 23 n.val →
      b2n (!a || bit (rd s 0xA000 23 n.val) 0) + 2 * b2n (!b || bit (rd s 0xA000 23 n.val) 1) = 3 → exec (.channelCheck n a b) s = .next (tripSlot
      (wr s 0xA000 23 n.val 3) n.val 7))
    ∧ (∀ (n : SlotN) (a b : BitVec 32), rd s 0xA000 23 n.val = 0 → (rd s 0xA000 6 n.val * 5 + 500 : Nat) < (a.toInt - b.toInt).natAbs → exec
      (.channelDisagreement n a b) s = .next (hldWake (raise (setSlot (wrBlob s 0xA000 22 n.val ((slotMeas s n.val).take 4 ++ be 4 (ofSigned 32
      a.toInt) ++ be 4 (ofSigned 32 b.toInt) ++ (slotMeas s n.val).drop 12)) n.val { getSlot s n.val with disagree := true }) (slotSource n.val) 3
      .fault []) .slotEvent))
    ∧ (∀ (n : SlotN) (v : BitVec 16), exec (.slotPwrwarn n v) s = .next (warnSlot (slotSeesVin s n.val v.toNat) n.val))
    ∧ (∀ (n : SlotN), slotNow s n.val = 3 → (getSlot s n.val).warn = true → exec (.pwrwarnRecovery n) s = .next (endLevel (setSlot s n.val { getSlot s n.val with warn := false })
      (slotSource n.val) 21))
    ∧ (∀ (n : SlotN) (k : LossKind), fetOn s n.val = true → exec (.inputLoss n k) s = .next (hldWake (stopSlot (bump (if k = .overvoltage then s else
      warnSlot s n.val) 0xA000 26 n.val 32 1) n.val false) .slotEvent))
    ∧ (∀ (n : SlotN), slotNow s n.val = 4 → exec (.warningLeadEnd n) s = .next (stopSlot s n.val true))
    ∧ (∀ (n : SlotN), slotNow s n.val = 5 → exec (.stopComplete n) s = .next (tryStart (wr s 0xA000 2 n.val 0) n.val))
    ∧ (∀ (n : SlotN), slotNow s n.val = 5 → mayStartSlot (wr s 0xA000 2 n.val 0) n.val = false → exec (.stopComplete n) s = .next (wr s 0xA000 2
      n.val 0))
    ∧ (∀ (n : SlotN) (u : State), u = setSlot s n.val { getSlot s n.val with offTime := false } → mayStartSlot u n.val = true → exec (.offTimeEnd n)
      s = .next (wr u 0xA000 2 n.val (if rd u 0xA010 1 0 = 0 then 2 else 1)))
    ∧ (∀ (n : SlotN) (u : State), u = setSlot s n.val { getSlot s n.val with offTime := false } → mayStartSlot u n.val = false → exec (.offTimeEnd n)
      s = .next (u))

/-- A USP's SPDM responder and the IDE of its link (R411 to R413, Table 19-7): in its turn each request is answered and moves the negotiation, a
session is opened, secured and ended, keys are programmed and taken up inside a secured session; a refresh renews a DSP's keys; an integrity
failure ends the stream and takes the link down; attestation on demand starts. -/
def Obligations.SpdmCommandsComplete : Prop :=
  ∀ s : State,
    (∀ (p : PortN), actingRole s p.val = 1 ∨ actingRole s p.val = 3 → linkUp s p.val = true → 0 ≤ (getSpdm s p.val).phase → exec (.getVersion p) s =
      .next (spdmSay (setSpdm s p.val { getSpdm s p.val with phase := 1 }) p.val 0x04 [0, 1, 0, 0x12]))
    ∧ (∀ (p : PortN), actingRole s p.val = 1 ∨ actingRole s p.val = 3 → linkUp s p.val = true → 1 ≤ (getSpdm s p.val).phase → exec (.getCapabilities
      p) s = .next (spdmSay (setSpdm s p.val { getSpdm s p.val with phase := 2 }) p.val 0x61 (zeros 5 ++ le 4 0x2F6)))
    ∧ (∀ (p : PortN) (v : List Byte), actingRole s p.val = 1 ∨ actingRole s p.val = 3 → linkUp s p.val = true → 2 ≤ (getSpdm s p.val).phase → exec
      (.negotiateAlgorithms p v) s = .next (spdmSay (setSpdm s p.val { getSpdm s p.val with phase := 3 }) p.val 0x63 (Config.spdmAlgorithms v)))
    ∧ (∀ (p : PortN), actingRole s p.val = 1 ∨ actingRole s p.val = 3 → linkUp s p.val = true → 3 ≤ (getSpdm s p.val).phase → exec (.getDigests p) s
      = .next (spdmSay s p.val 0x01 ([0, 1] ++ certDigest)))
    ∧ (∀ (p : PortN) (o n : BitVec 16), actingRole s p.val = 1 ∨ actingRole s p.val = 3 → linkUp s p.val = true → 3 ≤ (getSpdm s p.val).phase → exec
      (.getCertificate p 0 o n) s = .next (if Config.certChain.length ≤ o.toNat then spdmError s p.val 1 else spdmSay s p.val 0x02 ([0, 0] ++ le 2
      (slice Config.certChain o.toNat n.toNat).length ++ le 2 (Config.certChain.length - o.toNat - (slice Config.certChain o.toNat n.toNat).length)
      ++ slice Config.certChain o.toNat n.toNat)))
    ∧ (∀ (p : PortN) (n body : List Byte), actingRole s p.val = 1 ∨ actingRole s p.val = 3 → linkUp s p.val = true → 3 ≤ (getSpdm s p.val).phase →
      body = certDigest ++ Config.nonceBytes s.free ++ Config.sha384 ((List.range 6).flatMap fun i => measured s (i + 1)) ++ le 2 0 → exec
      (.spdmChallenge p 0 n) s = .next (spdmSay (freeNext s) p.val 0x03 (body ++ signed body n)))
    ∧ (∀ (p : PortN) (k : Byte) (n body : List Byte), actingRole s p.val = 1 ∨ actingRole s p.val = 3 → linkUp s p.val = true → 3 ≤ (getSpdm s
      p.val).phase → 1 ≤ k.toNat → k.toNat ≤ 6 → body = be 1 1 ++ le 3 (measBlock s k.toNat).length ++ measBlock s k.toNat ++ Config.nonceBytes
      s.free ++ le 2 0 → exec (.getMeasurements p k n) s = .next (spdmSay (freeNext s) p.val 0x60 (body ++ signed body n)))
    ∧ (∀ (p : PortN) (v : List Byte) (i : Nat), actingRole s p.val = 1 ∨ actingRole s p.val = 3 → linkUp s p.val = true → 3 ≤ (getSpdm s p.val).phase
      → ([0, 1].find? fun j => nth 0 (getSpdm s p.val).sessions j == 0) = some i → exec (.keyExchange p v) s = .next (spdmSay (freeNext (setSpdm s
      p.val { getSpdm s p.val with sessions := setAt (getSpdm s p.val).sessions i 1, secrets := put (getSpdm s p.val).secrets i (Config.spdmSecret v s.free) }))
      p.val 0x64 (be 1 i ++ Config.spdmExchange v s.free)))
    ∧ (∀ (p : PortN) (i : Fin 2) (mac : List Byte), actingRole s p.val = 1 ∨ actingRole s p.val = 3 → linkUp s p.val = true → 3 ≤ (getSpdm s
      p.val).phase → nth 0 (getSpdm s p.val).sessions i.val = 1 → mac = Config.hmacSha384 (look [] (getSpdm s p.val).secrets i.val) (be 1 i.val) →
      exec (.spdmFinish p i mac) s = .next (spdmSay (countSessions (setSpdm s p.val { getSpdm s p.val with sessions := setAt (getSpdm s p.val).sessions i.val 2 })
      p.val) p.val 0x65 (Config.hmacSha384 (look [] (getSpdm s p.val).secrets i.val) (be 1 (i.val + 2)))))
    ∧ (∀ (p : PortN) (i : Fin 2), actingRole s p.val = 1 ∨ actingRole s p.val = 3 → linkUp s p.val = true → 3 ≤ (getSpdm s p.val).phase → nth 0
      (getSpdm s p.val).sessions i.val = 2 → exec (.endSession p i) s = .next (spdmSay (countSessions (setSpdm s p.val { getSpdm s p.val with sessions := setAt (getSpdm s p.val).sessions i.val 0, secrets := del (getSpdm s p.val).secrets i.val })
      p.val) p.val 0x6C []))
    ∧ (∀ (p : PortN) (i : Fin 2) (st : Byte) (ks : Bool) (key : List Byte), actingRole s p.val = 1 ∨ actingRole s p.val = 3 → linkUp s p.val = true →
      3 ≤ (getSpdm s p.val).phase → nth 0 (getSpdm s p.val).sessions i.val = 2 → ideRequester s p.val = false → streamOk s p.val st.toNat = true →
      exec (.keyProg p i st ks key) s = .next (spdmSay (bump (setSpdm s p.val { getSpdm s p.val with keys := put (getSpdm s p.val).keys (2 * st.toNat + b2n ks) key })
      0xD010 4 p.val 32 1) p.val 0x7E ([3] ++ be 1 st.toNat ++ be 1 (b2n ks))))
    ∧ (∀ (p : PortN) (i : Fin 2) (st : Byte) (ks : Bool), actingRole s p.val = 1 ∨ actingRole s p.val = 3 → linkUp s p.val = true → 3 ≤ (getSpdm s
      p.val).phase → nth 0 (getSpdm s p.val).sessions i.val = 2 → ideRequester s p.val = false → has (getSpdm s p.val).keys (2 * st.toNat + b2n ks) =
      true → exec (.kSetGo p i st ks) s = .next (spdmSay (secureStream s p.val st.toNat (b2n ks)) p.val 0x7E ([6] ++ be 1 st.toNat ++ be 1 (b2n
      ks))))
    ∧ (∀ (p : PortN), rd s 0xD000 11 0 ≠ 0 → ideRequester s p.val = true → linkUp s p.val = true → exec (.ideRefresh p) s = .next ((ideStreams s
      p.val).foldl (fun a e => refreshStream a p.val e.1 e.2) s))
    ∧ (∀ (p : PortN) (k : Byte) (u : State), linkUp s p.val = true → u = portDown (bump (setSpdm s p.val { getSpdm s p.val with streams := del (getSpdm s p.val).streams k.toNat })
      0xD010 5 p.val 32 1) p.val 3 false → exec (.ideIntegrityFailure p k) s = .next (raise (wr (freeNext u) 0x2010 8 p.val (Config.freeValue u.free
      % 9)) (0xD000 + p.val) 22 .fault []))
    ∧ (∀ (r : Requester) (p : PortN), accepted s r 0xD010 6 p.val [1] → actingRole s p.val = 2 → exec (.attestNow r p) s = .next (answered (cmdStart
      s 0xD010 6 p.val) 0xD010 6 p.val .ok))

/-- Start-up and reset (R85, R344, R397 to R402, R424): power-on builds the state from what NOR, fuses and the root of trust keep and starts the ROM;
the start-up ends; a loss of AON power, PERST_N of a group, a restart of the Headland die, and a device reset that follows its reply; a link that
may train comes up; an action's end. -/
def Obligations.StartupCommandsComplete : Prop :=
  ∀ s : State,
    (∀ (b : PowerUp), s.pwr.aonOk = false → exec (.powerOn b) s = .next (powerUp s b))
    ∧ (s.pwr.aonOk = true → s.pwr.hldOk = false → s.sec.stage = 1 → s.pwr.testMode = false → exec (.vddHldInRange) s = .next (romStart { s with pwr := { s.pwr with hldOk := true } }))
    ∧ (s.sec.stage = 2 → s.sec.kind ≠ 2 → exec (.bootComplete) s = .next (bootDevice s))
    ∧ (s.sec.stage = 2 → s.sec.kind = 2 → exec (.bootComplete) s = .next (bootHeadland s))
    ∧ (s.pwr.aonOk = true → exec (.pwrokAonFall) s = .next (unpowered s))
    ∧ (∀ (g : GroupN) (u v : State), s.pwr.aonOk = true → u = resetSide ((domPorts s g.val).foldl perstPort s) (g.val / 8) (groupCrossings g.val) → v
      = (if recording u then record u .info 0x0002 0x1000 [0, 2, 0, 0, 0, 0] else u) → exec (.perstN g) s = .next (hldWake (wakeSource v (groupDom
      g.val) .perstRise) .perstRise))
    ∧ (∀ x u : State, s.sec.stage = 2 ∨ s.sec.stage = 3 → x = (List.range 4).foldl (fun a t => resetSide a t [33, 34]) s → rd s 0x1200 3 0 = 0 → u =
      romStart (headlandCleared (cutInstall x)) → exec .headlandWarmReset s = .next (if modeNow s = 6 ∧ u.sec.running ≠ 2 then goldenRuns u (rd s
      0x1200 8 0) else if u.sec.running = x.sec.running ∨ u.sec.running = 2 then u else microChange u u.sec.trialMicrocode))
    ∧ (∀ r : Requester, accepted s r 0x1201 1 0 (be 4 1) → exec (.deviceReset r) s = .next (Machine.deviceReset (answered (cmdStart s 0x1201 1 0)
      0x1201 1 0 .ok)))
    ∧ (∀ r : Requester, accepted s r 0x1201 1 0 (be 4 2) → exec (.deviceResetIgnoreBootsel r) s = .next (Machine.deviceReset (answered (cmdStart { s with mode := { s.mode with ignoreBootsel := true } }
      0x1201 1 0) 0x1201 1 0 .ok)))
    ∧ (∀ (p : PortN) (x : Partner) (u : State), canTrain s p.val x = true → u = portUp s p.val x → (rd u 0x1200 3 0 ≠ 3 ∨ u.mode.waitPorts ≠ []) →
      exec (.linkUp p x) s = .next u)
    ∧ (∀ (p : PortN) (x : Partner) (u : State), canTrain s p.val x = true → u = portUp s p.val x → rd u 0x1200 3 0 = 3 → u.mode.waitPorts = [] → exec
      (.linkUp p x) s = .next (finishMode u))
    ∧ (cmdRunning s 0x1213 1 0 = true → exec (.actionComplete .commitDelta 0) s = .next (cmdEnd (refreshDelta (setCfgSlot s (rd s 0x1210 1 0) { cfgSlot s (rd s 0x1210 1 0) with delta := (cfgSlot s (rd s 0x1210 1 0)).delta ++ Config.hmacSha384 Config.deviceKey (cfgSlot s (rd s 0x1210 1 0)).delta }))
      0x1213 1 0 2 0))
    ∧ (cmdRunning s 0x1213 2 0 = true → exec (.actionComplete .clearDelta 0) s = .next (cmdEnd (refreshDelta (setCfgSlot s (rd s 0x1210 1 0) { cfgSlot s (rd s 0x1210 1 0) with delta := [] }))
      0x1213 2 0 2 0))
    ∧ (cmdRunning s 0xD100 6 0 = true → exec (.actionComplete .fwBegin 0) s = .next (cmdEnd s 0xD100 6 0 2 0))
    ∧ (cmdRunning s 0xD100 11 0 = true → exec (.actionComplete .fwMicrocode 0) s = .next (cmdEnd { wr s 0xD100 10 0 0 with sec := { s.sec with microPending := [], trialMicrocode := trialOpen (wr s 0xD100 10 0 0) } }
      0xD100 11 0 2 0))
    ∧ (∀ (l : LinkN), cmdRunning s 0x3100 12 l.val = true → linkCarries s l.val = true → exec (.actionComplete (.repair l) 0) s = .next (cmdEnd s
      0x3100 12 l.val 2 0))

/-- Firmware update, keys and credentials (R403 to R410, Table 19-6): Begin opens the slot that is not active, chunks are programmed, Verify starts,
Activate starts the trial of a verified slot, Apply takes the links down and starts in SERVICE, Confirm and Revert act on an open trial;
credentials and configuration keys are replaced, enrolled and revoked; the floor rises; a root key is revoked. -/
def Obligations.UpdateCommandsComplete : Prop :=
  ∀ s : State,
    (∀ (r : Requester) (n : BitVec 32) (k : Nat), accepted s r 0xD100 6 0 (be 4 n.toNat) → cmdRunning s 0xD100 7 0 = false → n.toNat ≤ 12582912 →
      downSlot s = some k → exec (.fwBegin r n) s = .next (answered (setFwSlot (cmdStart s 0xD100 6 0) k { st := 1, len := n.toNat, bytes := [] })
      0xD100 6 0 .ok))
    ∧ (∀ (r : Requester) (a : BitVec 32) (v : List Byte) (k : Nat), chunkAccepted s r 0xD100 5 0 → downSlot s = some k → cmdRunning s 0xD100 6 0 =
      false → cmdRunning s 0xD100 7 0 = false → (fwSlot s k).st = 1 → v ≠ [] → a.toNat + v.length ≤ (fwSlot s k).len → exec (.fwDownload r a v true)
      s = .next (chunkAnswered (setFwSlot s k { fwSlot s k with bytes := programmed (fwSlot s k).bytes v a.toNat, st := if (programmed (fwSlot s k).bytes v a.toNat).length = (fwSlot s k).len then 2 else 1 })
      0xD100 5 0 .ok))
    ∧ (∀ (r : Requester), accepted s r 0xD100 7 0 [1] → cmdRunning s 0xD100 6 0 = false → exec (.fwVerify r) s = .next (answered (cmdStart s 0xD100 7
      0) 0xD100 7 0 .ok))
    ∧ (∀ (r : Requester) (k : Nat), accepted s r 0xD100 8 0 [1] → rd s 0x1200 3 0 = 0 → downSlot s = some k → (fwSlot s k).st = 3 → exec
      (.activateFirmware r) s = .next (answered (startSwap { writeRecord (cmdStart s 0xD100 8 0) (activeSlot s) k 1 with sec := { (writeRecord (cmdStart s 0xD100 8 0) (activeSlot s) k 1).sec with running := k, trialMicrocode := false } })
      0xD100 8 0 .ok))
    ∧ (∀ (r : Requester), accepted s r 0xD100 11 0 [1] → modeNow s = 5 → (List.range 64).all (fun p => !linkUp s p) = true → exec (.applyMicrocode r)
      s = .next (answered (wr (cmdStart s 0xD100 11 0) 0xD100 10 0 2) 0xD100 11 0 .ok))
    ∧ (∀ (r : Requester), accepted s r 0xD100 9 0 [1] → trialOpen s = true → exec (.fwConfirm r) s = .next (answered (cmdStart s 0xD100 9 0) 0xD100 9
      0 .ok))
    ∧ (∀ (r : Requester) (u : State), accepted s r 0xD100 12 0 [1] → trialOpen s = true → s.sec.trialMicrocode = false → u = bump (writeRecord
      (cmdStart s 0xD100 12 0) (activeSlot s) 0xFF 0) 0xD100 4 0 32 1 → exec (.fwRevert r) s = .next (answered (startSwap { u with sec := { u.sec with running := activeSlot s } })
      0xD100 12 0 .ok))
    ∧ (∀ (r : Requester) (v : List Byte), accepted s r 0xD000 2 0 v → fieldBe v 0 1 ≤ 2 → (fieldBe v 0 1 = 0 → r = .vendor) → exec (.setCredential r
      v) s = .next (answered (cmdDone { s with sec := { s.sec with creds := put s.sec.creds (fieldBe v 0 1) (slice v 1 48) } } 0xD000 2 0 0) 0xD000 2
      0 .ok))
    ∧ (∀ (r : Requester) (v : List Byte), accepted s r 0xD000 4 0 v → fieldBe v 0 1 ≤ 3 → cfgKey s (fieldBe v 0 1) = none → exec (.enrollKey r v) s =
      .next (answered (if keySigned s (cfgKeySlots s) (v.take 98) (slice v 98 96) = false then cmdDone s 0xD000 4 0 0xD9 else cmdDone (newNonce
      (setCfgKey s (fieldBe v 0 1) (some (slice v 1 97)))) 0xD000 4 0 0) 0xD000 4 0 .ok))
    ∧ (∀ (r : Requester) (v : List Byte) (k : List Byte), accepted s r 0xD000 5 0 v → fieldBe v 0 1 ≤ 3 → cfgKey s (fieldBe v 0 1) = some k →
      (cfgKeySlots s).filter (· != fieldBe v 0 1) ≠ [] → exec (.revokeKey r v) s = .next (answered (if keySigned s ((cfgKeySlots s).filter (· !=
      fieldBe v 0 1)) (v.take 1) (slice v 1 96) = false then cmdDone s 0xD000 5 0 0xD9 else cmdDone (newNonce (setCfgKey s (fieldBe v 0 1) none))
      0xD000 5 0 0) 0xD000 5 0 .ok))
    ∧ (∀ (r : Requester), accepted s r 0xD000 7 0 [1] → rd s 0xD000 6 0 < rd s 0x1210 2 0 → exec (.raiseFloor r) s = .next (answered (wr (cmdDone s
      0xD000 7 0 0) 0xD000 6 0 (rd s 0x1210 2 0)) 0xD000 7 0 .ok))
    ∧ (∀ (n : Fin 4), s.sec.revoked.contains n.val = false → exec (.revokeRootKey .vendor n) s = .next (if (rootSlots s).all (· == n.val) = true then
      emit s (.rootKey n.val 0xDB) else emit { s with sec := { s.sec with revoked := s.sec.revoked ++ [n.val] } } (.rootKey n.val 0)))

/-- Self-test and diagnostics (R414, R415): each of the five tests of a well-formed descriptor that is accepted takes its units and runs; its end
leaves the result; a diagnostic read or write whose gates open reads or writes the bytes. -/
def Obligations.DiagnosticCommandsComplete : Prop :=
  ∀ s : State,
    (∀ (r : Requester) (v : List Byte) (t : TestRun) (u : State), accepted s r 0xE000 1 0 v → fieldBe v 0 1 = 1 → v.length = 16 → t = { kind := fieldBe v 0 1, unit := fieldBe v 2 2, first := fieldBe v 4 4, count := fieldBe v 8 4 }
      → testForm t = true → s.sec.test = none → testAccepted s t = true → testGate (cmdStart s 0xE000 1 0) t = (u, true) → exec (.sramBist r v) s =
      .next (answered (testTakes { u with sec := { u.sec with test := some t } } t) 0xE000 1 0 .ok))
    ∧ (∀ (r : Requester) (v : List Byte) (t : TestRun) (u : State), accepted s r 0xE000 1 0 v → fieldBe v 0 1 = 2 → v.length = 16 → t = { kind := fieldBe v 0 1, unit := fieldBe v 2 2, first := fieldBe v 4 4, count := fieldBe v 8 4 }
      → testForm t = true → s.sec.test = none → testAccepted s t = true → testGate (cmdStart s 0xE000 1 0) t = (u, true) → exec (.hbmBist r v) s =
      .next (answered (testTakes { u with sec := { u.sec with test := some t } } t) 0xE000 1 0 .ok))
    ∧ (∀ (r : Requester) (v : List Byte) (t : TestRun) (u : State), accepted s r 0xE000 1 0 v → fieldBe v 0 1 = 3 → v.length = 16 → t = { kind := fieldBe v 0 1, unit := fieldBe v 2 2, first := fieldBe v 4 4, count := fieldBe v 8 4 }
      → testForm t = true → s.sec.test = none → testAccepted s t = true → testGate (cmdStart s 0xE000 1 0) t = (u, true) → exec (.receiverCalibration
      r v) s = .next (answered (testTakes { u with sec := { u.sec with test := some t } } t) 0xE000 1 0 .ok))
    ∧ (∀ (r : Requester) (v : List Byte) (t : TestRun) (u : State), accepted s r 0xE000 1 0 v → fieldBe v 0 1 = 4 → v.length = 16 → t = { kind := fieldBe v 0 1, unit := fieldBe v 2 2, first := fieldBe v 4 4, count := fieldBe v 8 4 }
      → testForm t = true → s.sec.test = none → testAccepted s t = true → testGate (cmdStart s 0xE000 1 0) t = (u, true) → exec (.logicBist r v) s =
      .next (answered (testTakes { u with sec := { u.sec with test := some t } } t) 0xE000 1 0 .ok))
    ∧ (∀ (r : Requester) (v : List Byte) (t : TestRun) (u : State), accepted s r 0xE000 1 0 v → fieldBe v 0 1 = 5 → v.length = 16 → t = { kind := fieldBe v 0 1, unit := fieldBe v 2 2, first := fieldBe v 4 4, count := fieldBe v 8 4 }
      → testForm t = true → s.sec.test = none → testAccepted s t = true → testGate (cmdStart s 0xE000 1 0) t = (u, true) → exec (.patrolScrubPass r
      v) s = .next (answered (testTakes { u with sec := { u.sec with test := some t } } t) 0xE000 1 0 .ok))
    ∧ (∀ (n a : Nat) (t : TestRun), s.sec.test = some t → t.kind ≠ 4 → exec (.testComplete n 0 a) s = .next (endTest s 2 0 n 0 a))
    ∧ (∀ (r : Requester) (v : List Byte) (u : State), accepted s r 0xE010 1 0 v → diagForm s (fieldBe v 0 8) (fieldBe v 8 4) = true → diagGate
      (cmdStart s 0xE010 1 0) (fieldBe v 0 8) (fieldBe v 8 4) false = (u, true) → exec (.diagnosticRead r v) s = .next (answered (cmdEnd (wrBlob
      (diagReads u (fieldBe v 0 8) (fieldBe v 8 4)) 0xE010 2 0 (diagBytes u (fieldBe v 0 8) (fieldBe v 8 4))) 0xE010 1 0 2 0) 0xE010 1 0 .ok))
    ∧ (∀ (r : Requester) (v : List Byte) (u : State), accepted s r 0xE010 3 0 v → diagForm s (fieldBe v 0 8) (fieldBe v 8 4) = true → v.length = 12 +
      fieldBe v 8 4 → diagGate (cmdStart s 0xE010 3 0) (fieldBe v 0 8) (fieldBe v 8 4) true = (u, true) → exec (.diagnosticWrite r v) s = .next
      (answered (cmdEnd (diagPut u (fieldBe v 0 8) (v.drop 12)) 0xE010 3 0 2 0) 0xE010 3 0 .ok))

/-- Meters, telemetry and tiles (R129, R131, R303, R321 to R328): a refill of a tile's meters after which ready queue heads are released, the clears
of overflow bits, a control record's write clears its counter, a window starts, stops and ends, and a tile is reset, targeted and comes into
service. -/
def Obligations.TelemetryAndTilesComplete : Prop :=
  ∀ s : State,
    (∀ (t : TileN) (u : State), u = { s with qos := { s.qos with meters := mapVals s.qos.meters fun k b => if meterTile s (k / 4) = t.val then refillMeter (meterRec s (k / 4) (k % 4)) b else b } }
      → exec (.meterRefill t) s = .next (releaseTile ((u.qos.queues.map (·.1)).foldl (fun a q => if meterTile a (q / 16) = t.val then remeterHead a q
      else a) u) t.val))
    ∧ (∀ (r : Requester) (u : UnitN) (m w : BitVec 64), accepted s r 0xB000 4 u.val (be 8 m.toNat) → exec (.clearOverflow r u m w) s = .next
      (answered (Machine.clearOverflow (cmdDone s 0xB000 4 u.val 0) u.val m.toNat w.toNat) 0xB000 4 u.val .ok))
    ∧ (∀ (r : Requester) (i : InstN), accepted s r 0xB010 2 i.val [1] → exec (.instanceClearOverflow r i) s = .next (answered ({ cmdDone s 0xB010 2 i.val 0 with tele := { s.tele with parts := mapVals s.tele.parts fun k w => if k / 32 = i.val then w % 2 ^ 48 else w } })
      0xB010 2 i.val .ok))
    ∧ (∀ (r : Requester) (u : UnitN) (n : Fin 8) (v : BitVec 32), chunkAccepted s r 0xB000 3 u.val → eventDefined u.val (bits v.toNat 31 24) = true →
      bits v.toNat 23 22 ≠ 3 → (32 ≤ u.val → bits v.toNat 23 22 = 0) → (classEvent (bits v.toNat 31 24) = false → bits v.toNat 7 0 = 0xFF) → exec
      (.controlRecordWrite r u n v) s = .next (chunkAnswered (setCounter (wrTbl s 0xB000 3 u.val n.val (bits v.toNat 31 22 * 2 ^ 22 + bits v.toNat 19
      0)) u.val (n.val + 1) 0) 0xB000 3 u.val .ok))
    ∧ (∀ (r : Requester) (p : PortN), accepted s r 0xB200 3 p.val [1] → rd s 0xB200 5 p.val ≠ 1 → rd s 0xB200 1 p.val ≠ 0 → exec (.windowStart r p) s
      = .next (answered (openWindow (wr (cmdDone s 0xB200 3 p.val 0) 0xB200 5 p.val 1) p.val 1) 0xB200 3 p.val .ok))
    ∧ (∀ (r : Requester) (p : PortN) (u : State) (x : List Byte), accepted s r 0xB200 4 p.val [1] → rd s 0xB200 5 p.val = 1 → windowResult (cmdDone s
      0xB200 4 p.val 0) p.val (min ((getWin s p.val).len) (tileCycles s (p.val / 16) - (getWin s p.val).start)) true = (u, x) → exec (.windowStop r
      p) s = .next (answered (wr (writeResult u p.val x) 0xB200 5 p.val 0) 0xB200 4 p.val .ok))
    ∧ (∀ (p : PortN) (u v : State) (x : List Byte), rd s 0xB200 5 p.val = 1 → windowResult s p.val (getWin s p.val).len false = (u, x) → v =
      writeResult u p.val x → rd v 0xB200 2 p.val = 1 → exec (.windowEnd p) s = .next (wr v 0xB200 5 p.val 2))
    ∧ (∀ (r : Requester) (t : TileN), accepted s r 0x3000 3 t.val [1] → rd s 0x3000 2 t.val = 3 → exec (.tileReset r t) s = .next (answered
      (Machine.tileReset (cmdStart s 0x3000 3 t.val) t.val 1 (if rd s 0x3000 1 t.val = 1 then 2 else 1)) 0x3000 3 t.val .ok))
    ∧ (∀ (r : Requester) (t : TileN) (v : Byte), accepted s r 0x3000 1 t.val [v] → v.toNat ≠ 0 → rd s 0x3000 2 t.val = 1 → exec (.tileTarget r t v) s
      = .next (answered (wr (wr s 0x3000 1 t.val v.toNat) 0x3000 2 t.val 2) 0x3000 1 t.val .ok))
    ∧ (∀ (r : Requester) (t : TileN) (v : Byte), accepted s r 0x3000 1 t.val [v] → v.toNat = 0 → rd s 0x3000 2 t.val = 3 → exec (.tileTarget r t v) s
      = .next (answered (Machine.tileReset (wr s 0x3000 1 t.val 0) t.val 1 1) 0x3000 1 t.val .ok))
    ∧ (∀ (t : TileN), rd s 0x3000 2 t.val = 2 → exec (.tileInService t) s = .next (tileServes s t.val))

/-- Fault sources and records (R336 to R354, R436): a cause occurs, is cleared alone or with an occurrence of the same cycle, and every source is
cleared; a level's condition ends; the scan after a restart; a record is committed, the store fails, is probed and erased; the operating seconds
are saved. -/
def Obligations.StrandlineCommandsComplete : Prop :=
  ∀ s : State,
    (∀ (src : BitVec 16) (c : CauseN) (v : Severity) (ps : List Nat), v ≠ .critical → v ≠ .info → isSource src.toNat = true → (getSource s
      src.toNat).unreachable = false → (getSource s src.toNat).standing c.val = none → exec (.causeOccurrence src c v ps) s = .next (latchCause s
      src.toNat c.val v (causeParams s src.toNat 0 ps)))
    ∧ (∀ (r : Requester) (src : BitVec 16) (m : BitVec 32), accepted s r 0xC000 6 src.toNat (be 4 m.toNat) → exec (.faultClear r src m none) s =
      .next (answered (cmdEnd (clearMaskOf (cmdStart s 0xC000 6 src.toNat) src.toNat m.toNat) 0xC000 6 src.toNat 2 0) 0xC000 6 src.toNat .ok))
    ∧ (∀ (r : Requester), accepted s r 0xC010 4 0 [1] → exec (.faultClearAll r) s = .next (answered (cmdEnd (clearAllSources (cmdStart s 0xC010 4 0))
      0xC010 4 0 2 0) 0xC010 4 0 .ok))
    ∧ (∀ (src : BitVec 16) (c : CauseN) (k : Cause) (u : State), isLevel c.val = true → k = (getSource s src.toNat).cause c.val → k.latched = true →
      u = setSource s src.toNat ((getSource s src.toNat).setCause c.val { k with latched := false, merged := false, recorded := true, sev := .info }).settle
      → exec (.levelUnlatch src c) s = .next (if recording s = true then record u .info (0x1200 + c.val) src.toNat [0, k.latchSec * 2 ^ 32 +
      k.latchCyc, 0, 0, 0, 0] else u))
    ∧ (∀ (u : State), u = (sourcesWhere s fun _ => true).foldl (fun a src => (List.range 26).foldl (fun b c => rescanCause b src c) a) s → exec
      (.faultRescan) s = .next ({ u with flt := { u.flt with scanning := false } }))
    ∧ (∀ (x : Rec), storeState s = 0 → nextCommit s = some x → exec (.recordCommit) s = .next (commitRec s x))
    ∧ (∀ u : State, u = wr { s with flt := { s.flt with ringLost := 0 } } 0xC100 1 0 1 → cmdRunning u 0xC100 6 0 = false → exec .storeFailure s =
      .next (raise u 0xC100 24 .fault []))
    ∧ (∀ (r : Requester), accepted s r 0xC100 7 0 [1] → exec (.retryStore r false) s = .next (answered (cmdDone s 0xC100 7 0 0xC1) 0xC100 7 0 .ok))
    ∧ (∀ (r : Requester) (u : State), accepted s r 0xC100 7 0 [1] → u = record (commitAll (awaiting s) (wr (cmdStart s 0xC100 7 0) 0xC100 1 0 0))
      .notice 0x0004 0xC100 [0, awaiting s, s.flt.ringLost, 0, 0, 0] → exec (.retryStore r true) s = .next (answered (cmdEnd (endLevel { u with flt := { u.flt with ringLost := 0 } }
      0xC100 24) 0xC100 7 0 2 0) 0xC100 7 0 .ok))
    ∧ (∀ (r : Requester) (u : State), accepted s r 0xC100 6 0 [1] → storeState s ≠ 1 → u = { cmdStart s 0xC100 6 0 with flt := { s.flt with store := [], ring := [] } }
      → exec (.strandErase r) s = .next (answered (record (wr u 0xC100 1 0 2) .info 0x0005 0xC100 [0, s.flt.store.length + awaiting s, 0, 0, 0, 0])
      0xC100 6 0 .ok))
    ∧ (exec (.secondsSave) s = .next ({ s with flt := { s.flt with savedSeconds := secondsNow s } }))

/-- The switch core and Tidelinks (R113 to R125): reset tokens drop what they name, a crossing's timeout latches its Fault, flits are received and
acknowledgements timed on links that carry, the balancer's period, the path table and its fences, lane losses, failures, dedup, targets, repairs
and training, and a pass of Beachcomber. -/
def Obligations.SwitchCommandsComplete : Prop :=
  ∀ s : State,
    (∀ (t : TileN) (x : CrossN), exec (.resetToken t x) s = .next (dropCells (closeCrossing (crossed s t.val x.val 1) t.val x.val) t.val
      (crossingCells x.val)))
    ∧ (∀ (t : TileN) (x : CrossN), crossingStopped s t.val x.val = false → crossingHolds s t.val x.val = true → crossingLink t.val x.val = none →
      exec (.crossingTimeout t x) s = .next (dropCells (closeCrossing (raise (bump (crossed s t.val x.val 2) 0x3000 6 t.val 32 1) (0x3200 + t.val) 6
      .fault []) t.val x.val) t.val (crossingCells x.val)))
    ∧ (∀ (t : TileN) (x : CrossN) (l : Nat) (u : State), crossingStopped s t.val x.val = false → crossingHolds s t.val x.val = true → crossingLink
      t.val x.val = some l → u = dropCells (closeCrossing (raise (bump (crossed s t.val x.val 2) 0x3000 6 t.val 32 1) (0x3200 + t.val) 6 .fault [])
      t.val x.val) t.val (crossingCells x.val) → (getLink u l).timeouts = [] → exec (.crossingTimeout t x) s = .next (setLink u l { getLink u l with timeouts := [t.val * 64 + x.val] }))
    ∧ (∀ (l : LinkN) (d : LinkDir) (f : TlFlit) (u : State), linkCarries s l.val = true → u = receiveFlit s l.val d f → replayExhausted u l.val .up =
      false → replayExhausted u l.val .down = false → exec (.tidelinkFlit l d f) s = .next u)
    ∧ (∀ (l : LinkN) (d : LinkDir) (u : State), linkCarries s l.val = true → u = resendGroups s l.val d → replayExhausted u l.val d = false → exec
      (.ackTimeout l d) s = .next u)
    ∧ (∀ (t : TileN) (u : State), rd s 0x3210 2 t.val ≠ 1 → u = (List.range 768).foldl (fun a k => wrTbl a 0x3210 8 t.val k (look 0 (getTile s
      t.val).load k % 2 ^ 32)) s → u.obj = s.obj → exec (.balancerPeriod t) s = .next (setTile u t.val { getTile u t.val with load := [] }))
    ∧ (∀ (r : Requester) (t : TileN) (a : Fin 768) (vs : List Byte) (u : State), chunkAccepted s r 0x3210 1 t.val → Machine.pathTableWrite s t.val
      a.val (vs.map (·.toNat)) = (u, .ok) → exec (.pathTableWrite r t a vs) s = .next (chunkAnswered u 0x3210 1 t.val .ok))
    ∧ (∀ (t d : TileN) (e : Byte) (c : Fin 8) (u : State) (r : Repin), u = takeFence s t.val d.val e.toNat c.val → (getTile u t.val).repins = [r] →
      r.dst = d.val → r.entry = e.toNat → exec (.fenceCell t d e c) s = .next (setTile u t.val { getTile u t.val with repins := [{ r with waits := r.waits.filter (· != c.val) }] }))
    ∧ (∀ (t d : TileN) (e : Byte) (r : Repin) (u : State), repinOf s t.val d.val e.toNat = some r → r.waits = [] → u = goOnHeld (pathTaken (setTile s
      t.val { getTile s t.val with repins := (getTile s t.val).repins.filter (· != r) }) t.val d.val e.toNat r.path) t.val r → (r.queued = [] → exec
      (.fenceAck t d e) s = .next u) ∧ (∀ (k : Nat) (rest : List Nat), r.queued = k :: rest → exec (.fenceAck t d e) s = .next (startRepin u t.val
      d.val e.toNat k rest)))
    ∧ (∀ (l : LinkN) (d : LinkDir) (k : Fin 64) (x y : TlDir) (u : State), linkCarries s l.val = true → x = getDir (getLink s l.val) d →
      x.lost.contains k.val = false → x.spared.contains k.val = false → y = (if x.spared.length + x.dead < 2 ∧ (x.lost.all fun n => n == k.val ||
      x.spared.contains n) = true then { x with lost := k.val :: x.lost, spared := k.val :: x.spared } else { x with lost := k.val :: x.lost }) → u =
      setLink s l.val (setDirSt (getLink s l.val) d y) → (dirWidth y = 64 → exec (.tidelinkLaneLoss l d k) s = .next (raise (showLink u l.val)
      (0x3100 + l.val) 3 .notice [])) ∧ (dirWidth y = 32 → exec (.tidelinkLaneLoss l d k) s = .next (raise (showLink u l.val) (0x3100 + l.val) 5
      .fault [])))
    ∧ (∀ (l : LinkN) (u v : State), linkCarries s l.val = true → u = bump (wr (wr (wr s 0x3100 2 l.val 5) 0x3100 3 l.val 0) 0x3100 4 l.val 0) 0x3100
      9 l.val 32 1 → v = repinTiles (setLink u l.val { getLink u l.val with awaitLow := true, awaitHigh := true, timeouts := [] }) l.val none true →
      exec (.tidelinkFailure l) s = .next (raise (emit (emit v (.dedupReport l.val (linkEnds l.val).1 (getLink s l.val).up.lastGood)) (.dedupReport
      l.val (linkEnds l.val).2 (getLink s l.val).down.lastGood)) (0x3100 + l.val) 7 .fault []))
    ∧ (∀ (l : LinkN) (t : TileN) (g : Byte), awaitsDedup s l.val t.val = true → exec (.dedupReport l t g) s = .next (dedup s l.val t.val g.toNat))
    ∧ (∀ (l : LinkN) (t : TileN), awaitsDedup s l.val t.val = true → exec (.dedupTimeout l t) s = .next (dedupLost s l.val t.val))
    ∧ (∀ (r : Requester) (l : LinkN) (v : Byte), accepted s r 0x3100 1 l.val [v] → v.toNat = 1 → rd s 0x3100 2 l.val = 0 → rd s 0x3000 2 (linkEnds
      l.val).1 = 3 → rd s 0x3000 2 (linkEnds l.val).2 = 3 → exec (.tidelinkTarget r l v) s = .next (answered (wr (wr s 0x3100 1 l.val 1) 0x3100 2
      l.val 1) 0x3100 1 l.val .ok))
    ∧ (∀ (r : Requester) (l : LinkN), accepted s r 0x3100 12 l.val [1] → modeNow s = 5 → exec (.tidelinkRepair r l) s = .next (answered (wr (cmdStart
      s 0x3100 12 l.val) 0x3100 2 l.val 1) 0x3100 12 l.val .ok))
    ∧ (∀ (l : LinkN) (a b : Byte) (u : State), rd s 0x3100 1 l.val ≠ 0 → linkCarries s l.val = false → rd s 0x3000 2 (linkEnds l.val).1 = 3 → rd s
      0x3000 2 (linkEnds l.val).2 = 3 → dirWidth (trainedDir a.toNat) ≠ 0 → dirWidth (trainedDir b.toNat) ≠ 0 → u = showLink (setLink (openLink
      (openLink s (linkEnds l.val).1 l.val) (linkEnds l.val).2 l.val) l.val { up := trainedDir a.toNat, down := trainedDir b.toNat, awaitLow := false, awaitHigh := false, timeouts := [] })
      l.val → exec (.tidelinkTrained l a b) s = .next (if rd u 0x3100 2 l.val = 2 ∨ rd u 0x3100 2 l.val = 3 then endLevel u (0x3100 + l.val) 5 else
      u))
    ∧ (∀ (t : TileN) (l : List Nat), rd s 0x3300 1 t.val = 1 → exec (.beachcomberPass t l) s = .next (beachPass s t.val l))

/-- A step on a queue with a command in front is exec of that command on the state with the queue's rest: the per-command statements reach a run
through this one. -/
def Obligations.StepRunsFront : Prop :=
  ∀ (c : Instr) (rest : List Instr) (s : State), s.pending = c :: rest → step s = exec c { s with pending := rest }

/-- On an empty queue the block idles (the model's choice, log entry 3): powered, only time, the source of free values and views that settle move;
unpowered, nothing does. -/
def Obligations.IdleStep : Prop :=
  ∀ s : State, s.pending = [] → (s.pwr.aonOk = false → step s = .next s) ∧ (s.pwr.aonOk = true → step s = .next (settleViews { s with clock := { s.clock with core := s.clock.core + Config.idleCycles s.free }, free := s.free + 1 }))

/-- At reset the queue is empty, memory lists nothing, no source is latched, and every object reads the default its table gives. That the block then
waits without power for POWER_ON, and that an object without a stated default reads 0, is the model's choice (log entries 1 and 2). -/
def Obligations.ResetState : Prop :=
  State.reset.pending = [] ∧ State.reset.mem = [] ∧ State.reset.flt.sources = [] ∧ State.reset.flt.ring = [] ∧ State.reset.insts = [] ∧
    State.reset.gecko.ctxs = [] ∧ State.reset.pwr.aonOk = false ∧ (∀ idx sub q, rd State.reset idx sub q = objDefault idx sub q) ∧ rd State.reset
    0x1200 3 0 = 0 ∧ (∀ t, rd State.reset 0x9000 2 (32 * t) = objDefault 0x9000 2 (32 * t)) ∧ rd State.reset 0x6800 10 0 = objDefault 0x6800 10 0

/-- The invariant that every step keeps holds at reset: canonical forms, and a queue of well-formed commands. -/
def Obligations.ResetKeepsForm : Prop :=
  State.reset.Inv ∧ State.reset.queueOk

/-- Every command in every state answers a next state, in which what has left the device is still there, free values are only consumed, the queue is
untouched and canonical forms are kept: no command ends in a fault or a refusal. -/
def Obligations.EveryCommandCompletes : Prop :=
  ∀ (c : Instr) (s : State), ∃ t, exec c s = .next t ∧ Keeps s t

/-- From every state in canonical form, whether or not a run reaches it, every step gives a state in canonical form; what has left the device stays,
the source of free values only advances, and the queue loses at most its front. -/
def Obligations.StepsKeepInvariant : Prop :=
  ∀ s t : State, s.Inv → s.queueOk → step s = .next t → t.Inv ∧ t.queueOk ∧ s.out <:+ t.out ∧ s.free ≤ t.free ∧ t.pending = s.pending.drop 1

/-- For every operation code and every value of every field of Table 12-1, the 128-bit word of the step decodes to that operation and those fields,
with the reserved bits 0: no bit of an encoding is dropped. -/
def Obligations.StepWordRoundTrip : Prop :=
  ∀ (op : Nat) (f : StepF), op < 256 → wordOp (stepWord op f) = op ∧ wordStep (stepWord op f) = f ∧ wordReserved (stepWord op f) = true ∧ stepWord op
    f < 2 ^ 128

/-- The bytes of a message without a tag (Table 2-8), read back, are the message: header fields at every value and any body. -/
def Obligations.OdpMessageRoundTrip : Prop :=
  ∀ m : OdpMsg, m.tag = [] → msgOfBytes (odpBytes m) = m

/-- Items laid out as Table 2-10 gives (a 12-byte header, the value padded with zeros to a multiple of 4 bytes), one after another, parse to those
items, whatever their number. -/
def Obligations.OdpItemsRoundTrip : Prop :=
  ∀ l : List WireItem, (∀ w ∈ l, w.fits) → parseItems l.length (l.flatMap WireItem.bytes) = some l

/-- A read after a write gives the byte written at its address and the old byte elsewhere; a range that is scrubbed reads as zeros and the rest as
before; both keep the canonical form. -/
def Obligations.MemoryReadsBack : Prop :=
  ∀ (m : List Host.Cell) (a : Nat) (v : Byte) (lo hi : Nat), Memory.wf m = true → Memory.wf (memWrite m a v) = true ∧ (∀ b, memRead (memWrite m a v)
    b = if b = a then v else memRead m b) ∧ Memory.wf (memClear m lo hi) = true ∧ (∀ b, memRead (memClear m lo hi) b = if lo ≤ b ∧ b < hi then 0 else
    memRead m b)

/-- A command that is a write of one object, or of a chunk of a table, and that fails a check of R431, is answered with the status of that check and
leaves every part of the block as it was (R25: the status word and ACTION_SEQ included). -/
def Obligations.RefusedWritesChangeNothing : Prop :=
  ∀ (c : Instr) (s : State) (r : Requester) (idx sub q : Nat) (v : List Byte) (st : Status), (rowOf c = some (r, idx, sub, q, v) → writeChecks s r
    (rowItem idx sub q v) = some st → exec c s = .next { s with out := .wrote idx sub q st :: s.out }) ∧ (chunkRowOf c = some (r, idx, sub, q) →
    chunkChecks s r (rowItem idx sub q []) = some st → exec c s = .next { s with out := .wrote idx sub q st :: s.out })

/-- The checks of a write to an object the dictionary names, in the order of R431: when those before it pass, a failing check decides the status,
whatever the later ones would say; a write that fails none passes. -/
def Obligations.ChecksTakeFirstStatus : Prop :=
  ∀ (s : State) (r : Requester) (it : Item) (d : ObjDesc) (q : Nat), descOf it.idx it.sub = some d → q = itemQual r d it →
  let other : Prop := otherInstance r d.qual q = true ∨ foreignTable s r d.idx q = true
  let noRight : Prop := rangeRight r d true = false
  let missing : Prop := qualOk d.qual q = false ∨ present s d q = false
  let notMeant : Prop := meaningRight s r d q true (ofBe it.value) = false
  let table : Prop := d.ty = .table
  let readOnly : Prop := d.acc = .ro
  let badForm : Prop := typeOk d it.ty true = false ∨ lengthOk d it.value = false ∨ widthOk d it.ty it.value = false ∨ validOk d it.value = false
  let outside : Prop := rangeOk d it.value = false ∨ cmdRange d q it.value = false ∨ limitsRise s d q (ofBe it.value) = false
  let stale : Prop := it.cond.isSome = true ∧ it.cond ≠ some (changeOf s it.idx it.sub (canonQual it.idx q))
  let locked : Prop := modeLocked s it.idx it.sub q = true
  let active : Prop := d.acc = .rwq ∧ unitQuiesced s it.idx q = false
  let running : Prop := d.acc = .cmd ∧ cmdRunning s it.idx it.sub q = true
  (other → writeChecks s r it = some .absent) ∧
  (¬other → noRight → writeChecks s r it = some .denied) ∧
  (¬other → ¬noRight → missing → writeChecks s r it = some .absent) ∧
  (¬other → ¬noRight → ¬missing → notMeant → writeChecks s r it = some .denied) ∧
  (¬other → ¬noRight → ¬missing → ¬notMeant → table → writeChecks s r it = some .type) ∧
  (¬other → ¬noRight → ¬missing → ¬notMeant → ¬table → readOnly → writeChecks s r it = some .readOnly) ∧
  (¬other → ¬noRight → ¬missing → ¬notMeant → ¬table → ¬readOnly → badForm → writeChecks s r it = some .type) ∧
  (¬other → ¬noRight → ¬missing → ¬notMeant → ¬table → ¬readOnly → ¬badForm → outside → writeChecks s r it = some .range) ∧
  (¬other → ¬noRight → ¬missing → ¬notMeant → ¬table → ¬readOnly → ¬badForm → ¬outside → stale → writeChecks s r it = some .conflict) ∧
  (¬other → ¬noRight → ¬missing → ¬notMeant → ¬table → ¬readOnly → ¬badForm → ¬outside → ¬stale → locked → writeChecks s r it = some .busy) ∧
  (¬other → ¬noRight → ¬missing → ¬notMeant → ¬table → ¬readOnly → ¬badForm → ¬outside → ¬stale → ¬locked → active → writeChecks s r it = some
    .notQuiesced) ∧
  (¬other → ¬noRight → ¬missing → ¬notMeant → ¬table → ¬readOnly → ¬badForm → ¬outside → ¬stale → ¬locked → ¬active → running → writeChecks s r it =
    some .busy) ∧
  (¬other → ¬noRight → ¬missing → ¬notMeant → ¬table → ¬readOnly → ¬badForm → ¬outside → ¬stale → ¬locked → ¬active → ¬running → writeChecks s r it =
    none)

/-- An action that starts reads running with ACTION_SEQ one higher, wrapping at 16 bits, and REASON 0; one that ends keeps ACTION_SEQ and shows its
state and reason; another object's word is untouched. -/
def Obligations.CommandWordFields : Prop :=
  ∀ (s : State) (idx sub q st reason : Nat), st < 256 → reason < 256 → (rd (cmdStart s idx sub q) idx sub q / 2 ^ 24 = 1 ∧ rd (cmdStart s idx sub q)
    idx sub q / 2 ^ 16 % 256 = 0 ∧ rd (cmdStart s idx sub q) idx sub q % 2 ^ 16 = (rd s idx sub q % 2 ^ 16 + 1) % 2 ^ 16) ∧ (rd (cmdEnd s idx sub q
    st reason) idx sub q / 2 ^ 24 = st ∧ rd (cmdEnd s idx sub q st reason) idx sub q / 2 ^ 16 % 256 = reason ∧ rd (cmdEnd s idx sub q st reason) idx
    sub q % 2 ^ 16 = rd s idx sub q % 2 ^ 16) ∧ (∀ i j k, okey i j k ≠ okey idx sub q → rd (cmdStart s idx sub q) i j k = rd s i j k ∧ rd (cmdEnd s
    idx sub q st reason) i j k = rd s i j k)

/-- A cause whose bit is clear latches its severity, its count rises, and it is recorded and reported; at a severity no higher than the latched one
it merges: the count rises, MERGED is set, and nothing is recorded, sent or reported. A source that cannot be reached keeps the same in its held
copy. -/
def Obligations.CauseLatchesOrMerges : Prop :=
  ∀ (s : State) (src c : Nat) (sev : Severity) (ps : List Nat), isSource src = true → c < 26 → sev ≠ .info → ¬((getSource s src).unreachable = true ∧
    isLevel c = true) → ((getSource s src).standing c = none → ∃ u, raise s src c sev ps = report u src c sev (causeParams s src 0 ps) ∧ (getSource u
    src).standing c = some sev ∧ ((getSource u src).cause c).count = (((getSource s src).cause c).count + 1) % 2 ^ 32 ∧ u = { s with flt := { s.flt with sources := u.flt.sources } }
    ∧ (∀ x, x ≠ src → getSource u x = getSource s x)) ∧ (∀ old, (getSource s src).standing c = some old → sevCode sev ≤ sevCode old → (getSource
    (raise s src c sev ps) src).standing c = some old ∧ ((getSource (raise s src c sev ps) src).cause c).count = (((getSource s src).cause c).count +
    1) % 2 ^ 32 ∧ (if (getSource s src).unreachable then ((getSource (raise s src c sev ps) src).cause c).heldMerged else ((getSource (raise s src c
    sev ps) src).cause c).merged) = true ∧ raise s src c sev ps = { s with flt := { s.flt with sources := (raise s src c sev ps).flt.sources } } ∧ (∀
    x, x ≠ src → getSource (raise s src c sev ps) x = getSource s x))

/-- R339: when a cause occurs while latched at a lower severity, it is not merged: MERGED stays as it was, the latched severity becomes the new one,
the count rises, and the occurrence is recorded and reported by the same operation as a first occurrence (which the second half states). -/
def Obligations.CauseEscalates : Prop :=
  ∀ (s : State) (src c : Nat) (sev : Severity) (ps : List Nat), isSource src = true → c < 26 → sev ≠ .info → ¬((getSource s src).unreachable = true ∧
    isLevel c = true) → (∀ old, (getSource s src).standing c = some old → sevCode old < sevCode sev → ∃ u, raise s src c sev ps = report u src c sev
    (causeParams s src 0 ps) ∧ (getSource u src).standing c = some sev ∧ ((getSource u src).cause c).count = (((getSource s src).cause c).count + 1)
    % 2 ^ 32 ∧ ((getSource u src).cause c).merged = ((getSource s src).cause c).merged ∧ ((getSource u src).cause c).heldMerged = ((getSource s
    src).cause c).heldMerged ∧ u = { s with flt := { s.flt with sources := u.flt.sources } }) ∧ ((getSource s src).standing c = none → ∃ u, raise s
    src c sev ps = report u src c sev (causeParams s src 0 ps)) ∧ (∀ u ps, recording u = true → report u src c sev ps = sourceMsix (record u sev
    (0x1000 + c) src ps) src sev)

/-- R265: an END that issues makes the context idle with its timer cancelled and event 25 clear; the events of every wait group stay; the completion
of an invocation from a queue joins that queue's completions, with STATUS 0 outside the fault handler, and inside it the kind in FAULT unless
IMM[0] is 1. Where the context is a pooled one, an AtomicOp that waits for a context of the pool is tried again after that. -/
def Obligations.EndStepEndsInvocation : Prop :=
  ∀ (s : State) (c : CtxN) (f : StepF) (k : Ctx), issues s c.val 0x02 f → k = getCtx s c.val → (k.st = 2 ∨ k.st = 5) → ∃ t, exec (.stepEnd c f) s =
    .next (if c.val % 128 < 64 ∧ bindKind (bindRec s c.val) = 2 then wakeBlocked t else t) ∧ (getCtx t c.val).st = 1 ∧ (getCtx t c.val).timer = none
    ∧ bit (getCtx t c.val).ext 1 = false ∧ t.gecko.events = s.gecko.events ∧ (k.byQueue = true → look [] (getInst t k.inst).compls k.queue = look []
    (getInst s k.inst).compls k.queue ++ [complBytes k.tag (if k.handler = true ∧ bit f.imm.toNat 0 = false then k.fault else 0) ((k.steps + 1) % 2 ^
    32) (reg k 0) (reg k 1)])

/-- R166: where no region record of a gate has been set, as at reset, record 0 is valid and open over the whole window and the others are invalid;
then a tenant's access with a readable tag is refused only where its granule is quarantined (colour 0xFF). -/
def Obligations.DefaultRegionsAreOpen : Prop :=
  (∀ g n, has State.reset.tbl (tkey 0x4200 1 g n) = false) ∧ (∀ (s : State) (g : Nat), (∀ n, n < 64 → has s.tbl (tkey 0x4200 1 g n) = false) →
    regValid (regionRec s g 0) = true ∧ regPolicy (regionRec s g 0) = 1 ∧ regBase (regionRec s g 0) = 0 ∧ regLast (regionRec s g 0) = 0xFFFFFFF ∧ (∀
    n, 0 < n → n < 64 → regValid (regionRec s g n) = false) ∧ (∀ (loc i : Nat) (w : Bool), dpaTarget loc = g → tagLost s loc = false → gateKind s loc
    (.tenant i) w = if colourAt s (granuleOf loc) = 0xFF then 3 else 0))

/-- The atomic ring is served when it has a ready context and the cycle before did not serve it, or when the general ring is empty; the context
chosen is a ready one of the ring served, none of whose slots lies nearer at or after the ring's pointer; the pointer then moves one past it. -/
def Obligations.EngineServesRings : Prop :=
  ∀ (s : State) (e : Nat), (servesAtomic s e = true ↔ ready s e true ≠ [] ∧ (look false s.gecko.lastAtomic e = false ∨ ready s e false = [])) ∧ (∀ c
    k, engineChoice s e = some (c, k) → (c, k) ∈ ready s e (servesAtomic s e) ∧ (∀ x ∈ ready s e (servesAtomic s e), (k.slot + 72 - look 0
    s.gecko.rings (2 * e + b2n !servesAtomic s e)) % 72 ≤ (x.2.slot + 72 - look 0 s.gecko.rings (2 * e + b2n !servesAtomic s e)) % 72) ∧ look 0
    (spendCycle s e k.slot).gecko.rings (2 * e + b2n !servesAtomic s e) = (k.slot + 1) % 72) ∧ (engineChoice s e = none ↔ ready s e (servesAtomic s
    e) = [])

/-- When BUDGET is 0 and a step is due, the step is not executed and a step fault of kind 0x01 is taken, whichever step it is; a step that is not
defined or not allowed where it stands takes kind 0x0E. -/
def Obligations.NoStepOnEmptyBudget : Prop :=
  ∀ (i : Instr) (s : State) (c op : Nat) (f : StepF), stepOf i = some (c, op, f) → engineOn s (getCtx s c).engine = true → (engineChoice s (getCtx s
    c).engine).map (·.1) = some c → stepDue s (getCtx s c) op f = true → ((getCtx s c).budget = 0 → exec i s = .next (stepFault (spent s c) c 1 0 0))
    ∧ ((getCtx s c).budget ≠ 0 → (stepDefined (decide ((getCtx s c).table < 512)) (getCtx s c).sp op f = false ∨ notAllowed (getCtx s c) op f = true)
    → exec i s = .next (stepFault (account (spent s c) c) c 0x0E 0 0))

/-- A step that issues lowers BUDGET by 1, counts the step and stands at the next index; no other field of its context, no other context, no event,
no memory, no line, no instance state but its event counts, no fault source and nothing sent changes by that alone, and of the objects only the
engine's step counter. -/
def Obligations.StepFrame : Prop :=
  ∀ (s : State) (c : Nat), getCtx (stepped s c) c = { getCtx s c with budget := (getCtx s c).budget - 1, steps := ((getCtx s c).steps + 1) % 2 ^ 32, sp := ((getCtx s c).sp + 1) % 16384 }
    ∧ (∀ d, d ≠ c → getCtx (stepped s c) d = getCtx s d) ∧ (stepped s c).gecko.events = s.gecko.events ∧ (stepped s c).gecko.tables = s.gecko.tables
    ∧ (stepped s c).mem = s.mem ∧ (stepped s c).coh = s.coh ∧ (stepped s c).pool = s.pool ∧ (stepped s c).lit = s.lit ∧ (stepped s c).insts = s.insts
    ∧ (stepped s c).flt = s.flt ∧ (stepped s c).out = s.out ∧ (∀ idx sub q, okey idx sub q ≠ okey 0x8000 3 (getCtx s c).engine → rd (stepped s c) idx
    sub q = rd s idx sub q)

/-- At width 32 or 64: the sum and the difference modulo the word; C is the carry out, or the borrow (1 when the minuend is below the subtrahend plus
any borrow in); V says that the signed result leaves the word's range; Z and N are the result's; DZ stays. -/
def Obligations.AddAndSubtractFlags : Prop :=
  ∀ (w a b i : Nat) (f : Flags), (w = 32 ∨ w = 64) → a < 2 ^ w → b < 2 ^ w → i ≤ 1 → ((aluAdd w a b i f).1 = (a + b + i) % 2 ^ w ∧ ((aluAdd w a b i
    f).2.c = true ↔ 2 ^ w ≤ a + b + i) ∧ ((aluAdd w a b i f).2.v = true ↔ toSigned w (aluAdd w a b i f).1 ≠ toSigned w a + toSigned w b + i) ∧
    (aluAdd w a b i f).2.dz = f.dz) ∧ ((aluSub w a b i f).1 < 2 ^ w ∧ ((aluSub w a b i f).1 + b + i) % 2 ^ w = a ∧ ((aluSub w a b i f).2.c = true ↔ a
    < b + i) ∧ ((aluSub w a b i f).2.v = true ↔ toSigned w (aluSub w a b i f).1 ≠ toSigned w a - toSigned w b - i) ∧ ((aluSub w a b i f).2.z = true ↔
    (aluSub w a b i f).1 = 0) ∧ ((aluSub w a b i f).2.n = true ↔ toSigned w (aluSub w a b i f).1 < 0) ∧ (aluSub w a b i f).2.dz = f.dz)

/-- For a divisor other than 0 the quotient times the divisor plus the remainder is the dividend, unsigned and signed, with a remainder smaller than
the divisor and of the dividend's sign; the one signed overflow sets V and gives the most negative value; a divisor of 0 gives quotient 0, the
dividend as remainder, and sets DZ. -/
def Obligations.DivisionSteps : Prop :=
  ∀ (w a b : Nat) (f : Flags), (w = 32 ∨ w = 64) → a < 2 ^ w → b < 2 ^ w → (b ≠ 0 → (aluDivu w a b f).1 * b + (aluRemu w a b f).1 = a ∧ (aluRemu w a
    b f).1 < b ∧ (aluDivs w a b f).2.dz = f.dz ∧ (¬(a = 2 ^ (w - 1) ∧ b = 2 ^ w - 1) → toSigned w (aluDivs w a b f).1 * toSigned w b + toSigned w
    (aluRems w a b f).1 = toSigned w a ∧ (aluDivs w a b f).2.v = false) ∧ ((a = 2 ^ (w - 1) ∧ b = 2 ^ w - 1) → (aluDivs w a b f).1 = a ∧ (aluRems w a
    b f).1 = 0 ∧ (aluDivs w a b f).2.v = true)) ∧ (b = 0 → (aluDivu w a b f).1 = 0 ∧ (aluDivs w a b f).1 = 0 ∧ (aluRemu w a b f).1 = a ∧ (aluRems w a
    b f).1 = a ∧ (aluDivu w a b f).2.dz = true ∧ (aluRems w a b f).2.dz = true)

/-- While the actual mode reads 6, a read or a write of an index outside the ranges that RECOVERY keeps is answered ABSENT at Vendor privilege, and
at any level that has the right of the range; such a write changes nothing. -/
def Obligations.RecoveryHidesObjects : Prop :=
  ∀ (s : State) (it : Item) (w : Bool), modeNow s = 6 → ([0x1000, 0x1100, 0x1200, 0xC000, 0xC100, 0xD000, 0xD100, 0xE000].all fun a => decide (it.idx
    < a) || decide (a + 0x100 ≤ it.idx)) = true → it.idx < 0xF000 → reachChecks s .vendor it w = some .absent ∧ (∀ r d, descOf it.idx it.sub = some d
    → rangeRight r d w = true → reachChecks s r it w = some .absent) ∧ writeItem s .vendor it = (s, .absent) ∧ readItem s .vendor it = (.absent, [])

end
end

