-- ==== Sys2Proof/Laws/Frame.lean ====
section
/-!
SUPPORT. The rules of `Keeps`: what one operation leaves alone composes, through conditionals, folds and pairs. The base operations over
objects, records, counters and memory keep canonical forms.
-/
namespace Sys2Proof.Machine

open Sys2Proof

/-! Canonical sparse data. -/

theorem risingFrom_weaken {α : Type} {n m : Nat} (hle : n ≤ m) : ∀ {l : SMap α}, risingFrom m l = true → risingFrom n l = true
  | [], _ => rfl
  | (k, v) :: t, h => by
    simp only [risingFrom, Bool.and_eq_true, decide_eq_true_eq] at h ⊢
    exact ⟨by omega, h.2⟩

theorem risingFrom_put {α : Type} (k : Nat) (v : α) :
    ∀ {n : Nat} {l : SMap α}, n ≤ k → risingFrom n l = true → risingFrom n (put l k v) = true
  | n, [], hk, _ => by simp [put, risingFrom, hk]
  | n, (k', v') :: t, hk, h => by
    simp only [risingFrom, Bool.and_eq_true, decide_eq_true_eq] at h
    unfold put
    split
    · simp only [risingFrom, Bool.and_eq_true, decide_eq_true_eq]
      exact ⟨hk, by omega, h.2⟩
    · split
      · simp only [risingFrom, Bool.and_eq_true, decide_eq_true_eq]
        subst_vars
        exact ⟨h.1, h.2⟩
      · simp only [risingFrom, Bool.and_eq_true, decide_eq_true_eq]
        exact ⟨h.1, risingFrom_put k v (by omega) h.2⟩

theorem canonical_put {α : Type} {l : SMap α} (k : Nat) (v : α) (h : canonical l = true) : canonical (put l k v) = true :=
  risingFrom_put k v (Nat.zero_le k) h

theorem risingFrom_filter {α : Type} (p : Nat × α → Bool) : ∀ {n : Nat} {l : SMap α}, risingFrom n l = true → risingFrom n (l.filter p) = true
  | _, [], _ => rfl
  | n, (k, v) :: t, h => by
    simp only [risingFrom, Bool.and_eq_true, decide_eq_true_eq] at h
    rw [List.filter_cons]
    split
    · simp only [risingFrom, Bool.and_eq_true, decide_eq_true_eq]
      exact ⟨h.1, risingFrom_filter p h.2⟩
    · exact risingFrom_filter p (risingFrom_weaken (by omega) h.2)

theorem canonical_filter {α : Type} {l : SMap α} (p : Nat × α → Bool) (h : canonical l = true) : canonical (l.filter p) = true :=
  risingFrom_filter p h

theorem canonical_delIf {α : Type} {l : SMap α} (p : Nat → α → Bool) (h : canonical l = true) : canonical (delIf l p) = true :=
  canonical_filter _ h

theorem risingFrom_mapVals {α β : Type} (f : Nat → α → β) :
    ∀ {n : Nat} {l : SMap α}, risingFrom n l = true → risingFrom n (l.map fun e => (e.1, f e.1 e.2)) = true
  | _, [], _ => rfl
  | n, (k, v) :: t, h => by
    simp only [risingFrom, Bool.and_eq_true, decide_eq_true_eq] at h
    simp only [List.map_cons, risingFrom, Bool.and_eq_true, decide_eq_true_eq]
    exact ⟨h.1, risingFrom_mapVals f h.2⟩

theorem canonical_map {α β : Type} {l : SMap α} (f : Nat → α → β) (h : canonical l = true) :
    canonical (l.map fun e => (e.1, f e.1 e.2)) = true := risingFrom_mapVals f h

theorem canonical_putAll {α : Type} : ∀ (l : List (Nat × α)) {m : SMap α}, canonical m = true →
    canonical (l.foldl (fun a e => put a e.1 e.2) m) = true
  | [], _, h => h
  | e :: t, _, h => canonical_putAll t (canonical_put e.1 e.2 h)

/-! What a map reads after a write. -/

theorem look_put_same {α : Type} (d : α) (k : Nat) (v : α) : ∀ (m : SMap α), look d (put m k v) k = v
  | [] => by simp [put, look]
  | (k', v') :: t => by
    unfold put
    split
    · simp [look]
    · split
      · simp [look]
      · simp only [look]
        rw [if_neg (by assumption), look_put_same d k v t]

theorem look_put_other {α : Type} (d : α) {k j : Nat} (v : α) (hne : j ≠ k) : ∀ (m : SMap α), look d (put m k v) j = look d m j
  | [] => by simp [put, look, hne]
  | (k', v') :: t => by
    unfold put
    split
    · simp [look, hne]
    · split
      · subst_vars
        simp [look, hne]
      · simp only [look, look_put_other d v hne t]

/-! Memory. -/

theorem memWfFrom_weaken {n m : Nat} (hle : n ≤ m) : ∀ {l : List Host.Cell}, memWfFrom m l = true → memWfFrom n l = true
  | [], _ => rfl
  | (a, v) :: t, h => by
    simp only [memWfFrom, Bool.and_eq_true, decide_eq_true_eq] at h ⊢
    exact ⟨⟨by omega, h.1.2⟩, h.2⟩

theorem memWfFrom_write (k : Nat) (v : Byte) :
    ∀ {n : Nat} {l : List Host.Cell}, n ≤ k → memWfFrom n l = true → memWfFrom n (memWrite l k v) = true
  | n, [], hk, _ => by
    unfold memWrite
    split
    · rfl
    · simp [memWfFrom, *]
  | n, (a, w) :: t, hk, h => by
    simp only [memWfFrom, Bool.and_eq_true, decide_eq_true_eq] at h
    unfold memWrite
    split
    · split
      · simp [memWfFrom, h]
      · simp only [memWfFrom, Bool.and_eq_true, decide_eq_true_eq]
        exact ⟨⟨hk, by assumption⟩, ⟨by omega, h.1.2⟩, h.2⟩
    · split
      · subst_vars
        split
        · exact memWfFrom_weaken (by omega) h.2
        · simp only [memWfFrom, Bool.and_eq_true, decide_eq_true_eq]
          exact ⟨⟨hk, by assumption⟩, h.2⟩
      · simp only [memWfFrom, Bool.and_eq_true, decide_eq_true_eq]
        exact ⟨h.1, memWfFrom_write k v (by omega) h.2⟩

/-- A byte write keeps the canonical form of memory. -/
theorem memWrite_wf {m : List Host.Cell} (k : Nat) (v : Byte) (h : Memory.wf m = true) : Memory.wf (memWrite m k v) = true :=
  memWfFrom_write k v (Nat.zero_le k) h

/-- A write of bytes keeps it. -/
theorem memWrites_wf : ∀ (d : List Byte) {m : List Host.Cell} (a : Nat), Memory.wf m = true → Memory.wf (memWrites m a d) = true
  | [], _, _, h => h
  | b :: t, _, a, h => memWrites_wf t (a + 1) (memWrite_wf a b h)

theorem memWfFrom_filter (p : Host.Cell → Bool) : ∀ {n : Nat} {l : List Host.Cell}, memWfFrom n l = true → memWfFrom n (l.filter p) = true
  | _, [], _ => rfl
  | n, (a, v) :: t, h => by
    simp only [memWfFrom, Bool.and_eq_true, decide_eq_true_eq] at h
    rw [List.filter_cons]
    split
    · simp only [memWfFrom, Bool.and_eq_true, decide_eq_true_eq]
      exact ⟨h.1, memWfFrom_filter p h.2⟩
    · exact memWfFrom_filter p (memWfFrom_weaken (by omega) h.2)

/-- Clearing a range keeps it. -/
theorem memClear_wf {m : List Host.Cell} (lo hi : Nat) (h : Memory.wf m = true) : Memory.wf (memClear m lo hi) = true :=
  memWfFrom_filter _ h

/-! The rules of `Keeps`. -/

theorem Keeps.refl (s : State) : Keeps s s :=
  { pending := rfl, out := List.suffix_refl _, free := Nat.le_refl _, obj := id, blob := id, tbl := id, chg := id, mem := id }

theorem Keeps.trans {s t u : State} (h : Keeps s t) (k : Keeps t u) : Keeps s u :=
  { pending := k.pending.trans h.pending, out := h.out.trans k.out, free := Nat.le_trans h.free k.free
    obj := fun x => k.obj (h.obj x), blob := fun x => k.blob (h.blob x), tbl := fun x => k.tbl (h.tbl x)
    chg := fun x => k.chg (h.chg x), mem := fun x => k.mem (h.mem x) }

/-- An update of other fields. -/
theorem Keeps.lit {a x : State} {pending obj blob tbl chg mem out free} {clock mgmt flt mode lanes groups ports fns bridges ppb tiles links egress txns pool coh lit insts qos tele gecko pwr slots sec}
    (hp : pending = x.pending) (ho : out = x.out) (hf : free = x.free) (hobj : obj = x.obj) (hb : blob = x.blob) (ht : tbl = x.tbl)
    (hc : chg = x.chg) (hm : mem = x.mem) (h : Keeps a x) :
    Keeps a
      { pending, obj, blob, tbl, chg, clock, mgmt, flt, mode, lanes, groups, ports, fns, bridges, ppb, tiles, links, egress, txns, mem, pool
        coh, lit, insts, qos, tele, gecko, pwr, slots, sec, out, free } := by
  subst hp ho hf hobj hb ht hc hm
  exact ⟨h.pending, h.out, h.free, h.obj, h.blob, h.tbl, h.chg, h.mem⟩

theorem Keeps.ite {a x y : State} {c : Prop} [Decidable c] (h : Keeps a x) (k : Keeps a y) : Keeps a (if c then x else y) := by
  split
  · exact h
  · exact k

theorem Keeps.foldl {α : Type} {a s : State} {f : State → α → State} (l : List α) (hf : ∀ x e, Keeps a x → Keeps a (f x e)) (h : Keeps a s) :
    Keeps a (l.foldl f s) := by
  induction l generalizing s with
  | nil => exact h
  | cons e t ih => exact ih (hf s e h)

/-- A result with a second component. -/
structure KeepsP {α : Type} (s : State) (p : State × α) : Prop where
  fst : Keeps s p.1

theorem KeepsP.mk' {α : Type} {a x : State} {v : α} (h : Keeps a x) : KeepsP a (x, v) := ⟨h⟩

theorem KeepsP.ite {α : Type} {a : State} {x y : State × α} {c : Prop} [Decidable c] (h : KeepsP a x) (k : KeepsP a y) :
    KeepsP a (if c then x else y) := by
  split
  · exact h
  · exact k

theorem KeepsP.foldl {α β : Type} {a : State} {s : State × β} {f : State × β → α → State × β} (l : List α)
    (hf : ∀ x e, KeepsP a x → KeepsP a (f x e)) (h : KeepsP a s) : KeepsP a (l.foldl f s) := by
  induction l generalizing s with
  | nil => exact h
  | cons e t ih => exact ih (hf s e h)

/-- A state that may be absent. -/
structure KeepsO (s : State) (p : Option State) : Prop where
  get : ∀ x, p = Option.some x → Keeps s x

theorem KeepsO.some {a x : State} (h : Keeps a x) : KeepsO a (Option.some x) := ⟨fun y hy => by
  cases hy
  exact h⟩

theorem KeepsO.none {a : State} : KeepsO a Option.none := ⟨fun y hy => by cases hy⟩

theorem KeepsO.ite {a : State} {x y : Option State} {c : Prop} [Decidable c] (h : KeepsO a x) (k : KeepsO a y) :
    KeepsO a (if c then x else y) := by
  split
  · exact h
  · exact k

theorem KeepsO.of {a x : State} {p : Option State} (h : KeepsO a p) (e : p = Option.some x) : Keeps a x := h.get x e

/-- A result with a second component that may be absent. -/
structure KeepsOP {α : Type} (s : State) (p : Option (State × α)) : Prop where
  get : ∀ x, p = Option.some x → KeepsP s x

theorem KeepsOP.some {α : Type} {a : State} {x : State × α} (h : KeepsP a x) : KeepsOP a (Option.some x) := ⟨fun y hy => by
  cases hy
  exact h⟩

theorem KeepsOP.none {α : Type} {a : State} : KeepsOP a (Option.none : Option (State × α)) := ⟨fun y hy => by cases hy⟩

theorem KeepsOP.ite {α : Type} {a : State} {x y : Option (State × α)} {c : Prop} [Decidable c] (h : KeepsOP a x) (k : KeepsOP a y) :
    KeepsOP a (if c then x else y) := by
  split
  · exact h
  · exact k

theorem KeepsOP.of {α : Type} {a : State} {x : State × α} {p : Option (State × α)} (h : KeepsOP a p) (e : p = Option.some x) : KeepsP a x := h.get x e

theorem KeepsOP.ofPair {α : Type} {a x : State} {v : α} {p : Option (State × α)} (h : KeepsOP a p) (e : p = Option.some (x, v)) : Keeps a x :=
  (h.get (x, v) e).fst

/-! The base operations. -/

theorem wr_keeps {a s : State} (idx sub q v : Nat) (h : Keeps a s) : Keeps a (wr s idx sub q v) :=
  { h with obj := fun x => canonical_put _ _ (h.obj x) }

theorem wrBlob_keeps {a s : State} (idx sub q : Nat) (v : List Byte) (h : Keeps a s) : Keeps a (wrBlob s idx sub q v) :=
  { h with blob := fun x => canonical_put _ _ (h.blob x) }

theorem wrTbl_keeps {a s : State} (idx sub q n v : Nat) (h : Keeps a s) : Keeps a (wrTbl s idx sub q n v) :=
  { h with tbl := fun x => canonical_put _ _ (h.tbl x) }

theorem bumpChange_keeps {a s : State} (idx sub q : Nat) (h : Keeps a s) : Keeps a (bumpChange s idx sub q) :=
  { h with chg := fun x => canonical_put _ _ (h.chg x) }

theorem emit_keeps {a s : State} (o : Out) (h : Keeps a s) : Keeps a (emit s o) :=
  { h with out := h.out.trans (List.suffix_cons o s.out) }

theorem freeNext_keeps {a s : State} (h : Keeps a s) : Keeps a (freeNext s) :=
  { h with free := Nat.le_succ_of_le h.free }

theorem freeBool_keeps {a s : State} (h : Keeps a s) : Keeps a (freeBool s).2 := freeNext_keeps h

theorem finishWrite_keeps {a : State} (idx sub q : Nat) (x : State × Status) (h : KeepsP a x) : KeepsP a (finishWrite idx sub q x) := by
  unfold finishWrite
  split
  · exact ⟨bumpChange_keeps _ _ _ h.fst⟩
  · exact h

theorem keptObjs_canonical {s : State} (h : canonical s.obj = true) : canonical (keptObjs s) = true :=
  canonical_map (fun k v => if k / 65536 = 0x900002 ∧ v = 3 then 0 else v) (canonical_filter _ h)

end Sys2Proof.Machine
end

