-- ==== Sys2Proof/Laws/Keeps1.lean ====
section
/-!
SUPPORT. What the operations of Machine/Ops.lean, Machine/Faults.lean, Machine/Operands.lean, Machine/Notices.lean, Machine/TeleOps.lean
leave alone: each keeps the queue, every output already made, and the canonical forms (Safety.lean's Keeps).
-/
namespace Sys2Proof.Machine

open Sys2Proof

set_option linter.unusedTactic false
set_option linter.unreachableTactic false
set_option linter.unnecessarySeqFocus false

theorem bump_keeps {a0 : State} (s : State) (idx : Nat) (sub : Nat) (q : Nat) (w : Nat) (n : Nat) (hk : Keeps a0 s) :
    Keeps a0 (bump s idx sub q w n) := by
  unfold bump
  iterate 40 all_goals first | with_reducible assumption | with_reducible apply wr_keeps

theorem cmdEnd_keeps {a0 : State} (s : State) (idx : Nat) (sub : Nat) (q : Nat) (st : Nat) (reason : Nat) (hk : Keeps a0 s) :
    Keeps a0 (cmdEnd s idx sub q st reason) := by
  unfold cmdEnd
  iterate 40 all_goals first | with_reducible assumption | with_reducible apply wr_keeps

theorem cmdStart_keeps {a0 : State} (s : State) (idx : Nat) (sub : Nat) (q : Nat) (hk : Keeps a0 s) :
    Keeps a0 (cmdStart s idx sub q) := by
  unfold cmdStart
  iterate 40 all_goals first | with_reducible assumption | with_reducible apply wr_keeps

theorem cmdDone_keeps {a0 : State} (s : State) (idx : Nat) (sub : Nat) (q : Nat) (reason : Nat) (hk : Keeps a0 s) :
    Keeps a0 (cmdDone s idx sub q reason) := by
  unfold cmdDone
  iterate 40 all_goals first | with_reducible assumption | with_reducible apply cmdEnd_keeps | with_reducible apply cmdStart_keeps

theorem setSource_keeps {a0 : State} (s : State) (src : Nat) (v : Source) (hk : Keeps a0 s) :
    Keeps a0 (setSource s src v) := by
  unfold setSource
  iterate 40 all_goals first | with_reducible assumption | fail_if_no_progress (with_reducible refine Keeps.lit rfl rfl rfl rfl rfl rfl rfl rfl ?_)

theorem sendNotices_keeps {a0 : State} (s : State) (r : Rec) (hk : Keeps a0 s) :
    Keeps a0 (sendNotices s r) := by
  unfold sendNotices
  exact (hk).trans { pending := rfl, out := List.suffix_append _ _, free := Nat.le_refl _, obj := id, blob := id, tbl := id, chg := id, mem := id }

theorem countLost_keeps {a0 : State} (s : State) (sev : Severity) (hk : Keeps a0 s) :
    Keeps a0 (countLost s sev) := by
  unfold countLost
  iterate 40 all_goals first | with_reducible assumption | with_reducible apply wrTbl_keeps

theorem ringPush_keeps {a0 : State} (s : State) (r : Rec) (hk : Keeps a0 s) :
    Keeps a0 (ringPush s r) := by
  unfold ringPush
  iterate 40 all_goals first
    | with_reducible assumption | with_reducible apply countLost_keeps
    | fail_if_no_progress (with_reducible refine Keeps.lit rfl rfl rfl rfl rfl rfl rfl rfl ?_) | split

theorem record_keeps {a0 : State} (s : State) (sev : Severity) (event : Nat) (src : Nat) (params : List Nat) (hk : Keeps a0 s) :
    Keeps a0 (record s sev event src params) := by
  unfold record
  iterate 40 all_goals first
    | with_reducible assumption | with_reducible apply sendNotices_keeps | with_reducible apply ringPush_keeps
    | fail_if_no_progress (with_reducible refine Keeps.lit rfl rfl rfl rfl rfl rfl rfl rfl ?_)

theorem unlatchLevel_keeps {a0 : State} (s : State) (src : Nat) (c : Nat) (why : Nat) (hk : Keeps a0 s) :
    Keeps a0 (unlatchLevel s src c why) := by
  unfold unlatchLevel
  iterate 40 all_goals first
    | with_reducible assumption | with_reducible apply setSource_keeps | with_reducible apply record_keeps | with_reducible apply Keeps.ite

theorem endLevel_keeps {a0 : State} (s : State) (src : Nat) (c : Nat) (hk : Keeps a0 s) :
    Keeps a0 (endLevel s src c) := by
  unfold endLevel
  iterate 40 all_goals first | with_reducible assumption | with_reducible apply unlatchLevel_keeps

theorem sourceMsix_keeps {a0 : State} (s : State) (src : Nat) (sev : Severity) (hk : Keeps a0 s) :
    Keeps a0 (sourceMsix s src sev) := by
  unfold sourceMsix
  iterate 40 all_goals first
    | with_reducible assumption | with_reducible apply emit_keeps
    | fail_if_no_progress (with_reducible refine Keeps.lit rfl rfl rfl rfl rfl rfl rfl rfl ?_) | split

theorem report_keeps {a0 : State} (s : State) (src : Nat) (c : Nat) (sev : Severity) (params : List Nat) (hk : Keeps a0 s) :
    Keeps a0 (report s src c sev params) := by
  unfold report
  iterate 40 all_goals first
    | with_reducible assumption | with_reducible apply sourceMsix_keeps | with_reducible apply record_keeps | with_reducible apply Keeps.ite

theorem latchCause_keeps {a0 : State} (s : State) (src : Nat) (c : Nat) (sev : Severity) (params : List Nat) (hk : Keeps a0 s) :
    Keeps a0 (latchCause s src c sev params) := by
  unfold latchCause
  iterate 40 all_goals first | with_reducible assumption | with_reducible apply report_keeps | with_reducible apply setSource_keeps

theorem raiseEv_keeps {a0 : State} (s : State) (src : Nat) (c : Nat) (sev : Severity) (p0 : Nat) (ps : List Nat) (always : Bool) (hk : Keeps a0 s) :
    Keeps a0 (raiseEv s src c sev p0 ps always) := by
  unfold raiseEv
  iterate 40 all_goals first
    | with_reducible assumption | with_reducible apply record_keeps | with_reducible apply latchCause_keeps | with_reducible apply setSource_keeps
    | with_reducible apply report_keeps | with_reducible apply Keeps.ite | split

theorem raise_keeps {a0 : State} (s : State) (src : Nat) (c : Nat) (sev : Severity) (ps : List Nat) (hk : Keeps a0 s) :
    Keeps a0 (raise s src c sev ps) := by
  unfold raise
  iterate 40 all_goals first | with_reducible assumption | with_reducible apply raiseEv_keeps

theorem setFn_keeps {a0 : State} (s : State) (k : Nat) (v : FnSt) (hk : Keeps a0 s) :
    Keeps a0 (setFn s k v) := by
  unfold setFn
  iterate 40 all_goals first | with_reducible assumption | fail_if_no_progress (with_reducible refine Keeps.lit rfl rfl rfl rfl rfl rfl rfl rfl ?_)

theorem msixSend_keeps {a0 : State} (s : State) (k : Nat) (vector : Nat) (hk : Keeps a0 s) :
    Keeps a0 (msixSend s k vector) := by
  unfold msixSend
  iterate 40 all_goals first
    | with_reducible assumption | with_reducible apply emit_keeps | with_reducible apply setFn_keeps | with_reducible apply Keeps.ite

theorem sendOdp_keeps {a0 : State} (s : State) (t : Transport) (m : OdpMsg) (hk : Keeps a0 s) :
    Keeps a0 (sendOdp s t m) := by
  unfold sendOdp
  exact (hk).trans { pending := rfl, out := List.suffix_append _ _, free := Nat.le_refl _, obj := id, blob := id, tbl := id, chg := id, mem := id }

theorem holdSource_keeps {a0 : State} (s : State) (src : Nat) (hk : Keeps a0 s) :
    Keeps a0 (holdSource s src) := by
  unfold holdSource
  iterate 40 all_goals first
    | intro _ | with_reducible assumption | with_reducible apply unlatchLevel_keeps | with_reducible apply setSource_keeps
    | with_reducible apply Keeps.ite | with_reducible apply Keeps.foldl

theorem holdTileSources_keeps {a0 : State} (s : State) (t : Nat) (hk : Keeps a0 s) :
    Keeps a0 (holdTileSources s t) := by
  unfold holdTileSources
  iterate 40 all_goals first | with_reducible assumption | with_reducible apply holdSource_keeps | with_reducible apply Keeps.foldl

theorem clearCause_keeps {a0 : State} (s : State) (src : Nat) (c : Nat) (hk : Keeps a0 s) :
    Keeps a0 (clearCause s src c) := by
  unfold clearCause
  iterate 40 all_goals first
    | with_reducible assumption | with_reducible apply setSource_keeps | with_reducible apply record_keeps | with_reducible apply Keeps.ite

theorem clearMaskOf_keeps {a0 : State} (s : State) (src : Nat) (mask : Nat) (hk : Keeps a0 s) :
    Keeps a0 (clearMaskOf s src mask) := by
  unfold clearMaskOf
  iterate 40 all_goals first
    | intro _ | with_reducible assumption | with_reducible apply clearCause_keeps | with_reducible apply Keeps.ite
    | with_reducible apply Keeps.foldl

theorem clearSame_keeps {a0 : State} (s : State) (src : Nat) (mask : Nat) (o : Option CauseOcc) (hk : Keeps a0 s) :
    Keeps a0 (clearSame s src mask o) := by
  unfold clearSame
  iterate 40 all_goals first | with_reducible assumption | with_reducible apply clearMaskOf_keeps | with_reducible apply raise_keeps | split

theorem clearAllSources_keeps {a0 : State} (s : State) (hk : Keeps a0 s) :
    Keeps a0 (clearAllSources s) := by
  unfold clearAllSources
  iterate 40 all_goals first | intro _ | with_reducible assumption | with_reducible apply clearMaskOf_keeps | with_reducible apply Keeps.foldl

theorem eraseStore_keeps {a0 : State} (s : State) (hk : Keeps a0 s) :
    Keeps a0 (eraseStore s) := by
  unfold eraseStore
  iterate 40 all_goals first
    | with_reducible assumption | with_reducible apply cmdDone_keeps | with_reducible apply cmdStart_keeps | with_reducible apply record_keeps
    | with_reducible apply wr_keeps | with_reducible apply Keeps.ite
    | fail_if_no_progress (with_reducible refine Keeps.lit rfl rfl rfl rfl rfl rfl rfl rfl ?_)

theorem commitRec_keeps {a0 : State} (s : State) (r : Rec) (hk : Keeps a0 s) :
    Keeps a0 (commitRec s r) := by
  unfold commitRec
  iterate 40 all_goals first
    | with_reducible assumption | with_reducible apply countLost_keeps
    | fail_if_no_progress (with_reducible refine Keeps.lit rfl rfl rfl rfl rfl rfl rfl rfl ?_) | split

theorem commitAll_keeps {a0 : State} (n : Nat) (s : State) (hk : Keeps a0 s) :
    Keeps a0 (commitAll n s) := by
  induction n generalizing s with
  | zero =>
    unfold commitAll
    first
      | exact hk
  | succ n ih =>
    unfold commitAll
    iterate 40 all_goals first | with_reducible assumption | with_reducible apply ih | with_reducible apply commitRec_keeps | split

theorem retryStore_keeps {a0 : State} (s : State) (answers : Bool) (hk : Keeps a0 s) :
    Keeps a0 (retryStore s answers) := by
  unfold retryStore
  iterate 40 all_goals first
    | with_reducible assumption | with_reducible apply commitAll_keeps | with_reducible apply wr_keeps | with_reducible apply cmdStart_keeps
    | with_reducible apply record_keeps | with_reducible apply endLevel_keeps | with_reducible apply cmdEnd_keeps
    | with_reducible apply cmdDone_keeps | with_reducible apply Keeps.ite
    | fail_if_no_progress (with_reducible refine Keeps.lit rfl rfl rfl rfl rfl rfl rfl rfl ?_)

theorem freeSource_keeps {a0 : State} (s : State) (src : Nat) (hk : Keeps a0 s) :
    Keeps a0 (freeSource s src) := by
  unfold freeSource
  iterate 40 all_goals first | with_reducible assumption | with_reducible apply setSource_keeps

theorem freeSources_keeps {a0 : State} (s : State) (l : List Nat) (hk : Keeps a0 s) :
    Keeps a0 (freeSources s l) := by
  unfold freeSources
  iterate 40 all_goals first | with_reducible assumption | with_reducible apply freeSource_keeps | with_reducible apply Keeps.foldl

theorem rescanCause_keeps {a0 : State} (s : State) (src : Nat) (c : Nat) (hk : Keeps a0 s) :
    Keeps a0 (rescanCause s src c) := by
  unfold rescanCause
  iterate 40 all_goals first
    | with_reducible assumption | with_reducible apply record_keeps | with_reducible apply setSource_keeps | with_reducible apply Keeps.ite

theorem rescanAll_keeps {a0 : State} (s : State) (hk : Keeps a0 s) :
    Keeps a0 (rescanAll s) := by
  unfold rescanAll
  iterate 40 all_goals first
    | intro _ | with_reducible assumption | with_reducible apply rescanCause_keeps | with_reducible apply Keeps.foldl
    | fail_if_no_progress (with_reducible refine Keeps.lit rfl rfl rfl rfl rfl rfl rfl rfl ?_)

theorem storeFails_keeps {a0 : State} (s : State) (hk : Keeps a0 s) :
    Keeps a0 (storeFails s) := by
  unfold storeFails
  iterate 40 all_goals first
    | with_reducible assumption | with_reducible apply wr_keeps | with_reducible apply cmdEnd_keeps | with_reducible apply raise_keeps
    | with_reducible apply Keeps.ite | fail_if_no_progress (with_reducible refine Keeps.lit rfl rfl rfl rfl rfl rfl rfl rfl ?_)

theorem settleViews_keeps {a0 : State} (s : State) (hk : Keeps a0 s) :
    Keeps a0 (settleViews s) := by
  unfold settleViews
  iterate 40 all_goals first
    | intro _ | with_reducible assumption | with_reducible apply endLevel_keeps | with_reducible apply Keeps.ite | with_reducible apply Keeps.foldl
    | fail_if_no_progress (with_reducible refine Keeps.lit rfl rfl rfl rfl rfl rfl rfl rfl ?_)

theorem rowWrite_keeps {a0 : State} (s : State) (r : Requester) (idx : Nat) (sub : Nat) (q : Nat) (v : List Byte) (h : State → State × Status) (hh : ∀ a x, Keeps a x → KeepsP a (h x)) (hk : Keeps a0 s) :
    Keeps a0 (rowWrite s r idx sub q v h) := by
  unfold rowWrite
  iterate 40 all_goals first
    | with_reducible assumption | with_reducible apply hh | with_reducible apply emit_keeps | with_reducible apply settleViews_keeps
    | with_reducible apply finishWrite_keeps | with_reducible apply KeepsP.fst | split

theorem setInst_keeps {a0 : State} (s : State) (i : Nat) (v : InstSt) (hk : Keeps a0 s) :
    Keeps a0 (setInst s i v) := by
  unfold setInst
  iterate 40 all_goals first | with_reducible assumption | fail_if_no_progress (with_reducible refine Keeps.lit rfl rfl rfl rfl rfl rfl rfl rfl ?_)

theorem setCtx_keeps {a0 : State} (s : State) (c : Nat) (v : Ctx) (hk : Keeps a0 s) :
    Keeps a0 (setCtx s c v) := by
  unfold setCtx
  iterate 40 all_goals first | with_reducible assumption | fail_if_no_progress (with_reducible refine Keeps.lit rfl rfl rfl rfl rfl rfl rfl rfl ?_)

theorem instMsix_keeps {a0 : State} (s : State) (i : Nat) (vec : Nat) (hk : Keeps a0 s) :
    Keeps a0 (instMsix s i vec) := by
  unfold instMsix
  iterate 40 all_goals first | with_reducible assumption | with_reducible apply msixSend_keeps | split

theorem consume_keeps {a0 : State} (s : State) (c : Nat) (ev : Nat) (hk : Keeps a0 s) :
    Keeps a0 (consume s c ev) := by
  unfold consume
  iterate 40 all_goals first
    | with_reducible assumption | with_reducible apply setCtx_keeps | with_reducible apply Keeps.ite
    | fail_if_no_progress (with_reducible refine Keeps.lit rfl rfl rfl rfl rfl rfl rfl rfl ?_)

theorem tryWake_keeps {a0 : State} (s : State) (c : Nat) (hk : Keeps a0 s) :
    Keeps a0 (tryWake s c) := by
  unfold tryWake
  iterate 40 all_goals first
    | with_reducible assumption | with_reducible apply consume_keeps | with_reducible apply setCtx_keeps | with_reducible apply Keeps.ite | split

theorem raiseExt_keeps {a0 : State} (s : State) (c : Nat) (ev : Nat) (hk : Keeps a0 s) :
    Keeps a0 (raiseExt s c ev) := by
  unfold raiseExt
  iterate 40 all_goals first | with_reducible assumption | with_reducible apply tryWake_keeps | with_reducible apply setCtx_keeps

theorem pushNotice_keeps {a0 : State} (s : State) (i : Nat) (kind : Nat) (params : List Byte) (hk : Keeps a0 s) :
    Keeps a0 (pushNotice s i kind params) := by
  unfold pushNotice
  iterate 40 all_goals first
    | intro _ | with_reducible assumption | with_reducible apply setInst_keeps | with_reducible apply wr_keeps | with_reducible apply instMsix_keeps
    | with_reducible apply raiseExt_keeps | with_reducible apply Keeps.foldl

theorem postDevice_keeps {a0 : State} (s : State) (i : Nat) (kind : Nat) (params : List Byte) (hk : Keeps a0 s) :
    Keeps a0 (postDevice s i kind params) := by
  unfold postDevice
  iterate 40 all_goals first
    | with_reducible assumption | with_reducible apply setInst_keeps | with_reducible apply bump_keeps | with_reducible apply pushNotice_keeps
    | with_reducible apply Keeps.ite

theorem postEvent_keeps {a0 : State} (s : State) (i : Nat) (log : Nat) (body : List Byte) (hk : Keeps a0 s) :
    Keeps a0 (postEvent s i log body) := by
  unfold postEvent
  iterate 40 all_goals first
    | with_reducible assumption | with_reducible apply setInst_keeps | with_reducible apply instMsix_keeps | with_reducible apply Keeps.ite

theorem signalGroup_keeps {a0 : State} (s : State) (cl : Nat) (g : Nat) (ev : Nat) (hk : Keeps a0 s) :
    Keeps a0 (signalGroup s cl g ev) := by
  unfold signalGroup
  iterate 40 all_goals first
    | with_reducible assumption | with_reducible apply tryWake_keeps
    | fail_if_no_progress (with_reducible refine Keeps.lit rfl rfl rfl rfl rfl rfl rfl rfl ?_) | dsimp only | split

theorem setCounter_keeps {a0 : State} (s : State) (u : Nat) (slot : Nat) (w : Nat) (hk : Keeps a0 s) :
    Keeps a0 (setCounter s u slot w) := by
  unfold setCounter
  iterate 40 all_goals first | with_reducible assumption | fail_if_no_progress (with_reducible refine Keeps.lit rfl rfl rfl rfl rfl rfl rfl rfl ?_)

theorem largeEvent_keeps {a0 : State} (s : State) (u : Nat) (e : Nat) (n : Nat) (hk : Keeps a0 s) :
    Keeps a0 (largeEvent s u e n) := by
  unfold largeEvent
  iterate 40 all_goals first | with_reducible assumption | with_reducible apply setCounter_keeps

theorem linkEvent_keeps {a0 : State} (s : State) (l : Nat) (up : Bool) (e : Nat) (n : Nat) (hk : Keeps a0 s) :
    Keeps a0 (linkEvent s l up e n) := by
  unfold linkEvent
  iterate 40 all_goals first | with_reducible assumption | with_reducible apply largeEvent_keeps

theorem smallEvent_keeps {a0 : State} (s : State) (u : Nat) (code : Nat) (n : Nat) (port : Nat) (inst : Option Nat) (cls : Nat) (hk : Keeps a0 s) :
    Keeps a0 (smallEvent s u code n port inst cls) := by
  unfold smallEvent
  iterate 40 all_goals first
    | intro _ | with_reducible assumption | with_reducible apply setCounter_keeps | with_reducible apply Keeps.ite
    | with_reducible apply Keeps.foldl

theorem portEvent_keeps {a0 : State} (s : State) (p : Nat) (code : Nat) (n : Nat) (inst : Option Nat) (cls : Nat) (hk : Keeps a0 s) :
    Keeps a0 (portEvent s p code n inst cls) := by
  unfold portEvent
  iterate 40 all_goals first | with_reducible assumption | with_reducible apply smallEvent_keeps

theorem endSample_keeps {a0 : State} (s : State) (x : Option Sample) (hk : Keeps a0 s) :
    Keeps a0 (endSample s x) := by
  unfold endSample
  iterate 40 all_goals first
    | with_reducible assumption | with_reducible apply bump_keeps | with_reducible apply wrTbl_keeps | with_reducible apply wr_keeps
    | fail_if_no_progress (with_reducible refine Keeps.lit rfl rfl rfl rfl rfl rfl rfl rfl ?_) | split

theorem instEvent_keeps {a0 : State} (s : State) (i : Nat) (n : Nat) (t : Nat) (k : Nat) (hk : Keeps a0 s) :
    Keeps a0 (instEvent s i n t k) := by
  unfold instEvent
  iterate 40 all_goals first
    | with_reducible assumption | with_reducible apply Keeps.ite
    | fail_if_no_progress (with_reducible refine Keeps.lit rfl rfl rfl rfl rfl rfl rfl rfl ?_)

theorem clusterEvent_keeps {a0 : State} (s : State) (cl : Nat) (code : Nat) (n : Nat) (inst : Option Nat) (hk : Keeps a0 s) :
    Keeps a0 (clusterEvent s cl code n inst) := by
  unfold clusterEvent
  iterate 40 all_goals first | with_reducible assumption | with_reducible apply smallEvent_keeps

theorem setWin_keeps {a0 : State} (s : State) (p : Nat) (v : WindowSt) (hk : Keeps a0 s) :
    Keeps a0 (setWin s p v) := by
  unfold setWin
  iterate 40 all_goals first | with_reducible assumption | fail_if_no_progress (with_reducible refine Keeps.lit rfl rfl rfl rfl rfl rfl rfl rfl ?_)

theorem markWindow_keeps {a0 : State} (s : State) (p : Nat) (down : Bool) (hk : Keeps a0 s) :
    Keeps a0 (markWindow s p down) := by
  unfold markWindow
  iterate 40 all_goals first | with_reducible assumption | with_reducible apply setWin_keeps | with_reducible apply Keeps.ite

theorem clearInstCounters_keeps {a0 : State} (s : State) (i : Nat) (hk : Keeps a0 s) :
    Keeps a0 (clearInstCounters s i) := by
  unfold clearInstCounters
  iterate 40 all_goals first | with_reducible assumption | fail_if_no_progress (with_reducible refine Keeps.lit rfl rfl rfl rfl rfl rfl rfl rfl ?_)

theorem controlWrite_keeps {a0 : State} (s : State) (u : Nat) (n : Nat) (r : Nat) (hk : Keeps a0 s) :
    KeepsP a0 (controlWrite s u n r) := by
  unfold controlWrite
  iterate 40 all_goals first
    | with_reducible assumption | with_reducible apply setCounter_keeps | with_reducible apply wrTbl_keeps | with_reducible apply KeepsP.ite
    | fail_if_no_progress (with_reducible apply KeepsP.mk' <;> try with_reducible apply KeepsP.fst)

theorem dropWindow_keeps {a0 : State} (s : State) (p : Nat) (hk : Keeps a0 s) :
    Keeps a0 (dropWindow s p) := by
  unfold dropWindow
  iterate 40 all_goals first | with_reducible assumption | with_reducible apply wr_keeps | with_reducible apply Keeps.ite

theorem resetUnits_keeps {a0 : State} (s : State) (p : Nat → Bool) (hk : Keeps a0 s) :
    Keeps a0 (resetUnits s p) := by
  unfold resetUnits
  iterate 40 all_goals first | with_reducible assumption | fail_if_no_progress (with_reducible refine Keeps.lit rfl rfl rfl rfl rfl rfl rfl rfl ?_)

theorem clearOverflow_keeps {a0 : State} (s : State) (u : Nat) (mask : Nat) (hits : Nat) (hk : Keeps a0 s) :
    Keeps a0 (clearOverflow s u mask hits) := by
  unfold clearOverflow
  iterate 40 all_goals first
    | intro _ | with_reducible assumption | with_reducible apply setCounter_keeps | with_reducible apply Keeps.ite
    | with_reducible apply Keeps.foldl

theorem clearInstOverflow_keeps {a0 : State} (s : State) (i : Nat) (hk : Keeps a0 s) :
    Keeps a0 (clearInstOverflow s i) := by
  unfold clearInstOverflow
  iterate 40 all_goals first | with_reducible assumption | fail_if_no_progress (with_reducible refine Keeps.lit rfl rfl rfl rfl rfl rfl rfl rfl ?_)

theorem windowLengthWrite_keeps {a0 : State} (s : State) (p : Nat) (v : Nat) (hk : Keeps a0 s) :
    KeepsP a0 (windowLengthWrite s p v) := by
  unfold windowLengthWrite
  iterate 40 all_goals first
    | with_reducible assumption | with_reducible apply wr_keeps | with_reducible apply dropWindow_keeps | with_reducible apply Keeps.ite
    | fail_if_no_progress (with_reducible apply KeepsP.mk' <;> try with_reducible apply KeepsP.fst)

theorem openWindow_keeps {a0 : State} (s : State) (p : Nat) (seq : Nat) (hk : Keeps a0 s) :
    Keeps a0 (openWindow s p seq) := by
  unfold openWindow
  iterate 40 all_goals first | with_reducible assumption | with_reducible apply setWin_keeps

theorem windowStartWrite_keeps {a0 : State} (s : State) (p : Nat) (hk : Keeps a0 s) :
    KeepsP a0 (windowStartWrite s p) := by
  unfold windowStartWrite
  iterate 40 all_goals first
    | with_reducible assumption | with_reducible apply openWindow_keeps | with_reducible apply wr_keeps | with_reducible apply cmdDone_keeps
    | with_reducible apply KeepsP.ite | fail_if_no_progress (with_reducible apply KeepsP.mk' <;> try with_reducible apply KeepsP.fst)

theorem windowResult_keeps {a0 : State} (s : State) (p : Nat) (cycles : Nat) (isPartial : Bool) (hk : Keeps a0 s) :
    KeepsP a0 (windowResult s p cycles isPartial) := by
  unfold windowResult
  iterate 40 all_goals first
    | with_reducible assumption | with_reducible apply freeNext_keeps
    | fail_if_no_progress (with_reducible apply KeepsP.mk' <;> try with_reducible apply KeepsP.fst)

theorem writeResult_keeps {a0 : State} (s : State) (p : Nat) (r : List Byte) (hk : Keeps a0 s) :
    Keeps a0 (writeResult s p r) := by
  unfold writeResult
  iterate 40 all_goals first
    | intro _ | with_reducible assumption | with_reducible apply bump_keeps | with_reducible apply wrBlob_keeps | with_reducible apply wrTbl_keeps
    | with_reducible apply Keeps.foldl

theorem windowStopWrite_keeps {a0 : State} (s : State) (p : Nat) (hk : Keeps a0 s) :
    KeepsP a0 (windowStopWrite s p) := by
  unfold windowStopWrite
  iterate 40 all_goals first
    | with_reducible assumption | with_reducible apply windowResult_keeps | with_reducible apply cmdDone_keeps | with_reducible apply wr_keeps
    | with_reducible apply writeResult_keeps | with_reducible apply KeepsP.ite
    | fail_if_no_progress (with_reducible apply KeepsP.mk' <;> try with_reducible apply KeepsP.fst) | with_reducible apply KeepsP.fst

theorem prngStep_keeps {a0 : State} (s : State) (g : Nat) (t : Nat) (hk : Keeps a0 s) :
    KeepsP a0 (prngStep s g t) := by
  unfold prngStep
  iterate 40 all_goals first
    | with_reducible assumption | fail_if_no_progress (with_reducible apply KeepsP.mk' <;> try with_reducible apply KeepsP.fst)
    | fail_if_no_progress (with_reducible refine Keeps.lit rfl rfl rfl rfl rfl rfl rfl rfl ?_)

theorem tagRequest_keeps {a0 : State} (s : State) (t : Nat) (g : Nat) (i : Option Nat) (x : Sample) (hk : Keeps a0 s) :
    KeepsP a0 (tagRequest s t g i x) := by
  unfold tagRequest
  iterate 40 all_goals first
    | with_reducible assumption | with_reducible apply prngStep_keeps | with_reducible apply KeepsP.ite
    | fail_if_no_progress (with_reducible apply KeepsP.mk' <;> try with_reducible apply KeepsP.fst)

theorem endWindow_keeps {a0 : State} (s : State) (p : Nat) (hk : Keeps a0 s) :
    Keeps a0 (endWindow s p) := by
  unfold endWindow
  iterate 40 all_goals first
    | with_reducible assumption | with_reducible apply windowResult_keeps | with_reducible apply writeResult_keeps | with_reducible apply wr_keeps
    | with_reducible apply setWin_keeps | with_reducible apply Keeps.ite | with_reducible apply KeepsP.fst

end Sys2Proof.Machine
end

