-- ==== Sys2Proof/Laws/Keeps2.lean ====
section
/-!
SUPPORT. What the operations of Machine/PoolOps.lean, Machine/FrameOps.lean, Machine/GateOps.lean
leave alone: each keeps the queue, every output already made, and the canonical forms (Safety.lean's Keeps).
-/
namespace Sys2Proof.Machine

open Sys2Proof

set_option linter.unusedTactic false
set_option linter.unreachableTactic false
set_option linter.unnecessarySeqFocus false

theorem setTgt_keeps {a0 : State} (s : State) (t : Nat) (v : Target) (hk : Keeps a0 s) :
    Keeps a0 (setTgt s t v) := by
  unfold setTgt
  iterate 40 all_goals first | with_reducible assumption | fail_if_no_progress (with_reducible refine Keeps.lit rfl rfl rfl rfl rfl rfl rfl rfl ?_)

theorem cacheDropIf_keeps {a0 : State} (s : State) (slot : Nat) (p : Nat → Bool) (hk : Keeps a0 s) :
    Keeps a0 (cacheDropIf s slot p) := by
  unfold cacheDropIf
  iterate 40 all_goals first
    | intro _ | with_reducible assumption | with_reducible apply bump_keeps | with_reducible apply Keeps.ite | with_reducible apply Keeps.foldl
    | fail_if_no_progress (with_reducible refine Keeps.lit rfl rfl rfl rfl rfl rfl rfl rfl ?_)

theorem dropBlks_keeps {a0 : State} (s : State) (t : Nat) (p : Nat → Bool) (hk : Keeps a0 s) :
    Keeps a0 (dropBlks s t p) := by
  unfold dropBlks
  iterate 40 all_goals first | with_reducible assumption | with_reducible apply cacheDropIf_keeps

theorem leavePool_keeps {a0 : State} (s : State) (t : Nat) (hk : Keeps a0 s) :
    Keeps a0 (leavePool s t) := by
  unfold leavePool
  iterate 40 all_goals first
    | with_reducible assumption | with_reducible apply dropBlks_keeps | with_reducible apply setTgt_keeps | with_reducible apply wr_keeps

theorem failJoin_keeps {a0 : State} (s : State) (t : Nat) (result : Nat) (hk : Keeps a0 s) :
    Keeps a0 (failJoin s t result) := by
  unfold failJoin
  iterate 40 all_goals first | with_reducible assumption | with_reducible apply wr_keeps | with_reducible apply leavePool_keeps

theorem cachePut_keeps {a0 : State} (s : State) (slot : Nat) (t : Nat) (key : Nat) (hk : Keeps a0 s) :
    Keeps a0 (cachePut s slot t key) := by
  unfold cachePut
  iterate 40 all_goals first
    | with_reducible assumption | with_reducible apply freeNext_keeps | with_reducible apply Keeps.ite
    | fail_if_no_progress (with_reducible refine Keeps.lit rfl rfl rfl rfl rfl rfl rfl rfl ?_)

theorem writeLine_keeps {a0 : State} (s : State) (loc : Nat) (d : List Byte) (bad : Bool) (hk : Keeps a0 s) :
    Keeps a0 (writeLine s loc d bad) := by
  unfold writeLine
  exact (hk).trans { pending := rfl, out := List.suffix_refl _, free := Nat.le_refl _, obj := id, blob := id, tbl := id, chg := id, mem := memWrites_wf _ _ }

theorem cacheTouch_keeps {a0 : State} (s : State) (kind : Nat) (t : Nat) (key : Nat) (hk : Keeps a0 s) :
    Keeps a0 (cacheTouch s kind t key) := by
  unfold cacheTouch
  iterate 40 all_goals first
    | with_reducible assumption | with_reducible apply bump_keeps | with_reducible apply largeEvent_keeps | with_reducible apply Keeps.ite
    | fail_if_no_progress (with_reducible refine Keeps.lit rfl rfl rfl rfl rfl rfl rfl rfl ?_) | split

theorem dropRemap_keeps {a0 : State} (s : State) (g : Nat) (hk : Keeps a0 s) :
    Keeps a0 (dropRemap s g) := by
  unfold dropRemap
  iterate 40 all_goals first | with_reducible assumption | with_reducible apply cacheDropIf_keeps

theorem delRemap_keeps {a0 : State} (s : State) (g : Nat) (hk : Keeps a0 s) :
    Keeps a0 (delRemap s g) := by
  unfold delRemap
  iterate 40 all_goals first
    | with_reducible assumption | with_reducible apply dropRemap_keeps
    | fail_if_no_progress (with_reducible refine Keeps.lit rfl rfl rfl rfl rfl rfl rfl rfl ?_)

theorem setRemap_keeps {a0 : State} (s : State) (g : Nat) (x : Remap) (hk : Keeps a0 s) :
    Keeps a0 (setRemap s g x) := by
  unfold setRemap
  iterate 40 all_goals first
    | with_reducible assumption | with_reducible apply dropRemap_keeps
    | fail_if_no_progress (with_reducible refine Keeps.lit rfl rfl rfl rfl rfl rfl rfl rfl ?_)

theorem walkTranslation_keeps {a0 : State} (s : State) (tile : Nat) (i : Nat) (off : Nat) (hk : Keeps a0 s) :
    Keeps a0 (walkTranslation s tile i off) := by
  unfold walkTranslation
  iterate 40 all_goals first | with_reducible assumption | with_reducible apply cacheTouch_keeps | with_reducible apply Keeps.ite | split

theorem tellMiss_keeps {a0 : State} (s : State) (i : Nat) (t : Option Nat) (hk : Keeps a0 s) :
    Keeps a0 (tellMiss s i t) := by
  unfold tellMiss
  iterate 40 all_goals first
    | with_reducible assumption | with_reducible apply raise_keeps
    | fail_if_no_progress (with_reducible refine Keeps.lit rfl rfl rfl rfl rfl rfl rfl rfl ?_) | dsimp only | split

theorem countMiss_keeps {a0 : State} (s : State) (i : Nat) (write : Bool) (reads : Bool) (tile : Nat) (x : Trans) (hk : Keeps a0 s) :
    Keeps a0 (countMiss s i write reads tile x) := by
  unfold countMiss
  iterate 40 all_goals first
    | with_reducible assumption | with_reducible apply bump_keeps | with_reducible apply tellMiss_keeps | with_reducible apply raise_keeps | split

theorem abandonScrubs_keeps {a0 : State} (s : State) (t : Nat) (hk : Keeps a0 s) :
    Keeps a0 (abandonScrubs s t) := by
  unfold abandonScrubs
  iterate 40 all_goals first
    | intro _ | with_reducible assumption | with_reducible apply cmdEnd_keeps | with_reducible apply Keeps.foldl
    | fail_if_no_progress (with_reducible refine Keeps.lit rfl rfl rfl rfl rfl rfl rfl rfl ?_)

theorem loseBlocks_keeps {a0 : State} (s : State) (t : Nat) (hk : Keeps a0 s) :
    Keeps a0 (loseBlocks s t) := by
  unfold loseBlocks
  iterate 40 all_goals first | with_reducible assumption | with_reducible apply dropBlks_keeps | with_reducible apply setTgt_keeps

theorem extNotice_keeps {a0 : State} (s : State) (kind : Nat) (e : Nat) (more : List Byte) (hk : Keeps a0 s) :
    Keeps a0 (extNotice s kind e more) := by
  unfold extNotice
  iterate 40 all_goals first | with_reducible assumption | with_reducible apply postDevice_keeps

theorem setExt_keeps {a0 : State} (s : State) (e : Nat) (v : Extent) (hk : Keeps a0 s) :
    Keeps a0 (setExt s e v) := by
  unfold setExt
  iterate 40 all_goals first | with_reducible assumption | fail_if_no_progress (with_reducible refine Keeps.lit rfl rfl rfl rfl rfl rfl rfl rfl ?_)

theorem freeRecord_keeps {a0 : State} (s : State) (e : Nat) (hk : Keeps a0 s) :
    Keeps a0 (freeRecord s e) := by
  unfold freeRecord
  iterate 40 all_goals first | with_reducible assumption | with_reducible apply setExt_keeps

theorem setBlk_keeps {a0 : State} (s : State) (t : Nat) (b : Nat) (v : Blk) (hk : Keeps a0 s) :
    Keeps a0 (setBlk s t b v) := by
  unfold setBlk
  iterate 40 all_goals first | with_reducible assumption | with_reducible apply setTgt_keeps

theorem changeBlk_keeps {a0 : State} (s : State) (t : Nat) (b : Nat) (v : Blk) (hk : Keeps a0 s) :
    Keeps a0 (changeBlk s t b v) := by
  unfold changeBlk
  iterate 40 all_goals first | with_reducible assumption | with_reducible apply dropBlks_keeps | with_reducible apply setBlk_keeps

theorem unshare_keeps {a0 : State} (s : State) (t : Nat) (b : Nat) (hk : Keeps a0 s) :
    Keeps a0 (unshare s t b) := by
  unfold unshare
  iterate 40 all_goals first | with_reducible assumption | with_reducible apply changeBlk_keeps | with_reducible apply Keeps.ite

theorem dropSharers_keeps {a0 : State} (s : State) (x : Extent) (scrub : Bool) (hk : Keeps a0 s) :
    Keeps a0 (dropSharers s x scrub) := by
  unfold dropSharers
  iterate 40 all_goals first
    | intro _ | with_reducible assumption | with_reducible apply changeBlk_keeps | with_reducible apply unshare_keeps
    | with_reducible apply Keeps.ite | with_reducible apply Keeps.foldl

theorem drainDone_keeps {a0 : State} (s : State) (t : Nat) (hk : Keeps a0 s) :
    Keeps a0 (drainDone s t) := by
  unfold drainDone
  iterate 40 all_goals first | with_reducible assumption | with_reducible apply wr_keeps | with_reducible apply Keeps.ite

theorem extChanged_keeps {a0 : State} (s : State) (i : Nat) (hk : Keeps a0 s) :
    Keeps a0 (extChanged s i) := by
  unfold extChanged
  iterate 40 all_goals first
    | with_reducible assumption | with_reducible apply raise_keeps | with_reducible apply setInst_keeps | with_reducible apply Keeps.ite

theorem withdrawOffer_keeps {a0 : State} (s : State) (e : Nat) (reason : Nat) (hk : Keeps a0 s) :
    Keeps a0 (withdrawOffer s e reason) := by
  unfold withdrawOffer
  iterate 40 all_goals first
    | with_reducible assumption | with_reducible apply extNotice_keeps | with_reducible apply record_keeps | with_reducible apply freeRecord_keeps
    | with_reducible apply dropSharers_keeps | with_reducible apply cmdEnd_keeps | with_reducible apply drainDone_keeps
    | with_reducible apply extChanged_keeps | with_reducible apply Keeps.ite

theorem loseExtent_keeps {a0 : State} (s : State) (e : Nat) (hk : Keeps a0 s) :
    Keeps a0 (loseExtent s e) := by
  unfold loseExtent
  iterate 40 all_goals first
    | with_reducible assumption | with_reducible apply withdrawOffer_keeps | with_reducible apply cmdEnd_keeps
    | with_reducible apply extNotice_keeps | with_reducible apply extChanged_keeps | with_reducible apply setExt_keeps
    | with_reducible apply Keeps.ite

theorem loseTarget_keeps {a0 : State} (s : State) (t : Nat) (hk : Keeps a0 s) :
    Keeps a0 (loseTarget s t) := by
  unfold loseTarget
  iterate 40 all_goals first
    | with_reducible assumption | with_reducible apply setTgt_keeps | with_reducible apply wr_keeps | with_reducible apply abandonScrubs_keeps
    | with_reducible apply loseBlocks_keeps | with_reducible apply loseExtent_keeps | with_reducible apply raise_keeps
    | with_reducible apply Keeps.ite | with_reducible apply Keeps.foldl
    | fail_if_no_progress (with_reducible refine Keeps.lit rfl rfl rfl rfl rfl rfl rfl rfl ?_)

theorem setNear_keeps {a0 : State} (s : State) (t : Nat) (hk : Keeps a0 s) :
    Keeps a0 (setNear s t) := by
  unfold setNear
  iterate 40 all_goals first
    | with_reducible assumption | with_reducible apply dropBlks_keeps | with_reducible apply setTgt_keeps | with_reducible apply wr_keeps

theorem nearJoins_keeps {a0 : State} (s : State) (t : Nat) (hk : Keeps a0 s) :
    Keeps a0 (nearJoins s t) := by
  unfold nearJoins
  iterate 40 all_goals first
    | with_reducible assumption | with_reducible apply setNear_keeps | with_reducible apply wr_keeps | with_reducible apply leavePool_keeps

theorem startJoin_keeps {a0 : State} (s : State) (t : Nat) (hk : Keeps a0 s) :
    Keeps a0 (startJoin s t) := by
  unfold startJoin
  iterate 40 all_goals first | with_reducible assumption | with_reducible apply wr_keeps

theorem targetPoolWrite_keeps {a0 : State} (s : State) (t : Nat) (v : Nat) (hk : Keeps a0 s) :
    KeepsP a0 (targetPoolWrite s t v) := by
  unfold targetPoolWrite
  iterate 40 all_goals first
    | with_reducible assumption | with_reducible apply wr_keeps | with_reducible apply leavePool_keeps | with_reducible apply nearJoins_keeps
    | with_reducible apply startJoin_keeps | with_reducible apply drainDone_keeps | with_reducible apply KeepsP.ite
    | fail_if_no_progress (with_reducible apply KeepsP.mk' <;> try with_reducible apply KeepsP.fst)

theorem nearTierWrite_keeps {a0 : State} (s : State) (t : Nat) (v : Nat) (hk : Keeps a0 s) :
    KeepsP a0 (nearTierWrite s t v) := by
  unfold nearTierWrite
  iterate 40 all_goals first
    | with_reducible assumption | with_reducible apply wr_keeps | with_reducible apply setNear_keeps | with_reducible apply KeepsP.ite
    | fail_if_no_progress (with_reducible apply KeepsP.mk' <;> try with_reducible apply KeepsP.fst)

theorem failChannel_keeps {a0 : State} (s : State) (t : Nat) (pc : Nat) (hk : Keeps a0 s) :
    Keeps a0 (failChannel s t pc) := by
  unfold failChannel
  iterate 40 all_goals first
    | with_reducible assumption | with_reducible apply wr_keeps | with_reducible apply raise_keeps | with_reducible apply Keeps.ite

theorem dcEvent_keeps {a0 : State} (s : State) (kind : Nat) (x : Extent) (hk : Keeps a0 s) :
    Keeps a0 (dcEvent s kind x) := by
  unfold dcEvent
  iterate 40 all_goals first | with_reducible assumption | with_reducible apply postEvent_keeps

theorem beginRelease_keeps {a0 : State} (s : State) (e : Nat) (hk : Keeps a0 s) :
    Keeps a0 (beginRelease s e) := by
  unfold beginRelease
  iterate 40 all_goals first | with_reducible assumption | with_reducible apply extChanged_keeps | with_reducible apply setExt_keeps

theorem releaseWrite_keeps {a0 : State} (s : State) (e : Nat) (v : List Byte) (hk : Keeps a0 s) :
    KeepsP a0 (releaseWrite s e v) := by
  unfold releaseWrite
  iterate 40 all_goals first
    | with_reducible assumption | with_reducible apply setExt_keeps | with_reducible apply cmdStart_keeps | with_reducible apply dcEvent_keeps
    | with_reducible apply cmdDone_keeps | with_reducible apply withdrawOffer_keeps | with_reducible apply beginRelease_keeps
    | with_reducible apply KeepsP.ite | fail_if_no_progress (with_reducible apply KeepsP.mk' <;> try with_reducible apply KeepsP.fst)

theorem setColour_keeps {a0 : State} (s : State) (g : Nat) (c : Nat) (hk : Keeps a0 s) :
    Keeps a0 (setColour s g c) := by
  unfold setColour
  iterate 40 all_goals first | with_reducible assumption | fail_if_no_progress (with_reducible refine Keeps.lit rfl rfl rfl rfl rfl rfl rfl rfl ?_)

theorem makeExtent_keeps {a0 : State} (s : State) (g : GrantReq) (first : Nat) (hk : Keeps a0 s) :
    Keeps a0 (makeExtent s g first) := by
  unfold makeExtent
  iterate 40 all_goals first
    | intro _ | with_reducible assumption | with_reducible apply setBlk_keeps | with_reducible apply dropBlks_keeps
    | with_reducible apply setColour_keeps | with_reducible apply extChanged_keeps | with_reducible apply setExt_keeps
    | with_reducible apply wr_keeps | with_reducible apply extNotice_keeps | with_reducible apply dcEvent_keeps | with_reducible apply Keeps.ite
    | with_reducible apply Keeps.foldl

theorem grantAction_keeps {a0 : State} (s : State) (g : GrantReq) (hk : Keeps a0 s) :
    Keeps a0 (grantAction s g) := by
  unfold grantAction
  iterate 40 all_goals first
    | with_reducible assumption | with_reducible apply cmdStart_keeps | with_reducible apply cmdEnd_keeps | with_reducible apply makeExtent_keeps
    | with_reducible apply Keeps.ite | split

theorem grantWrite_keeps {a0 : State} (s : State) (v : List Byte) (hk : Keeps a0 s) :
    KeepsP a0 (grantWrite s v) := by
  unfold grantWrite
  iterate 40 all_goals first
    | with_reducible assumption | with_reducible apply grantAction_keeps | with_reducible apply KeepsP.ite
    | fail_if_no_progress (with_reducible apply KeepsP.mk' <;> try with_reducible apply KeepsP.fst)

theorem candidateNow_keeps {a0 : State} (s : State) (t : Nat) (hk : Keeps a0 s) :
    Keeps a0 (candidateNow s t) := by
  unfold candidateNow
  iterate 40 all_goals first
    | with_reducible assumption | with_reducible apply wr_keeps | with_reducible apply startJoin_keeps | with_reducible apply Keeps.ite

theorem delRemaps_keeps {a0 : State} (s : State) (p : Nat → Bool) (hk : Keeps a0 s) :
    Keeps a0 (delRemaps s p) := by
  unfold delRemaps
  iterate 40 all_goals first | with_reducible assumption | with_reducible apply delRemap_keeps | with_reducible apply Keeps.foldl

theorem releaseBlocks_keeps {a0 : State} (s : State) (e : Nat) (hk : Keeps a0 s) :
    Keeps a0 (releaseBlocks s e) := by
  unfold releaseBlocks
  iterate 40 all_goals first
    | with_reducible assumption | with_reducible apply delRemaps_keeps | with_reducible apply dropSharers_keeps
    | with_reducible apply freeRecord_keeps | with_reducible apply cmdEnd_keeps | with_reducible apply drainDone_keeps
    | with_reducible apply extChanged_keeps | with_reducible apply Keeps.ite
    | fail_if_no_progress (with_reducible refine Keeps.lit rfl rfl rfl rfl rfl rfl rfl rfl ?_)

theorem acceptOffer_keeps {a0 : State} (s : State) (e : Nat) (hk : Keeps a0 s) :
    Keeps a0 (acceptOffer s e) := by
  unfold acceptOffer
  iterate 40 all_goals first | with_reducible assumption | with_reducible apply extChanged_keeps | with_reducible apply setExt_keeps

theorem programDevice_keeps {a0 : State} (s : State) (t : Nat) (bytes : Nat) (hk : Keeps a0 s) :
    Keeps a0 (programDevice s t bytes) := by
  unfold programDevice
  iterate 40 all_goals first | with_reducible assumption | with_reducible apply emit_keeps | with_reducible apply setTgt_keeps

theorem cacheFill_keeps {a0 : State} (s : State) (kind : Nat) (t : Nat) (key : Nat) (hk : Keeps a0 s) :
    Keeps a0 (cacheFill s kind t key) := by
  unfold cacheFill
  iterate 40 all_goals first
    | with_reducible assumption | with_reducible apply cachePut_keeps | with_reducible apply bump_keeps | with_reducible apply Keeps.ite
    | fail_if_no_progress (with_reducible refine Keeps.lit rfl rfl rfl rfl rfl rfl rfl rfl ?_) | split

theorem noteDevice_keeps {a0 : State} (s : State) (t : Nat) (d : MemDev) (hk : Keeps a0 s) :
    Keeps a0 (noteDevice s t d) := by
  unfold noteDevice
  iterate 40 all_goals first | with_reducible assumption | with_reducible apply setTgt_keeps

theorem candidate_keeps {a0 : State} (s : State) (t : Nat) (d : MemDev) (hk : Keeps a0 s) :
    Keeps a0 (candidate s t d) := by
  unfold candidate
  iterate 40 all_goals first | with_reducible assumption | with_reducible apply candidateNow_keeps | with_reducible apply noteDevice_keeps

theorem dropIndex_keeps {a0 : State} (s : State) (e : Nat) (hk : Keeps a0 s) :
    Keeps a0 (dropIndex s e) := by
  unfold dropIndex
  iterate 40 all_goals first | with_reducible assumption | with_reducible apply cacheDropIf_keeps

theorem finishJoin_keeps {a0 : State} (s : State) (t : Nat) (refuses : Bool) (hk : Keeps a0 s) :
    Keeps a0 (finishJoin s t refuses) := by
  unfold finishJoin
  iterate 40 all_goals first
    | with_reducible assumption | with_reducible apply failJoin_keeps | with_reducible apply programDevice_keeps
    | with_reducible apply dropBlks_keeps | with_reducible apply setTgt_keeps | with_reducible apply wr_keeps | with_reducible apply Keeps.ite
    | fail_if_no_progress (with_reducible refine Keeps.lit rfl rfl rfl rfl rfl rfl rfl rfl ?_)

theorem scrubDone_keeps {a0 : State} (s : State) (t : Nat) (b : Nat) (hk : Keeps a0 s) :
    Keeps a0 (scrubDone s t b) := by
  unfold scrubDone
  iterate 40 all_goals first
    | intro _ | with_reducible assumption | with_reducible apply cmdEnd_keeps | with_reducible apply Keeps.foldl
    | fail_if_no_progress (with_reducible refine Keeps.lit rfl rfl rfl rfl rfl rfl rfl rfl ?_)

theorem clearRange_keeps {a0 : State} (s : State) (lo : Nat) (hi : Nat) (hk : Keeps a0 s) :
    Keeps a0 (clearRange s lo hi) := by
  unfold clearRange
  exact (hk).trans { pending := rfl, out := List.suffix_refl _, free := Nat.le_refl _, obj := id, blob := id, tbl := id, chg := id, mem := memClear_wf _ _ }

theorem scrubBlock_keeps {a0 : State} (s : State) (t : Nat) (b : Nat) (hk : Keeps a0 s) :
    Keeps a0 (scrubBlock s t b) := by
  unfold scrubBlock
  iterate 40 all_goals first
    | with_reducible assumption | with_reducible apply scrubDone_keeps | with_reducible apply changeBlk_keeps
    | with_reducible apply clearRange_keeps | with_reducible apply Keeps.ite

theorem setFrame_keeps {a0 : State} (s : State) (g : Nat) (v : Frame) (hk : Keeps a0 s) :
    Keeps a0 (setFrame s g v) := by
  unfold setFrame
  iterate 40 all_goals first | with_reducible assumption | fail_if_no_progress (with_reducible refine Keeps.lit rfl rfl rfl rfl rfl rfl rfl rfl ?_)

theorem frameWrite_keeps {a0 : State} (s : State) (k : Nat) (hk : Keeps a0 s) :
    Keeps a0 (frameWrite s k) := by
  unfold frameWrite
  iterate 40 all_goals first | with_reducible assumption | with_reducible apply setFrame_keeps | with_reducible apply Keeps.ite

theorem setMove_keeps {a0 : State} (s : State) (g : Nat) (m : Move) (hk : Keeps a0 s) :
    Keeps a0 (setMove s g m) := by
  unfold setMove
  iterate 40 all_goals first | with_reducible assumption | fail_if_no_progress (with_reducible refine Keeps.lit rfl rfl rfl rfl rfl rfl rfl rfl ?_)

theorem heatRoom_keeps {a0 : State} (s : State) (t : Nat) (g : Nat) (hk : Keeps a0 s) :
    KeepsO a0 (heatRoom s t g) := by
  unfold heatRoom
  iterate 40 all_goals first
    | with_reducible assumption | with_reducible apply KeepsO.ite | with_reducible apply KeepsO.some | with_reducible apply KeepsO.none
    | fail_if_no_progress (with_reducible refine Keeps.lit rfl rfl rfl rfl rfl rfl rfl rfl ?_) | split

theorem setHeat_keeps {a0 : State} (s : State) (t : Nat) (g : Nat) (h : Heat) (hk : Keeps a0 s) :
    Keeps a0 (setHeat s t g h) := by
  unfold setHeat
  iterate 40 all_goals first | with_reducible assumption | fail_if_no_progress (with_reducible refine Keeps.lit rfl rfl rfl rfl rfl rfl rfl rfl ?_)

theorem litBump_keeps {a0 : State} (s0 : State) (t : Nat) (n : Nat) (k : Nat) (hk : Keeps a0 s0) :
    Keeps a0 (litBump s0 t n k) := by
  unfold litBump
  iterate 40 all_goals first
    | with_reducible assumption | with_reducible apply largeEvent_keeps
    | fail_if_no_progress (with_reducible refine Keeps.lit rfl rfl rfl rfl rfl rfl rfl rfl ?_) | split

theorem markPlace_keeps {a0 : State} (s : State) (g : Nat) (place : Nat) (hk : Keeps a0 s) :
    Keeps a0 (markPlace s g place) := by
  unfold markPlace
  iterate 40 all_goals first
    | with_reducible assumption | with_reducible apply setHeat_keeps | with_reducible apply litBump_keeps
    | (with_reducible refine KeepsO.of (heatRoom_keeps _ _ _ ?_) (by assumption)) | split

theorem dropFrame_keeps {a0 : State} (s : State) (g : Nat) (hk : Keeps a0 s) :
    Keeps a0 (dropFrame s g) := by
  unfold dropFrame
  iterate 40 all_goals first | with_reducible assumption | fail_if_no_progress (with_reducible refine Keeps.lit rfl rfl rfl rfl rfl rfl rfl rfl ?_)

theorem spend_keeps {a0 : State} (s : State) (a : Nat) (b : Nat) (n : Nat) (hk : Keeps a0 s) :
    Keeps a0 (spend s a b n) := by
  unfold spend
  iterate 40 all_goals first
    | with_reducible assumption | with_reducible apply litBump_keeps | with_reducible apply Keeps.ite
    | fail_if_no_progress (with_reducible refine Keeps.lit rfl rfl rfl rfl rfl rfl rfl rfl ?_)

theorem releaseFrame_keeps {a0 : State} (s : State) (g : Nat) (hk : Keeps a0 s) :
    Keeps a0 (releaseFrame s g) := by
  unfold releaseFrame
  iterate 40 all_goals first
    | with_reducible assumption | with_reducible apply dropFrame_keeps | with_reducible apply spend_keeps | with_reducible apply Keeps.ite

theorem forceHeat_keeps {a0 : State} (s : State) (g : Nat) (v : Nat) (hk : Keeps a0 s) :
    Keeps a0 (forceHeat s g v) := by
  unfold forceHeat
  iterate 40 all_goals first
    | with_reducible assumption | with_reducible apply setHeat_keeps | (with_reducible refine KeepsO.of (heatRoom_keeps _ _ _ ?_) (by assumption))
    | split

theorem frameRead_keeps {a0 : State} (s : State) (k : Nat) (hk : Keeps a0 s) :
    Keeps a0 (frameRead s k) := by
  unfold frameRead
  iterate 40 all_goals first
    | with_reducible assumption | with_reducible apply cacheTouch_keeps | with_reducible apply setFrame_keeps | with_reducible apply litBump_keeps
    | with_reducible apply spend_keeps | with_reducible apply largeEvent_keeps | with_reducible apply Keeps.ite

theorem sectorFilled_keeps {a0 : State} (s : State) (g : Nat) (sec : Nat) (hk : Keeps a0 s) :
    Keeps a0 (sectorFilled s g sec) := by
  unfold sectorFilled
  iterate 40 all_goals first | with_reducible assumption | with_reducible apply setFrame_keeps | with_reducible apply Keeps.ite

theorem decayHeat_keeps {a0 : State} (s : State) (t : Nat) (hk : Keeps a0 s) :
    Keeps a0 (decayHeat s t) := by
  unfold decayHeat
  iterate 40 all_goals first | with_reducible assumption | fail_if_no_progress (with_reducible refine Keeps.lit rfl rfl rfl rfl rfl rfl rfl rfl ?_)

theorem creditSample_keeps {a0 : State} (s : State) (g : Nat) (hk : Keeps a0 s) :
    Keeps a0 (creditSample s g) := by
  unfold creditSample
  iterate 40 all_goals first
    | with_reducible assumption | with_reducible apply setHeat_keeps | with_reducible apply largeEvent_keeps | with_reducible apply litBump_keeps
    | (with_reducible refine KeepsO.of (heatRoom_keeps _ _ _ ?_) (by assumption)) | with_reducible apply Keeps.ite | split

theorem tagFault_keeps {a0 : State} (s : State) (loc : Nat) (kind : Nat) (hk : Keeps a0 s) :
    Keeps a0 (tagFault s loc kind) := by
  unfold tagFault
  iterate 40 all_goals first
    | with_reducible assumption | with_reducible apply raise_keeps | with_reducible apply bump_keeps | with_reducible apply Keeps.ite

theorem capture_keeps {a0 : State} (s : State) (g : Nat) (r : Refused) (hk : Keeps a0 s) :
    Keeps a0 (capture s g r) := by
  unfold capture
  iterate 40 all_goals first
    | with_reducible assumption | with_reducible apply wrBlob_keeps | with_reducible apply raiseEv_keeps | with_reducible apply Keeps.ite

theorem refuse_keeps {a0 : State} (s : State) (r : Refused) (hk : Keeps a0 s) :
    Keeps a0 (refuse s r) := by
  unfold refuse
  iterate 40 all_goals first
    | with_reducible assumption | with_reducible apply bump_keeps | with_reducible apply wrTbl_keeps | with_reducible apply wr_keeps
    | with_reducible apply raise_keeps | with_reducible apply capture_keeps | with_reducible apply Keeps.ite

theorem gate_keeps {a0 : State} (s : State) (key : Nat) (loc : Nat) (a : Accessor) (write : Bool) (source : Nat) (hk : Keeps a0 s) :
    KeepsP a0 (gate s key loc a write source) := by
  unfold gate
  iterate 40 all_goals first
    | with_reducible assumption | with_reducible apply bump_keeps | with_reducible apply cacheTouch_keeps | with_reducible apply tagFault_keeps
    | with_reducible apply refuse_keeps | with_reducible apply KeepsP.ite
    | fail_if_no_progress (with_reducible apply KeepsP.mk' <;> try with_reducible apply KeepsP.fst)

theorem clearCaptureWrite_keeps {a0 : State} (s : State) (g : Nat) (same : Option Refused) (hk : Keeps a0 s) :
    KeepsP a0 (clearCaptureWrite s g same) := by
  unfold clearCaptureWrite
  iterate 40 all_goals first
    | with_reducible assumption | with_reducible apply wrBlob_keeps | with_reducible apply cmdDone_keeps | with_reducible apply refuse_keeps
    | fail_if_no_progress (with_reducible apply KeepsP.mk' <;> try with_reducible apply KeepsP.fst) | split

theorem applyRecolour_keeps {a0 : State} (s : State) (i : Nat) (off : Nat) (n : Nat) (c : Nat) (hk : Keeps a0 s) :
    Keeps a0 (applyRecolour s i off n c) := by
  unfold applyRecolour
  iterate 40 all_goals first | intro _ | with_reducible assumption | with_reducible apply setColour_keeps | with_reducible apply Keeps.foldl | split

theorem queryWrite_keeps {a0 : State} (s : State) (v : List Byte) (hk : Keeps a0 s) :
    KeepsP a0 (queryWrite s v) := by
  unfold queryWrite
  iterate 40 all_goals first
    | with_reducible assumption | with_reducible apply wr_keeps | with_reducible apply cmdDone_keeps
    | fail_if_no_progress (with_reducible apply KeepsP.mk' <;> try with_reducible apply KeepsP.fst) | split

theorem keySetWrite_keeps {a0 : State} (s : State) (i : Nat) (v : Nat) (hk : Keeps a0 s) :
    KeepsP a0 (keySetWrite s i v) := by
  unfold keySetWrite
  iterate 40 all_goals first
    | with_reducible assumption | with_reducible apply wr_keeps | with_reducible apply KeepsP.ite
    | fail_if_no_progress (with_reducible apply KeepsP.mk' <;> try with_reducible apply KeepsP.fst)

theorem regionsWrite_keeps {a0 : State} (s : State) (g : Nat) (start : Nat) (recs : List Nat) (hk : Keeps a0 s) :
    KeepsP a0 (regionsWrite s g start recs) := by
  unfold regionsWrite
  iterate 40 all_goals first
    | intro _ | with_reducible assumption | with_reducible apply wr_keeps | with_reducible apply bump_keeps | with_reducible apply raise_keeps
    | with_reducible apply wrTbl_keeps | fail_if_no_progress (with_reducible apply KeepsP.mk' <;> try with_reducible apply KeepsP.fst)
    | with_reducible apply Keeps.foldl | dsimp only | split

theorem gateRange_keeps {a0 : State} (s : State) (dpa : Nat) (n : Nat) (a : Accessor) (write : Bool) (source : Nat) (hk : Keeps a0 s) :
    KeepsP a0 (gateRange s dpa n a write source) := by
  unfold gateRange
  iterate 40 all_goals first
    | intro _ | with_reducible assumption | with_reducible apply gate_keeps | with_reducible apply KeepsP.ite
    | fail_if_no_progress (with_reducible apply KeepsP.mk' <;> try with_reducible apply KeepsP.fst) | with_reducible apply KeepsP.fst
    | with_reducible apply KeepsP.foldl

end Sys2Proof.Machine
end

