-- ==== Sys2Proof/Laws/Keeps3.lean ====
section
/-!
SUPPORT. What the operations of Machine/LaneOps.lean, Machine/PortOps.lean, Machine/QosOps.lean
leave alone: each keeps the queue, every output already made, and the canonical forms (Safety.lean's Keeps).
-/
namespace Sys2Proof.Machine

open Sys2Proof

set_option linter.unusedTactic false
set_option linter.unreachableTactic false
set_option linter.unnecessarySeqFocus false

theorem setPort_keeps {a0 : State} (s : State) (p : Nat) (v : PortSt) (hk : Keeps a0 s) :
    Keeps a0 (setPort s p v) := by
  unfold setPort
  iterate 40 all_goals first | with_reducible assumption | fail_if_no_progress (with_reducible refine Keeps.lit rfl rfl rfl rfl rfl rfl rfl rfl ?_)

theorem setDir_keeps {a0 : State} (s : State) (idx : Nat) (l : Nat) (v : Nat) (hk : Keeps a0 s) :
    Keeps a0 (setDir s idx l v) := by
  unfold setDir
  iterate 40 all_goals first
    | with_reducible assumption | with_reducible apply bump_keeps | with_reducible apply wr_keeps | with_reducible apply Keeps.ite

theorem setDirs_keeps {a0 : State} (s : State) (l : Nat) (v : Nat) (hk : Keeps a0 s) :
    Keeps a0 (setDirs s l v) := by
  unfold setDirs
  iterate 40 all_goals first | with_reducible assumption | with_reducible apply setDir_keeps

theorem laneOut_keeps {a0 : State} (s : State) (l : Nat) (role : Nat) (hk : Keeps a0 s) :
    Keeps a0 (laneOut s l role) := by
  unfold laneOut
  iterate 40 all_goals first | with_reducible assumption | with_reducible apply wr_keeps | with_reducible apply setDirs_keeps

theorem laneIn_keeps {a0 : State} (s : State) (l : Nat) (role : Nat) (p : Nat) (logical : Nat) (rate : Nat) (hk : Keeps a0 s) :
    Keeps a0 (laneIn s l role p logical rate) := by
  unfold laneIn
  iterate 40 all_goals first | with_reducible assumption | with_reducible apply wr_keeps | with_reducible apply setDirs_keeps

theorem spareRests_keeps {a0 : State} (s : State) (g : Nat) (hk : Keeps a0 s) :
    Keeps a0 (spareRests s g) := by
  unfold spareRests
  iterate 40 all_goals first | with_reducible assumption | with_reducible apply laneOut_keeps

theorem setGroup_keeps {a0 : State} (s : State) (g : Nat) (v : GroupSt) (hk : Keeps a0 s) :
    Keeps a0 (setGroup s g v) := by
  unfold setGroup
  iterate 40 all_goals first | with_reducible assumption | fail_if_no_progress (with_reducible refine Keeps.lit rfl rfl rfl rfl rfl rfl rfl rfl ?_)

theorem setLane_keeps {a0 : State} (s : State) (l : Nat) (v : LaneSt) (hk : Keeps a0 s) :
    Keeps a0 (setLane s l v) := by
  unfold setLane
  iterate 40 all_goals first | with_reducible assumption | fail_if_no_progress (with_reducible refine Keeps.lit rfl rfl rfl rfl rfl rfl rfl rfl ?_)

theorem equalise_keeps {a0 : State} (s : State) (l : Nat) (rate : Nat) (bypass : Bool) (skip : Bool) (hk : Keeps a0 s) :
    Keeps a0 (equalise s l rate bypass skip) := by
  unfold equalise
  iterate 40 all_goals first | with_reducible assumption | with_reducible apply setLane_keeps | with_reducible apply Keeps.ite

theorem keepaliveRuns_keeps {a0 : State} (s : State) (g : Nat) (p : Nat) (hk : Keeps a0 s) :
    Keeps a0 (keepaliveRuns s g p) := by
  unfold keepaliveRuns
  iterate 40 all_goals first
    | with_reducible assumption | with_reducible apply setGroup_keeps | with_reducible apply setDirs_keeps | with_reducible apply wr_keeps
    | with_reducible apply equalise_keeps

theorem restored_keeps {a0 : State} (s : State) (g : Nat) (hk : Keeps a0 s) :
    Keeps a0 (restored s g) := by
  unfold restored
  iterate 40 all_goals first
    | with_reducible assumption | with_reducible apply laneIn_keeps | with_reducible apply laneOut_keeps | with_reducible apply wr_keeps
    | with_reducible apply spareRests_keeps | with_reducible apply keepaliveRuns_keeps | with_reducible apply cmdEnd_keeps
    | with_reducible apply Keeps.ite

theorem laneDrops_keeps {a0 : State} (s : State) (l : Nat) (hk : Keeps a0 s) :
    Keeps a0 (laneDrops s l) := by
  unfold laneDrops
  iterate 40 all_goals first
    | with_reducible assumption | with_reducible apply laneOut_keeps | with_reducible apply setDirs_keeps | with_reducible apply wr_keeps
    | with_reducible apply Keeps.ite

theorem keepaliveEnds_keeps {a0 : State} (s : State) (g : Nat) (p : Nat) (hk : Keeps a0 s) :
    Keeps a0 (keepaliveEnds s g p) := by
  unfold keepaliveEnds
  iterate 40 all_goals first
    | with_reducible assumption | with_reducible apply setGroup_keeps | with_reducible apply spareRests_keeps | with_reducible apply Keeps.ite

theorem releaseLanes_keeps {a0 : State} (s : State) (p : Nat) (hk : Keeps a0 s) :
    Keeps a0 (releaseLanes s p) := by
  unfold releaseLanes
  iterate 40 all_goals first
    | intro _ | with_reducible assumption | with_reducible apply laneOut_keeps | with_reducible apply setPort_keeps
    | with_reducible apply restored_keeps | with_reducible apply laneDrops_keeps | with_reducible apply keepaliveEnds_keeps
    | with_reducible apply Keeps.foldl | split

theorem loopbackWrite_keeps {a0 : State} (s : State) (l : Nat) (v : Nat) (hk : Keeps a0 s) :
    KeepsP a0 (loopbackWrite s l v) := by
  unfold loopbackWrite
  iterate 40 all_goals first
    | with_reducible assumption | with_reducible apply wr_keeps | with_reducible apply KeepsP.ite
    | fail_if_no_progress (with_reducible apply KeepsP.mk' <;> try with_reducible apply KeepsP.fst)

theorem enterRecovery_keeps {a0 : State} (s : State) (p : Nat) (take : Option Nat) (out : List Nat) (hk : Keeps a0 s) :
    Keeps a0 (enterRecovery s p take out) := by
  unfold enterRecovery
  iterate 40 all_goals first | with_reducible assumption | with_reducible apply setPort_keeps | with_reducible apply wr_keeps

theorem countBits_keeps {a0 : State} (s : State) (l : Nat) (bits : Nat) (errs : Nat) (hk : Keeps a0 s) :
    Keeps a0 (countBits s l bits errs) := by
  unfold countBits
  iterate 40 all_goals first | with_reducible assumption | with_reducible apply wr_keeps

theorem checkerEnds_keeps {a0 : State} (s : State) (l : Nat) (hk : Keeps a0 s) :
    Keeps a0 (checkerEnds s l) := by
  unfold checkerEnds
  iterate 40 all_goals first
    | with_reducible assumption | with_reducible apply countBits_keeps | with_reducible apply freeNext_keeps | with_reducible apply setLane_keeps
    | with_reducible apply Keeps.ite

theorem stopTest_keeps {a0 : State} (s : State) (l : Nat) (reason : Nat) (hk : Keeps a0 s) :
    Keeps a0 (stopTest s l reason) := by
  unfold stopTest
  iterate 40 all_goals first
    | with_reducible assumption | with_reducible apply checkerEnds_keeps | with_reducible apply wr_keeps | with_reducible apply Keeps.ite

theorem recoverLanes_keeps {a0 : State} (s : State) (p : Nat) (ls : List Nat) (hk : Keeps a0 s) :
    Keeps a0 (recoverLanes s p ls) := by
  unfold recoverLanes
  iterate 40 all_goals first | with_reducible assumption | with_reducible apply enterRecovery_keeps | with_reducible apply stopTest_keeps | split

theorem laneDirWrite_keeps {a0 : State} (s : State) (idx : Nat) (l : Nat) (v : Nat) (hk : Keeps a0 s) :
    KeepsP a0 (laneDirWrite s idx l v) := by
  unfold laneDirWrite
  iterate 40 all_goals first
    | with_reducible assumption | with_reducible apply wr_keeps | with_reducible apply Keeps.ite | with_reducible apply KeepsP.ite
    | fail_if_no_progress (with_reducible apply KeepsP.mk' <;> try with_reducible apply KeepsP.fst)

theorem testTargetWrite_keeps {a0 : State} (s : State) (l : Nat) (v : Nat) (hk : Keeps a0 s) :
    KeepsP a0 (testTargetWrite s l v) := by
  unfold testTargetWrite
  iterate 40 all_goals first
    | with_reducible assumption | with_reducible apply wr_keeps | with_reducible apply checkerEnds_keeps | with_reducible apply Keeps.ite
    | with_reducible apply KeepsP.ite | fail_if_no_progress (with_reducible apply KeepsP.mk' <;> try with_reducible apply KeepsP.fst)

theorem injectWrite_keeps {a0 : State} (s : State) (l : Nat) (n : Nat) (hk : Keeps a0 s) :
    KeepsP a0 (injectWrite s l n) := by
  unfold injectWrite
  iterate 40 all_goals first
    | with_reducible assumption | with_reducible apply setLane_keeps | with_reducible apply cmdDone_keeps | with_reducible apply KeepsP.ite
    | fail_if_no_progress (with_reducible apply KeepsP.mk' <;> try with_reducible apply KeepsP.fst)

theorem clearCountersWrite_keeps {a0 : State} (s : State) (l : Nat) (hk : Keeps a0 s) :
    KeepsP a0 (clearCountersWrite s l) := by
  unfold clearCountersWrite
  iterate 40 all_goals first
    | with_reducible assumption | with_reducible apply cmdDone_keeps | with_reducible apply wr_keeps
    | fail_if_no_progress (with_reducible apply KeepsP.mk' <;> try with_reducible apply KeepsP.fst)

theorem shapeWritten_keeps {a0 : State} (s : State) (g : Nat) (v : Nat) (hk : Keeps a0 s) :
    Keeps a0 (shapeWritten s g v) := by
  unfold shapeWritten
  iterate 40 all_goals first | with_reducible assumption | with_reducible apply wr_keeps | with_reducible apply Keeps.ite

theorem swapBackWrite_keeps {a0 : State} (s : State) (g : Nat) (hk : Keeps a0 s) :
    KeepsP a0 (swapBackWrite s g) := by
  unfold swapBackWrite
  iterate 40 all_goals first
    | with_reducible assumption | with_reducible apply cmdDone_keeps | with_reducible apply cmdStart_keeps | with_reducible apply stopTest_keeps
    | with_reducible apply KeepsP.ite | fail_if_no_progress (with_reducible apply KeepsP.mk' <;> try with_reducible apply KeepsP.fst)

theorem beginSubstitution_keeps {a0 : State} (s : State) (p : Nat) (lane : Nat) (hk : Keeps a0 s) :
    Keeps a0 (beginSubstitution s p lane) := by
  unfold beginSubstitution
  iterate 40 all_goals first
    | with_reducible assumption | with_reducible apply enterRecovery_keeps | with_reducible apply stopTest_keeps | with_reducible apply emit_keeps
    | with_reducible apply setPort_keeps | with_reducible apply Keeps.ite | split

theorem retireIdle_keeps {a0 : State} (s : State) (g : Nat) (lane : Nat) (hk : Keeps a0 s) :
    Keeps a0 (retireIdle s g lane) := by
  unfold retireIdle
  iterate 40 all_goals first
    | with_reducible assumption | with_reducible apply wr_keeps | with_reducible apply laneOut_keeps | with_reducible apply spareRests_keeps
    | with_reducible apply stopTest_keeps | with_reducible apply setGroup_keeps

theorem retireLaneWrite_keeps {a0 : State} (s : State) (g : Nat) (v : Nat) (hk : Keeps a0 s) :
    KeepsP a0 (retireLaneWrite s g v) := by
  unfold retireLaneWrite
  iterate 40 all_goals first
    | with_reducible assumption | with_reducible apply cmdDone_keeps | with_reducible apply beginSubstitution_keeps
    | with_reducible apply retireIdle_keeps | with_reducible apply Keeps.ite | with_reducible apply KeepsP.ite
    | fail_if_no_progress (with_reducible apply KeepsP.mk' <;> try with_reducible apply KeepsP.fst)

theorem resetLanes_keeps {a0 : State} (s : State) (g : Nat) (hk : Keeps a0 s) :
    Keeps a0 (resetLanes s g) := by
  unfold resetLanes
  refine (hk).trans
    { pending := rfl, out := List.suffix_refl _, free := Nat.le_refl _, obj := fun h => ?_, blob := id, tbl := id, chg := id, mem := id }
  all_goals
    dsimp only
    exact canonical_delIf _ h

theorem forgetEq_keeps {a0 : State} (s : State) (g : Nat) (hk : Keeps a0 s) :
    Keeps a0 (forgetEq s g) := by
  unfold forgetEq
  iterate 40 all_goals first | with_reducible assumption | fail_if_no_progress (with_reducible refine Keeps.lit rfl rfl rfl rfl rfl rfl rfl rfl ?_)

theorem beginSwap_keeps {a0 : State} (s : State) (g : Nat) (hk : Keeps a0 s) :
    Keeps a0 (beginSwap s g) := by
  unfold beginSwap
  iterate 40 all_goals first
    | with_reducible assumption | with_reducible apply restored_keeps | with_reducible apply cmdEnd_keeps | with_reducible apply emit_keeps
    | with_reducible apply setPort_keeps | with_reducible apply wr_keeps | with_reducible apply Keeps.ite

theorem takeSeat_keeps {a0 : State} (s : State) (p : Nat) (logical : Nat) (rate : Nat) (t : LaneTraining) (x : Nat) (hk : Keeps a0 s) :
    Keeps a0 (takeSeat s p logical rate t x) := by
  unfold takeSeat
  iterate 40 all_goals first
    | with_reducible assumption | with_reducible apply stopTest_keeps | with_reducible apply equalise_keeps | with_reducible apply setLane_keeps
    | with_reducible apply wr_keeps | with_reducible apply laneIn_keeps

theorem beginExchange_keeps {a0 : State} (s : State) (p : Nat) (hk : Keeps a0 s) :
    Keeps a0 (beginExchange s p) := by
  unfold beginExchange
  iterate 40 all_goals first
    | intro _ | with_reducible assumption | with_reducible apply stopTest_keeps | with_reducible apply setGroup_keeps
    | with_reducible apply setPort_keeps | with_reducible apply Keeps.ite | with_reducible apply Keeps.foldl

theorem substituted_keeps {a0 : State} (s : State) (p : Nat) (lane : Nat) (hk : Keeps a0 s) :
    Keeps a0 (substituted s p lane) := by
  unfold substituted
  iterate 40 all_goals first
    | with_reducible assumption | with_reducible apply laneOut_keeps | with_reducible apply stopTest_keeps | with_reducible apply laneIn_keeps
    | with_reducible apply bump_keeps | with_reducible apply wr_keeps | with_reducible apply setGroup_keeps | with_reducible apply raise_keeps

theorem swapBackEnd_keeps {a0 : State} (s : State) (g : Nat) (err : Nat) (hk : Keeps a0 s) :
    Keeps a0 (swapBackEnd s g err) := by
  unfold swapBackEnd
  iterate 40 all_goals first
    | with_reducible assumption | with_reducible apply cmdEnd_keeps | with_reducible apply beginSwap_keeps | with_reducible apply Keeps.ite

theorem narrowTo_keeps {a0 : State} (s : State) (p : Nat) (w : Nat) (bad : List Nat) (hk : Keeps a0 s) :
    Keeps a0 (narrowTo s p w bad) := by
  unfold narrowTo
  iterate 40 all_goals first
    | intro _ | with_reducible assumption | with_reducible apply laneDrops_keeps | with_reducible apply wr_keeps
    | with_reducible apply setPort_keeps | with_reducible apply Keeps.ite | with_reducible apply Keeps.foldl

theorem narrowPort_keeps {a0 : State} (s : State) (p : Nat) (bad : List Nat) (hk : Keeps a0 s) :
    Keeps a0 (narrowPort s p bad) := by
  unfold narrowPort
  iterate 40 all_goals first
    | intro _ | with_reducible assumption | with_reducible apply narrowTo_keeps | with_reducible apply raise_keeps
    | with_reducible apply Keeps.foldl | split

theorem trainLanes_keeps {a0 : State} (s : State) (p : Nat) (width : Nat) (rate : Nat) (t : LaneTraining) (hk : Keeps a0 s) :
    Keeps a0 (trainLanes s p width rate t) := by
  unfold trainLanes
  iterate 40 all_goals first
    | intro _ | with_reducible assumption | with_reducible apply wr_keeps | with_reducible apply takeSeat_keeps | with_reducible apply setPort_keeps
    | with_reducible apply beginExchange_keeps | with_reducible apply narrowTo_keeps | with_reducible apply narrowPort_keeps
    | with_reducible apply substituted_keeps | with_reducible apply Keeps.foldl | dsimp only | split

theorem recoveryDone_keeps {a0 : State} (s : State) (p : Nat) (spareLocked : Bool) (hk : Keeps a0 s) :
    Keeps a0 (recoveryDone s p spareLocked) := by
  unfold recoveryDone
  iterate 40 all_goals first
    | with_reducible assumption | with_reducible apply setPort_keeps | with_reducible apply wr_keeps | with_reducible apply narrowPort_keeps
    | with_reducible apply restored_keeps | with_reducible apply cmdEnd_keeps | with_reducible apply substituted_keeps | dsimp only | split

theorem logRas_keeps {a0 : State} (s : State) (p : Nat) (hk : Keeps a0 s) :
    Keeps a0 (logRas s p) := by
  unfold logRas
  iterate 40 all_goals first | with_reducible assumption | with_reducible apply setPort_keeps

theorem synthetic_keeps {a0 : State} (s0 : State) (p : Nat) (t : Txn) (hk : Keeps a0 s0) :
    Keeps a0 (synthetic s0 p t) := by
  unfold synthetic
  iterate 40 all_goals first
    | with_reducible assumption | with_reducible apply endSample_keeps | with_reducible apply emit_keeps | with_reducible apply bump_keeps
    | with_reducible apply raise_keeps | with_reducible apply logRas_keeps | split

theorem endSamples_keeps {a0 : State} (s : State) (l : List Txn) (hk : Keeps a0 s) :
    Keeps a0 (endSamples s l) := by
  unfold endSamples
  iterate 40 all_goals first | intro _ | with_reducible assumption | with_reducible apply endSample_keeps | with_reducible apply Keeps.foldl

theorem dropTxns_keeps {a0 : State} (s : State) (p : Nat) (hk : Keeps a0 s) :
    Keeps a0 (dropTxns s p) := by
  unfold dropTxns
  iterate 40 all_goals first
    | intro _ | with_reducible assumption | with_reducible apply bump_keeps | with_reducible apply synthetic_keeps
    | with_reducible apply endSamples_keeps | with_reducible apply setPort_keeps | with_reducible apply Keeps.foldl
    | fail_if_no_progress (with_reducible refine Keeps.lit rfl rfl rfl rfl rfl rfl rfl rfl ?_)

theorem linkDownLocal_keeps {a0 : State} (s : State) (p : Nat) (cause : Nat) (hk : Keeps a0 s) :
    Keeps a0 (linkDownLocal s p cause) := by
  unfold linkDownLocal
  iterate 40 all_goals first
    | with_reducible assumption | with_reducible apply wr_keeps | with_reducible apply bump_keeps | with_reducible apply releaseLanes_keeps
    | with_reducible apply dropTxns_keeps | with_reducible apply cmdEnd_keeps | with_reducible apply setPort_keeps | with_reducible apply Keeps.ite

theorem blockFn_keeps {a0 : State} (s : State) (k : Nat) (hk : Keeps a0 s) :
    Keeps a0 (blockFn s k) := by
  unfold blockFn
  iterate 40 all_goals first | with_reducible assumption | with_reducible apply setFn_keeps

theorem startRetrain_keeps {a0 : State} (s : State) (p : Nat) (hk : Keeps a0 s) :
    Keeps a0 (startRetrain s p) := by
  unfold startRetrain
  iterate 40 all_goals first | with_reducible assumption | with_reducible apply setPort_keeps

theorem forceRetrainWrite_keeps {a0 : State} (s : State) (p : Nat) (hk : Keeps a0 s) :
    KeepsP a0 (forceRetrainWrite s p) := by
  unfold forceRetrainWrite
  iterate 40 all_goals first
    | with_reducible assumption | with_reducible apply cmdDone_keeps | with_reducible apply cmdStart_keeps | with_reducible apply startRetrain_keeps
    | with_reducible apply Keeps.ite | with_reducible apply KeepsP.ite
    | fail_if_no_progress (with_reducible apply KeepsP.mk' <;> try with_reducible apply KeepsP.fst)

theorem cutOutstanding_keeps {a0 : State} (s : State) (p : Nat) (hk : Keeps a0 s) :
    Keeps a0 (cutOutstanding s p) := by
  unfold cutOutstanding
  iterate 40 all_goals first
    | intro _ | with_reducible assumption | with_reducible apply synthetic_keeps | with_reducible apply setPort_keeps
    | with_reducible apply Keeps.foldl | fail_if_no_progress (with_reducible refine Keeps.lit rfl rfl rfl rfl rfl rfl rfl rfl ?_)

theorem quietPoint_keeps {a0 : State} (s : State) (p : Nat) (i : Nat) (avail : Nat) (hk : Keeps a0 s) :
    KeepsP a0 (quietPoint s p i avail) := by
  unfold quietPoint
  iterate 40 all_goals first
    | with_reducible assumption | with_reducible apply setPort_keeps | with_reducible apply raise_keeps | with_reducible apply startRetrain_keeps
    | with_reducible apply Keeps.ite | with_reducible apply KeepsP.ite
    | fail_if_no_progress (with_reducible apply KeepsP.mk' <;> try with_reducible apply KeepsP.fst)

theorem retrainDone_keeps {a0 : State} (s : State) (p : Nat) (credits : List Nat) (hk : Keeps a0 s) :
    Keeps a0 (retrainDone s p credits) := by
  unfold retrainDone
  iterate 40 all_goals first
    | with_reducible assumption | with_reducible apply setPort_keeps | with_reducible apply wr_keeps | with_reducible apply bump_keeps
    | with_reducible apply cmdEnd_keeps | with_reducible apply Keeps.ite

theorem linkUpLocal_keeps {a0 : State} (s : State) (p : Nat) (x : Partner) (hk : Keeps a0 s) :
    Keeps a0 (linkUpLocal s p x) := by
  unfold linkUpLocal
  iterate 40 all_goals first
    | with_reducible assumption | with_reducible apply wr_keeps | with_reducible apply trainLanes_keeps | with_reducible apply setPort_keeps

theorem openFn_keeps {a0 : State} (s : State) (k : Nat) (hk : Keeps a0 s) :
    Keeps a0 (openFn s k) := by
  unfold openFn
  iterate 40 all_goals first
    | intro _ | with_reducible assumption | with_reducible apply emit_keeps | with_reducible apply setFn_keeps | with_reducible apply Keeps.ite
    | with_reducible apply Keeps.foldl | fail_if_no_progress (with_reducible refine Keeps.lit rfl rfl rfl rfl rfl rfl rfl rfl ?_)

theorem setEgress_keeps {a0 : State} (s : State) (q : Nat) (l : List EgMsg) (hk : Keeps a0 s) :
    Keeps a0 (setEgress s q l) := by
  unfold setEgress
  iterate 40 all_goals first | with_reducible assumption | fail_if_no_progress (with_reducible refine Keeps.lit rfl rfl rfl rfl rfl rfl rfl rfl ?_)

theorem pushEgress_keeps {a0 : State} (s : State) (q : Nat) (m : EgMsg) (hk : Keeps a0 s) :
    Keeps a0 (pushEgress s q m) := by
  unfold pushEgress
  iterate 40 all_goals first | with_reducible assumption | with_reducible apply setEgress_keeps

theorem devLoadOf_keeps {a0 : State} (s : State) (r : Req) (usp : Nat) (t : Nat) (hk : Keeps a0 s) :
    KeepsP a0 (devLoadOf s r usp t) := by
  unfold devLoadOf
  iterate 40 all_goals first
    | with_reducible assumption | with_reducible apply freeNext_keeps | with_reducible apply KeepsP.ite
    | fail_if_no_progress (with_reducible apply KeepsP.mk' <;> try with_reducible apply KeepsP.fst)

theorem setMeter_keeps {a0 : State} (s : State) (i : Nat) (m : Nat) (b : Bucket) (hk : Keeps a0 s) :
    Keeps a0 (setMeter s i m b) := by
  unfold setMeter
  iterate 40 all_goals first | with_reducible assumption | fail_if_no_progress (with_reducible refine Keeps.lit rfl rfl rfl rfl rfl rfl rfl rfl ?_)

theorem metersWrite_keeps {a0 : State} (s : State) (i : Nat) (start : Nat) (recs : List Nat) (hk : Keeps a0 s) :
    KeepsP a0 (metersWrite s i start recs) := by
  unfold metersWrite
  iterate 40 all_goals first
    | intro _ | with_reducible assumption | with_reducible apply setMeter_keeps | with_reducible apply wrTbl_keeps | with_reducible apply KeepsP.ite
    | fail_if_no_progress (with_reducible apply KeepsP.mk' <;> try with_reducible apply KeepsP.fst) | with_reducible apply Keeps.foldl
    | fail_if_no_progress (with_reducible refine Keeps.lit rfl rfl rfl rfl rfl rfl rfl rfl ?_)

theorem weightsWrite_keeps {a0 : State} (s : State) (q : Nat) (start : Nat) (vals : List Nat) (hk : Keeps a0 s) :
    KeepsP a0 (weightsWrite s q start vals) := by
  unfold weightsWrite
  iterate 40 all_goals first
    | intro _ | with_reducible assumption | with_reducible apply wrTbl_keeps | with_reducible apply KeepsP.ite
    | fail_if_no_progress (with_reducible apply KeepsP.mk' <;> try with_reducible apply KeepsP.fst) | with_reducible apply Keeps.foldl

theorem setShaper_keeps {a0 : State} (s : State) (q : Nat) (b : Bucket) (hk : Keeps a0 s) :
    Keeps a0 (setShaper s q b) := by
  unfold setShaper
  iterate 40 all_goals first | with_reducible assumption | fail_if_no_progress (with_reducible refine Keeps.lit rfl rfl rfl rfl rfl rfl rfl rfl ?_)

theorem shaperWrite_keeps {a0 : State} (s : State) (q : Nat) (v : List Byte) (hk : Keeps a0 s) :
    KeepsP a0 (shaperWrite s q v) := by
  unfold shaperWrite
  iterate 40 all_goals first
    | with_reducible assumption | with_reducible apply setShaper_keeps | with_reducible apply wrBlob_keeps | with_reducible apply KeepsP.ite
    | fail_if_no_progress (with_reducible apply KeepsP.mk' <;> try with_reducible apply KeepsP.fst)

theorem setDef_keeps {a0 : State} (s : State) (q : Nat) (c : Nat) (v : Nat) (hk : Keeps a0 s) :
    Keeps a0 (setDef s q c v) := by
  unfold setDef
  iterate 40 all_goals first | with_reducible assumption | fail_if_no_progress (with_reducible refine Keeps.lit rfl rfl rfl rfl rfl rfl rfl rfl ?_)

theorem dwrr_keeps {a0 : State} (n : Nat) (s : State) (q : Nat) (l : List EgMsg) (low : Bool) (hk : Keeps a0 s) :
    KeepsP a0 (dwrr n s q l low) := by
  induction n generalizing s q l low with
  | zero =>
    unfold dwrr
    first
      | exact hk
      | exact KeepsP.mk' hk
  | succ n ih =>
    unfold dwrr
    iterate 40 all_goals first
      | with_reducible assumption | with_reducible apply ih | with_reducible apply setDef_keeps
      | fail_if_no_progress (with_reducible apply KeepsP.mk' <;> try with_reducible apply KeepsP.fst) | dsimp only | split

theorem unholdHead_keeps {a0 : State} (s : State) (q : Nat) (hk : Keeps a0 s) :
    Keeps a0 (unholdHead s q) := by
  unfold unholdHead
  iterate 40 all_goals first
    | with_reducible assumption | with_reducible apply setShaper_keeps
    | fail_if_no_progress (with_reducible refine Keeps.lit rfl rfl rfl rfl rfl rfl rfl rfl ?_)

theorem meterRequest_keeps {a0 : State} (s : State) (q : Nat) (d : Nat) (hk : Keeps a0 s) :
    KeepsP a0 (meterRequest s q d) := by
  unfold meterRequest
  iterate 40 all_goals first
    | with_reducible assumption | with_reducible apply setMeter_keeps
    | fail_if_no_progress (with_reducible apply KeepsP.mk' <;> try with_reducible apply KeepsP.fst) | split

theorem countColour_keeps {a0 : State} (s : State) (q : Nat) (colour : Nat) (hk : Keeps a0 s) :
    Keeps a0 (countColour s q colour) := by
  unfold countColour
  iterate 40 all_goals first | with_reducible assumption | with_reducible apply wrTbl_keeps | split

theorem shaperTake_keeps {a0 : State} (s : State) (q : Nat) (d : Nat) (low : Bool) (hk : Keeps a0 s) :
    Keeps a0 (shaperTake s q d low) := by
  unfold shaperTake
  iterate 40 all_goals first
    | with_reducible assumption | with_reducible apply bump_keeps | with_reducible apply setShaper_keeps | with_reducible apply Keeps.ite

theorem holdReq_keeps {a0 : State} (s : State) (r : Req) (hk : Keeps a0 s) :
    Keeps a0 (holdReq s r) := by
  unfold holdReq
  iterate 40 all_goals first
    | with_reducible assumption | with_reducible apply setShaper_keeps
    | fail_if_no_progress (with_reducible refine Keeps.lit rfl rfl rfl rfl rfl rfl rfl rfl ?_)

theorem capRelease_keeps {a0 : State} (s : State) (i : Nat) (hk : Keeps a0 s) :
    KeepsP a0 (capRelease s i) := by
  unfold capRelease
  iterate 40 all_goals first
    | with_reducible assumption | with_reducible apply bump_keeps | with_reducible apply unholdHead_keeps | with_reducible apply raise_keeps
    | fail_if_no_progress (with_reducible apply KeepsP.mk' <;> try with_reducible apply KeepsP.fst)
    | fail_if_no_progress (with_reducible refine Keeps.lit rfl rfl rfl rfl rfl rfl rfl rfl ?_) | split

theorem qosArrive_keeps {a0 : State} (s : State) (r0 : Req) (hk : Keeps a0 s) :
    KeepsP a0 (qosArrive s r0) := by
  unfold qosArrive
  iterate 40 all_goals first
    | with_reducible assumption | with_reducible apply meterRequest_keeps | with_reducible apply countColour_keeps
    | with_reducible apply portEvent_keeps | with_reducible apply shaperTake_keeps | with_reducible apply holdReq_keeps
    | with_reducible apply capRelease_keeps | with_reducible apply Keeps.ite | with_reducible apply KeepsP.ite
    | fail_if_no_progress (with_reducible apply KeepsP.mk' <;> try with_reducible apply KeepsP.fst) | with_reducible apply KeepsP.fst

theorem headRelease_keeps {a0 : State} (s : State) (q : Nat) (hk : Keeps a0 s) :
    KeepsOP a0 (headRelease s q) := by
  unfold headRelease
  iterate 40 all_goals first
    | with_reducible assumption | with_reducible apply unholdHead_keeps | with_reducible apply shaperTake_keeps
    | fail_if_no_progress (with_reducible apply KeepsP.mk' <;> try with_reducible apply KeepsP.fst) | with_reducible apply KeepsOP.ite
    | with_reducible apply KeepsOP.some | with_reducible apply KeepsOP.none | split

theorem pickEgress_keeps {a0 : State} (s : State) (q : Nat) (hk : Keeps a0 s) :
    KeepsP a0 (pickEgress s q) := by
  unfold pickEgress
  iterate 40 all_goals first
    | with_reducible assumption | with_reducible apply dwrr_keeps | with_reducible apply KeepsP.ite
    | fail_if_no_progress (with_reducible apply KeepsP.mk' <;> try with_reducible apply KeepsP.fst) | split

theorem remeterHead_keeps {a0 : State} (s : State) (q : Nat) (hk : Keeps a0 s) :
    Keeps a0 (remeterHead s q) := by
  unfold remeterHead
  iterate 40 all_goals first
    | with_reducible assumption | with_reducible apply meterRequest_keeps | with_reducible apply Keeps.ite | with_reducible apply KeepsP.fst
    | fail_if_no_progress (with_reducible refine Keeps.lit rfl rfl rfl rfl rfl rfl rfl rfl ?_) | split

theorem refillTile_keeps {a0 : State} (s : State) (t : Nat) (hk : Keeps a0 s) :
    Keeps a0 (refillTile s t) := by
  unfold refillTile
  iterate 40 all_goals first
    | intro _ | with_reducible assumption | with_reducible apply remeterHead_keeps | with_reducible apply Keeps.ite
    | with_reducible apply Keeps.foldl | fail_if_no_progress (with_reducible refine Keeps.lit rfl rfl rfl rfl rfl rfl rfl rfl ?_)

theorem releaseNext_keeps {a0 : State} (s : State) (t : Nat) (hk : Keeps a0 s) :
    KeepsOP a0 (releaseNext s t) := by
  unfold releaseNext
  iterate 40 all_goals first
    | with_reducible assumption | (with_reducible refine KeepsOP.ofPair (headRelease_keeps _ _ ?_) (by assumption))
    | fail_if_no_progress (with_reducible apply KeepsP.mk' <;> try with_reducible apply KeepsP.fst) | with_reducible apply KeepsOP.some
    | with_reducible apply KeepsOP.none | fail_if_no_progress (with_reducible refine Keeps.lit rfl rfl rfl rfl rfl rfl rfl rfl ?_) | split

theorem takeEgress_keeps {a0 : State} (s : State) (q : Nat) (i : Nat) (m : EgMsg) (hk : Keeps a0 s) :
    Keeps a0 (takeEgress s q i m) := by
  unfold takeEgress
  iterate 40 all_goals first
    | with_reducible assumption | with_reducible apply setEgress_keeps | with_reducible apply setDef_keeps | with_reducible apply wrTbl_keeps
    | with_reducible apply bump_keeps | with_reducible apply Keeps.ite

end Sys2Proof.Machine
end

