-- ==== Sys2Proof/Laws/Keeps4.lean ====
section
/-!
SUPPORT. What the operations of Machine/SwitchOps.lean
leave alone: each keeps the queue, every output already made, and the canonical forms (Safety.lean's Keeps).
-/
namespace Sys2Proof.Machine

open Sys2Proof

set_option linter.unusedTactic false
set_option linter.unreachableTactic false
set_option linter.unnecessarySeqFocus false

theorem setTile_keeps {a0 : State} (s : State) (t : Nat) (v : TileSt) (hk : Keeps a0 s) :
    Keeps a0 (setTile s t v) := by
  unfold setTile
  iterate 40 all_goals first | with_reducible assumption | fail_if_no_progress (with_reducible refine Keeps.lit rfl rfl rfl rfl rfl rfl rfl rfl ?_)

theorem tellSender_keeps {a0 : State} (s : State) (l : Nat) (d : LinkDir) (hk : Keeps a0 s) :
    Keeps a0 (tellSender s l d) := by
  unfold tellSender
  iterate 40 all_goals first | with_reducible assumption | with_reducible apply emit_keeps

theorem pauseCheck_keeps {a0 : State} (s : State) (t : Nat) (r : Nat) (c : Nat) (hk : Keeps a0 s) :
    Keeps a0 (pauseCheck s t r c) := by
  unfold pauseCheck
  iterate 40 all_goals first
    | with_reducible assumption | with_reducible apply tellSender_keeps | with_reducible apply setTile_keeps | with_reducible apply largeEvent_keeps
    | with_reducible apply bump_keeps | with_reducible apply Keeps.ite

theorem freeCell_keeps {a0 : State} (s : State) (t : Nat) (num : Nat) (hk : Keeps a0 s) :
    Keeps a0 (freeCell s t num) := by
  unfold freeCell
  iterate 40 all_goals first
    | with_reducible assumption | with_reducible apply setTile_keeps | with_reducible apply pauseCheck_keeps | with_reducible apply Keeps.ite

theorem crossed_keeps {a0 : State} (s : State) (t : Nat) (x : Nat) (what : Nat) (hk : Keeps a0 s) :
    Keeps a0 (crossed s t x what) := by
  unfold crossed
  iterate 40 all_goals first | with_reducible assumption | with_reducible apply wrTbl_keeps

theorem crossIn_keeps {a0 : State} (s : State) (t : Nat) (xp : Nat) (hk : Keeps a0 s) :
    Keeps a0 (crossIn s t xp) := by
  unfold crossIn
  iterate 40 all_goals first | with_reducible assumption | with_reducible apply crossed_keeps | with_reducible apply Keeps.ite

theorem crossOut_keeps {a0 : State} (s : State) (t : Nat) (xp : Nat) (hk : Keeps a0 s) :
    Keeps a0 (crossOut s t xp) := by
  unfold crossOut
  iterate 40 all_goals first | with_reducible assumption | with_reducible apply crossed_keeps | with_reducible apply Keeps.ite

theorem setLink_keeps {a0 : State} (s : State) (l : Nat) (v : LinkSt) (hk : Keeps a0 s) :
    Keeps a0 (setLink s l v) := by
  unfold setLink
  iterate 40 all_goals first | with_reducible assumption | fail_if_no_progress (with_reducible refine Keeps.lit rfl rfl rfl rfl rfl rfl rfl rfl ?_)

theorem countHop_keeps {a0 : State} (s : State) (u : Nat) (w : Nat) (hk : Keeps a0 s) :
    Keeps a0 (countHop s u w) := by
  unfold countHop
  iterate 40 all_goals first
    | intro _ | with_reducible assumption | with_reducible apply crossed_keeps | with_reducible apply setLink_keeps
    | with_reducible apply largeEvent_keeps | with_reducible apply linkEvent_keeps | with_reducible apply bump_keeps
    | with_reducible apply Keeps.ite | with_reducible apply Keeps.foldl

theorem countPass_keeps {a0 : State} (s : State) (t : Nat) (c : Cell) (hk : Keeps a0 s) :
    Keeps a0 (countPass s t c) := by
  unfold countPass
  iterate 40 all_goals first
    | with_reducible assumption | with_reducible apply largeEvent_keeps | with_reducible apply bump_keeps | with_reducible apply crossIn_keeps
    | with_reducible apply crossOut_keeps | with_reducible apply countHop_keeps | with_reducible apply setTile_keeps
    | with_reducible apply Keeps.ite

theorem enqueueCell_keeps {a0 : State} (s : State) (t : Nat) (c : Cell) (hk : Keeps a0 s) :
    Keeps a0 (enqueueCell s t c) := by
  unfold enqueueCell
  iterate 40 all_goals first | with_reducible assumption | with_reducible apply setTile_keeps | split

theorem seeCell_keeps {a0 : State} (s : State) (t : Nat) (num : Nat) (hk : Keeps a0 s) :
    Keeps a0 (seeCell s t num) := by
  unfold seeCell
  iterate 40 all_goals first | with_reducible assumption | with_reducible apply setTile_keeps

theorem admitOrWait_keeps {a0 : State} (s : State) (t : Nat) (c : Cell) (hk : Keeps a0 s) :
    Keeps a0 (admitOrWait s t c) := by
  unfold admitOrWait
  iterate 40 all_goals first
    | intro _ | with_reducible assumption | with_reducible apply setTile_keeps | with_reducible apply enqueueCell_keeps
    | with_reducible apply seeCell_keeps | with_reducible apply crossIn_keeps | with_reducible apply Keeps.ite | with_reducible apply Keeps.foldl

theorem admit_keeps {a0 : State} (s : State) (t : Nat) (c : Cell) (hk : Keeps a0 s) :
    Keeps a0 (enterCell s t c) := by
  unfold enterCell
  iterate 40 all_goals first
    | with_reducible assumption | with_reducible apply admitOrWait_keeps | with_reducible apply largeEvent_keeps | with_reducible apply Keeps.ite

theorem countDropped_keeps {a0 : State} (s0 : State) (m : Msg) (hk : Keeps a0 s0) :
    Keeps a0 (countDropped s0 m) := by
  unfold countDropped
  iterate 40 all_goals first | with_reducible assumption | with_reducible apply endSample_keeps | with_reducible apply bump_keeps | split

theorem ackGroups_keeps {a0 : State} (s : State) (l : Nat) (d : LinkDir) (ack : Nat) (hk : Keeps a0 s) :
    Keeps a0 (ackGroups s l d ack) := by
  unfold ackGroups
  iterate 40 all_goals first
    | intro _ | with_reducible assumption | with_reducible apply setLink_keeps | with_reducible apply freeCell_keeps
    | with_reducible apply Keeps.foldl | dsimp only | split

theorem closeGroup_keeps {a0 : State} (s : State) (l : Nat) (d : LinkDir) (hk : Keeps a0 s) :
    Keeps a0 (closeGroup s l d) := by
  unfold closeGroup
  iterate 40 all_goals first
    | with_reducible assumption | with_reducible apply setLink_keeps | with_reducible apply largeEvent_keeps | with_reducible apply linkEvent_keeps
    | with_reducible apply emit_keeps | with_reducible apply bump_keeps

theorem requeue_keeps {a0 : State} (s : State) (t : Nat) (hk : Keeps a0 s) :
    Keeps a0 (requeue s t) := by
  unfold requeue
  iterate 40 all_goals first | with_reducible assumption | with_reducible apply setTile_keeps

theorem pathTaken_keeps {a0 : State} (s : State) (t : Nat) (dst : Nat) (entry : Nat) (v : Nat) (hk : Keeps a0 s) :
    Keeps a0 (pathTaken s t dst entry v) := by
  unfold pathTaken
  iterate 40 all_goals first
    | with_reducible assumption | with_reducible apply largeEvent_keeps | with_reducible apply bump_keeps | with_reducible apply wrTbl_keeps

theorem repinEntry_keeps {a0 : State} (s : State) (t : Nat) (l : Nat) (dst : Nat) (entry : Nat) (holds : Bool) (hk : Keeps a0 s) :
    Keeps a0 (repinEntry s t l dst entry holds) := by
  unfold repinEntry
  iterate 40 all_goals first
    | with_reducible assumption | with_reducible apply bump_keeps | with_reducible apply pathTaken_keeps | with_reducible apply setTile_keeps
    | with_reducible apply Keeps.ite | split

theorem repinFailed_keeps {a0 : State} (s : State) (t : Nat) (l : Nat) (holds : Bool) (hk : Keeps a0 s) :
    Keeps a0 (repinFailed s t l holds) := by
  unfold repinFailed
  iterate 40 all_goals first | intro _ | with_reducible assumption | with_reducible apply repinEntry_keeps | with_reducible apply Keeps.foldl

theorem repinTiles_keeps {a0 : State} (s : State) (l : Nat) (but : Option Nat) (holds : Bool) (hk : Keeps a0 s) :
    Keeps a0 (repinTiles s l but holds) := by
  unfold repinTiles
  iterate 40 all_goals first
    | intro _ | with_reducible assumption | with_reducible apply requeue_keeps | with_reducible apply repinFailed_keeps
    | with_reducible apply Keeps.foldl

theorem failLink_keeps {a0 : State} (s : State) (l : Nat) (disabled : Bool) (hk : Keeps a0 s) :
    Keeps a0 (failLink s l disabled) := by
  unfold failLink
  iterate 40 all_goals first
    | with_reducible assumption | with_reducible apply wr_keeps | with_reducible apply bump_keeps | with_reducible apply setLink_keeps
    | with_reducible apply repinTiles_keeps | with_reducible apply emit_keeps | with_reducible apply raise_keeps | with_reducible apply Keeps.ite

theorem goOnHeld_keeps {a0 : State} (s : State) (t : Nat) (r : Repin) (hk : Keeps a0 s) :
    Keeps a0 (goOnHeld s t r) := by
  unfold goOnHeld
  iterate 40 all_goals first | intro _ | with_reducible assumption | with_reducible apply enqueueCell_keeps | with_reducible apply Keeps.foldl

theorem sendFence_keeps {a0 : State} (s : State) (t : Nat) (dst : Nat) (entry : Nat) (cls : Nat) (hk : Keeps a0 s) :
    Keeps a0 (sendFence s t dst entry cls) := by
  unfold sendFence
  iterate 40 all_goals first | with_reducible assumption | with_reducible apply setTile_keeps | with_reducible apply largeEvent_keeps | split

theorem startRepin_keeps {a0 : State} (s : State) (t : Nat) (dst : Nat) (entry : Nat) (v : Nat) (queued : List Nat) (hk : Keeps a0 s) :
    Keeps a0 (startRepin s t dst entry v queued) := by
  unfold startRepin
  iterate 40 all_goals first
    | intro _ | with_reducible assumption | with_reducible apply pathTaken_keeps | with_reducible apply sendFence_keeps
    | with_reducible apply setTile_keeps | with_reducible apply Keeps.ite | with_reducible apply Keeps.foldl

theorem endHeld_keeps {a0 : State} (s : State) (l : Nat) (t : Nat) (hk : Keeps a0 s) :
    Keeps a0 (endHeld s l t) := by
  unfold endHeld
  iterate 40 all_goals first
    | intro _ | with_reducible assumption | with_reducible apply setTile_keeps | with_reducible apply goOnHeld_keeps
    | with_reducible apply startRepin_keeps | with_reducible apply Keeps.foldl | split

theorem resendCells_keeps {a0 : State} (s : State) (l : Nat) (t : Nat) (again : List Cell) (hk : Keeps a0 s) :
    Keeps a0 (resendCells s l t again) := by
  unfold resendCells
  iterate 40 all_goals first
    | intro _ | with_reducible assumption | with_reducible apply setLink_keeps | with_reducible apply seeCell_keeps
    | with_reducible apply endHeld_keeps | with_reducible apply setTile_keeps | with_reducible apply Keeps.foldl

theorem applyLimit_keeps {a0 : State} (s : State) (t : Nat) (r : Nat) (c : Nat) (hk : Keeps a0 s) :
    Keeps a0 (applyLimit s t r c) := by
  unfold applyLimit
  iterate 40 all_goals first
    | with_reducible assumption | with_reducible apply pauseCheck_keeps | with_reducible apply setTile_keeps | with_reducible apply Keeps.ite

theorem applyWaiting_keeps {a0 : State} (s : State) (t : Nat) (hk : Keeps a0 s) :
    Keeps a0 (applyWaiting s t) := by
  unfold applyWaiting
  iterate 40 all_goals first | intro _ | with_reducible assumption | with_reducible apply applyLimit_keeps | with_reducible apply Keeps.foldl

theorem applyLimits_keeps {a0 : State} (s : State) (t : Nat) (r : Nat) (hk : Keeps a0 s) :
    Keeps a0 (applyLimits s t r) := by
  unfold applyLimits
  iterate 40 all_goals first
    | intro _ | with_reducible assumption | with_reducible apply applyWaiting_keeps | with_reducible apply applyLimit_keeps
    | with_reducible apply Keeps.foldl

theorem limitsWrite_keeps {a0 : State} (s : State) (t : Nat) (start : Nat) (recs : List Nat) (hk : Keeps a0 s) :
    KeepsP a0 (limitsWrite s t start recs) := by
  unfold limitsWrite
  iterate 40 all_goals first
    | intro _ | with_reducible assumption | with_reducible apply wrTbl_keeps | with_reducible apply applyLimits_keeps
    | with_reducible apply Keeps.ite | with_reducible apply KeepsP.ite
    | fail_if_no_progress (with_reducible apply KeepsP.mk' <;> try with_reducible apply KeepsP.fst) | with_reducible apply Keeps.foldl

theorem repin_keeps {a0 : State} (s : State) (t : Nat) (dst : Nat) (entry : Nat) (v : Nat) (hk : Keeps a0 s) :
    Keeps a0 (repin s t dst entry v) := by
  unfold repin
  iterate 40 all_goals first | with_reducible assumption | with_reducible apply setTile_keeps | with_reducible apply startRepin_keeps | split

theorem reported_keeps {a0 : State} (s : State) (l : Nat) (t : Nat) (hk : Keeps a0 s) :
    Keeps a0 (reported s l t) := by
  unfold reported
  iterate 40 all_goals first | with_reducible assumption | with_reducible apply setLink_keeps

theorem showLink_keeps {a0 : State} (s : State) (l : Nat) (hk : Keeps a0 s) :
    Keeps a0 (showLink s l) := by
  unfold showLink
  iterate 40 all_goals first | with_reducible assumption | with_reducible apply wr_keeps

theorem switchMsg_keeps {a0 : State} (s : State) (m : Msg) (hk : Keeps a0 s) :
    Keeps a0 (switchMsg s m) := by
  unfold switchMsg
  iterate 40 all_goals first | with_reducible assumption | with_reducible apply admit_keeps

theorem portLimits_keeps {a0 : State} (s : State) (p : Nat) (hk : Keeps a0 s) :
    Keeps a0 (portLimits s p) := by
  unfold portLimits
  iterate 40 all_goals first
    | with_reducible assumption | with_reducible apply applyLimits_keeps | with_reducible apply emit_keeps | with_reducible apply setPort_keeps

theorem fenceArrives_keeps {a0 : State} (s : State) (t : Nat) (dst : Nat) (entry : Nat) (cls : Nat) (hk : Keeps a0 s) :
    Keeps a0 (fenceArrives s t dst entry cls) := by
  unfold fenceArrives
  iterate 40 all_goals first | with_reducible assumption | with_reducible apply setTile_keeps

theorem deliver_keeps {a0 : State} (s : State) (t : Nat) (c : Cell) (hk : Keeps a0 s) :
    Keeps a0 (deliver s t c) := by
  unfold deliver
  iterate 40 all_goals first
    | with_reducible assumption | with_reducible apply fenceArrives_keeps | with_reducible apply countDropped_keeps
    | with_reducible apply setTile_keeps | with_reducible apply bump_keeps
    | fail_if_no_progress (with_reducible refine Keeps.lit rfl rfl rfl rfl rfl rfl rfl rfl ?_) | split

theorem sendOnLink_keeps {a0 : State} (s : State) (t : Nat) (c : Cell) (hk : Keeps a0 s) :
    Keeps a0 (sendOnLink s t c) := by
  unfold sendOnLink
  iterate 40 all_goals first
    | with_reducible assumption | with_reducible apply setLink_keeps | with_reducible apply crossed_keeps | with_reducible apply linkEvent_keeps
    | with_reducible apply closeGroup_keeps | with_reducible apply Keeps.ite

theorem moveCell_keeps {a0 : State} (s : State) (t : Nat) (c : Cell) (hk : Keeps a0 s) :
    Keeps a0 (moveCell s t c) := by
  unfold moveCell
  iterate 40 all_goals first
    | with_reducible assumption | with_reducible apply seeCell_keeps | with_reducible apply setTile_keeps | with_reducible apply sendOnLink_keeps
    | with_reducible apply deliver_keeps | with_reducible apply crossOut_keeps | with_reducible apply freeCell_keeps
    | with_reducible apply Keeps.ite

theorem takeFence_keeps {a0 : State} (s : State) (t : Nat) (dst : Nat) (entry : Nat) (cls : Nat) (hk : Keeps a0 s) :
    Keeps a0 (takeFence s t dst entry cls) := by
  unfold takeFence
  iterate 40 all_goals first
    | intro _ | with_reducible assumption | with_reducible apply freeCell_keeps | with_reducible apply setTile_keeps
    | with_reducible apply Keeps.foldl | fail_if_no_progress (with_reducible refine Keeps.lit rfl rfl rfl rfl rfl rfl rfl rfl ?_)

theorem fenceAcked_keeps {a0 : State} (s : State) (t : Nat) (dst : Nat) (entry : Nat) (hk : Keeps a0 s) :
    Keeps a0 (fenceAcked s t dst entry) := by
  unfold fenceAcked
  iterate 40 all_goals first
    | with_reducible assumption | with_reducible apply setTile_keeps | with_reducible apply pathTaken_keeps | with_reducible apply goOnHeld_keeps
    | with_reducible apply startRepin_keeps | split

theorem tlLaneLost_keeps {a0 : State} (s : State) (l : Nat) (d : LinkDir) (lane : Nat) (hk : Keeps a0 s) :
    Keeps a0 (tlLaneLost s l d lane) := by
  unfold tlLaneLost
  iterate 40 all_goals first
    | with_reducible assumption | with_reducible apply setLink_keeps | with_reducible apply failLink_keeps | with_reducible apply showLink_keeps
    | with_reducible apply raise_keeps | with_reducible apply Keeps.ite

theorem retryIngress_keeps {a0 : State} (s : State) (t : Nat) (hk : Keeps a0 s) :
    Keeps a0 (retryIngress s t) := by
  unfold retryIngress
  iterate 40 all_goals first
    | intro _ | with_reducible assumption | with_reducible apply admitOrWait_keeps | with_reducible apply setTile_keeps
    | with_reducible apply Keeps.foldl

theorem schedule_keeps {a0 : State} (s0 : State) (t : Nat) (hk : Keeps a0 s0) :
    Keeps a0 (schedule s0 t) := by
  unfold schedule
  iterate 40 all_goals first
    | intro _ | with_reducible assumption | with_reducible apply retryIngress_keeps | with_reducible apply setTile_keeps
    | with_reducible apply moveCell_keeps | with_reducible apply largeEvent_keeps | with_reducible apply bump_keeps
    | with_reducible apply Keeps.foldl

theorem landCell_keeps {a0 : State} (s : State) (l : Nat) (d : LinkDir) (c : Cell) (hk : Keeps a0 s) :
    Keeps a0 (landCell s l d c) := by
  unfold landCell
  iterate 40 all_goals first
    | intro _ | with_reducible assumption | with_reducible apply crossed_keeps | with_reducible apply largeEvent_keeps
    | with_reducible apply pauseCheck_keeps | with_reducible apply seeCell_keeps | with_reducible apply setTile_keeps
    | with_reducible apply Keeps.foldl | dsimp only | split

theorem resendGroups_keeps {a0 : State} (s : State) (l : Nat) (d : LinkDir) (hk : Keeps a0 s) :
    Keeps a0 (resendGroups s l d) := by
  unfold resendGroups
  iterate 40 all_goals first
    | intro _ | with_reducible assumption | with_reducible apply setLink_keeps | with_reducible apply bump_keeps
    | with_reducible apply largeEvent_keeps | with_reducible apply linkEvent_keeps | with_reducible apply emit_keeps
    | with_reducible apply Keeps.foldl

theorem receiveFlit_keeps {a0 : State} (s : State) (l : Nat) (d : LinkDir) (f : List Byte) (hk : Keeps a0 s) :
    Keeps a0 (receiveFlit s l d f) := by
  unfold receiveFlit
  iterate 40 all_goals first
    | intro _ | with_reducible assumption | with_reducible apply tellSender_keeps | with_reducible apply largeEvent_keeps
    | with_reducible apply bump_keeps | with_reducible apply setLink_keeps | with_reducible apply ackGroups_keeps
    | with_reducible apply resendGroups_keeps | with_reducible apply landCell_keeps | with_reducible apply closeGroup_keeps
    | with_reducible apply Keeps.ite | with_reducible apply Keeps.foldl | split

theorem dedup_keeps {a0 : State} (s : State) (l : Nat) (t : Nat) (grp : Nat) (hk : Keeps a0 s) :
    Keeps a0 (dedup s l t grp) := by
  unfold dedup
  iterate 40 all_goals first
    | intro _ | with_reducible assumption | with_reducible apply reported_keeps | with_reducible apply freeCell_keeps
    | with_reducible apply resendCells_keeps | with_reducible apply Keeps.foldl

end Sys2Proof.Machine
end

