-- ==== Sys2Proof/Laws/Keeps5.lean ====
section
/-!
SUPPORT. What the operations of Machine/CohOps.lean, Machine/Serve.lean
leave alone: each keeps the queue, every output already made, and the canonical forms (Safety.lean's Keeps).
-/
namespace Sys2Proof.Machine

open Sys2Proof

set_option linter.unusedTactic false
set_option linter.unreachableTactic false
set_option linter.unnecessarySeqFocus false

theorem takeCells_keeps {a0 : State} (s : State) (it : Cell → Bool) (hk : Keeps a0 s) :
    KeepsP a0 (takeCells s it) := by
  unfold takeCells
  iterate 40 all_goals first
    | intro _ | with_reducible assumption | with_reducible apply setTile_keeps | with_reducible apply freeCell_keeps
    | with_reducible apply KeepsP.ite | fail_if_no_progress (with_reducible apply KeepsP.mk' <;> try with_reducible apply KeepsP.fst)
    | with_reducible apply Keeps.foldl | fail_if_no_progress (with_reducible refine Keeps.lit rfl rfl rfl rfl rfl rfl rfl rfl ?_)

theorem takeJobs_keeps {a0 : State} (s : State) (p : Req → Bool) (hk : Keeps a0 s) :
    KeepsP a0 (takeJobs s p) := by
  unfold takeJobs
  iterate 40 all_goals first
    | with_reducible assumption | with_reducible apply takeCells_keeps
    | fail_if_no_progress (with_reducible apply KeepsP.mk' <;> try with_reducible apply KeepsP.fst)

theorem setLine_keeps {a0 : State} (s : State) (k : Nat) (v : Line) (hk : Keeps a0 s) :
    Keeps a0 (setLine s k v) := by
  unfold setLine
  iterate 40 all_goals first | with_reducible assumption | fail_if_no_progress (with_reducible refine Keeps.lit rfl rfl rfl rfl rfl rfl rfl rfl ?_)

theorem toBacking_keeps {a0 : State} (s : State) (k : Nat) (hk : Keeps a0 s) :
    Keeps a0 (toBacking s k) := by
  unfold toBacking
  iterate 40 all_goals first | with_reducible assumption | fail_if_no_progress (with_reducible refine Keeps.lit rfl rfl rfl rfl rfl rfl rfl rfl ?_)

theorem dirPut_keeps {a0 : State} (s : State) (h : Nat) (k : Nat) (hk : Keeps a0 s) :
    Keeps a0 (dirPut s h k) := by
  unfold dirPut
  iterate 40 all_goals first
    | with_reducible assumption | with_reducible apply cachePut_keeps | with_reducible apply toBacking_keeps | with_reducible apply Keeps.foldl

theorem dirStore_keeps {a0 : State} (s : State) (k : Nat) (hk : Keeps a0 s) :
    Keeps a0 (dirStore s k) := by
  unfold dirStore
  iterate 40 all_goals first
    | with_reducible assumption | with_reducible apply toBacking_keeps | with_reducible apply dirPut_keeps | with_reducible apply Keeps.ite
    | fail_if_no_progress (with_reducible refine Keeps.lit rfl rfl rfl rfl rfl rfl rfl rfl ?_)

theorem toMemory_keeps {a0 : State} (s : State) (k : Nat) (l : Line) (hk : Keeps a0 s) :
    Keeps a0 (toMemory s k l) := by
  unfold toMemory
  iterate 40 all_goals first
    | with_reducible assumption | with_reducible apply writeLine_keeps | with_reducible apply frameWrite_keeps
    | with_reducible apply largeEvent_keeps | with_reducible apply bump_keeps | with_reducible apply emit_keeps | with_reducible apply Keeps.ite

theorem evictSlice_keeps {a0 : State} (s : State) (t : Nat) (k : Nat) (hk : Keeps a0 s) :
    Keeps a0 (evictSlice s t k) := by
  unfold evictSlice
  iterate 40 all_goals first
    | with_reducible assumption | with_reducible apply setLine_keeps | with_reducible apply toMemory_keeps | with_reducible apply Keeps.ite

theorem endEviction_keeps {a0 : State} (s : State) (k : Nat) (hk : Keeps a0 s) :
    Keeps a0 (endEviction s k) := by
  unfold endEviction
  iterate 40 all_goals first
    | intro _ | with_reducible assumption | with_reducible apply setLine_keeps | with_reducible apply dirStore_keeps
    | with_reducible apply evictSlice_keeps | with_reducible apply Keeps.ite | with_reducible apply Keeps.foldl

theorem carryOut_keeps {a0 : State} (s : State) (k : Nat) (cls : Nat) (key : Nat) (inst : Nat) (q : Nat) (m : EgMsg) (hk : Keeps a0 s) :
    Keeps a0 (carryOut s k cls key inst q m) := by
  unfold carryOut
  iterate 40 all_goals first
    | with_reducible assumption | with_reducible apply pushEgress_keeps | with_reducible apply countPass_keeps | with_reducible apply admit_keeps
    | with_reducible apply Keeps.ite

theorem sendSnoop_keeps {a0 : State} (s : State) (k : Nat) (p : Nat) (x : Snoop) (hk : Keeps a0 s) :
    Keeps a0 (sendSnoop s k p x) := by
  unfold sendSnoop
  iterate 40 all_goals first
    | with_reducible assumption | with_reducible apply largeEvent_keeps | with_reducible apply bump_keeps | with_reducible apply setLine_keeps
    | with_reducible apply carryOut_keeps

theorem markPage_keeps {a0 : State} (s : State) (i : Nat) (off : Nat) (hk : Keeps a0 s) :
    Keeps a0 (markPage s i off) := by
  unfold markPage
  iterate 40 all_goals first | with_reducible assumption | with_reducible apply setInst_keeps | with_reducible apply Keeps.ite

theorem markLine_keeps {a0 : State} (s : State) (k : Nat) (hk : Keeps a0 s) :
    Keeps a0 (markLine s k) := by
  unfold markLine
  iterate 40 all_goals first | intro _ | with_reducible assumption | with_reducible apply markPage_keeps | with_reducible apply Keeps.foldl

theorem roomFor_keeps {a0 : State} (s : State) (t : Nat) (k : Nat) (hk : Keeps a0 s) :
    Keeps a0 (roomFor s t k) := by
  unfold roomFor
  iterate 40 all_goals first
    | with_reducible assumption | with_reducible apply evictSlice_keeps | with_reducible apply freeNext_keeps | with_reducible apply Keeps.ite

theorem putHome_keeps {a0 : State} (s : State) (k : Nat) (d : List Byte) (bad : Bool) (dirty : Bool) (hk : Keeps a0 s) :
    Keeps a0 (putHome s k d bad dirty) := by
  unfold putHome
  iterate 40 all_goals first
    | with_reducible assumption | with_reducible apply toMemory_keeps | with_reducible apply setLine_keeps | with_reducible apply largeEvent_keeps
    | with_reducible apply roomFor_keeps | with_reducible apply Keeps.ite

theorem lostOwner_keeps {a0 : State} (s : State) (k : Nat) (hk : Keeps a0 s) :
    Keeps a0 (lostOwner s k) := by
  unfold lostOwner
  iterate 40 all_goals first
    | with_reducible assumption | with_reducible apply raise_keeps | with_reducible apply markLine_keeps | with_reducible apply bump_keeps
    | with_reducible apply putHome_keeps | with_reducible apply Keeps.ite

theorem purgeHost_keeps {a0 : State} (s : State) (k : Nat) (p : Nat) (hk : Keeps a0 s) :
    Keeps a0 (purgeHost s k p) := by
  unfold purgeHost
  iterate 40 all_goals first
    | with_reducible assumption | with_reducible apply dirStore_keeps | with_reducible apply setLine_keeps | with_reducible apply lostOwner_keeps
    | with_reducible apply Keeps.ite

theorem snoopAll_keeps {a0 : State} (s : State) (k : Nat) (l : List (Nat × Snoop)) (hk : Keeps a0 s) :
    Keeps a0 (snoopAll s k l) := by
  unfold snoopAll
  iterate 40 all_goals first
    | intro _ | with_reducible assumption | with_reducible apply sendSnoop_keeps | with_reducible apply purgeHost_keeps
    | with_reducible apply Keeps.ite | with_reducible apply Keeps.foldl

theorem startEviction_keeps {a0 : State} (s : State) (k : Nat) (hk : Keeps a0 s) :
    Keeps a0 (startEviction s k) := by
  unfold startEviction
  iterate 40 all_goals first
    | with_reducible assumption | with_reducible apply setLine_keeps | with_reducible apply endEviction_keeps | with_reducible apply snoopAll_keeps

theorem respond_keeps {a0 : State} (s : State) (r : Req) (x : Response) (len : Nat) (hk : Keeps a0 s) :
    Keeps a0 (respond s r x len) := by
  unfold respond
  iterate 40 all_goals first
    | with_reducible assumption | with_reducible apply bump_keeps | with_reducible apply endSample_keeps | with_reducible apply pushEgress_keeps
    | with_reducible apply carryOut_keeps | with_reducible apply Keeps.ite

theorem emptyAnswer_keeps {a0 : State} (s : State) (r : Req) (io : Nat) (hk : Keeps a0 s) :
    Keeps a0 (emptyAnswer s r io) := by
  unfold emptyAnswer
  iterate 40 all_goals first
    | with_reducible assumption | with_reducible apply respond_keeps | with_reducible apply instEvent_keeps | with_reducible apply endSample_keeps
    | split

theorem awayAnswer_keeps {a0 : State} (s : State) (r : Req) (t : Nat) (hk : Keeps a0 s) :
    Keeps a0 (awayAnswer s r t) := by
  unfold awayAnswer
  iterate 40 all_goals first
    | with_reducible assumption | with_reducible apply portEvent_keeps | with_reducible apply bump_keeps | with_reducible apply raise_keeps
    | with_reducible apply logRas_keeps | with_reducible apply emptyAnswer_keeps | split

theorem cutAnswer_keeps {a0 : State} (s : State) (r : Req) (hk : Keeps a0 s) :
    Keeps a0 (cutAnswer s r) := by
  unfold cutAnswer
  iterate 40 all_goals first
    | with_reducible assumption | with_reducible apply portEvent_keeps | with_reducible apply bump_keeps | with_reducible apply setCtx_keeps
    | with_reducible apply awayAnswer_keeps | with_reducible apply emptyAnswer_keeps | dsimp only | split

theorem askFill_keeps {a0 : State} (s : State) (k : Nat) (r : Req) (hk : Keeps a0 s) :
    Keeps a0 (askFill s k r) := by
  unfold askFill
  iterate 40 all_goals first
    | with_reducible assumption | with_reducible apply largeEvent_keeps | with_reducible apply bump_keeps | with_reducible apply setLine_keeps
    | with_reducible apply pushEgress_keeps | with_reducible apply carryOut_keeps | with_reducible apply Keeps.ite

theorem respondNdr_keeps {a0 : State} (s : State) (r : Req) (g : Nat) (hk : Keeps a0 s) :
    Keeps a0 (respondNdr s r g) := by
  unfold respondNdr
  iterate 40 all_goals first
    | with_reducible assumption | with_reducible apply devLoadOf_keeps | with_reducible apply respond_keeps | with_reducible apply portEvent_keeps
    | with_reducible apply Keeps.ite | with_reducible apply KeepsP.fst

theorem release_keeps {a0 : State} (s : State) (k : Nat) (granted : Bool) (hk : Keeps a0 s) :
    Keeps a0 (release s k granted) := by
  unfold release
  iterate 40 all_goals first | with_reducible assumption | with_reducible apply dirStore_keeps | with_reducible apply setLine_keeps

theorem wroteLine_keeps {a0 : State} (s : State) (r : Req) (hk : Keeps a0 s) :
    Keeps a0 (wroteLine s r) := by
  unfold wroteLine
  iterate 40 all_goals first
    | with_reducible assumption | fail_if_no_progress (with_reducible refine Keeps.lit rfl rfl rfl rfl rfl rfl rfl rfl ?_) | dsimp only | split

theorem accDone_keeps {a0 : State} (s : State) (r : Req) (d : List Byte) (bad : Bool) (flag : Bool) (read : Bool) (hk : Keeps a0 s) :
    KeepsP a0 (accDone s r d bad flag read) := by
  unfold accDone
  iterate 40 all_goals first
    | with_reducible assumption | with_reducible apply setCtx_keeps
    | fail_if_no_progress (with_reducible apply KeepsP.mk' <;> try with_reducible apply KeepsP.fst) | dsimp only | split

theorem remoteFill_keeps {a0 : State} (s : State) (k : Nat) (t : Nat) (hk : Keeps a0 s) :
    Keeps a0 (remoteFill s k t) := by
  unfold remoteFill
  iterate 40 all_goals first
    | with_reducible assumption | with_reducible apply largeEvent_keeps | with_reducible apply roomFor_keeps | with_reducible apply setLine_keeps
    | with_reducible apply Keeps.ite

theorem touchLine_keeps {a0 : State} (s : State) (k : Nat) (hk : Keeps a0 s) :
    Keeps a0 (touchLine s k) := by
  unfold touchLine
  iterate 40 all_goals first
    | with_reducible assumption | with_reducible apply setLine_keeps
    | fail_if_no_progress (with_reducible refine Keeps.lit rfl rfl rfl rfl rfl rfl rfl rfl ?_)

theorem respondRead_keeps {a0 : State} (s : State) (r : Req) (d : List Byte) (bad : Bool) (grant : Option Nat) (hk : Keeps a0 s) :
    Keeps a0 (respondRead s r d bad grant) := by
  unfold respondRead
  iterate 40 all_goals first
    | with_reducible assumption | with_reducible apply devLoadOf_keeps | with_reducible apply portEvent_keeps | with_reducible apply instEvent_keeps
    | with_reducible apply respond_keeps | with_reducible apply KeepsP.fst | split

theorem perform_keeps {a0 : State} (s : State) (k : Nat) (r : Req) (hk : Keeps a0 s) :
    KeepsP a0 (perform s k r) := by
  unfold perform
  iterate 40 all_goals first
    | with_reducible assumption | with_reducible apply respondNdr_keeps | with_reducible apply release_keeps | with_reducible apply setLine_keeps
    | with_reducible apply putHome_keeps | with_reducible apply wroteLine_keeps | with_reducible apply largeEvent_keeps
    | with_reducible apply bump_keeps | with_reducible apply clusterEvent_keeps | with_reducible apply instEvent_keeps
    | with_reducible apply respond_keeps | with_reducible apply accDone_keeps | with_reducible apply remoteFill_keeps
    | with_reducible apply roomFor_keeps | with_reducible apply touchLine_keeps | with_reducible apply markPage_keeps
    | with_reducible apply respondRead_keeps | fail_if_no_progress (with_reducible apply KeepsP.mk' <;> try with_reducible apply KeepsP.fst) | split

theorem advance_keeps {a0 : State} (s : State) (k : Nat) (hk : Keeps a0 s) :
    KeepsP a0 (advance s k) := by
  unfold advance
  iterate 40 all_goals first
    | with_reducible assumption | with_reducible apply cutAnswer_keeps | with_reducible apply setLine_keeps | with_reducible apply askFill_keeps
    | with_reducible apply perform_keeps | with_reducible apply largeEvent_keeps | with_reducible apply bump_keeps
    | fail_if_no_progress (with_reducible apply KeepsP.mk' <;> try with_reducible apply KeepsP.fst) | dsimp only | split

theorem takeHead_keeps {a0 : State} (s : State) (k : Nat) (hk : Keeps a0 s) :
    KeepsP a0 (takeHead s k) := by
  unfold takeHead
  iterate 40 all_goals first
    | with_reducible assumption | with_reducible apply largeEvent_keeps | with_reducible apply bump_keeps | with_reducible apply startEviction_keeps
    | with_reducible apply setLine_keeps | with_reducible apply advance_keeps | with_reducible apply snoopAll_keeps
    | fail_if_no_progress (with_reducible apply KeepsP.mk' <;> try with_reducible apply KeepsP.fst)
    | fail_if_no_progress (with_reducible refine Keeps.lit rfl rfl rfl rfl rfl rfl rfl rfl ?_) | dsimp only | split

theorem pump_keeps {a0 : State} (n : Nat) (s : State) (k : Nat) (hk : Keeps a0 s) :
    KeepsP a0 (pump n s k) := by
  induction n generalizing s k with
  | zero =>
    unfold pump
    first
      | exact hk
      | exact KeepsP.mk' hk
  | succ n ih =>
    unfold pump
    iterate 40 all_goals first
      | with_reducible assumption | with_reducible apply ih | with_reducible apply takeHead_keeps | with_reducible apply KeepsP.ite
      | fail_if_no_progress (with_reducible apply KeepsP.mk' <;> try with_reducible apply KeepsP.fst) | with_reducible apply KeepsP.fst

theorem retryBlocked_keeps {a0 : State} (s : State) (hk : Keeps a0 s) :
    KeepsP a0 (retryBlocked s) := by
  unfold retryBlocked
  iterate 40 all_goals first
    | intro _ | with_reducible assumption | with_reducible apply pump_keeps
    | fail_if_no_progress (with_reducible apply KeepsP.mk' <;> try with_reducible apply KeepsP.fst) | with_reducible apply KeepsP.fst
    | with_reducible apply KeepsP.foldl | fail_if_no_progress (with_reducible refine Keeps.lit rfl rfl rfl rfl rfl rfl rfl rfl ?_)

theorem purgeLost_keeps {a0 : State} (s : State) (k : Nat) (hk : Keeps a0 s) :
    Keeps a0 (purgeLost s k) := by
  unfold purgeLost
  iterate 40 all_goals first | intro _ | with_reducible assumption | with_reducible apply purgeHost_keeps | with_reducible apply Keeps.foldl

theorem holdAtLock_keeps {a0 : State} (s : State) (r : Req) (hk : Keeps a0 s) :
    Keeps a0 (holdAtLock s r) := by
  unfold holdAtLock
  iterate 40 all_goals first
    | with_reducible assumption | with_reducible apply setMove_keeps
    | fail_if_no_progress (with_reducible refine Keeps.lit rfl rfl rfl rfl rfl rfl rfl rfl ?_) | dsimp only | split

theorem markTaken_keeps {a0 : State} (s : State) (r : Req) (hk : Keeps a0 s) :
    Keeps a0 (markTaken s r) := by
  unfold markTaken
  iterate 40 all_goals first | with_reducible assumption | with_reducible apply markPage_keeps | with_reducible apply Keeps.ite

theorem writeBack_keeps {a0 : State} (s : State) (k : Nat) (r : Req) (hk : Keeps a0 s) :
    Keeps a0 (writeBack s k r) := by
  unfold writeBack
  iterate 40 all_goals first
    | with_reducible assumption | with_reducible apply respondNdr_keeps | with_reducible apply wroteLine_keeps
    | with_reducible apply markTaken_keeps | with_reducible apply putHome_keeps

theorem arriveHome_keeps {a0 : State} (s0 : State) (r : Req) (hk : Keeps a0 s0) :
    KeepsP a0 (arriveHome s0 r) := by
  unfold arriveHome
  iterate 40 all_goals first
    | with_reducible assumption | with_reducible apply purgeLost_keeps | with_reducible apply holdAtLock_keeps
    | with_reducible apply writeBack_keeps | with_reducible apply largeEvent_keeps | with_reducible apply bump_keeps
    | with_reducible apply cacheTouch_keeps | with_reducible apply markTaken_keeps | with_reducible apply setLine_keeps
    | with_reducible apply pump_keeps | with_reducible apply wr_keeps | with_reducible apply Keeps.ite | with_reducible apply KeepsP.ite
    | fail_if_no_progress (with_reducible apply KeepsP.mk' <;> try with_reducible apply KeepsP.fst) | with_reducible apply KeepsP.fst
    | fail_if_no_progress (with_reducible refine Keeps.lit rfl rfl rfl rfl rfl rfl rfl rfl ?_)

theorem retryFull_keeps {a0 : State} (s : State) (hk : Keeps a0 s) :
    KeepsP a0 (retryFull s) := by
  unfold retryFull
  iterate 40 all_goals first
    | intro _ | with_reducible assumption | with_reducible apply arriveHome_keeps
    | fail_if_no_progress (with_reducible apply KeepsP.mk' <;> try with_reducible apply KeepsP.fst) | with_reducible apply KeepsP.fst
    | with_reducible apply KeepsP.foldl | fail_if_no_progress (with_reducible refine Keeps.lit rfl rfl rfl rfl rfl rfl rfl rfl ?_) | split

theorem homeward_keeps {a0 : State} (s : State) (r : Req) (hk : Keeps a0 s) :
    KeepsP a0 (homeward s r) := by
  unfold homeward
  iterate 40 all_goals first
    | with_reducible assumption | with_reducible apply cutAnswer_keeps | with_reducible apply arriveHome_keeps
    | with_reducible apply countPass_keeps | with_reducible apply admit_keeps | with_reducible apply KeepsP.ite
    | fail_if_no_progress (with_reducible apply KeepsP.mk' <;> try with_reducible apply KeepsP.fst)

theorem drive_keeps {a0 : State} (n : Nat) (s : State) (l : List Req) (hk : Keeps a0 s) :
    Keeps a0 (drive n s l) := by
  induction n generalizing s l with
  | zero =>
    unfold drive
    exact hk
  | succ n ih =>
    cases l with
    | nil =>
      unfold drive
      exact hk
    | cons r t =>
      unfold drive
      exact ih _ _ (homeward_keeps s r hk).fst

theorem settle_keeps {a0 : State} (s : State) (k : Nat) (hk : Keeps a0 s) :
    Keeps a0 (settle s k) := by
  unfold settle
  iterate 40 all_goals first
    | with_reducible assumption | with_reducible apply pump_keeps | with_reducible apply retryBlocked_keeps | with_reducible apply retryFull_keeps
    | with_reducible apply drive_keeps | with_reducible apply KeepsP.fst

theorem resume_keeps {a0 : State} (s : State) (k : Nat) (hk : Keeps a0 s) :
    Keeps a0 (resume s k) := by
  unfold resume
  iterate 40 all_goals first
    | with_reducible assumption | with_reducible apply endEviction_keeps | with_reducible apply dirStore_keeps | with_reducible apply advance_keeps
    | with_reducible apply settle_keeps | with_reducible apply drive_keeps | with_reducible apply KeepsP.fst

theorem snoopAnswer_keeps {a0 : State} (s0 : State) (k : Nat) (p : Nat) (rsp : BiRsp) (d : Option (List Byte)) (hk : Keeps a0 s0) :
    Keeps a0 (snoopAnswer s0 k p rsp d) := by
  unfold snoopAnswer
  iterate 40 all_goals first
    | with_reducible assumption | with_reducible apply putHome_keeps | with_reducible apply resume_keeps | with_reducible apply largeEvent_keeps
    | with_reducible apply setLine_keeps | dsimp only | split

theorem cutSnoop_keeps {a0 : State} (s : State) (k : Nat) (p : Nat) (hk : Keeps a0 s) :
    Keeps a0 (cutSnoop s k p) := by
  unfold cutSnoop
  iterate 40 all_goals first
    | with_reducible assumption | with_reducible apply snoopAnswer_keeps | with_reducible apply lostOwner_keeps | with_reducible apply Keeps.ite

theorem loseHost_keeps {a0 : State} (s : State) (p : Nat) (hk : Keeps a0 s) :
    Keeps a0 (loseHost s p) := by
  unfold loseHost
  iterate 40 all_goals first
    | intro _ | with_reducible assumption | with_reducible apply cutSnoop_keeps | with_reducible apply Keeps.foldl
    | fail_if_no_progress (with_reducible refine Keeps.lit rfl rfl rfl rfl rfl rfl rfl rfl ?_)

theorem wakeBlocked_keeps {a0 : State} (s : State) (hk : Keeps a0 s) :
    Keeps a0 (wakeBlocked s) := by
  unfold wakeBlocked
  iterate 40 all_goals first
    | with_reducible assumption | with_reducible apply retryBlocked_keeps | with_reducible apply drive_keeps | with_reducible apply Keeps.ite
    | with_reducible apply KeepsP.fst

theorem rbiScan_keeps {a0 : State} (s : State) (x : Rbi) (hk : Keeps a0 s) :
    Keeps a0 (rbiScan s x) := by
  unfold rbiScan
  iterate 40 all_goals first
    | intro _ | with_reducible assumption | with_reducible apply resume_keeps | with_reducible apply snoopAll_keeps
    | with_reducible apply startEviction_keeps | with_reducible apply Keeps.ite | with_reducible apply Keeps.foldl | split

theorem startRbi_keeps {a0 : State} (s : State) (x : Rbi) (hk : Keeps a0 s) :
    Keeps a0 (startRbi s x) := by
  unfold startRbi
  iterate 40 all_goals first
    | with_reducible assumption | with_reducible apply rbiScan_keeps | with_reducible apply bump_keeps
    | fail_if_no_progress (with_reducible refine Keeps.lit rfl rfl rfl rfl rfl rfl rfl rfl ?_)

theorem flushTile_keeps {a0 : State} (s : State) (t : Nat) (hk : Keeps a0 s) :
    Keeps a0 (flushTile s t) := by
  unfold flushTile
  iterate 40 all_goals first
    | intro _ | with_reducible assumption | with_reducible apply setLine_keeps | with_reducible apply toMemory_keeps
    | with_reducible apply Keeps.foldl

theorem lookupWrite_keeps {a0 : State} (s : State) (t : Nat) (v : List Byte) (hk : Keeps a0 s) :
    KeepsP a0 (lookupWrite s t v) := by
  unfold lookupWrite
  iterate 40 all_goals first
    | with_reducible assumption | with_reducible apply wr_keeps | with_reducible apply cmdDone_keeps
    | fail_if_no_progress (with_reducible apply KeepsP.mk' <;> try with_reducible apply KeepsP.fst)

theorem hbmRead_keeps {a0 : State} (s : State) (loc : Nat) (hk : Keeps a0 s) :
    Keeps a0 (hbmRead s loc) := by
  unfold hbmRead
  iterate 40 all_goals first
    | with_reducible assumption | with_reducible apply raise_keeps | with_reducible apply largeEvent_keeps | with_reducible apply bump_keeps
    | with_reducible apply freeNext_keeps | with_reducible apply Keeps.ite

theorem wakeBank_keeps {a0 : State} (s : State) (t : Nat) (b : Nat) (kept : Bool) (hk : Keeps a0 s) :
    Keeps a0 (wakeBank s t b kept) := by
  unfold wakeBank
  iterate 40 all_goals first
    | with_reducible assumption | with_reducible apply wr_keeps | with_reducible apply bump_keeps | with_reducible apply Keeps.ite
    | fail_if_no_progress (with_reducible refine Keeps.lit rfl rfl rfl rfl rfl rfl rfl rfl ?_)

theorem dropRange_keeps {a0 : State} (s : State) (rs : List (Nat × Nat)) (hk : Keeps a0 s) :
    Keeps a0 (dropRange s rs) := by
  unfold dropRange
  iterate 40 all_goals first | with_reducible assumption | fail_if_no_progress (with_reducible refine Keeps.lit rfl rfl rfl rfl rfl rfl rfl rfl ?_)

theorem nextArrival_keeps {a0 : State} (s : State) (l : List Req) (hk : Keeps a0 s) :
    KeepsOP a0 (nextArrival s l) := by
  unfold nextArrival
  iterate 40 all_goals first
    | with_reducible assumption | with_reducible apply largeEvent_keeps | with_reducible apply bump_keeps
    | fail_if_no_progress (with_reducible apply KeepsP.mk' <;> try with_reducible apply KeepsP.fst) | with_reducible apply KeepsOP.some
    | with_reducible apply KeepsOP.none | fail_if_no_progress (with_reducible refine Keeps.lit rfl rfl rfl rfl rfl rfl rfl rfl ?_) | dsimp only
    | split

theorem takeAll_keeps {a0 : State} (n : Nat) (s : State) (l : List Req) (hk : Keeps a0 s) :
    Keeps a0 (takeAll n s l) := by
  induction n generalizing s l with
  | zero =>
    unfold takeAll
    exact hk
  | succ n ih =>
    unfold takeAll
    split
    · exact hk
    · rename_i s1 r e
      exact ih _ _ (drive_keeps _ _ _ (arriveHome_keeps _ _ ((nextArrival_keeps s l hk).get _ e).fst).fst)

theorem takeArrived_keeps {a0 : State} (s : State) (t : Nat) (hk : Keeps a0 s) :
    Keeps a0 (takeArrived s t) := by
  unfold takeArrived
  iterate 40 all_goals first | with_reducible assumption | with_reducible apply takeAll_keeps | with_reducible apply setTile_keeps

theorem fillLine_keeps {a0 : State} (s : State) (k : Nat) (hk : Keeps a0 s) :
    KeepsP a0 (fillLine s k) := by
  unfold fillLine
  iterate 40 all_goals first
    | with_reducible assumption | with_reducible apply hbmRead_keeps | with_reducible apply frameRead_keeps | with_reducible apply setLine_keeps
    | with_reducible apply putHome_keeps | with_reducible apply perform_keeps
    | fail_if_no_progress (with_reducible apply KeepsP.mk' <;> try with_reducible apply KeepsP.fst) | dsimp only | split

theorem dirFill_keeps {a0 : State} (s : State) (h : Nat) (k : Nat) (hk : Keeps a0 s) :
    Keeps a0 (dirFill s h k) := by
  unfold dirFill
  iterate 40 all_goals first
    | with_reducible assumption | with_reducible apply dirPut_keeps | with_reducible apply Keeps.ite
    | fail_if_no_progress (with_reducible refine Keeps.lit rfl rfl rfl rfl rfl rfl rfl rfl ?_)

theorem emptyBank_keeps {a0 : State} (s : State) (t : Nat) (b : Nat) (hk : Keeps a0 s) :
    Keeps a0 (emptyBank s t b) := by
  unfold emptyBank
  iterate 40 all_goals first
    | intro _ | with_reducible assumption | with_reducible apply evictSlice_keeps | with_reducible apply toBacking_keeps
    | with_reducible apply wr_keeps | with_reducible apply Keeps.foldl

theorem endHold_keeps {a0 : State} (s : State) (k : Nat) (hk : Keeps a0 s) :
    Keeps a0 (endHold s k) := by
  unfold endHold
  iterate 40 all_goals first | with_reducible assumption | with_reducible apply settle_keeps | with_reducible apply setLine_keeps

theorem scanLost_keeps {a0 : State} (s : State) (p : Nat) (hk : Keeps a0 s) :
    Keeps a0 (scanLost s p) := by
  unfold scanLost
  iterate 40 all_goals first
    | intro _ | with_reducible assumption | with_reducible apply endHold_keeps | with_reducible apply purgeHost_keeps
    | with_reducible apply Keeps.ite | with_reducible apply Keeps.foldl
    | fail_if_no_progress (with_reducible refine Keeps.lit rfl rfl rfl rfl rfl rfl rfl rfl ?_)

theorem sliceAnswer_keeps {a0 : State} (s : State) (t : Nat) (k : Nat) (d : Option (List Byte)) (hk : Keeps a0 s) :
    Keeps a0 (sliceAnswer s t k d) := by
  unfold sliceAnswer
  iterate 40 all_goals first
    | with_reducible assumption | with_reducible apply largeEvent_keeps | with_reducible apply resume_keeps | with_reducible apply setLine_keeps
    | with_reducible apply toMemory_keeps | with_reducible apply putHome_keeps | with_reducible apply Keeps.ite

theorem stepStart_keeps {a0 : State} (s : State) (r : Req) (hk : Keeps a0 s) :
    KeepsO a0 (stepStart s r) := by
  unfold stepStart
  iterate 40 all_goals first
    | with_reducible assumption | with_reducible apply drive_keeps | with_reducible apply KeepsO.some | with_reducible apply KeepsO.none | split

theorem speculate_keeps {a0 : State} (s : State) (r : Req) (allowed : Bool) (hk : Keeps a0 s) :
    Keeps a0 (speculate s r allowed) := by
  unfold speculate
  iterate 40 all_goals first
    | with_reducible assumption | with_reducible apply largeEvent_keeps | with_reducible apply bump_keeps | with_reducible apply freeNext_keeps
    | with_reducible apply pushEgress_keeps | with_reducible apply Keeps.ite

theorem logLdRas_keeps {a0 : State} (s : State) (i : Nat) (p : Nat) (hk : Keeps a0 s) :
    Keeps a0 (logLdRas s i p) := by
  unfold logLdRas
  iterate 40 all_goals first
    | with_reducible assumption | with_reducible apply setFn_keeps | with_reducible apply logRas_keeps | with_reducible apply Keeps.ite

theorem refusedAnswer_keeps {a0 : State} (s : State) (r : Req) (hk : Keeps a0 s) :
    Keeps a0 (refusedAnswer s r) := by
  unfold refusedAnswer
  iterate 40 all_goals first | with_reducible assumption | with_reducible apply logLdRas_keeps | with_reducible apply emptyAnswer_keeps | split

theorem missAnswer_keeps {a0 : State} (s : State) (r : Req) (x : Trans) (hk : Keeps a0 s) :
    Keeps a0 (missAnswer s r x) := by
  unfold missAnswer
  iterate 40 all_goals first | with_reducible assumption | with_reducible apply emptyAnswer_keeps | with_reducible apply countMiss_keeps

theorem serve_keeps {a0 : State} (s : State) (r : Req) (hk : Keeps a0 s) :
    Keeps a0 (serve s r) := by
  unfold serve
  iterate 40 all_goals first
    | with_reducible assumption | with_reducible apply walkTranslation_keeps | with_reducible apply holdAtLock_keeps
    | with_reducible apply bump_keeps | with_reducible apply awayAnswer_keeps | with_reducible apply gate_keeps
    | with_reducible apply speculate_keeps | with_reducible apply endSample_keeps | with_reducible apply pushEgress_keeps
    | with_reducible apply drive_keeps | with_reducible apply refusedAnswer_keeps | with_reducible apply missAnswer_keeps
    | (with_reducible refine KeepsO.of (stepStart_keeps _ _ ?_) (by assumption)) | with_reducible apply Keeps.ite | with_reducible apply KeepsP.fst
    | split

theorem serveAll_keeps {a0 : State} (s : State) (rs : List Req) (hk : Keeps a0 s) :
    Keeps a0 (serveAll s rs) := by
  unfold serveAll
  iterate 40 all_goals first | with_reducible assumption | with_reducible apply serve_keeps | with_reducible apply Keeps.foldl

theorem releaseTile_keeps {a0 : State} (s : State) (t : Nat) (hk : Keeps a0 s) :
    Keeps a0 (releaseTile s t) := by
  unfold releaseTile
  iterate 40 all_goals first
    | intro _ | with_reducible assumption | with_reducible apply serve_keeps
    | (with_reducible refine KeepsOP.ofPair (releaseNext_keeps _ _ ?_) (by assumption)) | with_reducible apply Keeps.foldl | split

end Sys2Proof.Machine
end

