-- ==== Sys2Proof/Laws/Keeps6.lean ====
section
/-!
SUPPORT. What the operations of Machine/LitOps.lean, Machine/CutOps.lean, Machine/PpbOps.lean, Machine/PathOps.lean, Machine/Coherence.lean, Machine/DiagOps.lean
leave alone: each keeps the queue, every output already made, and the canonical forms (Safety.lean's Keeps).
-/
namespace Sys2Proof.Machine

open Sys2Proof

set_option linter.unusedTactic false
set_option linter.unreachableTactic false
set_option linter.unnecessarySeqFocus false

theorem takeLocked_keeps {a0 : State} (s : State) (g : Nat) (hk : Keeps a0 s) :
    KeepsP a0 (takeLocked s g) := by
  unfold takeLocked
  iterate 40 all_goals first
    | with_reducible assumption | fail_if_no_progress (with_reducible apply KeepsP.mk' <;> try with_reducible apply KeepsP.fst)
    | fail_if_no_progress (with_reducible refine Keeps.lit rfl rfl rfl rfl rfl rfl rfl rfl ?_)

theorem freeHeld_keeps {a0 : State} (s : State) (rs : List Req) (hk : Keeps a0 s) :
    Keeps a0 (freeHeld s rs) := by
  unfold freeHeld
  iterate 40 all_goals first
    | intro _ | with_reducible assumption | with_reducible apply serve_keeps | with_reducible apply drive_keeps | with_reducible apply Keeps.ite
    | with_reducible apply Keeps.foldl

theorem manualDone_keeps {a0 : State} (s : State) (ok : Bool) (reason : Nat) (hk : Keeps a0 s) :
    Keeps a0 (manualDone s ok reason) := by
  unfold manualDone
  iterate 40 all_goals first
    | with_reducible assumption | with_reducible apply bump_keeps | with_reducible apply cmdEnd_keeps | with_reducible apply Keeps.ite
    | fail_if_no_progress (with_reducible refine Keeps.lit rfl rfl rfl rfl rfl rfl rfl rfl ?_)

theorem abandonMove_keeps {a0 : State} (s : State) (g : Nat) (reason : Nat) (hk : Keeps a0 s) :
    Keeps a0 (abandonMove s g reason) := by
  unfold abandonMove
  iterate 40 all_goals first
    | with_reducible assumption | with_reducible apply delRemap_keeps | with_reducible apply setRemap_keeps | with_reducible apply markPlace_keeps
    | with_reducible apply litBump_keeps | with_reducible apply wrTbl_keeps | with_reducible apply wrBlob_keeps
    | with_reducible apply takeLocked_keeps | with_reducible apply freeHeld_keeps | with_reducible apply manualDone_keeps
    | with_reducible apply KeepsP.fst | fail_if_no_progress (with_reducible refine Keeps.lit rfl rfl rfl rfl rfl rfl rfl rfl ?_) | split

theorem abandonWhere_keeps {a0 : State} (s : State) (reason : Nat) (p : Nat → Move → Bool) (hk : Keeps a0 s) :
    Keeps a0 (abandonWhere s reason p) := by
  unfold abandonWhere
  iterate 40 all_goals first | intro _ | with_reducible assumption | with_reducible apply abandonMove_keeps | with_reducible apply Keeps.foldl

theorem movesLost_keeps {a0 : State} (s : State) (t : Nat) (hk : Keeps a0 s) :
    Keeps a0 (movesLost s t) := by
  unfold movesLost
  iterate 40 all_goals first | with_reducible assumption | with_reducible apply abandonWhere_keeps

theorem trimFrames_keeps {a0 : State} (s : State) (t : Nat) (hk : Keeps a0 s) :
    Keeps a0 (trimFrames s t) := by
  unfold trimFrames
  iterate 40 all_goals first
    | intro _ | with_reducible assumption | with_reducible apply markPlace_keeps | with_reducible apply releaseFrame_keeps
    | with_reducible apply Keeps.foldl

theorem movesClosed_keeps {a0 : State} (s : State) (p : Nat → Bool) (hk : Keeps a0 s) :
    Keeps a0 (movesClosed s p) := by
  unfold movesClosed
  iterate 40 all_goals first | with_reducible assumption | with_reducible apply abandonWhere_keeps

theorem movesService_keeps {a0 : State} (s : State) (hk : Keeps a0 s) :
    Keeps a0 (movesService s) := by
  unfold movesService
  iterate 40 all_goals first | with_reducible assumption | with_reducible apply abandonWhere_keeps

theorem frameMade_keeps {a0 : State} (s : State) (g : Nat) (always : Bool) (hk : Keeps a0 s) :
    KeepsO a0 (frameMade s g always) := by
  unfold frameMade
  iterate 40 all_goals first
    | with_reducible assumption | with_reducible apply markPlace_keeps | with_reducible apply releaseFrame_keeps | with_reducible apply KeepsO.ite
    | with_reducible apply KeepsO.some | with_reducible apply KeepsO.none | split

theorem regionsCommand_keeps {a0 : State} (s : State) (g : Nat) (start : Nat) (recs : List Nat) (hk : Keeps a0 s) :
    KeepsP a0 (regionsCommand s g start recs) := by
  unfold regionsCommand
  iterate 40 all_goals first
    | with_reducible assumption | with_reducible apply regionsWrite_keeps | with_reducible apply abandonWhere_keeps | with_reducible apply Keeps.ite
    | fail_if_no_progress (with_reducible apply KeepsP.mk' <;> try with_reducible apply KeepsP.fst) | with_reducible apply KeepsP.fst

theorem movesExcluded_keeps {a0 : State} (s : State) (hk : Keeps a0 s) :
    Keeps a0 (movesExcluded s) := by
  unfold movesExcluded
  iterate 40 all_goals first | with_reducible assumption | with_reducible apply abandonWhere_keeps

theorem manualHeat_keeps {a0 : State} (s : State) (w : WaitMove) (v : Nat) (hk : Keeps a0 s) :
    Keeps a0 (manualHeat s w v) := by
  unfold manualHeat
  iterate 40 all_goals first | with_reducible assumption | with_reducible apply forceHeat_keeps | with_reducible apply Keeps.ite

theorem pickFree_keeps {a0 : State} (s : State) (l : List Nat) (hk : Keeps a0 s) :
    KeepsOP a0 (pickFree s l) := by
  unfold pickFree
  iterate 40 all_goals first
    | with_reducible assumption | with_reducible apply freeNext_keeps
    | fail_if_no_progress (with_reducible apply KeepsP.mk' <;> try with_reducible apply KeepsP.fst) | with_reducible apply KeepsOP.ite
    | with_reducible apply KeepsOP.some | with_reducible apply KeepsOP.none

theorem slotIn_keeps {a0 : State} (s : State) (t : Nat) (b : Nat) (pol : Option Nat) (hk : Keeps a0 s) :
    KeepsOP a0 (slotIn s t b pol) := by
  unfold slotIn
  iterate 40 all_goals first | with_reducible assumption | with_reducible apply pickFree_keeps

theorem openPlace_keeps {a0 : State} (s : State) (t : Nat) (b : Nat) (hk : Keeps a0 s) :
    Keeps a0 (openPlace s t b) := by
  unfold openPlace
  iterate 40 all_goals first | with_reducible assumption | with_reducible apply changeBlk_keeps

theorem slotOn_keeps {a0 : State} (s : State) (t : Nat) (pol : Option Nat) (hk : Keeps a0 s) :
    KeepsOP a0 (slotOn s t pol) := by
  have h1 := pickFree_keeps s ((openSlots s t).filter (polIs s pol)) hk
  have h2 := pickFree_keeps s ((takeable s t).filter fun b => (blockGrans s t b).any (polIs s pol)) hk
  unfold slotOn
  refine KeepsOP.ite KeepsOP.none ?_
  generalize pickFree s ((openSlots s t).filter (polIs s pol)) = p at h1 ⊢
  generalize pickFree s ((takeable s t).filter fun b => (blockGrans s t b).any (polIs s pol)) = q at h2 ⊢
  cases p with
  | some x => exact h1
  | none =>
    cases q with
    | some x => exact slotIn_keeps _ _ _ _ (openPlace_keeps _ _ _ (h2.get _ rfl).fst)
    | none => exact KeepsOP.none

theorem callBack_keeps {a0 : State} (s : State) (g : Nat) (hk : Keeps a0 s) :
    Keeps a0 (callBack s g) := by
  unfold callBack
  iterate 40 all_goals first
    | intro _ | with_reducible assumption | with_reducible apply resume_keeps | with_reducible apply startEviction_keeps
    | with_reducible apply startRbi_keeps | with_reducible apply Keeps.ite | with_reducible apply Keeps.foldl

theorem beginMove_keeps {a0 : State} (s : State) (g : Nat) (dest : Nat) (back : Bool) (manual : Bool) (hk : Keeps a0 s) :
    Keeps a0 (beginMove s g dest back manual) := by
  unfold beginMove
  iterate 40 all_goals first
    | with_reducible assumption | with_reducible apply markPlace_keeps | with_reducible apply callBack_keeps | with_reducible apply setMove_keeps
    | with_reducible apply Keeps.ite | fail_if_no_progress (with_reducible refine Keeps.lit rfl rfl rfl rfl rfl rfl rfl rfl ?_)

theorem promote_keeps {a0 : State} (s : State) (w : WaitMove) (hk : Keeps a0 s) :
    Keeps a0 (promote s w) := by
  unfold promote
  iterate 40 all_goals first
    | with_reducible assumption | with_reducible apply manualDone_keeps | with_reducible apply litBump_keeps | with_reducible apply beginMove_keeps
    | (with_reducible refine KeepsOP.ofPair (slotOn_keeps _ _ _ ?_) (by assumption)) | split

theorem admitFrame_keeps {a0 : State} (s : State) (g : Nat) (always : Bool) (hk : Keeps a0 s) :
    Keeps a0 (admitFrame s g always) := by
  unfold admitFrame
  iterate 40 all_goals first
    | with_reducible assumption | with_reducible apply markPlace_keeps | with_reducible apply setFrame_keeps
    | (with_reducible refine KeepsO.of (frameMade_keeps _ _ _ ?_) (by assumption)) | with_reducible apply Keeps.ite | split

theorem startWait_keeps {a0 : State} (s0 : State) (w : WaitMove) (hk : Keeps a0 s0) :
    Keeps a0 (startWait s0 w) := by
  unfold startWait
  iterate 40 all_goals first
    | with_reducible assumption | with_reducible apply abandonMove_keeps | with_reducible apply manualHeat_keeps
    | with_reducible apply promote_keeps | with_reducible apply manualDone_keeps | with_reducible apply beginMove_keeps
    | with_reducible apply markPlace_keeps | with_reducible apply releaseFrame_keeps | with_reducible apply forceHeat_keeps
    | with_reducible apply admitFrame_keeps | with_reducible apply Keeps.ite | split

theorem pumpMoves_keeps {a0 : State} (n : Nat) (s : State) (hk : Keeps a0 s) :
    Keeps a0 (pumpMoves n s) := by
  induction n generalizing s with
  | zero =>
    unfold pumpMoves
    first
      | exact hk
  | succ n ih =>
    unfold pumpMoves
    iterate 40 all_goals first
      | with_reducible assumption | with_reducible apply ih | with_reducible apply startWait_keeps
      | fail_if_no_progress (with_reducible refine Keeps.lit rfl rfl rfl rfl rfl rfl rfl rfl ?_) | split

theorem runMoves_keeps {a0 : State} (s : State) (hk : Keeps a0 s) :
    Keeps a0 (runMoves s) := by
  unfold runMoves
  iterate 40 all_goals first | with_reducible assumption | with_reducible apply pumpMoves_keeps

theorem moveWrite_keeps {a0 : State} (s : State) (v : List Byte) (hk : Keeps a0 s) :
    KeepsP a0 (moveWrite s v) := by
  unfold moveWrite
  iterate 40 all_goals first
    | with_reducible assumption | with_reducible apply cmdDone_keeps | with_reducible apply wr_keeps | with_reducible apply cmdStart_keeps
    | with_reducible apply runMoves_keeps | with_reducible apply Keeps.ite | with_reducible apply KeepsP.ite
    | fail_if_no_progress (with_reducible apply KeepsP.mk' <;> try with_reducible apply KeepsP.fst)
    | fail_if_no_progress (with_reducible refine Keeps.lit rfl rfl rfl rfl rfl rfl rfl rfl ?_)

theorem returnPlaces_keeps {a0 : State} (s : State) (t : Nat) (hk : Keeps a0 s) :
    Keeps a0 (returnPlaces s t) := by
  unfold returnPlaces
  iterate 40 all_goals first | intro _ | with_reducible assumption | with_reducible apply changeBlk_keeps | with_reducible apply Keeps.foldl

theorem epochEnd_keeps {a0 : State} (s : State) (t : Nat) (hk : Keeps a0 s) :
    Keeps a0 (epochEnd s t) := by
  unfold epochEnd
  iterate 40 all_goals first
    | with_reducible assumption | with_reducible apply returnPlaces_keeps | with_reducible apply decayHeat_keeps
    | with_reducible apply litBump_keeps | with_reducible apply runMoves_keeps | with_reducible apply Keeps.ite
    | fail_if_no_progress (with_reducible refine Keeps.lit rfl rfl rfl rfl rfl rfl rfl rfl ?_)

theorem copyGate_keeps {a0 : State} (s : State) (g : Nat) (m : Move) (hk : Keeps a0 s) :
    KeepsP a0 (copyGate s g m) := by
  unfold copyGate
  iterate 40 all_goals first
    | with_reducible assumption | with_reducible apply gate_keeps | with_reducible apply KeepsP.ite
    | fail_if_no_progress (with_reducible apply KeepsP.mk' <;> try with_reducible apply KeepsP.fst) | with_reducible apply KeepsP.fst

theorem systemTraffic_keeps {a0 : State} (s : State) (t : Nat) (lines : Nat) (hk : Keeps a0 s) :
    Keeps a0 (systemTraffic s t lines) := by
  unfold systemTraffic
  iterate 40 all_goals first | with_reducible assumption | with_reducible apply wrTbl_keeps

theorem copyLines_keeps {a0 : State} (s : State) (g : Nat) (m : Move) (ls : List Nat) (hk : Keeps a0 s) :
    Keeps a0 (copyLines s g m ls) := by
  unfold copyLines
  iterate 40 all_goals first
    | intro _ | with_reducible assumption | with_reducible apply hbmRead_keeps | with_reducible apply writeLine_keeps
    | with_reducible apply systemTraffic_keeps | with_reducible apply spend_keeps | with_reducible apply largeEvent_keeps
    | with_reducible apply Keeps.ite | with_reducible apply Keeps.foldl

theorem copyPass_keeps {a0 : State} (s : State) (g : Nat) (m : Move) (ls : List Nat) (hk : Keeps a0 s) :
    Keeps a0 (copyPass s g m ls) := by
  unfold copyPass
  iterate 40 all_goals first
    | with_reducible assumption | with_reducible apply copyGate_keeps | with_reducible apply copyLines_keeps | with_reducible apply runMoves_keeps
    | with_reducible apply abandonMove_keeps | with_reducible apply Keeps.ite | with_reducible apply KeepsP.fst

theorem recallDone_keeps {a0 : State} (s : State) (g : Nat) (hk : Keeps a0 s) :
    Keeps a0 (recallDone s g) := by
  unfold recallDone
  iterate 40 all_goals first
    | with_reducible assumption | with_reducible apply callBack_keeps | with_reducible apply copyPass_keeps | with_reducible apply setMove_keeps
    | split

theorem lockMove_keeps {a0 : State} (s : State) (g : Nat) (m : Move) (hk : Keeps a0 s) :
    Keeps a0 (lockMove s g m) := by
  unfold lockMove
  iterate 40 all_goals first
    | with_reducible assumption | with_reducible apply abandonMove_keeps | with_reducible apply setMove_keeps | with_reducible apply callBack_keeps
    | with_reducible apply setRemap_keeps | with_reducible apply Keeps.ite

theorem copyDone_keeps {a0 : State} (s : State) (g : Nat) (hk : Keeps a0 s) :
    Keeps a0 (copyDone s g) := by
  unfold copyDone
  iterate 40 all_goals first
    | with_reducible assumption | with_reducible apply copyPass_keeps | with_reducible apply setMove_keeps | with_reducible apply lockMove_keeps
    | with_reducible apply runMoves_keeps | with_reducible apply abandonMove_keeps | split

theorem guardExpires_keeps {a0 : State} (s : State) (g : Nat) (hk : Keeps a0 s) :
    Keeps a0 (guardExpires s g) := by
  unfold guardExpires
  iterate 40 all_goals first
    | with_reducible assumption | with_reducible apply runMoves_keeps | with_reducible apply raise_keeps | with_reducible apply litBump_keeps
    | with_reducible apply abandonMove_keeps | split

theorem handOver_keeps {a0 : State} (s : State) (g : Nat) (old : Nat) (new : Nat) (hk : Keeps a0 s) :
    Keeps a0 (handOver s g old new) := by
  unfold handOver
  iterate 40 all_goals first
    | intro _ | with_reducible assumption | with_reducible apply setLine_keeps | with_reducible apply Keeps.ite | with_reducible apply Keeps.foldl

theorem cutOver_keeps {a0 : State} (s : State) (g : Nat) (hk : Keeps a0 s) :
    Keeps a0 (cutOver s g) := by
  unfold cutOver
  iterate 40 all_goals first
    | with_reducible assumption | with_reducible apply copyGate_keeps | with_reducible apply runMoves_keeps | with_reducible apply abandonMove_keeps
    | with_reducible apply copyLines_keeps | with_reducible apply setColour_keeps | with_reducible apply handOver_keeps
    | with_reducible apply delRemap_keeps | with_reducible apply setRemap_keeps | with_reducible apply litBump_keeps
    | with_reducible apply largeEvent_keeps | with_reducible apply setMove_keeps | with_reducible apply takeLocked_keeps
    | with_reducible apply freeHeld_keeps | with_reducible apply Keeps.ite | with_reducible apply KeepsP.fst
    | fail_if_no_progress (with_reducible refine Keeps.lit rfl rfl rfl rfl rfl rfl rfl rfl ?_) | split

theorem releaseMessage_keeps {a0 : State} (s : State) (t : Nat) (g : Nat) (hk : Keeps a0 s) :
    Keeps a0 (releaseMessage s t g) := by
  unfold releaseMessage
  iterate 40 all_goals first | with_reducible assumption | with_reducible apply freeHeld_keeps | with_reducible apply setMove_keeps | split

theorem settleMove_keeps {a0 : State} (s : State) (g : Nat) (hk : Keeps a0 s) :
    Keeps a0 (settleMove s g) := by
  unfold settleMove
  iterate 40 all_goals first
    | with_reducible assumption | with_reducible apply markPlace_keeps | with_reducible apply dropFrame_keeps | with_reducible apply drainDone_keeps
    | with_reducible apply runMoves_keeps | with_reducible apply manualDone_keeps
    | fail_if_no_progress (with_reducible refine Keeps.lit rfl rfl rfl rfl rfl rfl rfl rfl ?_) | split

theorem dropFills_keeps {a0 : State} (s0 : State) (hk : Keeps a0 s0) :
    Keeps a0 (dropFills s0) := by
  unfold dropFills
  iterate 40 all_goals first
    | with_reducible assumption | with_reducible apply takeCells_keeps | with_reducible apply KeepsP.fst
    | fail_if_no_progress (with_reducible refine Keeps.lit rfl rfl rfl rfl rfl rfl rfl rfl ?_)

theorem cutRequests_keeps {a0 : State} (s : State) (p : Req → Bool) (hk : Keeps a0 s) :
    Keeps a0 (cutRequests s p) := by
  unfold cutRequests
  iterate 40 all_goals first
    | intro _ | with_reducible assumption | with_reducible apply takeJobs_keeps | with_reducible apply setLine_keeps
    | with_reducible apply settle_keeps | with_reducible apply cutAnswer_keeps | with_reducible apply dropFills_keeps
    | with_reducible apply KeepsP.fst | with_reducible apply Keeps.foldl
    | fail_if_no_progress (with_reducible refine Keeps.lit rfl rfl rfl rfl rfl rfl rfl rfl ?_)

theorem targetLost_keeps {a0 : State} (s : State) (t : Nat) (hk : Keeps a0 s) :
    Keeps a0 (targetLost s t) := by
  unfold targetLost
  iterate 40 all_goals first
    | with_reducible assumption | with_reducible apply cutRequests_keeps | with_reducible apply movesLost_keeps
    | with_reducible apply loseTarget_keeps | with_reducible apply Keeps.ite

theorem fillAway_keeps {a0 : State} (s : State) (k : Nat) (hk : Keeps a0 s) :
    Keeps a0 (fillAway s k) := by
  unfold fillAway
  iterate 40 all_goals first
    | with_reducible assumption | with_reducible apply settle_keeps | with_reducible apply cutAnswer_keeps | with_reducible apply setLine_keeps
    | dsimp only | split

theorem dvsecWrite_keeps {a0 : State} (s : State) (p : Nat) (w : DvsecWrite) (hk : Keeps a0 s) :
    Keeps a0 (dvsecWrite s p w) := by
  unfold dvsecWrite
  iterate 40 all_goals first
    | with_reducible assumption | with_reducible apply setPort_keeps
    | fail_if_no_progress (with_reducible refine Keeps.lit rfl rfl rfl rfl rfl rfl rfl rfl ?_) | split

theorem ppbWrite_keeps {a0 : State} (s : State) (p : Nat) (reg : Nat) (v : Nat) (hk : Keeps a0 s) :
    Keeps a0 (ppbWrite s p reg v) := by
  unfold ppbWrite
  iterate 40 all_goals first
    | with_reducible assumption | with_reducible apply dvsecWrite_keeps
    | fail_if_no_progress (with_reducible refine Keeps.lit rfl rfl rfl rfl rfl rfl rfl rfl ?_) | dsimp only | split

theorem forwardTo_keeps {a0 : State} (s : State) (t0 : Txn) (m : Msg) (hk : Keeps a0 s) :
    Keeps a0 (forwardTo s t0 m) := by
  unfold forwardTo
  iterate 40 all_goals first
    | with_reducible assumption | with_reducible apply switchMsg_keeps | with_reducible apply bump_keeps | with_reducible apply portEvent_keeps
    | with_reducible apply synthetic_keeps | with_reducible apply Keeps.ite
    | fail_if_no_progress (with_reducible refine Keeps.lit rfl rfl rfl rfl rfl rfl rfl rfl ?_) | split

theorem countHost_keeps {a0 : State} (s : State) (r : Req) (hk : Keeps a0 s) :
    Keeps a0 (countHost s r) := by
  unfold countHost
  iterate 40 all_goals first | with_reducible assumption | with_reducible apply instEvent_keeps | split

theorem enterSwitched_keeps {a0 : State} (s : State) (p : Nat) (cls : Nat) (opcode : Nat) (hk : Keeps a0 s) :
    KeepsP a0 (enterSwitched s p cls opcode) := by
  unfold enterSwitched
  iterate 40 all_goals first
    | with_reducible assumption | with_reducible apply tagRequest_keeps | with_reducible apply portEvent_keeps
    | fail_if_no_progress (with_reducible apply KeepsP.mk' <;> try with_reducible apply KeepsP.fst)

theorem holdRequest_keeps {a0 : State} (s : State) (h : HeldReq) (hk : Keeps a0 s) :
    Keeps a0 (holdRequest s h) := by
  unfold holdRequest
  iterate 40 all_goals first | with_reducible assumption | fail_if_no_progress (with_reducible refine Keeps.lit rfl rfl rfl rfl rfl rfl rfl rfl ?_)

theorem enterPort_keeps {a0 : State} (s : State) (p : Nat) (i : Option Nat) (m : Ask1) (hk : Keeps a0 s) :
    KeepsP a0 (enterPort s p i m) := by
  unfold enterPort
  iterate 40 all_goals first | with_reducible assumption | with_reducible apply portEvent_keeps | with_reducible apply tagRequest_keeps

theorem enterInst_keeps {a0 : State} (s : State) (p : Nat) (i : Nat) (off : Nat) (bi : Bool) (m : Ask1) (hk : Keeps a0 s) :
    Keeps a0 (enterInst s p i off bi m) := by
  unfold enterInst
  iterate 40 all_goals first
    | with_reducible assumption | with_reducible apply enterPort_keeps | with_reducible apply countHost_keeps
    | with_reducible apply creditSample_keeps | with_reducible apply qosArrive_keeps | with_reducible apply serveAll_keeps
    | with_reducible apply KeepsP.fst | split

theorem pbrRequest_keeps {a0 : State} (s : State) (p : Nat) (pid : Nat) (x : PbrReq) (hk : Keeps a0 s) :
    Keeps a0 (pbrRequest s p pid x) := by
  unfold pbrRequest
  iterate 40 all_goals first
    | with_reducible assumption | with_reducible apply holdRequest_keeps | with_reducible apply enterSwitched_keeps
    | with_reducible apply portEvent_keeps | with_reducible apply synthetic_keeps | with_reducible apply forwardTo_keeps
    | with_reducible apply enterInst_keeps | with_reducible apply Keeps.ite | with_reducible apply KeepsP.fst | split

theorem hostAccess_keeps {a0 : State} (s : State) (p : Nat) (hpa : Nat) (m : Ask1) (hk : Keeps a0 s) :
    Keeps a0 (hostAccess s p hpa m) := by
  unfold hostAccess
  iterate 40 all_goals first
    | with_reducible assumption | with_reducible apply holdRequest_keeps | with_reducible apply enterInst_keeps
    | with_reducible apply enterPort_keeps | with_reducible apply bump_keeps | with_reducible apply emptyAnswer_keeps
    | with_reducible apply KeepsP.fst | split

theorem ioRequest_keeps {a0 : State} (s : State) (p : Nat) (x : IoReq) (hk : Keeps a0 s) :
    Keeps a0 (ioRequest s p x) := by
  unfold ioRequest
  iterate 40 all_goals first
    | with_reducible assumption | with_reducible apply holdRequest_keeps | with_reducible apply enterSwitched_keeps
    | with_reducible apply forwardTo_keeps | with_reducible apply endSample_keeps | with_reducible apply emit_keeps
    | with_reducible apply KeepsP.fst | fail_if_no_progress (with_reducible refine Keeps.lit rfl rfl rfl rfl rfl rfl rfl rfl ?_) | dsimp only
    | split

theorem lateResponse_keeps {a0 : State} (s : State) (p : Nat) (tag : Nat) (hk : Keeps a0 s) :
    Keeps a0 (lateResponse s p tag) := by
  unfold lateResponse
  iterate 40 all_goals first | with_reducible assumption | with_reducible apply bump_keeps | with_reducible apply setPort_keeps

theorem endTxn_keeps {a0 : State} (s : State) (src : Nat) (dst : Nat) (tag : Nat) (hk : Keeps a0 s) :
    Keeps a0 (endTxn s src dst tag) := by
  unfold endTxn
  iterate 40 all_goals first | with_reducible assumption | fail_if_no_progress (with_reducible refine Keeps.lit rfl rfl rfl rfl rfl rfl rfl rfl ?_)

theorem cacheMessage_keeps {a0 : State} (s : State) (p : Nat) (dst : Nat) (cacheId : Nat) (d2h : Bool) (ch : CacheChannel) (tag : Nat) (bytes : Nat) (hk : Keeps a0 s) :
    Keeps a0 (cacheMessage s p dst cacheId d2h ch tag bytes) := by
  unfold cacheMessage
  iterate 40 all_goals first
    | with_reducible assumption | with_reducible apply holdRequest_keeps | with_reducible apply enterSwitched_keeps
    | with_reducible apply freeNext_keeps | with_reducible apply forwardTo_keeps | with_reducible apply portEvent_keeps
    | with_reducible apply lateResponse_keeps | with_reducible apply endTxn_keeps | with_reducible apply switchMsg_keeps
    | with_reducible apply endSample_keeps | with_reducible apply Keeps.ite | with_reducible apply KeepsP.fst | split

theorem handToTarget_keeps {a0 : State} (s : State) (k : Nat) (hk : Keeps a0 s) :
    Keeps a0 (handToTarget s k) := by
  unfold handToTarget
  iterate 40 all_goals first | with_reducible assumption | with_reducible apply setLine_keeps | split

theorem leave_keeps {a0 : State} (s : State) (q : Nat) (m : EgMsg) (hk : Keeps a0 s) :
    Keeps a0 (leave s q m) := by
  unfold leave
  iterate 40 all_goals first
    | with_reducible assumption | with_reducible apply portEvent_keeps | with_reducible apply endSample_keeps | with_reducible apply emit_keeps
    | with_reducible apply fillAway_keeps | with_reducible apply handToTarget_keeps | with_reducible apply largeEvent_keeps
    | with_reducible apply fillLine_keeps | with_reducible apply settle_keeps | with_reducible apply drive_keeps | with_reducible apply Keeps.ite
    | with_reducible apply KeepsP.fst | fail_if_no_progress (with_reducible refine Keeps.lit rfl rfl rfl rfl rfl rfl rfl rfl ?_) | split

theorem egressTurn_keeps {a0 : State} (s : State) (q : Nat) (hk : Keeps a0 s) :
    Keeps a0 (egressTurn s q) := by
  unfold egressTurn
  iterate 40 all_goals first
    | with_reducible assumption | with_reducible apply pickEgress_keeps | with_reducible apply leave_keeps | with_reducible apply takeEgress_keeps
    | with_reducible apply KeepsP.fst | dsimp only | split

theorem ioCompletion_keeps {a0 : State} (s : State) (p : Nat) (dst0 : Nat) (tag : Nat) (bytes : Nat) (hk : Keeps a0 s) :
    Keeps a0 (ioCompletion s p dst0 tag bytes) := by
  unfold ioCompletion
  iterate 40 all_goals first
    | with_reducible assumption | with_reducible apply lateResponse_keeps | with_reducible apply switchMsg_keeps | with_reducible apply endTxn_keeps
    | with_reducible apply portEvent_keeps | with_reducible apply endSample_keeps | with_reducible apply Keeps.ite

theorem flushWrite_keeps {a0 : State} (s : State) (t : Nat) (hk : Keeps a0 s) :
    KeepsP a0 (flushWrite s t) := by
  unfold flushWrite
  iterate 40 all_goals first
    | with_reducible assumption | with_reducible apply cmdDone_keeps | with_reducible apply flushTile_keeps
    | fail_if_no_progress (with_reducible apply KeepsP.mk' <;> try with_reducible apply KeepsP.fst)

theorem biTimeout_keeps {a0 : State} (s : State) (p : Nat) (k : Nat) (hk : Keeps a0 s) :
    Keeps a0 (biTimeout s p k) := by
  unfold biTimeout
  iterate 40 all_goals first
    | with_reducible assumption | with_reducible apply raise_keeps | with_reducible apply bump_keeps | with_reducible apply loseHost_keeps
    | with_reducible apply emit_keeps | with_reducible apply Keeps.ite

theorem untestBlocks_keeps {a0 : State} (s : State) (t : TestRun) (hk : Keeps a0 s) :
    Keeps a0 (untestBlocks s t) := by
  unfold untestBlocks
  iterate 40 all_goals first
    | intro _ | with_reducible assumption | with_reducible apply changeBlk_keeps | with_reducible apply Keeps.ite | with_reducible apply Keeps.foldl

theorem endTest_keeps {a0 : State} (s : State) (st : Nat) (reason : Nat) (units : Nat) (errors : Nat) (addr : Nat) (hk : Keeps a0 s) :
    Keeps a0 (endTest s st reason units errors addr) := by
  unfold endTest
  iterate 40 all_goals first
    | with_reducible assumption | with_reducible apply untestBlocks_keeps | with_reducible apply wrBlob_keeps | with_reducible apply cmdEnd_keeps
    | with_reducible apply raise_keeps | fail_if_no_progress (with_reducible refine Keeps.lit rfl rfl rfl rfl rfl rfl rfl rfl ?_) | split

theorem abortTest_keeps {a0 : State} (s : State) (hk : Keeps a0 s) :
    Keeps a0 (abortTest s) := by
  unfold abortTest
  iterate 40 all_goals first
    | with_reducible assumption | with_reducible apply endTest_keeps | with_reducible apply freeNext_keeps | with_reducible apply Keeps.ite

end Sys2Proof.Machine
end

