-- ==== Sys2Proof/Laws/Keeps7.lean ====
section
/-!
SUPPORT. What the operations of Machine/GeckoOps.lean, Machine/InstOps.lean, Machine/Switch.lean
leave alone: each keeps the queue, every output already made, and the canonical forms (Safety.lean's Keeps).
-/
namespace Sys2Proof.Machine

open Sys2Proof

set_option linter.unusedTactic false
set_option linter.unreachableTactic false
set_option linter.unnecessarySeqFocus false

theorem pushCompl_keeps {a0 : State} (s : State) (i : Nat) (k : Nat) (b : List Byte) (hk : Keeps a0 s) :
    Keeps a0 (pushCompl s i k b) := by
  unfold pushCompl
  iterate 40 all_goals first
    | with_reducible assumption | with_reducible apply setInst_keeps | with_reducible apply instMsix_keeps | with_reducible apply Keeps.ite

theorem moveBack_keeps {a0 : State} (s : State) (c : Nat) (hk : Keeps a0 s) :
    Keeps a0 (moveBack s c) := by
  unfold moveBack
  iterate 40 all_goals first | with_reducible assumption | with_reducible apply setCtx_keeps | with_reducible apply Keeps.ite

theorem dropTables_keeps {a0 : State} (s : State) (hk : Keeps a0 s) :
    Keeps a0 (dropTables s) := by
  unfold dropTables
  iterate 40 all_goals first
    | intro _ | with_reducible assumption | with_reducible apply wr_keeps | with_reducible apply setInst_keeps | with_reducible apply cmdEnd_keeps
    | with_reducible apply Keeps.ite | with_reducible apply Keeps.foldl
    | fail_if_no_progress (with_reducible refine Keeps.lit rfl rfl rfl rfl rfl rfl rfl rfl ?_)

theorem endInvocation_keeps {a0 : State} (s : State) (c : Nat) (status : Nat) (hk : Keeps a0 s) :
    Keeps a0 (endInvocation s c status) := by
  unfold endInvocation
  iterate 40 all_goals first
    | with_reducible assumption | with_reducible apply setCtx_keeps | with_reducible apply pushCompl_keeps | with_reducible apply instEvent_keeps
    | with_reducible apply clusterEvent_keeps | with_reducible apply bump_keeps | with_reducible apply moveBack_keeps
    | with_reducible apply dropTables_keeps | with_reducible apply wakeBlocked_keeps | with_reducible apply Keeps.ite

theorem stepFault_keeps {a0 : State} (s : State) (c : Nat) (kind : Nat) (detail : Nat) (addr : Nat) (hk : Keeps a0 s) :
    Keeps a0 (stepFault s c kind detail addr) := by
  unfold stepFault
  iterate 40 all_goals first
    | with_reducible assumption | with_reducible apply clusterEvent_keeps | with_reducible apply bump_keeps
    | with_reducible apply endInvocation_keeps | with_reducible apply setCtx_keeps | with_reducible apply Keeps.ite

theorem account_keeps {a0 : State} (s : State) (c : Nat) (hk : Keeps a0 s) :
    Keeps a0 (account s c) := by
  unfold account
  iterate 40 all_goals first
    | with_reducible assumption | with_reducible apply setCtx_keeps | with_reducible apply clusterEvent_keeps | with_reducible apply bump_keeps
    | with_reducible apply instEvent_keeps | with_reducible apply Keeps.ite

theorem faultStep_keeps {a0 : State} (s : State) (c : Nat) (kind : Nat) (detail : Nat) (addr : Nat) (hk : Keeps a0 s) :
    Keeps a0 (faultStep s c kind detail addr) := by
  unfold faultStep
  iterate 40 all_goals first | with_reducible assumption | with_reducible apply stepFault_keeps | with_reducible apply account_keeps

theorem nextStep_keeps {a0 : State} (s : State) (c : Nat) (hk : Keeps a0 s) :
    Keeps a0 (nextStep s c) := by
  unfold nextStep
  iterate 40 all_goals first | with_reducible assumption | with_reducible apply setCtx_keeps

theorem retire_keeps {a0 : State} (s : State) (c : Nat) (hk : Keeps a0 s) :
    Keeps a0 (retire s c) := by
  unfold retire
  iterate 40 all_goals first | with_reducible assumption | with_reducible apply nextStep_keeps | with_reducible apply account_keeps

theorem finishStep_keeps {a0 : State} (s : State) (c : Nat) (p : Pend) (hk : Keeps a0 s) :
    Keeps a0 (finishStep s c p) := by
  unfold finishStep
  iterate 40 all_goals first
    | with_reducible assumption | with_reducible apply endSample_keeps | with_reducible apply clusterEvent_keeps | with_reducible apply setCtx_keeps
    | with_reducible apply faultStep_keeps | with_reducible apply retire_keeps | with_reducible apply Keeps.ite

theorem failReads_keeps {a0 : State} (s : State) (l : List (Nat × Nat)) (code : Nat) (detail : Nat) (hk : Keeps a0 s) :
    Keeps a0 (failReads s l code detail) := by
  unfold failReads
  iterate 40 all_goals first | intro _ | with_reducible assumption | with_reducible apply finishStep_keeps | with_reducible apply Keeps.foldl | split

theorem dropReads_keeps {a0 : State} (s : State) (l : List (Nat × Nat)) (hk : Keeps a0 s) :
    Keeps a0 (dropReads s l) := by
  unfold dropReads
  iterate 40 all_goals first | with_reducible assumption | with_reducible apply failReads_keeps

theorem stopRun_keeps {a0 : State} (s : State) (c : Nat) (hk : Keeps a0 s) :
    Keeps a0 (stopRun s c) := by
  unfold stopRun
  iterate 40 all_goals first | with_reducible assumption | with_reducible apply stepFault_keeps | with_reducible apply Keeps.ite

theorem rebind_keeps {a0 : State} (s : State) (c : Nat) (r : Nat) (hk : Keeps a0 s) :
    Keeps a0 (rebind s c r) := by
  unfold rebind
  iterate 40 all_goals first | with_reducible assumption | with_reducible apply setCtx_keeps

theorem setRing_keeps {a0 : State} (s : State) (i : Nat) (k : Nat) (l : List (List Byte)) (hk : Keeps a0 s) :
    Keeps a0 (setRing s i k l) := by
  unfold setRing
  iterate 40 all_goals first | with_reducible assumption | with_reducible apply setInst_keeps

theorem completeUnserved_keeps {a0 : State} (s : State) (i : Nat) (hk : Keeps a0 s) :
    Keeps a0 (completeUnserved s i) := by
  unfold completeUnserved
  iterate 40 all_goals first
    | intro _ | with_reducible assumption | with_reducible apply pushCompl_keeps | with_reducible apply setRing_keeps
    | with_reducible apply Keeps.ite | with_reducible apply Keeps.foldl

theorem countBound_keeps {a0 : State} (s : State) (i : Nat) (hk : Keeps a0 s) :
    Keeps a0 (countBound s i) := by
  unfold countBound
  iterate 40 all_goals first | with_reducible assumption | with_reducible apply wr_keeps

theorem placeTables_keeps {a0 : State} (s : State) (i : Nat) (hk : Keeps a0 s) :
    Keeps a0 (placeTables s i) := by
  unfold placeTables
  iterate 40 all_goals first
    | intro _ | with_reducible assumption | with_reducible apply wr_keeps | with_reducible apply Keeps.foldl
    | fail_if_no_progress (with_reducible refine Keeps.lit rfl rfl rfl rfl rfl rfl rfl rfl ?_)

theorem bindingsWrite_keeps {a0 : State} (s : State) (e : Nat) (start : Nat) (recs : List Nat) (hk : Keeps a0 s) :
    KeepsP a0 (bindingsWrite s e start recs) := by
  unfold bindingsWrite
  iterate 40 all_goals first
    | intro _ | with_reducible assumption | with_reducible apply rebind_keeps | with_reducible apply wrTbl_keeps
    | with_reducible apply completeUnserved_keeps | with_reducible apply countBound_keeps | with_reducible apply placeTables_keeps
    | with_reducible apply wakeBlocked_keeps | with_reducible apply KeepsP.ite
    | fail_if_no_progress (with_reducible apply KeepsP.mk' <;> try with_reducible apply KeepsP.fst) | with_reducible apply Keeps.foldl

theorem moveContexts_keeps {a0 : State} (s : State) (e : Nat) (hk : Keeps a0 s) :
    KeepsP a0 (moveContexts s e) := by
  unfold moveContexts
  iterate 40 all_goals first
    | intro _ | with_reducible assumption | with_reducible apply setCtx_keeps | with_reducible apply endInvocation_keeps
    | with_reducible apply completeUnserved_keeps | fail_if_no_progress (with_reducible apply KeepsP.mk' <;> try with_reducible apply KeepsP.fst)
    | with_reducible apply Keeps.foldl

theorem engineReturns_keeps {a0 : State} (s : State) (e : Nat) (hk : Keeps a0 s) :
    Keeps a0 (engineReturns s e) := by
  unfold engineReturns
  iterate 40 all_goals first
    | with_reducible assumption | with_reducible apply wr_keeps | with_reducible apply moveBack_keeps | with_reducible apply Keeps.foldl

theorem engineTargetWrite_keeps {a0 : State} (s : State) (e : Nat) (v : Nat) (hk : Keeps a0 s) :
    KeepsP a0 (engineTargetWrite s e v) := by
  unfold engineTargetWrite
  iterate 40 all_goals first
    | with_reducible assumption | with_reducible apply wr_keeps | with_reducible apply moveContexts_keeps | with_reducible apply engineReturns_keeps
    | with_reducible apply KeepsP.ite | fail_if_no_progress (with_reducible apply KeepsP.mk' <;> try with_reducible apply KeepsP.fst)
    | fail_if_no_progress (with_reducible refine Keeps.lit rfl rfl rfl rfl rfl rfl rfl rfl ?_)

theorem unloadTable_keeps {a0 : State} (s : State) (tb : Nat) (hk : Keeps a0 s) :
    Keeps a0 (unloadTable s tb) := by
  unfold unloadTable
  iterate 40 all_goals first
    | with_reducible assumption | with_reducible apply dropTables_keeps | with_reducible apply wr_keeps
    | fail_if_no_progress (with_reducible refine Keeps.lit rfl rfl rfl rfl rfl rfl rfl rfl ?_) | split

theorem loadImage_keeps {a0 : State} (s : State) (owner : Nat) (v : List Byte) (hk : Keeps a0 s) :
    KeepsP a0 (loadImage s owner v) := by
  unfold loadImage
  iterate 40 all_goals first
    | with_reducible assumption | with_reducible apply wr_keeps | with_reducible apply dropTables_keeps | with_reducible apply KeepsP.ite
    | fail_if_no_progress (with_reducible apply KeepsP.mk' <;> try with_reducible apply KeepsP.fst)
    | fail_if_no_progress (with_reducible refine Keeps.lit rfl rfl rfl rfl rfl rfl rfl rfl ?_) | split

theorem spendCycle_keeps {a0 : State} (s : State) (e : Nat) (slot : Nat) (hk : Keeps a0 s) :
    Keeps a0 (spendCycle s e slot) := by
  unfold spendCycle
  iterate 40 all_goals first | with_reducible assumption | fail_if_no_progress (with_reducible refine Keeps.lit rfl rfl rfl rfl rfl rfl rfl rfl ?_)

theorem issue_keeps {a0 : State} (s : State) (c : Nat) (op : Nat) (f : StepF) (body : State → State) (hbody : ∀ a x, Keeps a x → Keeps a (body x)) (hk : Keeps a0 s) :
    Keeps a0 (issue s c op f body) := by
  unfold issue
  iterate 40 all_goals first
    | with_reducible assumption | with_reducible apply hbody | with_reducible apply spendCycle_keeps | with_reducible apply stepFault_keeps
    | with_reducible apply faultStep_keeps | with_reducible apply Keeps.ite

theorem plainStep_keeps {a0 : State} (s : State) (c : Nat) (op : Nat) (f : StepF) (g : Ctx → Ctx) (hk : Keeps a0 s) :
    Keeps a0 (plainStep s c op f g) := by
  unfold plainStep
  iterate 40 all_goals first
    | intro _ | with_reducible assumption | with_reducible apply issue_keeps | with_reducible apply retire_keeps | with_reducible apply setCtx_keeps

theorem aluStep_keeps {a0 : State} (s : State) (c : Nat) (op : Nat) (f : StepF) (g : Nat → Nat → Nat → Flags → Alu) (hk : Keeps a0 s) :
    Keeps a0 (aluStep s c op f g) := by
  unfold aluStep
  iterate 40 all_goals first | with_reducible assumption | with_reducible apply plainStep_keeps

theorem engineFails_keeps {a0 : State} (s : State) (e : Nat) (hk : Keeps a0 s) :
    Keeps a0 (engineFails s e) := by
  unfold engineFails
  iterate 40 all_goals first
    | intro _ | with_reducible assumption | with_reducible apply clusterEvent_keeps | with_reducible apply bump_keeps
    | with_reducible apply wr_keeps | with_reducible apply moveContexts_keeps | with_reducible apply raise_keeps | with_reducible apply Keeps.ite
    | with_reducible apply KeepsP.fst | with_reducible apply Keeps.foldl

theorem unloadExpires_keeps {a0 : State} (s : State) (tb : Nat) (hk : Keeps a0 s) :
    Keeps a0 (unloadExpires s tb) := by
  unfold unloadExpires
  iterate 40 all_goals first
    | intro _ | with_reducible assumption | with_reducible apply endInvocation_keeps | with_reducible apply Keeps.ite
    | with_reducible apply Keeps.foldl

theorem presentGranule_keeps {a0 : State} (s : State) (c : Nat) (op : Nat) (f : StepF) (a : Nat) (write : Bool) (hk : Keeps a0 s) :
    KeepsP a0 (presentGranule s c op f a write) := by
  unfold presentGranule
  iterate 40 all_goals first
    | with_reducible assumption | with_reducible apply walkTranslation_keeps | with_reducible apply countMiss_keeps
    | with_reducible apply bump_keeps | with_reducible apply gate_keeps
    | fail_if_no_progress (with_reducible apply KeepsP.mk' <;> try with_reducible apply KeepsP.fst) | dsimp only | split

theorem presentAll_keeps {a0 : State} (s : State) (c : Nat) (op : Nat) (f : StepF) (l : List (Nat × Bool)) (hk : Keeps a0 s) :
    KeepsP a0 (presentAll s c op f l) := by
  induction l generalizing s c op f with
  | nil =>
    unfold presentAll
    first
      | exact hk
      | exact KeepsP.mk' hk
  | cons w t ih =>
    unfold presentAll
    iterate 40 all_goals first
      | with_reducible assumption | with_reducible apply ih | with_reducible apply presentGranule_keeps
      | fail_if_no_progress (with_reducible apply KeepsP.mk' <;> try with_reducible apply KeepsP.fst) | with_reducible apply KeepsP.fst | dsimp only
      | split

theorem keepTag_keeps {a0 : State} (s : State) (c : Nat) (hk : Keeps a0 s) :
    Keeps a0 (keepTag s c) := by
  unfold keepTag
  iterate 40 all_goals first | with_reducible assumption | fail_if_no_progress (with_reducible refine Keeps.lit rfl rfl rfl rfl rfl rfl rfl rfl ?_)

theorem startPend_keeps {a0 : State} (s : State) (c : Nat) (p : Pend) (hk : Keeps a0 s) :
    Keeps a0 (startPend s c p) := by
  unfold startPend
  iterate 40 all_goals first
    | with_reducible assumption | with_reducible apply tagRequest_keeps | with_reducible apply creditSample_keeps
    | with_reducible apply keepTag_keeps | with_reducible apply clusterEvent_keeps | with_reducible apply setCtx_keeps
    | with_reducible apply qosArrive_keeps | with_reducible apply serveAll_keeps | with_reducible apply serve_keeps | with_reducible apply Keeps.ite
    | with_reducible apply KeepsP.fst | split

theorem memStep_keeps {a0 : State} (s : State) (c : Nat) (op : Nat) (f : StepF) (align : List (Nat × Nat)) (touches : List Touch) (accs : State → Ctx → List LineAcc) (hk : Keeps a0 s) :
    Keeps a0 (memStep s c op f align touches accs) := by
  unfold memStep
  iterate 40 all_goals first
    | intro _ | with_reducible assumption | with_reducible apply issue_keeps | with_reducible apply faultStep_keeps
    | with_reducible apply presentAll_keeps | with_reducible apply startPend_keeps | with_reducible apply KeepsP.fst | dsimp only | split

theorem atomicStep_keeps {a0 : State} (s : State) (c : Nat) (op : Nat) (f : StepF) (kind : AtomKind) (size : AtomSize) (a : Ctx → Nat) (b : Ctx → Nat) (hk : Keeps a0 s) :
    Keeps a0 (atomicStep s c op f kind size a b) := by
  unfold atomicStep
  iterate 40 all_goals first | with_reducible assumption | with_reducible apply memStep_keeps

theorem shiftStep_keeps {a0 : State} (s : State) (c : Nat) (op : Nat) (f : StepF) (g : Nat → Nat → Nat → Flags → Alu) (hk : Keeps a0 s) :
    Keeps a0 (shiftStep s c op f g) := by
  unfold shiftStep
  iterate 40 all_goals first | with_reducible assumption | with_reducible apply plainStep_keeps

theorem beginInvocation_keeps {a0 : State} (s : State) (c : Nat) (tb : Nat) (inst : Nat) (dzt : Bool) (atom : Bool) (byQueue : Bool) (q : Nat) (tag : Nat) (ver : Nat) (budget : Nat) (args : List Nat) (hk : Keeps a0 s) :
    Keeps a0 (beginInvocation s c tb inst dzt atom byQueue q tag ver budget args) := by
  unfold beginInvocation
  iterate 40 all_goals first
    | with_reducible assumption | with_reducible apply setCtx_keeps | with_reducible apply clusterEvent_keeps | with_reducible apply bump_keeps

theorem copyIn_keeps {a0 : State} (s : State) (c : Nat) (p : Pend) (d : List Byte) (hk : Keeps a0 s) :
    Keeps a0 (copyIn s c p d) := by
  unfold copyIn
  iterate 40 all_goals first | with_reducible assumption | with_reducible apply setCtx_keeps | with_reducible apply drive_keeps | dsimp only | split

theorem memoryReply_keeps {a0 : State} (s : State) (c : Nat) (d : List Byte) (status : Nat) (hk : Keeps a0 s) :
    Keeps a0 (memoryReply s c d status) := by
  unfold memoryReply
  iterate 40 all_goals first
    | with_reducible assumption | with_reducible apply setFn_keeps | with_reducible apply finishStep_keeps | with_reducible apply copyIn_keeps
    | with_reducible apply emit_keeps | dsimp only | split

theorem waitCycle_keeps {a0 : State} (s : State) (cl : Nat) (g : Nat) (hk : Keeps a0 s) :
    Keeps a0 (waitCycle s cl g) := by
  unfold waitCycle
  iterate 40 all_goals first
    | with_reducible assumption | with_reducible apply bump_keeps | with_reducible apply raiseEv_keeps | with_reducible apply clusterEvent_keeps
    | with_reducible apply stepFault_keeps | dsimp only | split

theorem startVendor_keeps {a0 : State} (s : State) (c : Nat) (x : VendorWork) (hk : Keeps a0 s) :
    Keeps a0 (startVendor s c x) := by
  unfold startVendor
  iterate 40 all_goals first | with_reducible assumption | with_reducible apply beginInvocation_keeps | with_reducible apply Keeps.ite | split

theorem flagStep_keeps {a0 : State} (s : State) (c : Nat) (op : Nat) (f : StepF) (g : Nat → Nat → Nat → Flags → Alu) (hk : Keeps a0 s) :
    Keeps a0 (flagStep s c op f g) := by
  unfold flagStep
  iterate 40 all_goals first | with_reducible assumption | with_reducible apply plainStep_keeps

theorem hostFetch_keeps {a0 : State} (s : State) (c : Nat) (fn : Nat) (addr : Nat) (len : Nat) (p : Pend) (hk : Keeps a0 s) :
    Keeps a0 (hostFetch s c fn addr len p) := by
  unfold hostFetch
  iterate 40 all_goals first
    | with_reducible assumption | with_reducible apply emit_keeps | with_reducible apply setFn_keeps | with_reducible apply startPend_keeps

theorem takeInvocation_keeps {a0 : State} (s : State) (c : Nat) (hk : Keeps a0 s) :
    Keeps a0 (takeInvocation s c) := by
  unfold takeInvocation
  iterate 40 all_goals first
    | with_reducible assumption | with_reducible apply setRing_keeps | with_reducible apply setCtx_keeps
    | with_reducible apply beginInvocation_keeps | with_reducible apply pushCompl_keeps | dsimp only | split

theorem divStep_keeps {a0 : State} (s : State) (c : Nat) (op : Nat) (f : StepF) (g : Nat → Nat → Nat → Flags → Alu) (hk : Keeps a0 s) :
    Keeps a0 (divStep s c op f g) := by
  unfold divStep
  iterate 40 all_goals first
    | intro _ | with_reducible assumption | with_reducible apply issue_keeps | with_reducible apply faultStep_keeps
    | with_reducible apply retire_keeps | with_reducible apply setCtx_keeps | with_reducible apply Keeps.ite

theorem resetInst_keeps {a0 : State} (s : State) (i : Nat) (hk : Keeps a0 s) :
    Keeps a0 (resetInst s i) := by
  unfold resetInst
  refine (clearInstCounters_keeps s i hk).trans
    { pending := rfl, out := List.suffix_refl _, free := Nat.le_refl _, obj := fun h => ?_, blob := fun h => ?_, tbl := fun h => ?_
      chg := id, mem := id }
  all_goals
    dsimp only
    exact canonical_delIf _ h

theorem destroyComplete_keeps {a0 : State} (s : State) (i : Nat) (hk : Keeps a0 s) :
    Keeps a0 (destroyComplete s i) := by
  unfold destroyComplete
  iterate 40 all_goals first
    | intro _ | with_reducible assumption | with_reducible apply wr_keeps | with_reducible apply cmdEnd_keeps | with_reducible apply resetInst_keeps
    | with_reducible apply Keeps.ite | with_reducible apply Keeps.foldl
    | fail_if_no_progress (with_reducible refine Keeps.lit rfl rfl rfl rfl rfl rfl rfl rfl ?_)

theorem decWrite_keeps {a0 : State} (s : State) (i : Nat) (d : Nat) (r : Nat) (hk : Keeps a0 s) :
    Keeps a0 (decWrite s i d r) := by
  unfold decWrite
  iterate 40 all_goals first | with_reducible assumption | with_reducible apply wrTbl_keeps

theorem decodersWrite_keeps {a0 : State} (s : State) (i : Nat) (start : Nat) (recs : List Nat) (hk : Keeps a0 s) :
    KeepsP a0 (decodersWrite s i start recs) := by
  unfold decodersWrite
  iterate 40 all_goals first
    | intro _ | with_reducible assumption | with_reducible apply decWrite_keeps | with_reducible apply KeepsP.ite
    | fail_if_no_progress (with_reducible apply KeepsP.mk' <;> try with_reducible apply KeepsP.fst) | with_reducible apply Keeps.foldl

theorem setDirty_keeps {a0 : State} (s : State) (i : Nat) (d : DirtySt) (hk : Keeps a0 s) :
    Keeps a0 (setDirty s i d) := by
  unfold setDirty
  iterate 40 all_goals first | with_reducible assumption | with_reducible apply setInst_keeps

theorem closeEpoch_keeps {a0 : State} (s : State) (i : Nat) (empty : Bool) (final : Bool) (hk : Keeps a0 s) :
    Keeps a0 (closeEpoch s i empty final) := by
  unfold closeEpoch
  iterate 40 all_goals first | with_reducible assumption | with_reducible apply wrBlob_keeps | with_reducible apply setDirty_keeps

theorem stopLog_keeps {a0 : State} (s : State) (i : Nat) (empty : Bool) (hk : Keeps a0 s) :
    Keeps a0 (stopLog s i empty) := by
  unfold stopLog
  iterate 40 all_goals first
    | with_reducible assumption | with_reducible apply closeEpoch_keeps | with_reducible apply setDirty_keeps | with_reducible apply wr_keeps

theorem releasePair_keeps {a0 : State} (s : State) (i : Nat) (hk : Keeps a0 s) :
    Keeps a0 (releasePair s i) := by
  unfold releasePair
  iterate 40 all_goals first
    | with_reducible assumption | with_reducible apply wr_keeps | with_reducible apply cmdEnd_keeps | with_reducible apply setDirty_keeps

theorem abortLog_keeps {a0 : State} (s : State) (i : Nat) (hk : Keeps a0 s) :
    Keeps a0 (abortLog s i) := by
  unfold abortLog
  iterate 40 all_goals first
    | with_reducible assumption | with_reducible apply stopLog_keeps | with_reducible apply setDirty_keeps | with_reducible apply releasePair_keeps
    | with_reducible apply Keeps.ite

theorem loseMarks_keeps {a0 : State} (s : State) (i : Nat) (hk : Keeps a0 s) :
    Keeps a0 (loseMarks s i) := by
  unfold loseMarks
  iterate 40 all_goals first
    | with_reducible assumption | with_reducible apply raise_keeps | with_reducible apply setDirty_keeps | with_reducible apply Keeps.ite

theorem beginUnbind_keeps {a0 : State} (s : State) (i : Nat) (hk : Keeps a0 s) :
    Keeps a0 (beginUnbind s i) := by
  unfold beginUnbind
  iterate 40 all_goals first | with_reducible assumption | with_reducible apply wr_keeps | with_reducible apply Keeps.ite

theorem stopInst_keeps {a0 : State} (s : State) (i : Nat) (hk : Keeps a0 s) :
    Keeps a0 (stopInst s i) := by
  unfold stopInst
  iterate 40 all_goals first
    | intro _ | with_reducible assumption | with_reducible apply abortLog_keeps | with_reducible apply setInst_keeps
    | with_reducible apply stopRun_keeps | with_reducible apply rebind_keeps | with_reducible apply wrTbl_keeps
    | with_reducible apply placeTables_keeps | with_reducible apply countBound_keeps | with_reducible apply withdrawOffer_keeps
    | with_reducible apply beginRelease_keeps | with_reducible apply dcEvent_keeps | with_reducible apply Keeps.ite
    | with_reducible apply Keeps.foldl

theorem destroyWrite_keeps {a0 : State} (s : State) (i : Nat) (hk : Keeps a0 s) :
    KeepsP a0 (destroyWrite s i) := by
  unfold destroyWrite
  iterate 40 all_goals first
    | with_reducible assumption | with_reducible apply beginUnbind_keeps | with_reducible apply wr_keeps | with_reducible apply cmdStart_keeps
    | with_reducible apply setInst_keeps | with_reducible apply stopInst_keeps | with_reducible apply KeepsP.ite
    | fail_if_no_progress (with_reducible apply KeepsP.mk' <;> try with_reducible apply KeepsP.fst)

theorem createWrite_keeps {a0 : State} (s : State) (v : List Byte) (hk : Keeps a0 s) :
    KeepsP a0 (createWrite s v) := by
  unfold createWrite
  iterate 40 all_goals first
    | with_reducible assumption | with_reducible apply cmdDone_keeps | with_reducible apply wr_keeps | with_reducible apply resetInst_keeps
    | fail_if_no_progress (with_reducible apply KeepsP.mk' <;> try with_reducible apply KeepsP.fst) | dsimp only | split

theorem bindDone_keeps {a0 : State} (s : State) (i : Nat) (hk : Keeps a0 s) :
    Keeps a0 (bindDone s i) := by
  unfold bindDone
  iterate 40 all_goals first
    | with_reducible assumption | with_reducible apply wr_keeps | with_reducible apply emit_keeps | with_reducible apply Keeps.ite

theorem startBind_keeps {a0 : State} (s : State) (i : Nat) (hk : Keeps a0 s) :
    Keeps a0 (startBind s i) := by
  unfold startBind
  iterate 40 all_goals first
    | with_reducible assumption | with_reducible apply bindDone_keeps | with_reducible apply wr_keeps | with_reducible apply setInst_keeps
    | with_reducible apply Keeps.ite

theorem bindTargetWrite_keeps {a0 : State} (s : State) (i : Nat) (v : Nat) (hk : Keeps a0 s) :
    KeepsP a0 (bindTargetWrite s i v) := by
  unfold bindTargetWrite
  iterate 40 all_goals first
    | with_reducible assumption | with_reducible apply wr_keeps | with_reducible apply beginUnbind_keeps | with_reducible apply startBind_keeps
    | with_reducible apply KeepsP.ite | fail_if_no_progress (with_reducible apply KeepsP.mk' <;> try with_reducible apply KeepsP.fst)

theorem bindPlaceWrite_keeps {a0 : State} (s : State) (i : Nat) (sub : Nat) (v : Nat) (hk : Keeps a0 s) :
    KeepsP a0 (bindPlaceWrite s i sub v) := by
  unfold bindPlaceWrite
  iterate 40 all_goals first
    | with_reducible assumption | with_reducible apply wr_keeps | with_reducible apply beginUnbind_keeps | with_reducible apply startBind_keeps
    | with_reducible apply KeepsP.ite | fail_if_no_progress (with_reducible apply KeepsP.mk' <;> try with_reducible apply KeepsP.fst)

theorem presentationWrite_keeps {a0 : State} (s : State) (i : Nat) (sub : Nat) (v : Nat) (hk : Keeps a0 s) :
    KeepsP a0 (presentationWrite s i sub v) := by
  unfold presentationWrite
  iterate 40 all_goals first
    | with_reducible assumption | with_reducible apply bindTargetWrite_keeps | with_reducible apply bindPlaceWrite_keeps
    | with_reducible apply KeepsP.ite

theorem dirtyStartWrite_keeps {a0 : State} (s : State) (i : Nat) (hk : Keeps a0 s) :
    KeepsP a0 (dirtyStartWrite s i) := by
  unfold dirtyStartWrite
  iterate 40 all_goals first
    | with_reducible assumption | with_reducible apply wr_keeps | with_reducible apply setDirty_keeps | with_reducible apply cmdStart_keeps
    | with_reducible apply KeepsP.ite | fail_if_no_progress (with_reducible apply KeepsP.mk' <;> try with_reducible apply KeepsP.fst)

theorem dirtyStopWrite_keeps {a0 : State} (s : State) (i : Nat) (hk : Keeps a0 s) :
    KeepsP a0 (dirtyStopWrite s i) := by
  unfold dirtyStopWrite
  iterate 40 all_goals first
    | with_reducible assumption | with_reducible apply setDirty_keeps | with_reducible apply cmdStart_keeps | with_reducible apply wr_keeps
    | with_reducible apply Keeps.ite | with_reducible apply KeepsP.ite
    | fail_if_no_progress (with_reducible apply KeepsP.mk' <;> try with_reducible apply KeepsP.fst)

theorem dirtyHarvestWrite_keeps {a0 : State} (s : State) (i : Nat) (v : List Byte) (hk : Keeps a0 s) :
    KeepsP a0 (dirtyHarvestWrite s i v) := by
  unfold dirtyHarvestWrite
  iterate 40 all_goals first
    | with_reducible assumption | with_reducible apply cmdDone_keeps | with_reducible apply setDirty_keeps | with_reducible apply cmdStart_keeps
    | with_reducible apply KeepsP.ite | fail_if_no_progress (with_reducible apply KeepsP.mk' <;> try with_reducible apply KeepsP.fst)

theorem unbound_keeps {a0 : State} (s : State) (i : Nat) (hk : Keeps a0 s) :
    Keeps a0 (unbound s i) := by
  unfold unbound
  iterate 40 all_goals first
    | intro _ | with_reducible assumption | with_reducible apply wrTbl_keeps | with_reducible apply wr_keeps | with_reducible apply emit_keeps
    | with_reducible apply stopInst_keeps | with_reducible apply startBind_keeps | with_reducible apply Keeps.ite | with_reducible apply Keeps.foldl

theorem bitmapCleared_keeps {a0 : State} (s : State) (i : Nat) (hk : Keeps a0 s) :
    Keeps a0 (bitmapCleared s i) := by
  unfold bitmapCleared
  iterate 40 all_goals first | with_reducible assumption | with_reducible apply setDirty_keeps | with_reducible apply Keeps.ite

theorem harvestDone_keeps {a0 : State} (s : State) (i : Nat) (hk : Keeps a0 s) :
    Keeps a0 (harvestDone s i) := by
  unfold harvestDone
  iterate 40 all_goals first
    | with_reducible assumption | with_reducible apply emit_keeps | with_reducible apply setDirty_keeps | with_reducible apply wrBlob_keeps
    | with_reducible apply cmdEnd_keeps | with_reducible apply releasePair_keeps | with_reducible apply Keeps.ite | split

theorem swapBitmaps_keeps {a0 : State} (s : State) (i : Nat) (hk : Keeps a0 s) :
    Keeps a0 (swapBitmaps s i) := by
  unfold swapBitmaps
  iterate 40 all_goals first | with_reducible assumption | with_reducible apply setDirty_keeps | with_reducible apply Keeps.ite

theorem startLog_keeps {a0 : State} (s : State) (i : Nat) (hk : Keeps a0 s) :
    Keeps a0 (startLog s i) := by
  unfold startLog
  iterate 40 all_goals first
    | with_reducible assumption | with_reducible apply cmdEnd_keeps | with_reducible apply wr_keeps | with_reducible apply setDirty_keeps
    | with_reducible apply Keeps.ite

theorem tickInst_keeps {a0 : State} (s : State) (i : Nat) (hk : Keeps a0 s) :
    Keeps a0 (tickInst s i) := by
  unfold tickInst
  iterate 40 all_goals first
    | with_reducible assumption | with_reducible apply startLog_keeps | with_reducible apply setDirty_keeps | with_reducible apply closeEpoch_keeps
    | with_reducible apply stopLog_keeps | with_reducible apply Keeps.ite

theorem harvestTick_keeps {a0 : State} (s : State) (hk : Keeps a0 s) :
    Keeps a0 (harvestTick s) := by
  unfold harvestTick
  iterate 40 all_goals first | with_reducible assumption | with_reducible apply tickInst_keeps | with_reducible apply Keeps.foldl

theorem unbind_keeps {a0 : State} (s : State) (i : Nat) (hk : Keeps a0 s) :
    Keeps a0 (unbind s i) := by
  unfold unbind
  iterate 40 all_goals first
    | with_reducible assumption | with_reducible apply setFn_keeps | with_reducible apply dropReads_keeps | with_reducible apply unbound_keeps
    | with_reducible apply startRbi_keeps | with_reducible apply Keeps.ite

theorem hostCommit_keeps {a0 : State} (s : State) (i : Nat) (d : Nat) (r : Nat) (hk : Keeps a0 s) :
    Keeps a0 (hostCommit s i d r) := by
  unfold hostCommit
  iterate 40 all_goals first
    | with_reducible assumption | with_reducible apply decWrite_keeps | with_reducible apply emit_keeps | with_reducible apply Keeps.ite

theorem markFlushed_keeps {a0 : State} (s : State) (i : Nat) (hk : Keeps a0 s) :
    Keeps a0 (markFlushed s i) := by
  unfold markFlushed
  iterate 40 all_goals first
    | with_reducible assumption | with_reducible apply setDirty_keeps | with_reducible apply cmdEnd_keeps | with_reducible apply releasePair_keeps
    | with_reducible apply Keeps.ite

theorem cellLost_keeps {a0 : State} (s : State) (c : Cell) (hk : Keeps a0 s) :
    Keeps a0 (cellLost s c) := by
  unfold cellLost
  iterate 40 all_goals first
    | with_reducible assumption | with_reducible apply cutAnswer_keeps | with_reducible apply pushEgress_keeps | with_reducible apply cutSnoop_keeps
    | with_reducible apply fillAway_keeps | with_reducible apply endSample_keeps | with_reducible apply bump_keeps
    | with_reducible apply synthetic_keeps | with_reducible apply emit_keeps
    | fail_if_no_progress (with_reducible refine Keeps.lit rfl rfl rfl rfl rfl rfl rfl rfl ?_) | dsimp only | split

theorem dropCells_keeps {a0 : State} (s : State) (t : Nat) (p : Cell → Bool) (hk : Keeps a0 s) :
    Keeps a0 (dropCells s t p) := by
  unfold dropCells
  iterate 40 all_goals first
    | intro _ | with_reducible assumption | with_reducible apply setTile_keeps | with_reducible apply freeCell_keeps
    | with_reducible apply cellLost_keeps | with_reducible apply Keeps.foldl

theorem closeCrossing_keeps {a0 : State} (s : State) (t : Nat) (x : Nat) (hk : Keeps a0 s) :
    Keeps a0 (closeCrossing s t x) := by
  unfold closeCrossing
  iterate 40 all_goals first | with_reducible assumption | with_reducible apply setTile_keeps

theorem resetToken_keeps {a0 : State} (s : State) (t : Nat) (x : Nat) (hk : Keeps a0 s) :
    Keeps a0 (resetToken s t x) := by
  unfold resetToken
  iterate 40 all_goals first
    | with_reducible assumption | with_reducible apply dropCells_keeps | with_reducible apply closeCrossing_keeps
    | with_reducible apply crossed_keeps

theorem tidelinkTargetWrite_keeps {a0 : State} (s : State) (l : Nat) (v : Nat) (hk : Keeps a0 s) :
    KeepsP a0 (tidelinkTargetWrite s l v) := by
  unfold tidelinkTargetWrite
  iterate 40 all_goals first
    | with_reducible assumption | with_reducible apply wr_keeps | with_reducible apply failLink_keeps | with_reducible apply Keeps.ite
    | fail_if_no_progress (with_reducible apply KeepsP.mk' <;> try with_reducible apply KeepsP.fst)

theorem pathTableWrite_keeps {a0 : State} (s : State) (t : Nat) (start : Nat) (vals : List Nat) (hk : Keeps a0 s) :
    KeepsP a0 (pathTableWrite s t start vals) := by
  unfold pathTableWrite
  iterate 40 all_goals first
    | intro _ | with_reducible assumption | with_reducible apply repin_keeps | with_reducible apply Keeps.ite | with_reducible apply KeepsP.ite
    | fail_if_no_progress (with_reducible apply KeepsP.mk' <;> try with_reducible apply KeepsP.fst) | with_reducible apply Keeps.foldl

theorem dedupLost_keeps {a0 : State} (s : State) (l : Nat) (t : Nat) (hk : Keeps a0 s) :
    Keeps a0 (dedupLost s l t) := by
  unfold dedupLost
  iterate 40 all_goals first
    | intro _ | with_reducible assumption | with_reducible apply resendCells_keeps | with_reducible apply cellLost_keeps
    | with_reducible apply freeCell_keeps | with_reducible apply reported_keeps | with_reducible apply dropCells_keeps
    | with_reducible apply Keeps.foldl

theorem tidelinkRepairWrite_keeps {a0 : State} (s : State) (l : Nat) (hk : Keeps a0 s) :
    KeepsP a0 (tidelinkRepairWrite s l) := by
  unfold tidelinkRepairWrite
  iterate 40 all_goals first
    | with_reducible assumption | with_reducible apply wr_keeps | with_reducible apply cmdStart_keeps | with_reducible apply KeepsP.ite
    | fail_if_no_progress (with_reducible apply KeepsP.mk' <;> try with_reducible apply KeepsP.fst)

theorem beachEnableWrite_keeps {a0 : State} (s : State) (t : Nat) (v : Nat) (hk : Keeps a0 s) :
    KeepsP a0 (beachEnableWrite s t v) := by
  unfold beachEnableWrite
  iterate 40 all_goals first
    | with_reducible assumption | with_reducible apply wr_keeps | with_reducible apply setTile_keeps | with_reducible apply Keeps.ite
    | fail_if_no_progress (with_reducible apply KeepsP.mk' <;> try with_reducible apply KeepsP.fst)

theorem resetSide_keeps {a0 : State} (s : State) (t : Nat) (xs : List Nat) (hk : Keeps a0 s) :
    Keeps a0 (resetSide s t xs) := by
  unfold resetSide
  iterate 40 all_goals first
    | intro _ | with_reducible assumption | with_reducible apply dropCells_keeps | with_reducible apply crossed_keeps
    | with_reducible apply Keeps.foldl

theorem openLink_keeps {a0 : State} (s : State) (t : Nat) (l : Nat) (hk : Keeps a0 s) :
    Keeps a0 (openLink s t l) := by
  unfold openLink
  iterate 40 all_goals first | with_reducible assumption | with_reducible apply setTile_keeps

theorem linkTrained_keeps {a0 : State} (s : State) (l : Nat) (up : Nat) (down : Nat) (hk : Keeps a0 s) :
    Keeps a0 (linkTrained s l up down) := by
  unfold linkTrained
  iterate 40 all_goals first
    | with_reducible assumption | with_reducible apply openLink_keeps | with_reducible apply setLink_keeps | with_reducible apply wr_keeps
    | with_reducible apply showLink_keeps | with_reducible apply endLevel_keeps | with_reducible apply Keeps.ite

theorem repairEnd_keeps {a0 : State} (s : State) (l : Nat) (err : Nat) (hk : Keeps a0 s) :
    Keeps a0 (repairEnd s l err) := by
  unfold repairEnd
  iterate 40 all_goals first
    | with_reducible assumption | with_reducible apply linkTrained_keeps | with_reducible apply cmdEnd_keeps | with_reducible apply Keeps.ite

theorem balancePair_keeps {a0 : State} (s : State) (a : Nat) (b : Nat) (hk : Keeps a0 s) :
    Keeps a0 (balancePair s a b) := by
  unfold balancePair
  iterate 40 all_goals first
    | intro _ | with_reducible assumption | with_reducible apply repin_keeps | with_reducible apply Keeps.ite | with_reducible apply Keeps.foldl
    | split

theorem beachPass_keeps {a0 : State} (s0 : State) (t : Nat) (lost : List Nat) (hk : Keeps a0 s0) :
    Keeps a0 (beachPass s0 t lost) := by
  unfold beachPass
  iterate 40 all_goals first
    | intro _ | with_reducible assumption | with_reducible apply setTile_keeps | with_reducible apply wr_keeps | with_reducible apply bump_keeps
    | with_reducible apply freeCell_keeps | with_reducible apply raise_keeps | with_reducible apply Keeps.ite | with_reducible apply Keeps.foldl

theorem rowChunk_keeps {a0 : State} (s : State) (r : Requester) (idx : Nat) (sub : Nat) (q : Nat) (h : State → State × Status) (hh : ∀ a x, Keeps a x → KeepsP a (h x)) (hk : Keeps a0 s) :
    Keeps a0 (rowChunk s r idx sub q h) := by
  unfold rowChunk
  iterate 40 all_goals first
    | with_reducible assumption | with_reducible apply hh | with_reducible apply emit_keeps | with_reducible apply finishWrite_keeps
    | with_reducible apply KeepsP.fst | split

end Sys2Proof.Machine
end

