-- ==== Sys2Proof/Laws/Keeps8.lean ====
section
/-!
SUPPORT. What the operations of Machine/LinkOps.lean, Machine/TileOps.lean, Machine/PwrOps.lean
leave alone: each keeps the queue, every output already made, and the canonical forms (Safety.lean's Keeps).
-/
namespace Sys2Proof.Machine

open Sys2Proof

set_option linter.unusedTactic false
set_option linter.unreachableTactic false
set_option linter.unnecessarySeqFocus false

theorem targetDown_keeps {a0 : State} (s : State) (p : Nat) (removal : Bool) (hk : Keeps a0 s) :
    Keeps a0 (targetDown s p removal) := by
  unfold targetDown
  iterate 40 all_goals first
    | with_reducible assumption | with_reducible apply setTgt_keeps | with_reducible apply wr_keeps | with_reducible apply failJoin_keeps
    | with_reducible apply targetLost_keeps | with_reducible apply cutRequests_keeps | with_reducible apply setPort_keeps
    | with_reducible apply Keeps.ite

theorem purgeEgress_keeps {a0 : State} (s : State) (p : Nat) (hk : Keeps a0 s) :
    Keeps a0 (purgeEgress s p) := by
  unfold purgeEgress
  iterate 40 all_goals first
    | intro _ | with_reducible assumption | with_reducible apply countDropped_keeps | with_reducible apply bump_keeps
    | with_reducible apply endSample_keeps | with_reducible apply setEgress_keeps | with_reducible apply Keeps.foldl | split

theorem purgeLinks_keeps {a0 : State} (s : State) (p : Nat) (hk : Keeps a0 s) :
    Keeps a0 (purgeLinks s p) := by
  unfold purgeLinks
  iterate 40 all_goals first | with_reducible assumption | fail_if_no_progress (with_reducible refine Keeps.lit rfl rfl rfl rfl rfl rfl rfl rfl ?_)

theorem purgeTile_keeps {a0 : State} (s : State) (t : Nat) (p : Nat) (hk : Keeps a0 s) :
    Keeps a0 (purgeTile s t p) := by
  unfold purgeTile
  iterate 40 all_goals first
    | intro _ | with_reducible assumption | with_reducible apply setTile_keeps | with_reducible apply freeCell_keeps
    | with_reducible apply countDropped_keeps | with_reducible apply Keeps.foldl

theorem purge_keeps {a0 : State} (s : State) (p : Nat) (hk : Keeps a0 s) :
    Keeps a0 (purge s p) := by
  unfold purge
  iterate 40 all_goals first
    | intro _ | with_reducible assumption | with_reducible apply purgeEgress_keeps | with_reducible apply purgeLinks_keeps
    | with_reducible apply purgeTile_keeps | with_reducible apply Keeps.foldl

theorem untrack_keeps {a0 : State} (s : State) (p : Nat) (hk : Keeps a0 s) :
    Keeps a0 (untrack s p) := by
  unfold untrack
  iterate 40 all_goals first | with_reducible assumption | fail_if_no_progress (with_reducible refine Keeps.lit rfl rfl rfl rfl rfl rfl rfl rfl ?_)

theorem blockReads_keeps {a0 : State} (s : State) (k : Nat) (hk : Keeps a0 s) :
    Keeps a0 (blockReads s k) := by
  unfold blockReads
  iterate 40 all_goals first | with_reducible assumption | with_reducible apply dropReads_keeps | with_reducible apply blockFn_keeps

theorem uncommit_keeps {a0 : State} (s : State) (i : Nat) (hk : Keeps a0 s) :
    Keeps a0 (uncommit s i) := by
  unfold uncommit
  iterate 40 all_goals first
    | intro _ | with_reducible assumption | with_reducible apply wrTbl_keeps | with_reducible apply Keeps.ite | with_reducible apply Keeps.foldl

theorem resetLd_keeps {a0 : State} (s : State) (i : Nat) (hk : Keeps a0 s) :
    Keeps a0 (resetLd s i) := by
  unfold resetLd
  iterate 40 all_goals first
    | with_reducible assumption | with_reducible apply setInst_keeps | with_reducible apply stopRun_keeps | with_reducible apply Keeps.foldl

theorem resetUsp_keeps {a0 : State} (s : State) (p : Nat) (hk : Keeps a0 s) :
    Keeps a0 (resetUsp s p) := by
  unfold resetUsp
  iterate 40 all_goals first
    | intro _ | with_reducible assumption | with_reducible apply blockReads_keeps | with_reducible apply uncommit_keeps
    | with_reducible apply resetLd_keeps | with_reducible apply Keeps.foldl

theorem portDown_keeps {a0 : State} (s : State) (p : Nat) (cause : Nat) (removal : Bool) (hk : Keeps a0 s) :
    Keeps a0 (portDown s p cause removal) := by
  unfold portDown
  iterate 40 all_goals first
    | with_reducible assumption | with_reducible apply targetDown_keeps | with_reducible apply purge_keeps | with_reducible apply markWindow_keeps
    | with_reducible apply linkDownLocal_keeps | with_reducible apply setPort_keeps | with_reducible apply wr_keeps
    | with_reducible apply loseHost_keeps | with_reducible apply untrack_keeps | with_reducible apply resetUsp_keeps
    | with_reducible apply emit_keeps | with_reducible apply raise_keeps | with_reducible apply Keeps.ite
    | fail_if_no_progress (with_reducible refine Keeps.lit rfl rfl rfl rfl rfl rfl rfl rfl ?_)

theorem portTargetWrite_keeps {a0 : State} (s : State) (p : Nat) (v : Nat) (hk : Keeps a0 s) :
    KeepsP a0 (portTargetWrite s p v) := by
  unfold portTargetWrite
  iterate 40 all_goals first
    | with_reducible assumption | with_reducible apply wr_keeps | with_reducible apply portDown_keeps | with_reducible apply Keeps.ite
    | fail_if_no_progress (with_reducible apply KeepsP.mk' <;> try with_reducible apply KeepsP.fst)

theorem quiesceGroup_keeps {a0 : State} (s : State) (g : Nat) (hk : Keeps a0 s) :
    Keeps a0 (quiesceGroup s g) := by
  unfold quiesceGroup
  iterate 40 all_goals first
    | intro _ | with_reducible assumption | with_reducible apply dropWindow_keeps | with_reducible apply wr_keeps
    | with_reducible apply portDown_keeps | with_reducible apply Keeps.foldl

theorem releaseGroup_keeps {a0 : State} (s : State) (g : Nat) (hk : Keeps a0 s) :
    Keeps a0 (releaseGroup s g) := by
  unfold releaseGroup
  iterate 40 all_goals first
    | intro _ | with_reducible assumption | with_reducible apply wr_keeps | with_reducible apply Keeps.ite | with_reducible apply Keeps.foldl

theorem quiesceWrite_keeps {a0 : State} (s : State) (g : Nat) (v : Nat) (hk : Keeps a0 s) :
    KeepsP a0 (quiesceWrite s g v) := by
  unfold quiesceWrite
  iterate 40 all_goals first
    | with_reducible assumption | with_reducible apply wr_keeps | with_reducible apply quiesceGroup_keeps | with_reducible apply releaseGroup_keeps
    | with_reducible apply Keeps.ite | fail_if_no_progress (with_reducible apply KeepsP.mk' <;> try with_reducible apply KeepsP.fst)

theorem lostReturns_keeps {a0 : State} (s : State) (t : Nat) (hk : Keeps a0 s) :
    Keeps a0 (lostReturns s t) := by
  unfold lostReturns
  iterate 40 all_goals first
    | with_reducible assumption | with_reducible apply candidateNow_keeps | with_reducible apply leavePool_keeps | with_reducible apply setTgt_keeps
    | with_reducible apply Keeps.ite

theorem endSnoops_keeps {a0 : State} (s : State) (p : Nat) (hk : Keeps a0 s) :
    Keeps a0 (endSnoops s p) := by
  unfold endSnoops
  iterate 40 all_goals first
    | intro _ | with_reducible assumption | with_reducible apply cutSnoop_keeps | with_reducible apply setPort_keeps
    | with_reducible apply Keeps.foldl

theorem endReads_keeps {a0 : State} (s : State) (p : Nat) (hk : Keeps a0 s) :
    Keeps a0 (endReads s p) := by
  unfold endReads
  iterate 40 all_goals first
    | intro _ | with_reducible assumption | with_reducible apply setFn_keeps | with_reducible apply failReads_keeps
    | with_reducible apply bump_keeps | with_reducible apply Keeps.foldl

theorem iscUp_keeps {a0 : State} (s : State) (p : Nat) (x : Partner) (hk : Keeps a0 s) :
    Keeps a0 (iscUp s p x) := by
  unfold iscUp
  iterate 40 all_goals first
    | with_reducible assumption | with_reducible apply setPort_keeps | with_reducible apply freeNext_keeps | with_reducible apply raise_keeps
    | with_reducible apply Keeps.ite | fail_if_no_progress (with_reducible refine Keeps.lit rfl rfl rfl rfl rfl rfl rfl rfl ?_)

theorem targetReturns_keeps {a0 : State} (s : State) (p : Nat) (x : Partner) (hk : Keeps a0 s) :
    Keeps a0 (targetReturns s p x) := by
  unfold targetReturns
  iterate 40 all_goals first
    | with_reducible assumption | with_reducible apply setPort_keeps | with_reducible apply programDevice_keeps | with_reducible apply setTgt_keeps
    | with_reducible apply targetLost_keeps | with_reducible apply Keeps.ite | split

theorem attestDevice_keeps {a0 : State} (s : State) (p : Nat) (x : Partner) (hk : Keeps a0 s) :
    KeepsP a0 (attestDevice s p x) := by
  unfold attestDevice
  iterate 40 all_goals first
    | with_reducible assumption | with_reducible apply wrBlob_keeps | with_reducible apply wr_keeps | with_reducible apply raise_keeps
    | with_reducible apply KeepsP.ite | fail_if_no_progress (with_reducible apply KeepsP.mk' <;> try with_reducible apply KeepsP.fst)

theorem dspUp_keeps {a0 : State} (s : State) (p : Nat) (x : Partner) (hk : Keeps a0 s) :
    Keeps a0 (dspUp s p x) := by
  unfold dspUp
  iterate 40 all_goals first
    | with_reducible assumption | with_reducible apply targetReturns_keeps | with_reducible apply attestDevice_keeps
    | with_reducible apply lostReturns_keeps | with_reducible apply noteDevice_keeps | with_reducible apply candidate_keeps
    | with_reducible apply leavePool_keeps | with_reducible apply emit_keeps | with_reducible apply Keeps.ite | with_reducible apply KeepsP.fst
    | split

theorem cutPort_keeps {a0 : State} (s : State) (p : Nat) (hk : Keeps a0 s) :
    Keeps a0 (cutPort s p) := by
  unfold cutPort
  iterate 40 all_goals first
    | with_reducible assumption | with_reducible apply endReads_keeps | with_reducible apply endSnoops_keeps
    | with_reducible apply cutOutstanding_keeps

theorem uspUp_keeps {a0 : State} (s : State) (p : Nat) (hk : Keeps a0 s) :
    Keeps a0 (uspUp s p) := by
  unfold uspUp
  iterate 40 all_goals first | intro _ | with_reducible assumption | with_reducible apply emit_keeps | with_reducible apply Keeps.foldl

theorem portUp_keeps {a0 : State} (s : State) (p : Nat) (x : Partner) (hk : Keeps a0 s) :
    Keeps a0 (portUp s p x) := by
  unfold portUp
  iterate 40 all_goals first
    | with_reducible assumption | with_reducible apply linkUpLocal_keeps | with_reducible apply portDown_keeps
    | with_reducible apply markWindow_keeps | with_reducible apply portLimits_keeps | with_reducible apply dspUp_keeps
    | with_reducible apply iscUp_keeps | with_reducible apply uspUp_keeps | with_reducible apply Keeps.ite
    | fail_if_no_progress (with_reducible refine Keeps.lit rfl rfl rfl rfl rfl rfl rfl rfl ?_)

theorem hbmReturns_keeps {a0 : State} (s : State) (t : Nat) (hk : Keeps a0 s) :
    Keeps a0 (hbmReturns s t) := by
  unfold hbmReturns
  iterate 40 all_goals first
    | with_reducible assumption | with_reducible apply nearJoins_keeps | with_reducible apply setTgt_keeps | with_reducible apply wr_keeps
    | with_reducible apply Keeps.ite

theorem tokenLink_keeps {a0 : State} (s : State) (t : Nat) (l : Nat) (hk : Keeps a0 s) :
    Keeps a0 (tokenLink s t l) := by
  unfold tokenLink
  iterate 40 all_goals first
    | intro _ | with_reducible assumption | with_reducible apply wr_keeps | with_reducible apply closeCrossing_keeps
    | with_reducible apply crossed_keeps | with_reducible apply repinTiles_keeps | with_reducible apply dropCells_keeps
    | with_reducible apply setLink_keeps | with_reducible apply dedupLost_keeps | with_reducible apply Keeps.foldl

theorem resetCluster_keeps {a0 : State} (s : State) (cl : Nat) (hk : Keeps a0 s) :
    Keeps a0 (resetCluster s cl) := by
  unfold resetCluster
  iterate 40 all_goals first
    | intro _ | with_reducible assumption | with_reducible apply endInvocation_keeps | with_reducible apply rebind_keeps
    | with_reducible apply Keeps.ite | with_reducible apply Keeps.foldl
    | fail_if_no_progress (with_reducible refine Keeps.lit rfl rfl rfl rfl rfl rfl rfl rfl ?_)

theorem dropHome_keeps {a0 : State} (s : State) (t : Nat) (hk : Keeps a0 s) :
    Keeps a0 (dropHome s t) := by
  unfold dropHome
  iterate 40 all_goals first
    | intro _ | with_reducible assumption | with_reducible apply cutRequests_keeps | with_reducible apply setLine_keeps
    | with_reducible apply resume_keeps | with_reducible apply raise_keeps | with_reducible apply markLine_keeps
    | with_reducible apply putHome_keeps | with_reducible apply Keeps.ite | with_reducible apply Keeps.foldl
    | fail_if_no_progress (with_reducible refine Keeps.lit rfl rfl rfl rfl rfl rfl rfl rfl ?_)

theorem resetVolatile_keeps {a0 : State} (s : State) (t : Nat) (hk : Keeps a0 s) :
    Keeps a0 (resetVolatile s t) := by
  unfold resetVolatile
  refine (hk).trans
    { pending := rfl, out := List.suffix_refl _, free := Nat.le_refl _, obj := fun h => ?_, blob := id, tbl := fun h => ?_, chg := id, mem := id }
  all_goals
    dsimp only
    exact canonical_delIf _ h

theorem resetTelemetry_keeps {a0 : State} (s : State) (t : Nat) (hk : Keeps a0 s) :
    Keeps a0 (resetTelemetry s t) := by
  unfold resetTelemetry
  iterate 40 all_goals first
    | with_reducible assumption | with_reducible apply resetUnits_keeps | with_reducible apply dropWindow_keeps
    | with_reducible apply resetVolatile_keeps | with_reducible apply Keeps.foldl
    | fail_if_no_progress (with_reducible refine Keeps.lit rfl rfl rfl rfl rfl rfl rfl rfl ?_)

theorem wipeTile_keeps {a0 : State} (s : State) (t : Nat) (hk : Keeps a0 s) :
    Keeps a0 (wipeTile s t) := by
  unfold wipeTile
  iterate 40 all_goals first
    | intro _ | with_reducible assumption | with_reducible apply portDown_keeps | with_reducible apply resetLanes_keeps
    | with_reducible apply tokenLink_keeps | with_reducible apply dropCells_keeps | with_reducible apply targetLost_keeps
    | with_reducible apply resetCluster_keeps | with_reducible apply dropHome_keeps | with_reducible apply setTile_keeps
    | with_reducible apply applyLimits_keeps | with_reducible apply setEgress_keeps | with_reducible apply loseMarks_keeps
    | with_reducible apply resetTelemetry_keeps | with_reducible apply Keeps.foldl
    | fail_if_no_progress (with_reducible refine Keeps.lit rfl rfl rfl rfl rfl rfl rfl rfl ?_)

theorem loadMicrocode_keeps {a0 : State} (s : State) (t : Nat) (hk : Keeps a0 s) :
    Keeps a0 (loadMicrocode s t) := by
  unfold loadMicrocode
  iterate 40 all_goals first
    | with_reducible assumption | with_reducible apply wr_keeps | with_reducible apply Keeps.ite
    | fail_if_no_progress (with_reducible refine Keeps.lit rfl rfl rfl rfl rfl rfl rfl rfl ?_)

theorem tileReset_keeps {a0 : State} (s : State) (t : Nat) (cause : Nat) (actual : Nat) (hk : Keeps a0 s) :
    Keeps a0 (tileReset s t cause actual) := by
  unfold tileReset
  iterate 40 all_goals first
    | with_reducible assumption | with_reducible apply wipeTile_keeps | with_reducible apply loadMicrocode_keeps | with_reducible apply wr_keeps
    | with_reducible apply bump_keeps | with_reducible apply holdTileSources_keeps | with_reducible apply raise_keeps
    | with_reducible apply Keeps.ite

theorem tileTargetWrite_keeps {a0 : State} (s : State) (t : Nat) (v : Nat) (hk : Keeps a0 s) :
    KeepsP a0 (tileTargetWrite s t v) := by
  unfold tileTargetWrite
  iterate 40 all_goals first
    | with_reducible assumption | with_reducible apply wr_keeps | with_reducible apply tileReset_keeps | with_reducible apply Keeps.ite
    | fail_if_no_progress (with_reducible apply KeepsP.mk' <;> try with_reducible apply KeepsP.fst)

theorem tileResetWrite_keeps {a0 : State} (s : State) (t : Nat) (hk : Keeps a0 s) :
    KeepsP a0 (tileResetWrite s t) := by
  unfold tileResetWrite
  iterate 40 all_goals first
    | with_reducible assumption | with_reducible apply cmdStart_keeps | with_reducible apply tileReset_keeps | with_reducible apply cmdEnd_keeps
    | with_reducible apply KeepsP.ite | fail_if_no_progress (with_reducible apply KeepsP.mk' <;> try with_reducible apply KeepsP.fst)

theorem tileServes_keeps {a0 : State} (s : State) (t : Nat) (hk : Keeps a0 s) :
    Keeps a0 (tileServes s t) := by
  unfold tileServes
  iterate 40 all_goals first
    | intro _ | with_reducible assumption | with_reducible apply freeSources_keeps | with_reducible apply wr_keeps
    | with_reducible apply hbmReturns_keeps | with_reducible apply cmdEnd_keeps | with_reducible apply Keeps.ite | with_reducible apply Keeps.foldl

theorem endTrip_keeps {a0 : State} (s : State) (hk : Keeps a0 s) :
    Keeps a0 (endTrip s) := by
  unfold endTrip
  iterate 40 all_goals first
    | intro _ | with_reducible assumption | with_reducible apply endLevel_keeps | with_reducible apply wr_keeps | with_reducible apply Keeps.foldl
    | fail_if_no_progress (with_reducible refine Keeps.lit rfl rfl rfl rfl rfl rfl rfl rfl ?_)

theorem setDom_keeps {a0 : State} (s : State) (d : Nat) (v : DomSt) (hk : Keeps a0 s) :
    Keeps a0 (setDom s d v) := by
  unfold setDom
  iterate 40 all_goals first | with_reducible assumption | fail_if_no_progress (with_reducible refine Keeps.lit rfl rfl rfl rfl rfl rfl rfl rfl ?_)

theorem startWake_keeps {a0 : State} (s : State) (d : Nat) (woken : Bool) (hk : Keeps a0 s) :
    Keeps a0 (startWake s d woken) := by
  unfold startWake
  iterate 40 all_goals first
    | with_reducible assumption | with_reducible apply abortTest_keeps | with_reducible apply setDom_keeps | with_reducible apply wr_keeps | split

theorem refuseEntry_keeps {a0 : State} (s : State) (d : Nat) (reason : Nat) (code : Nat) (hk : Keeps a0 s) :
    Keeps a0 (refuseEntry s d reason code) := by
  unfold refuseEntry
  iterate 40 all_goals first
    | with_reducible assumption | with_reducible apply wr_keeps | with_reducible apply cmdEnd_keeps | with_reducible apply setDom_keeps
    | with_reducible apply raise_keeps | dsimp only | split

theorem startEntry_keeps {a0 : State} (s : State) (d : Nat) (want : Nat) (byItself : Bool) (hk : Keeps a0 s) :
    Keeps a0 (startEntry s d want byItself) := by
  unfold startEntry
  iterate 40 all_goals first
    | with_reducible assumption | with_reducible apply setDom_keeps | with_reducible apply wr_keeps | with_reducible apply cmdStart_keeps
    | with_reducible apply stopTest_keeps | with_reducible apply refuseEntry_keeps | with_reducible apply Keeps.ite | split

theorem compatSave_keeps {a0 : State} (s : State) (d : Nat) (hk : Keeps a0 s) :
    Keeps a0 (compatSave s d) := by
  unfold compatSave
  iterate 40 all_goals first
    | intro _ | with_reducible assumption | with_reducible apply Keeps.ite | with_reducible apply Keeps.foldl
    | fail_if_no_progress (with_reducible refine Keeps.lit rfl rfl rfl rfl rfl rfl rfl rfl ?_)

theorem loseDomain_keeps {a0 : State} (s : State) (d : Nat) (want : Nat) (hk : Keeps a0 s) :
    Keeps a0 (loseDomain s d want) := by
  unfold loseDomain
  iterate 40 all_goals first
    | intro _ | with_reducible assumption | with_reducible apply resetUnits_keeps | with_reducible apply compatSave_keeps
    | with_reducible apply wr_keeps | with_reducible apply resetSide_keeps | with_reducible apply resetLanes_keeps
    | with_reducible apply portDown_keeps | with_reducible apply forgetEq_keeps | with_reducible apply resetCluster_keeps
    | with_reducible apply setTgt_keeps | with_reducible apply tokenLink_keeps | with_reducible apply dropCells_keeps
    | with_reducible apply resetTelemetry_keeps | with_reducible apply setTile_keeps | with_reducible apply applyLimits_keeps
    | with_reducible apply Keeps.foldl | fail_if_no_progress (with_reducible refine Keeps.lit rfl rfl rfl rfl rfl rfl rfl rfl ?_) | split

theorem restDomain_keeps {a0 : State} (s : State) (d : Nat) (want : Nat) (hk : Keeps a0 s) :
    Keeps a0 (restDomain s d want) := by
  unfold restDomain
  iterate 40 all_goals first
    | with_reducible assumption | with_reducible apply holdSource_keeps | with_reducible apply loseDomain_keeps | with_reducible apply setDom_keeps
    | with_reducible apply bump_keeps | with_reducible apply wr_keeps | with_reducible apply Keeps.foldl

theorem domainTargetWrite_keeps {a0 : State} (s0 : State) (d : Nat) (v : Nat) (hk : Keeps a0 s0) :
    KeepsP a0 (domainTargetWrite s0 d v) := by
  unfold domainTargetWrite
  iterate 40 all_goals first
    | with_reducible assumption | with_reducible apply freeNext_keeps | with_reducible apply endTrip_keeps | with_reducible apply setDom_keeps
    | with_reducible apply wr_keeps | with_reducible apply startWake_keeps | with_reducible apply startEntry_keeps
    | with_reducible apply restDomain_keeps | with_reducible apply cmdDone_keeps | with_reducible apply Keeps.ite | with_reducible apply KeepsP.ite
    | fail_if_no_progress (with_reducible apply KeepsP.mk' <;> try with_reducible apply KeepsP.fst)

theorem forceOff_keeps {a0 : State} (s : State) (t : Nat) (hk : Keeps a0 s) :
    Keeps a0 (forceOff s t) := by
  unfold forceOff
  iterate 40 all_goals first
    | intro _ | with_reducible assumption | with_reducible apply abortTest_keeps | with_reducible apply tileReset_keeps
    | with_reducible apply setDom_keeps | with_reducible apply bump_keeps | with_reducible apply wr_keeps | with_reducible apply setTgt_keeps
    | with_reducible apply holdSource_keeps | with_reducible apply cmdEnd_keeps | with_reducible apply cmdDone_keeps
    | with_reducible apply Keeps.ite | with_reducible apply Keeps.foldl
    | fail_if_no_progress (with_reducible refine Keeps.lit rfl rfl rfl rfl rfl rfl rfl rfl ?_)

theorem forceOffWrite_keeps {a0 : State} (s : State) (d : Nat) (hk : Keeps a0 s) :
    KeepsP a0 (forceOffWrite s d) := by
  unfold forceOffWrite
  iterate 40 all_goals first
    | with_reducible assumption | with_reducible apply cmdDone_keeps | with_reducible apply forceOff_keeps
    | fail_if_no_progress (with_reducible apply KeepsP.mk' <;> try with_reducible apply KeepsP.fst) | split

theorem setRail_keeps {a0 : State} (s : State) (r : Nat) (v : RailSt) (hk : Keeps a0 s) :
    Keeps a0 (setRail s r v) := by
  unfold setRail
  iterate 40 all_goals first | with_reducible assumption | fail_if_no_progress (with_reducible refine Keeps.lit rfl rfl rfl rfl rfl rfl rfl rfl ?_)

theorem railStep_keeps {a0 : State} (s : State) (r : Nat) (hk : Keeps a0 s) :
    Keeps a0 (railStep s r) := by
  unfold railStep
  iterate 40 all_goals first
    | with_reducible assumption | with_reducible apply freeNext_keeps | with_reducible apply setRail_keeps | with_reducible apply Keeps.ite

theorem marginWrite_keeps {a0 : State} (s : State) (r : Nat) (v : Nat) (hk : Keeps a0 s) :
    KeepsP a0 (marginWrite s r v) := by
  unfold marginWrite
  iterate 40 all_goals first
    | with_reducible assumption | with_reducible apply railStep_keeps | with_reducible apply wr_keeps | with_reducible apply KeepsP.ite
    | fail_if_no_progress (with_reducible apply KeepsP.mk' <;> try with_reducible apply KeepsP.fst)

theorem wakeSource_keeps {a0 : State} (s : State) (d : Nat) (x : WakeSrc) (hk : Keeps a0 s) :
    Keeps a0 (wakeSource s d x) := by
  unfold wakeSource
  iterate 40 all_goals first
    | with_reducible assumption | with_reducible apply cmdDone_keeps | with_reducible apply startWake_keeps | with_reducible apply setDom_keeps
    | with_reducible apply refuseEntry_keeps | with_reducible apply freeNext_keeps | split

theorem hldWake_keeps {a0 : State} (s : State) (x : WakeSrc) (hk : Keeps a0 s) :
    Keeps a0 (hldWake s x) := by
  unfold hldWake
  iterate 40 all_goals first | with_reducible assumption | with_reducible apply wakeSource_keeps

theorem railCalm_keeps {a0 : State} (s : State) (r : Nat) (hk : Keeps a0 s) :
    Keeps a0 (railCalm s r) := by
  unfold railCalm
  iterate 40 all_goals first | with_reducible assumption | with_reducible apply endLevel_keeps | with_reducible apply Keeps.ite

theorem phaseRestored_keeps {a0 : State} (s : State) (r : Nat) (hk : Keeps a0 s) :
    Keeps a0 (phaseRestored s r) := by
  unfold phaseRestored
  iterate 40 all_goals first
    | with_reducible assumption | with_reducible apply railCalm_keeps | with_reducible apply setRail_keeps | with_reducible apply wr_keeps
    | with_reducible apply railStep_keeps | with_reducible apply Keeps.ite

theorem stretchLong_keeps {a0 : State} (s : State) (t : Nat) (hk : Keeps a0 s) :
    Keeps a0 (stretchLong s t) := by
  unfold stretchLong
  iterate 40 all_goals first | with_reducible assumption | with_reducible apply raise_keeps | with_reducible apply Keeps.ite

theorem wakeChildren_keeps {a0 : State} (s : State) (t : Nat) (hk : Keeps a0 s) :
    Keeps a0 (wakeChildren s t) := by
  unfold wakeChildren
  iterate 40 all_goals first
    | intro _ | with_reducible assumption | with_reducible apply startWake_keeps | with_reducible apply Keeps.ite | with_reducible apply Keeps.foldl

theorem serveDomain_keeps {a0 : State} (s : State) (d : Nat) (fromOff : Bool) (hk : Keeps a0 s) :
    Keeps a0 (serveDomain s d fromOff) := by
  unfold serveDomain
  iterate 40 all_goals first
    | intro _ | with_reducible assumption | with_reducible apply wr_keeps | with_reducible apply wakeBank_keeps
    | with_reducible apply wakeChildren_keeps | with_reducible apply Keeps.foldl | split

theorem idleEntry_keeps {a0 : State} (s : State) (d : Nat) (hk : Keeps a0 s) :
    Keeps a0 (idleEntry s d) := by
  unfold idleEntry
  iterate 40 all_goals first | with_reducible assumption | with_reducible apply startEntry_keeps | with_reducible apply Keeps.ite | split

theorem powerLost_keeps {a0 : State} (s : State) (t : Nat) (hk : Keeps a0 s) :
    Keeps a0 (powerLost s t) := by
  unfold powerLost
  iterate 40 all_goals first | with_reducible assumption | with_reducible apply forceOff_keeps | with_reducible apply Keeps.ite

theorem pwrokFalls_keeps {a0 : State} (s : State) (t : Nat) (hk : Keeps a0 s) :
    Keeps a0 (pwrokFalls s t) := by
  unfold pwrokFalls
  iterate 40 all_goals first
    | with_reducible assumption | with_reducible apply powerLost_keeps
    | fail_if_no_progress (with_reducible refine Keeps.lit rfl rfl rfl rfl rfl rfl rfl rfl ?_)

theorem entryComplete_keeps {a0 : State} (s : State) (d : Nat) (hk : Keeps a0 s) :
    Keeps a0 (entryComplete s d) := by
  unfold entryComplete
  iterate 40 all_goals first
    | with_reducible assumption | with_reducible apply restDomain_keeps | with_reducible apply cmdEnd_keeps | with_reducible apply startWake_keeps
    | split

theorem droopCrosses_keeps {a0 : State} (s : State) (t : Nat) (det : Nat) (lvl : Nat) (hk : Keeps a0 s) :
    Keeps a0 (droopCrosses s t det lvl) := by
  unfold droopCrosses
  iterate 40 all_goals first
    | with_reducible assumption | with_reducible apply bump_keeps | with_reducible apply wr_keeps | with_reducible apply Keeps.ite
    | fail_if_no_progress (with_reducible refine Keeps.lit rfl rfl rfl rfl rfl rfl rfl rfl ?_)

theorem railFails_keeps {a0 : State} (s : State) (x : RailSel) (hk : Keeps a0 s) :
    Keeps a0 (railFails s x) := by
  unfold railFails
  iterate 40 all_goals first
    | with_reducible assumption | with_reducible apply raise_keeps | with_reducible apply powerLost_keeps | with_reducible apply setRail_keeps
    | with_reducible apply Keeps.foldl | split

theorem wakeDone_keeps {a0 : State} (s : State) (d : Nat) (hk : Keeps a0 s) :
    Keeps a0 (wakeDone s d) := by
  unfold wakeDone
  iterate 40 all_goals first
    | with_reducible assumption | with_reducible apply wr_keeps | with_reducible apply bump_keeps | with_reducible apply setDom_keeps
    | with_reducible apply serveDomain_keeps | with_reducible apply freeSources_keeps | with_reducible apply Keeps.ite

theorem blockAcks_keeps {a0 : State} (s : State) (d : Nat) (code : Nat) (e : Entry) (hk : Keeps a0 s) :
    Keeps a0 (blockAcks s d code e) := by
  unfold blockAcks
  iterate 40 all_goals first
    | with_reducible assumption | with_reducible apply refuseEntry_keeps | with_reducible apply endLevel_keeps
    | with_reducible apply emptyBank_keeps | with_reducible apply setDom_keeps | split

theorem blockAnswer_keeps {a0 : State} (s : State) (d : Nat) (code : Nat) (a : BlockAns) (hk : Keeps a0 s) :
    Keeps a0 (blockAnswer s d code a) := by
  unfold blockAnswer
  iterate 40 all_goals first
    | with_reducible assumption | with_reducible apply blockAcks_keeps | with_reducible apply setDom_keeps | with_reducible apply refuseEntry_keeps
    | split

theorem pwrokRises_keeps {a0 : State} (s : State) (t : Nat) (hk : Keeps a0 s) :
    Keeps a0 (pwrokRises s t) := by
  unfold pwrokRises
  iterate 40 all_goals first
    | with_reducible assumption | with_reducible apply railCalm_keeps | with_reducible apply setRail_keeps | with_reducible apply startWake_keeps
    | with_reducible apply Keeps.ite | fail_if_no_progress (with_reducible refine Keeps.lit rfl rfl rfl rfl rfl rfl rfl rfl ?_)

theorem showThrottle_keeps {a0 : State} (s : State) (t : Nat) (hk : Keeps a0 s) :
    Keeps a0 (showThrottle s t) := by
  unfold showThrottle
  iterate 40 all_goals first | with_reducible assumption | with_reducible apply wr_keeps | with_reducible apply Keeps.ite

theorem thermalEnds_keeps {a0 : State} (s : State) (t : Nat) (hk : Keeps a0 s) :
    Keeps a0 (thermalEnds s t) := by
  unfold thermalEnds
  iterate 40 all_goals first
    | with_reducible assumption | with_reducible apply showThrottle_keeps | with_reducible apply endLevel_keeps | with_reducible apply bump_keeps
    | with_reducible apply freeNext_keeps | with_reducible apply Keeps.ite
    | fail_if_no_progress (with_reducible refine Keeps.lit rfl rfl rfl rfl rfl rfl rfl rfl ?_)

theorem phaseLost_keeps {a0 : State} (s : State) (r : Nat) (n : Nat) (hk : Keeps a0 s) :
    Keeps a0 (phaseLost s r n) := by
  unfold phaseLost
  iterate 40 all_goals first
    | with_reducible assumption | with_reducible apply setRail_keeps | with_reducible apply wr_keeps | with_reducible apply raise_keeps
    | with_reducible apply railStep_keeps

theorem thermalCrosses_keeps {a0 : State} (s : State) (t : Nat) (lvl : Nat) (hk : Keeps a0 s) :
    Keeps a0 (thermalCrosses s t lvl) := by
  unfold thermalCrosses
  iterate 40 all_goals first
    | with_reducible assumption | with_reducible apply raise_keeps | with_reducible apply showThrottle_keeps
    | fail_if_no_progress (with_reducible refine Keeps.lit rfl rfl rfl rfl rfl rfl rfl rfl ?_)

theorem railAck_keeps {a0 : State} (s : State) (r : Nat) (hk : Keeps a0 s) :
    Keeps a0 (railAck s r) := by
  unfold railAck
  iterate 40 all_goals first
    | with_reducible assumption | with_reducible apply railStep_keeps | with_reducible apply railCalm_keeps
    | with_reducible apply showThrottle_keeps | with_reducible apply setRail_keeps | with_reducible apply wr_keeps | dsimp only | split

theorem stretchEnds_keeps {a0 : State} (s : State) (t : Nat) (cycles : Nat) (ns : Nat) (hk : Keeps a0 s) :
    Keeps a0 (stretchEnds s t cycles ns) := by
  unfold stretchEnds
  iterate 40 all_goals first
    | with_reducible assumption | with_reducible apply bump_keeps | with_reducible apply wr_keeps | with_reducible apply endLevel_keeps
    | with_reducible apply Keeps.ite | fail_if_no_progress (with_reducible refine Keeps.lit rfl rfl rfl rfl rfl rfl rfl rfl ?_)

theorem lockLost_keeps {a0 : State} (s : State) (t : Nat) (pll : Nat) (hk : Keeps a0 s) :
    Keeps a0 (lockLost s t pll) := by
  unfold lockLost
  iterate 40 all_goals first
    | with_reducible assumption | with_reducible apply bump_keeps | with_reducible apply wr_keeps | with_reducible apply Keeps.ite

theorem delayExpires_keeps {a0 : State} (s : State) (d : Nat) (code : Nat) (hk : Keeps a0 s) :
    Keeps a0 (delayExpires s d code) := by
  unfold delayExpires
  iterate 40 all_goals first | with_reducible assumption | with_reducible apply refuseEntry_keeps | with_reducible apply freeNext_keeps | split

theorem lockTimeout_keeps {a0 : State} (s : State) (d : Nat) (hk : Keeps a0 s) :
    Keeps a0 (lockTimeout s d) := by
  unfold lockTimeout
  iterate 40 all_goals first
    | with_reducible assumption | with_reducible apply raise_keeps | with_reducible apply setDom_keeps | with_reducible apply Keeps.ite

theorem thermalTrips_keeps {a0 : State} (s : State) (t : Nat) (hk : Keeps a0 s) :
    Keeps a0 (thermalTrips s t) := by
  unfold thermalTrips
  iterate 40 all_goals first
    | with_reducible assumption | with_reducible apply forceOff_keeps | with_reducible apply raise_keeps | with_reducible apply wr_keeps
    | with_reducible apply Keeps.foldl | fail_if_no_progress (with_reducible refine Keeps.lit rfl rfl rfl rfl rfl rfl rfl rfl ?_)

theorem railTimeout_keeps {a0 : State} (s : State) (r : Nat) (hk : Keeps a0 s) :
    Keeps a0 (railTimeout s r) := by
  unfold railTimeout
  iterate 40 all_goals first
    | with_reducible assumption | with_reducible apply raise_keeps | with_reducible apply showThrottle_keeps | with_reducible apply setRail_keeps
    | with_reducible apply bump_keeps | with_reducible apply Keeps.ite

end Sys2Proof.Machine
end

