-- ==== Sys2Proof/Laws/Keeps9.lean ====
section
/-!
SUPPORT. What the operations of Machine/UpdateOps.lean, Machine/TestOps.lean, Machine/Gecko.lean, Machine/Instances.lean, Machine/Pool.lean, Machine/Gates.lean, Machine/SpdmOps.lean, Machine/Images.lean, Machine/ModeOps.lean
leave alone: each keeps the queue, every output already made, and the canonical forms (Safety.lean's Keeps).
-/
namespace Sys2Proof.Machine

open Sys2Proof

set_option linter.unusedTactic false
set_option linter.unreachableTactic false
set_option linter.unnecessarySeqFocus false

theorem newNonce_keeps {a0 : State} (s : State) (hk : Keeps a0 s) :
    Keeps a0 (newNonce s) := by
  unfold newNonce
  iterate 40 all_goals first | with_reducible assumption | with_reducible apply wr_keeps | with_reducible apply freeNext_keeps

theorem setFwSlot_keeps {a0 : State} (s : State) (n : Nat) (v : FwSlot) (hk : Keeps a0 s) :
    Keeps a0 (setFwSlot s n v) := by
  unfold setFwSlot
  iterate 40 all_goals first | with_reducible assumption | fail_if_no_progress (with_reducible refine Keeps.lit rfl rfl rfl rfl rfl rfl rfl rfl ?_)

theorem verifyEnd_keeps {a0 : State} (s : State) (err : Nat) (hk : Keeps a0 s) :
    Keeps a0 (verifyEnd s err) := by
  unfold verifyEnd
  iterate 40 all_goals first | with_reducible assumption | with_reducible apply cmdEnd_keeps | with_reducible apply setFwSlot_keeps | split

theorem downloadWrite_keeps {a0 : State} (s : State) (start : Nat) (data : List Byte) (readBackOk : Bool) (hk : Keeps a0 s) :
    KeepsP a0 (downloadWrite s start data readBackOk) := by
  unfold downloadWrite
  iterate 40 all_goals first
    | with_reducible assumption | with_reducible apply cmdEnd_keeps | with_reducible apply setFwSlot_keeps | with_reducible apply KeepsP.ite
    | fail_if_no_progress (with_reducible apply KeepsP.mk' <;> try with_reducible apply KeepsP.fst) | split

theorem setCfgKey_keeps {a0 : State} (s : State) (n : Nat) (v : Option (List Byte)) (hk : Keeps a0 s) :
    Keeps a0 (setCfgKey s n v) := by
  unfold setCfgKey
  iterate 40 all_goals first | with_reducible assumption | fail_if_no_progress (with_reducible refine Keeps.lit rfl rfl rfl rfl rfl rfl rfl rfl ?_)

theorem credentialWrite_keeps {a0 : State} (s : State) (r : Requester) (v : List Byte) (hk : Keeps a0 s) :
    KeepsP a0 (credentialWrite s r v) := by
  unfold credentialWrite
  iterate 40 all_goals first
    | with_reducible assumption | with_reducible apply cmdDone_keeps | with_reducible apply KeepsP.ite
    | fail_if_no_progress (with_reducible apply KeepsP.mk' <;> try with_reducible apply KeepsP.fst)
    | fail_if_no_progress (with_reducible refine Keeps.lit rfl rfl rfl rfl rfl rfl rfl rfl ?_)

theorem fails_keeps {a0 : State} (s : State) (idx : Nat) (sub : Nat) (reason : Nat) (hk : Keeps a0 s) :
    KeepsP a0 (fails s idx sub reason) := by
  unfold fails
  iterate 40 all_goals first
    | with_reducible assumption | with_reducible apply cmdDone_keeps
    | fail_if_no_progress (with_reducible apply KeepsP.mk' <;> try with_reducible apply KeepsP.fst)

theorem enrollWrite_keeps {a0 : State} (s : State) (v : List Byte) (hk : Keeps a0 s) :
    KeepsP a0 (enrollWrite s v) := by
  unfold enrollWrite
  iterate 40 all_goals first
    | with_reducible assumption | with_reducible apply fails_keeps | with_reducible apply cmdDone_keeps | with_reducible apply newNonce_keeps
    | with_reducible apply setCfgKey_keeps | with_reducible apply KeepsP.ite
    | fail_if_no_progress (with_reducible apply KeepsP.mk' <;> try with_reducible apply KeepsP.fst)

theorem revokeWrite_keeps {a0 : State} (s : State) (v : List Byte) (hk : Keeps a0 s) :
    KeepsP a0 (revokeWrite s v) := by
  unfold revokeWrite
  iterate 40 all_goals first
    | with_reducible assumption | with_reducible apply fails_keeps | with_reducible apply cmdDone_keeps | with_reducible apply newNonce_keeps
    | with_reducible apply setCfgKey_keeps | with_reducible apply KeepsP.ite
    | fail_if_no_progress (with_reducible apply KeepsP.mk' <;> try with_reducible apply KeepsP.fst)

theorem floorWrite_keeps {a0 : State} (s : State) (hk : Keeps a0 s) :
    KeepsP a0 (floorWrite s) := by
  unfold floorWrite
  iterate 40 all_goals first
    | with_reducible assumption | with_reducible apply wr_keeps | with_reducible apply cmdDone_keeps | with_reducible apply KeepsP.ite
    | fail_if_no_progress (with_reducible apply KeepsP.mk' <;> try with_reducible apply KeepsP.fst)

theorem beginWrite_keeps {a0 : State} (s : State) (len : Nat) (hk : Keeps a0 s) :
    KeepsP a0 (beginWrite s len) := by
  unfold beginWrite
  iterate 40 all_goals first
    | with_reducible assumption | with_reducible apply fails_keeps | with_reducible apply setFwSlot_keeps | with_reducible apply cmdStart_keeps
    | fail_if_no_progress (with_reducible apply KeepsP.mk' <;> try with_reducible apply KeepsP.fst) | split

theorem verifyWrite_keeps {a0 : State} (s : State) (hk : Keeps a0 s) :
    KeepsP a0 (verifyWrite s) := by
  unfold verifyWrite
  iterate 40 all_goals first
    | with_reducible assumption | with_reducible apply cmdStart_keeps | with_reducible apply KeepsP.ite
    | fail_if_no_progress (with_reducible apply KeepsP.mk' <;> try with_reducible apply KeepsP.fst)

theorem writeRecord_keeps {a0 : State} (s : State) (active : Nat) (trial : Nat) (count : Nat) (hk : Keeps a0 s) :
    Keeps a0 (writeRecord s active trial count) := by
  unfold writeRecord
  iterate 40 all_goals first
    | with_reducible assumption | with_reducible apply wr_keeps | with_reducible apply Keeps.ite
    | fail_if_no_progress (with_reducible refine Keeps.lit rfl rfl rfl rfl rfl rfl rfl rfl ?_)

theorem startSwap_keeps {a0 : State} (s : State) (hk : Keeps a0 s) :
    Keeps a0 (startSwap s) := by
  unfold startSwap
  iterate 40 all_goals first | with_reducible assumption | fail_if_no_progress (with_reducible refine Keeps.lit rfl rfl rfl rfl rfl rfl rfl rfl ?_)

theorem activateWrite_keeps {a0 : State} (s : State) (hk : Keeps a0 s) :
    KeepsP a0 (activateWrite s) := by
  unfold activateWrite
  iterate 40 all_goals first
    | with_reducible assumption | with_reducible apply fails_keeps | with_reducible apply writeRecord_keeps | with_reducible apply cmdStart_keeps
    | with_reducible apply startSwap_keeps | fail_if_no_progress (with_reducible apply KeepsP.mk' <;> try with_reducible apply KeepsP.fst)
    | fail_if_no_progress (with_reducible refine Keeps.lit rfl rfl rfl rfl rfl rfl rfl rfl ?_) | split

theorem confirmWrite_keeps {a0 : State} (s : State) (hk : Keeps a0 s) :
    KeepsP a0 (confirmWrite s) := by
  unfold confirmWrite
  iterate 40 all_goals first
    | with_reducible assumption | with_reducible apply cmdStart_keeps | with_reducible apply fails_keeps | with_reducible apply KeepsP.ite
    | fail_if_no_progress (with_reducible apply KeepsP.mk' <;> try with_reducible apply KeepsP.fst)

theorem applyWrite_keeps {a0 : State} (s : State) (hk : Keeps a0 s) :
    KeepsP a0 (applyWrite s) := by
  unfold applyWrite
  iterate 40 all_goals first
    | intro _ | with_reducible assumption | with_reducible apply portDown_keeps | with_reducible apply wr_keeps
    | with_reducible apply cmdStart_keeps | with_reducible apply Keeps.ite | with_reducible apply KeepsP.ite
    | fail_if_no_progress (with_reducible apply KeepsP.mk' <;> try with_reducible apply KeepsP.fst) | with_reducible apply Keeps.foldl

theorem revertWrite_keeps {a0 : State} (s : State) (hk : Keeps a0 s) :
    KeepsP a0 (revertWrite s) := by
  unfold revertWrite
  iterate 40 all_goals first
    | with_reducible assumption | with_reducible apply fails_keeps | with_reducible apply bump_keeps | with_reducible apply writeRecord_keeps
    | with_reducible apply cmdStart_keeps | with_reducible apply startSwap_keeps | with_reducible apply KeepsP.ite
    | fail_if_no_progress (with_reducible apply KeepsP.mk' <;> try with_reducible apply KeepsP.fst)
    | fail_if_no_progress (with_reducible refine Keeps.lit rfl rfl rfl rfl rfl rfl rfl rfl ?_)

theorem endSwap_keeps {a0 : State} (s : State) (hk : Keeps a0 s) :
    Keeps a0 (endSwap s) := by
  unfold endSwap
  iterate 40 all_goals first
    | intro _ | with_reducible assumption | with_reducible apply endInvocation_keeps | with_reducible apply wakeBlocked_keeps
    | with_reducible apply Keeps.foldl | fail_if_no_progress (with_reducible refine Keeps.lit rfl rfl rfl rfl rfl rfl rfl rfl ?_)

theorem confirmEnd_keeps {a0 : State} (s : State) (err : Nat) (hk : Keeps a0 s) :
    Keeps a0 (confirmEnd s err) := by
  unfold confirmEnd
  iterate 40 all_goals first
    | with_reducible assumption | with_reducible apply cmdEnd_keeps | with_reducible apply writeRecord_keeps | with_reducible apply Keeps.ite
    | fail_if_no_progress (with_reducible refine Keeps.lit rfl rfl rfl rfl rfl rfl rfl rfl ?_)

theorem microChange_keeps {a0 : State} (s : State) (differs : Bool) (hk : Keeps a0 s) :
    Keeps a0 (microChange s differs) := by
  unfold microChange
  iterate 40 all_goals first
    | with_reducible assumption | with_reducible apply wr_keeps | with_reducible apply Keeps.ite
    | fail_if_no_progress (with_reducible refine Keeps.lit rfl rfl rfl rfl rfl rfl rfl rfl ?_)

theorem revertEnd_keeps {a0 : State} (s : State) (err : Nat) (hk : Keeps a0 s) :
    Keeps a0 (revertEnd s err) := by
  unfold revertEnd
  iterate 40 all_goals first
    | with_reducible assumption | with_reducible apply endSwap_keeps | with_reducible apply cmdEnd_keeps | with_reducible apply microChange_keeps
    | fail_if_no_progress (with_reducible refine Keeps.lit rfl rfl rfl rfl rfl rfl rfl rfl ?_)

theorem applyEnd_keeps {a0 : State} (s : State) (err : Nat) (hk : Keeps a0 s) :
    Keeps a0 (applyEnd s err) := by
  unfold applyEnd
  iterate 40 all_goals first
    | with_reducible assumption | with_reducible apply wr_keeps | with_reducible apply cmdEnd_keeps
    | fail_if_no_progress (with_reducible refine Keeps.lit rfl rfl rfl rfl rfl rfl rfl rfl ?_)

theorem activateEnd_keeps {a0 : State} (s : State) (err : Nat) (hk : Keeps a0 s) :
    Keeps a0 (activateEnd s err) := by
  unfold activateEnd
  iterate 40 all_goals first
    | with_reducible assumption | with_reducible apply cmdEnd_keeps | with_reducible apply microChange_keeps | with_reducible apply endSwap_keeps

theorem revokeRoot_keeps {a0 : State} (s : State) (n : Nat) (hk : Keeps a0 s) :
    Keeps a0 (revokeRoot s n) := by
  unfold revokeRoot
  iterate 40 all_goals first
    | with_reducible assumption | with_reducible apply emit_keeps | with_reducible apply Keeps.ite
    | fail_if_no_progress (with_reducible refine Keeps.lit rfl rfl rfl rfl rfl rfl rfl rfl ?_)

theorem testGate_keeps {a0 : State} (s : State) (t : TestRun) (hk : Keeps a0 s) :
    KeepsP a0 (testGate s t) := by
  unfold testGate
  iterate 40 all_goals first
    | with_reducible assumption | with_reducible apply gateRange_keeps | with_reducible apply KeepsP.ite
    | fail_if_no_progress (with_reducible apply KeepsP.mk' <;> try with_reducible apply KeepsP.fst) | with_reducible apply KeepsP.fst

theorem testTakes_keeps {a0 : State} (s : State) (t : TestRun) (hk : Keeps a0 s) :
    Keeps a0 (testTakes s t) := by
  unfold testTakes
  iterate 40 all_goals first
    | intro _ | with_reducible assumption | with_reducible apply setBlk_keeps | with_reducible apply setDom_keeps | with_reducible apply Keeps.ite
    | with_reducible apply Keeps.foldl

theorem testWrite_keeps {a0 : State} (s : State) (v : List Byte) (hk : Keeps a0 s) :
    KeepsP a0 (testWrite s v) := by
  unfold testWrite
  iterate 40 all_goals first
    | with_reducible assumption | with_reducible apply testGate_keeps | with_reducible apply cmdStart_keeps | with_reducible apply testTakes_keeps
    | with_reducible apply cmdEnd_keeps | with_reducible apply KeepsP.ite
    | fail_if_no_progress (with_reducible apply KeepsP.mk' <;> try with_reducible apply KeepsP.fst) | with_reducible apply KeepsP.fst
    | fail_if_no_progress (with_reducible refine Keeps.lit rfl rfl rfl rfl rfl rfl rfl rfl ?_)

theorem diagGate_keeps {a0 : State} (s : State) (dpa : Nat) (n : Nat) (write : Bool) (hk : Keeps a0 s) :
    KeepsP a0 (diagGate s dpa n write) := by
  unfold diagGate
  iterate 40 all_goals first | with_reducible assumption | with_reducible apply gateRange_keeps

theorem diagReads_keeps {a0 : State} (s : State) (dpa : Nat) (n : Nat) (hk : Keeps a0 s) :
    Keeps a0 (diagReads s dpa n) := by
  unfold diagReads
  iterate 40 all_goals first
    | intro _ | with_reducible assumption | with_reducible apply hbmRead_keeps | with_reducible apply Keeps.ite | with_reducible apply Keeps.foldl

theorem diagReadWrite_keeps {a0 : State} (s : State) (v : List Byte) (hk : Keeps a0 s) :
    KeepsP a0 (diagReadWrite s v) := by
  unfold diagReadWrite
  iterate 40 all_goals first
    | with_reducible assumption | with_reducible apply diagGate_keeps | with_reducible apply cmdStart_keeps | with_reducible apply cmdEnd_keeps
    | with_reducible apply wrBlob_keeps | with_reducible apply diagReads_keeps | with_reducible apply KeepsP.ite
    | fail_if_no_progress (with_reducible apply KeepsP.mk' <;> try with_reducible apply KeepsP.fst) | with_reducible apply KeepsP.fst

theorem diagLine_keeps {a0 : State} (s : State) (k : Nat) (off : Nat) (d : List Byte) (hk : Keeps a0 s) :
    Keeps a0 (diagLine s k off d) := by
  unfold diagLine
  iterate 40 all_goals first
    | with_reducible assumption | with_reducible apply putHome_keeps | with_reducible apply writeLine_keeps | with_reducible apply Keeps.ite

theorem diagPut_keeps {a0 : State} (s : State) (dpa : Nat) (d : List Byte) (hk : Keeps a0 s) :
    Keeps a0 (diagPut s dpa d) := by
  unfold diagPut
  iterate 40 all_goals first | intro _ | with_reducible assumption | with_reducible apply diagLine_keeps | with_reducible apply Keeps.foldl

theorem diagWriteWrite_keeps {a0 : State} (s : State) (v : List Byte) (hk : Keeps a0 s) :
    KeepsP a0 (diagWriteWrite s v) := by
  unfold diagWriteWrite
  iterate 40 all_goals first
    | with_reducible assumption | with_reducible apply diagGate_keeps | with_reducible apply cmdStart_keeps | with_reducible apply cmdEnd_keeps
    | with_reducible apply diagPut_keeps | with_reducible apply KeepsP.ite
    | fail_if_no_progress (with_reducible apply KeepsP.mk' <;> try with_reducible apply KeepsP.fst) | with_reducible apply KeepsP.fst

theorem testEnds_keeps {a0 : State} (s : State) (units : Nat) (errors : Nat) (addr : Nat) (hk : Keeps a0 s) :
    Keeps a0 (testEnds s units errors addr) := by
  unfold testEnds
  iterate 40 all_goals first
    | with_reducible assumption | with_reducible apply endTest_keeps | with_reducible apply tileReset_keeps | with_reducible apply Keeps.ite | split

theorem stopWrite_keeps {a0 : State} (s : State) (r : Requester) (e : Nat) (v : Nat) (hk : Keeps a0 s) :
    KeepsP a0 (stopWrite s r e v) := by
  unfold stopWrite
  iterate 40 all_goals first
    | with_reducible assumption | with_reducible apply cmdDone_keeps | with_reducible apply stopRun_keeps | with_reducible apply KeepsP.ite
    | fail_if_no_progress (with_reducible apply KeepsP.mk' <;> try with_reducible apply KeepsP.fst)

theorem unloadWrite_keeps {a0 : State} (s : State) (r : Requester) (tb : Nat) (hk : Keeps a0 s) :
    KeepsP a0 (unloadWrite s r tb) := by
  unfold unloadWrite
  iterate 40 all_goals first
    | with_reducible assumption | with_reducible apply unloadTable_keeps | with_reducible apply cmdStart_keeps | with_reducible apply cmdDone_keeps
    | with_reducible apply KeepsP.ite | fail_if_no_progress (with_reducible apply KeepsP.mk' <;> try with_reducible apply KeepsP.fst)

theorem loadWrite_keeps {a0 : State} (s : State) (owner : Nat) (hk : Keeps a0 s) :
    KeepsP a0 (loadWrite s owner) := by
  unfold loadWrite
  iterate 40 all_goals first
    | with_reducible assumption | with_reducible apply loadImage_keeps | with_reducible apply cmdDone_keeps | with_reducible apply KeepsP.ite
    | fail_if_no_progress (with_reducible apply KeepsP.mk' <;> try with_reducible apply KeepsP.fst) | with_reducible apply KeepsP.fst

theorem bindingsChunk_keeps {a0 : State} (s : State) (e : Nat) (start : Nat) (v : List Byte) (hk : Keeps a0 s) :
    KeepsP a0 (bindingsChunk s e start v) := by
  unfold bindingsChunk
  iterate 40 all_goals first
    | with_reducible assumption | with_reducible apply bindingsWrite_keeps | with_reducible apply KeepsP.ite
    | fail_if_no_progress (with_reducible apply KeepsP.mk' <;> try with_reducible apply KeepsP.fst)

theorem postNoticeWrite_keeps {a0 : State} (s : State) (i : Nat) (v : List Byte) (hk : Keeps a0 s) :
    KeepsP a0 (postNoticeWrite s i v) := by
  unfold postNoticeWrite
  iterate 40 all_goals first
    | with_reducible assumption | with_reducible apply cmdDone_keeps | with_reducible apply pushNotice_keeps | with_reducible apply KeepsP.ite
    | fail_if_no_progress (with_reducible apply KeepsP.mk' <;> try with_reducible apply KeepsP.fst)

theorem mailboxRun_keeps {a0 : State} (s : State) (i : Nat) (f : State → State) (hf : ∀ a x, Keeps a x → Keeps a (f x)) (hk : Keeps a0 s) :
    Keeps a0 (mailboxRun s i f) := by
  unfold mailboxRun
  iterate 40 all_goals first | with_reducible assumption | with_reducible apply hf | with_reducible apply Keeps.ite

theorem mailboxReply_keeps {a0 : State} (s : State) (i : Nat) (code : Nat) (payload : List Byte) (hk : Keeps a0 s) :
    Keeps a0 (mailboxReply s i code payload) := by
  unfold mailboxReply
  iterate 40 all_goals first | with_reducible assumption | with_reducible apply emit_keeps

theorem vendorRun_keeps {a0 : State} (s : State) (i : Nat) (op : Nat) (f : State → State) (hf : ∀ a x, Keeps a x → Keeps a (f x)) (hk : Keeps a0 s) :
    Keeps a0 (vendorRun s i op f) := by
  unfold vendorRun
  iterate 40 all_goals first
    | intro _ | with_reducible assumption | with_reducible apply hf | with_reducible apply mailboxRun_keeps
    | with_reducible apply mailboxReply_keeps | with_reducible apply Keeps.ite

theorem submit_keeps {a0 : State} (s : State) (i : Nat) (k : Nat) (descs : List (List Byte)) (hk : Keeps a0 s) :
    Keeps a0 (submit s i k descs) := by
  unfold submit
  iterate 40 all_goals first
    | intro _ | with_reducible assumption | with_reducible apply setRing_keeps | with_reducible apply raiseExt_keeps
    | with_reducible apply mailboxReply_keeps | with_reducible apply completeUnserved_keeps | with_reducible apply Keeps.ite
    | with_reducible apply Keeps.foldl

theorem ackNotices_keeps {a0 : State} (s : State) (i : Nat) (seq : Nat) (hk : Keeps a0 s) :
    Keeps a0 (ackNotices s i seq) := by
  unfold ackNotices
  iterate 40 all_goals first | with_reducible assumption | with_reducible apply wr_keeps | with_reducible apply setInst_keeps

theorem takeCompletions_keeps {a0 : State} (s : State) (i : Nat) (mask : Nat) (l : List Nat) (left : Nat) (hk : Keeps a0 s) :
    KeepsP a0 (takeCompletions s i mask l left) := by
  induction l generalizing s i mask left with
  | nil =>
    unfold takeCompletions
    first
      | exact hk
      | exact KeepsP.mk' hk
  | cons w t ih =>
    unfold takeCompletions
    iterate 40 all_goals first
      | with_reducible assumption | with_reducible apply ih | with_reducible apply setInst_keeps | with_reducible apply Keeps.ite
      | fail_if_no_progress (with_reducible apply KeepsP.mk' <;> try with_reducible apply KeepsP.fst)

theorem nearTierCommand_keeps {a0 : State} (s : State) (t : Nat) (v : Nat) (hk : Keeps a0 s) :
    KeepsP a0 (nearTierCommand s t v) := by
  unfold nearTierCommand
  iterate 40 all_goals first
    | with_reducible assumption | with_reducible apply nearTierWrite_keeps | with_reducible apply trimFrames_keeps
    | fail_if_no_progress (with_reducible apply KeepsP.mk' <;> try with_reducible apply KeepsP.fst) | with_reducible apply KeepsP.fst

theorem retireWrite_keeps {a0 : State} (s : State) (t : Nat) (v : Nat) (hk : Keeps a0 s) :
    KeepsP a0 (retireWrite s t v) := by
  unfold retireWrite
  iterate 40 all_goals first
    | with_reducible assumption | with_reducible apply cmdDone_keeps | with_reducible apply failChannel_keeps | with_reducible apply KeepsP.ite
    | fail_if_no_progress (with_reducible apply KeepsP.mk' <;> try with_reducible apply KeepsP.fst)

theorem grantCommand_keeps {a0 : State} (s : State) (v : List Byte) (hk : Keeps a0 s) :
    KeepsP a0 (grantCommand s v) := by
  unfold grantCommand
  iterate 40 all_goals first
    | with_reducible assumption | with_reducible apply grantWrite_keeps | with_reducible apply abortTest_keeps | with_reducible apply KeepsP.ite
    | fail_if_no_progress (with_reducible apply KeepsP.mk' <;> try with_reducible apply KeepsP.fst) | with_reducible apply KeepsP.fst

theorem startReleaseRbi_keeps {a0 : State} (s : State) (e : Nat) (hk : Keeps a0 s) :
    Keeps a0 (startReleaseRbi s e) := by
  unfold startReleaseRbi
  iterate 40 all_goals first
    | with_reducible assumption | with_reducible apply setExt_keeps | with_reducible apply startRbi_keeps | with_reducible apply Keeps.ite

theorem rowErrors_keeps {a0 : State} (s : State) (t : Nat) (hk : Keeps a0 s) :
    Keeps a0 (rowErrors s t) := by
  unfold rowErrors
  iterate 40 all_goals first
    | with_reducible assumption | with_reducible apply largeEvent_keeps | with_reducible apply bump_keeps | with_reducible apply freeNext_keeps

theorem scrubTarget_keeps {a0 : State} (s : State) (t : Nat) (b : Nat) (hk : Keeps a0 s) :
    Keeps a0 (scrubTarget s t b) := by
  unfold scrubTarget
  iterate 40 all_goals first
    | with_reducible assumption | with_reducible apply gateRange_keeps | with_reducible apply systemTraffic_keeps
    | with_reducible apply scrubBlock_keeps | with_reducible apply largeEvent_keeps | with_reducible apply Keeps.ite
    | with_reducible apply KeepsP.ite | with_reducible apply KeepsP.fst

theorem finishRecolour_keeps {a0 : State} (s : State) (i : Nat) (off : Nat) (n : Nat) (c : Nat) (hk : Keeps a0 s) :
    Keeps a0 (finishRecolour s i off n c) := by
  unfold finishRecolour
  iterate 40 all_goals first
    | with_reducible assumption | with_reducible apply applyRecolour_keeps | with_reducible apply movesClosed_keeps
    | with_reducible apply cmdEnd_keeps | with_reducible apply Keeps.ite

theorem recolourWrite_keeps {a0 : State} (s : State) (v : List Byte) (hk : Keeps a0 s) :
    KeepsP a0 (recolourWrite s v) := by
  unfold recolourWrite
  iterate 40 all_goals first
    | with_reducible assumption | with_reducible apply cmdDone_keeps | with_reducible apply cmdStart_keeps | with_reducible apply startRbi_keeps
    | with_reducible apply finishRecolour_keeps | with_reducible apply KeepsP.ite
    | fail_if_no_progress (with_reducible apply KeepsP.mk' <;> try with_reducible apply KeepsP.fst)

theorem finishRelease_keeps {a0 : State} (s : State) (e : Nat) (hk : Keeps a0 s) :
    Keeps a0 (finishRelease s e) := by
  unfold finishRelease
  iterate 40 all_goals first
    | with_reducible assumption | with_reducible apply dropRange_keeps | with_reducible apply abandonWhere_keeps
    | with_reducible apply lostReturns_keeps | with_reducible apply runMoves_keeps | with_reducible apply releaseBlocks_keeps
    | with_reducible apply Keeps.ite

theorem rbiDone_keeps {a0 : State} (s : State) (x : RbiFor) (hk : Keeps a0 s) :
    Keeps a0 (rbiDone s x) := by
  unfold rbiDone
  iterate 40 all_goals first
    | with_reducible assumption | with_reducible apply finishRelease_keeps | with_reducible apply finishRecolour_keeps
    | with_reducible apply recallDone_keeps | with_reducible apply unbound_keeps | split

theorem attestWrite_keeps {a0 : State} (s : State) (p : Nat) (hk : Keeps a0 s) :
    KeepsP a0 (attestWrite s p) := by
  unfold attestWrite
  iterate 40 all_goals first
    | with_reducible assumption | with_reducible apply cmdStart_keeps | with_reducible apply KeepsP.ite
    | fail_if_no_progress (with_reducible apply KeepsP.mk' <;> try with_reducible apply KeepsP.fst)

theorem spdmSay_keeps {a0 : State} (s : State) (p : Nat) (code : Nat) (body : List Byte) (hk : Keeps a0 s) :
    Keeps a0 (spdmSay s p code body) := by
  unfold spdmSay
  iterate 40 all_goals first | with_reducible assumption | with_reducible apply emit_keeps

theorem spdmError_keeps {a0 : State} (s : State) (p : Nat) (why : Nat) (hk : Keeps a0 s) :
    Keeps a0 (spdmError s p why) := by
  unfold spdmError
  iterate 40 all_goals first | with_reducible assumption | with_reducible apply spdmSay_keeps

theorem spdmAsk_keeps {a0 : State} (s : State) (p : Nat) (phase : Nat) (f : State → State) (hf : ∀ a x, Keeps a x → Keeps a (f x)) (hk : Keeps a0 s) :
    Keeps a0 (spdmAsk s p phase f) := by
  unfold spdmAsk
  iterate 40 all_goals first
    | with_reducible assumption | with_reducible apply hf | with_reducible apply spdmError_keeps | with_reducible apply Keeps.ite

theorem ideAsk_keeps {a0 : State} (s : State) (p : Nat) (i : Nat) (f : State → State) (hf : ∀ a x, Keeps a x → Keeps a (f x)) (hk : Keeps a0 s) :
    Keeps a0 (ideAsk s p i f) := by
  unfold ideAsk
  iterate 40 all_goals first
    | intro _ | with_reducible assumption | with_reducible apply hf | with_reducible apply spdmAsk_keeps | with_reducible apply spdmError_keeps
    | with_reducible apply Keeps.ite

theorem showIde_keeps {a0 : State} (s : State) (p : Nat) (hk : Keeps a0 s) :
    Keeps a0 (showIde s p) := by
  unfold showIde
  iterate 40 all_goals first | with_reducible assumption | with_reducible apply wr_keeps

theorem setSpdm_keeps {a0 : State} (s : State) (p : Nat) (v : SpdmSt) (hk : Keeps a0 s) :
    Keeps a0 (setSpdm s p v) := by
  unfold setSpdm
  iterate 40 all_goals first | with_reducible assumption | fail_if_no_progress (with_reducible refine Keeps.lit rfl rfl rfl rfl rfl rfl rfl rfl ?_)

theorem secureStream_keeps {a0 : State} (s : State) (p : Nat) (stream : Nat) (keySet : Nat) (hk : Keeps a0 s) :
    Keeps a0 (secureStream s p stream keySet) := by
  unfold secureStream
  iterate 40 all_goals first | with_reducible assumption | with_reducible apply showIde_keeps | with_reducible apply setSpdm_keeps

theorem keySetGoIn_keeps {a0 : State} (s : State) (p : Nat) (stream : Nat) (keySet : Bool) (hk : Keeps a0 s) :
    Keeps a0 (keySetGoIn s p stream keySet) := by
  unfold keySetGoIn
  iterate 40 all_goals first
    | with_reducible assumption | with_reducible apply spdmSay_keeps | with_reducible apply secureStream_keeps
    | with_reducible apply spdmError_keeps | with_reducible apply Keeps.ite

theorem countSessions_keeps {a0 : State} (s : State) (p : Nat) (hk : Keeps a0 s) :
    Keeps a0 (countSessions s p) := by
  unfold countSessions
  iterate 40 all_goals first | with_reducible assumption | with_reducible apply wr_keeps

theorem spdmEndIn_keeps {a0 : State} (s : State) (p : Nat) (i : Nat) (hk : Keeps a0 s) :
    Keeps a0 (spdmEndIn s p i) := by
  unfold spdmEndIn
  iterate 40 all_goals first
    | with_reducible assumption | with_reducible apply spdmError_keeps | with_reducible apply spdmSay_keeps
    | with_reducible apply countSessions_keeps | with_reducible apply setSpdm_keeps | with_reducible apply Keeps.ite

theorem spdmFinishIn_keeps {a0 : State} (s : State) (p : Nat) (i : Nat) (mac : List Byte) (hk : Keeps a0 s) :
    Keeps a0 (spdmFinishIn s p i mac) := by
  unfold spdmFinishIn
  iterate 40 all_goals first
    | with_reducible assumption | with_reducible apply spdmError_keeps | with_reducible apply spdmSay_keeps
    | with_reducible apply countSessions_keeps | with_reducible apply setSpdm_keeps | with_reducible apply Keeps.ite

theorem spdmChallengeIn_keeps {a0 : State} (s : State) (p : Nat) (slot : Nat) (nonce : List Byte) (hk : Keeps a0 s) :
    Keeps a0 (spdmChallengeIn s p slot nonce) := by
  unfold spdmChallengeIn
  iterate 40 all_goals first
    | with_reducible assumption | with_reducible apply spdmError_keeps | with_reducible apply spdmSay_keeps | with_reducible apply freeNext_keeps
    | with_reducible apply Keeps.ite

theorem refreshStream_keeps {a0 : State} (s : State) (p : Nat) (stream : Nat) (keySet : Nat) (hk : Keeps a0 s) :
    Keeps a0 (refreshStream s p stream keySet) := by
  unfold refreshStream
  iterate 40 all_goals first
    | with_reducible assumption | with_reducible apply setSpdm_keeps | with_reducible apply freeNext_keeps | with_reducible apply bump_keeps
    | with_reducible apply secureStream_keeps

theorem ideRefresh_keeps {a0 : State} (s : State) (p : Nat) (hk : Keeps a0 s) :
    Keeps a0 (ideRefresh s p) := by
  unfold ideRefresh
  iterate 40 all_goals first
    | intro _ | with_reducible assumption | with_reducible apply refreshStream_keeps | with_reducible apply Keeps.ite
    | with_reducible apply Keeps.foldl

theorem keyProgIn_keeps {a0 : State} (s : State) (p : Nat) (stream : Nat) (keySet : Bool) (key : List Byte) (hk : Keeps a0 s) :
    Keeps a0 (keyProgIn s p stream keySet key) := by
  unfold keyProgIn
  iterate 40 all_goals first
    | with_reducible assumption | with_reducible apply spdmError_keeps | with_reducible apply setSpdm_keeps | with_reducible apply spdmSay_keeps
    | with_reducible apply bump_keeps | with_reducible apply Keeps.ite

theorem spdmPhase_keeps {a0 : State} (s : State) (p : Nat) (n : Nat) (hk : Keeps a0 s) :
    Keeps a0 (spdmPhase s p n) := by
  unfold spdmPhase
  iterate 40 all_goals first | with_reducible assumption | with_reducible apply setSpdm_keeps

theorem attestEnd_keeps {a0 : State} (s : State) (p : Nat) (err : Nat) (hk : Keeps a0 s) :
    Keeps a0 (attestEnd s p err) := by
  unfold attestEnd
  iterate 40 all_goals first
    | with_reducible assumption | with_reducible apply wrBlob_keeps | with_reducible apply freeNext_keeps | with_reducible apply cmdEnd_keeps
    | with_reducible apply wr_keeps | with_reducible apply Keeps.ite

theorem spdmExchangeIn_keeps {a0 : State} (s : State) (p : Nat) (req : List Byte) (hk : Keeps a0 s) :
    Keeps a0 (spdmExchangeIn s p req) := by
  unfold spdmExchangeIn
  iterate 40 all_goals first
    | with_reducible assumption | with_reducible apply spdmError_keeps | with_reducible apply spdmSay_keeps | with_reducible apply freeNext_keeps
    | with_reducible apply setSpdm_keeps | dsimp only | split

theorem spdmCertificateIn_keeps {a0 : State} (s : State) (p : Nat) (slot : Nat) (off : Nat) (n : Nat) (hk : Keeps a0 s) :
    Keeps a0 (spdmCertificateIn s p slot off n) := by
  unfold spdmCertificateIn
  iterate 40 all_goals first
    | with_reducible assumption | with_reducible apply spdmError_keeps | with_reducible apply spdmSay_keeps | with_reducible apply Keeps.ite

theorem ideFailure_keeps {a0 : State} (s : State) (p : Nat) (stream : Nat) (hk : Keeps a0 s) :
    Keeps a0 (ideFailure s p stream) := by
  unfold ideFailure
  iterate 40 all_goals first
    | with_reducible assumption | with_reducible apply bump_keeps | with_reducible apply setSpdm_keeps | with_reducible apply portDown_keeps
    | with_reducible apply raise_keeps | with_reducible apply wr_keeps | with_reducible apply freeNext_keeps | with_reducible apply Keeps.ite

theorem spdmMeasureIn_keeps {a0 : State} (s : State) (p : Nat) (op : Nat) (nonce : List Byte) (hk : Keeps a0 s) :
    Keeps a0 (spdmMeasureIn s p op nonce) := by
  unfold spdmMeasureIn
  iterate 40 all_goals first
    | with_reducible assumption | with_reducible apply spdmSay_keeps | with_reducible apply spdmError_keeps | with_reducible apply freeNext_keeps
    | with_reducible apply Keeps.ite

theorem setCfgSlot_keeps {a0 : State} (s : State) (n : Nat) (v : CfgSlot) (hk : Keeps a0 s) :
    Keeps a0 (setCfgSlot s n v) := by
  unfold setCfgSlot
  iterate 40 all_goals first
    | with_reducible assumption | with_reducible apply Keeps.ite
    | fail_if_no_progress (with_reducible refine Keeps.lit rfl rfl rfl rfl rfl rfl rfl rfl ?_)

theorem recordRefusal_keeps {a0 : State} (s : State) (reason : Nat) (hk : Keeps a0 s) :
    Keeps a0 (recordRefusal s reason) := by
  unfold recordRefusal
  iterate 40 all_goals first | with_reducible assumption | with_reducible apply wr_keeps

theorem drainLines_keeps {a0 : State} (s : State) (hk : Keeps a0 s) :
    Keeps a0 (drainLines s) := by
  unfold drainLines
  iterate 40 all_goals first
    | intro _ | with_reducible assumption | with_reducible apply resume_keeps | with_reducible apply startEviction_keeps
    | with_reducible apply Keeps.ite | with_reducible apply Keeps.foldl

theorem startTransition_keeps {a0 : State} (s : State) (v : Nat) (hk : Keeps a0 s) :
    Keeps a0 (startTransition s v) := by
  unfold startTransition
  iterate 40 all_goals first
    | with_reducible assumption | with_reducible apply cmdStart_keeps | with_reducible apply wr_keeps | with_reducible apply drainLines_keeps
    | with_reducible apply movesService_keeps | with_reducible apply Keeps.ite
    | fail_if_no_progress (with_reducible refine Keeps.lit rfl rfl rfl rfl rfl rfl rfl rfl ?_)

theorem targetModeWrite_keeps {a0 : State} (s : State) (v : Nat) (hk : Keeps a0 s) :
    KeepsP a0 (targetModeWrite s v) := by
  unfold targetModeWrite
  iterate 40 all_goals first
    | with_reducible assumption | with_reducible apply recordRefusal_keeps | with_reducible apply startTransition_keeps
    | with_reducible apply KeepsP.ite | fail_if_no_progress (with_reducible apply KeepsP.mk' <;> try with_reducible apply KeepsP.fst)

theorem deviceResetWrite_keeps {a0 : State} (s : State) (v : Nat) (hk : Keeps a0 s) :
    KeepsP a0 (deviceResetWrite s v) := by
  unfold deviceResetWrite
  iterate 40 all_goals first
    | with_reducible assumption | with_reducible apply cmdStart_keeps | with_reducible apply KeepsP.ite
    | fail_if_no_progress (with_reducible apply KeepsP.mk' <;> try with_reducible apply KeepsP.fst)
    | fail_if_no_progress (with_reducible refine Keeps.lit rfl rfl rfl rfl rfl rfl rfl rfl ?_)

theorem installWrite_keeps {a0 : State} (s : State) (hk : Keeps a0 s) :
    KeepsP a0 (installWrite s) := by
  unfold installWrite
  iterate 40 all_goals first
    | with_reducible assumption | with_reducible apply wr_keeps | with_reducible apply cmdDone_keeps | with_reducible apply raise_keeps
    | with_reducible apply cmdStart_keeps | with_reducible apply KeepsP.ite
    | fail_if_no_progress (with_reducible apply KeepsP.mk' <;> try with_reducible apply KeepsP.fst)
    | fail_if_no_progress (with_reducible refine Keeps.lit rfl rfl rfl rfl rfl rfl rfl rfl ?_)

theorem cfgActivateWrite_keeps {a0 : State} (s : State) (hk : Keeps a0 s) :
    KeepsP a0 (cfgActivateWrite s) := by
  unfold cfgActivateWrite
  iterate 40 all_goals first
    | with_reducible assumption | with_reducible apply cmdStart_keeps | with_reducible apply KeepsP.ite
    | fail_if_no_progress (with_reducible apply KeepsP.mk' <;> try with_reducible apply KeepsP.fst)

theorem commitWrite_keeps {a0 : State} (s : State) (hk : Keeps a0 s) :
    KeepsP a0 (commitWrite s) := by
  unfold commitWrite
  iterate 40 all_goals first
    | with_reducible assumption | with_reducible apply cmdDone_keeps | with_reducible apply setCfgSlot_keeps | with_reducible apply cmdStart_keeps
    | with_reducible apply KeepsP.ite | fail_if_no_progress (with_reducible apply KeepsP.mk' <;> try with_reducible apply KeepsP.fst)

theorem clearDeltaWrite_keeps {a0 : State} (s : State) (hk : Keeps a0 s) :
    KeepsP a0 (clearDeltaWrite s) := by
  unfold clearDeltaWrite
  iterate 40 all_goals first
    | with_reducible assumption | with_reducible apply cmdDone_keeps | with_reducible apply cmdStart_keeps | with_reducible apply KeepsP.ite
    | fail_if_no_progress (with_reducible apply KeepsP.mk' <;> try with_reducible apply KeepsP.fst)

theorem refreshDelta_keeps {a0 : State} (s : State) (hk : Keeps a0 s) :
    Keeps a0 (refreshDelta s) := by
  unfold refreshDelta
  iterate 40 all_goals first | with_reducible assumption | fail_if_no_progress (with_reducible refine Keeps.lit rfl rfl rfl rfl rfl rfl rfl rfl ?_)

theorem commitEnd_keeps {a0 : State} (s : State) (err : Nat) (hk : Keeps a0 s) :
    Keeps a0 (commitEnd s err) := by
  unfold commitEnd
  iterate 40 all_goals first
    | with_reducible assumption | with_reducible apply cmdEnd_keeps | with_reducible apply refreshDelta_keeps
    | with_reducible apply setCfgSlot_keeps | with_reducible apply Keeps.ite

theorem clearDeltaEnd_keeps {a0 : State} (s : State) (err : Nat) (hk : Keeps a0 s) :
    Keeps a0 (clearDeltaEnd s err) := by
  unfold clearDeltaEnd
  iterate 40 all_goals first
    | with_reducible assumption | with_reducible apply cmdEnd_keeps | with_reducible apply refreshDelta_keeps
    | with_reducible apply setCfgSlot_keeps | with_reducible apply Keeps.ite

theorem installEnd_keeps {a0 : State} (s : State) (err : Nat) (hk : Keeps a0 s) :
    Keeps a0 (installEnd s err) := by
  unfold installEnd
  iterate 40 all_goals first
    | with_reducible assumption | with_reducible apply cmdEnd_keeps | with_reducible apply setCfgSlot_keeps
    | fail_if_no_progress (with_reducible refine Keeps.lit rfl rfl rfl rfl rfl rfl rfl rfl ?_) | split

end Sys2Proof.Machine
end

