-- ==== Sys2Proof/Laws/Keeps10.lean ====
section
/-!
SUPPORT. What the operations of Machine/SlotOps.lean, Machine/Strandline.lean, Machine/Dictionary.lean, Machine/TransOps.lean
leave alone: each keeps the queue, every output already made, and the canonical forms (Safety.lean's Keeps).
-/
namespace Sys2Proof.Machine

open Sys2Proof

set_option linter.unusedTactic false
set_option linter.unreachableTactic false
set_option linter.unnecessarySeqFocus false

theorem setSlot_keeps {a0 : State} (s : State) (n : Nat) (v : SlotSt) (hk : Keeps a0 s) :
    Keeps a0 (setSlot s n v) := by
  unfold setSlot
  iterate 40 all_goals first | with_reducible assumption | fail_if_no_progress (with_reducible refine Keeps.lit rfl rfl rfl rfl rfl rfl rfl rfl ?_)

theorem slotPortDown_keeps {a0 : State} (s : State) (ordered : Bool) (p : Nat) (hk : Keeps a0 s) :
    Keeps a0 (slotPortDown s ordered p) := by
  unfold slotPortDown
  iterate 40 all_goals first
    | with_reducible assumption | with_reducible apply portDown_keeps | with_reducible apply wr_keeps | with_reducible apply targetLost_keeps
    | with_reducible apply Keeps.ite

theorem moveSlot_keeps {a0 : State} (s : State) (n : Nat) (v : Nat) (ordered : Bool) (hk : Keeps a0 s) :
    Keeps a0 (moveSlot s n v ordered) := by
  unfold moveSlot
  iterate 40 all_goals first
    | intro _ | with_reducible assumption | with_reducible apply wr_keeps | with_reducible apply endLevel_keeps | with_reducible apply setSlot_keeps
    | with_reducible apply slotPortDown_keeps | with_reducible apply Keeps.ite | with_reducible apply Keeps.foldl

theorem fetModelWrite_keeps {a0 : State} (s : State) (n : Nat) (v : List Byte) (hk : Keeps a0 s) :
    KeepsP a0 (fetModelWrite s n v) := by
  unfold fetModelWrite
  iterate 40 all_goals first
    | with_reducible assumption | with_reducible apply wrBlob_keeps | with_reducible apply KeepsP.ite
    | fail_if_no_progress (with_reducible apply KeepsP.mk' <;> try with_reducible apply KeepsP.fst)

theorem stopSlot_keeps {a0 : State} (s : State) (n : Nat) (ordered : Bool) (hk : Keeps a0 s) :
    Keeps a0 (stopSlot s n ordered) := by
  unfold stopSlot
  iterate 40 all_goals first | with_reducible assumption | with_reducible apply moveSlot_keeps | with_reducible apply setSlot_keeps

theorem slotOff_keeps {a0 : State} (s0 : State) (n : Nat) (ordered : Bool) (hk : Keeps a0 s0) :
    Keeps a0 (slotOff s0 n ordered) := by
  unfold slotOff
  iterate 40 all_goals first
    | with_reducible assumption | with_reducible apply wr_keeps | with_reducible apply stopSlot_keeps | with_reducible apply moveSlot_keeps
    | with_reducible apply setSlot_keeps | with_reducible apply Keeps.ite

theorem tryStart_keeps {a0 : State} (s : State) (n : Nat) (hk : Keeps a0 s) :
    Keeps a0 (tryStart s n) := by
  unfold tryStart
  iterate 40 all_goals first | with_reducible assumption | with_reducible apply wr_keeps | with_reducible apply Keeps.ite

theorem untrip_keeps {a0 : State} (s : State) (n : Nat) (hk : Keeps a0 s) :
    Keeps a0 (untrip s n) := by
  unfold untrip
  iterate 40 all_goals first
    | with_reducible assumption | with_reducible apply tryStart_keeps | with_reducible apply setSlot_keeps | with_reducible apply wr_keeps

theorem slotTargetWrite_keeps {a0 : State} (s : State) (n : Nat) (v : Nat) (ordered : Bool) (hk : Keeps a0 s) :
    KeepsP a0 (slotTargetWrite s n v ordered) := by
  unfold slotTargetWrite
  iterate 40 all_goals first
    | with_reducible assumption | with_reducible apply slotOff_keeps | with_reducible apply wr_keeps | with_reducible apply untrip_keeps
    | with_reducible apply tryStart_keeps | with_reducible apply KeepsP.ite
    | fail_if_no_progress (with_reducible apply KeepsP.mk' <;> try with_reducible apply KeepsP.fst)

theorem slotWrite_keeps {a0 : State} (s : State) (sub : Nat) (n : Nat) (v : Nat) (hk : Keeps a0 s) :
    KeepsP a0 (slotWrite s sub n v) := by
  unfold slotWrite
  iterate 40 all_goals first
    | with_reducible assumption | with_reducible apply wr_keeps | with_reducible apply KeepsP.ite
    | fail_if_no_progress (with_reducible apply KeepsP.mk' <;> try with_reducible apply KeepsP.fst)

theorem warnSlot_keeps {a0 : State} (s : State) (n : Nat) (hk : Keeps a0 s) :
    Keeps a0 (warnSlot s n) := by
  unfold warnSlot
  iterate 40 all_goals first
    | with_reducible assumption | with_reducible apply setSlot_keeps | with_reducible apply bump_keeps | with_reducible apply hldWake_keeps
    | with_reducible apply raise_keeps | with_reducible apply Keeps.ite

theorem diodeSeen_keeps {a0 : State} (s : State) (n : Nat) (d : Diode) (hk : Keeps a0 s) :
    Keeps a0 (diodeSeen s n d) := by
  unfold diodeSeen
  iterate 40 all_goals first
    | with_reducible assumption | with_reducible apply wr_keeps | with_reducible apply raise_keeps | with_reducible apply endLevel_keeps
    | with_reducible apply Keeps.ite

theorem slotEnRises_keeps {a0 : State} (s : State) (n : Nat) (long : Bool) (hk : Keeps a0 s) :
    Keeps a0 (slotEnRises s n long) := by
  unfold slotEnRises
  iterate 40 all_goals first
    | with_reducible assumption | with_reducible apply setSlot_keeps | with_reducible apply wr_keeps | with_reducible apply hldWake_keeps
    | with_reducible apply untrip_keeps | with_reducible apply tryStart_keeps | with_reducible apply Keeps.ite

theorem tripSlot_keeps {a0 : State} (s : State) (n : Nat) (kind : Nat) (hk : Keeps a0 s) :
    Keeps a0 (tripSlot s n kind) := by
  unfold tripSlot
  iterate 40 all_goals first
    | with_reducible assumption | with_reducible apply bump_keeps | with_reducible apply wr_keeps | with_reducible apply moveSlot_keeps
    | with_reducible apply setSlot_keeps | with_reducible apply hldWake_keeps | with_reducible apply raiseEv_keeps

theorem tripOn_keeps {a0 : State} (s : State) (n : Nat) (kind : Nat) (hk : Keeps a0 s) :
    Keeps a0 (tripOn s n kind) := by
  unfold tripOn
  iterate 40 all_goals first | with_reducible assumption | with_reducible apply tripSlot_keeps | with_reducible apply Keeps.ite

theorem powerControl_keeps {a0 : State} (s : State) (p : Nat) (on : Bool) (hk : Keeps a0 s) :
    Keeps a0 (powerControl s p on) := by
  unfold powerControl
  iterate 40 all_goals first
    | with_reducible assumption | with_reducible apply slotTargetWrite_keeps | with_reducible apply Keeps.ite | with_reducible apply KeepsP.fst

theorem slotSeesVin_keeps {a0 : State} (s : State) (n : Nat) (vin : Nat) (hk : Keeps a0 s) :
    Keeps a0 (slotSeesVin s n vin) := by
  unfold slotSeesVin
  iterate 40 all_goals first | with_reducible assumption | with_reducible apply wrBlob_keeps

theorem channelsDisagree_keeps {a0 : State} (s : State) (n : Nat) (a : Int) (b : Int) (hk : Keeps a0 s) :
    Keeps a0 (channelsDisagree s n a b) := by
  unfold channelsDisagree
  iterate 40 all_goals first
    | with_reducible assumption | with_reducible apply wrBlob_keeps | with_reducible apply hldWake_keeps | with_reducible apply raise_keeps
    | with_reducible apply setSlot_keeps | with_reducible apply Keeps.ite

theorem limitTrips_keeps {a0 : State} (s : State) (n : Nat) (ia : Int) (ib : Int) (hk : Keeps a0 s) :
    Keeps a0 (limitTrips s n ia ib) := by
  unfold limitTrips
  iterate 40 all_goals first | with_reducible assumption | with_reducible apply tripSlot_keeps | with_reducible apply Keeps.ite

theorem inputStop_keeps {a0 : State} (s : State) (n : Nat) (k : LossKind) (hk : Keeps a0 s) :
    Keeps a0 (inputStop s n k) := by
  unfold inputStop
  iterate 40 all_goals first
    | with_reducible assumption | with_reducible apply warnSlot_keeps | with_reducible apply hldWake_keeps | with_reducible apply stopSlot_keeps
    | with_reducible apply bump_keeps | with_reducible apply Keeps.ite

theorem checkChannels_keeps {a0 : State} (s : State) (n : Nat) (aGood : Bool) (bGood : Bool) (hk : Keeps a0 s) :
    Keeps a0 (checkChannels s n aGood bGood) := by
  unfold checkChannels
  iterate 40 all_goals first
    | with_reducible assumption | with_reducible apply wr_keeps | with_reducible apply tripSlot_keeps | with_reducible apply hldWake_keeps
    | with_reducible apply raise_keeps | with_reducible apply Keeps.ite

theorem measureSlot_keeps {a0 : State} (s : State) (n : Nat) (m : Meas) (hk : Keeps a0 s) :
    Keeps a0 (measureSlot s n m) := by
  unfold measureSlot
  iterate 40 all_goals first
    | with_reducible assumption | with_reducible apply diodeSeen_keeps | with_reducible apply wrBlob_keeps | with_reducible apply setSlot_keeps
    | with_reducible apply tryStart_keeps | with_reducible apply limitTrips_keeps | with_reducible apply wr_keeps

theorem slotEnFalls_keeps {a0 : State} (s : State) (n : Nat) (hk : Keeps a0 s) :
    Keeps a0 (slotEnFalls s n) := by
  unfold slotEnFalls
  iterate 40 all_goals first
    | with_reducible assumption | with_reducible apply setSlot_keeps | with_reducible apply wr_keeps | with_reducible apply hldWake_keeps
    | with_reducible apply stopSlot_keeps | with_reducible apply Keeps.ite

theorem slotGood_keeps {a0 : State} (s : State) (n : Nat) (energy : Nat) (hk : Keeps a0 s) :
    Keeps a0 (slotGood s n energy) := by
  unfold slotGood
  iterate 40 all_goals first
    | with_reducible assumption | with_reducible apply moveSlot_keeps | with_reducible apply wrBlob_keeps | with_reducible apply Keeps.ite

theorem unwarnSlot_keeps {a0 : State} (s : State) (n : Nat) (hk : Keeps a0 s) :
    Keeps a0 (unwarnSlot s n) := by
  unfold unwarnSlot
  iterate 40 all_goals first
    | with_reducible assumption | with_reducible apply endLevel_keeps | with_reducible apply setSlot_keeps | with_reducible apply Keeps.ite

theorem faultClearWrite_keeps {a0 : State} (s : State) (src : Nat) (mask : Nat) (same : Option CauseOcc) (hk : Keeps a0 s) :
    KeepsP a0 (faultClearWrite s src mask same) := by
  unfold faultClearWrite
  iterate 40 all_goals first
    | with_reducible assumption | with_reducible apply cmdEnd_keeps | with_reducible apply clearSame_keeps | with_reducible apply cmdStart_keeps
    | fail_if_no_progress (with_reducible apply KeepsP.mk' <;> try with_reducible apply KeepsP.fst)

theorem faultClearAllWrite_keeps {a0 : State} (s : State) (hk : Keeps a0 s) :
    KeepsP a0 (faultClearAllWrite s) := by
  unfold faultClearAllWrite
  iterate 40 all_goals first
    | with_reducible assumption | with_reducible apply cmdEnd_keeps | with_reducible apply clearAllSources_keeps
    | with_reducible apply cmdStart_keeps | fail_if_no_progress (with_reducible apply KeepsP.mk' <;> try with_reducible apply KeepsP.fst)

theorem strandEraseWrite_keeps {a0 : State} (s : State) (hk : Keeps a0 s) :
    KeepsP a0 (strandEraseWrite s) := by
  unfold strandEraseWrite
  iterate 40 all_goals first
    | with_reducible assumption | with_reducible apply eraseStore_keeps
    | fail_if_no_progress (with_reducible apply KeepsP.mk' <;> try with_reducible apply KeepsP.fst)

theorem retryStoreWrite_keeps {a0 : State} (s : State) (answers : Bool) (hk : Keeps a0 s) :
    KeepsP a0 (retryStoreWrite s answers) := by
  unfold retryStoreWrite
  iterate 40 all_goals first
    | with_reducible assumption | with_reducible apply retryStore_keeps
    | fail_if_no_progress (with_reducible apply KeepsP.mk' <;> try with_reducible apply KeepsP.fst)

theorem coreCritical_keeps {a0 : State} (s : State) (src : Nat) (sev : Severity) (hk : Keeps a0 s) :
    Keeps a0 (coreCritical s src sev) := by
  unfold coreCritical
  iterate 40 all_goals first | with_reducible assumption | with_reducible apply forceOff_keeps | with_reducible apply Keeps.ite

theorem write4_keeps {a0 : State} (s : State) (idx : Nat) (sub : Nat) (q : Nat) (v : List Byte) (hk : Keeps a0 s) :
    KeepsP a0 (write4 s idx sub q v) := by
  unfold write4
  iterate 40 all_goals first
    | with_reducible assumption | with_reducible apply targetPoolWrite_keeps | with_reducible apply nearTierCommand_keeps
    | with_reducible apply retireWrite_keeps | with_reducible apply releaseWrite_keeps | with_reducible apply grantCommand_keeps
    | with_reducible apply clearCaptureWrite_keeps | with_reducible apply wr_keeps | with_reducible apply recolourWrite_keeps
    | with_reducible apply queryWrite_keeps | with_reducible apply keySetWrite_keeps | with_reducible apply KeepsP.ite
    | fail_if_no_progress (with_reducible apply KeepsP.mk' <;> try with_reducible apply KeepsP.fst)

theorem plainRecs_keeps {a0 : State} (s : State) (idx : Nat) (sub : Nat) (q : Nat) (start : Nat) (recs : List Nat) (hk : Keeps a0 s) :
    Keeps a0 (plainRecs s idx sub q start recs) := by
  unfold plainRecs
  iterate 40 all_goals first | intro _ | with_reducible assumption | with_reducible apply wrTbl_keeps | with_reducible apply Keeps.foldl

theorem dcWrite_keeps {a0 : State} (s : State) (start : Nat) (recs : List Nat) (hk : Keeps a0 s) :
    KeepsP a0 (dcWrite s start recs) := by
  unfold dcWrite
  iterate 40 all_goals first
    | with_reducible assumption | with_reducible apply plainRecs_keeps | with_reducible apply KeepsP.ite
    | fail_if_no_progress (with_reducible apply KeepsP.mk' <;> try with_reducible apply KeepsP.fst)

theorem routesWrite_keeps {a0 : State} (s : State) (p : Nat) (start : Nat) (recs : List Nat) (hk : Keeps a0 s) :
    KeepsP a0 (routesWrite s p start recs) := by
  unfold routesWrite
  iterate 40 all_goals first
    | with_reducible assumption | with_reducible apply plainRecs_keeps | with_reducible apply KeepsP.ite
    | fail_if_no_progress (with_reducible apply KeepsP.mk' <;> try with_reducible apply KeepsP.fst)

theorem vcsWrite_keeps {a0 : State} (s : State) (u : Nat) (start : Nat) (recs : List Nat) (hk : Keeps a0 s) :
    KeepsP a0 (vcsWrite s u start recs) := by
  unfold vcsWrite
  iterate 40 all_goals first
    | with_reducible assumption | with_reducible apply plainRecs_keeps | with_reducible apply KeepsP.ite
    | fail_if_no_progress (with_reducible apply KeepsP.mk' <;> try with_reducible apply KeepsP.fst)

theorem proxyWrite_keeps {a0 : State} (s : State) (start : Nat) (recs : List Nat) (hk : Keeps a0 s) :
    KeepsP a0 (proxyWrite s start recs) := by
  unfold proxyWrite
  iterate 40 all_goals first
    | with_reducible assumption | with_reducible apply plainRecs_keeps | with_reducible apply KeepsP.ite
    | fail_if_no_progress (with_reducible apply KeepsP.mk' <;> try with_reducible apply KeepsP.fst)

theorem controlsWrite_keeps {a0 : State} (s : State) (u : Nat) (start : Nat) (recs : List Nat) (hk : Keeps a0 s) :
    KeepsP a0 (controlsWrite s u start recs) := by
  unfold controlsWrite
  iterate 40 all_goals first
    | intro _ | with_reducible assumption | with_reducible apply controlWrite_keeps | with_reducible apply KeepsP.ite
    | fail_if_no_progress (with_reducible apply KeepsP.mk' <;> try with_reducible apply KeepsP.fst) | with_reducible apply KeepsP.fst
    | with_reducible apply KeepsP.foldl

theorem tableWrite_keeps {a0 : State} (s : State) (idx : Nat) (sub : Nat) (q : Nat) (start : Nat) (recs : List Nat) (hk : Keeps a0 s) :
    KeepsP a0 (tableWrite s idx sub q start recs) := by
  unfold tableWrite
  iterate 40 all_goals first
    | with_reducible assumption | with_reducible apply routesWrite_keeps | with_reducible apply vcsWrite_keeps
    | with_reducible apply limitsWrite_keeps | with_reducible apply pathTableWrite_keeps | with_reducible apply dcWrite_keeps
    | with_reducible apply regionsCommand_keeps | with_reducible apply decodersWrite_keeps | with_reducible apply proxyWrite_keeps
    | with_reducible apply metersWrite_keeps | with_reducible apply weightsWrite_keeps | with_reducible apply bindingsWrite_keeps
    | with_reducible apply controlsWrite_keeps | with_reducible apply plainRecs_keeps | with_reducible apply KeepsP.ite
    | fail_if_no_progress (with_reducible apply KeepsP.mk' <;> try with_reducible apply KeepsP.fst)

theorem blobWrite_keeps {a0 : State} (s : State) (idx : Nat) (q : Nat) (start : Nat) (data : List Byte) (hk : Keeps a0 s) :
    KeepsP a0 (blobWrite s idx q start data) := by
  unfold blobWrite
  iterate 40 all_goals first
    | with_reducible assumption | with_reducible apply downloadWrite_keeps | with_reducible apply shaperWrite_keeps
    | with_reducible apply fetModelWrite_keeps | with_reducible apply freeBool_keeps | with_reducible apply KeepsP.ite
    | fail_if_no_progress (with_reducible apply KeepsP.mk' <;> try with_reducible apply KeepsP.fst)
    | fail_if_no_progress (with_reducible refine Keeps.lit rfl rfl rfl rfl rfl rfl rfl rfl ?_)

theorem chunkWrite_keeps {a0 : State} (s : State) (d : ObjDesc) (q : Nat) (start : Nat) (count : Nat) (data : List Byte) (hk : Keeps a0 s) :
    KeepsP a0 (chunkWrite s d q start count data) := by
  unfold chunkWrite
  iterate 40 all_goals first
    | with_reducible assumption | with_reducible apply tableWrite_keeps | with_reducible apply blobWrite_keeps | with_reducible apply KeepsP.ite
    | fail_if_no_progress (with_reducible apply KeepsP.mk' <;> try with_reducible apply KeepsP.fst)

theorem writeChunk_keeps {a0 : State} (s : State) (r : Requester) (it : Item) (hk : Keeps a0 s) :
    KeepsP a0 (writeChunk s r it) := by
  unfold writeChunk
  iterate 40 all_goals first
    | with_reducible assumption | with_reducible apply chunkWrite_keeps | with_reducible apply settleViews_keeps
    | with_reducible apply finishWrite_keeps | fail_if_no_progress (with_reducible apply KeepsP.mk' <;> try with_reducible apply KeepsP.fst)
    | with_reducible apply KeepsP.fst | split

theorem closeSessions_keeps {a0 : State} (s : State) (t : Transport) (n : Nat) (hk : Keeps a0 s) :
    Keeps a0 (closeSessions s t n) := by
  unfold closeSessions
  iterate 40 all_goals first | with_reducible assumption | fail_if_no_progress (with_reducible refine Keeps.lit rfl rfl rfl rfl rfl rfl rfl rfl ?_)

theorem write1_keeps {a0 : State} (s : State) (idx : Nat) (sub : Nat) (v : List Byte) (hk : Keeps a0 s) :
    KeepsP a0 (write1 s idx sub v) := by
  unfold write1
  iterate 40 all_goals first
    | with_reducible assumption | with_reducible apply closeSessions_keeps | with_reducible apply wr_keeps
    | with_reducible apply targetModeWrite_keeps | with_reducible apply deviceResetWrite_keeps | with_reducible apply installWrite_keeps
    | with_reducible apply cfgActivateWrite_keeps | with_reducible apply commitWrite_keeps | with_reducible apply clearDeltaWrite_keeps
    | with_reducible apply KeepsP.ite | fail_if_no_progress (with_reducible apply KeepsP.mk' <;> try with_reducible apply KeepsP.fst)
    | fail_if_no_progress (with_reducible refine Keeps.lit rfl rfl rfl rfl rfl rfl rfl rfl ?_)

theorem roleChanges_keeps {a0 : State} (s : State) (p : Nat) (f : State → State) (hf : ∀ a x, Keeps a x → Keeps a (f x)) (hk : Keeps a0 s) :
    Keeps a0 (roleChanges s p f) := by
  unfold roleChanges
  iterate 40 all_goals first
    | with_reducible assumption | with_reducible apply hf | with_reducible apply portDown_keeps | with_reducible apply wr_keeps
    | with_reducible apply Keeps.ite

theorem roleIn_keeps {a0 : State} (s : State) (mode : Nat) (p : Nat) (v : Nat) (hk : Keeps a0 s) :
    KeepsP a0 (roleIn s mode p v) := by
  unfold roleIn
  iterate 40 all_goals first
    | intro _ | with_reducible assumption | with_reducible apply roleChanges_keeps | with_reducible apply wr_keeps | with_reducible apply KeepsP.ite
    | fail_if_no_progress (with_reducible apply KeepsP.mk' <;> try with_reducible apply KeepsP.fst)

theorem roleWrite_keeps {a0 : State} (s : State) (p : Nat) (v : Nat) (hk : Keeps a0 s) :
    KeepsP a0 (roleWrite s p v) := by
  unfold roleWrite
  iterate 40 all_goals first | with_reducible assumption | with_reducible apply roleIn_keeps

theorem writeLane_keeps {a0 : State} (s : State) (sub : Nat) (q : Nat) (n : Nat) (hk : Keeps a0 s) :
    KeepsP a0 (writeLane s sub q n) := by
  unfold writeLane
  iterate 40 all_goals first
    | with_reducible assumption | with_reducible apply testTargetWrite_keeps | with_reducible apply wr_keeps
    | with_reducible apply loopbackWrite_keeps | with_reducible apply injectWrite_keeps | with_reducible apply clearCountersWrite_keeps
    | with_reducible apply KeepsP.ite | fail_if_no_progress (with_reducible apply KeepsP.mk' <;> try with_reducible apply KeepsP.fst)

theorem shapeWrite_keeps {a0 : State} (s : State) (g : Nat) (v : Nat) (hk : Keeps a0 s) :
    KeepsP a0 (shapeWrite s g v) := by
  unfold shapeWrite
  iterate 40 all_goals first
    | intro _ | with_reducible assumption | with_reducible apply wr_keeps | with_reducible apply portDown_keeps
    | with_reducible apply shapeWritten_keeps | with_reducible apply Keeps.ite
    | fail_if_no_progress (with_reducible apply KeepsP.mk' <;> try with_reducible apply KeepsP.fst) | with_reducible apply Keeps.foldl

theorem write2_keeps {a0 : State} (s : State) (idx : Nat) (sub : Nat) (q : Nat) (n : Nat) (hk : Keeps a0 s) :
    KeepsP a0 (write2 s idx sub q n) := by
  unfold write2
  iterate 40 all_goals first
    | with_reducible assumption | with_reducible apply roleWrite_keeps | with_reducible apply portTargetWrite_keeps
    | with_reducible apply laneDirWrite_keeps | with_reducible apply writeLane_keeps | with_reducible apply quiesceWrite_keeps
    | with_reducible apply shapeWrite_keeps | with_reducible apply swapBackWrite_keeps | with_reducible apply retireLaneWrite_keeps
    | with_reducible apply forceRetrainWrite_keeps | with_reducible apply tileTargetWrite_keeps | with_reducible apply tileResetWrite_keeps
    | with_reducible apply tidelinkTargetWrite_keeps | with_reducible apply tidelinkRepairWrite_keeps | with_reducible apply beachEnableWrite_keeps
    | with_reducible apply wr_keeps | with_reducible apply KeepsP.ite
    | fail_if_no_progress (with_reducible apply KeepsP.mk' <;> try with_reducible apply KeepsP.fst)

theorem write5_keeps {a0 : State} (s : State) (idx : Nat) (sub : Nat) (q : Nat) (v : List Byte) (hk : Keeps a0 s) :
    KeepsP a0 (write5 s idx sub q v) := by
  unfold write5
  iterate 40 all_goals first
    | with_reducible assumption | with_reducible apply wrBlob_keeps | with_reducible apply destroyWrite_keeps | with_reducible apply wr_keeps
    | with_reducible apply createWrite_keeps | with_reducible apply presentationWrite_keeps | with_reducible apply postNoticeWrite_keeps
    | with_reducible apply dirtyStartWrite_keeps | with_reducible apply dirtyStopWrite_keeps | with_reducible apply dirtyHarvestWrite_keeps
    | with_reducible apply KeepsP.ite | fail_if_no_progress (with_reducible apply KeepsP.mk' <;> try with_reducible apply KeepsP.fst)

theorem knobWrite_keeps {a0 : State} (s : State) (idx : Nat) (q : Nat) (v : Nat) (hk : Keeps a0 s) :
    KeepsP a0 (knobWrite s idx q v) := by
  unfold knobWrite
  iterate 40 all_goals first
    | with_reducible assumption | with_reducible apply movesExcluded_keeps | with_reducible apply wr_keeps
    | fail_if_no_progress (with_reducible apply KeepsP.mk' <;> try with_reducible apply KeepsP.fst)

theorem write6_keeps {a0 : State} (s : State) (idx : Nat) (sub : Nat) (q : Nat) (v : List Byte) (hk : Keeps a0 s) :
    KeepsP a0 (write6 s idx sub q v) := by
  unfold write6
  iterate 40 all_goals first
    | with_reducible assumption | with_reducible apply cmdDone_keeps | with_reducible apply flushTile_keeps | with_reducible apply lookupWrite_keeps
    | with_reducible apply wr_keeps | with_reducible apply knobWrite_keeps | with_reducible apply moveWrite_keeps | with_reducible apply KeepsP.ite
    | fail_if_no_progress (with_reducible apply KeepsP.mk' <;> try with_reducible apply KeepsP.fst)

theorem write7_keeps {a0 : State} (s : State) (r : Requester) (idx : Nat) (sub : Nat) (q : Nat) (v : List Byte) (hk : Keeps a0 s) :
    KeepsP a0 (write7 s r idx sub q v) := by
  unfold write7
  iterate 40 all_goals first
    | with_reducible assumption | with_reducible apply shaperWrite_keeps | with_reducible apply engineTargetWrite_keeps
    | with_reducible apply stopWrite_keeps | with_reducible apply unloadWrite_keeps | with_reducible apply loadWrite_keeps
    | with_reducible apply wr_keeps | with_reducible apply KeepsP.ite
    | fail_if_no_progress (with_reducible apply KeepsP.mk' <;> try with_reducible apply KeepsP.fst)
    | fail_if_no_progress (with_reducible refine Keeps.lit rfl rfl rfl rfl rfl rfl rfl rfl ?_)

theorem write9_keeps {a0 : State} (s : State) (idx : Nat) (sub : Nat) (q : Nat) (v : List Byte) (hk : Keeps a0 s) :
    KeepsP a0 (write9 s idx sub q v) := by
  unfold write9
  iterate 40 all_goals first
    | with_reducible assumption | with_reducible apply domainTargetWrite_keeps | with_reducible apply forceOffWrite_keeps
    | with_reducible apply wr_keeps | with_reducible apply marginWrite_keeps | with_reducible apply slotTargetWrite_keeps
    | with_reducible apply fetModelWrite_keeps | with_reducible apply slotWrite_keeps | with_reducible apply KeepsP.ite
    | fail_if_no_progress (with_reducible apply KeepsP.mk' <;> try with_reducible apply KeepsP.fst)

theorem seedWrite_keeps {a0 : State} (s : State) (t : Nat) (v : Nat) (hk : Keeps a0 s) :
    KeepsP a0 (seedWrite s t v) := by
  unfold seedWrite
  iterate 40 all_goals first
    | with_reducible assumption | with_reducible apply wr_keeps
    | fail_if_no_progress (with_reducible apply KeepsP.mk' <;> try with_reducible apply KeepsP.fst)
    | fail_if_no_progress (with_reducible refine Keeps.lit rfl rfl rfl rfl rfl rfl rfl rfl ?_)

theorem writeB_keeps {a0 : State} (s : State) (idx : Nat) (sub : Nat) (q : Nat) (n : Nat) (hk : Keeps a0 s) :
    KeepsP a0 (writeB s idx sub q n) := by
  unfold writeB
  iterate 40 all_goals first
    | with_reducible assumption | with_reducible apply clearOverflow_keeps | with_reducible apply cmdDone_keeps
    | with_reducible apply clearInstOverflow_keeps | with_reducible apply seedWrite_keeps | with_reducible apply windowLengthWrite_keeps
    | with_reducible apply windowStartWrite_keeps | with_reducible apply windowStopWrite_keeps | with_reducible apply faultClearWrite_keeps
    | with_reducible apply faultClearAllWrite_keeps | with_reducible apply strandEraseWrite_keeps | with_reducible apply retryStoreWrite_keeps
    | with_reducible apply wr_keeps | with_reducible apply freeBool_keeps | with_reducible apply KeepsP.ite
    | fail_if_no_progress (with_reducible apply KeepsP.mk' <;> try with_reducible apply KeepsP.fst)

theorem writeD_keeps {a0 : State} (s : State) (r : Requester) (idx : Nat) (sub : Nat) (q : Nat) (v : List Byte) (hk : Keeps a0 s) :
    KeepsP a0 (writeD s r idx sub q v) := by
  unfold writeD
  iterate 40 all_goals first
    | with_reducible assumption | with_reducible apply credentialWrite_keeps | with_reducible apply enrollWrite_keeps
    | with_reducible apply revokeWrite_keeps | with_reducible apply floorWrite_keeps | with_reducible apply attestWrite_keeps
    | with_reducible apply downloadWrite_keeps | with_reducible apply beginWrite_keeps | with_reducible apply verifyWrite_keeps
    | with_reducible apply activateWrite_keeps | with_reducible apply confirmWrite_keeps | with_reducible apply applyWrite_keeps
    | with_reducible apply revertWrite_keeps | with_reducible apply testWrite_keeps | with_reducible apply diagReadWrite_keeps
    | with_reducible apply diagWriteWrite_keeps | with_reducible apply wr_keeps | with_reducible apply freeBool_keeps
    | with_reducible apply KeepsP.ite | fail_if_no_progress (with_reducible apply KeepsP.mk' <;> try with_reducible apply KeepsP.fst)

theorem objWrite_keeps {a0 : State} (s : State) (r : Requester) (d : ObjDesc) (q : Nat) (v : List Byte) (hk : Keeps a0 s) :
    KeepsP a0 (objWrite s r d q v) := by
  unfold objWrite
  iterate 40 all_goals first
    | with_reducible assumption | with_reducible apply write1_keeps | with_reducible apply write2_keeps | with_reducible apply write4_keeps
    | with_reducible apply write5_keeps | with_reducible apply write6_keeps | with_reducible apply write7_keeps | with_reducible apply write9_keeps
    | with_reducible apply writeB_keeps | with_reducible apply writeD_keeps | with_reducible apply KeepsP.ite

theorem writeItem_keeps {a0 : State} (s : State) (r : Requester) (it : Item) (hk : Keeps a0 s) :
    KeepsP a0 (writeItem s r it) := by
  unfold writeItem
  iterate 40 all_goals first
    | with_reducible assumption | with_reducible apply objWrite_keeps | with_reducible apply settleViews_keeps
    | with_reducible apply finishWrite_keeps | fail_if_no_progress (with_reducible apply KeepsP.mk' <;> try with_reducible apply KeepsP.fst)
    | with_reducible apply KeepsP.fst | split

theorem windowWrite_keeps {a0 : State} (s : State) (off : Nat) (v : List Byte) (hk : Keeps a0 s) :
    Keeps a0 (windowWrite s off v) := by
  unfold windowWrite
  iterate 40 all_goals first
    | with_reducible assumption | with_reducible apply freeNext_keeps | with_reducible apply Keeps.ite
    | fail_if_no_progress (with_reducible refine Keeps.lit rfl rfl rfl rfl rfl rfl rfl rfl ?_)

theorem configNotice_keeps {a0 : State} (s : State) (ps : List Nat) (hk : Keeps a0 s) :
    Keeps a0 (configNotice s ps) := by
  unfold configNotice
  iterate 40 all_goals first | with_reducible assumption | with_reducible apply raiseEv_keeps

theorem tieNotice_keeps {a0 : State} (s : State) (hk : Keeps a0 s) :
    Keeps a0 (tieNotice s) := by
  unfold tieNotice
  iterate 40 all_goals first | with_reducible assumption | with_reducible apply configNotice_keeps | with_reducible apply Keeps.ite

theorem takeImage_keeps {a0 : State} (s : State) (n : Nat) (hk : Keeps a0 s) :
    Keeps a0 (takeImage s n) := by
  unfold takeImage
  iterate 40 all_goals first
    | with_reducible assumption | with_reducible apply wr_keeps | with_reducible apply raise_keeps | with_reducible apply Keeps.ite
    | fail_if_no_progress (with_reducible refine Keeps.lit rfl rfl rfl rfl rfl rfl rfl rfl ?_)

theorem patchObject_keeps {a0 : State} (s : State) (a : Cfg) (b : Cfg) (k : Nat) (hk : Keeps a0 s) :
    KeepsP a0 (patchObject s a b k) := by
  unfold patchObject
  iterate 40 all_goals first
    | with_reducible assumption | with_reducible apply roleIn_keeps | with_reducible apply chunkWrite_keeps | with_reducible apply objWrite_keeps
    | with_reducible apply KeepsP.ite | fail_if_no_progress (with_reducible apply KeepsP.mk' <;> try with_reducible apply KeepsP.fst) | split

theorem patchAll_keeps {a0 : State} (x : Cfg) (y : Cfg) (l : List Nat) (s : State) (hk : Keeps a0 s) :
    KeepsP a0 (patchAll x y l s) := by
  induction l generalizing x y s with
  | nil =>
    unfold patchAll
    first
      | exact hk
      | exact KeepsP.mk' hk
  | cons w t ih =>
    unfold patchAll
    iterate 40 all_goals first
      | with_reducible assumption | with_reducible apply bumpChange_keeps | with_reducible apply ih | with_reducible apply patchObject_keeps
      | with_reducible apply configNotice_keeps | with_reducible apply KeepsP.ite
      | fail_if_no_progress (with_reducible apply KeepsP.mk' <;> try with_reducible apply KeepsP.fst) | with_reducible apply KeepsP.fst

theorem cfgActivateEnd_keeps {a0 : State} (s : State) (err : Nat) (hk : Keeps a0 s) :
    Keeps a0 (cfgActivateEnd s err) := by
  unfold cfgActivateEnd
  iterate 40 all_goals first
    | with_reducible assumption | with_reducible apply cmdEnd_keeps | with_reducible apply raise_keeps | with_reducible apply wr_keeps
    | with_reducible apply tieNotice_keeps | with_reducible apply takeImage_keeps | with_reducible apply patchAll_keeps
    | with_reducible apply configNotice_keeps | with_reducible apply KeepsP.fst | dsimp only | split

theorem releaseHeld_keeps {a0 : State} (s : State) (hk : Keeps a0 s) :
    Keeps a0 (releaseHeld s) := by
  unfold releaseHeld
  iterate 40 all_goals first
    | intro _ | with_reducible assumption | with_reducible apply hostAccess_keeps | with_reducible apply ioRequest_keeps
    | with_reducible apply pbrRequest_keeps | with_reducible apply cacheMessage_keeps | with_reducible apply Keeps.foldl
    | fail_if_no_progress (with_reducible refine Keeps.lit rfl rfl rfl rfl rfl rfl rfl rfl ?_) | split

theorem lateJoins_keeps {a0 : State} (s : State) (hk : Keeps a0 s) :
    Keeps a0 (lateJoins s) := by
  unfold lateJoins
  iterate 40 all_goals first
    | intro _ | with_reducible assumption | with_reducible apply startJoin_keeps | with_reducible apply Keeps.ite | with_reducible apply Keeps.foldl

theorem stableMode_keeps {a0 : State} (s : State) (hk : Keeps a0 s) :
    Keeps a0 (stableMode s) := by
  unfold stableMode
  iterate 40 all_goals first
    | with_reducible assumption | with_reducible apply wr_keeps | with_reducible apply releaseHeld_keeps | with_reducible apply lateJoins_keeps
    | fail_if_no_progress (with_reducible refine Keeps.lit rfl rfl rfl rfl rfl rfl rfl rfl ?_)

theorem failMode_keeps {a0 : State} (s : State) (reason : Nat) (ps : List Nat) (hk : Keeps a0 s) :
    Keeps a0 (failMode s reason ps) := by
  unfold failMode
  iterate 40 all_goals first
    | with_reducible assumption | with_reducible apply stableMode_keeps | with_reducible apply configNotice_keeps
    | with_reducible apply cmdEnd_keeps

theorem finishMode_keeps {a0 : State} (s : State) (hk : Keeps a0 s) :
    Keeps a0 (finishMode s) := by
  unfold finishMode
  iterate 40 all_goals first
    | with_reducible assumption | with_reducible apply wr_keeps | with_reducible apply cmdEnd_keeps | with_reducible apply releaseHeld_keeps
    | with_reducible apply lateJoins_keeps | fail_if_no_progress (with_reducible refine Keeps.lit rfl rfl rfl rfl rfl rfl rfl rfl ?_)

theorem resumeMode_keeps {a0 : State} (before : State) (s : State) (hk : Keeps a0 s) :
    Keeps a0 (resumeMode before s) := by
  unfold resumeMode
  iterate 40 all_goals first
    | intro _ | with_reducible assumption | with_reducible apply wr_keeps | with_reducible apply portDown_keeps
    | with_reducible apply finishMode_keeps | with_reducible apply Keeps.ite | with_reducible apply Keeps.foldl
    | fail_if_no_progress (with_reducible refine Keeps.lit rfl rfl rfl rfl rfl rfl rfl rfl ?_)

theorem applyMode_keeps {a0 : State} (s : State) (hk : Keeps a0 s) :
    Keeps a0 (applyMode s) := by
  unfold applyMode
  iterate 40 all_goals first
    | with_reducible assumption | with_reducible apply patchAll_keeps | with_reducible apply wr_keeps | with_reducible apply failMode_keeps
    | with_reducible apply resumeMode_keeps | with_reducible apply KeepsP.fst | dsimp only | split

theorem leaveCascade_keeps {a0 : State} (s : State) (hk : Keeps a0 s) :
    Keeps a0 (leaveCascade s) := by
  unfold leaveCascade
  iterate 40 all_goals first
    | intro _ | with_reducible assumption | with_reducible apply wr_keeps | with_reducible apply portDown_keeps | with_reducible apply Keeps.ite
    | with_reducible apply Keeps.foldl

theorem drainEnds_keeps {a0 : State} (s : State) (hk : Keeps a0 s) :
    Keeps a0 (drainEnds s) := by
  unfold drainEnds
  iterate 40 all_goals first
    | with_reducible assumption | with_reducible apply drainLines_keeps | with_reducible apply flushTile_keeps | with_reducible apply patchAll_keeps
    | with_reducible apply wr_keeps | with_reducible apply failMode_keeps | with_reducible apply finishMode_keeps
    | with_reducible apply leaveCascade_keeps | with_reducible apply KeepsP.fst | with_reducible apply Keeps.foldl
    | fail_if_no_progress (with_reducible refine Keeps.lit rfl rfl rfl rfl rfl rfl rfl rfl ?_) | dsimp only | split

end Sys2Proof.Machine
end

