-- ==== Sys2Proof/Laws/Keeps11.lean ====
section
/-!
SUPPORT. What the operations of Machine/StartOps.lean, Machine/OdpOps.lean, Machine/FmOps.lean, Machine/Lanes.lean, Machine/CompatOps.lean, Machine/Odp.lean, Machine/Startup.lean, Machine/Steps.lean, Machine/SysSteps.lean, Machine/Step.lean
leave alone: each keeps the queue, every output already made, and the canonical forms (Safety.lean's Keeps).
-/
namespace Sys2Proof.Machine

open Sys2Proof

set_option linter.unusedTactic false
set_option linter.unreachableTactic false
set_option linter.unnecessarySeqFocus false

theorem runFirmware_keeps {a0 : State} (s : State) (n : Nat) (hk : Keeps a0 s) :
    Keeps a0 (runFirmware s n) := by
  unfold runFirmware
  iterate 40 all_goals first
    | with_reducible assumption | with_reducible apply wr_keeps
    | fail_if_no_progress (with_reducible refine Keeps.lit rfl rfl rfl rfl rfl rfl rfl rfl ?_)

theorem slotReport_keeps {a0 : State} (s : State) (n : Nat) (hk : Keeps a0 s) :
    Keeps a0 (slotReport s n) := by
  unfold slotReport
  iterate 40 all_goals first
    | with_reducible assumption | with_reducible apply raise_keeps | with_reducible apply wr_keeps | with_reducible apply Keeps.ite

theorem goldenRuns_keeps {a0 : State} (s : State) (reason : Nat) (hk : Keeps a0 s) :
    Keeps a0 (goldenRuns s reason) := by
  unfold goldenRuns
  iterate 40 all_goals first
    | with_reducible assumption | with_reducible apply wr_keeps
    | fail_if_no_progress (with_reducible refine Keeps.lit rfl rfl rfl rfl rfl rfl rfl rfl ?_)

theorem runActive_keeps {a0 : State} (s : State) (hk : Keeps a0 s) :
    Keeps a0 (runActive s) := by
  unfold runActive
  iterate 40 all_goals first
    | with_reducible assumption | with_reducible apply runFirmware_keeps | with_reducible apply goldenRuns_keeps | with_reducible apply Keeps.ite

theorem closeTrial_keeps {a0 : State} (s : State) (hk : Keeps a0 s) :
    Keeps a0 (closeTrial s) := by
  unfold closeTrial
  iterate 40 all_goals first | with_reducible assumption | with_reducible apply bump_keeps | with_reducible apply writeRecord_keeps

theorem chooseFirmware_keeps {a0 : State} (s : State) (hk : Keeps a0 s) :
    Keeps a0 (chooseFirmware s) := by
  unfold chooseFirmware
  iterate 40 all_goals first
    | with_reducible assumption | with_reducible apply writeRecord_keeps | with_reducible apply runFirmware_keeps
    | with_reducible apply runActive_keeps | with_reducible apply closeTrial_keeps | with_reducible apply raise_keeps
    | with_reducible apply goldenRuns_keeps | with_reducible apply Keeps.ite

theorem romStart_keeps {a0 : State} (s : State) (hk : Keeps a0 s) :
    Keeps a0 (romStart s) := by
  unfold romStart
  iterate 40 all_goals first
    | with_reducible assumption | with_reducible apply wr_keeps | with_reducible apply goldenRuns_keeps | with_reducible apply chooseFirmware_keeps
    | with_reducible apply Keeps.ite | fail_if_no_progress (with_reducible refine Keeps.lit rfl rfl rfl rfl rfl rfl rfl rfl ?_)

theorem deviceCleared_keeps {a0 : State} (s : State) (hk : Keeps a0 s) :
    Keeps a0 (deviceCleared s) := by
  unfold deviceCleared
  exact (hk).trans { pending := rfl, out := List.suffix_refl _, free := Nat.le_refl _, obj := fun h => keptObjs_canonical h, blob := canonical_filter _, tbl := fun _ => rfl, chg := fun _ => rfl, mem := id }

theorem cutInstall_keeps {a0 : State} (s : State) (hk : Keeps a0 s) :
    Keeps a0 (cutInstall s) := by
  unfold cutInstall
  iterate 40 all_goals first | with_reducible assumption | with_reducible apply setCfgSlot_keeps | with_reducible apply freeNext_keeps | split

theorem deviceReset_keeps {a0 : State} (s : State) (hk : Keeps a0 s) :
    Keeps a0 (deviceReset s) := by
  unfold deviceReset
  iterate 40 all_goals first
    | intro _ | with_reducible assumption | with_reducible apply romStart_keeps | with_reducible apply deviceCleared_keeps
    | with_reducible apply tileReset_keeps | with_reducible apply cutInstall_keeps | with_reducible apply Keeps.ite
    | with_reducible apply Keeps.foldl

theorem promisedReset_keeps {a0 : State} (s : State) (hk : Keeps a0 s) :
    Keeps a0 (promisedReset s) := by
  unfold promisedReset
  iterate 40 all_goals first | with_reducible assumption | with_reducible apply deviceReset_keeps | with_reducible apply Keeps.ite

theorem releaseHeadland_keeps {a0 : State} (s : State) (hk : Keeps a0 s) :
    Keeps a0 (releaseHeadland s) := by
  unfold releaseHeadland
  iterate 40 all_goals first | with_reducible assumption | with_reducible apply romStart_keeps | with_reducible apply Keeps.ite

theorem headlandCleared_keeps {a0 : State} (s : State) (hk : Keeps a0 s) :
    Keeps a0 (headlandCleared s) := by
  unfold headlandCleared
  exact (hk).trans { pending := rfl, out := List.suffix_refl _, free := Nat.le_refl _, obj := canonical_filter _, blob := canonical_filter _, tbl := id, chg := id, mem := id }

theorem recoveryTiles_keeps {a0 : State} (s : State) (hk : Keeps a0 s) :
    Keeps a0 (recoveryTiles s) := by
  unfold recoveryTiles
  iterate 40 all_goals first
    | intro _ | with_reducible assumption | with_reducible apply holdTileSources_keeps | with_reducible apply wr_keeps
    | with_reducible apply wipeTile_keeps | with_reducible apply Keeps.ite | with_reducible apply Keeps.foldl

theorem loadCfg_keeps {a0 : State} (s : State) (c : Cfg) (hk : Keeps a0 s) :
    Keeps a0 (loadCfg s c) := by
  unfold loadCfg
  exact (hk).trans { pending := rfl, out := List.suffix_refl _, free := Nat.le_refl _, obj := canonical_putAll _, blob := canonical_putAll _, tbl := canonical_putAll _, chg := id, mem := id }

theorem unpowered_keeps {a0 : State} (s0 : State) (hk : Keeps a0 s0) :
    Keeps a0 (unpowered s0) := by
  unfold unpowered
  exact (cutInstall_keeps s0 hk).trans { pending := rfl, out := List.suffix_refl _, free := Nat.le_refl _, obj := canonical_filter _, blob := fun _ => rfl, tbl := fun _ => rfl, chg := fun _ => rfl, mem := fun _ => rfl }

theorem startSlots_keeps {a0 : State} (s : State) (hk : Keeps a0 s) :
    Keeps a0 (startSlots s) := by
  unfold startSlots
  iterate 40 all_goals first
    | intro _ | with_reducible assumption | with_reducible apply wr_keeps | with_reducible apply tryStart_keeps | with_reducible apply Keeps.ite
    | with_reducible apply Keeps.foldl

theorem headlandReset_keeps {a0 : State} (s : State) (hk : Keeps a0 s) :
    Keeps a0 (headlandReset s) := by
  unfold headlandReset
  iterate 40 all_goals first
    | intro _ | with_reducible assumption | with_reducible apply resetSide_keeps | with_reducible apply stableMode_keeps
    | with_reducible apply romStart_keeps | with_reducible apply headlandCleared_keeps | with_reducible apply cutInstall_keeps
    | with_reducible apply goldenRuns_keeps | with_reducible apply microChange_keeps | with_reducible apply Keeps.ite
    | with_reducible apply Keeps.foldl

theorem dropConfigured_keeps {a0 : State} (s : State) (hk : Keeps a0 s) :
    Keeps a0 (dropConfigured s) := by
  unfold dropConfigured
  exact (hk).trans { pending := rfl, out := List.suffix_refl _, free := Nat.le_refl _, obj := canonical_filter _, blob := canonical_filter _, tbl := id, chg := id, mem := id }

theorem startTargets_keeps {a0 : State} (s : State) (hk : Keeps a0 s) :
    Keeps a0 (startTargets s) := by
  unfold startTargets
  iterate 40 all_goals first
    | intro _ | with_reducible assumption | with_reducible apply wr_keeps | with_reducible apply Keeps.ite | with_reducible apply Keeps.foldl

theorem settleCfg_keeps {a0 : State} (s : State) (c : Cfg) (hk : Keeps a0 s) :
    Keeps a0 (settleCfg s c) := by
  unfold settleCfg
  iterate 40 all_goals first
    | intro _ | with_reducible assumption | with_reducible apply wr_keeps | with_reducible apply rebind_keeps
    | with_reducible apply countBound_keeps | with_reducible apply applyLimits_keeps | with_reducible apply Keeps.ite
    | with_reducible apply Keeps.foldl | fail_if_no_progress (with_reducible refine Keeps.lit rfl rfl rfl rfl rfl rfl rfl rfl ?_)

theorem enterConfig_keeps {a0 : State} (s0 : State) (hk : Keeps a0 s0) :
    Keeps a0 (enterConfig s0) := by
  unfold enterConfig
  iterate 40 all_goals first
    | with_reducible assumption | with_reducible apply slotReport_keeps | with_reducible apply dropConfigured_keeps | with_reducible apply wr_keeps
    | with_reducible apply takeImage_keeps | with_reducible apply loadCfg_keeps | with_reducible apply startTargets_keeps
    | with_reducible apply settleCfg_keeps | with_reducible apply Keeps.ite
    | fail_if_no_progress (with_reducible refine Keeps.lit rfl rfl rfl rfl rfl rfl rfl rfl ?_)

theorem powerRecords_keeps {a0 : State} (s : State) (hk : Keeps a0 s) :
    Keeps a0 (powerRecords s) := by
  unfold powerRecords
  iterate 40 all_goals first
    | with_reducible assumption | with_reducible apply record_keeps | with_reducible apply freeNext_keeps | with_reducible apply bump_keeps

theorem strapRecord_keeps {a0 : State} (s : State) (hk : Keeps a0 s) :
    Keeps a0 (strapRecord s) := by
  unfold strapRecord
  iterate 40 all_goals first
    | with_reducible assumption | with_reducible apply record_keeps | with_reducible apply freeNext_keeps | with_reducible apply Keeps.ite

theorem startCores_keeps {a0 : State} (s : State) (hk : Keeps a0 s) :
    Keeps a0 (startCores s) := by
  unfold startCores
  iterate 40 all_goals first
    | intro _ | with_reducible assumption | with_reducible apply startWake_keeps | with_reducible apply wr_keeps | with_reducible apply Keeps.ite
    | with_reducible apply Keeps.foldl

theorem bootDevice_keeps {a0 : State} (s : State) (hk : Keeps a0 s) :
    Keeps a0 (bootDevice s) := by
  unfold bootDevice
  iterate 40 all_goals first
    | with_reducible assumption | with_reducible apply enterConfig_keeps | with_reducible apply powerRecords_keeps
    | with_reducible apply record_keeps | with_reducible apply strapRecord_keeps | with_reducible apply configNotice_keeps
    | with_reducible apply startSlots_keeps | with_reducible apply startCores_keeps | with_reducible apply recoveryTiles_keeps
    | with_reducible apply Keeps.ite | fail_if_no_progress (with_reducible refine Keeps.lit rfl rfl rfl rfl rfl rfl rfl rfl ?_)

theorem bootHeadland_keeps {a0 : State} (s : State) (hk : Keeps a0 s) :
    Keeps a0 (bootHeadland s) := by
  unfold bootHeadland
  iterate 40 all_goals first
    | with_reducible assumption | with_reducible apply record_keeps | with_reducible apply microChange_keeps | with_reducible apply endSwap_keeps
    | with_reducible apply recoveryTiles_keeps | with_reducible apply wr_keeps | with_reducible apply tryStart_keeps
    | with_reducible apply Keeps.ite | with_reducible apply Keeps.foldl
    | fail_if_no_progress (with_reducible refine Keeps.lit rfl rfl rfl rfl rfl rfl rfl rfl ?_)

theorem bootEnds_keeps {a0 : State} (s : State) (hk : Keeps a0 s) :
    Keeps a0 (bootEnds s) := by
  unfold bootEnds
  iterate 40 all_goals first
    | with_reducible assumption | with_reducible apply bootHeadland_keeps | with_reducible apply bootDevice_keeps | with_reducible apply Keeps.ite

theorem darkSources_keeps {a0 : State} (s : State) (hk : Keeps a0 s) :
    Keeps a0 (darkSources s) := by
  unfold darkSources
  iterate 40 all_goals first | with_reducible assumption | fail_if_no_progress (with_reducible refine Keeps.lit rfl rfl rfl rfl rfl rfl rfl rfl ?_)

theorem norWritten_keeps {a0 : State} (s : State) (n : NorImage) (hk : Keeps a0 s) :
    Keeps a0 (norWritten s n) := by
  unfold norWritten
  iterate 40 all_goals first | with_reducible assumption | fail_if_no_progress (with_reducible refine Keeps.lit rfl rfl rfl rfl rfl rfl rfl rfl ?_)

theorem powerUp_keeps {a0 : State} (s0 : State) (b : PowerUp) (hk : Keeps a0 s0) :
    Keeps a0 (powerUp s0 b) := by
  unfold powerUp
  iterate 40 all_goals first
    | with_reducible assumption | with_reducible apply unpowered_keeps | with_reducible apply norWritten_keeps
    | with_reducible apply releaseHeadland_keeps | with_reducible apply darkSources_keeps
    | fail_if_no_progress (with_reducible refine Keeps.lit rfl rfl rfl rfl rfl rfl rfl rfl ?_) | split

theorem powerFails_keeps {a0 : State} (s : State) (hk : Keeps a0 s) :
    Keeps a0 (powerFails s) := by
  unfold powerFails
  iterate 40 all_goals first | with_reducible assumption | with_reducible apply unpowered_keeps | with_reducible apply Keeps.ite

theorem perstGroup_keeps {a0 : State} (s : State) (g : Nat) (hk : Keeps a0 s) :
    Keeps a0 (perstGroup s g) := by
  unfold perstGroup
  iterate 40 all_goals first
    | intro _ | with_reducible assumption | with_reducible apply portDown_keeps | with_reducible apply wr_keeps
    | with_reducible apply resetSide_keeps | with_reducible apply record_keeps | with_reducible apply hldWake_keeps
    | with_reducible apply wakeSource_keeps | with_reducible apply Keeps.ite | with_reducible apply Keeps.foldl

theorem discard_keeps {a0 : State} (s : State) (hk : Keeps a0 s) :
    Keeps a0 (discard s) := by
  unfold discard
  iterate 40 all_goals first | with_reducible assumption | with_reducible apply bump_keeps

theorem openSession_keeps {a0 : State} (s : State) (t : Transport) (m : OdpMsg) (hk : Keeps a0 s) :
    Keeps a0 (openSession s t m) := by
  unfold openSession
  iterate 40 all_goals first
    | with_reducible assumption | with_reducible apply sendOdp_keeps | with_reducible apply freeNext_keeps
    | fail_if_no_progress (with_reducible refine Keeps.lit rfl rfl rfl rfl rfl rfl rfl rfl ?_) | split

theorem dropSession_keeps {a0 : State} (s : State) (id : Nat) (hk : Keeps a0 s) :
    Keeps a0 (dropSession s id) := by
  unfold dropSession
  iterate 40 all_goals first | with_reducible assumption | fail_if_no_progress (with_reducible refine Keeps.lit rfl rfl rfl rfl rfl rfl rfl rfl ?_)

theorem setSession_keeps {a0 : State} (s : State) (id : Nat) (f : Session → Session) (hk : Keeps a0 s) :
    Keeps a0 (setSession s id f) := by
  unfold setSession
  iterate 40 all_goals first | with_reducible assumption | fail_if_no_progress (with_reducible refine Keeps.lit rfl rfl rfl rfl rfl rfl rfl rfl ?_)

theorem writeItems_keeps {a0 : State} (r : Requester) (ver : Nat) (chunk : Bool) (l : List WireItem) (s : State) (hk : Keeps a0 s) :
    KeepsP a0 (writeItems r ver chunk l s) := by
  induction l generalizing r ver chunk s with
  | nil =>
    unfold writeItems
    first
      | exact hk
      | exact KeepsP.mk' hk
  | cons w t ih =>
    unfold writeItems
    iterate 40 all_goals first
      | with_reducible assumption | with_reducible apply ih | with_reducible apply writeChunk_keeps | with_reducible apply writeItem_keeps
      | with_reducible apply KeepsP.ite | fail_if_no_progress (with_reducible apply KeepsP.mk' <;> try with_reducible apply KeepsP.fst)
      | with_reducible apply KeepsP.fst

theorem serveItems_keeps {a0 : State} (s : State) (r : Requester) (ver : Nat) (room : Nat) (m : OdpMsg) (hk : Keeps a0 s) :
    KeepsP a0 (serveItems s r ver room m) := by
  unfold serveItems
  iterate 40 all_goals first
    | with_reducible assumption | with_reducible apply writeItems_keeps | with_reducible apply KeepsP.ite
    | fail_if_no_progress (with_reducible apply KeepsP.mk' <;> try with_reducible apply KeepsP.fst)

theorem sessionOp_keeps {a0 : State} (s : State) (x : Session) (m : OdpMsg) (hk : Keeps a0 s) :
    KeepsP a0 (sessionOp s x m) := by
  unfold sessionOp
  iterate 40 all_goals first
    | with_reducible assumption | with_reducible apply dropSession_keeps | with_reducible apply setSession_keeps
    | with_reducible apply serveItems_keeps | with_reducible apply KeepsP.ite
    | fail_if_no_progress (with_reducible apply KeepsP.mk' <;> try with_reducible apply KeepsP.fst)

theorem runInSession_keeps {a0 : State} (s : State) (x : Session) (m : OdpMsg) (hk : Keeps a0 s) :
    Keeps a0 (runInSession s x m) := by
  unfold runInSession
  iterate 40 all_goals first
    | with_reducible assumption | with_reducible apply setSession_keeps | with_reducible apply sessionOp_keeps
    | with_reducible apply promisedReset_keeps | with_reducible apply sendOdp_keeps | with_reducible apply KeepsP.fst

theorem inSession_keeps {a0 : State} (s : State) (x : Session) (m : OdpMsg) (hk : Keeps a0 s) :
    Keeps a0 (inSession s x m) := by
  unfold inSession
  iterate 40 all_goals first
    | with_reducible assumption | with_reducible apply setSession_keeps | with_reducible apply sendOdp_keeps
    | with_reducible apply runInSession_keeps | split

theorem odpArrives_keeps {a0 : State} (s : State) (t : Transport) (m : OdpMsg) (hk : Keeps a0 s) :
    Keeps a0 (odpArrives s t m) := by
  unfold odpArrives
  iterate 40 all_goals first
    | with_reducible assumption | with_reducible apply discard_keeps | with_reducible apply sendOdp_keeps | with_reducible apply openSession_keeps
    | with_reducible apply dropSession_keeps | with_reducible apply inSession_keeps | split

theorem odpRequest_keeps {a0 : State} (s : State) (t : Transport) (m : OdpMsg) (hk : Keeps a0 s) :
    Keeps a0 (odpRequest s t m) := by
  unfold odpRequest
  iterate 40 all_goals first
    | with_reducible assumption | with_reducible apply odpArrives_keeps | with_reducible apply hldWake_keeps | with_reducible apply Keeps.ite

theorem plainRequest_keeps {a0 : State} (s : State) (r : Requester) (b : List Byte) (hk : Keeps a0 s) :
    KeepsP a0 (plainRequest s r b) := by
  unfold plainRequest
  iterate 40 all_goals first
    | with_reducible assumption | with_reducible apply discard_keeps | with_reducible apply serveItems_keeps | with_reducible apply KeepsP.ite
    | fail_if_no_progress (with_reducible apply KeepsP.mk' <;> try with_reducible apply KeepsP.fst)

theorem windowTaken_keeps {a0 : State} (s : State) (hk : Keeps a0 s) :
    Keeps a0 (windowTaken s) := by
  unfold windowTaken
  iterate 40 all_goals first
    | with_reducible assumption | with_reducible apply plainRequest_keeps | with_reducible apply Keeps.ite | with_reducible apply KeepsP.fst
    | fail_if_no_progress (with_reducible refine Keeps.lit rfl rfl rfl rfl rfl rfl rfl rfl ?_)

theorem dictionaryReady_keeps {a0 : State} (s : State) (hk : Keeps a0 s) :
    Keeps a0 (dictionaryReady s) := by
  unfold dictionaryReady
  iterate 40 all_goals first
    | with_reducible assumption | with_reducible apply windowTaken_keeps | with_reducible apply Keeps.ite
    | fail_if_no_progress (with_reducible refine Keeps.lit rfl rfl rfl rfl rfl rfl rfl rfl ?_)

theorem windowGo_keeps {a0 : State} (s : State) (hk : Keeps a0 s) :
    Keeps a0 (windowGo s) := by
  unfold windowGo
  iterate 40 all_goals first
    | with_reducible assumption | with_reducible apply windowTaken_keeps | with_reducible apply Keeps.ite
    | fail_if_no_progress (with_reducible refine Keeps.lit rfl rfl rfl rfl rfl rfl rfl rfl ?_)

theorem windowDone_keeps {a0 : State} (s : State) (hk : Keeps a0 s) :
    Keeps a0 (windowDone s) := by
  unfold windowDone
  iterate 40 all_goals first
    | with_reducible assumption | with_reducible apply msixSend_keeps | with_reducible apply promisedReset_keeps
    | fail_if_no_progress (with_reducible refine Keeps.lit rfl rfl rfl rfl rfl rfl rfl rfl ?_) | split

theorem fmReply_keeps {a0 : State} (s : State) (via : FmPath) (code : Nat) (payload : List Byte) (hk : Keeps a0 s) :
    Keeps a0 (fmReply s via code payload) := by
  unfold fmReply
  iterate 40 all_goals first | with_reducible assumption | with_reducible apply emit_keeps

theorem ldFraction_keeps {a0 : State} (s : State) (via : FmPath) (p : Nat) (n : Nat) (key : Nat) (hk : Keeps a0 s) :
    Keeps a0 (ldFraction s via p n key) := by
  unfold ldFraction
  iterate 40 all_goals first | with_reducible assumption | with_reducible apply fmReply_keeps | split

theorem fmWrites_keeps {a0 : State} (s : State) (items : List (Nat × Nat × Nat × List Byte)) (hk : Keeps a0 s) :
    KeepsP a0 (fmWrites s items) := by
  unfold fmWrites
  iterate 40 all_goals first
    | intro _ | with_reducible assumption | with_reducible apply writeItem_keeps
    | fail_if_no_progress (with_reducible apply KeepsP.mk' <;> try with_reducible apply KeepsP.fst) | with_reducible apply KeepsP.fst
    | with_reducible apply KeepsP.foldl

theorem portControl_keeps {a0 : State} (s : State) (p : Nat) (op : PortOp) (hk : Keeps a0 s) :
    KeepsP a0 (portControl s p op) := by
  unfold portControl
  iterate 40 all_goals first
    | with_reducible assumption | with_reducible apply fmWrites_keeps | with_reducible apply portDown_keeps | with_reducible apply KeepsP.ite
    | fail_if_no_progress (with_reducible apply KeepsP.mk' <;> try with_reducible apply KeepsP.fst) | split

theorem ppbRequest_keeps {a0 : State} (s : State) (via : FmPath) (p : Nat) (x : CfgReq) (hk : Keeps a0 s) :
    Keeps a0 (ppbRequest s via p x) := by
  unfold ppbRequest
  iterate 40 all_goals first
    | with_reducible assumption | with_reducible apply fmReply_keeps | with_reducible apply ppbWrite_keeps | with_reducible apply Keeps.ite | split

theorem capacityRelease_keeps {a0 : State} (s : State) (via : FmPath) (exts : List Nat) (forced : Bool) (hk : Keeps a0 s) :
    Keeps a0 (capacityRelease s via exts forced) := by
  unfold capacityRelease
  iterate 40 all_goals first
    | with_reducible assumption | with_reducible apply fmReply_keeps | with_reducible apply fmWrites_keeps | with_reducible apply Keeps.ite
    | with_reducible apply KeepsP.fst

theorem fmStore_keeps {a0 : State} (s : State) (k : Nat) (v : List Byte) (hk : Keeps a0 s) :
    Keeps a0 (fmStore s k v) := by
  unfold fmStore
  iterate 40 all_goals first | with_reducible assumption | fail_if_no_progress (with_reducible refine Keeps.lit rfl rfl rfl rfl rfl rfl rfl rfl ?_)

theorem qosControl_keeps {a0 : State} (s : State) (p : Nat) (moderate : Byte) (severe : Byte) (rest : List Byte) (hk : Keeps a0 s) :
    KeepsP a0 (qosControl s p moderate severe rest) := by
  unfold qosControl
  iterate 40 all_goals first
    | with_reducible assumption | with_reducible apply fmWrites_keeps | with_reducible apply fmStore_keeps | with_reducible apply KeepsP.ite
    | fail_if_no_progress (with_reducible apply KeepsP.mk' <;> try with_reducible apply KeepsP.fst) | with_reducible apply KeepsP.fst

theorem capacityAdd_keeps {a0 : State} (s : State) (via : FmPath) (reqs : List (List Byte)) (hk : Keeps a0 s) :
    Keeps a0 (capacityAdd s via reqs) := by
  unfold capacityAdd
  iterate 40 all_goals first
    | with_reducible assumption | with_reducible apply fmReply_keeps | with_reducible apply fmWrites_keeps | with_reducible apply Keeps.ite
    | with_reducible apply KeepsP.fst

theorem fmReads_keeps {a0 : State} (s : State) (via : FmPath) (op : Nat) (items : List (Nat × Nat × Nat)) (hk : Keeps a0 s) :
    Keeps a0 (fmReads s via op items) := by
  unfold fmReads
  iterate 40 all_goals first | with_reducible assumption | with_reducible apply fmReply_keeps

theorem fmRun_keeps {a0 : State} (s : State) (via : FmPath) (f : State → State) (hf : ∀ a x, Keeps a x → Keeps a (f x)) (hk : Keeps a0 s) :
    Keeps a0 (fmRun s via f) := by
  unfold fmRun
  iterate 40 all_goals first
    | with_reducible assumption | with_reducible apply hf | with_reducible apply hldWake_keeps | with_reducible apply Keeps.ite

theorem fmTable_keeps {a0 : State} (s : State) (via : FmPath) (op : Nat) (idx : Nat) (sub : Nat) (q : Nat) (start : Nat) (count : Nat) (hk : Keeps a0 s) :
    Keeps a0 (fmTable s via op idx sub q start count) := by
  unfold fmTable
  iterate 40 all_goals first | with_reducible assumption | with_reducible apply fmReply_keeps

theorem fmChunk_keeps {a0 : State} (s : State) (idx : Nat) (sub : Nat) (q : Nat) (start : Nat) (data : List Byte) (hk : Keeps a0 s) :
    KeepsP a0 (fmChunk s idx sub q start data) := by
  unfold fmChunk
  iterate 40 all_goals first | with_reducible assumption | with_reducible apply writeChunk_keeps

theorem ldMeter_keeps {a0 : State} (s : State) (p : Nat) (n : Nat) (f : Nat) (key : Nat) (g : Nat → Nat) (hk : Keeps a0 s) :
    KeepsP a0 (ldMeter s p n f key g) := by
  unfold ldMeter
  iterate 40 all_goals first
    | with_reducible assumption | with_reducible apply fmChunk_keeps | with_reducible apply fmStore_keeps | with_reducible apply KeepsP.ite
    | fail_if_no_progress (with_reducible apply KeepsP.mk' <;> try with_reducible apply KeepsP.fst) | with_reducible apply KeepsP.fst | split

theorem bwLimit_keeps {a0 : State} (s : State) (p : Nat) (n : Nat) (f : Nat) (hk : Keeps a0 s) :
    KeepsP a0 (bwLimit s p n f) := by
  unfold bwLimit
  iterate 40 all_goals first
    | with_reducible assumption | with_reducible apply ldMeter_keeps | with_reducible apply KeepsP.ite
    | fail_if_no_progress (with_reducible apply KeepsP.mk' <;> try with_reducible apply KeepsP.fst)

theorem allocatedBw_keeps {a0 : State} (s : State) (p : Nat) (n : Nat) (f : Nat) (hk : Keeps a0 s) :
    KeepsP a0 (allocatedBw s p n f) := by
  unfold allocatedBw
  iterate 40 all_goals first | with_reducible assumption | with_reducible apply ldMeter_keeps

theorem fmForward_keeps {a0 : State} (s : State) (via : FmPath) (idx : Nat) (sub : Nat) (q : Nat) (f : State → State) (payload : List Byte) (hf : ∀ a x, Keeps a x → Keeps a (f x)) (hk : Keeps a0 s) :
    Keeps a0 (fmForward s via idx sub q f payload) := by
  unfold fmForward
  iterate 40 all_goals first
    | with_reducible assumption | with_reducible apply hf | with_reducible apply fmReply_keeps | with_reducible apply Keeps.ite

theorem setWidth_keeps {a0 : State} (s : State) (p : Nat) (idx : Nat) (w : Nat) (hk : Keeps a0 s) :
    Keeps a0 (setWidth s p idx w) := by
  unfold setWidth
  iterate 40 all_goals first | intro _ | with_reducible assumption | with_reducible apply setDir_keeps | with_reducible apply Keeps.foldl

theorem takeWidth_keeps {a0 : State} (s : State) (p : Nat) (d : DirSel) (n : Nat) (hk : Keeps a0 s) :
    Keeps a0 (takeWidth s p d n) := by
  unfold takeWidth
  iterate 40 all_goals first
    | with_reducible assumption | with_reducible apply setWidth_keeps | with_reducible apply setPort_keeps | with_reducible apply Keeps.ite

theorem fecCounted_keeps {a0 : State} (s : State) (l : Nat) (n : Nat) (hk : Keeps a0 s) :
    Keeps a0 (fecCounted s l n) := by
  unfold fecCounted
  iterate 40 all_goals first | with_reducible assumption | with_reducible apply freeNext_keeps | with_reducible apply bump_keeps

theorem widthStep_keeps {a0 : State} (s : State) (p : Nat) (stuck : Option LaneN) (hk : Keeps a0 s) :
    Keeps a0 (widthStep s p stuck) := by
  unfold widthStep
  iterate 40 all_goals first
    | with_reducible assumption | with_reducible apply setPort_keeps | with_reducible apply restored_keeps | with_reducible apply substituted_keeps
    | dsimp only | split

theorem joinRecovery_keeps {a0 : State} (s : State) (p : Nat) (l : Nat) (hk : Keeps a0 s) :
    Keeps a0 (joinRecovery s p l) := by
  unfold joinRecovery
  iterate 40 all_goals first
    | with_reducible assumption | with_reducible apply setPort_keeps | with_reducible apply stopTest_keeps | with_reducible apply Keeps.ite | split

theorem lockLossOf_keeps {a0 : State} (s : State) (p : Nat) (l : Nat) (hk : Keeps a0 s) :
    Keeps a0 (lockLossOf s p l) := by
  unfold lockLossOf
  iterate 40 all_goals first
    | with_reducible assumption | with_reducible apply joinRecovery_keeps | with_reducible apply setPort_keeps | with_reducible apply cmdEnd_keeps
    | with_reducible apply recoverLanes_keeps | with_reducible apply Keeps.ite | split

theorem compatClear_keeps {a0 : State} (s : State) (mask : Nat) (same : Bool) (hk : Keeps a0 s) :
    Keeps a0 (compatClear s mask same) := by
  unfold compatClear
  iterate 40 all_goals first | with_reducible assumption | fail_if_no_progress (with_reducible refine Keeps.lit rfl rfl rfl rfl rfl rfl rfl rfl ?_)

theorem compatItem_keeps {a0 : State} (s : State) (off : Nat) (v : Nat) (hk : Keeps a0 s) :
    KeepsP a0 (compatItem s off v) := by
  unfold compatItem
  iterate 40 all_goals first
    | with_reducible assumption | with_reducible apply compatClear_keeps | with_reducible apply writeItem_keeps
    | with_reducible apply writeChunk_keeps | with_reducible apply KeepsP.ite
    | fail_if_no_progress (with_reducible apply KeepsP.mk' <;> try with_reducible apply KeepsP.fst) | split

theorem compatRefuse_keeps {a0 : State} (s : State) (off : Nat) (st : Status) (hk : Keeps a0 s) :
    Keeps a0 (compatRefuse s off st) := by
  unfold compatRefuse
  iterate 40 all_goals first | with_reducible assumption | fail_if_no_progress (with_reducible refine Keeps.lit rfl rfl rfl rfl rfl rfl rfl rfl ?_)

theorem compatWriteAt_keeps {a0 : State} (s : State) (off : Nat) (v : Nat) (hk : Keeps a0 s) :
    Keeps a0 (compatWriteAt s off v) := by
  have h := compatItem_keeps s off v hk
  unfold compatWriteAt compatTaken
  exact Keeps.ite h.fst (compatRefuse_keeps _ _ _ h.fst)

theorem mctpControl_keeps {a0 : State} (s : State) (f : State → State) (hf : ∀ a x, Keeps a x → Keeps a (f x)) (hk : Keeps a0 s) :
    Keeps a0 (mctpControl s f) := by
  unfold mctpControl
  iterate 40 all_goals first
    | with_reducible assumption | with_reducible apply hf | with_reducible apply hldWake_keeps | with_reducible apply Keeps.ite

theorem actionEnds_keeps {a0 : State} (s : State) (idx : Nat) (sub : Nat) (q : Nat) (f : State → State) (hf : ∀ a x, Keeps a x → Keeps a (f x)) (hk : Keeps a0 s) :
    Keeps a0 (actionEnds s idx sub q f) := by
  unfold actionEnds
  iterate 40 all_goals first | with_reducible assumption | with_reducible apply hf | with_reducible apply Keeps.ite

theorem waitStep_keeps {a0 : State} (s : State) (c : Nat) (f : StepF) (hk : Keeps a0 s) :
    Keeps a0 (waitStep s c f) := by
  unfold waitStep
  iterate 40 all_goals first
    | intro _ | with_reducible assumption | with_reducible apply issue_keeps | with_reducible apply retire_keeps
    | with_reducible apply consume_keeps | with_reducible apply setCtx_keeps | dsimp only | split

theorem hostStep_keeps {a0 : State} (s : State) (c : Nat) (op : Nat) (f : StepF) (go : State → Nat → Nat → State) (hgo : ∀ a x fn b, Keeps a x → Keeps a (go x fn b)) (hk : Keeps a0 s) :
    Keeps a0 (hostStep s c op f go) := by
  unfold hostStep
  refine issue_keeps s c op f _ (fun a x h => ?_) hk
  dsimp only
  split
  · exact faultStep_keeps _ _ _ _ _ h
  · split
    · exact hgo _ _ _ _ h
    · exact faultStep_keeps _ _ _ _ _ h

theorem scratchStep_keeps {a0 : State} (s : State) (c : Nat) (op : Nat) (f : StepF) (g : Ctx → Nat → Ctx) (hk : Keeps a0 s) :
    Keeps a0 (scratchStep s c op f g) := by
  unfold scratchStep
  iterate 40 all_goals first
    | intro _ | with_reducible assumption | with_reducible apply issue_keeps | with_reducible apply faultStep_keeps
    | with_reducible apply retire_keeps | with_reducible apply setCtx_keeps | with_reducible apply Keeps.ite

theorem xcpyStep_keeps {a0 : State} (s : State) (c : Nat) (f : StepF) (hk : Keeps a0 s) :
    Keeps a0 (xcpyStep s c f) := by
  unfold xcpyStep
  iterate 40 all_goals first
    | intro _ | with_reducible assumption | with_reducible apply issue_keeps | with_reducible apply faultStep_keeps
    | with_reducible apply presentAll_keeps | with_reducible apply startPend_keeps | with_reducible apply hostFetch_keeps
    | with_reducible apply KeepsP.fst | dsimp only | split

theorem remapWrite_keeps {a0 : State} (s : State) (g : Nat) (take : Bool) (dest : Nat) (hk : Keeps a0 s) :
    Keeps a0 (remapWrite s g take dest) := by
  have hu : ∀ x, Keeps a0 x → Keeps a0 (remapWrite.unlock x g) := fun x h =>
    freeHeld_keeps _ _ (takeLocked_keeps x g h).fst
  unfold remapWrite
  exact Keeps.ite
    (Keeps.ite (litBump_keeps _ _ _ _ hk) (Keeps.ite (setRemap_keeps _ _ _ hk) (hu _ (setRemap_keeps _ _ _ hk))))
    (hu _ (delRemap_keeps _ _ hk))

theorem heatWrite_keeps {a0 : State} (s : State) (g : Nat) (w : Nat) (hk : Keeps a0 s) :
    Keeps a0 (heatWrite s g w) := by
  unfold heatWrite
  iterate 40 all_goals first
    | with_reducible assumption | with_reducible apply setHeat_keeps | (with_reducible refine KeepsO.of (heatRoom_keeps _ _ _ ?_) (by assumption))
    | split

theorem idle_keeps {a0 : State} (s : State) (hk : Keeps a0 s) :
    Keeps a0 (idle s) := by
  unfold idle
  iterate 40 all_goals first
    | with_reducible assumption | with_reducible apply settleViews_keeps | with_reducible apply freeNext_keeps | with_reducible apply Keeps.ite
    | fail_if_no_progress (with_reducible refine Keeps.lit rfl rfl rfl rfl rfl rfl rfl rfl ?_)

end Sys2Proof.Machine
end

