-- ==== Sys2Proof/Laws/Exec.lean ====
section
/-!
SUPPORT. What every command leaves alone: it answers a next state that keeps the queue, every output already made and the canonical
forms (Safety.lean's Keeps).
-/
namespace Sys2Proof.Machine

open Sys2Proof

set_option linter.unusedTactic false
set_option linter.unreachableTactic false
set_option linter.unnecessarySeqFocus false

theorem execCauseOccurrence_keeps {a0 : State} (src : BitVec 16) (cause : CauseN) (sev : Severity) (params : List Nat) (s : State) (hk : Keeps a0 s) :
    ∃ next, execCauseOccurrence src cause sev params s = .next next ∧ Keeps a0 next := by
  refine ⟨_, rfl, ?_⟩
  iterate 40 all_goals first
    | intro _ | with_reducible assumption | with_reducible apply coreCritical_keeps | with_reducible apply raise_keeps | skip

theorem execFaultClear_keeps {a0 : State} (r : Requester) (src : BitVec 16) (mask : BitVec 32) (same : Option CauseOcc) (s : State) (hk : Keeps a0 s) :
    ∃ next, execFaultClear r src mask same s = .next next ∧ Keeps a0 next := by
  refine ⟨_, rfl, ?_⟩
  iterate 40 all_goals first
    | intro _ | with_reducible assumption | with_reducible apply coreCritical_keeps | with_reducible apply raise_keeps
    | with_reducible apply rowWrite_keeps | with_reducible apply faultClearWrite_keeps
    | fail_if_no_progress (with_reducible apply KeepsP.mk' <;> try with_reducible apply KeepsP.fst) | with_reducible apply KeepsP.fst
    | fail_if_no_progress (with_reducible refine Keeps.lit rfl rfl rfl rfl rfl rfl rfl rfl ?_) | dsimp only | split | skip

theorem execFaultClearAll_keeps {a0 : State} (r : Requester) (s : State) (hk : Keeps a0 s) :
    ∃ next, execFaultClearAll r s = .next next ∧ Keeps a0 next := by
  refine ⟨_, rfl, ?_⟩
  iterate 40 all_goals first
    | intro _ | with_reducible assumption | with_reducible apply rowWrite_keeps | with_reducible apply faultClearAllWrite_keeps | skip

theorem execLevelUnlatch_keeps {a0 : State} (src : BitVec 16) (cause : CauseN) (s : State) (hk : Keeps a0 s) :
    ∃ next, execLevelUnlatch src cause s = .next next ∧ Keeps a0 next := by
  refine ⟨_, rfl, ?_⟩
  iterate 40 all_goals first
    | intro _ | with_reducible assumption | with_reducible apply endLevel_keeps | skip

theorem execFaultRescan_keeps {a0 : State} (s : State) (hk : Keeps a0 s) :
    ∃ next, execFaultRescan s = .next next ∧ Keeps a0 next := by
  refine ⟨_, rfl, ?_⟩
  iterate 40 all_goals first
    | intro _ | with_reducible assumption | with_reducible apply rescanAll_keeps | skip

theorem execRecordCommit_keeps {a0 : State} (s : State) (hk : Keeps a0 s) :
    ∃ next, execRecordCommit s = .next next ∧ Keeps a0 next := by
  refine ⟨_, rfl, ?_⟩
  iterate 40 all_goals first
    | intro _ | with_reducible assumption | with_reducible apply commitRec_keeps | with_reducible apply wr_keeps
    | with_reducible apply cmdEnd_keeps | with_reducible apply Keeps.ite | with_reducible apply KeepsP.ite | dsimp only | split | skip

theorem execStoreFailure_keeps {a0 : State} (s : State) (hk : Keeps a0 s) :
    ∃ next, execStoreFailure s = .next next ∧ Keeps a0 next := by
  refine ⟨_, rfl, ?_⟩
  iterate 40 all_goals first
    | intro _ | with_reducible assumption | with_reducible apply storeFails_keeps | skip

theorem execRetryStore_keeps {a0 : State} (r : Requester) (answers : Bool) (s : State) (hk : Keeps a0 s) :
    ∃ next, execRetryStore r answers s = .next next ∧ Keeps a0 next := by
  refine ⟨_, rfl, ?_⟩
  iterate 40 all_goals first
    | intro _ | with_reducible assumption | with_reducible apply rowWrite_keeps | with_reducible apply retryStoreWrite_keeps | skip

theorem execStrandErase_keeps {a0 : State} (r : Requester) (s : State) (hk : Keeps a0 s) :
    ∃ next, execStrandErase r s = .next next ∧ Keeps a0 next := by
  refine ⟨_, rfl, ?_⟩
  iterate 40 all_goals first
    | intro _ | with_reducible assumption | with_reducible apply rowWrite_keeps | with_reducible apply strandEraseWrite_keeps | skip

theorem execSecondsSave_keeps {a0 : State} (s : State) (hk : Keeps a0 s) :
    ∃ next, execSecondsSave s = .next next ∧ Keeps a0 next := by
  refine ⟨_, rfl, ?_⟩
  iterate 40 all_goals first
    | intro _ | with_reducible assumption | fail_if_no_progress (with_reducible refine Keeps.lit rfl rfl rfl rfl rfl rfl rfl rfl ?_) | skip

theorem execMemrd_keeps {a0 : State} (p : PortN) (hpa : BitVec 64) (ask : Ask) (tag : BitVec 16) (tc : Fin 4) (s : State) (hk : Keeps a0 s) :
    ∃ next, execMemrd p hpa ask tag tc s = .next next ∧ Keeps a0 next := by
  refine ⟨_, rfl, ?_⟩
  iterate 40 all_goals first
    | intro _ | with_reducible assumption | with_reducible apply hostAccess_keeps | skip

theorem execMemrddata_keeps {a0 : State} (p : PortN) (hpa : BitVec 64) (tag : BitVec 16) (tc : Fin 4) (s : State) (hk : Keeps a0 s) :
    ∃ next, execMemrddata p hpa tag tc s = .next next ∧ Keeps a0 next := by
  refine ⟨_, rfl, ?_⟩
  iterate 40 all_goals first
    | intro _ | with_reducible assumption | with_reducible apply hostAccess_keeps | skip

theorem execMeminv_keeps {a0 : State} (p : PortN) (hpa : BitVec 64) (ask : Ask) (tag : BitVec 16) (tc : Fin 4) (s : State) (hk : Keeps a0 s) :
    ∃ next, execMeminv p hpa ask tag tc s = .next next ∧ Keeps a0 next := by
  refine ⟨_, rfl, ?_⟩
  iterate 40 all_goals first
    | intro _ | with_reducible assumption | with_reducible apply hostAccess_keeps | skip

theorem execMemwr_keeps {a0 : State} (p : PortN) (hpa : BitVec 64) (data : List Byte) (be : BitVec 64) (keepS : Bool) (tag : BitVec 16) (tc : Fin 4) (s : State) (hk : Keeps a0 s) :
    ∃ next, execMemwr p hpa data be keepS tag tc s = .next next ∧ Keeps a0 next := by
  refine ⟨_, rfl, ?_⟩
  iterate 40 all_goals first
    | intro _ | with_reducible assumption | with_reducible apply hostAccess_keeps | skip

theorem execMemclnevct_keeps {a0 : State} (p : PortN) (hpa : BitVec 64) (tag : BitVec 16) (tc : Fin 4) (s : State) (hk : Keeps a0 s) :
    ∃ next, execMemclnevct p hpa tag tc s = .next next ∧ Keeps a0 next := by
  refine ⟨_, rfl, ?_⟩
  iterate 40 all_goals first
    | intro _ | with_reducible assumption | with_reducible apply hostAccess_keeps | skip

theorem execMemspecrd_keeps {a0 : State} (p : PortN) (hpa : BitVec 64) (s : State) (hk : Keeps a0 s) :
    ∃ next, execMemspecrd p hpa s = .next next ∧ Keeps a0 next := by
  refine ⟨_, rfl, ?_⟩
  iterate 40 all_goals first
    | intro _ | with_reducible assumption | with_reducible apply hostAccess_keeps | skip

theorem execAtomicop_keeps {a0 : State} (p : PortN) (hpa : BitVec 64) (k : AtomKind) (size : AtomSize) (a b : BitVec 128) (tag : BitVec 16) (tc : Fin 4) (s : State) (hk : Keeps a0 s) :
    ∃ next, execAtomicop p hpa k size a b tag tc s = .next next ∧ Keeps a0 next := by
  refine ⟨_, rfl, ?_⟩
  iterate 40 all_goals first
    | intro _ | with_reducible assumption | with_reducible apply emit_keeps | with_reducible apply portEvent_keeps
    | with_reducible apply hostAccess_keeps | with_reducible apply Keeps.ite | skip

theorem execBirsp_keeps {a0 : State} (p : PortN) (key : LineN) (rsp : BiRsp) (data : Option (List Byte)) (s : State) (hk : Keeps a0 s) :
    ∃ next, execBirsp p key rsp data s = .next next ∧ Keeps a0 next := by
  refine ⟨_, rfl, ?_⟩
  iterate 40 all_goals first
    | intro _ | with_reducible assumption | with_reducible apply bump_keeps | with_reducible apply setPort_keeps
    | with_reducible apply snoopAnswer_keeps | with_reducible apply Keeps.ite | with_reducible apply KeepsP.ite
    | fail_if_no_progress (with_reducible apply KeepsP.mk' <;> try with_reducible apply KeepsP.fst) | with_reducible apply KeepsP.fst
    | fail_if_no_progress (with_reducible refine Keeps.lit rfl rfl rfl rfl rfl rfl rfl rfl ?_) | dsimp only | split | skip

theorem execBiconflict_keeps {a0 : State} (p : PortN) (key : LineN) (s : State) (hk : Keeps a0 s) :
    ∃ next, execBiconflict p key s = .next next ∧ Keeps a0 next := by
  refine ⟨_, rfl, ?_⟩
  iterate 40 all_goals first
    | intro _ | with_reducible assumption | with_reducible apply pushEgress_keeps | with_reducible apply largeEvent_keeps
    | with_reducible apply Keeps.ite | skip

theorem execSliceResponse_keeps {a0 : State} (t : TileN) (key : LineN) (data : Option (List Byte)) (s : State) (hk : Keeps a0 s) :
    ∃ next, execSliceResponse t key data s = .next next ∧ Keeps a0 next := by
  refine ⟨_, rfl, ?_⟩
  iterate 40 all_goals first
    | intro _ | with_reducible assumption | with_reducible apply sliceAnswer_keeps | skip

theorem execCxlIoRequest_keeps {a0 : State} (p : PortN) (req : IoReq) (s : State) (hk : Keeps a0 s) :
    ∃ next, execCxlIoRequest p req s = .next next ∧ Keeps a0 next := by
  refine ⟨_, rfl, ?_⟩
  iterate 40 all_goals first
    | intro _ | with_reducible assumption | with_reducible apply ioRequest_keeps | skip

theorem execCxlIoCompletion_keeps {a0 : State} (p dst : PortN) (tag : BitVec 16) (bytes : Nat) (s : State) (hk : Keeps a0 s) :
    ∃ next, execCxlIoCompletion p dst tag bytes s = .next next ∧ Keeps a0 next := by
  refine ⟨_, rfl, ?_⟩
  iterate 40 all_goals first
    | intro _ | with_reducible assumption | with_reducible apply ioCompletion_keeps | skip

theorem execPbrRequest_keeps {a0 : State} (p : PortN) (pid : Fin 4096) (req : PbrReq) (s : State) (hk : Keeps a0 s) :
    ∃ next, execPbrRequest p pid req s = .next next ∧ Keeps a0 next := by
  refine ⟨_, rfl, ?_⟩
  iterate 40 all_goals first
    | intro _ | with_reducible assumption | with_reducible apply pbrRequest_keeps | skip

theorem execCxlCacheMessage_keeps {a0 : State} (p dst : PortN) (cacheId : Fin 16) (d2h : Bool) (ch : CacheChannel) (tag : BitVec 16) (bytes : Nat) (s : State) (hk : Keeps a0 s) :
    ∃ next, execCxlCacheMessage p dst cacheId d2h ch tag bytes s = .next next ∧ Keeps a0 next := by
  refine ⟨_, rfl, ?_⟩
  iterate 40 all_goals first
    | intro _ | with_reducible assumption | with_reducible apply cacheMessage_keeps | skip

theorem execWalkComplete_keeps {a0 : State} (t : TileN) (k : WalkKind) (key : Nat) (s : State) (hk : Keeps a0 s) :
    ∃ next, execWalkComplete t k key s = .next next ∧ Keeps a0 next := by
  refine ⟨_, rfl, ?_⟩
  iterate 40 all_goals first
    | intro _ | with_reducible assumption | with_reducible apply dirFill_keeps | with_reducible apply cacheFill_keeps
    | fail_if_no_progress (with_reducible apply KeepsP.mk' <;> try with_reducible apply KeepsP.fst) | with_reducible apply KeepsP.fst | dsimp only
    | split | skip

theorem execEgressSchedule_keeps {a0 : State} (q : SchedN) (s : State) (hk : Keeps a0 s) :
    ∃ next, execEgressSchedule q s = .next next ∧ Keeps a0 next := by
  refine ⟨_, rfl, ?_⟩
  iterate 40 all_goals first
    | intro _ | with_reducible assumption | with_reducible apply egressTurn_keeps | skip

theorem execBiTimeout_keeps {a0 : State} (p : PortN) (key : LineN) (s : State) (hk : Keeps a0 s) :
    ∃ next, execBiTimeout p key s = .next next ∧ Keeps a0 next := by
  refine ⟨_, rfl, ?_⟩
  iterate 40 all_goals first
    | intro _ | with_reducible assumption | with_reducible apply biTimeout_keeps | skip

theorem execHoldWindowEnd_keeps {a0 : State} (key : LineN) (s : State) (hk : Keeps a0 s) :
    ∃ next, execHoldWindowEnd key s = .next next ∧ Keeps a0 next := by
  refine ⟨_, rfl, ?_⟩
  iterate 40 all_goals first
    | intro _ | with_reducible assumption | with_reducible apply endHold_keeps | skip

theorem execLostHostScan_keeps {a0 : State} (p : PortN) (s : State) (hk : Keeps a0 s) :
    ∃ next, execLostHostScan p s = .next next ∧ Keeps a0 next := by
  refine ⟨_, rfl, ?_⟩
  iterate 40 all_goals first
    | intro _ | with_reducible assumption | with_reducible apply scanLost_keeps | with_reducible apply KeepsP.fst | dsimp only | split | skip

theorem execCacheFlush_keeps {a0 : State} (r : Requester) (t : TileN) (s : State) (hk : Keeps a0 s) :
    ∃ next, execCacheFlush r t s = .next next ∧ Keeps a0 next := by
  refine ⟨_, rfl, ?_⟩
  iterate 40 all_goals first
    | intro _ | with_reducible assumption | with_reducible apply rowWrite_keeps | with_reducible apply flushWrite_keeps | skip

theorem execDirLookup_keeps {a0 : State} (r : Requester) (t : TileN) (v : List Byte) (s : State) (hk : Keeps a0 s) :
    ∃ next, execDirLookup r t v s = .next next ∧ Keeps a0 next := by
  refine ⟨_, rfl, ?_⟩
  iterate 40 all_goals first
    | intro _ | with_reducible assumption | with_reducible apply rowWrite_keeps | with_reducible apply lookupWrite_keeps | skip

theorem execIscSelectTimeout_keeps {a0 : State} (p : PortN) (s : State) (hk : Keeps a0 s) :
    ∃ next, execIscSelectTimeout p s = .next next ∧ Keeps a0 next := by
  refine ⟨_, rfl, ?_⟩
  iterate 40 all_goals first
    | intro _ | with_reducible assumption | with_reducible apply raise_keeps | with_reducible apply Keeps.ite | with_reducible apply KeepsP.ite
    | with_reducible apply KeepsP.fst | fail_if_no_progress (with_reducible refine Keeps.lit rfl rfl rfl rfl rfl rfl rfl rfl ?_) | skip

theorem execResetToken_keeps {a0 : State} (t : TileN) (x : CrossN) (s : State) (hk : Keeps a0 s) :
    ∃ next, execResetToken t x s = .next next ∧ Keeps a0 next := by
  refine ⟨_, rfl, ?_⟩
  iterate 40 all_goals first
    | intro _ | with_reducible assumption | with_reducible apply resetToken_keeps | skip

theorem execCrossingTimeout_keeps {a0 : State} (t : TileN) (x : CrossN) (s : State) (hk : Keeps a0 s) :
    ∃ next, execCrossingTimeout t x s = .next next ∧ Keeps a0 next := by
  refine ⟨_, rfl, ?_⟩
  iterate 40 all_goals first
    | intro _ | with_reducible assumption | with_reducible apply raise_keeps | with_reducible apply bump_keeps | with_reducible apply crossed_keeps
    | with_reducible apply dropCells_keeps | with_reducible apply closeCrossing_keeps | with_reducible apply setLink_keeps
    | with_reducible apply failLink_keeps | with_reducible apply Keeps.ite | with_reducible apply KeepsP.ite
    | fail_if_no_progress (with_reducible apply KeepsP.mk' <;> try with_reducible apply KeepsP.fst) | with_reducible apply KeepsP.fst
    | fail_if_no_progress (with_reducible refine Keeps.lit rfl rfl rfl rfl rfl rfl rfl rfl ?_) | dsimp only | split | skip

theorem execTidelinkFlit_keeps {a0 : State} (l : LinkN) (d : LinkDir) (f : TlFlit) (s : State) (hk : Keeps a0 s) :
    ∃ next, execTidelinkFlit l d f s = .next next ∧ Keeps a0 next := by
  refine ⟨_, rfl, ?_⟩
  iterate 40 all_goals first
    | intro _ | with_reducible assumption | with_reducible apply receiveFlit_keeps | with_reducible apply failLink_keeps
    | with_reducible apply Keeps.ite | skip

theorem execAckTimeout_keeps {a0 : State} (l : LinkN) (d : LinkDir) (s : State) (hk : Keeps a0 s) :
    ∃ next, execAckTimeout l d s = .next next ∧ Keeps a0 next := by
  refine ⟨_, rfl, ?_⟩
  iterate 40 all_goals first
    | intro _ | with_reducible assumption | with_reducible apply resendGroups_keeps | with_reducible apply failLink_keeps
    | with_reducible apply Keeps.ite | skip

theorem execBalancerPeriod_keeps {a0 : State} (t : TileN) (s : State) (hk : Keeps a0 s) :
    ∃ next, execBalancerPeriod t s = .next next ∧ Keeps a0 next := by
  refine ⟨_, rfl, ?_⟩
  iterate 40 all_goals first
    | intro _ | with_reducible assumption | with_reducible apply wrTbl_keeps | with_reducible apply setTile_keeps
    | with_reducible apply balancePair_keeps | with_reducible apply Keeps.ite | with_reducible apply KeepsP.ite | with_reducible apply KeepsP.fst
    | with_reducible apply Keeps.foldl | skip

theorem execPathTableWrite_keeps {a0 : State} (r : Requester) (t : TileN) (start : Fin 768) (vals : List Byte) (s : State) (hk : Keeps a0 s) :
    ∃ next, execPathTableWrite r t start vals s = .next next ∧ Keeps a0 next := by
  refine ⟨_, rfl, ?_⟩
  iterate 40 all_goals first
    | intro _ | with_reducible assumption | with_reducible apply rowChunk_keeps | with_reducible apply pathTableWrite_keeps | skip

theorem execFenceCell_keeps {a0 : State} (t dst : TileN) (e : Byte) (cls : Fin 8) (s : State) (hk : Keeps a0 s) :
    ∃ next, execFenceCell t dst e cls s = .next next ∧ Keeps a0 next := by
  refine ⟨_, rfl, ?_⟩
  iterate 40 all_goals first
    | intro _ | with_reducible assumption | with_reducible apply fenceArrives_keeps | with_reducible apply takeFence_keeps
    | fail_if_no_progress (with_reducible apply KeepsP.mk' <;> try with_reducible apply KeepsP.fst) | with_reducible apply KeepsP.fst | dsimp only
    | split | skip

theorem execFenceAck_keeps {a0 : State} (t dst : TileN) (e : Byte) (s : State) (hk : Keeps a0 s) :
    ∃ next, execFenceAck t dst e s = .next next ∧ Keeps a0 next := by
  refine ⟨_, rfl, ?_⟩
  iterate 40 all_goals first
    | intro _ | with_reducible assumption | with_reducible apply fenceAcked_keeps | skip

theorem execTidelinkLaneLoss_keeps {a0 : State} (l : LinkN) (d : LinkDir) (lane : Fin 64) (s : State) (hk : Keeps a0 s) :
    ∃ next, execTidelinkLaneLoss l d lane s = .next next ∧ Keeps a0 next := by
  refine ⟨_, rfl, ?_⟩
  iterate 40 all_goals first
    | intro _ | with_reducible assumption | with_reducible apply tlLaneLost_keeps | skip

theorem execTidelinkFailure_keeps {a0 : State} (l : LinkN) (s : State) (hk : Keeps a0 s) :
    ∃ next, execTidelinkFailure l s = .next next ∧ Keeps a0 next := by
  refine ⟨_, rfl, ?_⟩
  iterate 40 all_goals first
    | intro _ | with_reducible assumption | with_reducible apply failLink_keeps | skip

theorem execDedupReport_keeps {a0 : State} (l : LinkN) (t : TileN) (grp : Byte) (s : State) (hk : Keeps a0 s) :
    ∃ next, execDedupReport l t grp s = .next next ∧ Keeps a0 next := by
  refine ⟨_, rfl, ?_⟩
  iterate 40 all_goals first
    | intro _ | with_reducible assumption | with_reducible apply dedup_keeps | with_reducible apply KeepsP.fst | dsimp only | split | skip

theorem execDedupTimeout_keeps {a0 : State} (l : LinkN) (t : TileN) (s : State) (hk : Keeps a0 s) :
    ∃ next, execDedupTimeout l t s = .next next ∧ Keeps a0 next := by
  refine ⟨_, rfl, ?_⟩
  iterate 40 all_goals first
    | intro _ | with_reducible assumption | with_reducible apply dedupLost_keeps | with_reducible apply KeepsP.fst | dsimp only | split | skip

theorem execTidelinkTarget_keeps {a0 : State} (r : Requester) (l : LinkN) (v : Byte) (s : State) (hk : Keeps a0 s) :
    ∃ next, execTidelinkTarget r l v s = .next next ∧ Keeps a0 next := by
  refine ⟨_, rfl, ?_⟩
  iterate 40 all_goals first
    | intro _ | with_reducible assumption | with_reducible apply rowWrite_keeps | with_reducible apply tidelinkTargetWrite_keeps | skip

theorem execTidelinkRepair_keeps {a0 : State} (r : Requester) (l : LinkN) (s : State) (hk : Keeps a0 s) :
    ∃ next, execTidelinkRepair r l s = .next next ∧ Keeps a0 next := by
  refine ⟨_, rfl, ?_⟩
  iterate 40 all_goals first
    | intro _ | with_reducible assumption | with_reducible apply rowWrite_keeps | with_reducible apply tidelinkRepairWrite_keeps | skip

theorem execTidelinkTrained_keeps {a0 : State} (l : LinkN) (up down : Byte) (s : State) (hk : Keeps a0 s) :
    ∃ next, execTidelinkTrained l up down s = .next next ∧ Keeps a0 next := by
  refine ⟨_, rfl, ?_⟩
  iterate 40 all_goals first
    | intro _ | with_reducible assumption | with_reducible apply linkTrained_keeps | skip

theorem execBeachcomberPass_keeps {a0 : State} (t : TileN) (unref : List Nat) (s : State) (hk : Keeps a0 s) :
    ∃ next, execBeachcomberPass t unref s = .next next ∧ Keeps a0 next := by
  refine ⟨_, rfl, ?_⟩
  iterate 40 all_goals first
    | intro _ | with_reducible assumption | with_reducible apply beachPass_keeps | with_reducible apply KeepsP.fst | dsimp only | split | skip

theorem execIdentifySwitchDevice_keeps {a0 : State} (via : FmPath) (s : State) (hk : Keeps a0 s) :
    ∃ next, execIdentifySwitchDevice via s = .next next ∧ Keeps a0 next := by
  refine ⟨_, rfl, ?_⟩
  iterate 40 all_goals first
    | intro _ | with_reducible assumption | with_reducible apply fmRun_keeps | with_reducible apply fmReads_keeps | skip

theorem execGetPhysicalPortState_keeps {a0 : State} (via : FmPath) (ports : List PortN) (s : State) (hk : Keeps a0 s) :
    ∃ next, execGetPhysicalPortState via ports s = .next next ∧ Keeps a0 next := by
  refine ⟨_, rfl, ?_⟩
  iterate 40 all_goals first
    | intro _ | with_reducible assumption | with_reducible apply fmRun_keeps | with_reducible apply fmReads_keeps | skip

theorem execPhysicalPortControl_keeps {a0 : State} (via : FmPath) (p : PortN) (op : PortOp) (s : State) (hk : Keeps a0 s) :
    ∃ next, execPhysicalPortControl via p op s = .next next ∧ Keeps a0 next := by
  refine ⟨_, rfl, ?_⟩
  iterate 40 all_goals first
    | intro _ | with_reducible assumption | with_reducible apply fmRun_keeps | with_reducible apply portControl_keeps
    | with_reducible apply fmReply_keeps | with_reducible apply KeepsP.fst | skip

theorem execSendPpbCxlIoConfigurationRequest_keeps {a0 : State} (via : FmPath) (p : PortN) (req : CfgReq) (s : State) (hk : Keeps a0 s) :
    ∃ next, execSendPpbCxlIoConfigurationRequest via p req s = .next next ∧ Keeps a0 next := by
  refine ⟨_, rfl, ?_⟩
  iterate 40 all_goals first
    | intro _ | with_reducible assumption | with_reducible apply fmRun_keeps | with_reducible apply ppbRequest_keeps | skip

theorem execGetVirtualCxlSwitchInfo_keeps {a0 : State} (via : FmPath) (p : PortN) (s : State) (hk : Keeps a0 s) :
    ∃ next, execGetVirtualCxlSwitchInfo via p s = .next next ∧ Keeps a0 next := by
  refine ⟨_, rfl, ?_⟩
  iterate 40 all_goals first
    | intro _ | with_reducible assumption | with_reducible apply fmRun_keeps | with_reducible apply fmTable_keeps | skip

theorem execBindVppb_keeps {a0 : State} (via : FmPath) (p : PortN) (vppb : VppbN) (dsp : PortN) (ld : Byte) (s : State) (hk : Keeps a0 s) :
    ∃ next, execBindVppb via p vppb dsp ld s = .next next ∧ Keeps a0 next := by
  refine ⟨_, rfl, ?_⟩
  iterate 40 all_goals first
    | intro _ | with_reducible assumption | with_reducible apply fmRun_keeps | with_reducible apply fmChunk_keeps
    | with_reducible apply fmReply_keeps | with_reducible apply KeepsP.fst | skip

theorem execUnbindVppb_keeps {a0 : State} (via : FmPath) (p : PortN) (vppb : VppbN) (s : State) (hk : Keeps a0 s) :
    ∃ next, execUnbindVppb via p vppb s = .next next ∧ Keeps a0 next := by
  refine ⟨_, rfl, ?_⟩
  iterate 40 all_goals first
    | intro _ | with_reducible assumption | with_reducible apply fmRun_keeps | with_reducible apply fmChunk_keeps
    | with_reducible apply fmReply_keeps | with_reducible apply KeepsP.fst | skip

theorem execGenerateAerEvent_keeps {a0 : State} (via : FmPath) (p : PortN) (vppb : VppbN) (err : BitVec 32) (s : State) (hk : Keeps a0 s) :
    ∃ next, execGenerateAerEvent via p vppb err s = .next next ∧ Keeps a0 next := by
  refine ⟨_, rfl, ?_⟩
  iterate 40 all_goals first
    | intro _ | with_reducible assumption | with_reducible apply fmRun_keeps | with_reducible apply fmForward_keeps
    | with_reducible apply emit_keeps | skip

theorem execTunnelManagementCommand_keeps {a0 : State} (via : FmPath) (p : PortN) (payload : List Byte) (s : State) (hk : Keeps a0 s) :
    ∃ next, execTunnelManagementCommand via p payload s = .next next ∧ Keeps a0 next := by
  refine ⟨_, rfl, ?_⟩
  iterate 40 all_goals first
    | intro _ | with_reducible assumption | with_reducible apply fmRun_keeps | with_reducible apply fmForward_keeps
    | with_reducible apply freeNext_keeps | with_reducible apply emit_keeps | skip

theorem execSendLdCxlIoConfigurationRequest_keeps {a0 : State} (via : FmPath) (p : PortN) (ld : LdN) (req : CfgReq) (s : State) (hk : Keeps a0 s) :
    ∃ next, execSendLdCxlIoConfigurationRequest via p ld req s = .next next ∧ Keeps a0 next := by
  refine ⟨_, rfl, ?_⟩
  iterate 40 all_goals first
    | intro _ | with_reducible assumption | with_reducible apply fmRun_keeps | with_reducible apply fmForward_keeps
    | with_reducible apply freeNext_keeps | with_reducible apply emit_keeps | skip

theorem execSendLdCxlIoMemoryRequest_keeps {a0 : State} (via : FmPath) (p : PortN) (ld : LdN) (req : MemReq) (s : State) (hk : Keeps a0 s) :
    ∃ next, execSendLdCxlIoMemoryRequest via p ld req s = .next next ∧ Keeps a0 next := by
  refine ⟨_, rfl, ?_⟩
  iterate 40 all_goals first
    | intro _ | with_reducible assumption | with_reducible apply fmRun_keeps | with_reducible apply fmForward_keeps
    | with_reducible apply freeNext_keeps | with_reducible apply emit_keeps | skip

theorem execGetLdInfo_keeps {a0 : State} (via : FmPath) (s : State) (hk : Keeps a0 s) :
    ∃ next, execGetLdInfo via s = .next next ∧ Keeps a0 next := by
  refine ⟨_, rfl, ?_⟩
  iterate 40 all_goals first
    | intro _ | with_reducible assumption | with_reducible apply fmRun_keeps | with_reducible apply fmReply_keeps | skip

theorem execGetLdAllocations_keeps {a0 : State} (via : FmPath) (p : PortN) (s : State) (hk : Keeps a0 s) :
    ∃ next, execGetLdAllocations via p s = .next next ∧ Keeps a0 next := by
  refine ⟨_, rfl, ?_⟩
  iterate 40 all_goals first
    | intro _ | with_reducible assumption | with_reducible apply fmRun_keeps | with_reducible apply fmForward_keeps
    | with_reducible apply KeepsP.fst | exact ‹_› | skip

theorem execSetLdAllocations_keeps {a0 : State} (via : FmPath) (p : PortN) (ld : LdN) (rec : List Byte) (s : State) (hk : Keeps a0 s) :
    ∃ next, execSetLdAllocations via p ld rec s = .next next ∧ Keeps a0 next := by
  refine ⟨_, rfl, ?_⟩
  iterate 40 all_goals first
    | intro _ | with_reducible assumption | with_reducible apply fmRun_keeps | with_reducible apply fmReply_keeps
    | with_reducible apply fmStore_keeps | with_reducible apply KeepsP.fst | dsimp only | split | skip

theorem execGetQosControl_keeps {a0 : State} (via : FmPath) (p : PortN) (s : State) (hk : Keeps a0 s) :
    ∃ next, execGetQosControl via p s = .next next ∧ Keeps a0 next := by
  refine ⟨_, rfl, ?_⟩
  iterate 40 all_goals first
    | intro _ | with_reducible assumption | with_reducible apply fmRun_keeps | with_reducible apply fmForward_keeps
    | with_reducible apply KeepsP.fst | exact ‹_› | skip

theorem execSetQosControl_keeps {a0 : State} (via : FmPath) (p : PortN) (moderate severe : Byte) (rest : List Byte) (s : State) (hk : Keeps a0 s) :
    ∃ next, execSetQosControl via p moderate severe rest s = .next next ∧ Keeps a0 next := by
  refine ⟨_, rfl, ?_⟩
  iterate 40 all_goals first
    | intro _ | with_reducible assumption | with_reducible apply fmRun_keeps | with_reducible apply qosControl_keeps
    | with_reducible apply fmReply_keeps | with_reducible apply KeepsP.fst | skip

theorem execGetQosStatus_keeps {a0 : State} (via : FmPath) (p : PortN) (s : State) (hk : Keeps a0 s) :
    ∃ next, execGetQosStatus via p s = .next next ∧ Keeps a0 next := by
  refine ⟨_, rfl, ?_⟩
  iterate 40 all_goals first
    | intro _ | with_reducible assumption | with_reducible apply fmRun_keeps | with_reducible apply fmForward_keeps
    | with_reducible apply freeNext_keeps | skip

theorem execGetQosAllocatedBw_keeps {a0 : State} (via : FmPath) (p : PortN) (ld : LdN) (s : State) (hk : Keeps a0 s) :
    ∃ next, execGetQosAllocatedBw via p ld s = .next next ∧ Keeps a0 next := by
  refine ⟨_, rfl, ?_⟩
  iterate 40 all_goals first
    | intro _ | with_reducible assumption | with_reducible apply fmRun_keeps | with_reducible apply ldFraction_keeps | skip

theorem execSetQosAllocatedBw_keeps {a0 : State} (via : FmPath) (p : PortN) (ld : LdN) (f : Byte) (s : State) (hk : Keeps a0 s) :
    ∃ next, execSetQosAllocatedBw via p ld f s = .next next ∧ Keeps a0 next := by
  refine ⟨_, rfl, ?_⟩
  iterate 40 all_goals first
    | intro _ | with_reducible assumption | with_reducible apply fmRun_keeps | with_reducible apply allocatedBw_keeps
    | with_reducible apply fmReply_keeps | with_reducible apply KeepsP.fst | skip

theorem execGetQosBwLimit_keeps {a0 : State} (via : FmPath) (p : PortN) (ld : LdN) (s : State) (hk : Keeps a0 s) :
    ∃ next, execGetQosBwLimit via p ld s = .next next ∧ Keeps a0 next := by
  refine ⟨_, rfl, ?_⟩
  iterate 40 all_goals first
    | intro _ | with_reducible assumption | with_reducible apply fmRun_keeps | with_reducible apply ldFraction_keeps | skip

theorem execSetQosBwLimit_keeps {a0 : State} (via : FmPath) (p : PortN) (ld : LdN) (f : Byte) (s : State) (hk : Keeps a0 s) :
    ∃ next, execSetQosBwLimit via p ld f s = .next next ∧ Keeps a0 next := by
  refine ⟨_, rfl, ?_⟩
  iterate 40 all_goals first
    | intro _ | with_reducible assumption | with_reducible apply fmRun_keeps | with_reducible apply bwLimit_keeps
    | with_reducible apply fmReply_keeps | with_reducible apply KeepsP.fst | skip

theorem execGetDcdInfo_keeps {a0 : State} (via : FmPath) (s : State) (hk : Keeps a0 s) :
    ∃ next, execGetDcdInfo via s = .next next ∧ Keeps a0 next := by
  refine ⟨_, rfl, ?_⟩
  iterate 40 all_goals first
    | intro _ | with_reducible assumption | with_reducible apply fmRun_keeps | with_reducible apply fmReply_keeps | skip

theorem execGetHostDcRegionConfiguration_keeps {a0 : State} (via : FmPath) (i : InstN) (s : State) (hk : Keeps a0 s) :
    ∃ next, execGetHostDcRegionConfiguration via i s = .next next ∧ Keeps a0 next := by
  refine ⟨_, rfl, ?_⟩
  iterate 40 all_goals first
    | intro _ | with_reducible assumption | with_reducible apply fmRun_keeps | with_reducible apply fmTable_keeps | skip

theorem execSetDcRegionConfiguration_keeps {a0 : State} (via : FmPath) (i : InstN) (reg : Fin 8) (rec : List Byte) (s : State) (hk : Keeps a0 s) :
    ∃ next, execSetDcRegionConfiguration via i reg rec s = .next next ∧ Keeps a0 next := by
  refine ⟨_, rfl, ?_⟩
  iterate 40 all_goals first
    | intro _ | with_reducible assumption | with_reducible apply fmRun_keeps | with_reducible apply fmChunk_keeps
    | with_reducible apply fmReply_keeps | with_reducible apply KeepsP.fst | skip

theorem execGetDcdExtentLists_keeps {a0 : State} (via : FmPath) (i : InstN) (s : State) (hk : Keeps a0 s) :
    ∃ next, execGetDcdExtentLists via i s = .next next ∧ Keeps a0 next := by
  refine ⟨_, rfl, ?_⟩
  iterate 40 all_goals first
    | intro _ | with_reducible assumption | with_reducible apply fmRun_keeps | with_reducible apply fmForward_keeps
    | with_reducible apply KeepsP.fst | exact ‹_› | skip

theorem execInitiateDynamicCapacityAdd_keeps {a0 : State} (via : FmPath) (reqs : List (List Byte)) (s : State) (hk : Keeps a0 s) :
    ∃ next, execInitiateDynamicCapacityAdd via reqs s = .next next ∧ Keeps a0 next := by
  refine ⟨_, rfl, ?_⟩
  iterate 40 all_goals first
    | intro _ | with_reducible assumption | with_reducible apply fmRun_keeps | with_reducible apply capacityAdd_keeps | skip

theorem execInitiateDynamicCapacityRelease_keeps {a0 : State} (via : FmPath) (exts : List ExtentN) (forced : Bool) (s : State) (hk : Keeps a0 s) :
    ∃ next, execInitiateDynamicCapacityRelease via exts forced s = .next next ∧ Keeps a0 next := by
  refine ⟨_, rfl, ?_⟩
  iterate 40 all_goals first
    | intro _ | with_reducible assumption | with_reducible apply fmRun_keeps | with_reducible apply capacityRelease_keeps | skip

theorem execFmApiUnsupported_keeps {a0 : State} (via : FmPath) (opcode : BitVec 16) (s : State) (hk : Keeps a0 s) :
    ∃ next, execFmApiUnsupported via opcode s = .next next ∧ Keeps a0 next := by
  refine ⟨_, rfl, ?_⟩
  iterate 40 all_goals first
    | intro _ | with_reducible assumption | with_reducible apply fmReply_keeps | with_reducible apply KeepsP.fst | dsimp only | split | skip

theorem execClearCapture_keeps {a0 : State} (r : Requester) (g : TargetN) (same : Option GateHit) (s : State) (hk : Keeps a0 s) :
    ∃ next, execClearCapture r g same s = .next next ∧ Keeps a0 next := by
  refine ⟨_, rfl, ?_⟩
  iterate 40 all_goals first
    | intro _ | with_reducible assumption | with_reducible apply rowWrite_keeps | with_reducible apply clearCaptureWrite_keeps | skip

theorem execRecolour_keeps {a0 : State} (r : Requester) (v : List Byte) (s : State) (hk : Keeps a0 s) :
    ∃ next, execRecolour r v s = .next next ∧ Keeps a0 next := by
  refine ⟨_, rfl, ?_⟩
  iterate 40 all_goals first
    | intro _ | with_reducible assumption | with_reducible apply rowWrite_keeps | with_reducible apply recolourWrite_keeps | skip

theorem execTagQuery_keeps {a0 : State} (r : Requester) (v : List Byte) (s : State) (hk : Keeps a0 s) :
    ∃ next, execTagQuery r v s = .next next ∧ Keeps a0 next := by
  refine ⟨_, rfl, ?_⟩
  iterate 40 all_goals first
    | intro _ | with_reducible assumption | with_reducible apply rowWrite_keeps | with_reducible apply queryWrite_keeps | skip

theorem execRangeBackInvalidationComplete_keeps {a0 : State} (j : Nat) (s : State) (hk : Keeps a0 s) :
    ∃ next, execRangeBackInvalidationComplete j s = .next next ∧ Keeps a0 next := by
  refine ⟨_, rfl, ?_⟩
  iterate 40 all_goals first
    | intro _ | with_reducible assumption | with_reducible apply rbiScan_keeps | with_reducible apply rbiDone_keeps
    | with_reducible apply Keeps.ite | with_reducible apply KeepsP.ite | with_reducible apply KeepsP.fst
    | fail_if_no_progress (with_reducible refine Keeps.lit rfl rfl rfl rfl rfl rfl rfl rfl ?_) | dsimp only | split | skip

theorem execStepNop_keeps {a0 : State} (c : CtxN) (f : StepF) (s : State) (hk : Keeps a0 s) :
    ∃ next, execStepNop c f s = .next next ∧ Keeps a0 next := by
  refine ⟨_, rfl, ?_⟩
  iterate 40 all_goals first
    | intro _ | with_reducible assumption | with_reducible apply plainStep_keeps | skip

theorem execStepEnd_keeps {a0 : State} (c : CtxN) (f : StepF) (s : State) (hk : Keeps a0 s) :
    ∃ next, execStepEnd c f s = .next next ∧ Keeps a0 next := by
  refine ⟨_, rfl, ?_⟩
  iterate 40 all_goals first
    | intro _ | with_reducible assumption | with_reducible apply issue_keeps | with_reducible apply account_keeps
    | with_reducible apply endInvocation_keeps | skip

theorem execStepYield_keeps {a0 : State} (c : CtxN) (f : StepF) (s : State) (hk : Keeps a0 s) :
    ∃ next, execStepYield c f s = .next next ∧ Keeps a0 next := by
  refine ⟨_, rfl, ?_⟩
  iterate 40 all_goals first
    | intro _ | with_reducible assumption | with_reducible apply plainStep_keeps | skip

theorem execStepWait_keeps {a0 : State} (c : CtxN) (f : StepF) (s : State) (hk : Keeps a0 s) :
    ∃ next, execStepWait c f s = .next next ∧ Keeps a0 next := by
  refine ⟨_, rfl, ?_⟩
  iterate 40 all_goals first
    | intro _ | with_reducible assumption | with_reducible apply waitStep_keeps | skip

theorem execStepSignal_keeps {a0 : State} (c : CtxN) (f : StepF) (s : State) (hk : Keeps a0 s) :
    ∃ next, execStepSignal c f s = .next next ∧ Keeps a0 next := by
  refine ⟨_, rfl, ?_⟩
  iterate 40 all_goals first
    | intro _ | with_reducible assumption | with_reducible apply issue_keeps | with_reducible apply retire_keeps
    | with_reducible apply signalGroup_keeps | skip

theorem execStepTimer_keeps {a0 : State} (c : CtxN) (f : StepF) (s : State) (hk : Keeps a0 s) :
    ∃ next, execStepTimer c f s = .next next ∧ Keeps a0 next := by
  refine ⟨_, rfl, ?_⟩
  iterate 40 all_goals first
    | intro _ | with_reducible assumption | with_reducible apply plainStep_keeps | skip

theorem execStepSysr_keeps {a0 : State} (c : CtxN) (f : StepF) (s : State) (hk : Keeps a0 s) :
    ∃ next, execStepSysr c f s = .next next ∧ Keeps a0 next := by
  refine ⟨_, rfl, ?_⟩
  iterate 40 all_goals first
    | intro _ | with_reducible assumption | with_reducible apply plainStep_keeps | skip

theorem execStepRdf_keeps {a0 : State} (c : CtxN) (f : StepF) (s : State) (hk : Keeps a0 s) :
    ∃ next, execStepRdf c f s = .next next ∧ Keeps a0 next := by
  refine ⟨_, rfl, ?_⟩
  iterate 40 all_goals first
    | intro _ | with_reducible assumption | with_reducible apply plainStep_keeps | skip

theorem execStepWrf_keeps {a0 : State} (c : CtxN) (f : StepF) (s : State) (hk : Keeps a0 s) :
    ∃ next, execStepWrf c f s = .next next ∧ Keeps a0 next := by
  refine ⟨_, rfl, ?_⟩
  iterate 40 all_goals first
    | intro _ | with_reducible assumption | with_reducible apply plainStep_keeps | skip

theorem execStepBr_keeps {a0 : State} (c : CtxN) (f : StepF) (s : State) (hk : Keeps a0 s) :
    ∃ next, execStepBr c f s = .next next ∧ Keeps a0 next := by
  refine ⟨_, rfl, ?_⟩
  iterate 40 all_goals first
    | intro _ | with_reducible assumption | with_reducible apply plainStep_keeps | skip

theorem execStepLoop_keeps {a0 : State} (c : CtxN) (f : StepF) (s : State) (hk : Keeps a0 s) :
    ∃ next, execStepLoop c f s = .next next ∧ Keeps a0 next := by
  refine ⟨_, rfl, ?_⟩
  iterate 40 all_goals first
    | intro _ | with_reducible assumption | with_reducible apply plainStep_keeps | skip

theorem execStepMov_keeps {a0 : State} (c : CtxN) (f : StepF) (s : State) (hk : Keeps a0 s) :
    ∃ next, execStepMov c f s = .next next ∧ Keeps a0 next := by
  refine ⟨_, rfl, ?_⟩
  iterate 40 all_goals first
    | intro _ | with_reducible assumption | with_reducible apply plainStep_keeps | skip

theorem execStepCsel_keeps {a0 : State} (c : CtxN) (f : StepF) (s : State) (hk : Keeps a0 s) :
    ∃ next, execStepCsel c f s = .next next ∧ Keeps a0 next := by
  refine ⟨_, rfl, ?_⟩
  iterate 40 all_goals first
    | intro _ | with_reducible assumption | with_reducible apply plainStep_keeps | skip

theorem execStepSext_keeps {a0 : State} (c : CtxN) (f : StepF) (s : State) (hk : Keeps a0 s) :
    ∃ next, execStepSext c f s = .next next ∧ Keeps a0 next := by
  refine ⟨_, rfl, ?_⟩
  iterate 40 all_goals first
    | intro _ | with_reducible assumption | with_reducible apply plainStep_keeps | skip

theorem execStepAdd_keeps {a0 : State} (c : CtxN) (f : StepF) (s : State) (hk : Keeps a0 s) :
    ∃ next, execStepAdd c f s = .next next ∧ Keeps a0 next := by
  refine ⟨_, rfl, ?_⟩
  iterate 40 all_goals first
    | intro _ | with_reducible assumption | with_reducible apply aluStep_keeps | skip

theorem execStepAdc_keeps {a0 : State} (c : CtxN) (f : StepF) (s : State) (hk : Keeps a0 s) :
    ∃ next, execStepAdc c f s = .next next ∧ Keeps a0 next := by
  refine ⟨_, rfl, ?_⟩
  iterate 40 all_goals first
    | intro _ | with_reducible assumption | with_reducible apply aluStep_keeps | skip

theorem execStepSub_keeps {a0 : State} (c : CtxN) (f : StepF) (s : State) (hk : Keeps a0 s) :
    ∃ next, execStepSub c f s = .next next ∧ Keeps a0 next := by
  refine ⟨_, rfl, ?_⟩
  iterate 40 all_goals first
    | intro _ | with_reducible assumption | with_reducible apply aluStep_keeps | skip

theorem execStepSbb_keeps {a0 : State} (c : CtxN) (f : StepF) (s : State) (hk : Keeps a0 s) :
    ∃ next, execStepSbb c f s = .next next ∧ Keeps a0 next := by
  refine ⟨_, rfl, ?_⟩
  iterate 40 all_goals first
    | intro _ | with_reducible assumption | with_reducible apply aluStep_keeps | skip

theorem execStepNeg_keeps {a0 : State} (c : CtxN) (f : StepF) (s : State) (hk : Keeps a0 s) :
    ∃ next, execStepNeg c f s = .next next ∧ Keeps a0 next := by
  refine ⟨_, rfl, ?_⟩
  iterate 40 all_goals first
    | intro _ | with_reducible assumption | with_reducible apply aluStep_keeps | skip

theorem execStepCmp_keeps {a0 : State} (c : CtxN) (f : StepF) (s : State) (hk : Keeps a0 s) :
    ∃ next, execStepCmp c f s = .next next ∧ Keeps a0 next := by
  refine ⟨_, rfl, ?_⟩
  iterate 40 all_goals first
    | intro _ | with_reducible assumption | with_reducible apply flagStep_keeps | skip

theorem execStepMul_keeps {a0 : State} (c : CtxN) (f : StepF) (s : State) (hk : Keeps a0 s) :
    ∃ next, execStepMul c f s = .next next ∧ Keeps a0 next := by
  refine ⟨_, rfl, ?_⟩
  iterate 40 all_goals first
    | intro _ | with_reducible assumption | with_reducible apply aluStep_keeps | skip

theorem execStepMulhu_keeps {a0 : State} (c : CtxN) (f : StepF) (s : State) (hk : Keeps a0 s) :
    ∃ next, execStepMulhu c f s = .next next ∧ Keeps a0 next := by
  refine ⟨_, rfl, ?_⟩
  iterate 40 all_goals first
    | intro _ | with_reducible assumption | with_reducible apply aluStep_keeps | skip

theorem execStepMulhs_keeps {a0 : State} (c : CtxN) (f : StepF) (s : State) (hk : Keeps a0 s) :
    ∃ next, execStepMulhs c f s = .next next ∧ Keeps a0 next := by
  refine ⟨_, rfl, ?_⟩
  iterate 40 all_goals first
    | intro _ | with_reducible assumption | with_reducible apply aluStep_keeps | skip

theorem execStepDivu_keeps {a0 : State} (c : CtxN) (f : StepF) (s : State) (hk : Keeps a0 s) :
    ∃ next, execStepDivu c f s = .next next ∧ Keeps a0 next := by
  refine ⟨_, rfl, ?_⟩
  iterate 40 all_goals first
    | intro _ | with_reducible assumption | with_reducible apply divStep_keeps | skip

theorem execStepDivs_keeps {a0 : State} (c : CtxN) (f : StepF) (s : State) (hk : Keeps a0 s) :
    ∃ next, execStepDivs c f s = .next next ∧ Keeps a0 next := by
  refine ⟨_, rfl, ?_⟩
  iterate 40 all_goals first
    | intro _ | with_reducible assumption | with_reducible apply divStep_keeps | skip

theorem execStepRemu_keeps {a0 : State} (c : CtxN) (f : StepF) (s : State) (hk : Keeps a0 s) :
    ∃ next, execStepRemu c f s = .next next ∧ Keeps a0 next := by
  refine ⟨_, rfl, ?_⟩
  iterate 40 all_goals first
    | intro _ | with_reducible assumption | with_reducible apply divStep_keeps | skip

theorem execStepRems_keeps {a0 : State} (c : CtxN) (f : StepF) (s : State) (hk : Keeps a0 s) :
    ∃ next, execStepRems c f s = .next next ∧ Keeps a0 next := by
  refine ⟨_, rfl, ?_⟩
  iterate 40 all_goals first
    | intro _ | with_reducible assumption | with_reducible apply divStep_keeps | skip

theorem execStepMinu_keeps {a0 : State} (c : CtxN) (f : StepF) (s : State) (hk : Keeps a0 s) :
    ∃ next, execStepMinu c f s = .next next ∧ Keeps a0 next := by
  refine ⟨_, rfl, ?_⟩
  iterate 40 all_goals first
    | intro _ | with_reducible assumption | with_reducible apply aluStep_keeps | skip

theorem execStepMaxu_keeps {a0 : State} (c : CtxN) (f : StepF) (s : State) (hk : Keeps a0 s) :
    ∃ next, execStepMaxu c f s = .next next ∧ Keeps a0 next := by
  refine ⟨_, rfl, ?_⟩
  iterate 40 all_goals first
    | intro _ | with_reducible assumption | with_reducible apply aluStep_keeps | skip

theorem execStepMins_keeps {a0 : State} (c : CtxN) (f : StepF) (s : State) (hk : Keeps a0 s) :
    ∃ next, execStepMins c f s = .next next ∧ Keeps a0 next := by
  refine ⟨_, rfl, ?_⟩
  iterate 40 all_goals first
    | intro _ | with_reducible assumption | with_reducible apply aluStep_keeps | skip

theorem execStepMaxs_keeps {a0 : State} (c : CtxN) (f : StepF) (s : State) (hk : Keeps a0 s) :
    ∃ next, execStepMaxs c f s = .next next ∧ Keeps a0 next := by
  refine ⟨_, rfl, ?_⟩
  iterate 40 all_goals first
    | intro _ | with_reducible assumption | with_reducible apply aluStep_keeps | skip

theorem execStepAnd_keeps {a0 : State} (c : CtxN) (f : StepF) (s : State) (hk : Keeps a0 s) :
    ∃ next, execStepAnd c f s = .next next ∧ Keeps a0 next := by
  refine ⟨_, rfl, ?_⟩
  iterate 40 all_goals first
    | intro _ | with_reducible assumption | with_reducible apply aluStep_keeps | skip

theorem execStepOr_keeps {a0 : State} (c : CtxN) (f : StepF) (s : State) (hk : Keeps a0 s) :
    ∃ next, execStepOr c f s = .next next ∧ Keeps a0 next := by
  refine ⟨_, rfl, ?_⟩
  iterate 40 all_goals first
    | intro _ | with_reducible assumption | with_reducible apply aluStep_keeps | skip

theorem execStepXor_keeps {a0 : State} (c : CtxN) (f : StepF) (s : State) (hk : Keeps a0 s) :
    ∃ next, execStepXor c f s = .next next ∧ Keeps a0 next := by
  refine ⟨_, rfl, ?_⟩
  iterate 40 all_goals first
    | intro _ | with_reducible assumption | with_reducible apply aluStep_keeps | skip

theorem execStepTst_keeps {a0 : State} (c : CtxN) (f : StepF) (s : State) (hk : Keeps a0 s) :
    ∃ next, execStepTst c f s = .next next ∧ Keeps a0 next := by
  refine ⟨_, rfl, ?_⟩
  iterate 40 all_goals first
    | intro _ | with_reducible assumption | with_reducible apply flagStep_keeps | skip

theorem execStepLsl_keeps {a0 : State} (c : CtxN) (f : StepF) (s : State) (hk : Keeps a0 s) :
    ∃ next, execStepLsl c f s = .next next ∧ Keeps a0 next := by
  refine ⟨_, rfl, ?_⟩
  iterate 40 all_goals first
    | intro _ | with_reducible assumption | with_reducible apply shiftStep_keeps | skip

theorem execStepLsr_keeps {a0 : State} (c : CtxN) (f : StepF) (s : State) (hk : Keeps a0 s) :
    ∃ next, execStepLsr c f s = .next next ∧ Keeps a0 next := by
  refine ⟨_, rfl, ?_⟩
  iterate 40 all_goals first
    | intro _ | with_reducible assumption | with_reducible apply shiftStep_keeps | skip

theorem execStepAsr_keeps {a0 : State} (c : CtxN) (f : StepF) (s : State) (hk : Keeps a0 s) :
    ∃ next, execStepAsr c f s = .next next ∧ Keeps a0 next := by
  refine ⟨_, rfl, ?_⟩
  iterate 40 all_goals first
    | intro _ | with_reducible assumption | with_reducible apply shiftStep_keeps | skip

theorem execStepRol_keeps {a0 : State} (c : CtxN) (f : StepF) (s : State) (hk : Keeps a0 s) :
    ∃ next, execStepRol c f s = .next next ∧ Keeps a0 next := by
  refine ⟨_, rfl, ?_⟩
  iterate 40 all_goals first
    | intro _ | with_reducible assumption | with_reducible apply shiftStep_keeps | skip

theorem execStepRor_keeps {a0 : State} (c : CtxN) (f : StepF) (s : State) (hk : Keeps a0 s) :
    ∃ next, execStepRor c f s = .next next ∧ Keeps a0 next := by
  refine ⟨_, rfl, ?_⟩
  iterate 40 all_goals first
    | intro _ | with_reducible assumption | with_reducible apply shiftStep_keeps | skip

theorem execStepPopc_keeps {a0 : State} (c : CtxN) (f : StepF) (s : State) (hk : Keeps a0 s) :
    ∃ next, execStepPopc c f s = .next next ∧ Keeps a0 next := by
  refine ⟨_, rfl, ?_⟩
  iterate 40 all_goals first
    | intro _ | with_reducible assumption | with_reducible apply aluStep_keeps | skip

theorem execStepClz_keeps {a0 : State} (c : CtxN) (f : StepF) (s : State) (hk : Keeps a0 s) :
    ∃ next, execStepClz c f s = .next next ∧ Keeps a0 next := by
  refine ⟨_, rfl, ?_⟩
  iterate 40 all_goals first
    | intro _ | with_reducible assumption | with_reducible apply aluStep_keeps | skip

theorem execStepBswap_keeps {a0 : State} (c : CtxN) (f : StepF) (s : State) (hk : Keeps a0 s) :
    ∃ next, execStepBswap c f s = .next next ∧ Keeps a0 next := by
  refine ⟨_, rfl, ?_⟩
  iterate 40 all_goals first
    | intro _ | with_reducible assumption | with_reducible apply aluStep_keeps | skip

theorem execStepCrc_keeps {a0 : State} (c : CtxN) (f : StepF) (s : State) (hk : Keeps a0 s) :
    ∃ next, execStepCrc c f s = .next next ∧ Keeps a0 next := by
  refine ⟨_, rfl, ?_⟩
  iterate 40 all_goals first
    | intro _ | with_reducible assumption | with_reducible apply plainStep_keeps | skip

theorem execStepLcrc_keeps {a0 : State} (c : CtxN) (f : StepF) (s : State) (hk : Keeps a0 s) :
    ∃ next, execStepLcrc c f s = .next next ∧ Keeps a0 next := by
  refine ⟨_, rfl, ?_⟩
  iterate 40 all_goals first
    | intro _ | with_reducible assumption | with_reducible apply memStep_keeps | skip

theorem execStepSld_keeps {a0 : State} (c : CtxN) (f : StepF) (s : State) (hk : Keeps a0 s) :
    ∃ next, execStepSld c f s = .next next ∧ Keeps a0 next := by
  refine ⟨_, rfl, ?_⟩
  iterate 40 all_goals first
    | intro _ | with_reducible assumption | with_reducible apply scratchStep_keeps | skip

theorem execStepSst_keeps {a0 : State} (c : CtxN) (f : StepF) (s : State) (hk : Keeps a0 s) :
    ∃ next, execStepSst c f s = .next next ∧ Keeps a0 next := by
  refine ⟨_, rfl, ?_⟩
  iterate 40 all_goals first
    | intro _ | with_reducible assumption | with_reducible apply scratchStep_keeps | skip

theorem execStepLd_keeps {a0 : State} (c : CtxN) (f : StepF) (s : State) (hk : Keeps a0 s) :
    ∃ next, execStepLd c f s = .next next ∧ Keeps a0 next := by
  refine ⟨_, rfl, ?_⟩
  iterate 40 all_goals first
    | intro _ | with_reducible assumption | with_reducible apply memStep_keeps | skip

theorem execStepSt_keeps {a0 : State} (c : CtxN) (f : StepF) (s : State) (hk : Keeps a0 s) :
    ∃ next, execStepSt c f s = .next next ∧ Keeps a0 next := by
  refine ⟨_, rfl, ?_⟩
  iterate 40 all_goals first
    | intro _ | with_reducible assumption | with_reducible apply memStep_keeps | skip

theorem execStepLcopy_keeps {a0 : State} (c : CtxN) (f : StepF) (s : State) (hk : Keeps a0 s) :
    ∃ next, execStepLcopy c f s = .next next ∧ Keeps a0 next := by
  refine ⟨_, rfl, ?_⟩
  iterate 40 all_goals first
    | intro _ | with_reducible assumption | with_reducible apply memStep_keeps | skip

theorem execStepLfill_keeps {a0 : State} (c : CtxN) (f : StepF) (s : State) (hk : Keeps a0 s) :
    ∃ next, execStepLfill c f s = .next next ∧ Keeps a0 next := by
  refine ⟨_, rfl, ?_⟩
  iterate 40 all_goals first
    | intro _ | with_reducible assumption | with_reducible apply memStep_keeps | skip

theorem execStepLcmp_keeps {a0 : State} (c : CtxN) (f : StepF) (s : State) (hk : Keeps a0 s) :
    ∃ next, execStepLcmp c f s = .next next ∧ Keeps a0 next := by
  refine ⟨_, rfl, ?_⟩
  iterate 40 all_goals first
    | intro _ | with_reducible assumption | with_reducible apply memStep_keeps | skip

theorem execStepAadd_keeps {a0 : State} (c : CtxN) (f : StepF) (s : State) (hk : Keeps a0 s) :
    ∃ next, execStepAadd c f s = .next next ∧ Keeps a0 next := by
  refine ⟨_, rfl, ?_⟩
  iterate 40 all_goals first
    | intro _ | with_reducible assumption | with_reducible apply atomicStep_keeps | skip

theorem execStepAswp_keeps {a0 : State} (c : CtxN) (f : StepF) (s : State) (hk : Keeps a0 s) :
    ∃ next, execStepAswp c f s = .next next ∧ Keeps a0 next := by
  refine ⟨_, rfl, ?_⟩
  iterate 40 all_goals first
    | intro _ | with_reducible assumption | with_reducible apply atomicStep_keeps | skip

theorem execStepAcas_keeps {a0 : State} (c : CtxN) (f : StepF) (s : State) (hk : Keeps a0 s) :
    ∃ next, execStepAcas c f s = .next next ∧ Keeps a0 next := by
  refine ⟨_, rfl, ?_⟩
  iterate 40 all_goals first
    | intro _ | with_reducible assumption | with_reducible apply atomicStep_keeps | skip

theorem execStepAcas128_keeps {a0 : State} (c : CtxN) (f : StepF) (s : State) (hk : Keeps a0 s) :
    ∃ next, execStepAcas128 c f s = .next next ∧ Keeps a0 next := by
  refine ⟨_, rfl, ?_⟩
  iterate 40 all_goals first
    | intro _ | with_reducible assumption | with_reducible apply atomicStep_keeps | skip

theorem execStepXld_keeps {a0 : State} (c : CtxN) (f : StepF) (s : State) (hk : Keeps a0 s) :
    ∃ next, execStepXld c f s = .next next ∧ Keeps a0 next := by
  refine ⟨_, rfl, ?_⟩
  iterate 40 all_goals first
    | intro _ | with_reducible assumption | with_reducible apply hostStep_keeps | with_reducible apply hostFetch_keeps | skip

theorem execStepXst_keeps {a0 : State} (c : CtxN) (f : StepF) (s : State) (hk : Keeps a0 s) :
    ∃ next, execStepXst c f s = .next next ∧ Keeps a0 next := by
  refine ⟨_, rfl, ?_⟩
  iterate 40 all_goals first
    | intro _ | with_reducible assumption | with_reducible apply hostStep_keeps | with_reducible apply startPend_keeps
    | with_reducible apply emit_keeps | skip

theorem execStepXcpy_keeps {a0 : State} (c : CtxN) (f : StepF) (s : State) (hk : Keeps a0 s) :
    ∃ next, execStepXcpy c f s = .next next ∧ Keeps a0 next := by
  refine ⟨_, rfl, ?_⟩
  iterate 40 all_goals first
    | intro _ | with_reducible assumption | with_reducible apply xcpyStep_keeps | skip

theorem execStepHld_keeps {a0 : State} (c : CtxN) (f : StepF) (s : State) (hk : Keeps a0 s) :
    ∃ next, execStepHld c f s = .next next ∧ Keeps a0 next := by
  refine ⟨_, rfl, ?_⟩
  iterate 40 all_goals first
    | intro _ | with_reducible assumption | with_reducible apply memStep_keeps | skip

theorem execStepHcmt_keeps {a0 : State} (c : CtxN) (f : StepF) (s : State) (hk : Keeps a0 s) :
    ∃ next, execStepHcmt c f s = .next next ∧ Keeps a0 next := by
  refine ⟨_, rfl, ?_⟩
  iterate 40 all_goals first
    | intro _ | with_reducible assumption | with_reducible apply memStep_keeps | skip

theorem execUndefinedStep_keeps {a0 : State} (c : CtxN) (w : BitVec 128) (s : State) (hk : Keeps a0 s) :
    ∃ next, execUndefinedStep c w s = .next next ∧ Keeps a0 next := by
  refine ⟨_, rfl, ?_⟩
  iterate 40 all_goals first
    | intro _ | with_reducible assumption | with_reducible apply spendCycle_keeps | with_reducible apply stepFault_keeps
    | with_reducible apply faultStep_keeps | with_reducible apply Keeps.ite | skip

theorem execTargetModeWrite_keeps {a0 : State} (r : Requester) (v : Byte) (s : State) (hk : Keeps a0 s) :
    ∃ next, execTargetModeWrite r v s = .next next ∧ Keeps a0 next := by
  refine ⟨_, rfl, ?_⟩
  iterate 40 all_goals first
    | intro _ | with_reducible assumption | with_reducible apply rowWrite_keeps | with_reducible apply targetModeWrite_keeps | skip

theorem execQuiesceComplete_keeps {a0 : State} (s : State) (hk : Keeps a0 s) :
    ∃ next, execQuiesceComplete s = .next next ∧ Keeps a0 next := by
  refine ⟨_, rfl, ?_⟩
  iterate 40 all_goals first
    | intro _ | with_reducible assumption | with_reducible apply applyMode_keeps | with_reducible apply KeepsP.fst | dsimp only | split | skip

theorem execQuiesceTimeout_keeps {a0 : State} (s : State) (hk : Keeps a0 s) :
    ∃ next, execQuiesceTimeout s = .next next ∧ Keeps a0 next := by
  refine ⟨_, rfl, ?_⟩
  iterate 40 all_goals first
    | intro _ | with_reducible assumption | with_reducible apply failMode_keeps | with_reducible apply KeepsP.fst | dsimp only | split | skip

theorem execDrainComplete_keeps {a0 : State} (s : State) (hk : Keeps a0 s) :
    ∃ next, execDrainComplete s = .next next ∧ Keeps a0 next := by
  refine ⟨_, rfl, ?_⟩
  iterate 40 all_goals first
    | intro _ | with_reducible assumption | with_reducible apply drainEnds_keeps | with_reducible apply KeepsP.fst | dsimp only | split | skip

theorem execDrainTimeout_keeps {a0 : State} (s : State) (hk : Keeps a0 s) :
    ∃ next, execDrainTimeout s = .next next ∧ Keeps a0 next := by
  refine ⟨_, rfl, ?_⟩
  iterate 40 all_goals first
    | intro _ | with_reducible assumption | with_reducible apply failMode_keeps | with_reducible apply KeepsP.fst | dsimp only | split | skip

theorem execRoleChangeTimeout_keeps {a0 : State} (s : State) (hk : Keeps a0 s) :
    ∃ next, execRoleChangeTimeout s = .next next ∧ Keeps a0 next := by
  refine ⟨_, rfl, ?_⟩
  iterate 40 all_goals first
    | intro _ | with_reducible assumption | with_reducible apply finishMode_keeps | with_reducible apply KeepsP.fst | dsimp only | split | skip

theorem execCfgInstall_keeps {a0 : State} (r : Requester) (s : State) (hk : Keeps a0 s) :
    ∃ next, execCfgInstall r s = .next next ∧ Keeps a0 next := by
  refine ⟨_, rfl, ?_⟩
  iterate 40 all_goals first
    | intro _ | with_reducible assumption | with_reducible apply rowWrite_keeps | with_reducible apply installWrite_keeps | skip

theorem execInstallComplete_keeps {a0 : State} (err : Byte) (s : State) (hk : Keeps a0 s) :
    ∃ next, execInstallComplete err s = .next next ∧ Keeps a0 next := by
  refine ⟨_, rfl, ?_⟩
  iterate 40 all_goals first
    | intro _ | with_reducible assumption | with_reducible apply installEnd_keeps | skip

theorem execCfgActivate_keeps {a0 : State} (r : Requester) (s : State) (hk : Keeps a0 s) :
    ∃ next, execCfgActivate r s = .next next ∧ Keeps a0 next := by
  refine ⟨_, rfl, ?_⟩
  iterate 40 all_goals first
    | intro _ | with_reducible assumption | with_reducible apply rowWrite_keeps | with_reducible apply cfgActivateWrite_keeps | skip

theorem execCommitDelta_keeps {a0 : State} (r : Requester) (s : State) (hk : Keeps a0 s) :
    ∃ next, execCommitDelta r s = .next next ∧ Keeps a0 next := by
  refine ⟨_, rfl, ?_⟩
  iterate 40 all_goals first
    | intro _ | with_reducible assumption | with_reducible apply rowWrite_keeps | with_reducible apply commitWrite_keeps | skip

theorem execClearDelta_keeps {a0 : State} (r : Requester) (s : State) (hk : Keeps a0 s) :
    ∃ next, execClearDelta r s = .next next ∧ Keeps a0 next := by
  refine ⟨_, rfl, ?_⟩
  iterate 40 all_goals first
    | intro _ | with_reducible assumption | with_reducible apply rowWrite_keeps | with_reducible apply clearDeltaWrite_keeps | skip

theorem execCompatWrite_keeps {a0 : State} (off : Fin 2048) (v : BitVec 32) (s : State) (hk : Keeps a0 s) :
    ∃ next, execCompatWrite off v s = .next next ∧ Keeps a0 next := by
  refine ⟨_, rfl, ?_⟩
  iterate 40 all_goals first
    | intro _ | with_reducible assumption | with_reducible apply compatWriteAt_keeps
    | fail_if_no_progress (with_reducible apply KeepsP.mk' <;> try with_reducible apply KeepsP.fst) | with_reducible apply KeepsP.fst | dsimp only
    | split | skip

theorem execCompatStatusClear_keeps {a0 : State} (mask : BitVec 32) (setRefused : Bool) (s : State) (hk : Keeps a0 s) :
    ∃ next, execCompatStatusClear mask setRefused s = .next next ∧ Keeps a0 next := by
  refine ⟨_, rfl, ?_⟩
  iterate 40 all_goals first
    | intro _ | with_reducible assumption | with_reducible apply compatClear_keeps
    | fail_if_no_progress (with_reducible apply KeepsP.mk' <;> try with_reducible apply KeepsP.fst) | with_reducible apply KeepsP.fst | dsimp only
    | split | skip

theorem execSlotTarget_keeps {a0 : State} (r : Requester) (n : SlotN) (v : Byte) (s : State) (hk : Keeps a0 s) :
    ∃ next, execSlotTarget r n v s = .next next ∧ Keeps a0 next := by
  refine ⟨_, rfl, ?_⟩
  iterate 40 all_goals first
    | intro _ | with_reducible assumption | with_reducible apply rowWrite_keeps | with_reducible apply slotTargetWrite_keeps | skip

theorem execPowerControllerControl_keeps {a0 : State} (p : PortN) (on : Bool) (s : State) (hk : Keeps a0 s) :
    ∃ next, execPowerControllerControl p on s = .next next ∧ Keeps a0 next := by
  refine ⟨_, rfl, ?_⟩
  iterate 40 all_goals first
    | intro _ | with_reducible assumption | with_reducible apply powerControl_keeps | skip

theorem execSlotEnRise_keeps {a0 : State} (n : SlotN) (lowFor10ms : Bool) (s : State) (hk : Keeps a0 s) :
    ∃ next, execSlotEnRise n lowFor10ms s = .next next ∧ Keeps a0 next := by
  refine ⟨_, rfl, ?_⟩
  iterate 40 all_goals first
    | intro _ | with_reducible assumption | with_reducible apply slotEnRises_keeps | skip

theorem execSlotEnFall_keeps {a0 : State} (n : SlotN) (s : State) (hk : Keeps a0 s) :
    ∃ next, execSlotEnFall n s = .next next ∧ Keeps a0 next := by
  refine ⟨_, rfl, ?_⟩
  iterate 40 all_goals first
    | intro _ | with_reducible assumption | with_reducible apply slotEnFalls_keeps | skip

theorem execSlotStagger_keeps {a0 : State} (n : SlotN) (s : State) (hk : Keeps a0 s) :
    ∃ next, execSlotStagger n s = .next next ∧ Keeps a0 next := by
  refine ⟨_, rfl, ?_⟩
  iterate 40 all_goals first
    | intro _ | with_reducible assumption | with_reducible apply wr_keeps | with_reducible apply KeepsP.fst | dsimp only | split | skip

theorem execPowerGood_keeps {a0 : State} (n : SlotN) (energy : BitVec 32) (s : State) (hk : Keeps a0 s) :
    ∃ next, execPowerGood n energy s = .next next ∧ Keeps a0 next := by
  refine ⟨_, rfl, ?_⟩
  iterate 40 all_goals first
    | intro _ | with_reducible assumption | with_reducible apply slotGood_keeps | skip

theorem execStartTimeout_keeps {a0 : State} (n : SlotN) (s : State) (hk : Keeps a0 s) :
    ∃ next, execStartTimeout n s = .next next ∧ Keeps a0 next := by
  refine ⟨_, rfl, ?_⟩
  iterate 40 all_goals first
    | intro _ | with_reducible assumption | with_reducible apply tripSlot_keeps | with_reducible apply KeepsP.fst | dsimp only | split | skip

theorem execBreakerTrip_keeps {a0 : State} (n : SlotN) (s : State) (hk : Keeps a0 s) :
    ∃ next, execBreakerTrip n s = .next next ∧ Keeps a0 next := by
  refine ⟨_, rfl, ?_⟩
  iterate 40 all_goals first
    | intro _ | with_reducible assumption | with_reducible apply tripOn_keeps | skip

theorem execFastTrip_keeps {a0 : State} (n : SlotN) (ch : Chan) (s : State) (hk : Keeps a0 s) :
    ∃ next, execFastTrip n ch s = .next next ∧ Keeps a0 next := by
  refine ⟨_, rfl, ?_⟩
  iterate 40 all_goals first
    | intro _ | with_reducible assumption | with_reducible apply tripOn_keeps | with_reducible apply KeepsP.fst
    | fail_if_no_progress (with_reducible refine Keeps.lit rfl rfl rfl rfl rfl rfl rfl rfl ?_) | dsimp only | split | skip

theorem execFetTemperatureTrip_keeps {a0 : State} (n : SlotN) (s : State) (hk : Keeps a0 s) :
    ∃ next, execFetTemperatureTrip n s = .next next ∧ Keeps a0 next := by
  refine ⟨_, rfl, ?_⟩
  iterate 40 all_goals first
    | intro _ | with_reducible assumption | with_reducible apply tripOn_keeps | skip

theorem execModelUpdate_keeps {a0 : State} (n : SlotN) (m : Meas) (s : State) (hk : Keeps a0 s) :
    ∃ next, execModelUpdate n m s = .next next ∧ Keeps a0 next := by
  refine ⟨_, rfl, ?_⟩
  iterate 40 all_goals first
    | intro _ | with_reducible assumption | with_reducible apply measureSlot_keeps | skip

theorem execChannelCheck_keeps {a0 : State} (n : SlotN) (aGood bGood : Bool) (s : State) (hk : Keeps a0 s) :
    ∃ next, execChannelCheck n aGood bGood s = .next next ∧ Keeps a0 next := by
  refine ⟨_, rfl, ?_⟩
  iterate 40 all_goals first
    | intro _ | with_reducible assumption | with_reducible apply checkChannels_keeps | skip

theorem execChannelDisagreement_keeps {a0 : State} (n : SlotN) (a b : BitVec 32) (s : State) (hk : Keeps a0 s) :
    ∃ next, execChannelDisagreement n a b s = .next next ∧ Keeps a0 next := by
  refine ⟨_, rfl, ?_⟩
  iterate 40 all_goals first
    | intro _ | with_reducible assumption | with_reducible apply channelsDisagree_keeps | skip

theorem execSlotPwrwarn_keeps {a0 : State} (n : SlotN) (vin : BitVec 16) (s : State) (hk : Keeps a0 s) :
    ∃ next, execSlotPwrwarn n vin s = .next next ∧ Keeps a0 next := by
  refine ⟨_, rfl, ?_⟩
  iterate 40 all_goals first
    | intro _ | with_reducible assumption | with_reducible apply warnSlot_keeps | with_reducible apply slotSeesVin_keeps | skip

theorem execPwrwarnRecovery_keeps {a0 : State} (n : SlotN) (s : State) (hk : Keeps a0 s) :
    ∃ next, execPwrwarnRecovery n s = .next next ∧ Keeps a0 next := by
  refine ⟨_, rfl, ?_⟩
  iterate 40 all_goals first
    | intro _ | with_reducible assumption | with_reducible apply unwarnSlot_keeps | skip

theorem execInputLoss_keeps {a0 : State} (n : SlotN) (k : LossKind) (s : State) (hk : Keeps a0 s) :
    ∃ next, execInputLoss n k s = .next next ∧ Keeps a0 next := by
  refine ⟨_, rfl, ?_⟩
  iterate 40 all_goals first
    | intro _ | with_reducible assumption | with_reducible apply inputStop_keeps | skip

theorem execWarningLeadEnd_keeps {a0 : State} (n : SlotN) (s : State) (hk : Keeps a0 s) :
    ∃ next, execWarningLeadEnd n s = .next next ∧ Keeps a0 next := by
  refine ⟨_, rfl, ?_⟩
  iterate 40 all_goals first
    | intro _ | with_reducible assumption | with_reducible apply stopSlot_keeps | with_reducible apply KeepsP.fst | dsimp only | split | skip

theorem execStopComplete_keeps {a0 : State} (n : SlotN) (s : State) (hk : Keeps a0 s) :
    ∃ next, execStopComplete n s = .next next ∧ Keeps a0 next := by
  refine ⟨_, rfl, ?_⟩
  iterate 40 all_goals first
    | intro _ | with_reducible assumption | with_reducible apply tryStart_keeps | with_reducible apply wr_keeps | with_reducible apply KeepsP.fst
    | dsimp only | split | skip

theorem execOffTimeEnd_keeps {a0 : State} (n : SlotN) (s : State) (hk : Keeps a0 s) :
    ∃ next, execOffTimeEnd n s = .next next ∧ Keeps a0 next := by
  refine ⟨_, rfl, ?_⟩
  iterate 40 all_goals first
    | intro _ | with_reducible assumption | with_reducible apply tryStart_keeps | with_reducible apply setSlot_keeps | skip

theorem execOdpHello_keeps {a0 : State} (t : Transport) (m : OdpMsg) (s : State) (hk : Keeps a0 s) :
    ∃ next, execOdpHello t m s = .next next ∧ Keeps a0 next := by
  refine ⟨_, rfl, ?_⟩
  iterate 40 all_goals first
    | intro _ | with_reducible assumption | with_reducible apply odpRequest_keeps | skip

theorem execOdpOpen_keeps {a0 : State} (t : Transport) (m : OdpMsg) (s : State) (hk : Keeps a0 s) :
    ∃ next, execOdpOpen t m s = .next next ∧ Keeps a0 next := by
  refine ⟨_, rfl, ?_⟩
  iterate 40 all_goals first
    | intro _ | with_reducible assumption | with_reducible apply odpRequest_keeps | skip

theorem execOdpClose_keeps {a0 : State} (t : Transport) (m : OdpMsg) (s : State) (hk : Keeps a0 s) :
    ∃ next, execOdpClose t m s = .next next ∧ Keeps a0 next := by
  refine ⟨_, rfl, ?_⟩
  iterate 40 all_goals first
    | intro _ | with_reducible assumption | with_reducible apply odpRequest_keeps | skip

theorem execOdpRead_keeps {a0 : State} (t : Transport) (m : OdpMsg) (s : State) (hk : Keeps a0 s) :
    ∃ next, execOdpRead t m s = .next next ∧ Keeps a0 next := by
  refine ⟨_, rfl, ?_⟩
  iterate 40 all_goals first
    | intro _ | with_reducible assumption | with_reducible apply odpRequest_keeps | skip

theorem execOdpWrite_keeps {a0 : State} (t : Transport) (m : OdpMsg) (s : State) (hk : Keeps a0 s) :
    ∃ next, execOdpWrite t m s = .next next ∧ Keeps a0 next := by
  refine ⟨_, rfl, ?_⟩
  iterate 40 all_goals first
    | intro _ | with_reducible assumption | with_reducible apply odpRequest_keeps | skip

theorem execOdpReadChunk_keeps {a0 : State} (t : Transport) (m : OdpMsg) (s : State) (hk : Keeps a0 s) :
    ∃ next, execOdpReadChunk t m s = .next next ∧ Keeps a0 next := by
  refine ⟨_, rfl, ?_⟩
  iterate 40 all_goals first
    | intro _ | with_reducible assumption | with_reducible apply odpRequest_keeps | skip

theorem execOdpWriteChunk_keeps {a0 : State} (t : Transport) (m : OdpMsg) (s : State) (hk : Keeps a0 s) :
    ∃ next, execOdpWriteChunk t m s = .next next ∧ Keeps a0 next := by
  refine ⟨_, rfl, ?_⟩
  iterate 40 all_goals first
    | intro _ | with_reducible assumption | with_reducible apply odpRequest_keeps | skip

theorem execOdpDescribe_keeps {a0 : State} (t : Transport) (m : OdpMsg) (s : State) (hk : Keeps a0 s) :
    ∃ next, execOdpDescribe t m s = .next next ∧ Keeps a0 next := by
  refine ⟨_, rfl, ?_⟩
  iterate 40 all_goals first
    | intro _ | with_reducible assumption | with_reducible apply odpRequest_keeps | skip

theorem execOdpSubscribe_keeps {a0 : State} (t : Transport) (m : OdpMsg) (s : State) (hk : Keeps a0 s) :
    ∃ next, execOdpSubscribe t m s = .next next ∧ Keeps a0 next := by
  refine ⟨_, rfl, ?_⟩
  iterate 40 all_goals first
    | intro _ | with_reducible assumption | with_reducible apply odpRequest_keeps | skip

theorem execOdpKeepalive_keeps {a0 : State} (t : Transport) (m : OdpMsg) (s : State) (hk : Keeps a0 s) :
    ∃ next, execOdpKeepalive t m s = .next next ∧ Keeps a0 next := by
  refine ⟨_, rfl, ?_⟩
  iterate 40 all_goals first
    | intro _ | with_reducible assumption | with_reducible apply odpRequest_keeps | skip

theorem execSessionIdleTimeout_keeps {a0 : State} (sid : BitVec 32) (s : State) (hk : Keeps a0 s) :
    ∃ next, execSessionIdleTimeout sid s = .next next ∧ Keeps a0 next := by
  refine ⟨_, rfl, ?_⟩
  iterate 40 all_goals first
    | intro _ | with_reducible assumption | with_reducible apply dropSession_keeps | skip

theorem execDictionaryReady_keeps {a0 : State} (s : State) (hk : Keeps a0 s) :
    ∃ next, execDictionaryReady s = .next next ∧ Keeps a0 next := by
  refine ⟨_, rfl, ?_⟩
  iterate 40 all_goals first
    | intro _ | with_reducible assumption | with_reducible apply dictionaryReady_keeps | skip

theorem execObjectWrite_keeps {a0 : State} (w : RegWrite) (s : State) (hk : Keeps a0 s) :
    ∃ next, execObjectWrite w s = .next next ∧ Keeps a0 next := by
  refine ⟨_, rfl, ?_⟩
  iterate 40 all_goals first
    | intro _ | with_reducible assumption | with_reducible apply writeItem_keeps | with_reducible apply promisedReset_keeps
    | with_reducible apply emit_keeps | with_reducible apply writeChunk_keeps | with_reducible apply windowWrite_keeps
    | with_reducible apply KeepsP.fst | dsimp only | split | skip

theorem execActualViewChange_keeps {a0 : State} (u : ViewUnit) (v : Byte) (s : State) (hk : Keeps a0 s) :
    ∃ next, execActualViewChange u v s = .next next ∧ Keeps a0 next := by
  refine ⟨_, rfl, ?_⟩
  iterate 40 all_goals first
    | intro _ | with_reducible assumption | with_reducible apply settleViews_keeps | with_reducible apply wr_keeps
    | with_reducible apply Keeps.ite | with_reducible apply KeepsP.ite | with_reducible apply KeepsP.fst | dsimp only | split | skip

theorem execStateSkew_keeps {a0 : State} (u : ViewUnit) (s : State) (hk : Keeps a0 s) :
    ∃ next, execStateSkew u s = .next next ∧ Keeps a0 next := by
  refine ⟨_, rfl, ?_⟩
  iterate 40 all_goals first
    | intro _ | with_reducible assumption | with_reducible apply settleViews_keeps | with_reducible apply raiseEv_keeps
    | with_reducible apply Keeps.ite | with_reducible apply KeepsP.ite | with_reducible apply KeepsP.fst
    | fail_if_no_progress (with_reducible refine Keeps.lit rfl rfl rfl rfl rfl rfl rfl rfl ?_) | skip

theorem execOdwGo_keeps {a0 : State} (s : State) (hk : Keeps a0 s) :
    ∃ next, execOdwGo s = .next next ∧ Keeps a0 next := by
  refine ⟨_, rfl, ?_⟩
  iterate 40 all_goals first
    | intro _ | with_reducible assumption | with_reducible apply windowGo_keeps | skip

theorem execOdwDone_keeps {a0 : State} (s : State) (hk : Keeps a0 s) :
    ∃ next, execOdwDone s = .next next ∧ Keeps a0 next := by
  refine ⟨_, rfl, ?_⟩
  iterate 40 all_goals first
    | intro _ | with_reducible assumption | with_reducible apply windowDone_keeps | skip

theorem execOdwStatusClear_keeps {a0 : State} (mask : BitVec 32) (setDone setOverrun : Bool) (s : State) (hk : Keeps a0 s) :
    ∃ next, execOdwStatusClear mask setDone setOverrun s = .next next ∧ Keeps a0 next := by
  refine ⟨_, rfl, ?_⟩
  iterate 40 all_goals first
    | intro _ | with_reducible assumption | with_reducible apply windowDone_keeps | with_reducible apply Keeps.ite
    | with_reducible apply KeepsP.ite | with_reducible apply KeepsP.fst
    | fail_if_no_progress (with_reducible refine Keeps.lit rfl rfl rfl rfl rfl rfl rfl rfl ?_) | skip

theorem execEndpointDiscovery_keeps {a0 : State} (s : State) (hk : Keeps a0 s) :
    ∃ next, execEndpointDiscovery s = .next next ∧ Keeps a0 next := by
  refine ⟨_, rfl, ?_⟩
  iterate 40 all_goals first
    | intro _ | with_reducible assumption | with_reducible apply mctpControl_keeps | with_reducible apply emit_keeps | skip

theorem execEidAssignment_keeps {a0 : State} (eid : Byte) (s : State) (hk : Keeps a0 s) :
    ∃ next, execEidAssignment eid s = .next next ∧ Keeps a0 next := by
  refine ⟨_, rfl, ?_⟩
  iterate 40 all_goals first
    | intro _ | with_reducible assumption | with_reducible apply mctpControl_keeps | with_reducible apply emit_keeps
    | with_reducible apply wr_keeps | with_reducible apply Keeps.ite | skip

theorem execVersionQuery_keeps {a0 : State} (mtype : Byte) (s : State) (hk : Keeps a0 s) :
    ∃ next, execVersionQuery mtype s = .next next ∧ Keeps a0 next := by
  refine ⟨_, rfl, ?_⟩
  iterate 40 all_goals first
    | intro _ | with_reducible assumption | with_reducible apply mctpControl_keeps | with_reducible apply emit_keeps | skip

theorem execDictionaryRequest_keeps {a0 : State} (i : InstN) (msg : List Byte) (s : State) (hk : Keeps a0 s) :
    ∃ next, execDictionaryRequest i msg s = .next next ∧ Keeps a0 next := by
  refine ⟨_, rfl, ?_⟩
  iterate 40 all_goals first
    | intro _ | with_reducible assumption | with_reducible apply vendorRun_keeps | with_reducible apply plainRequest_keeps
    | with_reducible apply mailboxReply_keeps | with_reducible apply Keeps.ite | with_reducible apply KeepsP.ite | with_reducible apply KeepsP.fst
    | dsimp only | split | skip

theorem execFwBegin_keeps {a0 : State} (r : Requester) (len : BitVec 32) (s : State) (hk : Keeps a0 s) :
    ∃ next, execFwBegin r len s = .next next ∧ Keeps a0 next := by
  refine ⟨_, rfl, ?_⟩
  iterate 40 all_goals first
    | intro _ | with_reducible assumption | with_reducible apply rowWrite_keeps | with_reducible apply beginWrite_keeps | skip

theorem execFwDownload_keeps {a0 : State} (r : Requester) (start : BitVec 32) (data : List Byte) (readBackOk : Bool) (s : State) (hk : Keeps a0 s) :
    ∃ next, execFwDownload r start data readBackOk s = .next next ∧ Keeps a0 next := by
  refine ⟨_, rfl, ?_⟩
  iterate 40 all_goals first
    | intro _ | with_reducible assumption | with_reducible apply rowChunk_keeps | with_reducible apply downloadWrite_keeps | skip

theorem execFwVerify_keeps {a0 : State} (r : Requester) (s : State) (hk : Keeps a0 s) :
    ∃ next, execFwVerify r s = .next next ∧ Keeps a0 next := by
  refine ⟨_, rfl, ?_⟩
  iterate 40 all_goals first
    | intro _ | with_reducible assumption | with_reducible apply rowWrite_keeps | with_reducible apply verifyWrite_keeps | skip

theorem execActivateFirmware_keeps {a0 : State} (r : Requester) (s : State) (hk : Keeps a0 s) :
    ∃ next, execActivateFirmware r s = .next next ∧ Keeps a0 next := by
  refine ⟨_, rfl, ?_⟩
  iterate 40 all_goals first
    | intro _ | with_reducible assumption | with_reducible apply rowWrite_keeps | with_reducible apply activateWrite_keeps | skip

theorem execApplyMicrocode_keeps {a0 : State} (r : Requester) (s : State) (hk : Keeps a0 s) :
    ∃ next, execApplyMicrocode r s = .next next ∧ Keeps a0 next := by
  refine ⟨_, rfl, ?_⟩
  iterate 40 all_goals first
    | intro _ | with_reducible assumption | with_reducible apply rowWrite_keeps | with_reducible apply applyWrite_keeps | skip

theorem execFwConfirm_keeps {a0 : State} (r : Requester) (s : State) (hk : Keeps a0 s) :
    ∃ next, execFwConfirm r s = .next next ∧ Keeps a0 next := by
  refine ⟨_, rfl, ?_⟩
  iterate 40 all_goals first
    | intro _ | with_reducible assumption | with_reducible apply rowWrite_keeps | with_reducible apply confirmWrite_keeps | skip

theorem execFwRevert_keeps {a0 : State} (r : Requester) (s : State) (hk : Keeps a0 s) :
    ∃ next, execFwRevert r s = .next next ∧ Keeps a0 next := by
  refine ⟨_, rfl, ?_⟩
  iterate 40 all_goals first
    | intro _ | with_reducible assumption | with_reducible apply rowWrite_keeps | with_reducible apply revertWrite_keeps | skip

theorem execSetCredential_keeps {a0 : State} (r : Requester) (v : List Byte) (s : State) (hk : Keeps a0 s) :
    ∃ next, execSetCredential r v s = .next next ∧ Keeps a0 next := by
  refine ⟨_, rfl, ?_⟩
  iterate 40 all_goals first
    | intro _ | with_reducible assumption | with_reducible apply rowWrite_keeps | with_reducible apply credentialWrite_keeps | skip

theorem execEnrollKey_keeps {a0 : State} (r : Requester) (v : List Byte) (s : State) (hk : Keeps a0 s) :
    ∃ next, execEnrollKey r v s = .next next ∧ Keeps a0 next := by
  refine ⟨_, rfl, ?_⟩
  iterate 40 all_goals first
    | intro _ | with_reducible assumption | with_reducible apply rowWrite_keeps | with_reducible apply enrollWrite_keeps | skip

theorem execRevokeKey_keeps {a0 : State} (r : Requester) (v : List Byte) (s : State) (hk : Keeps a0 s) :
    ∃ next, execRevokeKey r v s = .next next ∧ Keeps a0 next := by
  refine ⟨_, rfl, ?_⟩
  iterate 40 all_goals first
    | intro _ | with_reducible assumption | with_reducible apply rowWrite_keeps | with_reducible apply revokeWrite_keeps | skip

theorem execRaiseFloor_keeps {a0 : State} (r : Requester) (s : State) (hk : Keeps a0 s) :
    ∃ next, execRaiseFloor r s = .next next ∧ Keeps a0 next := by
  refine ⟨_, rfl, ?_⟩
  iterate 40 all_goals first
    | intro _ | with_reducible assumption | with_reducible apply rowWrite_keeps | with_reducible apply floorWrite_keeps | skip

theorem execRevokeRootKey_keeps {a0 : State} (r : Requester) (n : Fin 4) (s : State) (hk : Keeps a0 s) :
    ∃ next, execRevokeRootKey r n s = .next next ∧ Keeps a0 next := by
  refine ⟨_, rfl, ?_⟩
  iterate 40 all_goals first
    | intro _ | with_reducible assumption | with_reducible apply revokeRoot_keeps | with_reducible apply emit_keeps
    | with_reducible apply KeepsP.fst | dsimp only | split | skip

theorem execInvocationStart_keeps {a0 : State} (c : CtxN) (work : Option VendorWork) (s : State) (hk : Keeps a0 s) :
    ∃ next, execInvocationStart c work s = .next next ∧ Keeps a0 next := by
  refine ⟨_, rfl, ?_⟩
  iterate 40 all_goals first
    | intro _ | with_reducible assumption | with_reducible apply takeInvocation_keeps | with_reducible apply startVendor_keeps
    | with_reducible apply Keeps.ite | with_reducible apply KeepsP.ite | with_reducible apply KeepsP.fst | dsimp only | split | skip

theorem execBindingsWrite_keeps {a0 : State} (r : Requester) (e : EngineN) (start : Fin 64) (recs : List Byte) (s : State) (hk : Keeps a0 s) :
    ∃ next, execBindingsWrite r e start recs s = .next next ∧ Keeps a0 next := by
  refine ⟨_, rfl, ?_⟩
  iterate 40 all_goals first
    | intro _ | with_reducible assumption | with_reducible apply rowChunk_keeps | with_reducible apply bindingsChunk_keeps | skip

theorem execMemoryReply_keeps {a0 : State} (c : CtxN) (data : List Byte) (status : Byte) (s : State) (hk : Keeps a0 s) :
    ∃ next, execMemoryReply c data status s = .next next ∧ Keeps a0 next := by
  refine ⟨_, rfl, ?_⟩
  iterate 40 all_goals first
    | intro _ | with_reducible assumption | with_reducible apply memoryReply_keeps | skip

theorem execTimerExpiry_keeps {a0 : State} (c : CtxN) (s : State) (hk : Keeps a0 s) :
    ∃ next, execTimerExpiry c s = .next next ∧ Keeps a0 next := by
  refine ⟨_, rfl, ?_⟩
  iterate 40 all_goals first
    | intro _ | with_reducible assumption | with_reducible apply raiseExt_keeps | with_reducible apply setCtx_keeps
    | with_reducible apply Keeps.ite | skip

theorem execWaitCycle_keeps {a0 : State} (cl : ClusterN) (grp : Byte) (s : State) (hk : Keeps a0 s) :
    ∃ next, execWaitCycle cl grp s = .next next ∧ Keeps a0 next := by
  refine ⟨_, rfl, ?_⟩
  iterate 40 all_goals first
    | intro _ | with_reducible assumption | with_reducible apply waitCycle_keeps | skip

theorem execEngineFailure_keeps {a0 : State} (e : EngineN) (s : State) (hk : Keeps a0 s) :
    ∃ next, execEngineFailure e s = .next next ∧ Keeps a0 next := by
  refine ⟨_, rfl, ?_⟩
  iterate 40 all_goals first
    | intro _ | with_reducible assumption | with_reducible apply engineFails_keeps | skip

theorem execEngineOutOfService_keeps {a0 : State} (r : Requester) (e : EngineN) (s : State) (hk : Keeps a0 s) :
    ∃ next, execEngineOutOfService r e s = .next next ∧ Keeps a0 next := by
  refine ⟨_, rfl, ?_⟩
  iterate 40 all_goals first
    | intro _ | with_reducible assumption | with_reducible apply rowWrite_keeps | with_reducible apply engineTargetWrite_keeps | skip

theorem execEngineReturn_keeps {a0 : State} (r : Requester) (e : EngineN) (s : State) (hk : Keeps a0 s) :
    ∃ next, execEngineReturn r e s = .next next ∧ Keeps a0 next := by
  refine ⟨_, rfl, ?_⟩
  iterate 40 all_goals first
    | intro _ | with_reducible assumption | with_reducible apply rowWrite_keeps | with_reducible apply engineTargetWrite_keeps | skip

theorem execBuiltInCheckComplete_keeps {a0 : State} (e : EngineN) (ok : Bool) (s : State) (hk : Keeps a0 s) :
    ∃ next, execBuiltInCheckComplete e ok s = .next next ∧ Keeps a0 next := by
  refine ⟨_, rfl, ?_⟩
  iterate 40 all_goals first
    | intro _ | with_reducible assumption | with_reducible apply engineReturns_keeps | with_reducible apply raise_keeps
    | with_reducible apply Keeps.ite | with_reducible apply KeepsP.ite | with_reducible apply KeepsP.fst
    | fail_if_no_progress (with_reducible refine Keeps.lit rfl rfl rfl rfl rfl rfl rfl rfl ?_) | skip

theorem execContextMoveBack_keeps {a0 : State} (c : CtxN) (s : State) (hk : Keeps a0 s) :
    ∃ next, execContextMoveBack c s = .next next ∧ Keeps a0 next := by
  refine ⟨_, rfl, ?_⟩
  iterate 40 all_goals first
    | intro _ | with_reducible assumption | with_reducible apply moveBack_keeps | skip

theorem execTableLoad_keeps {a0 : State} (r : Requester) (owner : BitVec 16) (s : State) (hk : Keeps a0 s) :
    ∃ next, execTableLoad r owner s = .next next ∧ Keeps a0 next := by
  refine ⟨_, rfl, ?_⟩
  iterate 40 all_goals first
    | intro _ | with_reducible assumption | with_reducible apply rowWrite_keeps | with_reducible apply loadWrite_keeps | skip

theorem execTableUnload_keeps {a0 : State} (r : Requester) (tb : TableN) (s : State) (hk : Keeps a0 s) :
    ∃ next, execTableUnload r tb s = .next next ∧ Keeps a0 next := by
  refine ⟨_, rfl, ?_⟩
  iterate 40 all_goals first
    | intro _ | with_reducible assumption | with_reducible apply rowWrite_keeps | with_reducible apply unloadWrite_keeps | skip

theorem execUnloadTimeout_keeps {a0 : State} (tb : TableN) (s : State) (hk : Keeps a0 s) :
    ∃ next, execUnloadTimeout tb s = .next next ∧ Keeps a0 next := by
  refine ⟨_, rfl, ?_⟩
  iterate 40 all_goals first
    | intro _ | with_reducible assumption | with_reducible apply unloadExpires_keeps | skip

theorem execStopContext_keeps {a0 : State} (r : Requester) (e : EngineN) (v : Byte) (s : State) (hk : Keeps a0 s) :
    ∃ next, execStopContext r e v s = .next next ∧ Keeps a0 next := by
  refine ⟨_, rfl, ?_⟩
  iterate 40 all_goals first
    | intro _ | with_reducible assumption | with_reducible apply rowWrite_keeps | with_reducible apply stopWrite_keeps | skip

theorem execStepBisnp_keeps {a0 : State} (c : CtxN) (f : StepF) (p : PortN) (key : LineN) (s : State) (hk : Keeps a0 s) :
    ∃ next, execStepBisnp c f p key s = .next next ∧ Keeps a0 next := by
  refine ⟨_, rfl, ?_⟩
  iterate 40 all_goals first
    | intro _ | with_reducible assumption | with_reducible apply issue_keeps | with_reducible apply sendSnoop_keeps
    | with_reducible apply startPend_keeps | with_reducible apply Keeps.ite | skip

theorem execStepDlswap_keeps {a0 : State} (c : CtxN) (f : StepF) (i : InstN) (s : State) (hk : Keeps a0 s) :
    ∃ next, execStepDlswap c f i s = .next next ∧ Keeps a0 next := by
  refine ⟨_, rfl, ?_⟩
  iterate 40 all_goals first
    | intro _ | with_reducible assumption | with_reducible apply issue_keeps | with_reducible apply swapBitmaps_keeps
    | with_reducible apply retire_keeps | skip

theorem execStepCntrd_keeps {a0 : State} (c : CtxN) (f : StepF) (u : UnitN) (n : Byte) (s : State) (hk : Keeps a0 s) :
    ∃ next, execStepCntrd c f u n s = .next next ∧ Keeps a0 next := by
  refine ⟨_, rfl, ?_⟩
  iterate 40 all_goals first
    | intro _ | with_reducible assumption | with_reducible apply plainStep_keeps | skip

theorem execStepRmap_keeps {a0 : State} (c : CtxN) (f : StepF) (g : GranN) (take : Bool) (dest : BitVec 36) (s : State) (hk : Keeps a0 s) :
    ∃ next, execStepRmap c f g take dest s = .next next ∧ Keeps a0 next := by
  refine ⟨_, rfl, ?_⟩
  iterate 40 all_goals first
    | intro _ | with_reducible assumption | with_reducible apply issue_keeps | with_reducible apply remapWrite_keeps
    | with_reducible apply retire_keeps | skip

theorem execStepHeat_keeps {a0 : State} (c : CtxN) (f : StepF) (g : GranN) (wr : Option (BitVec 64)) (s : State) (hk : Keeps a0 s) :
    ∃ next, execStepHeat c f g wr s = .next next ∧ Keeps a0 next := by
  refine ⟨_, rfl, ?_⟩
  iterate 40 all_goals first
    | intro _ | with_reducible assumption | with_reducible apply wr_keeps | with_reducible apply plainStep_keeps
    | with_reducible apply issue_keeps | with_reducible apply heatWrite_keeps | with_reducible apply retire_keeps
    | with_reducible apply KeepsP.fst | dsimp only | split | skip

theorem execStepNotify_keeps {a0 : State} (c : CtxN) (f : StepF) (i : InstN) (kind : BitVec 16) (params : List Byte) (s : State) (hk : Keeps a0 s) :
    ∃ next, execStepNotify c f i kind params s = .next next ∧ Keeps a0 next := by
  refine ⟨_, rfl, ?_⟩
  iterate 40 all_goals first
    | intro _ | with_reducible assumption | with_reducible apply issue_keeps | with_reducible apply retire_keeps
    | with_reducible apply postDevice_keeps | with_reducible apply Keeps.ite | skip

theorem execMeterRefill_keeps {a0 : State} (t : TileN) (s : State) (hk : Keeps a0 s) :
    ∃ next, execMeterRefill t s = .next next ∧ Keeps a0 next := by
  refine ⟨_, rfl, ?_⟩
  iterate 40 all_goals first
    | intro _ | with_reducible assumption | with_reducible apply releaseTile_keeps | with_reducible apply refillTile_keeps | skip

theorem execClearOverflow_keeps {a0 : State} (r : Requester) (u : UnitN) (mask wraps : BitVec 64) (s : State) (hk : Keeps a0 s) :
    ∃ next, execClearOverflow r u mask wraps s = .next next ∧ Keeps a0 next := by
  refine ⟨_, rfl, ?_⟩
  iterate 40 all_goals first
    | intro _ | with_reducible assumption | with_reducible apply rowWrite_keeps | with_reducible apply clearOverflow_keeps
    | with_reducible apply cmdDone_keeps | fail_if_no_progress (with_reducible apply KeepsP.mk' <;> try with_reducible apply KeepsP.fst) | skip

theorem execInstanceClearOverflow_keeps {a0 : State} (r : Requester) (i : InstN) (s : State) (hk : Keeps a0 s) :
    ∃ next, execInstanceClearOverflow r i s = .next next ∧ Keeps a0 next := by
  refine ⟨_, rfl, ?_⟩
  iterate 40 all_goals first
    | intro _ | with_reducible assumption | with_reducible apply rowWrite_keeps | with_reducible apply clearInstOverflow_keeps
    | with_reducible apply cmdDone_keeps | fail_if_no_progress (with_reducible apply KeepsP.mk' <;> try with_reducible apply KeepsP.fst) | skip

theorem execControlRecordWrite_keeps {a0 : State} (r : Requester) (u : UnitN) (n : Fin 8) (rec : BitVec 32) (s : State) (hk : Keeps a0 s) :
    ∃ next, execControlRecordWrite r u n rec s = .next next ∧ Keeps a0 next := by
  refine ⟨_, rfl, ?_⟩
  iterate 40 all_goals first
    | intro _ | with_reducible assumption | with_reducible apply rowChunk_keeps | with_reducible apply controlWrite_keeps | skip

theorem execWindowStart_keeps {a0 : State} (r : Requester) (p : PortN) (s : State) (hk : Keeps a0 s) :
    ∃ next, execWindowStart r p s = .next next ∧ Keeps a0 next := by
  refine ⟨_, rfl, ?_⟩
  iterate 40 all_goals first
    | intro _ | with_reducible assumption | with_reducible apply rowWrite_keeps | with_reducible apply windowStartWrite_keeps | skip

theorem execWindowStop_keeps {a0 : State} (r : Requester) (p : PortN) (s : State) (hk : Keeps a0 s) :
    ∃ next, execWindowStop r p s = .next next ∧ Keeps a0 next := by
  refine ⟨_, rfl, ?_⟩
  iterate 40 all_goals first
    | intro _ | with_reducible assumption | with_reducible apply rowWrite_keeps | with_reducible apply windowStopWrite_keeps | skip

theorem execWindowEnd_keeps {a0 : State} (p : PortN) (s : State) (hk : Keeps a0 s) :
    ∃ next, execWindowEnd p s = .next next ∧ Keeps a0 next := by
  refine ⟨_, rfl, ?_⟩
  iterate 40 all_goals first
    | intro _ | with_reducible assumption | with_reducible apply endWindow_keeps | skip

theorem execSramBist_keeps {a0 : State} (r : Requester) (v : List Byte) (s : State) (hk : Keeps a0 s) :
    ∃ next, execSramBist r v s = .next next ∧ Keeps a0 next := by
  refine ⟨_, rfl, ?_⟩
  iterate 40 all_goals first
    | intro _ | with_reducible assumption | with_reducible apply rowWrite_keeps | with_reducible apply testWrite_keeps | skip

theorem execHbmBist_keeps {a0 : State} (r : Requester) (v : List Byte) (s : State) (hk : Keeps a0 s) :
    ∃ next, execHbmBist r v s = .next next ∧ Keeps a0 next := by
  refine ⟨_, rfl, ?_⟩
  iterate 40 all_goals first
    | intro _ | with_reducible assumption | with_reducible apply rowWrite_keeps | with_reducible apply testWrite_keeps | skip

theorem execReceiverCalibration_keeps {a0 : State} (r : Requester) (v : List Byte) (s : State) (hk : Keeps a0 s) :
    ∃ next, execReceiverCalibration r v s = .next next ∧ Keeps a0 next := by
  refine ⟨_, rfl, ?_⟩
  iterate 40 all_goals first
    | intro _ | with_reducible assumption | with_reducible apply rowWrite_keeps | with_reducible apply testWrite_keeps | skip

theorem execLogicBist_keeps {a0 : State} (r : Requester) (v : List Byte) (s : State) (hk : Keeps a0 s) :
    ∃ next, execLogicBist r v s = .next next ∧ Keeps a0 next := by
  refine ⟨_, rfl, ?_⟩
  iterate 40 all_goals first
    | intro _ | with_reducible assumption | with_reducible apply rowWrite_keeps | with_reducible apply testWrite_keeps | skip

theorem execPatrolScrubPass_keeps {a0 : State} (r : Requester) (v : List Byte) (s : State) (hk : Keeps a0 s) :
    ∃ next, execPatrolScrubPass r v s = .next next ∧ Keeps a0 next := by
  refine ⟨_, rfl, ?_⟩
  iterate 40 all_goals first
    | intro _ | with_reducible assumption | with_reducible apply rowWrite_keeps | with_reducible apply testWrite_keeps | skip

theorem execTestComplete_keeps {a0 : State} (units errors addr : Nat) (s : State) (hk : Keeps a0 s) :
    ∃ next, execTestComplete units errors addr s = .next next ∧ Keeps a0 next := by
  refine ⟨_, rfl, ?_⟩
  iterate 40 all_goals first
    | intro _ | with_reducible assumption | with_reducible apply testEnds_keeps | skip

theorem execDiagnosticRead_keeps {a0 : State} (r : Requester) (v : List Byte) (s : State) (hk : Keeps a0 s) :
    ∃ next, execDiagnosticRead r v s = .next next ∧ Keeps a0 next := by
  refine ⟨_, rfl, ?_⟩
  iterate 40 all_goals first
    | intro _ | with_reducible assumption | with_reducible apply rowWrite_keeps | with_reducible apply diagReadWrite_keeps | skip

theorem execDiagnosticWrite_keeps {a0 : State} (r : Requester) (v : List Byte) (s : State) (hk : Keeps a0 s) :
    ∃ next, execDiagnosticWrite r v s = .next next ∧ Keeps a0 next := by
  refine ⟨_, rfl, ?_⟩
  iterate 40 all_goals first
    | intro _ | with_reducible assumption | with_reducible apply rowWrite_keeps | with_reducible apply diagWriteWrite_keeps | skip

theorem execDomainTarget_keeps {a0 : State} (r : Requester) (d : DomainN) (v : Byte) (s : State) (hk : Keeps a0 s) :
    ∃ next, execDomainTarget r d v s = .next next ∧ Keeps a0 next := by
  refine ⟨_, rfl, ?_⟩
  iterate 40 all_goals first
    | intro _ | with_reducible assumption | with_reducible apply rowWrite_keeps | with_reducible apply domainTargetWrite_keeps | skip

theorem execBlockAnswer_keeps {a0 : State} (d : DomainN) (b : BlockId) (a : BlockAns) (s : State) (hk : Keeps a0 s) :
    ∃ next, execBlockAnswer d b a s = .next next ∧ Keeps a0 next := by
  refine ⟨_, rfl, ?_⟩
  iterate 40 all_goals first
    | intro _ | with_reducible assumption | with_reducible apply blockAnswer_keeps | skip

theorem execDelayTimeout_keeps {a0 : State} (d : DomainN) (b : BlockId) (s : State) (hk : Keeps a0 s) :
    ∃ next, execDelayTimeout d b s = .next next ∧ Keeps a0 next := by
  refine ⟨_, rfl, ?_⟩
  iterate 40 all_goals first
    | intro _ | with_reducible assumption | with_reducible apply delayExpires_keeps | skip

theorem execDomainEntryComplete_keeps {a0 : State} (d : DomainN) (s : State) (hk : Keeps a0 s) :
    ∃ next, execDomainEntryComplete d s = .next next ∧ Keeps a0 next := by
  refine ⟨_, rfl, ?_⟩
  iterate 40 all_goals first
    | intro _ | with_reducible assumption | with_reducible apply entryComplete_keeps | skip

theorem execBankEmpty_keeps {a0 : State} (t : TileN) (b : Fin 4) (s : State) (hk : Keeps a0 s) :
    ∃ next, execBankEmpty t b s = .next next ∧ Keeps a0 next := by
  refine ⟨_, rfl, ?_⟩
  iterate 40 all_goals first
    | intro _ | with_reducible assumption | with_reducible apply blockAnswer_keeps | skip

theorem execWakeSource_keeps {a0 : State} (d : DomainN) (x : WakeSrc) (s : State) (hk : Keeps a0 s) :
    ∃ next, execWakeSource d x s = .next next ∧ Keeps a0 next := by
  refine ⟨_, rfl, ?_⟩
  iterate 40 all_goals first
    | intro _ | with_reducible assumption | with_reducible apply wakeSource_keeps | skip

theorem execIdleTime_keeps {a0 : State} (d : DomainN) (s : State) (hk : Keeps a0 s) :
    ∃ next, execIdleTime d s = .next next ∧ Keeps a0 next := by
  refine ⟨_, rfl, ?_⟩
  iterate 40 all_goals first
    | intro _ | with_reducible assumption | with_reducible apply idleEntry_keeps | skip

theorem execPllLock_keeps {a0 : State} (d : DomainN) (s : State) (hk : Keeps a0 s) :
    ∃ next, execPllLock d s = .next next ∧ Keeps a0 next := by
  refine ⟨_, rfl, ?_⟩
  iterate 40 all_goals first
    | intro _ | with_reducible assumption | with_reducible apply wakeDone_keeps | skip

theorem execPllLockTimeout_keeps {a0 : State} (d : DomainN) (s : State) (hk : Keeps a0 s) :
    ∃ next, execPllLockTimeout d s = .next next ∧ Keeps a0 next := by
  refine ⟨_, rfl, ?_⟩
  iterate 40 all_goals first
    | intro _ | with_reducible assumption | with_reducible apply lockTimeout_keeps | skip

theorem execPllLockLoss_keeps {a0 : State} (t : TileN) (pll : Fin 11) (s : State) (hk : Keeps a0 s) :
    ∃ next, execPllLockLoss t pll s = .next next ∧ Keeps a0 next := by
  refine ⟨_, rfl, ?_⟩
  iterate 40 all_goals first
    | intro _ | with_reducible assumption | with_reducible apply lockLost_keeps | skip

theorem execCycleCountTrim_keeps {a0 : State} (t : TileN) (s : State) (hk : Keeps a0 s) :
    ∃ next, execCycleCountTrim t s = .next next ∧ Keeps a0 next := by
  refine ⟨_, rfl, ?_⟩
  iterate 40 all_goals first
    | intro _ | with_reducible assumption | with_reducible apply wr_keeps | with_reducible apply freeNext_keeps | with_reducible apply KeepsP.fst
    | dsimp only | split | skip

theorem execForceOff_keeps {a0 : State} (r : Requester) (d : DomainN) (s : State) (hk : Keeps a0 s) :
    ∃ next, execForceOff r d s = .next next ∧ Keeps a0 next := by
  refine ⟨_, rfl, ?_⟩
  iterate 40 all_goals first
    | intro _ | with_reducible assumption | with_reducible apply rowWrite_keeps | with_reducible apply forceOffWrite_keeps | skip

theorem execDroopCrossing_keeps {a0 : State} (t : TileN) (det : Fin 64) (lvl : DroopLevel) (s : State) (hk : Keeps a0 s) :
    ∃ next, execDroopCrossing t det lvl s = .next next ∧ Keeps a0 next := by
  refine ⟨_, rfl, ?_⟩
  iterate 40 all_goals first
    | intro _ | with_reducible assumption | with_reducible apply droopCrosses_keeps | skip

theorem execStretchRelease_keeps {a0 : State} (t : TileN) (cycles ns : Nat) (s : State) (hk : Keeps a0 s) :
    ∃ next, execStretchRelease t cycles ns s = .next next ∧ Keeps a0 next := by
  refine ⟨_, rfl, ?_⟩
  iterate 40 all_goals first
    | intro _ | with_reducible assumption | with_reducible apply stretchEnds_keeps | skip

theorem execStretchTimeout_keeps {a0 : State} (t : TileN) (s : State) (hk : Keeps a0 s) :
    ∃ next, execStretchTimeout t s = .next next ∧ Keeps a0 next := by
  refine ⟨_, rfl, ?_⟩
  iterate 40 all_goals first
    | intro _ | with_reducible assumption | with_reducible apply stretchLong_keeps | skip

theorem execThermalThreshold_keeps {a0 : State} (t : TileN) (lvl : ThermLevel) (s : State) (hk : Keeps a0 s) :
    ∃ next, execThermalThreshold t lvl s = .next next ∧ Keeps a0 next := by
  refine ⟨_, rfl, ?_⟩
  iterate 40 all_goals first
    | intro _ | with_reducible assumption | with_reducible apply thermalCrosses_keeps | skip

theorem execThermalHoldEnd_keeps {a0 : State} (t : TileN) (s : State) (hk : Keeps a0 s) :
    ∃ next, execThermalHoldEnd t s = .next next ∧ Keeps a0 next := by
  refine ⟨_, rfl, ?_⟩
  iterate 40 all_goals first
    | intro _ | with_reducible assumption | with_reducible apply thermalEnds_keeps | skip

theorem execThermalTrip_keeps {a0 : State} (t : TileN) (s : State) (hk : Keeps a0 s) :
    ∃ next, execThermalTrip t s = .next next ∧ Keeps a0 next := by
  refine ⟨_, rfl, ?_⟩
  iterate 40 all_goals first
    | intro _ | with_reducible assumption | with_reducible apply thermalTrips_keeps | skip

theorem execAvsAck_keeps {a0 : State} (rail : TileN) (s : State) (hk : Keeps a0 s) :
    ∃ next, execAvsAck rail s = .next next ∧ Keeps a0 next := by
  refine ⟨_, rfl, ?_⟩
  iterate 40 all_goals first
    | intro _ | with_reducible assumption | with_reducible apply railAck_keeps | skip

theorem execAvsTimeout_keeps {a0 : State} (rail : TileN) (s : State) (hk : Keeps a0 s) :
    ∃ next, execAvsTimeout rail s = .next next ∧ Keeps a0 next := by
  refine ⟨_, rfl, ?_⟩
  iterate 40 all_goals first
    | intro _ | with_reducible assumption | with_reducible apply railTimeout_keeps | skip

theorem execPhaseLost_keeps {a0 : State} (rail : TileN) (n : Byte) (s : State) (hk : Keeps a0 s) :
    ∃ next, execPhaseLost rail n s = .next next ∧ Keeps a0 next := by
  refine ⟨_, rfl, ?_⟩
  iterate 40 all_goals first
    | intro _ | with_reducible assumption | with_reducible apply phaseLost_keeps | skip

theorem execPhaseRestored_keeps {a0 : State} (rail : TileN) (s : State) (hk : Keeps a0 s) :
    ∃ next, execPhaseRestored rail s = .next next ∧ Keeps a0 next := by
  refine ⟨_, rfl, ?_⟩
  iterate 40 all_goals first
    | intro _ | with_reducible assumption | with_reducible apply phaseRestored_keeps | skip

theorem execPwrokTRise_keeps {a0 : State} (t : TileN) (s : State) (hk : Keeps a0 s) :
    ∃ next, execPwrokTRise t s = .next next ∧ Keeps a0 next := by
  refine ⟨_, rfl, ?_⟩
  iterate 40 all_goals first
    | intro _ | with_reducible assumption | with_reducible apply pwrokRises_keeps | skip

theorem execPwrokTFall_keeps {a0 : State} (t : TileN) (s : State) (hk : Keeps a0 s) :
    ∃ next, execPwrokTFall t s = .next next ∧ Keeps a0 next := by
  refine ⟨_, rfl, ?_⟩
  iterate 40 all_goals first
    | intro _ | with_reducible assumption | with_reducible apply pwrokFalls_keeps | skip

theorem execRailMonitor_keeps {a0 : State} (rail : RailSel) (s : State) (hk : Keeps a0 s) :
    ∃ next, execRailMonitor rail s = .next next ∧ Keeps a0 next := by
  refine ⟨_, rfl, ?_⟩
  iterate 40 all_goals first
    | intro _ | with_reducible assumption | with_reducible apply railFails_keeps | skip

theorem execPowerOn_keeps {a0 : State} (b : PowerUp) (s : State) (hk : Keeps a0 s) :
    ∃ next, execPowerOn b s = .next next ∧ Keeps a0 next := by
  refine ⟨_, rfl, ?_⟩
  iterate 40 all_goals first
    | intro _ | with_reducible assumption | with_reducible apply powerUp_keeps | with_reducible apply KeepsP.fst | dsimp only | split | skip

theorem execVddHldInRange_keeps {a0 : State} (s : State) (hk : Keeps a0 s) :
    ∃ next, execVddHldInRange s = .next next ∧ Keeps a0 next := by
  refine ⟨_, rfl, ?_⟩
  iterate 40 all_goals first
    | intro _ | with_reducible assumption | with_reducible apply releaseHeadland_keeps | with_reducible apply Keeps.ite
    | with_reducible apply KeepsP.ite | with_reducible apply KeepsP.fst
    | fail_if_no_progress (with_reducible refine Keeps.lit rfl rfl rfl rfl rfl rfl rfl rfl ?_) | skip

theorem execBootComplete_keeps {a0 : State} (s : State) (hk : Keeps a0 s) :
    ∃ next, execBootComplete s = .next next ∧ Keeps a0 next := by
  refine ⟨_, rfl, ?_⟩
  iterate 40 all_goals first
    | intro _ | with_reducible assumption | with_reducible apply bootEnds_keeps | skip

theorem execPwrokAonFall_keeps {a0 : State} (s : State) (hk : Keeps a0 s) :
    ∃ next, execPwrokAonFall s = .next next ∧ Keeps a0 next := by
  refine ⟨_, rfl, ?_⟩
  iterate 40 all_goals first
    | intro _ | with_reducible assumption | with_reducible apply powerFails_keeps | skip

theorem execPerstN_keeps {a0 : State} (g : GroupN) (s : State) (hk : Keeps a0 s) :
    ∃ next, execPerstN g s = .next next ∧ Keeps a0 next := by
  refine ⟨_, rfl, ?_⟩
  iterate 40 all_goals first
    | intro _ | with_reducible assumption | with_reducible apply perstGroup_keeps | with_reducible apply KeepsP.fst | dsimp only | split | skip

theorem execHeadlandWarmReset_keeps {a0 : State} (s : State) (hk : Keeps a0 s) :
    ∃ next, execHeadlandWarmReset s = .next next ∧ Keeps a0 next := by
  refine ⟨_, rfl, ?_⟩
  iterate 40 all_goals first
    | intro _ | with_reducible assumption | with_reducible apply headlandReset_keeps | skip

theorem execDeviceReset_keeps {a0 : State} (r : Requester) (s : State) (hk : Keeps a0 s) :
    ∃ next, execDeviceReset r s = .next next ∧ Keeps a0 next := by
  refine ⟨_, rfl, ?_⟩
  iterate 40 all_goals first
    | intro _ | with_reducible assumption | with_reducible apply promisedReset_keeps | with_reducible apply rowWrite_keeps
    | with_reducible apply deviceResetWrite_keeps | skip

theorem execDeviceResetIgnoreBootsel_keeps {a0 : State} (r : Requester) (s : State) (hk : Keeps a0 s) :
    ∃ next, execDeviceResetIgnoreBootsel r s = .next next ∧ Keeps a0 next := by
  refine ⟨_, rfl, ?_⟩
  iterate 40 all_goals first
    | intro _ | with_reducible assumption | with_reducible apply promisedReset_keeps | with_reducible apply rowWrite_keeps
    | with_reducible apply deviceResetWrite_keeps | skip

theorem execLinkUp_keeps {a0 : State} (p : PortN) (x : Partner) (s : State) (hk : Keeps a0 s) :
    ∃ next, execLinkUp p x s = .next next ∧ Keeps a0 next := by
  refine ⟨_, rfl, ?_⟩
  iterate 40 all_goals first
    | intro _ | with_reducible assumption | with_reducible apply portUp_keeps | with_reducible apply finishMode_keeps
    | with_reducible apply Keeps.ite | skip

theorem execActionComplete_keeps {a0 : State} (a : ActionId) (err : Byte) (s : State) (hk : Keeps a0 s) :
    ∃ next, execActionComplete a err s = .next next ∧ Keeps a0 next := by
  refine ⟨_, rfl, ?_⟩
  iterate 40 all_goals first
    | intro _ | with_reducible assumption | with_reducible apply actionEnds_keeps | with_reducible apply commitEnd_keeps
    | with_reducible apply clearDeltaEnd_keeps | with_reducible apply cfgActivateEnd_keeps | with_reducible apply cmdEnd_keeps
    | with_reducible apply verifyEnd_keeps | with_reducible apply activateEnd_keeps | with_reducible apply applyEnd_keeps
    | with_reducible apply confirmEnd_keeps | with_reducible apply revertEnd_keeps | with_reducible apply swapBackEnd_keeps
    | with_reducible apply repairEnd_keeps | with_reducible apply attestEnd_keeps | with_reducible apply KeepsP.fst | dsimp only | split | skip

theorem execGetVersion_keeps {a0 : State} (p : PortN) (s : State) (hk : Keeps a0 s) :
    ∃ next, execGetVersion p s = .next next ∧ Keeps a0 next := by
  refine ⟨_, rfl, ?_⟩
  iterate 40 all_goals first
    | intro _ | with_reducible assumption | with_reducible apply spdmAsk_keeps | with_reducible apply spdmSay_keeps
    | with_reducible apply spdmPhase_keeps | skip

theorem execGetCapabilities_keeps {a0 : State} (p : PortN) (s : State) (hk : Keeps a0 s) :
    ∃ next, execGetCapabilities p s = .next next ∧ Keeps a0 next := by
  refine ⟨_, rfl, ?_⟩
  iterate 40 all_goals first
    | intro _ | with_reducible assumption | with_reducible apply spdmAsk_keeps | with_reducible apply spdmSay_keeps
    | with_reducible apply spdmPhase_keeps | skip

theorem execNegotiateAlgorithms_keeps {a0 : State} (p : PortN) (req : List Byte) (s : State) (hk : Keeps a0 s) :
    ∃ next, execNegotiateAlgorithms p req s = .next next ∧ Keeps a0 next := by
  refine ⟨_, rfl, ?_⟩
  iterate 40 all_goals first
    | intro _ | with_reducible assumption | with_reducible apply spdmAsk_keeps | with_reducible apply spdmSay_keeps
    | with_reducible apply spdmPhase_keeps | skip

theorem execGetDigests_keeps {a0 : State} (p : PortN) (s : State) (hk : Keeps a0 s) :
    ∃ next, execGetDigests p s = .next next ∧ Keeps a0 next := by
  refine ⟨_, rfl, ?_⟩
  iterate 40 all_goals first
    | intro _ | with_reducible assumption | with_reducible apply spdmAsk_keeps | with_reducible apply spdmSay_keeps | skip

theorem execGetCertificate_keeps {a0 : State} (p : PortN) (slot : Byte) (offset length : BitVec 16) (s : State) (hk : Keeps a0 s) :
    ∃ next, execGetCertificate p slot offset length s = .next next ∧ Keeps a0 next := by
  refine ⟨_, rfl, ?_⟩
  iterate 40 all_goals first
    | intro _ | with_reducible assumption | with_reducible apply spdmAsk_keeps | with_reducible apply spdmCertificateIn_keeps | skip

theorem execSpdmChallenge_keeps {a0 : State} (p : PortN) (slot : Byte) (nonce : List Byte) (s : State) (hk : Keeps a0 s) :
    ∃ next, execSpdmChallenge p slot nonce s = .next next ∧ Keeps a0 next := by
  refine ⟨_, rfl, ?_⟩
  iterate 40 all_goals first
    | intro _ | with_reducible assumption | with_reducible apply spdmAsk_keeps | with_reducible apply spdmChallengeIn_keeps | skip

theorem execGetMeasurements_keeps {a0 : State} (p : PortN) (op : Byte) (nonce : List Byte) (s : State) (hk : Keeps a0 s) :
    ∃ next, execGetMeasurements p op nonce s = .next next ∧ Keeps a0 next := by
  refine ⟨_, rfl, ?_⟩
  iterate 40 all_goals first
    | intro _ | with_reducible assumption | with_reducible apply spdmAsk_keeps | with_reducible apply spdmMeasureIn_keeps | skip

theorem execKeyExchange_keeps {a0 : State} (p : PortN) (req : List Byte) (s : State) (hk : Keeps a0 s) :
    ∃ next, execKeyExchange p req s = .next next ∧ Keeps a0 next := by
  refine ⟨_, rfl, ?_⟩
  iterate 40 all_goals first
    | intro _ | with_reducible assumption | with_reducible apply spdmAsk_keeps | with_reducible apply spdmExchangeIn_keeps | skip

theorem execSpdmFinish_keeps {a0 : State} (p : PortN) (sid : Fin 2) (mac : List Byte) (s : State) (hk : Keeps a0 s) :
    ∃ next, execSpdmFinish p sid mac s = .next next ∧ Keeps a0 next := by
  refine ⟨_, rfl, ?_⟩
  iterate 40 all_goals first
    | intro _ | with_reducible assumption | with_reducible apply spdmAsk_keeps | with_reducible apply spdmFinishIn_keeps | skip

theorem execEndSession_keeps {a0 : State} (p : PortN) (sid : Fin 2) (s : State) (hk : Keeps a0 s) :
    ∃ next, execEndSession p sid s = .next next ∧ Keeps a0 next := by
  refine ⟨_, rfl, ?_⟩
  iterate 40 all_goals first
    | intro _ | with_reducible assumption | with_reducible apply spdmAsk_keeps | with_reducible apply spdmEndIn_keeps | skip

theorem execKeyProg_keeps {a0 : State} (p : PortN) (sid : Fin 2) (stream : Byte) (keySet : Bool) (key : List Byte) (s : State) (hk : Keeps a0 s) :
    ∃ next, execKeyProg p sid stream keySet key s = .next next ∧ Keeps a0 next := by
  refine ⟨_, rfl, ?_⟩
  iterate 40 all_goals first
    | intro _ | with_reducible assumption | with_reducible apply ideAsk_keeps | with_reducible apply keyProgIn_keeps | skip

theorem execKSetGo_keeps {a0 : State} (p : PortN) (sid : Fin 2) (stream : Byte) (keySet : Bool) (s : State) (hk : Keeps a0 s) :
    ∃ next, execKSetGo p sid stream keySet s = .next next ∧ Keeps a0 next := by
  refine ⟨_, rfl, ?_⟩
  iterate 40 all_goals first
    | intro _ | with_reducible assumption | with_reducible apply ideAsk_keeps | with_reducible apply keySetGoIn_keeps | skip

theorem execIdeRefresh_keeps {a0 : State} (p : PortN) (s : State) (hk : Keeps a0 s) :
    ∃ next, execIdeRefresh p s = .next next ∧ Keeps a0 next := by
  refine ⟨_, rfl, ?_⟩
  iterate 40 all_goals first
    | intro _ | with_reducible assumption | with_reducible apply ideRefresh_keeps | skip

theorem execIdeIntegrityFailure_keeps {a0 : State} (p : PortN) (stream : Byte) (s : State) (hk : Keeps a0 s) :
    ∃ next, execIdeIntegrityFailure p stream s = .next next ∧ Keeps a0 next := by
  refine ⟨_, rfl, ?_⟩
  iterate 40 all_goals first
    | intro _ | with_reducible assumption | with_reducible apply ideFailure_keeps | skip

theorem execAttestNow_keeps {a0 : State} (r : Requester) (p : PortN) (s : State) (hk : Keeps a0 s) :
    ∃ next, execAttestNow r p s = .next next ∧ Keeps a0 next := by
  refine ⟨_, rfl, ?_⟩
  iterate 40 all_goals first
    | intro _ | with_reducible assumption | with_reducible apply rowWrite_keeps | with_reducible apply attestWrite_keeps | skip

theorem execGrant_keeps {a0 : State} (r : Requester) (v : List Byte) (s : State) (hk : Keeps a0 s) :
    ∃ next, execGrant r v s = .next next ∧ Keeps a0 next := by
  refine ⟨_, rfl, ?_⟩
  iterate 40 all_goals first
    | intro _ | with_reducible assumption | with_reducible apply rowWrite_keeps | with_reducible apply grantCommand_keeps | skip

theorem execAddDynamicCapacityResponse_keeps {a0 : State} (i : InstN) (e : ExtentN) (accept : Bool) (s : State) (hk : Keeps a0 s) :
    ∃ next, execAddDynamicCapacityResponse i e accept s = .next next ∧ Keeps a0 next := by
  refine ⟨_, rfl, ?_⟩
  iterate 40 all_goals first
    | intro _ | with_reducible assumption | with_reducible apply mailboxRun_keeps | with_reducible apply mailboxReply_keeps
    | with_reducible apply acceptOffer_keeps | with_reducible apply withdrawOffer_keeps | with_reducible apply Keeps.ite | skip

theorem execOfferTimeout_keeps {a0 : State} (e : ExtentN) (s : State) (hk : Keeps a0 s) :
    ∃ next, execOfferTimeout e s = .next next ∧ Keeps a0 next := by
  refine ⟨_, rfl, ?_⟩
  iterate 40 all_goals first
    | intro _ | with_reducible assumption | with_reducible apply withdrawOffer_keeps | with_reducible apply KeepsP.fst | dsimp only | split | skip

theorem execExtentRelease_keeps {a0 : State} (r : Requester) (e : ExtentN) (s : State) (hk : Keeps a0 s) :
    ∃ next, execExtentRelease r e s = .next next ∧ Keeps a0 next := by
  refine ⟨_, rfl, ?_⟩
  iterate 40 all_goals first
    | intro _ | with_reducible assumption | with_reducible apply rowWrite_keeps | with_reducible apply releaseWrite_keeps | skip

theorem execForcedRelease_keeps {a0 : State} (r : Requester) (e : ExtentN) (s : State) (hk : Keeps a0 s) :
    ∃ next, execForcedRelease r e s = .next next ∧ Keeps a0 next := by
  refine ⟨_, rfl, ?_⟩
  iterate 40 all_goals first
    | intro _ | with_reducible assumption | with_reducible apply rowWrite_keeps | with_reducible apply releaseWrite_keeps | skip

theorem execReleaseDynamicCapacity_keeps {a0 : State} (i : InstN) (e : ExtentN) (s : State) (hk : Keeps a0 s) :
    ∃ next, execReleaseDynamicCapacity i e s = .next next ∧ Keeps a0 next := by
  refine ⟨_, rfl, ?_⟩
  iterate 40 all_goals first
    | intro _ | with_reducible assumption | with_reducible apply mailboxRun_keeps | with_reducible apply mailboxReply_keeps
    | with_reducible apply beginRelease_keeps | with_reducible apply Keeps.ite | skip

theorem execCacheAck_keeps {a0 : State} (e : ExtentN) (s : State) (hk : Keeps a0 s) :
    ∃ next, execCacheAck e s = .next next ∧ Keeps a0 next := by
  refine ⟨_, rfl, ?_⟩
  iterate 40 all_goals first
    | intro _ | with_reducible assumption | with_reducible apply setExt_keeps | with_reducible apply dropIndex_keeps
    | with_reducible apply Keeps.ite | with_reducible apply KeepsP.ite
    | fail_if_no_progress (with_reducible apply KeepsP.mk' <;> try with_reducible apply KeepsP.fst) | with_reducible apply KeepsP.fst
    | fail_if_no_progress (with_reducible refine Keeps.lit rfl rfl rfl rfl rfl rfl rfl rfl ?_) | dsimp only | split | skip

theorem execReleaseDrainTimeout_keeps {a0 : State} (e : ExtentN) (s : State) (hk : Keeps a0 s) :
    ∃ next, execReleaseDrainTimeout e s = .next next ∧ Keeps a0 next := by
  refine ⟨_, rfl, ?_⟩
  iterate 40 all_goals first
    | intro _ | with_reducible assumption | with_reducible apply startReleaseRbi_keeps | with_reducible apply cutRequests_keeps
    | with_reducible apply Keeps.ite | skip

theorem execReleaseRequestsDone_keeps {a0 : State} (e : ExtentN) (s : State) (hk : Keeps a0 s) :
    ∃ next, execReleaseRequestsDone e s = .next next ∧ Keeps a0 next := by
  refine ⟨_, rfl, ?_⟩
  iterate 40 all_goals first
    | intro _ | with_reducible assumption | with_reducible apply startReleaseRbi_keeps | with_reducible apply Keeps.ite | skip

theorem execScrubComplete_keeps {a0 : State} (tg : TargetN) (blk : BlockN) (s : State) (hk : Keeps a0 s) :
    ∃ next, execScrubComplete tg blk s = .next next ∧ Keeps a0 next := by
  refine ⟨_, rfl, ?_⟩
  iterate 40 all_goals first
    | intro _ | with_reducible assumption | with_reducible apply scrubTarget_keeps
    | fail_if_no_progress (with_reducible apply KeepsP.mk' <;> try with_reducible apply KeepsP.fst) | with_reducible apply KeepsP.fst | dsimp only
    | split | skip

theorem execTargetPoolWrite_keeps {a0 : State} (r : Requester) (tg : TargetN) (v : Byte) (s : State) (hk : Keeps a0 s) :
    ∃ next, execTargetPoolWrite r tg v s = .next next ∧ Keeps a0 next := by
  refine ⟨_, rfl, ?_⟩
  iterate 40 all_goals first
    | intro _ | with_reducible assumption | with_reducible apply rowWrite_keeps | with_reducible apply targetPoolWrite_keeps | skip

theorem execJoinComplete_keeps {a0 : State} (tg : TargetN) (deviceRefuses : Bool) (s : State) (hk : Keeps a0 s) :
    ∃ next, execJoinComplete tg deviceRefuses s = .next next ∧ Keeps a0 next := by
  refine ⟨_, rfl, ?_⟩
  iterate 40 all_goals first
    | intro _ | with_reducible assumption | with_reducible apply finishJoin_keeps | with_reducible apply KeepsP.fst | dsimp only | split | skip

theorem execDrainDone_keeps {a0 : State} (tg : TargetN) (s : State) (hk : Keeps a0 s) :
    ∃ next, execDrainDone tg s = .next next ∧ Keeps a0 next := by
  refine ⟨_, rfl, ?_⟩
  iterate 40 all_goals first
    | intro _ | with_reducible assumption | with_reducible apply drainDone_keeps | skip

theorem execLinkReturnTimeout_keeps {a0 : State} (tg : TargetN) (s : State) (hk : Keeps a0 s) :
    ∃ next, execLinkReturnTimeout tg s = .next next ∧ Keeps a0 next := by
  refine ⟨_, rfl, ?_⟩
  iterate 40 all_goals first
    | intro _ | with_reducible assumption | with_reducible apply targetLost_keeps | with_reducible apply KeepsP.fst | dsimp only | split | skip

theorem execNearTierWrite_keeps {a0 : State} (r : Requester) (t : TileN) (v : BitVec 16) (s : State) (hk : Keeps a0 s) :
    ∃ next, execNearTierWrite r t v s = .next next ∧ Keeps a0 next := by
  refine ⟨_, rfl, ?_⟩
  iterate 40 all_goals first
    | intro _ | with_reducible assumption | with_reducible apply rowWrite_keeps | with_reducible apply nearTierCommand_keeps | skip

theorem execPseudoChannelFailure_keeps {a0 : State} (t : TileN) (pc : Fin 32) (s : State) (hk : Keeps a0 s) :
    ∃ next, execPseudoChannelFailure t pc s = .next next ∧ Keeps a0 next := by
  refine ⟨_, rfl, ?_⟩
  iterate 40 all_goals first
    | intro _ | with_reducible assumption | with_reducible apply failChannel_keeps | skip

theorem execRetirePseudoChannel_keeps {a0 : State} (r : Requester) (t : TileN) (v : Byte) (s : State) (hk : Keeps a0 s) :
    ∃ next, execRetirePseudoChannel r t v s = .next next ∧ Keeps a0 next := by
  refine ⟨_, rfl, ?_⟩
  iterate 40 all_goals first
    | intro _ | with_reducible assumption | with_reducible apply rowWrite_keeps | with_reducible apply retireWrite_keeps | skip

theorem execRowRepair_keeps {a0 : State} (t : TileN) (bank : Nat) (spareLeft : Bool) (s : State) (hk : Keeps a0 s) :
    ∃ next, execRowRepair t bank spareLeft s = .next next ∧ Keeps a0 next := by
  refine ⟨_, rfl, ?_⟩
  iterate 40 all_goals first
    | intro _ | with_reducible assumption | with_reducible apply raise_keeps | with_reducible apply bump_keeps
    | with_reducible apply rowErrors_keeps | with_reducible apply Keeps.ite | with_reducible apply KeepsP.ite
    | fail_if_no_progress (with_reducible apply KeepsP.mk' <;> try with_reducible apply KeepsP.fst) | with_reducible apply KeepsP.fst
    | fail_if_no_progress (with_reducible refine Keeps.lit rfl rfl rfl rfl rfl rfl rfl rfl ?_) | dsimp only | split | skip

theorem execTileReset_keeps {a0 : State} (r : Requester) (t : TileN) (s : State) (hk : Keeps a0 s) :
    ∃ next, execTileReset r t s = .next next ∧ Keeps a0 next := by
  refine ⟨_, rfl, ?_⟩
  iterate 40 all_goals first
    | intro _ | with_reducible assumption | with_reducible apply rowWrite_keeps | with_reducible apply tileResetWrite_keeps | skip

theorem execTileTarget_keeps {a0 : State} (r : Requester) (t : TileN) (v : Byte) (s : State) (hk : Keeps a0 s) :
    ∃ next, execTileTarget r t v s = .next next ∧ Keeps a0 next := by
  refine ⟨_, rfl, ?_⟩
  iterate 40 all_goals first
    | intro _ | with_reducible assumption | with_reducible apply rowWrite_keeps | with_reducible apply tileTargetWrite_keeps | skip

theorem execTileInService_keeps {a0 : State} (t : TileN) (s : State) (hk : Keeps a0 s) :
    ∃ next, execTileInService t s = .next next ∧ Keeps a0 next := by
  refine ⟨_, rfl, ?_⟩
  iterate 40 all_goals first
    | intro _ | with_reducible assumption | with_reducible apply tileServes_keeps | with_reducible apply KeepsP.fst | dsimp only | split | skip

theorem execQuiesceTarget_keeps {a0 : State} (r : Requester) (g : GroupN) (v : Byte) (s : State) (hk : Keeps a0 s) :
    ∃ next, execQuiesceTarget r g v s = .next next ∧ Keeps a0 next := by
  refine ⟨_, rfl, ?_⟩
  iterate 40 all_goals first
    | intro _ | with_reducible assumption | with_reducible apply rowWrite_keeps | with_reducible apply quiesceWrite_keeps | skip

theorem execLinkDown_keeps {a0 : State} (p : PortN) (cause : DownCause) (presenceLost : Bool) (s : State) (hk : Keeps a0 s) :
    ∃ next, execLinkDown p cause presenceLost s = .next next ∧ Keeps a0 next := by
  refine ⟨_, rfl, ?_⟩
  iterate 40 all_goals first
    | intro _ | with_reducible assumption | with_reducible apply portDown_keeps | with_reducible apply setPort_keeps
    | with_reducible apply Keeps.ite | skip

theorem execLateResponse_keeps {a0 : State} (p : PortN) (tag : Nat) (s : State) (hk : Keeps a0 s) :
    ∃ next, execLateResponse p tag s = .next next ∧ Keeps a0 next := by
  refine ⟨_, rfl, ?_⟩
  iterate 40 all_goals first
    | intro _ | with_reducible assumption | with_reducible apply lateResponse_keeps | with_reducible apply bump_keeps
    | with_reducible apply setFn_keeps | with_reducible apply Keeps.ite | with_reducible apply KeepsP.ite | with_reducible apply KeepsP.fst
    | fail_if_no_progress (with_reducible refine Keeps.lit rfl rfl rfl rfl rfl rfl rfl rfl ?_) | dsimp only | split | skip

theorem execPresenceChange_keeps {a0 : State} (p : PortN) (present : Bool) (s : State) (hk : Keeps a0 s) :
    ∃ next, execPresenceChange p present s = .next next ∧ Keeps a0 next := by
  refine ⟨_, rfl, ?_⟩
  iterate 40 all_goals first
    | intro _ | with_reducible assumption | with_reducible apply setPort_keeps | with_reducible apply targetLost_keeps
    | with_reducible apply raise_keeps | with_reducible apply emit_keeps | with_reducible apply Keeps.ite | skip

theorem execFlitCrcError_keeps {a0 : State} (p : PortN) (resent : Nat) (beyondFec : Bool) (s : State) (hk : Keeps a0 s) :
    ∃ next, execFlitCrcError p resent beyondFec s = .next next ∧ Keeps a0 next := by
  refine ⟨_, rfl, ?_⟩
  iterate 40 all_goals first
    | intro _ | with_reducible assumption | with_reducible apply bump_keeps | with_reducible apply portEvent_keeps
    | with_reducible apply raise_keeps | with_reducible apply Keeps.ite | skip

theorem execReplayTimeout_keeps {a0 : State} (p : PortN) (resent : Nat) (s : State) (hk : Keeps a0 s) :
    ∃ next, execReplayTimeout p resent s = .next next ∧ Keeps a0 next := by
  refine ⟨_, rfl, ?_⟩
  iterate 40 all_goals first
    | intro _ | with_reducible assumption | with_reducible apply portEvent_keeps | with_reducible apply bump_keeps | skip

theorem execAuditPeriod_keeps {a0 : State} (p : PortN) (s : State) (hk : Keeps a0 s) :
    ∃ next, execAuditPeriod p s = .next next ∧ Keeps a0 next := by
  refine ⟨_, rfl, ?_⟩
  iterate 40 all_goals first
    | intro _ | with_reducible assumption | with_reducible apply setPort_keeps | with_reducible apply Keeps.ite | skip

theorem execQuietPoint_keeps {a0 : State} (p : PortN) (pool : Fin 18) (avail : BitVec 32) (s : State) (hk : Keeps a0 s) :
    ∃ next, execQuietPoint p pool avail s = .next next ∧ Keeps a0 next := by
  refine ⟨_, rfl, ?_⟩
  iterate 40 all_goals first
    | intro _ | with_reducible assumption | with_reducible apply quietPoint_keeps | with_reducible apply portDown_keeps
    | with_reducible apply Keeps.ite | with_reducible apply KeepsP.ite | with_reducible apply KeepsP.fst | skip

theorem execAuditHoldTimeout_keeps {a0 : State} (p : PortN) (s : State) (hk : Keeps a0 s) :
    ∃ next, execAuditHoldTimeout p s = .next next ∧ Keeps a0 next := by
  refine ⟨_, rfl, ?_⟩
  iterate 40 all_goals first
    | intro _ | with_reducible assumption | with_reducible apply bump_keeps | with_reducible apply setPort_keeps | with_reducible apply Keeps.ite
    | skip

theorem execRetrainDrainComplete_keeps {a0 : State} (p : PortN) (s : State) (hk : Keeps a0 s) :
    ∃ next, execRetrainDrainComplete p s = .next next ∧ Keeps a0 next := by
  refine ⟨_, rfl, ?_⟩
  iterate 40 all_goals first
    | intro _ | with_reducible assumption | with_reducible apply emit_keeps | with_reducible apply cutPort_keeps | with_reducible apply wr_keeps
    | with_reducible apply setPort_keeps | with_reducible apply Keeps.ite | with_reducible apply KeepsP.ite
    | fail_if_no_progress (with_reducible apply KeepsP.mk' <;> try with_reducible apply KeepsP.fst) | with_reducible apply KeepsP.fst
    | fail_if_no_progress (with_reducible refine Keeps.lit rfl rfl rfl rfl rfl rfl rfl rfl ?_) | dsimp only | split | skip

theorem execCreditRetrainComplete_keeps {a0 : State} (p : PortN) (credits : List Nat) (s : State) (hk : Keeps a0 s) :
    ∃ next, execCreditRetrainComplete p credits s = .next next ∧ Keeps a0 next := by
  refine ⟨_, rfl, ?_⟩
  iterate 40 all_goals first
    | intro _ | with_reducible assumption | with_reducible apply portLimits_keeps | with_reducible apply retrainDone_keeps
    | with_reducible apply KeepsP.fst | dsimp only | split | skip

theorem execLlreset_keeps {a0 : State} (p : PortN) (s : State) (hk : Keeps a0 s) :
    ∃ next, execLlreset p s = .next next ∧ Keeps a0 next := by
  refine ⟨_, rfl, ?_⟩
  iterate 40 all_goals first
    | intro _ | with_reducible assumption | with_reducible apply wr_keeps | with_reducible apply setPort_keeps | with_reducible apply Keeps.ite
    | skip

theorem execForceRetrain_keeps {a0 : State} (r : Requester) (p : PortN) (s : State) (hk : Keeps a0 s) :
    ∃ next, execForceRetrain r p s = .next next ∧ Keeps a0 next := by
  refine ⟨_, rfl, ?_⟩
  iterate 40 all_goals first
    | intro _ | with_reducible assumption | with_reducible apply rowWrite_keeps | with_reducible apply forceRetrainWrite_keeps | skip

theorem execBmeClear_keeps {a0 : State} (p : PortN) (f : FuncSel) (s : State) (hk : Keeps a0 s) :
    ∃ next, execBmeClear p f s = .next next ∧ Keeps a0 next := by
  refine ⟨_, rfl, ?_⟩
  iterate 40 all_goals first
    | intro _ | with_reducible assumption | with_reducible apply emit_keeps | with_reducible apply blockReads_keeps
    | with_reducible apply Keeps.ite | skip

theorem execBmeSet_keeps {a0 : State} (p : PortN) (f : FuncSel) (s : State) (hk : Keeps a0 s) :
    ∃ next, execBmeSet p f s = .next next ∧ Keeps a0 next := by
  refine ⟨_, rfl, ?_⟩
  iterate 40 all_goals first
    | intro _ | with_reducible assumption | with_reducible apply emit_keeps | with_reducible apply openFn_keeps | with_reducible apply Keeps.ite
    | skip

theorem execInitiateFlr_keeps {a0 : State} (p : PortN) (f : FuncSel) (s : State) (hk : Keeps a0 s) :
    ∃ next, execInitiateFlr p f s = .next next ∧ Keeps a0 next := by
  refine ⟨_, rfl, ?_⟩
  iterate 40 all_goals first
    | intro _ | with_reducible assumption | with_reducible apply emit_keeps | with_reducible apply blockReads_keeps
    | with_reducible apply resetLd_keeps | with_reducible apply setFn_keeps | with_reducible apply Keeps.ite | with_reducible apply KeepsP.ite
    | fail_if_no_progress (with_reducible apply KeepsP.mk' <;> try with_reducible apply KeepsP.fst) | with_reducible apply KeepsP.fst
    | with_reducible apply Keeps.foldl | with_reducible apply KeepsP.foldl
    | fail_if_no_progress (with_reducible refine Keeps.lit rfl rfl rfl rfl rfl rfl rfl rfl ?_) | dsimp only | split | skip

theorem execFlrComplete_keeps {a0 : State} (p : PortN) (f : FuncSel) (s : State) (hk : Keeps a0 s) :
    ∃ next, execFlrComplete p f s = .next next ∧ Keeps a0 next := by
  refine ⟨_, rfl, ?_⟩
  iterate 40 all_goals first
    | intro _ | with_reducible assumption | with_reducible apply setFn_keeps | skip

theorem execCompletionTimeout_keeps {a0 : State} (p : PortN) (f : FuncSel) (c : CtxN) (s : State) (hk : Keeps a0 s) :
    ∃ next, execCompletionTimeout p f c s = .next next ∧ Keeps a0 next := by
  refine ⟨_, rfl, ?_⟩
  iterate 40 all_goals first
    | intro _ | with_reducible assumption | with_reducible apply freeNext_keeps | with_reducible apply setFn_keeps
    | with_reducible apply finishStep_keeps | with_reducible apply KeepsP.fst
    | fail_if_no_progress (with_reducible refine Keeps.lit rfl rfl rfl rfl rfl rfl rfl rfl ?_) | dsimp only | split | skip

theorem execSchedulerCycle_keeps {a0 : State} (t : TileN) (s : State) (hk : Keeps a0 s) :
    ∃ next, execSchedulerCycle t s = .next next ∧ Keeps a0 next := by
  refine ⟨_, rfl, ?_⟩
  iterate 40 all_goals first
    | intro _ | with_reducible assumption | with_reducible apply takeArrived_keeps | with_reducible apply schedule_keeps
    | with_reducible apply releaseTile_keeps | fail_if_no_progress (with_reducible apply KeepsP.mk' <;> try with_reducible apply KeepsP.fst)
    | with_reducible apply KeepsP.fst | dsimp only | split | skip

theorem execPartnerDvsecWrite_keeps {a0 : State} (p : PortN) (w : DvsecWrite) (s : State) (hk : Keeps a0 s) :
    ∃ next, execPartnerDvsecWrite p w s = .next next ∧ Keeps a0 next := by
  refine ⟨_, rfl, ?_⟩
  iterate 40 all_goals first
    | intro _ | with_reducible assumption | with_reducible apply dvsecWrite_keeps | with_reducible apply Keeps.ite | with_reducible apply KeepsP.ite
    | fail_if_no_progress (with_reducible apply KeepsP.mk' <;> try with_reducible apply KeepsP.fst) | with_reducible apply KeepsP.fst | dsimp only
    | split | skip

theorem execLaneLock_keeps {a0 : State} (l : LaneN) (s : State) (hk : Keeps a0 s) :
    ∃ next, execLaneLock l s = .next next ∧ Keeps a0 next := by
  refine ⟨_, rfl, ?_⟩
  iterate 40 all_goals first
    | intro _ | with_reducible assumption | with_reducible apply wr_keeps | with_reducible apply KeepsP.fst | dsimp only | split | skip

theorem execLaneLockLoss_keeps {a0 : State} (l : LaneN) (s : State) (hk : Keeps a0 s) :
    ∃ next, execLaneLockLoss l s = .next next ∧ Keeps a0 next := by
  refine ⟨_, rfl, ?_⟩
  iterate 40 all_goals first
    | intro _ | with_reducible assumption | with_reducible apply bump_keeps | with_reducible apply wr_keeps | with_reducible apply freeNext_keeps
    | with_reducible apply lockLossOf_keeps | with_reducible apply Keeps.ite | with_reducible apply KeepsP.ite
    | fail_if_no_progress (with_reducible apply KeepsP.mk' <;> try with_reducible apply KeepsP.fst) | with_reducible apply KeepsP.fst | dsimp only
    | split | skip

theorem execDecisionWindowClose_keeps {a0 : State} (p : PortN) (s : State) (hk : Keeps a0 s) :
    ∃ next, execDecisionWindowClose p s = .next next ∧ Keeps a0 next := by
  refine ⟨_, rfl, ?_⟩
  iterate 40 all_goals first
    | intro _ | with_reducible assumption | with_reducible apply beginSubstitution_keeps | with_reducible apply setPort_keeps
    | with_reducible apply recoverLanes_keeps | with_reducible apply Keeps.ite | with_reducible apply KeepsP.ite
    | fail_if_no_progress (with_reducible refine Keeps.lit rfl rfl rfl rfl rfl rfl rfl rfl ?_) | dsimp only | split | skip

theorem execSparingRequest_keeps {a0 : State} (p : PortN) (l : LaneN) (s : State) (hk : Keeps a0 s) :
    ∃ next, execSparingRequest p l s = .next next ∧ Keeps a0 next := by
  refine ⟨_, rfl, ?_⟩
  iterate 40 all_goals first
    | intro _ | with_reducible assumption | with_reducible apply stopTest_keeps | with_reducible apply recoverLanes_keeps
    | with_reducible apply emit_keeps | with_reducible apply setPort_keeps | with_reducible apply Keeps.ite | with_reducible apply KeepsP.ite
    | fail_if_no_progress (with_reducible apply KeepsP.mk' <;> try with_reducible apply KeepsP.fst) | with_reducible apply KeepsP.fst
    | fail_if_no_progress (with_reducible refine Keeps.lit rfl rfl rfl rfl rfl rfl rfl rfl ?_) | dsimp only | split | skip

theorem execSparingAck_keeps {a0 : State} (p : PortN) (s : State) (hk : Keeps a0 s) :
    ∃ next, execSparingAck p s = .next next ∧ Keeps a0 next := by
  refine ⟨_, rfl, ?_⟩
  iterate 40 all_goals first
    | intro _ | with_reducible assumption | with_reducible apply setPort_keeps | with_reducible apply Keeps.ite | skip

theorem execSwitchFlit_keeps {a0 : State} (p : PortN) (s : State) (hk : Keeps a0 s) :
    ∃ next, execSwitchFlit p s = .next next ∧ Keeps a0 next := by
  refine ⟨_, rfl, ?_⟩
  iterate 40 all_goals first
    | intro _ | with_reducible assumption | with_reducible apply setPort_keeps | with_reducible apply restored_keeps
    | with_reducible apply substituted_keeps | with_reducible apply Keeps.ite | with_reducible apply KeepsP.ite
    | fail_if_no_progress (with_reducible apply KeepsP.mk' <;> try with_reducible apply KeepsP.fst) | with_reducible apply KeepsP.fst
    | fail_if_no_progress (with_reducible refine Keeps.lit rfl rfl rfl rfl rfl rfl rfl rfl ?_) | dsimp only | split | skip

theorem execL0pWidthChange_keeps {a0 : State} (p : PortN) (d : DirSel) (w : Byte) (stuck : Option LaneN) (s : State) (hk : Keeps a0 s) :
    ∃ next, execL0pWidthChange p d w stuck s = .next next ∧ Keeps a0 next := by
  refine ⟨_, rfl, ?_⟩
  iterate 40 all_goals first
    | intro _ | with_reducible assumption | with_reducible apply widthStep_keeps | with_reducible apply takeWidth_keeps
    | fail_if_no_progress (with_reducible apply KeepsP.mk' <;> try with_reducible apply KeepsP.fst) | with_reducible apply KeepsP.fst | dsimp only
    | split | skip

theorem execRecoveryComplete_keeps {a0 : State} (p : PortN) (spareLocked : Bool) (s : State) (hk : Keeps a0 s) :
    ∃ next, execRecoveryComplete p spareLocked s = .next next ∧ Keeps a0 next := by
  refine ⟨_, rfl, ?_⟩
  iterate 40 all_goals first
    | intro _ | with_reducible assumption | with_reducible apply recoveryDone_keeps | with_reducible apply portDown_keeps
    | with_reducible apply Keeps.ite | with_reducible apply KeepsP.ite
    | fail_if_no_progress (with_reducible apply KeepsP.mk' <;> try with_reducible apply KeepsP.fst) | with_reducible apply KeepsP.fst | dsimp only
    | split | skip

theorem execRecoveryEntry_keeps {a0 : State} (p : PortN) (s : State) (hk : Keeps a0 s) :
    ∃ next, execRecoveryEntry p s = .next next ∧ Keeps a0 next := by
  refine ⟨_, rfl, ?_⟩
  iterate 40 all_goals first
    | intro _ | with_reducible assumption | with_reducible apply recoverLanes_keeps | with_reducible apply enterRecovery_keeps
    | with_reducible apply Keeps.ite | skip

theorem execDegradeThreshold_keeps {a0 : State} (l : LaneN) (s : State) (hk : Keeps a0 s) :
    ∃ next, execDegradeThreshold l s = .next next ∧ Keeps a0 next := by
  refine ⟨_, rfl, ?_⟩
  iterate 40 all_goals first
    | intro _ | with_reducible assumption | with_reducible apply beginSubstitution_keeps | with_reducible apply fecCounted_keeps
    | with_reducible apply Keeps.ite | with_reducible apply KeepsP.ite
    | fail_if_no_progress (with_reducible apply KeepsP.mk' <;> try with_reducible apply KeepsP.fst) | with_reducible apply KeepsP.fst | dsimp only
    | split | skip

theorem execSpareExchangeComplete_keeps {a0 : State} (p : PortN) (ok : Bool) (s : State) (hk : Keeps a0 s) :
    ∃ next, execSpareExchangeComplete p ok s = .next next ∧ Keeps a0 next := by
  refine ⟨_, rfl, ?_⟩
  iterate 40 all_goals first
    | intro _ | with_reducible assumption | with_reducible apply setGroup_keeps | with_reducible apply keepaliveRuns_keeps
    | with_reducible apply raise_keeps | with_reducible apply wr_keeps | with_reducible apply keepaliveEnds_keeps | with_reducible apply Keeps.ite
    | with_reducible apply KeepsP.ite | fail_if_no_progress (with_reducible apply KeepsP.mk' <;> try with_reducible apply KeepsP.fst)
    | with_reducible apply KeepsP.fst | with_reducible apply Keeps.foldl | with_reducible apply KeepsP.foldl
    | fail_if_no_progress (with_reducible refine Keeps.lit rfl rfl rfl rfl rfl rfl rfl rfl ?_) | dsimp only | split | skip

theorem execKeepaliveLoss_keeps {a0 : State} (g : GroupN) (s : State) (hk : Keeps a0 s) :
    ∃ next, execKeepaliveLoss g s = .next next ∧ Keeps a0 next := by
  refine ⟨_, rfl, ?_⟩
  iterate 40 all_goals first
    | intro _ | with_reducible assumption | with_reducible apply setGroup_keeps | with_reducible apply freeNext_keeps
    | with_reducible apply bump_keeps | with_reducible apply spareRests_keeps | with_reducible apply raise_keeps | with_reducible apply wr_keeps
    | with_reducible apply Keeps.ite | with_reducible apply KeepsP.ite
    | fail_if_no_progress (with_reducible apply KeepsP.mk' <;> try with_reducible apply KeepsP.fst) | with_reducible apply KeepsP.fst
    | fail_if_no_progress (with_reducible refine Keeps.lit rfl rfl rfl rfl rfl rfl rfl rfl ?_) | dsimp only | split | skip

theorem execSwapBack_keeps {a0 : State} (r : Requester) (g : GroupN) (s : State) (hk : Keeps a0 s) :
    ∃ next, execSwapBack r g s = .next next ∧ Keeps a0 next := by
  refine ⟨_, rfl, ?_⟩
  iterate 40 all_goals first
    | intro _ | with_reducible assumption | with_reducible apply rowWrite_keeps | with_reducible apply swapBackWrite_keeps | skip

theorem execRetireLane_keeps {a0 : State} (r : Requester) (g : GroupN) (v : Byte) (s : State) (hk : Keeps a0 s) :
    ∃ next, execRetireLane r g v s = .next next ∧ Keeps a0 next := by
  refine ⟨_, rfl, ?_⟩
  iterate 40 all_goals first
    | intro _ | with_reducible assumption | with_reducible apply rowWrite_keeps | with_reducible apply retireLaneWrite_keeps | skip

theorem execLaneDirectionTarget_keeps {a0 : State} (r : Requester) (l : LaneN) (d : Dir) (v : Byte) (s : State) (hk : Keeps a0 s) :
    ∃ next, execLaneDirectionTarget r l d v s = .next next ∧ Keeps a0 next := by
  refine ⟨_, rfl, ?_⟩
  iterate 40 all_goals first
    | intro _ | with_reducible assumption | with_reducible apply rowWrite_keeps | with_reducible apply laneDirWrite_keeps | skip

theorem execTestTarget_keeps {a0 : State} (r : Requester) (l : LaneN) (v : Byte) (s : State) (hk : Keeps a0 s) :
    ∃ next, execTestTarget r l v s = .next next ∧ Keeps a0 next := by
  refine ⟨_, rfl, ?_⟩
  iterate 40 all_goals first
    | intro _ | with_reducible assumption | with_reducible apply rowWrite_keeps | with_reducible apply testTargetWrite_keeps | skip

theorem execTestLoopback_keeps {a0 : State} (r : Requester) (l : LaneN) (v : Byte) (s : State) (hk : Keeps a0 s) :
    ∃ next, execTestLoopback r l v s = .next next ∧ Keeps a0 next := by
  refine ⟨_, rfl, ?_⟩
  iterate 40 all_goals first
    | intro _ | with_reducible assumption | with_reducible apply rowWrite_keeps | with_reducible apply loopbackWrite_keeps | skip

theorem execLoopbackEntry_keeps {a0 : State} (l : LaneN) (s : State) (hk : Keeps a0 s) :
    ∃ next, execLoopbackEntry l s = .next next ∧ Keeps a0 next := by
  refine ⟨_, rfl, ?_⟩
  iterate 40 all_goals first
    | intro _ | with_reducible assumption | with_reducible apply setLane_keeps | with_reducible apply KeepsP.fst
    | fail_if_no_progress (with_reducible refine Keeps.lit rfl rfl rfl rfl rfl rfl rfl rfl ?_) | dsimp only | split | skip

theorem execTestInject_keeps {a0 : State} (r : Requester) (l : LaneN) (n : BitVec 32) (s : State) (hk : Keeps a0 s) :
    ∃ next, execTestInject r l n s = .next next ∧ Keeps a0 next := by
  refine ⟨_, rfl, ?_⟩
  iterate 40 all_goals first
    | intro _ | with_reducible assumption | with_reducible apply rowWrite_keeps | with_reducible apply injectWrite_keeps | skip

theorem execClearCounters_keeps {a0 : State} (r : Requester) (l : LaneN) (s : State) (hk : Keeps a0 s) :
    ∃ next, execClearCounters r l s = .next next ∧ Keeps a0 next := by
  refine ⟨_, rfl, ?_⟩
  iterate 40 all_goals first
    | intro _ | with_reducible assumption | with_reducible apply rowWrite_keeps | with_reducible apply clearCountersWrite_keeps | skip

theorem execCheckerSync_keeps {a0 : State} (l : LaneN) (s : State) (hk : Keeps a0 s) :
    ∃ next, execCheckerSync l s = .next next ∧ Keeps a0 next := by
  refine ⟨_, rfl, ?_⟩
  iterate 40 all_goals first
    | intro _ | with_reducible assumption | with_reducible apply setLane_keeps | with_reducible apply KeepsP.fst
    | fail_if_no_progress (with_reducible refine Keeps.lit rfl rfl rfl rfl rfl rfl rfl rfl ?_) | dsimp only | split | skip

theorem execCheckerSyncLoss_keeps {a0 : State} (l : LaneN) (bits errs : Nat) (s : State) (hk : Keeps a0 s) :
    ∃ next, execCheckerSyncLoss l bits errs s = .next next ∧ Keeps a0 next := by
  refine ⟨_, rfl, ?_⟩
  iterate 40 all_goals first
    | intro _ | with_reducible assumption | with_reducible apply countBits_keeps | with_reducible apply setLane_keeps
    | with_reducible apply bump_keeps | with_reducible apply Keeps.ite | with_reducible apply KeepsP.ite
    | fail_if_no_progress (with_reducible apply KeepsP.mk' <;> try with_reducible apply KeepsP.fst) | with_reducible apply KeepsP.fst
    | fail_if_no_progress (with_reducible refine Keeps.lit rfl rfl rfl rfl rfl rfl rfl rfl ?_) | dsimp only | split | skip

theorem execL1Entry_keeps {a0 : State} (p : PortN) (s : State) (hk : Keeps a0 s) :
    ∃ next, execL1Entry p s = .next next ∧ Keeps a0 next := by
  refine ⟨_, rfl, ?_⟩
  iterate 40 all_goals first
    | intro _ | with_reducible assumption | with_reducible apply setDirs_keeps | with_reducible apply wr_keeps | with_reducible apply Keeps.ite
    | with_reducible apply KeepsP.ite | with_reducible apply KeepsP.fst | with_reducible apply Keeps.foldl | skip

theorem execL1Exit_keeps {a0 : State} (p : PortN) (s : State) (hk : Keeps a0 s) :
    ∃ next, execL1Exit p s = .next next ∧ Keeps a0 next := by
  refine ⟨_, rfl, ?_⟩
  iterate 40 all_goals first
    | intro _ | with_reducible assumption | with_reducible apply setWidth_keeps | with_reducible apply wr_keeps | with_reducible apply Keeps.ite
    | with_reducible apply KeepsP.ite | fail_if_no_progress (with_reducible apply KeepsP.mk' <;> try with_reducible apply KeepsP.fst)
    | with_reducible apply KeepsP.fst | dsimp only | split | skip

theorem execInstCreate_keeps {a0 : State} (r : Requester) (v : List Byte) (s : State) (hk : Keeps a0 s) :
    ∃ next, execInstCreate r v s = .next next ∧ Keeps a0 next := by
  refine ⟨_, rfl, ?_⟩
  iterate 40 all_goals first
    | intro _ | with_reducible assumption | with_reducible apply rowWrite_keeps | with_reducible apply createWrite_keeps | skip

theorem execInstDestroy_keeps {a0 : State} (r : Requester) (i : InstN) (s : State) (hk : Keeps a0 s) :
    ∃ next, execInstDestroy r i s = .next next ∧ Keeps a0 next := by
  refine ⟨_, rfl, ?_⟩
  iterate 40 all_goals first
    | intro _ | with_reducible assumption | with_reducible apply rowWrite_keeps | with_reducible apply destroyWrite_keeps | skip

theorem execDestroyComplete_keeps {a0 : State} (i : InstN) (s : State) (hk : Keeps a0 s) :
    ∃ next, execDestroyComplete i s = .next next ∧ Keeps a0 next := by
  refine ⟨_, rfl, ?_⟩
  iterate 40 all_goals first
    | intro _ | with_reducible assumption | with_reducible apply destroyComplete_keeps | skip

theorem execInstBind_keeps {a0 : State} (r : Requester) (i : InstN) (sub : BindSub) (v : Byte) (s : State) (hk : Keeps a0 s) :
    ∃ next, execInstBind r i sub v s = .next next ∧ Keeps a0 next := by
  refine ⟨_, rfl, ?_⟩
  iterate 40 all_goals first
    | intro _ | with_reducible assumption | with_reducible apply rowWrite_keeps | with_reducible apply presentationWrite_keeps | skip

theorem execInstUnbind_keeps {a0 : State} (i : InstN) (s : State) (hk : Keeps a0 s) :
    ∃ next, execInstUnbind i s = .next next ∧ Keeps a0 next := by
  refine ⟨_, rfl, ?_⟩
  iterate 40 all_goals first
    | intro _ | with_reducible assumption | with_reducible apply unbind_keeps | skip

theorem execHdmDecoderCommit_keeps {a0 : State} (i : InstN) (d : Fin 8) (rec : List Byte) (s : State) (hk : Keeps a0 s) :
    ∃ next, execHdmDecoderCommit i d rec s = .next next ∧ Keeps a0 next := by
  refine ⟨_, rfl, ?_⟩
  iterate 40 all_goals first
    | intro _ | with_reducible assumption | with_reducible apply hostCommit_keeps | with_reducible apply KeepsP.fst | dsimp only | split | skip

theorem execIdentifyMemoryDevice_keeps {a0 : State} (i : InstN) (s : State) (hk : Keeps a0 s) :
    ∃ next, execIdentifyMemoryDevice i s = .next next ∧ Keeps a0 next := by
  refine ⟨_, rfl, ?_⟩
  iterate 40 all_goals first
    | intro _ | with_reducible assumption | with_reducible apply mailboxRun_keeps | with_reducible apply mailboxReply_keeps | skip

theorem execGetSupportedLogs_keeps {a0 : State} (i : InstN) (s : State) (hk : Keeps a0 s) :
    ∃ next, execGetSupportedLogs i s = .next next ∧ Keeps a0 next := by
  refine ⟨_, rfl, ?_⟩
  iterate 40 all_goals first
    | intro _ | with_reducible assumption | with_reducible apply mailboxRun_keeps | with_reducible apply mailboxReply_keeps | skip

theorem execGetLog_keeps {a0 : State} (i : InstN) (offset length : BitVec 32) (s : State) (hk : Keeps a0 s) :
    ∃ next, execGetLog i offset length s = .next next ∧ Keeps a0 next := by
  refine ⟨_, rfl, ?_⟩
  iterate 40 all_goals first
    | intro _ | with_reducible assumption | with_reducible apply mailboxRun_keeps | with_reducible apply mailboxReply_keeps
    | with_reducible apply Keeps.ite | skip

theorem execGetEventRecords_keeps {a0 : State} (i : InstN) (log : Byte) (s : State) (hk : Keeps a0 s) :
    ∃ next, execGetEventRecords i log s = .next next ∧ Keeps a0 next := by
  refine ⟨_, rfl, ?_⟩
  iterate 40 all_goals first
    | intro _ | with_reducible assumption | with_reducible apply mailboxRun_keeps | with_reducible apply mailboxReply_keeps
    | with_reducible apply Keeps.ite | skip

theorem execClearEventRecords_keeps {a0 : State} (i : InstN) (log : Byte) (handles : List Nat) (s : State) (hk : Keeps a0 s) :
    ∃ next, execClearEventRecords i log handles s = .next next ∧ Keeps a0 next := by
  refine ⟨_, rfl, ?_⟩
  iterate 40 all_goals first
    | intro _ | with_reducible assumption | with_reducible apply mailboxRun_keeps | with_reducible apply mailboxReply_keeps
    | with_reducible apply setInst_keeps | with_reducible apply Keeps.ite | skip

theorem execGetEventInterruptPolicy_keeps {a0 : State} (i : InstN) (s : State) (hk : Keeps a0 s) :
    ∃ next, execGetEventInterruptPolicy i s = .next next ∧ Keeps a0 next := by
  refine ⟨_, rfl, ?_⟩
  iterate 40 all_goals first
    | intro _ | with_reducible assumption | with_reducible apply mailboxRun_keeps | with_reducible apply mailboxReply_keeps | skip

theorem execSetEventInterruptPolicy_keeps {a0 : State} (i : InstN) (policy : List Byte) (s : State) (hk : Keeps a0 s) :
    ∃ next, execSetEventInterruptPolicy i policy s = .next next ∧ Keeps a0 next := by
  refine ⟨_, rfl, ?_⟩
  iterate 40 all_goals first
    | intro _ | with_reducible assumption | with_reducible apply mailboxRun_keeps | with_reducible apply mailboxReply_keeps
    | with_reducible apply setInst_keeps | with_reducible apply Keeps.ite | skip

theorem execGetHealthInfo_keeps {a0 : State} (i : InstN) (s : State) (hk : Keeps a0 s) :
    ∃ next, execGetHealthInfo i s = .next next ∧ Keeps a0 next := by
  refine ⟨_, rfl, ?_⟩
  iterate 40 all_goals first
    | intro _ | with_reducible assumption | with_reducible apply mailboxRun_keeps | with_reducible apply freeNext_keeps
    | with_reducible apply mailboxReply_keeps | skip

theorem execGetTimestamp_keeps {a0 : State} (i : InstN) (s : State) (hk : Keeps a0 s) :
    ∃ next, execGetTimestamp i s = .next next ∧ Keeps a0 next := by
  refine ⟨_, rfl, ?_⟩
  iterate 40 all_goals first
    | intro _ | with_reducible assumption | with_reducible apply mailboxRun_keeps | with_reducible apply mailboxReply_keeps | skip

theorem execGetPoisonList_keeps {a0 : State} (i : InstN) (offset length : BitVec 64) (s : State) (hk : Keeps a0 s) :
    ∃ next, execGetPoisonList i offset length s = .next next ∧ Keeps a0 next := by
  refine ⟨_, rfl, ?_⟩
  iterate 40 all_goals first
    | intro _ | with_reducible assumption | with_reducible apply mailboxRun_keeps | with_reducible apply mailboxReply_keeps | skip

theorem execGetDynamicCapacityConfiguration_keeps {a0 : State} (i : InstN) (first count : Byte) (s : State) (hk : Keeps a0 s) :
    ∃ next, execGetDynamicCapacityConfiguration i first count s = .next next ∧ Keeps a0 next := by
  refine ⟨_, rfl, ?_⟩
  iterate 40 all_goals first
    | intro _ | with_reducible assumption | with_reducible apply mailboxRun_keeps | with_reducible apply mailboxReply_keeps | skip

theorem execGetDynamicCapacityExtentList_keeps {a0 : State} (i : InstN) (start count : BitVec 32) (s : State) (hk : Keeps a0 s) :
    ∃ next, execGetDynamicCapacityExtentList i start count s = .next next ∧ Keeps a0 next := by
  refine ⟨_, rfl, ?_⟩
  iterate 40 all_goals first
    | intro _ | with_reducible assumption | with_reducible apply mailboxRun_keeps | with_reducible apply mailboxReply_keeps
    | with_reducible apply Keeps.ite | skip

theorem execMailboxUnsupported_keeps {a0 : State} (i : InstN) (opcode : BitVec 16) (s : State) (hk : Keeps a0 s) :
    ∃ next, execMailboxUnsupported i opcode s = .next next ∧ Keeps a0 next := by
  refine ⟨_, rfl, ?_⟩
  iterate 40 all_goals first
    | intro _ | with_reducible assumption | with_reducible apply mailboxRun_keeps | with_reducible apply mailboxReply_keeps
    | with_reducible apply Keeps.ite | skip

theorem execSubmitInvocations_keeps {a0 : State} (i : InstN) (k : QueueK) (descs : List (List Byte)) (s : State) (hk : Keeps a0 s) :
    ∃ next, execSubmitInvocations i k descs s = .next next ∧ Keeps a0 next := by
  refine ⟨_, rfl, ?_⟩
  iterate 40 all_goals first
    | intro _ | with_reducible assumption | with_reducible apply vendorRun_keeps | with_reducible apply mailboxReply_keeps
    | with_reducible apply submit_keeps | with_reducible apply Keeps.ite | skip

theorem execGetCompletions_keeps {a0 : State} (i : InstN) (mask max : BitVec 16) (s : State) (hk : Keeps a0 s) :
    ∃ next, execGetCompletions i mask max s = .next next ∧ Keeps a0 next := by
  refine ⟨_, rfl, ?_⟩
  iterate 40 all_goals first
    | intro _ | with_reducible assumption | with_reducible apply vendorRun_keeps | with_reducible apply takeCompletions_keeps
    | with_reducible apply mailboxReply_keeps | with_reducible apply completeUnserved_keeps | with_reducible apply KeepsP.fst | skip

theorem execLoadStepTable_keeps {a0 : State} (i : InstN) (image : List Byte) (s : State) (hk : Keeps a0 s) :
    ∃ next, execLoadStepTable i image s = .next next ∧ Keeps a0 next := by
  refine ⟨_, rfl, ?_⟩
  iterate 40 all_goals first
    | intro _ | with_reducible assumption | with_reducible apply vendorRun_keeps | with_reducible apply mailboxReply_keeps
    | with_reducible apply loadImage_keeps | with_reducible apply Keeps.ite | with_reducible apply KeepsP.ite | with_reducible apply KeepsP.fst
    | skip

theorem execUnloadStepTable_keeps {a0 : State} (i : InstN) (tb : BitVec 16) (s : State) (hk : Keeps a0 s) :
    ∃ next, execUnloadStepTable i tb s = .next next ∧ Keeps a0 next := by
  refine ⟨_, rfl, ?_⟩
  iterate 40 all_goals first
    | intro _ | with_reducible assumption | with_reducible apply vendorRun_keeps | with_reducible apply mailboxReply_keeps
    | with_reducible apply unloadTable_keeps | with_reducible apply setInst_keeps | with_reducible apply Keeps.ite
    | with_reducible apply KeepsP.ite | with_reducible apply KeepsP.fst
    | fail_if_no_progress (with_reducible refine Keeps.lit rfl rfl rfl rfl rfl rfl rfl rfl ?_) | dsimp only | split | skip

theorem execGetNotices_keeps {a0 : State} (i : InstN) (max : Byte) (s : State) (hk : Keeps a0 s) :
    ∃ next, execGetNotices i max s = .next next ∧ Keeps a0 next := by
  refine ⟨_, rfl, ?_⟩
  iterate 40 all_goals first
    | intro _ | with_reducible assumption | with_reducible apply vendorRun_keeps | with_reducible apply mailboxReply_keeps | skip

theorem execAcknowledgeNotices_keeps {a0 : State} (i : InstN) (seq : BitVec 32) (s : State) (hk : Keeps a0 s) :
    ∃ next, execAcknowledgeNotices i seq s = .next next ∧ Keeps a0 next := by
  refine ⟨_, rfl, ?_⟩
  iterate 40 all_goals first
    | intro _ | with_reducible assumption | with_reducible apply vendorRun_keeps | with_reducible apply mailboxReply_keeps
    | with_reducible apply ackNotices_keeps | skip

theorem execConfirmFlush_keeps {a0 : State} (i : InstN) (offset length : BitVec 64) (s : State) (hk : Keeps a0 s) :
    ∃ next, execConfirmFlush i offset length s = .next next ∧ Keeps a0 next := by
  refine ⟨_, rfl, ?_⟩
  iterate 40 all_goals first
    | intro _ | with_reducible assumption | with_reducible apply vendorRun_keeps | with_reducible apply mailboxReply_keeps
    | with_reducible apply wrBlob_keeps | skip

theorem execPostNotice_keeps {a0 : State} (r : Requester) (i : InstN) (v : List Byte) (s : State) (hk : Keeps a0 s) :
    ∃ next, execPostNotice r i v s = .next next ∧ Keeps a0 next := by
  refine ⟨_, rfl, ?_⟩
  iterate 40 all_goals first
    | intro _ | with_reducible assumption | with_reducible apply rowWrite_keeps | with_reducible apply postNoticeWrite_keeps | skip

theorem execDirtyStart_keeps {a0 : State} (r : Requester) (i : InstN) (s : State) (hk : Keeps a0 s) :
    ∃ next, execDirtyStart r i s = .next next ∧ Keeps a0 next := by
  refine ⟨_, rfl, ?_⟩
  iterate 40 all_goals first
    | intro _ | with_reducible assumption | with_reducible apply rowWrite_keeps | with_reducible apply dirtyStartWrite_keeps | skip

theorem execDirtyStop_keeps {a0 : State} (r : Requester) (i : InstN) (s : State) (hk : Keeps a0 s) :
    ∃ next, execDirtyStop r i s = .next next ∧ Keeps a0 next := by
  refine ⟨_, rfl, ?_⟩
  iterate 40 all_goals first
    | intro _ | with_reducible assumption | with_reducible apply rowWrite_keeps | with_reducible apply dirtyStopWrite_keeps | skip

theorem execDirtyHarvest_keeps {a0 : State} (r : Requester) (i : InstN) (v : List Byte) (s : State) (hk : Keeps a0 s) :
    ∃ next, execDirtyHarvest r i v s = .next next ∧ Keeps a0 next := by
  refine ⟨_, rfl, ?_⟩
  iterate 40 all_goals first
    | intro _ | with_reducible assumption | with_reducible apply rowWrite_keeps | with_reducible apply dirtyHarvestWrite_keeps | skip

theorem execHarvestTick_keeps {a0 : State} (s : State) (hk : Keeps a0 s) :
    ∃ next, execHarvestTick s = .next next ∧ Keeps a0 next := by
  refine ⟨_, rfl, ?_⟩
  iterate 40 all_goals first
    | intro _ | with_reducible assumption | with_reducible apply harvestTick_keeps | skip

theorem execMarkFlushComplete_keeps {a0 : State} (i : InstN) (s : State) (hk : Keeps a0 s) :
    ∃ next, execMarkFlushComplete i s = .next next ∧ Keeps a0 next := by
  refine ⟨_, rfl, ?_⟩
  iterate 40 all_goals first
    | intro _ | with_reducible assumption | with_reducible apply markFlushed_keeps | skip

theorem execBitmapClearComplete_keeps {a0 : State} (i : InstN) (s : State) (hk : Keeps a0 s) :
    ∃ next, execBitmapClearComplete i s = .next next ∧ Keeps a0 next := by
  refine ⟨_, rfl, ?_⟩
  iterate 40 all_goals first
    | intro _ | with_reducible assumption | with_reducible apply bitmapCleared_keeps | skip

theorem execHarvestTransferComplete_keeps {a0 : State} (i : InstN) (s : State) (hk : Keeps a0 s) :
    ∃ next, execHarvestTransferComplete i s = .next next ∧ Keeps a0 next := by
  refine ⟨_, rfl, ?_⟩
  iterate 40 all_goals first
    | intro _ | with_reducible assumption | with_reducible apply harvestDone_keeps | skip

theorem execEpochEnd_keeps {a0 : State} (t : TileN) (s : State) (hk : Keeps a0 s) :
    ∃ next, execEpochEnd t s = .next next ∧ Keeps a0 next := by
  refine ⟨_, rfl, ?_⟩
  iterate 40 all_goals first
    | intro _ | with_reducible assumption | with_reducible apply epochEnd_keeps | skip

theorem execMoveRecallComplete_keeps {a0 : State} (g : GranN) (s : State) (hk : Keeps a0 s) :
    ∃ next, execMoveRecallComplete g s = .next next ∧ Keeps a0 next := by
  refine ⟨_, rfl, ?_⟩
  iterate 40 all_goals first
    | intro _ | with_reducible assumption | with_reducible apply recallDone_keeps | skip

theorem execMoveCopyComplete_keeps {a0 : State} (g : GranN) (s : State) (hk : Keeps a0 s) :
    ∃ next, execMoveCopyComplete g s = .next next ∧ Keeps a0 next := by
  refine ⟨_, rfl, ?_⟩
  iterate 40 all_goals first
    | intro _ | with_reducible assumption | with_reducible apply copyDone_keeps | skip

theorem execCutOverComplete_keeps {a0 : State} (g : GranN) (s : State) (hk : Keeps a0 s) :
    ∃ next, execCutOverComplete g s = .next next ∧ Keeps a0 next := by
  refine ⟨_, rfl, ?_⟩
  iterate 40 all_goals first
    | intro _ | with_reducible assumption | with_reducible apply cutOver_keeps | skip

theorem execLockGuardExpiry_keeps {a0 : State} (g : GranN) (s : State) (hk : Keeps a0 s) :
    ∃ next, execLockGuardExpiry g s = .next next ∧ Keeps a0 next := by
  refine ⟨_, rfl, ?_⟩
  iterate 40 all_goals first
    | intro _ | with_reducible assumption | with_reducible apply guardExpires_keeps | skip

theorem execReleaseMessage_keeps {a0 : State} (t : TileN) (g : GranN) (s : State) (hk : Keeps a0 s) :
    ∃ next, execReleaseMessage t g s = .next next ∧ Keeps a0 next := by
  refine ⟨_, rfl, ?_⟩
  iterate 40 all_goals first
    | intro _ | with_reducible assumption | with_reducible apply releaseMessage_keeps | skip

theorem execMoveSettle_keeps {a0 : State} (g : GranN) (s : State) (hk : Keeps a0 s) :
    ∃ next, execMoveSettle g s = .next next ∧ Keeps a0 next := by
  refine ⟨_, rfl, ?_⟩
  iterate 40 all_goals first
    | intro _ | with_reducible assumption | with_reducible apply settleMove_keeps | skip

theorem execSectorFill_keeps {a0 : State} (g : GranN) (sector : Fin 64) (s : State) (hk : Keeps a0 s) :
    ∃ next, execSectorFill g sector s = .next next ∧ Keeps a0 next := by
  refine ⟨_, rfl, ?_⟩
  iterate 40 all_goals first
    | intro _ | with_reducible assumption | with_reducible apply sectorFilled_keeps | skip

theorem execLittoralMove_keeps {a0 : State} (r : Requester) (v : List Byte) (s : State) (hk : Keeps a0 s) :
    ∃ next, execLittoralMove r v s = .next next ∧ Keeps a0 next := by
  refine ⟨_, rfl, ?_⟩
  iterate 40 all_goals first
    | intro _ | with_reducible assumption | with_reducible apply rowWrite_keeps | with_reducible apply moveWrite_keeps | skip

end Sys2Proof.Machine
end

