-- ==== Sys2Proof/Laws/State.lean ====
section
/-!
SUPPORT. Every field after every update of one field: what an update writes, and that it leaves the other fields alone.
-/
namespace Sys2Proof.Machine

open Sys2Proof

/-! The fields after `wr`. -/

@[simp] theorem wr_pending (s : State) (i : Nat) (b : Nat) (q : Nat) (v : Nat) : (wr s i b q v).pending = s.pending := rfl
@[simp] theorem wr_obj (s : State) (i : Nat) (b : Nat) (q : Nat) (v : Nat) : (wr s i b q v).obj = put s.obj (okey i b q) v := rfl
@[simp] theorem wr_blob (s : State) (i : Nat) (b : Nat) (q : Nat) (v : Nat) : (wr s i b q v).blob = s.blob := rfl
@[simp] theorem wr_tbl (s : State) (i : Nat) (b : Nat) (q : Nat) (v : Nat) : (wr s i b q v).tbl = s.tbl := rfl
@[simp] theorem wr_chg (s : State) (i : Nat) (b : Nat) (q : Nat) (v : Nat) : (wr s i b q v).chg = s.chg := rfl
@[simp] theorem wr_clock (s : State) (i : Nat) (b : Nat) (q : Nat) (v : Nat) : (wr s i b q v).clock = s.clock := rfl
@[simp] theorem wr_mgmt (s : State) (i : Nat) (b : Nat) (q : Nat) (v : Nat) : (wr s i b q v).mgmt = s.mgmt := rfl
@[simp] theorem wr_flt (s : State) (i : Nat) (b : Nat) (q : Nat) (v : Nat) : (wr s i b q v).flt = s.flt := rfl
@[simp] theorem wr_mode (s : State) (i : Nat) (b : Nat) (q : Nat) (v : Nat) : (wr s i b q v).mode = s.mode := rfl
@[simp] theorem wr_lanes (s : State) (i : Nat) (b : Nat) (q : Nat) (v : Nat) : (wr s i b q v).lanes = s.lanes := rfl
@[simp] theorem wr_groups (s : State) (i : Nat) (b : Nat) (q : Nat) (v : Nat) : (wr s i b q v).groups = s.groups := rfl
@[simp] theorem wr_ports (s : State) (i : Nat) (b : Nat) (q : Nat) (v : Nat) : (wr s i b q v).ports = s.ports := rfl
@[simp] theorem wr_fns (s : State) (i : Nat) (b : Nat) (q : Nat) (v : Nat) : (wr s i b q v).fns = s.fns := rfl
@[simp] theorem wr_bridges (s : State) (i : Nat) (b : Nat) (q : Nat) (v : Nat) : (wr s i b q v).bridges = s.bridges := rfl
@[simp] theorem wr_ppb (s : State) (i : Nat) (b : Nat) (q : Nat) (v : Nat) : (wr s i b q v).ppb = s.ppb := rfl
@[simp] theorem wr_tiles (s : State) (i : Nat) (b : Nat) (q : Nat) (v : Nat) : (wr s i b q v).tiles = s.tiles := rfl
@[simp] theorem wr_links (s : State) (i : Nat) (b : Nat) (q : Nat) (v : Nat) : (wr s i b q v).links = s.links := rfl
@[simp] theorem wr_egress (s : State) (i : Nat) (b : Nat) (q : Nat) (v : Nat) : (wr s i b q v).egress = s.egress := rfl
@[simp] theorem wr_txns (s : State) (i : Nat) (b : Nat) (q : Nat) (v : Nat) : (wr s i b q v).txns = s.txns := rfl
@[simp] theorem wr_mem (s : State) (i : Nat) (b : Nat) (q : Nat) (v : Nat) : (wr s i b q v).mem = s.mem := rfl
@[simp] theorem wr_pool (s : State) (i : Nat) (b : Nat) (q : Nat) (v : Nat) : (wr s i b q v).pool = s.pool := rfl
@[simp] theorem wr_coh (s : State) (i : Nat) (b : Nat) (q : Nat) (v : Nat) : (wr s i b q v).coh = s.coh := rfl
@[simp] theorem wr_lit (s : State) (i : Nat) (b : Nat) (q : Nat) (v : Nat) : (wr s i b q v).lit = s.lit := rfl
@[simp] theorem wr_insts (s : State) (i : Nat) (b : Nat) (q : Nat) (v : Nat) : (wr s i b q v).insts = s.insts := rfl
@[simp] theorem wr_qos (s : State) (i : Nat) (b : Nat) (q : Nat) (v : Nat) : (wr s i b q v).qos = s.qos := rfl
@[simp] theorem wr_tele (s : State) (i : Nat) (b : Nat) (q : Nat) (v : Nat) : (wr s i b q v).tele = s.tele := rfl
@[simp] theorem wr_gecko (s : State) (i : Nat) (b : Nat) (q : Nat) (v : Nat) : (wr s i b q v).gecko = s.gecko := rfl
@[simp] theorem wr_pwr (s : State) (i : Nat) (b : Nat) (q : Nat) (v : Nat) : (wr s i b q v).pwr = s.pwr := rfl
@[simp] theorem wr_slots (s : State) (i : Nat) (b : Nat) (q : Nat) (v : Nat) : (wr s i b q v).slots = s.slots := rfl
@[simp] theorem wr_sec (s : State) (i : Nat) (b : Nat) (q : Nat) (v : Nat) : (wr s i b q v).sec = s.sec := rfl
@[simp] theorem wr_out (s : State) (i : Nat) (b : Nat) (q : Nat) (v : Nat) : (wr s i b q v).out = s.out := rfl
@[simp] theorem wr_free (s : State) (i : Nat) (b : Nat) (q : Nat) (v : Nat) : (wr s i b q v).free = s.free := rfl

/-! The fields after `bump`. -/

@[simp] theorem bump_pending (s : State) (i : Nat) (b : Nat) (q : Nat) (w : Nat) (n : Nat) : (bump s i b q w n).pending = s.pending := rfl
@[simp] theorem bump_obj (s : State) (i : Nat) (b : Nat) (q : Nat) (w : Nat) (n : Nat) : (bump s i b q w n).obj = put s.obj (okey i b q) ((rd s i b q + n) % 2 ^ w) := rfl
@[simp] theorem bump_blob (s : State) (i : Nat) (b : Nat) (q : Nat) (w : Nat) (n : Nat) : (bump s i b q w n).blob = s.blob := rfl
@[simp] theorem bump_tbl (s : State) (i : Nat) (b : Nat) (q : Nat) (w : Nat) (n : Nat) : (bump s i b q w n).tbl = s.tbl := rfl
@[simp] theorem bump_chg (s : State) (i : Nat) (b : Nat) (q : Nat) (w : Nat) (n : Nat) : (bump s i b q w n).chg = s.chg := rfl
@[simp] theorem bump_clock (s : State) (i : Nat) (b : Nat) (q : Nat) (w : Nat) (n : Nat) : (bump s i b q w n).clock = s.clock := rfl
@[simp] theorem bump_mgmt (s : State) (i : Nat) (b : Nat) (q : Nat) (w : Nat) (n : Nat) : (bump s i b q w n).mgmt = s.mgmt := rfl
@[simp] theorem bump_flt (s : State) (i : Nat) (b : Nat) (q : Nat) (w : Nat) (n : Nat) : (bump s i b q w n).flt = s.flt := rfl
@[simp] theorem bump_mode (s : State) (i : Nat) (b : Nat) (q : Nat) (w : Nat) (n : Nat) : (bump s i b q w n).mode = s.mode := rfl
@[simp] theorem bump_lanes (s : State) (i : Nat) (b : Nat) (q : Nat) (w : Nat) (n : Nat) : (bump s i b q w n).lanes = s.lanes := rfl
@[simp] theorem bump_groups (s : State) (i : Nat) (b : Nat) (q : Nat) (w : Nat) (n : Nat) : (bump s i b q w n).groups = s.groups := rfl
@[simp] theorem bump_ports (s : State) (i : Nat) (b : Nat) (q : Nat) (w : Nat) (n : Nat) : (bump s i b q w n).ports = s.ports := rfl
@[simp] theorem bump_fns (s : State) (i : Nat) (b : Nat) (q : Nat) (w : Nat) (n : Nat) : (bump s i b q w n).fns = s.fns := rfl
@[simp] theorem bump_bridges (s : State) (i : Nat) (b : Nat) (q : Nat) (w : Nat) (n : Nat) : (bump s i b q w n).bridges = s.bridges := rfl
@[simp] theorem bump_ppb (s : State) (i : Nat) (b : Nat) (q : Nat) (w : Nat) (n : Nat) : (bump s i b q w n).ppb = s.ppb := rfl
@[simp] theorem bump_tiles (s : State) (i : Nat) (b : Nat) (q : Nat) (w : Nat) (n : Nat) : (bump s i b q w n).tiles = s.tiles := rfl
@[simp] theorem bump_links (s : State) (i : Nat) (b : Nat) (q : Nat) (w : Nat) (n : Nat) : (bump s i b q w n).links = s.links := rfl
@[simp] theorem bump_egress (s : State) (i : Nat) (b : Nat) (q : Nat) (w : Nat) (n : Nat) : (bump s i b q w n).egress = s.egress := rfl
@[simp] theorem bump_txns (s : State) (i : Nat) (b : Nat) (q : Nat) (w : Nat) (n : Nat) : (bump s i b q w n).txns = s.txns := rfl
@[simp] theorem bump_mem (s : State) (i : Nat) (b : Nat) (q : Nat) (w : Nat) (n : Nat) : (bump s i b q w n).mem = s.mem := rfl
@[simp] theorem bump_pool (s : State) (i : Nat) (b : Nat) (q : Nat) (w : Nat) (n : Nat) : (bump s i b q w n).pool = s.pool := rfl
@[simp] theorem bump_coh (s : State) (i : Nat) (b : Nat) (q : Nat) (w : Nat) (n : Nat) : (bump s i b q w n).coh = s.coh := rfl
@[simp] theorem bump_lit (s : State) (i : Nat) (b : Nat) (q : Nat) (w : Nat) (n : Nat) : (bump s i b q w n).lit = s.lit := rfl
@[simp] theorem bump_insts (s : State) (i : Nat) (b : Nat) (q : Nat) (w : Nat) (n : Nat) : (bump s i b q w n).insts = s.insts := rfl
@[simp] theorem bump_qos (s : State) (i : Nat) (b : Nat) (q : Nat) (w : Nat) (n : Nat) : (bump s i b q w n).qos = s.qos := rfl
@[simp] theorem bump_tele (s : State) (i : Nat) (b : Nat) (q : Nat) (w : Nat) (n : Nat) : (bump s i b q w n).tele = s.tele := rfl
@[simp] theorem bump_gecko (s : State) (i : Nat) (b : Nat) (q : Nat) (w : Nat) (n : Nat) : (bump s i b q w n).gecko = s.gecko := rfl
@[simp] theorem bump_pwr (s : State) (i : Nat) (b : Nat) (q : Nat) (w : Nat) (n : Nat) : (bump s i b q w n).pwr = s.pwr := rfl
@[simp] theorem bump_slots (s : State) (i : Nat) (b : Nat) (q : Nat) (w : Nat) (n : Nat) : (bump s i b q w n).slots = s.slots := rfl
@[simp] theorem bump_sec (s : State) (i : Nat) (b : Nat) (q : Nat) (w : Nat) (n : Nat) : (bump s i b q w n).sec = s.sec := rfl
@[simp] theorem bump_out (s : State) (i : Nat) (b : Nat) (q : Nat) (w : Nat) (n : Nat) : (bump s i b q w n).out = s.out := rfl
@[simp] theorem bump_free (s : State) (i : Nat) (b : Nat) (q : Nat) (w : Nat) (n : Nat) : (bump s i b q w n).free = s.free := rfl

/-! The fields after `wrBlob`. -/

@[simp] theorem wrBlob_pending (s : State) (i : Nat) (b : Nat) (q : Nat) (v : List Byte) : (wrBlob s i b q v).pending = s.pending := rfl
@[simp] theorem wrBlob_obj (s : State) (i : Nat) (b : Nat) (q : Nat) (v : List Byte) : (wrBlob s i b q v).obj = s.obj := rfl
@[simp] theorem wrBlob_blob (s : State) (i : Nat) (b : Nat) (q : Nat) (v : List Byte) : (wrBlob s i b q v).blob = put s.blob (okey i b q) v := rfl
@[simp] theorem wrBlob_tbl (s : State) (i : Nat) (b : Nat) (q : Nat) (v : List Byte) : (wrBlob s i b q v).tbl = s.tbl := rfl
@[simp] theorem wrBlob_chg (s : State) (i : Nat) (b : Nat) (q : Nat) (v : List Byte) : (wrBlob s i b q v).chg = s.chg := rfl
@[simp] theorem wrBlob_clock (s : State) (i : Nat) (b : Nat) (q : Nat) (v : List Byte) : (wrBlob s i b q v).clock = s.clock := rfl
@[simp] theorem wrBlob_mgmt (s : State) (i : Nat) (b : Nat) (q : Nat) (v : List Byte) : (wrBlob s i b q v).mgmt = s.mgmt := rfl
@[simp] theorem wrBlob_flt (s : State) (i : Nat) (b : Nat) (q : Nat) (v : List Byte) : (wrBlob s i b q v).flt = s.flt := rfl
@[simp] theorem wrBlob_mode (s : State) (i : Nat) (b : Nat) (q : Nat) (v : List Byte) : (wrBlob s i b q v).mode = s.mode := rfl
@[simp] theorem wrBlob_lanes (s : State) (i : Nat) (b : Nat) (q : Nat) (v : List Byte) : (wrBlob s i b q v).lanes = s.lanes := rfl
@[simp] theorem wrBlob_groups (s : State) (i : Nat) (b : Nat) (q : Nat) (v : List Byte) : (wrBlob s i b q v).groups = s.groups := rfl
@[simp] theorem wrBlob_ports (s : State) (i : Nat) (b : Nat) (q : Nat) (v : List Byte) : (wrBlob s i b q v).ports = s.ports := rfl
@[simp] theorem wrBlob_fns (s : State) (i : Nat) (b : Nat) (q : Nat) (v : List Byte) : (wrBlob s i b q v).fns = s.fns := rfl
@[simp] theorem wrBlob_bridges (s : State) (i : Nat) (b : Nat) (q : Nat) (v : List Byte) : (wrBlob s i b q v).bridges = s.bridges := rfl
@[simp] theorem wrBlob_ppb (s : State) (i : Nat) (b : Nat) (q : Nat) (v : List Byte) : (wrBlob s i b q v).ppb = s.ppb := rfl
@[simp] theorem wrBlob_tiles (s : State) (i : Nat) (b : Nat) (q : Nat) (v : List Byte) : (wrBlob s i b q v).tiles = s.tiles := rfl
@[simp] theorem wrBlob_links (s : State) (i : Nat) (b : Nat) (q : Nat) (v : List Byte) : (wrBlob s i b q v).links = s.links := rfl
@[simp] theorem wrBlob_egress (s : State) (i : Nat) (b : Nat) (q : Nat) (v : List Byte) : (wrBlob s i b q v).egress = s.egress := rfl
@[simp] theorem wrBlob_txns (s : State) (i : Nat) (b : Nat) (q : Nat) (v : List Byte) : (wrBlob s i b q v).txns = s.txns := rfl
@[simp] theorem wrBlob_mem (s : State) (i : Nat) (b : Nat) (q : Nat) (v : List Byte) : (wrBlob s i b q v).mem = s.mem := rfl
@[simp] theorem wrBlob_pool (s : State) (i : Nat) (b : Nat) (q : Nat) (v : List Byte) : (wrBlob s i b q v).pool = s.pool := rfl
@[simp] theorem wrBlob_coh (s : State) (i : Nat) (b : Nat) (q : Nat) (v : List Byte) : (wrBlob s i b q v).coh = s.coh := rfl
@[simp] theorem wrBlob_lit (s : State) (i : Nat) (b : Nat) (q : Nat) (v : List Byte) : (wrBlob s i b q v).lit = s.lit := rfl
@[simp] theorem wrBlob_insts (s : State) (i : Nat) (b : Nat) (q : Nat) (v : List Byte) : (wrBlob s i b q v).insts = s.insts := rfl
@[simp] theorem wrBlob_qos (s : State) (i : Nat) (b : Nat) (q : Nat) (v : List Byte) : (wrBlob s i b q v).qos = s.qos := rfl
@[simp] theorem wrBlob_tele (s : State) (i : Nat) (b : Nat) (q : Nat) (v : List Byte) : (wrBlob s i b q v).tele = s.tele := rfl
@[simp] theorem wrBlob_gecko (s : State) (i : Nat) (b : Nat) (q : Nat) (v : List Byte) : (wrBlob s i b q v).gecko = s.gecko := rfl
@[simp] theorem wrBlob_pwr (s : State) (i : Nat) (b : Nat) (q : Nat) (v : List Byte) : (wrBlob s i b q v).pwr = s.pwr := rfl
@[simp] theorem wrBlob_slots (s : State) (i : Nat) (b : Nat) (q : Nat) (v : List Byte) : (wrBlob s i b q v).slots = s.slots := rfl
@[simp] theorem wrBlob_sec (s : State) (i : Nat) (b : Nat) (q : Nat) (v : List Byte) : (wrBlob s i b q v).sec = s.sec := rfl
@[simp] theorem wrBlob_out (s : State) (i : Nat) (b : Nat) (q : Nat) (v : List Byte) : (wrBlob s i b q v).out = s.out := rfl
@[simp] theorem wrBlob_free (s : State) (i : Nat) (b : Nat) (q : Nat) (v : List Byte) : (wrBlob s i b q v).free = s.free := rfl

/-! The fields after `wrTbl`. -/

@[simp] theorem wrTbl_pending (s : State) (i : Nat) (b : Nat) (q : Nat) (n : Nat) (v : Nat) : (wrTbl s i b q n v).pending = s.pending := rfl
@[simp] theorem wrTbl_obj (s : State) (i : Nat) (b : Nat) (q : Nat) (n : Nat) (v : Nat) : (wrTbl s i b q n v).obj = s.obj := rfl
@[simp] theorem wrTbl_blob (s : State) (i : Nat) (b : Nat) (q : Nat) (n : Nat) (v : Nat) : (wrTbl s i b q n v).blob = s.blob := rfl
@[simp] theorem wrTbl_tbl (s : State) (i : Nat) (b : Nat) (q : Nat) (n : Nat) (v : Nat) : (wrTbl s i b q n v).tbl = put s.tbl (tkey i b q n) v := rfl
@[simp] theorem wrTbl_chg (s : State) (i : Nat) (b : Nat) (q : Nat) (n : Nat) (v : Nat) : (wrTbl s i b q n v).chg = s.chg := rfl
@[simp] theorem wrTbl_clock (s : State) (i : Nat) (b : Nat) (q : Nat) (n : Nat) (v : Nat) : (wrTbl s i b q n v).clock = s.clock := rfl
@[simp] theorem wrTbl_mgmt (s : State) (i : Nat) (b : Nat) (q : Nat) (n : Nat) (v : Nat) : (wrTbl s i b q n v).mgmt = s.mgmt := rfl
@[simp] theorem wrTbl_flt (s : State) (i : Nat) (b : Nat) (q : Nat) (n : Nat) (v : Nat) : (wrTbl s i b q n v).flt = s.flt := rfl
@[simp] theorem wrTbl_mode (s : State) (i : Nat) (b : Nat) (q : Nat) (n : Nat) (v : Nat) : (wrTbl s i b q n v).mode = s.mode := rfl
@[simp] theorem wrTbl_lanes (s : State) (i : Nat) (b : Nat) (q : Nat) (n : Nat) (v : Nat) : (wrTbl s i b q n v).lanes = s.lanes := rfl
@[simp] theorem wrTbl_groups (s : State) (i : Nat) (b : Nat) (q : Nat) (n : Nat) (v : Nat) : (wrTbl s i b q n v).groups = s.groups := rfl
@[simp] theorem wrTbl_ports (s : State) (i : Nat) (b : Nat) (q : Nat) (n : Nat) (v : Nat) : (wrTbl s i b q n v).ports = s.ports := rfl
@[simp] theorem wrTbl_fns (s : State) (i : Nat) (b : Nat) (q : Nat) (n : Nat) (v : Nat) : (wrTbl s i b q n v).fns = s.fns := rfl
@[simp] theorem wrTbl_bridges (s : State) (i : Nat) (b : Nat) (q : Nat) (n : Nat) (v : Nat) : (wrTbl s i b q n v).bridges = s.bridges := rfl
@[simp] theorem wrTbl_ppb (s : State) (i : Nat) (b : Nat) (q : Nat) (n : Nat) (v : Nat) : (wrTbl s i b q n v).ppb = s.ppb := rfl
@[simp] theorem wrTbl_tiles (s : State) (i : Nat) (b : Nat) (q : Nat) (n : Nat) (v : Nat) : (wrTbl s i b q n v).tiles = s.tiles := rfl
@[simp] theorem wrTbl_links (s : State) (i : Nat) (b : Nat) (q : Nat) (n : Nat) (v : Nat) : (wrTbl s i b q n v).links = s.links := rfl
@[simp] theorem wrTbl_egress (s : State) (i : Nat) (b : Nat) (q : Nat) (n : Nat) (v : Nat) : (wrTbl s i b q n v).egress = s.egress := rfl
@[simp] theorem wrTbl_txns (s : State) (i : Nat) (b : Nat) (q : Nat) (n : Nat) (v : Nat) : (wrTbl s i b q n v).txns = s.txns := rfl
@[simp] theorem wrTbl_mem (s : State) (i : Nat) (b : Nat) (q : Nat) (n : Nat) (v : Nat) : (wrTbl s i b q n v).mem = s.mem := rfl
@[simp] theorem wrTbl_pool (s : State) (i : Nat) (b : Nat) (q : Nat) (n : Nat) (v : Nat) : (wrTbl s i b q n v).pool = s.pool := rfl
@[simp] theorem wrTbl_coh (s : State) (i : Nat) (b : Nat) (q : Nat) (n : Nat) (v : Nat) : (wrTbl s i b q n v).coh = s.coh := rfl
@[simp] theorem wrTbl_lit (s : State) (i : Nat) (b : Nat) (q : Nat) (n : Nat) (v : Nat) : (wrTbl s i b q n v).lit = s.lit := rfl
@[simp] theorem wrTbl_insts (s : State) (i : Nat) (b : Nat) (q : Nat) (n : Nat) (v : Nat) : (wrTbl s i b q n v).insts = s.insts := rfl
@[simp] theorem wrTbl_qos (s : State) (i : Nat) (b : Nat) (q : Nat) (n : Nat) (v : Nat) : (wrTbl s i b q n v).qos = s.qos := rfl
@[simp] theorem wrTbl_tele (s : State) (i : Nat) (b : Nat) (q : Nat) (n : Nat) (v : Nat) : (wrTbl s i b q n v).tele = s.tele := rfl
@[simp] theorem wrTbl_gecko (s : State) (i : Nat) (b : Nat) (q : Nat) (n : Nat) (v : Nat) : (wrTbl s i b q n v).gecko = s.gecko := rfl
@[simp] theorem wrTbl_pwr (s : State) (i : Nat) (b : Nat) (q : Nat) (n : Nat) (v : Nat) : (wrTbl s i b q n v).pwr = s.pwr := rfl
@[simp] theorem wrTbl_slots (s : State) (i : Nat) (b : Nat) (q : Nat) (n : Nat) (v : Nat) : (wrTbl s i b q n v).slots = s.slots := rfl
@[simp] theorem wrTbl_sec (s : State) (i : Nat) (b : Nat) (q : Nat) (n : Nat) (v : Nat) : (wrTbl s i b q n v).sec = s.sec := rfl
@[simp] theorem wrTbl_out (s : State) (i : Nat) (b : Nat) (q : Nat) (n : Nat) (v : Nat) : (wrTbl s i b q n v).out = s.out := rfl
@[simp] theorem wrTbl_free (s : State) (i : Nat) (b : Nat) (q : Nat) (n : Nat) (v : Nat) : (wrTbl s i b q n v).free = s.free := rfl

/-! The fields after `emit`. -/

@[simp] theorem emit_pending (s : State) (o : Out) : (emit s o).pending = s.pending := rfl
@[simp] theorem emit_obj (s : State) (o : Out) : (emit s o).obj = s.obj := rfl
@[simp] theorem emit_blob (s : State) (o : Out) : (emit s o).blob = s.blob := rfl
@[simp] theorem emit_tbl (s : State) (o : Out) : (emit s o).tbl = s.tbl := rfl
@[simp] theorem emit_chg (s : State) (o : Out) : (emit s o).chg = s.chg := rfl
@[simp] theorem emit_clock (s : State) (o : Out) : (emit s o).clock = s.clock := rfl
@[simp] theorem emit_mgmt (s : State) (o : Out) : (emit s o).mgmt = s.mgmt := rfl
@[simp] theorem emit_flt (s : State) (o : Out) : (emit s o).flt = s.flt := rfl
@[simp] theorem emit_mode (s : State) (o : Out) : (emit s o).mode = s.mode := rfl
@[simp] theorem emit_lanes (s : State) (o : Out) : (emit s o).lanes = s.lanes := rfl
@[simp] theorem emit_groups (s : State) (o : Out) : (emit s o).groups = s.groups := rfl
@[simp] theorem emit_ports (s : State) (o : Out) : (emit s o).ports = s.ports := rfl
@[simp] theorem emit_fns (s : State) (o : Out) : (emit s o).fns = s.fns := rfl
@[simp] theorem emit_bridges (s : State) (o : Out) : (emit s o).bridges = s.bridges := rfl
@[simp] theorem emit_ppb (s : State) (o : Out) : (emit s o).ppb = s.ppb := rfl
@[simp] theorem emit_tiles (s : State) (o : Out) : (emit s o).tiles = s.tiles := rfl
@[simp] theorem emit_links (s : State) (o : Out) : (emit s o).links = s.links := rfl
@[simp] theorem emit_egress (s : State) (o : Out) : (emit s o).egress = s.egress := rfl
@[simp] theorem emit_txns (s : State) (o : Out) : (emit s o).txns = s.txns := rfl
@[simp] theorem emit_mem (s : State) (o : Out) : (emit s o).mem = s.mem := rfl
@[simp] theorem emit_pool (s : State) (o : Out) : (emit s o).pool = s.pool := rfl
@[simp] theorem emit_coh (s : State) (o : Out) : (emit s o).coh = s.coh := rfl
@[simp] theorem emit_lit (s : State) (o : Out) : (emit s o).lit = s.lit := rfl
@[simp] theorem emit_insts (s : State) (o : Out) : (emit s o).insts = s.insts := rfl
@[simp] theorem emit_qos (s : State) (o : Out) : (emit s o).qos = s.qos := rfl
@[simp] theorem emit_tele (s : State) (o : Out) : (emit s o).tele = s.tele := rfl
@[simp] theorem emit_gecko (s : State) (o : Out) : (emit s o).gecko = s.gecko := rfl
@[simp] theorem emit_pwr (s : State) (o : Out) : (emit s o).pwr = s.pwr := rfl
@[simp] theorem emit_slots (s : State) (o : Out) : (emit s o).slots = s.slots := rfl
@[simp] theorem emit_sec (s : State) (o : Out) : (emit s o).sec = s.sec := rfl
@[simp] theorem emit_out (s : State) (o : Out) : (emit s o).out = o :: s.out := rfl
@[simp] theorem emit_free (s : State) (o : Out) : (emit s o).free = s.free := rfl

/-! The fields after `freeNext`. -/

@[simp] theorem freeNext_pending (s : State) : (freeNext s).pending = s.pending := rfl
@[simp] theorem freeNext_obj (s : State) : (freeNext s).obj = s.obj := rfl
@[simp] theorem freeNext_blob (s : State) : (freeNext s).blob = s.blob := rfl
@[simp] theorem freeNext_tbl (s : State) : (freeNext s).tbl = s.tbl := rfl
@[simp] theorem freeNext_chg (s : State) : (freeNext s).chg = s.chg := rfl
@[simp] theorem freeNext_clock (s : State) : (freeNext s).clock = s.clock := rfl
@[simp] theorem freeNext_mgmt (s : State) : (freeNext s).mgmt = s.mgmt := rfl
@[simp] theorem freeNext_flt (s : State) : (freeNext s).flt = s.flt := rfl
@[simp] theorem freeNext_mode (s : State) : (freeNext s).mode = s.mode := rfl
@[simp] theorem freeNext_lanes (s : State) : (freeNext s).lanes = s.lanes := rfl
@[simp] theorem freeNext_groups (s : State) : (freeNext s).groups = s.groups := rfl
@[simp] theorem freeNext_ports (s : State) : (freeNext s).ports = s.ports := rfl
@[simp] theorem freeNext_fns (s : State) : (freeNext s).fns = s.fns := rfl
@[simp] theorem freeNext_bridges (s : State) : (freeNext s).bridges = s.bridges := rfl
@[simp] theorem freeNext_ppb (s : State) : (freeNext s).ppb = s.ppb := rfl
@[simp] theorem freeNext_tiles (s : State) : (freeNext s).tiles = s.tiles := rfl
@[simp] theorem freeNext_links (s : State) : (freeNext s).links = s.links := rfl
@[simp] theorem freeNext_egress (s : State) : (freeNext s).egress = s.egress := rfl
@[simp] theorem freeNext_txns (s : State) : (freeNext s).txns = s.txns := rfl
@[simp] theorem freeNext_mem (s : State) : (freeNext s).mem = s.mem := rfl
@[simp] theorem freeNext_pool (s : State) : (freeNext s).pool = s.pool := rfl
@[simp] theorem freeNext_coh (s : State) : (freeNext s).coh = s.coh := rfl
@[simp] theorem freeNext_lit (s : State) : (freeNext s).lit = s.lit := rfl
@[simp] theorem freeNext_insts (s : State) : (freeNext s).insts = s.insts := rfl
@[simp] theorem freeNext_qos (s : State) : (freeNext s).qos = s.qos := rfl
@[simp] theorem freeNext_tele (s : State) : (freeNext s).tele = s.tele := rfl
@[simp] theorem freeNext_gecko (s : State) : (freeNext s).gecko = s.gecko := rfl
@[simp] theorem freeNext_pwr (s : State) : (freeNext s).pwr = s.pwr := rfl
@[simp] theorem freeNext_slots (s : State) : (freeNext s).slots = s.slots := rfl
@[simp] theorem freeNext_sec (s : State) : (freeNext s).sec = s.sec := rfl
@[simp] theorem freeNext_out (s : State) : (freeNext s).out = s.out := rfl
@[simp] theorem freeNext_free (s : State) : (freeNext s).free = s.free + 1 := rfl

/-! The fields after `bumpChange`. -/

@[simp] theorem bumpChange_pending (s : State) (i : Nat) (b : Nat) (q : Nat) : (bumpChange s i b q).pending = s.pending := rfl
@[simp] theorem bumpChange_obj (s : State) (i : Nat) (b : Nat) (q : Nat) : (bumpChange s i b q).obj = s.obj := rfl
@[simp] theorem bumpChange_blob (s : State) (i : Nat) (b : Nat) (q : Nat) : (bumpChange s i b q).blob = s.blob := rfl
@[simp] theorem bumpChange_tbl (s : State) (i : Nat) (b : Nat) (q : Nat) : (bumpChange s i b q).tbl = s.tbl := rfl
@[simp] theorem bumpChange_chg (s : State) (i : Nat) (b : Nat) (q : Nat) : (bumpChange s i b q).chg = put s.chg (okey i b q) ((changeOf s i b q + 1) % 2 ^ 16) := rfl
@[simp] theorem bumpChange_clock (s : State) (i : Nat) (b : Nat) (q : Nat) : (bumpChange s i b q).clock = s.clock := rfl
@[simp] theorem bumpChange_mgmt (s : State) (i : Nat) (b : Nat) (q : Nat) : (bumpChange s i b q).mgmt = s.mgmt := rfl
@[simp] theorem bumpChange_flt (s : State) (i : Nat) (b : Nat) (q : Nat) : (bumpChange s i b q).flt = s.flt := rfl
@[simp] theorem bumpChange_mode (s : State) (i : Nat) (b : Nat) (q : Nat) : (bumpChange s i b q).mode = s.mode := rfl
@[simp] theorem bumpChange_lanes (s : State) (i : Nat) (b : Nat) (q : Nat) : (bumpChange s i b q).lanes = s.lanes := rfl
@[simp] theorem bumpChange_groups (s : State) (i : Nat) (b : Nat) (q : Nat) : (bumpChange s i b q).groups = s.groups := rfl
@[simp] theorem bumpChange_ports (s : State) (i : Nat) (b : Nat) (q : Nat) : (bumpChange s i b q).ports = s.ports := rfl
@[simp] theorem bumpChange_fns (s : State) (i : Nat) (b : Nat) (q : Nat) : (bumpChange s i b q).fns = s.fns := rfl
@[simp] theorem bumpChange_bridges (s : State) (i : Nat) (b : Nat) (q : Nat) : (bumpChange s i b q).bridges = s.bridges := rfl
@[simp] theorem bumpChange_ppb (s : State) (i : Nat) (b : Nat) (q : Nat) : (bumpChange s i b q).ppb = s.ppb := rfl
@[simp] theorem bumpChange_tiles (s : State) (i : Nat) (b : Nat) (q : Nat) : (bumpChange s i b q).tiles = s.tiles := rfl
@[simp] theorem bumpChange_links (s : State) (i : Nat) (b : Nat) (q : Nat) : (bumpChange s i b q).links = s.links := rfl
@[simp] theorem bumpChange_egress (s : State) (i : Nat) (b : Nat) (q : Nat) : (bumpChange s i b q).egress = s.egress := rfl
@[simp] theorem bumpChange_txns (s : State) (i : Nat) (b : Nat) (q : Nat) : (bumpChange s i b q).txns = s.txns := rfl
@[simp] theorem bumpChange_mem (s : State) (i : Nat) (b : Nat) (q : Nat) : (bumpChange s i b q).mem = s.mem := rfl
@[simp] theorem bumpChange_pool (s : State) (i : Nat) (b : Nat) (q : Nat) : (bumpChange s i b q).pool = s.pool := rfl
@[simp] theorem bumpChange_coh (s : State) (i : Nat) (b : Nat) (q : Nat) : (bumpChange s i b q).coh = s.coh := rfl
@[simp] theorem bumpChange_lit (s : State) (i : Nat) (b : Nat) (q : Nat) : (bumpChange s i b q).lit = s.lit := rfl
@[simp] theorem bumpChange_insts (s : State) (i : Nat) (b : Nat) (q : Nat) : (bumpChange s i b q).insts = s.insts := rfl
@[simp] theorem bumpChange_qos (s : State) (i : Nat) (b : Nat) (q : Nat) : (bumpChange s i b q).qos = s.qos := rfl
@[simp] theorem bumpChange_tele (s : State) (i : Nat) (b : Nat) (q : Nat) : (bumpChange s i b q).tele = s.tele := rfl
@[simp] theorem bumpChange_gecko (s : State) (i : Nat) (b : Nat) (q : Nat) : (bumpChange s i b q).gecko = s.gecko := rfl
@[simp] theorem bumpChange_pwr (s : State) (i : Nat) (b : Nat) (q : Nat) : (bumpChange s i b q).pwr = s.pwr := rfl
@[simp] theorem bumpChange_slots (s : State) (i : Nat) (b : Nat) (q : Nat) : (bumpChange s i b q).slots = s.slots := rfl
@[simp] theorem bumpChange_sec (s : State) (i : Nat) (b : Nat) (q : Nat) : (bumpChange s i b q).sec = s.sec := rfl
@[simp] theorem bumpChange_out (s : State) (i : Nat) (b : Nat) (q : Nat) : (bumpChange s i b q).out = s.out := rfl
@[simp] theorem bumpChange_free (s : State) (i : Nat) (b : Nat) (q : Nat) : (bumpChange s i b q).free = s.free := rfl

/-! The fields after `cmdStart`. -/

@[simp] theorem cmdStart_pending (s : State) (i : Nat) (b : Nat) (q : Nat) : (cmdStart s i b q).pending = s.pending := rfl
@[simp] theorem cmdStart_obj (s : State) (i : Nat) (b : Nat) (q : Nat) : (cmdStart s i b q).obj = put s.obj (okey i b q) (cmdWord 1 0 (rd s i b q % 2 ^ 16 + 1)) := rfl
@[simp] theorem cmdStart_blob (s : State) (i : Nat) (b : Nat) (q : Nat) : (cmdStart s i b q).blob = s.blob := rfl
@[simp] theorem cmdStart_tbl (s : State) (i : Nat) (b : Nat) (q : Nat) : (cmdStart s i b q).tbl = s.tbl := rfl
@[simp] theorem cmdStart_chg (s : State) (i : Nat) (b : Nat) (q : Nat) : (cmdStart s i b q).chg = s.chg := rfl
@[simp] theorem cmdStart_clock (s : State) (i : Nat) (b : Nat) (q : Nat) : (cmdStart s i b q).clock = s.clock := rfl
@[simp] theorem cmdStart_mgmt (s : State) (i : Nat) (b : Nat) (q : Nat) : (cmdStart s i b q).mgmt = s.mgmt := rfl
@[simp] theorem cmdStart_flt (s : State) (i : Nat) (b : Nat) (q : Nat) : (cmdStart s i b q).flt = s.flt := rfl
@[simp] theorem cmdStart_mode (s : State) (i : Nat) (b : Nat) (q : Nat) : (cmdStart s i b q).mode = s.mode := rfl
@[simp] theorem cmdStart_lanes (s : State) (i : Nat) (b : Nat) (q : Nat) : (cmdStart s i b q).lanes = s.lanes := rfl
@[simp] theorem cmdStart_groups (s : State) (i : Nat) (b : Nat) (q : Nat) : (cmdStart s i b q).groups = s.groups := rfl
@[simp] theorem cmdStart_ports (s : State) (i : Nat) (b : Nat) (q : Nat) : (cmdStart s i b q).ports = s.ports := rfl
@[simp] theorem cmdStart_fns (s : State) (i : Nat) (b : Nat) (q : Nat) : (cmdStart s i b q).fns = s.fns := rfl
@[simp] theorem cmdStart_bridges (s : State) (i : Nat) (b : Nat) (q : Nat) : (cmdStart s i b q).bridges = s.bridges := rfl
@[simp] theorem cmdStart_ppb (s : State) (i : Nat) (b : Nat) (q : Nat) : (cmdStart s i b q).ppb = s.ppb := rfl
@[simp] theorem cmdStart_tiles (s : State) (i : Nat) (b : Nat) (q : Nat) : (cmdStart s i b q).tiles = s.tiles := rfl
@[simp] theorem cmdStart_links (s : State) (i : Nat) (b : Nat) (q : Nat) : (cmdStart s i b q).links = s.links := rfl
@[simp] theorem cmdStart_egress (s : State) (i : Nat) (b : Nat) (q : Nat) : (cmdStart s i b q).egress = s.egress := rfl
@[simp] theorem cmdStart_txns (s : State) (i : Nat) (b : Nat) (q : Nat) : (cmdStart s i b q).txns = s.txns := rfl
@[simp] theorem cmdStart_mem (s : State) (i : Nat) (b : Nat) (q : Nat) : (cmdStart s i b q).mem = s.mem := rfl
@[simp] theorem cmdStart_pool (s : State) (i : Nat) (b : Nat) (q : Nat) : (cmdStart s i b q).pool = s.pool := rfl
@[simp] theorem cmdStart_coh (s : State) (i : Nat) (b : Nat) (q : Nat) : (cmdStart s i b q).coh = s.coh := rfl
@[simp] theorem cmdStart_lit (s : State) (i : Nat) (b : Nat) (q : Nat) : (cmdStart s i b q).lit = s.lit := rfl
@[simp] theorem cmdStart_insts (s : State) (i : Nat) (b : Nat) (q : Nat) : (cmdStart s i b q).insts = s.insts := rfl
@[simp] theorem cmdStart_qos (s : State) (i : Nat) (b : Nat) (q : Nat) : (cmdStart s i b q).qos = s.qos := rfl
@[simp] theorem cmdStart_tele (s : State) (i : Nat) (b : Nat) (q : Nat) : (cmdStart s i b q).tele = s.tele := rfl
@[simp] theorem cmdStart_gecko (s : State) (i : Nat) (b : Nat) (q : Nat) : (cmdStart s i b q).gecko = s.gecko := rfl
@[simp] theorem cmdStart_pwr (s : State) (i : Nat) (b : Nat) (q : Nat) : (cmdStart s i b q).pwr = s.pwr := rfl
@[simp] theorem cmdStart_slots (s : State) (i : Nat) (b : Nat) (q : Nat) : (cmdStart s i b q).slots = s.slots := rfl
@[simp] theorem cmdStart_sec (s : State) (i : Nat) (b : Nat) (q : Nat) : (cmdStart s i b q).sec = s.sec := rfl
@[simp] theorem cmdStart_out (s : State) (i : Nat) (b : Nat) (q : Nat) : (cmdStart s i b q).out = s.out := rfl
@[simp] theorem cmdStart_free (s : State) (i : Nat) (b : Nat) (q : Nat) : (cmdStart s i b q).free = s.free := rfl

/-! The fields after `cmdEnd`. -/

@[simp] theorem cmdEnd_pending (s : State) (i : Nat) (b : Nat) (q : Nat) (x : Nat) (e : Nat) : (cmdEnd s i b q x e).pending = s.pending := rfl
@[simp] theorem cmdEnd_obj (s : State) (i : Nat) (b : Nat) (q : Nat) (x : Nat) (e : Nat) : (cmdEnd s i b q x e).obj = put s.obj (okey i b q) (cmdWord x e (rd s i b q)) := rfl
@[simp] theorem cmdEnd_blob (s : State) (i : Nat) (b : Nat) (q : Nat) (x : Nat) (e : Nat) : (cmdEnd s i b q x e).blob = s.blob := rfl
@[simp] theorem cmdEnd_tbl (s : State) (i : Nat) (b : Nat) (q : Nat) (x : Nat) (e : Nat) : (cmdEnd s i b q x e).tbl = s.tbl := rfl
@[simp] theorem cmdEnd_chg (s : State) (i : Nat) (b : Nat) (q : Nat) (x : Nat) (e : Nat) : (cmdEnd s i b q x e).chg = s.chg := rfl
@[simp] theorem cmdEnd_clock (s : State) (i : Nat) (b : Nat) (q : Nat) (x : Nat) (e : Nat) : (cmdEnd s i b q x e).clock = s.clock := rfl
@[simp] theorem cmdEnd_mgmt (s : State) (i : Nat) (b : Nat) (q : Nat) (x : Nat) (e : Nat) : (cmdEnd s i b q x e).mgmt = s.mgmt := rfl
@[simp] theorem cmdEnd_flt (s : State) (i : Nat) (b : Nat) (q : Nat) (x : Nat) (e : Nat) : (cmdEnd s i b q x e).flt = s.flt := rfl
@[simp] theorem cmdEnd_mode (s : State) (i : Nat) (b : Nat) (q : Nat) (x : Nat) (e : Nat) : (cmdEnd s i b q x e).mode = s.mode := rfl
@[simp] theorem cmdEnd_lanes (s : State) (i : Nat) (b : Nat) (q : Nat) (x : Nat) (e : Nat) : (cmdEnd s i b q x e).lanes = s.lanes := rfl
@[simp] theorem cmdEnd_groups (s : State) (i : Nat) (b : Nat) (q : Nat) (x : Nat) (e : Nat) : (cmdEnd s i b q x e).groups = s.groups := rfl
@[simp] theorem cmdEnd_ports (s : State) (i : Nat) (b : Nat) (q : Nat) (x : Nat) (e : Nat) : (cmdEnd s i b q x e).ports = s.ports := rfl
@[simp] theorem cmdEnd_fns (s : State) (i : Nat) (b : Nat) (q : Nat) (x : Nat) (e : Nat) : (cmdEnd s i b q x e).fns = s.fns := rfl
@[simp] theorem cmdEnd_bridges (s : State) (i : Nat) (b : Nat) (q : Nat) (x : Nat) (e : Nat) : (cmdEnd s i b q x e).bridges = s.bridges := rfl
@[simp] theorem cmdEnd_ppb (s : State) (i : Nat) (b : Nat) (q : Nat) (x : Nat) (e : Nat) : (cmdEnd s i b q x e).ppb = s.ppb := rfl
@[simp] theorem cmdEnd_tiles (s : State) (i : Nat) (b : Nat) (q : Nat) (x : Nat) (e : Nat) : (cmdEnd s i b q x e).tiles = s.tiles := rfl
@[simp] theorem cmdEnd_links (s : State) (i : Nat) (b : Nat) (q : Nat) (x : Nat) (e : Nat) : (cmdEnd s i b q x e).links = s.links := rfl
@[simp] theorem cmdEnd_egress (s : State) (i : Nat) (b : Nat) (q : Nat) (x : Nat) (e : Nat) : (cmdEnd s i b q x e).egress = s.egress := rfl
@[simp] theorem cmdEnd_txns (s : State) (i : Nat) (b : Nat) (q : Nat) (x : Nat) (e : Nat) : (cmdEnd s i b q x e).txns = s.txns := rfl
@[simp] theorem cmdEnd_mem (s : State) (i : Nat) (b : Nat) (q : Nat) (x : Nat) (e : Nat) : (cmdEnd s i b q x e).mem = s.mem := rfl
@[simp] theorem cmdEnd_pool (s : State) (i : Nat) (b : Nat) (q : Nat) (x : Nat) (e : Nat) : (cmdEnd s i b q x e).pool = s.pool := rfl
@[simp] theorem cmdEnd_coh (s : State) (i : Nat) (b : Nat) (q : Nat) (x : Nat) (e : Nat) : (cmdEnd s i b q x e).coh = s.coh := rfl
@[simp] theorem cmdEnd_lit (s : State) (i : Nat) (b : Nat) (q : Nat) (x : Nat) (e : Nat) : (cmdEnd s i b q x e).lit = s.lit := rfl
@[simp] theorem cmdEnd_insts (s : State) (i : Nat) (b : Nat) (q : Nat) (x : Nat) (e : Nat) : (cmdEnd s i b q x e).insts = s.insts := rfl
@[simp] theorem cmdEnd_qos (s : State) (i : Nat) (b : Nat) (q : Nat) (x : Nat) (e : Nat) : (cmdEnd s i b q x e).qos = s.qos := rfl
@[simp] theorem cmdEnd_tele (s : State) (i : Nat) (b : Nat) (q : Nat) (x : Nat) (e : Nat) : (cmdEnd s i b q x e).tele = s.tele := rfl
@[simp] theorem cmdEnd_gecko (s : State) (i : Nat) (b : Nat) (q : Nat) (x : Nat) (e : Nat) : (cmdEnd s i b q x e).gecko = s.gecko := rfl
@[simp] theorem cmdEnd_pwr (s : State) (i : Nat) (b : Nat) (q : Nat) (x : Nat) (e : Nat) : (cmdEnd s i b q x e).pwr = s.pwr := rfl
@[simp] theorem cmdEnd_slots (s : State) (i : Nat) (b : Nat) (q : Nat) (x : Nat) (e : Nat) : (cmdEnd s i b q x e).slots = s.slots := rfl
@[simp] theorem cmdEnd_sec (s : State) (i : Nat) (b : Nat) (q : Nat) (x : Nat) (e : Nat) : (cmdEnd s i b q x e).sec = s.sec := rfl
@[simp] theorem cmdEnd_out (s : State) (i : Nat) (b : Nat) (q : Nat) (x : Nat) (e : Nat) : (cmdEnd s i b q x e).out = s.out := rfl
@[simp] theorem cmdEnd_free (s : State) (i : Nat) (b : Nat) (q : Nat) (x : Nat) (e : Nat) : (cmdEnd s i b q x e).free = s.free := rfl

/-! The fields after `cmdDone`. -/

@[simp] theorem cmdDone_pending (s : State) (i : Nat) (b : Nat) (q : Nat) (e : Nat) : (cmdDone s i b q e).pending = s.pending := rfl
@[simp] theorem cmdDone_blob (s : State) (i : Nat) (b : Nat) (q : Nat) (e : Nat) : (cmdDone s i b q e).blob = s.blob := rfl
@[simp] theorem cmdDone_tbl (s : State) (i : Nat) (b : Nat) (q : Nat) (e : Nat) : (cmdDone s i b q e).tbl = s.tbl := rfl
@[simp] theorem cmdDone_chg (s : State) (i : Nat) (b : Nat) (q : Nat) (e : Nat) : (cmdDone s i b q e).chg = s.chg := rfl
@[simp] theorem cmdDone_clock (s : State) (i : Nat) (b : Nat) (q : Nat) (e : Nat) : (cmdDone s i b q e).clock = s.clock := rfl
@[simp] theorem cmdDone_mgmt (s : State) (i : Nat) (b : Nat) (q : Nat) (e : Nat) : (cmdDone s i b q e).mgmt = s.mgmt := rfl
@[simp] theorem cmdDone_flt (s : State) (i : Nat) (b : Nat) (q : Nat) (e : Nat) : (cmdDone s i b q e).flt = s.flt := rfl
@[simp] theorem cmdDone_mode (s : State) (i : Nat) (b : Nat) (q : Nat) (e : Nat) : (cmdDone s i b q e).mode = s.mode := rfl
@[simp] theorem cmdDone_lanes (s : State) (i : Nat) (b : Nat) (q : Nat) (e : Nat) : (cmdDone s i b q e).lanes = s.lanes := rfl
@[simp] theorem cmdDone_groups (s : State) (i : Nat) (b : Nat) (q : Nat) (e : Nat) : (cmdDone s i b q e).groups = s.groups := rfl
@[simp] theorem cmdDone_ports (s : State) (i : Nat) (b : Nat) (q : Nat) (e : Nat) : (cmdDone s i b q e).ports = s.ports := rfl
@[simp] theorem cmdDone_fns (s : State) (i : Nat) (b : Nat) (q : Nat) (e : Nat) : (cmdDone s i b q e).fns = s.fns := rfl
@[simp] theorem cmdDone_bridges (s : State) (i : Nat) (b : Nat) (q : Nat) (e : Nat) : (cmdDone s i b q e).bridges = s.bridges := rfl
@[simp] theorem cmdDone_ppb (s : State) (i : Nat) (b : Nat) (q : Nat) (e : Nat) : (cmdDone s i b q e).ppb = s.ppb := rfl
@[simp] theorem cmdDone_tiles (s : State) (i : Nat) (b : Nat) (q : Nat) (e : Nat) : (cmdDone s i b q e).tiles = s.tiles := rfl
@[simp] theorem cmdDone_links (s : State) (i : Nat) (b : Nat) (q : Nat) (e : Nat) : (cmdDone s i b q e).links = s.links := rfl
@[simp] theorem cmdDone_egress (s : State) (i : Nat) (b : Nat) (q : Nat) (e : Nat) : (cmdDone s i b q e).egress = s.egress := rfl
@[simp] theorem cmdDone_txns (s : State) (i : Nat) (b : Nat) (q : Nat) (e : Nat) : (cmdDone s i b q e).txns = s.txns := rfl
@[simp] theorem cmdDone_mem (s : State) (i : Nat) (b : Nat) (q : Nat) (e : Nat) : (cmdDone s i b q e).mem = s.mem := rfl
@[simp] theorem cmdDone_pool (s : State) (i : Nat) (b : Nat) (q : Nat) (e : Nat) : (cmdDone s i b q e).pool = s.pool := rfl
@[simp] theorem cmdDone_coh (s : State) (i : Nat) (b : Nat) (q : Nat) (e : Nat) : (cmdDone s i b q e).coh = s.coh := rfl
@[simp] theorem cmdDone_lit (s : State) (i : Nat) (b : Nat) (q : Nat) (e : Nat) : (cmdDone s i b q e).lit = s.lit := rfl
@[simp] theorem cmdDone_insts (s : State) (i : Nat) (b : Nat) (q : Nat) (e : Nat) : (cmdDone s i b q e).insts = s.insts := rfl
@[simp] theorem cmdDone_qos (s : State) (i : Nat) (b : Nat) (q : Nat) (e : Nat) : (cmdDone s i b q e).qos = s.qos := rfl
@[simp] theorem cmdDone_tele (s : State) (i : Nat) (b : Nat) (q : Nat) (e : Nat) : (cmdDone s i b q e).tele = s.tele := rfl
@[simp] theorem cmdDone_gecko (s : State) (i : Nat) (b : Nat) (q : Nat) (e : Nat) : (cmdDone s i b q e).gecko = s.gecko := rfl
@[simp] theorem cmdDone_pwr (s : State) (i : Nat) (b : Nat) (q : Nat) (e : Nat) : (cmdDone s i b q e).pwr = s.pwr := rfl
@[simp] theorem cmdDone_slots (s : State) (i : Nat) (b : Nat) (q : Nat) (e : Nat) : (cmdDone s i b q e).slots = s.slots := rfl
@[simp] theorem cmdDone_sec (s : State) (i : Nat) (b : Nat) (q : Nat) (e : Nat) : (cmdDone s i b q e).sec = s.sec := rfl
@[simp] theorem cmdDone_out (s : State) (i : Nat) (b : Nat) (q : Nat) (e : Nat) : (cmdDone s i b q e).out = s.out := rfl
@[simp] theorem cmdDone_free (s : State) (i : Nat) (b : Nat) (q : Nat) (e : Nat) : (cmdDone s i b q e).free = s.free := rfl

/-! The fields after `setFn`. -/

@[simp] theorem setFn_pending (s : State) (k : Nat) (v : FnSt) : (setFn s k v).pending = s.pending := rfl
@[simp] theorem setFn_obj (s : State) (k : Nat) (v : FnSt) : (setFn s k v).obj = s.obj := rfl
@[simp] theorem setFn_blob (s : State) (k : Nat) (v : FnSt) : (setFn s k v).blob = s.blob := rfl
@[simp] theorem setFn_tbl (s : State) (k : Nat) (v : FnSt) : (setFn s k v).tbl = s.tbl := rfl
@[simp] theorem setFn_chg (s : State) (k : Nat) (v : FnSt) : (setFn s k v).chg = s.chg := rfl
@[simp] theorem setFn_clock (s : State) (k : Nat) (v : FnSt) : (setFn s k v).clock = s.clock := rfl
@[simp] theorem setFn_mgmt (s : State) (k : Nat) (v : FnSt) : (setFn s k v).mgmt = s.mgmt := rfl
@[simp] theorem setFn_flt (s : State) (k : Nat) (v : FnSt) : (setFn s k v).flt = s.flt := rfl
@[simp] theorem setFn_mode (s : State) (k : Nat) (v : FnSt) : (setFn s k v).mode = s.mode := rfl
@[simp] theorem setFn_lanes (s : State) (k : Nat) (v : FnSt) : (setFn s k v).lanes = s.lanes := rfl
@[simp] theorem setFn_groups (s : State) (k : Nat) (v : FnSt) : (setFn s k v).groups = s.groups := rfl
@[simp] theorem setFn_ports (s : State) (k : Nat) (v : FnSt) : (setFn s k v).ports = s.ports := rfl
@[simp] theorem setFn_fns (s : State) (k : Nat) (v : FnSt) : (setFn s k v).fns = put s.fns k v := rfl
@[simp] theorem setFn_bridges (s : State) (k : Nat) (v : FnSt) : (setFn s k v).bridges = s.bridges := rfl
@[simp] theorem setFn_ppb (s : State) (k : Nat) (v : FnSt) : (setFn s k v).ppb = s.ppb := rfl
@[simp] theorem setFn_tiles (s : State) (k : Nat) (v : FnSt) : (setFn s k v).tiles = s.tiles := rfl
@[simp] theorem setFn_links (s : State) (k : Nat) (v : FnSt) : (setFn s k v).links = s.links := rfl
@[simp] theorem setFn_egress (s : State) (k : Nat) (v : FnSt) : (setFn s k v).egress = s.egress := rfl
@[simp] theorem setFn_txns (s : State) (k : Nat) (v : FnSt) : (setFn s k v).txns = s.txns := rfl
@[simp] theorem setFn_mem (s : State) (k : Nat) (v : FnSt) : (setFn s k v).mem = s.mem := rfl
@[simp] theorem setFn_pool (s : State) (k : Nat) (v : FnSt) : (setFn s k v).pool = s.pool := rfl
@[simp] theorem setFn_coh (s : State) (k : Nat) (v : FnSt) : (setFn s k v).coh = s.coh := rfl
@[simp] theorem setFn_lit (s : State) (k : Nat) (v : FnSt) : (setFn s k v).lit = s.lit := rfl
@[simp] theorem setFn_insts (s : State) (k : Nat) (v : FnSt) : (setFn s k v).insts = s.insts := rfl
@[simp] theorem setFn_qos (s : State) (k : Nat) (v : FnSt) : (setFn s k v).qos = s.qos := rfl
@[simp] theorem setFn_tele (s : State) (k : Nat) (v : FnSt) : (setFn s k v).tele = s.tele := rfl
@[simp] theorem setFn_gecko (s : State) (k : Nat) (v : FnSt) : (setFn s k v).gecko = s.gecko := rfl
@[simp] theorem setFn_pwr (s : State) (k : Nat) (v : FnSt) : (setFn s k v).pwr = s.pwr := rfl
@[simp] theorem setFn_slots (s : State) (k : Nat) (v : FnSt) : (setFn s k v).slots = s.slots := rfl
@[simp] theorem setFn_sec (s : State) (k : Nat) (v : FnSt) : (setFn s k v).sec = s.sec := rfl
@[simp] theorem setFn_out (s : State) (k : Nat) (v : FnSt) : (setFn s k v).out = s.out := rfl
@[simp] theorem setFn_free (s : State) (k : Nat) (v : FnSt) : (setFn s k v).free = s.free := rfl

/-! The fields after `setSource`. -/

@[simp] theorem setSource_pending (s : State) (src : Nat) (v : Source) : (setSource s src v).pending = s.pending := rfl
@[simp] theorem setSource_obj (s : State) (src : Nat) (v : Source) : (setSource s src v).obj = s.obj := rfl
@[simp] theorem setSource_blob (s : State) (src : Nat) (v : Source) : (setSource s src v).blob = s.blob := rfl
@[simp] theorem setSource_tbl (s : State) (src : Nat) (v : Source) : (setSource s src v).tbl = s.tbl := rfl
@[simp] theorem setSource_chg (s : State) (src : Nat) (v : Source) : (setSource s src v).chg = s.chg := rfl
@[simp] theorem setSource_clock (s : State) (src : Nat) (v : Source) : (setSource s src v).clock = s.clock := rfl
@[simp] theorem setSource_mgmt (s : State) (src : Nat) (v : Source) : (setSource s src v).mgmt = s.mgmt := rfl
@[simp] theorem setSource_flt (s : State) (src : Nat) (v : Source) : (setSource s src v).flt = { s.flt with sources := put s.flt.sources src v } := rfl
@[simp] theorem setSource_mode (s : State) (src : Nat) (v : Source) : (setSource s src v).mode = s.mode := rfl
@[simp] theorem setSource_lanes (s : State) (src : Nat) (v : Source) : (setSource s src v).lanes = s.lanes := rfl
@[simp] theorem setSource_groups (s : State) (src : Nat) (v : Source) : (setSource s src v).groups = s.groups := rfl
@[simp] theorem setSource_ports (s : State) (src : Nat) (v : Source) : (setSource s src v).ports = s.ports := rfl
@[simp] theorem setSource_fns (s : State) (src : Nat) (v : Source) : (setSource s src v).fns = s.fns := rfl
@[simp] theorem setSource_bridges (s : State) (src : Nat) (v : Source) : (setSource s src v).bridges = s.bridges := rfl
@[simp] theorem setSource_ppb (s : State) (src : Nat) (v : Source) : (setSource s src v).ppb = s.ppb := rfl
@[simp] theorem setSource_tiles (s : State) (src : Nat) (v : Source) : (setSource s src v).tiles = s.tiles := rfl
@[simp] theorem setSource_links (s : State) (src : Nat) (v : Source) : (setSource s src v).links = s.links := rfl
@[simp] theorem setSource_egress (s : State) (src : Nat) (v : Source) : (setSource s src v).egress = s.egress := rfl
@[simp] theorem setSource_txns (s : State) (src : Nat) (v : Source) : (setSource s src v).txns = s.txns := rfl
@[simp] theorem setSource_mem (s : State) (src : Nat) (v : Source) : (setSource s src v).mem = s.mem := rfl
@[simp] theorem setSource_pool (s : State) (src : Nat) (v : Source) : (setSource s src v).pool = s.pool := rfl
@[simp] theorem setSource_coh (s : State) (src : Nat) (v : Source) : (setSource s src v).coh = s.coh := rfl
@[simp] theorem setSource_lit (s : State) (src : Nat) (v : Source) : (setSource s src v).lit = s.lit := rfl
@[simp] theorem setSource_insts (s : State) (src : Nat) (v : Source) : (setSource s src v).insts = s.insts := rfl
@[simp] theorem setSource_qos (s : State) (src : Nat) (v : Source) : (setSource s src v).qos = s.qos := rfl
@[simp] theorem setSource_tele (s : State) (src : Nat) (v : Source) : (setSource s src v).tele = s.tele := rfl
@[simp] theorem setSource_gecko (s : State) (src : Nat) (v : Source) : (setSource s src v).gecko = s.gecko := rfl
@[simp] theorem setSource_pwr (s : State) (src : Nat) (v : Source) : (setSource s src v).pwr = s.pwr := rfl
@[simp] theorem setSource_slots (s : State) (src : Nat) (v : Source) : (setSource s src v).slots = s.slots := rfl
@[simp] theorem setSource_sec (s : State) (src : Nat) (v : Source) : (setSource s src v).sec = s.sec := rfl
@[simp] theorem setSource_out (s : State) (src : Nat) (v : Source) : (setSource s src v).out = s.out := rfl
@[simp] theorem setSource_free (s : State) (src : Nat) (v : Source) : (setSource s src v).free = s.free := rfl

/-! The fields after `setSlot`. -/

@[simp] theorem setSlot_pending (s : State) (n : Nat) (v : SlotSt) : (setSlot s n v).pending = s.pending := rfl
@[simp] theorem setSlot_obj (s : State) (n : Nat) (v : SlotSt) : (setSlot s n v).obj = s.obj := rfl
@[simp] theorem setSlot_blob (s : State) (n : Nat) (v : SlotSt) : (setSlot s n v).blob = s.blob := rfl
@[simp] theorem setSlot_tbl (s : State) (n : Nat) (v : SlotSt) : (setSlot s n v).tbl = s.tbl := rfl
@[simp] theorem setSlot_chg (s : State) (n : Nat) (v : SlotSt) : (setSlot s n v).chg = s.chg := rfl
@[simp] theorem setSlot_clock (s : State) (n : Nat) (v : SlotSt) : (setSlot s n v).clock = s.clock := rfl
@[simp] theorem setSlot_mgmt (s : State) (n : Nat) (v : SlotSt) : (setSlot s n v).mgmt = s.mgmt := rfl
@[simp] theorem setSlot_flt (s : State) (n : Nat) (v : SlotSt) : (setSlot s n v).flt = s.flt := rfl
@[simp] theorem setSlot_mode (s : State) (n : Nat) (v : SlotSt) : (setSlot s n v).mode = s.mode := rfl
@[simp] theorem setSlot_lanes (s : State) (n : Nat) (v : SlotSt) : (setSlot s n v).lanes = s.lanes := rfl
@[simp] theorem setSlot_groups (s : State) (n : Nat) (v : SlotSt) : (setSlot s n v).groups = s.groups := rfl
@[simp] theorem setSlot_ports (s : State) (n : Nat) (v : SlotSt) : (setSlot s n v).ports = s.ports := rfl
@[simp] theorem setSlot_fns (s : State) (n : Nat) (v : SlotSt) : (setSlot s n v).fns = s.fns := rfl
@[simp] theorem setSlot_bridges (s : State) (n : Nat) (v : SlotSt) : (setSlot s n v).bridges = s.bridges := rfl
@[simp] theorem setSlot_ppb (s : State) (n : Nat) (v : SlotSt) : (setSlot s n v).ppb = s.ppb := rfl
@[simp] theorem setSlot_tiles (s : State) (n : Nat) (v : SlotSt) : (setSlot s n v).tiles = s.tiles := rfl
@[simp] theorem setSlot_links (s : State) (n : Nat) (v : SlotSt) : (setSlot s n v).links = s.links := rfl
@[simp] theorem setSlot_egress (s : State) (n : Nat) (v : SlotSt) : (setSlot s n v).egress = s.egress := rfl
@[simp] theorem setSlot_txns (s : State) (n : Nat) (v : SlotSt) : (setSlot s n v).txns = s.txns := rfl
@[simp] theorem setSlot_mem (s : State) (n : Nat) (v : SlotSt) : (setSlot s n v).mem = s.mem := rfl
@[simp] theorem setSlot_pool (s : State) (n : Nat) (v : SlotSt) : (setSlot s n v).pool = s.pool := rfl
@[simp] theorem setSlot_coh (s : State) (n : Nat) (v : SlotSt) : (setSlot s n v).coh = s.coh := rfl
@[simp] theorem setSlot_lit (s : State) (n : Nat) (v : SlotSt) : (setSlot s n v).lit = s.lit := rfl
@[simp] theorem setSlot_insts (s : State) (n : Nat) (v : SlotSt) : (setSlot s n v).insts = s.insts := rfl
@[simp] theorem setSlot_qos (s : State) (n : Nat) (v : SlotSt) : (setSlot s n v).qos = s.qos := rfl
@[simp] theorem setSlot_tele (s : State) (n : Nat) (v : SlotSt) : (setSlot s n v).tele = s.tele := rfl
@[simp] theorem setSlot_gecko (s : State) (n : Nat) (v : SlotSt) : (setSlot s n v).gecko = s.gecko := rfl
@[simp] theorem setSlot_pwr (s : State) (n : Nat) (v : SlotSt) : (setSlot s n v).pwr = s.pwr := rfl
@[simp] theorem setSlot_slots (s : State) (n : Nat) (v : SlotSt) : (setSlot s n v).slots = put s.slots n v := rfl
@[simp] theorem setSlot_sec (s : State) (n : Nat) (v : SlotSt) : (setSlot s n v).sec = s.sec := rfl
@[simp] theorem setSlot_out (s : State) (n : Nat) (v : SlotSt) : (setSlot s n v).out = s.out := rfl
@[simp] theorem setSlot_free (s : State) (n : Nat) (v : SlotSt) : (setSlot s n v).free = s.free := rfl

/-! The fields after `setCounter`. -/

@[simp] theorem setCounter_pending (s : State) (u : Nat) (slot : Nat) (w : Nat) : (setCounter s u slot w).pending = s.pending := rfl
@[simp] theorem setCounter_obj (s : State) (u : Nat) (slot : Nat) (w : Nat) : (setCounter s u slot w).obj = s.obj := rfl
@[simp] theorem setCounter_blob (s : State) (u : Nat) (slot : Nat) (w : Nat) : (setCounter s u slot w).blob = s.blob := rfl
@[simp] theorem setCounter_tbl (s : State) (u : Nat) (slot : Nat) (w : Nat) : (setCounter s u slot w).tbl = s.tbl := rfl
@[simp] theorem setCounter_chg (s : State) (u : Nat) (slot : Nat) (w : Nat) : (setCounter s u slot w).chg = s.chg := rfl
@[simp] theorem setCounter_clock (s : State) (u : Nat) (slot : Nat) (w : Nat) : (setCounter s u slot w).clock = s.clock := rfl
@[simp] theorem setCounter_mgmt (s : State) (u : Nat) (slot : Nat) (w : Nat) : (setCounter s u slot w).mgmt = s.mgmt := rfl
@[simp] theorem setCounter_flt (s : State) (u : Nat) (slot : Nat) (w : Nat) : (setCounter s u slot w).flt = s.flt := rfl
@[simp] theorem setCounter_mode (s : State) (u : Nat) (slot : Nat) (w : Nat) : (setCounter s u slot w).mode = s.mode := rfl
@[simp] theorem setCounter_lanes (s : State) (u : Nat) (slot : Nat) (w : Nat) : (setCounter s u slot w).lanes = s.lanes := rfl
@[simp] theorem setCounter_groups (s : State) (u : Nat) (slot : Nat) (w : Nat) : (setCounter s u slot w).groups = s.groups := rfl
@[simp] theorem setCounter_ports (s : State) (u : Nat) (slot : Nat) (w : Nat) : (setCounter s u slot w).ports = s.ports := rfl
@[simp] theorem setCounter_fns (s : State) (u : Nat) (slot : Nat) (w : Nat) : (setCounter s u slot w).fns = s.fns := rfl
@[simp] theorem setCounter_bridges (s : State) (u : Nat) (slot : Nat) (w : Nat) : (setCounter s u slot w).bridges = s.bridges := rfl
@[simp] theorem setCounter_ppb (s : State) (u : Nat) (slot : Nat) (w : Nat) : (setCounter s u slot w).ppb = s.ppb := rfl
@[simp] theorem setCounter_tiles (s : State) (u : Nat) (slot : Nat) (w : Nat) : (setCounter s u slot w).tiles = s.tiles := rfl
@[simp] theorem setCounter_links (s : State) (u : Nat) (slot : Nat) (w : Nat) : (setCounter s u slot w).links = s.links := rfl
@[simp] theorem setCounter_egress (s : State) (u : Nat) (slot : Nat) (w : Nat) : (setCounter s u slot w).egress = s.egress := rfl
@[simp] theorem setCounter_txns (s : State) (u : Nat) (slot : Nat) (w : Nat) : (setCounter s u slot w).txns = s.txns := rfl
@[simp] theorem setCounter_mem (s : State) (u : Nat) (slot : Nat) (w : Nat) : (setCounter s u slot w).mem = s.mem := rfl
@[simp] theorem setCounter_pool (s : State) (u : Nat) (slot : Nat) (w : Nat) : (setCounter s u slot w).pool = s.pool := rfl
@[simp] theorem setCounter_coh (s : State) (u : Nat) (slot : Nat) (w : Nat) : (setCounter s u slot w).coh = s.coh := rfl
@[simp] theorem setCounter_lit (s : State) (u : Nat) (slot : Nat) (w : Nat) : (setCounter s u slot w).lit = s.lit := rfl
@[simp] theorem setCounter_insts (s : State) (u : Nat) (slot : Nat) (w : Nat) : (setCounter s u slot w).insts = s.insts := rfl
@[simp] theorem setCounter_qos (s : State) (u : Nat) (slot : Nat) (w : Nat) : (setCounter s u slot w).qos = s.qos := rfl
@[simp] theorem setCounter_tele (s : State) (u : Nat) (slot : Nat) (w : Nat) : (setCounter s u slot w).tele = { s.tele with counters := put s.tele.counters (32 * u + slot) w } := rfl
@[simp] theorem setCounter_gecko (s : State) (u : Nat) (slot : Nat) (w : Nat) : (setCounter s u slot w).gecko = s.gecko := rfl
@[simp] theorem setCounter_pwr (s : State) (u : Nat) (slot : Nat) (w : Nat) : (setCounter s u slot w).pwr = s.pwr := rfl
@[simp] theorem setCounter_slots (s : State) (u : Nat) (slot : Nat) (w : Nat) : (setCounter s u slot w).slots = s.slots := rfl
@[simp] theorem setCounter_sec (s : State) (u : Nat) (slot : Nat) (w : Nat) : (setCounter s u slot w).sec = s.sec := rfl
@[simp] theorem setCounter_out (s : State) (u : Nat) (slot : Nat) (w : Nat) : (setCounter s u slot w).out = s.out := rfl
@[simp] theorem setCounter_free (s : State) (u : Nat) (slot : Nat) (w : Nat) : (setCounter s u slot w).free = s.free := rfl

/-! The fields after `setWin`. -/

@[simp] theorem setWin_pending (s : State) (p : Nat) (v : WindowSt) : (setWin s p v).pending = s.pending := rfl
@[simp] theorem setWin_obj (s : State) (p : Nat) (v : WindowSt) : (setWin s p v).obj = s.obj := rfl
@[simp] theorem setWin_blob (s : State) (p : Nat) (v : WindowSt) : (setWin s p v).blob = s.blob := rfl
@[simp] theorem setWin_tbl (s : State) (p : Nat) (v : WindowSt) : (setWin s p v).tbl = s.tbl := rfl
@[simp] theorem setWin_chg (s : State) (p : Nat) (v : WindowSt) : (setWin s p v).chg = s.chg := rfl
@[simp] theorem setWin_clock (s : State) (p : Nat) (v : WindowSt) : (setWin s p v).clock = s.clock := rfl
@[simp] theorem setWin_mgmt (s : State) (p : Nat) (v : WindowSt) : (setWin s p v).mgmt = s.mgmt := rfl
@[simp] theorem setWin_flt (s : State) (p : Nat) (v : WindowSt) : (setWin s p v).flt = s.flt := rfl
@[simp] theorem setWin_mode (s : State) (p : Nat) (v : WindowSt) : (setWin s p v).mode = s.mode := rfl
@[simp] theorem setWin_lanes (s : State) (p : Nat) (v : WindowSt) : (setWin s p v).lanes = s.lanes := rfl
@[simp] theorem setWin_groups (s : State) (p : Nat) (v : WindowSt) : (setWin s p v).groups = s.groups := rfl
@[simp] theorem setWin_ports (s : State) (p : Nat) (v : WindowSt) : (setWin s p v).ports = s.ports := rfl
@[simp] theorem setWin_fns (s : State) (p : Nat) (v : WindowSt) : (setWin s p v).fns = s.fns := rfl
@[simp] theorem setWin_bridges (s : State) (p : Nat) (v : WindowSt) : (setWin s p v).bridges = s.bridges := rfl
@[simp] theorem setWin_ppb (s : State) (p : Nat) (v : WindowSt) : (setWin s p v).ppb = s.ppb := rfl
@[simp] theorem setWin_tiles (s : State) (p : Nat) (v : WindowSt) : (setWin s p v).tiles = s.tiles := rfl
@[simp] theorem setWin_links (s : State) (p : Nat) (v : WindowSt) : (setWin s p v).links = s.links := rfl
@[simp] theorem setWin_egress (s : State) (p : Nat) (v : WindowSt) : (setWin s p v).egress = s.egress := rfl
@[simp] theorem setWin_txns (s : State) (p : Nat) (v : WindowSt) : (setWin s p v).txns = s.txns := rfl
@[simp] theorem setWin_mem (s : State) (p : Nat) (v : WindowSt) : (setWin s p v).mem = s.mem := rfl
@[simp] theorem setWin_pool (s : State) (p : Nat) (v : WindowSt) : (setWin s p v).pool = s.pool := rfl
@[simp] theorem setWin_coh (s : State) (p : Nat) (v : WindowSt) : (setWin s p v).coh = s.coh := rfl
@[simp] theorem setWin_lit (s : State) (p : Nat) (v : WindowSt) : (setWin s p v).lit = s.lit := rfl
@[simp] theorem setWin_insts (s : State) (p : Nat) (v : WindowSt) : (setWin s p v).insts = s.insts := rfl
@[simp] theorem setWin_qos (s : State) (p : Nat) (v : WindowSt) : (setWin s p v).qos = s.qos := rfl
@[simp] theorem setWin_tele (s : State) (p : Nat) (v : WindowSt) : (setWin s p v).tele = { s.tele with windows := put s.tele.windows p v } := rfl
@[simp] theorem setWin_gecko (s : State) (p : Nat) (v : WindowSt) : (setWin s p v).gecko = s.gecko := rfl
@[simp] theorem setWin_pwr (s : State) (p : Nat) (v : WindowSt) : (setWin s p v).pwr = s.pwr := rfl
@[simp] theorem setWin_slots (s : State) (p : Nat) (v : WindowSt) : (setWin s p v).slots = s.slots := rfl
@[simp] theorem setWin_sec (s : State) (p : Nat) (v : WindowSt) : (setWin s p v).sec = s.sec := rfl
@[simp] theorem setWin_out (s : State) (p : Nat) (v : WindowSt) : (setWin s p v).out = s.out := rfl
@[simp] theorem setWin_free (s : State) (p : Nat) (v : WindowSt) : (setWin s p v).free = s.free := rfl

/-! The fields after `setSession`. -/

@[simp] theorem setSession_pending (s : State) (id : Nat) (f : Session → Session) : (setSession s id f).pending = s.pending := rfl
@[simp] theorem setSession_obj (s : State) (id : Nat) (f : Session → Session) : (setSession s id f).obj = s.obj := rfl
@[simp] theorem setSession_blob (s : State) (id : Nat) (f : Session → Session) : (setSession s id f).blob = s.blob := rfl
@[simp] theorem setSession_tbl (s : State) (id : Nat) (f : Session → Session) : (setSession s id f).tbl = s.tbl := rfl
@[simp] theorem setSession_chg (s : State) (id : Nat) (f : Session → Session) : (setSession s id f).chg = s.chg := rfl
@[simp] theorem setSession_clock (s : State) (id : Nat) (f : Session → Session) : (setSession s id f).clock = s.clock := rfl
@[simp] theorem setSession_mgmt (s : State) (id : Nat) (f : Session → Session) : (setSession s id f).mgmt = { s.mgmt with sessions := s.mgmt.sessions.map fun x => if x.id = id then f x else x } := rfl
@[simp] theorem setSession_flt (s : State) (id : Nat) (f : Session → Session) : (setSession s id f).flt = s.flt := rfl
@[simp] theorem setSession_mode (s : State) (id : Nat) (f : Session → Session) : (setSession s id f).mode = s.mode := rfl
@[simp] theorem setSession_lanes (s : State) (id : Nat) (f : Session → Session) : (setSession s id f).lanes = s.lanes := rfl
@[simp] theorem setSession_groups (s : State) (id : Nat) (f : Session → Session) : (setSession s id f).groups = s.groups := rfl
@[simp] theorem setSession_ports (s : State) (id : Nat) (f : Session → Session) : (setSession s id f).ports = s.ports := rfl
@[simp] theorem setSession_fns (s : State) (id : Nat) (f : Session → Session) : (setSession s id f).fns = s.fns := rfl
@[simp] theorem setSession_bridges (s : State) (id : Nat) (f : Session → Session) : (setSession s id f).bridges = s.bridges := rfl
@[simp] theorem setSession_ppb (s : State) (id : Nat) (f : Session → Session) : (setSession s id f).ppb = s.ppb := rfl
@[simp] theorem setSession_tiles (s : State) (id : Nat) (f : Session → Session) : (setSession s id f).tiles = s.tiles := rfl
@[simp] theorem setSession_links (s : State) (id : Nat) (f : Session → Session) : (setSession s id f).links = s.links := rfl
@[simp] theorem setSession_egress (s : State) (id : Nat) (f : Session → Session) : (setSession s id f).egress = s.egress := rfl
@[simp] theorem setSession_txns (s : State) (id : Nat) (f : Session → Session) : (setSession s id f).txns = s.txns := rfl
@[simp] theorem setSession_mem (s : State) (id : Nat) (f : Session → Session) : (setSession s id f).mem = s.mem := rfl
@[simp] theorem setSession_pool (s : State) (id : Nat) (f : Session → Session) : (setSession s id f).pool = s.pool := rfl
@[simp] theorem setSession_coh (s : State) (id : Nat) (f : Session → Session) : (setSession s id f).coh = s.coh := rfl
@[simp] theorem setSession_lit (s : State) (id : Nat) (f : Session → Session) : (setSession s id f).lit = s.lit := rfl
@[simp] theorem setSession_insts (s : State) (id : Nat) (f : Session → Session) : (setSession s id f).insts = s.insts := rfl
@[simp] theorem setSession_qos (s : State) (id : Nat) (f : Session → Session) : (setSession s id f).qos = s.qos := rfl
@[simp] theorem setSession_tele (s : State) (id : Nat) (f : Session → Session) : (setSession s id f).tele = s.tele := rfl
@[simp] theorem setSession_gecko (s : State) (id : Nat) (f : Session → Session) : (setSession s id f).gecko = s.gecko := rfl
@[simp] theorem setSession_pwr (s : State) (id : Nat) (f : Session → Session) : (setSession s id f).pwr = s.pwr := rfl
@[simp] theorem setSession_slots (s : State) (id : Nat) (f : Session → Session) : (setSession s id f).slots = s.slots := rfl
@[simp] theorem setSession_sec (s : State) (id : Nat) (f : Session → Session) : (setSession s id f).sec = s.sec := rfl
@[simp] theorem setSession_out (s : State) (id : Nat) (f : Session → Session) : (setSession s id f).out = s.out := rfl
@[simp] theorem setSession_free (s : State) (id : Nat) (f : Session → Session) : (setSession s id f).free = s.free := rfl

/-! The fields after `setFrame`. -/

@[simp] theorem setFrame_pending (s : State) (g : Nat) (v : Frame) : (setFrame s g v).pending = s.pending := rfl
@[simp] theorem setFrame_obj (s : State) (g : Nat) (v : Frame) : (setFrame s g v).obj = s.obj := rfl
@[simp] theorem setFrame_blob (s : State) (g : Nat) (v : Frame) : (setFrame s g v).blob = s.blob := rfl
@[simp] theorem setFrame_tbl (s : State) (g : Nat) (v : Frame) : (setFrame s g v).tbl = s.tbl := rfl
@[simp] theorem setFrame_chg (s : State) (g : Nat) (v : Frame) : (setFrame s g v).chg = s.chg := rfl
@[simp] theorem setFrame_clock (s : State) (g : Nat) (v : Frame) : (setFrame s g v).clock = s.clock := rfl
@[simp] theorem setFrame_mgmt (s : State) (g : Nat) (v : Frame) : (setFrame s g v).mgmt = s.mgmt := rfl
@[simp] theorem setFrame_flt (s : State) (g : Nat) (v : Frame) : (setFrame s g v).flt = s.flt := rfl
@[simp] theorem setFrame_mode (s : State) (g : Nat) (v : Frame) : (setFrame s g v).mode = s.mode := rfl
@[simp] theorem setFrame_lanes (s : State) (g : Nat) (v : Frame) : (setFrame s g v).lanes = s.lanes := rfl
@[simp] theorem setFrame_groups (s : State) (g : Nat) (v : Frame) : (setFrame s g v).groups = s.groups := rfl
@[simp] theorem setFrame_ports (s : State) (g : Nat) (v : Frame) : (setFrame s g v).ports = s.ports := rfl
@[simp] theorem setFrame_fns (s : State) (g : Nat) (v : Frame) : (setFrame s g v).fns = s.fns := rfl
@[simp] theorem setFrame_bridges (s : State) (g : Nat) (v : Frame) : (setFrame s g v).bridges = s.bridges := rfl
@[simp] theorem setFrame_ppb (s : State) (g : Nat) (v : Frame) : (setFrame s g v).ppb = s.ppb := rfl
@[simp] theorem setFrame_tiles (s : State) (g : Nat) (v : Frame) : (setFrame s g v).tiles = s.tiles := rfl
@[simp] theorem setFrame_links (s : State) (g : Nat) (v : Frame) : (setFrame s g v).links = s.links := rfl
@[simp] theorem setFrame_egress (s : State) (g : Nat) (v : Frame) : (setFrame s g v).egress = s.egress := rfl
@[simp] theorem setFrame_txns (s : State) (g : Nat) (v : Frame) : (setFrame s g v).txns = s.txns := rfl
@[simp] theorem setFrame_mem (s : State) (g : Nat) (v : Frame) : (setFrame s g v).mem = s.mem := rfl
@[simp] theorem setFrame_pool (s : State) (g : Nat) (v : Frame) : (setFrame s g v).pool = s.pool := rfl
@[simp] theorem setFrame_coh (s : State) (g : Nat) (v : Frame) : (setFrame s g v).coh = s.coh := rfl
@[simp] theorem setFrame_lit (s : State) (g : Nat) (v : Frame) : (setFrame s g v).lit = { s.lit with frames := put s.lit.frames g v } := rfl
@[simp] theorem setFrame_insts (s : State) (g : Nat) (v : Frame) : (setFrame s g v).insts = s.insts := rfl
@[simp] theorem setFrame_qos (s : State) (g : Nat) (v : Frame) : (setFrame s g v).qos = s.qos := rfl
@[simp] theorem setFrame_tele (s : State) (g : Nat) (v : Frame) : (setFrame s g v).tele = s.tele := rfl
@[simp] theorem setFrame_gecko (s : State) (g : Nat) (v : Frame) : (setFrame s g v).gecko = s.gecko := rfl
@[simp] theorem setFrame_pwr (s : State) (g : Nat) (v : Frame) : (setFrame s g v).pwr = s.pwr := rfl
@[simp] theorem setFrame_slots (s : State) (g : Nat) (v : Frame) : (setFrame s g v).slots = s.slots := rfl
@[simp] theorem setFrame_sec (s : State) (g : Nat) (v : Frame) : (setFrame s g v).sec = s.sec := rfl
@[simp] theorem setFrame_out (s : State) (g : Nat) (v : Frame) : (setFrame s g v).out = s.out := rfl
@[simp] theorem setFrame_free (s : State) (g : Nat) (v : Frame) : (setFrame s g v).free = s.free := rfl

/-! The fields after `setMove`. -/

@[simp] theorem setMove_pending (s : State) (g : Nat) (m : Move) : (setMove s g m).pending = s.pending := rfl
@[simp] theorem setMove_obj (s : State) (g : Nat) (m : Move) : (setMove s g m).obj = s.obj := rfl
@[simp] theorem setMove_blob (s : State) (g : Nat) (m : Move) : (setMove s g m).blob = s.blob := rfl
@[simp] theorem setMove_tbl (s : State) (g : Nat) (m : Move) : (setMove s g m).tbl = s.tbl := rfl
@[simp] theorem setMove_chg (s : State) (g : Nat) (m : Move) : (setMove s g m).chg = s.chg := rfl
@[simp] theorem setMove_clock (s : State) (g : Nat) (m : Move) : (setMove s g m).clock = s.clock := rfl
@[simp] theorem setMove_mgmt (s : State) (g : Nat) (m : Move) : (setMove s g m).mgmt = s.mgmt := rfl
@[simp] theorem setMove_flt (s : State) (g : Nat) (m : Move) : (setMove s g m).flt = s.flt := rfl
@[simp] theorem setMove_mode (s : State) (g : Nat) (m : Move) : (setMove s g m).mode = s.mode := rfl
@[simp] theorem setMove_lanes (s : State) (g : Nat) (m : Move) : (setMove s g m).lanes = s.lanes := rfl
@[simp] theorem setMove_groups (s : State) (g : Nat) (m : Move) : (setMove s g m).groups = s.groups := rfl
@[simp] theorem setMove_ports (s : State) (g : Nat) (m : Move) : (setMove s g m).ports = s.ports := rfl
@[simp] theorem setMove_fns (s : State) (g : Nat) (m : Move) : (setMove s g m).fns = s.fns := rfl
@[simp] theorem setMove_bridges (s : State) (g : Nat) (m : Move) : (setMove s g m).bridges = s.bridges := rfl
@[simp] theorem setMove_ppb (s : State) (g : Nat) (m : Move) : (setMove s g m).ppb = s.ppb := rfl
@[simp] theorem setMove_tiles (s : State) (g : Nat) (m : Move) : (setMove s g m).tiles = s.tiles := rfl
@[simp] theorem setMove_links (s : State) (g : Nat) (m : Move) : (setMove s g m).links = s.links := rfl
@[simp] theorem setMove_egress (s : State) (g : Nat) (m : Move) : (setMove s g m).egress = s.egress := rfl
@[simp] theorem setMove_txns (s : State) (g : Nat) (m : Move) : (setMove s g m).txns = s.txns := rfl
@[simp] theorem setMove_mem (s : State) (g : Nat) (m : Move) : (setMove s g m).mem = s.mem := rfl
@[simp] theorem setMove_pool (s : State) (g : Nat) (m : Move) : (setMove s g m).pool = s.pool := rfl
@[simp] theorem setMove_coh (s : State) (g : Nat) (m : Move) : (setMove s g m).coh = s.coh := rfl
@[simp] theorem setMove_lit (s : State) (g : Nat) (m : Move) : (setMove s g m).lit = { s.lit with moves := put s.lit.moves g m } := rfl
@[simp] theorem setMove_insts (s : State) (g : Nat) (m : Move) : (setMove s g m).insts = s.insts := rfl
@[simp] theorem setMove_qos (s : State) (g : Nat) (m : Move) : (setMove s g m).qos = s.qos := rfl
@[simp] theorem setMove_tele (s : State) (g : Nat) (m : Move) : (setMove s g m).tele = s.tele := rfl
@[simp] theorem setMove_gecko (s : State) (g : Nat) (m : Move) : (setMove s g m).gecko = s.gecko := rfl
@[simp] theorem setMove_pwr (s : State) (g : Nat) (m : Move) : (setMove s g m).pwr = s.pwr := rfl
@[simp] theorem setMove_slots (s : State) (g : Nat) (m : Move) : (setMove s g m).slots = s.slots := rfl
@[simp] theorem setMove_sec (s : State) (g : Nat) (m : Move) : (setMove s g m).sec = s.sec := rfl
@[simp] theorem setMove_out (s : State) (g : Nat) (m : Move) : (setMove s g m).out = s.out := rfl
@[simp] theorem setMove_free (s : State) (g : Nat) (m : Move) : (setMove s g m).free = s.free := rfl

/-! The fields after `setHeat`. -/

@[simp] theorem setHeat_pending (s : State) (t : Nat) (g : Nat) (h : Heat) : (setHeat s t g h).pending = s.pending := rfl
@[simp] theorem setHeat_obj (s : State) (t : Nat) (g : Nat) (h : Heat) : (setHeat s t g h).obj = s.obj := rfl
@[simp] theorem setHeat_blob (s : State) (t : Nat) (g : Nat) (h : Heat) : (setHeat s t g h).blob = s.blob := rfl
@[simp] theorem setHeat_tbl (s : State) (t : Nat) (g : Nat) (h : Heat) : (setHeat s t g h).tbl = s.tbl := rfl
@[simp] theorem setHeat_chg (s : State) (t : Nat) (g : Nat) (h : Heat) : (setHeat s t g h).chg = s.chg := rfl
@[simp] theorem setHeat_clock (s : State) (t : Nat) (g : Nat) (h : Heat) : (setHeat s t g h).clock = s.clock := rfl
@[simp] theorem setHeat_mgmt (s : State) (t : Nat) (g : Nat) (h : Heat) : (setHeat s t g h).mgmt = s.mgmt := rfl
@[simp] theorem setHeat_flt (s : State) (t : Nat) (g : Nat) (h : Heat) : (setHeat s t g h).flt = s.flt := rfl
@[simp] theorem setHeat_mode (s : State) (t : Nat) (g : Nat) (h : Heat) : (setHeat s t g h).mode = s.mode := rfl
@[simp] theorem setHeat_lanes (s : State) (t : Nat) (g : Nat) (h : Heat) : (setHeat s t g h).lanes = s.lanes := rfl
@[simp] theorem setHeat_groups (s : State) (t : Nat) (g : Nat) (h : Heat) : (setHeat s t g h).groups = s.groups := rfl
@[simp] theorem setHeat_ports (s : State) (t : Nat) (g : Nat) (h : Heat) : (setHeat s t g h).ports = s.ports := rfl
@[simp] theorem setHeat_fns (s : State) (t : Nat) (g : Nat) (h : Heat) : (setHeat s t g h).fns = s.fns := rfl
@[simp] theorem setHeat_bridges (s : State) (t : Nat) (g : Nat) (h : Heat) : (setHeat s t g h).bridges = s.bridges := rfl
@[simp] theorem setHeat_ppb (s : State) (t : Nat) (g : Nat) (h : Heat) : (setHeat s t g h).ppb = s.ppb := rfl
@[simp] theorem setHeat_tiles (s : State) (t : Nat) (g : Nat) (h : Heat) : (setHeat s t g h).tiles = s.tiles := rfl
@[simp] theorem setHeat_links (s : State) (t : Nat) (g : Nat) (h : Heat) : (setHeat s t g h).links = s.links := rfl
@[simp] theorem setHeat_egress (s : State) (t : Nat) (g : Nat) (h : Heat) : (setHeat s t g h).egress = s.egress := rfl
@[simp] theorem setHeat_txns (s : State) (t : Nat) (g : Nat) (h : Heat) : (setHeat s t g h).txns = s.txns := rfl
@[simp] theorem setHeat_mem (s : State) (t : Nat) (g : Nat) (h : Heat) : (setHeat s t g h).mem = s.mem := rfl
@[simp] theorem setHeat_pool (s : State) (t : Nat) (g : Nat) (h : Heat) : (setHeat s t g h).pool = s.pool := rfl
@[simp] theorem setHeat_coh (s : State) (t : Nat) (g : Nat) (h : Heat) : (setHeat s t g h).coh = s.coh := rfl
@[simp] theorem setHeat_lit (s : State) (t : Nat) (g : Nat) (h : Heat) : (setHeat s t g h).lit = { s.lit with heat := put s.lit.heat (heatKey t g) h } := rfl
@[simp] theorem setHeat_insts (s : State) (t : Nat) (g : Nat) (h : Heat) : (setHeat s t g h).insts = s.insts := rfl
@[simp] theorem setHeat_qos (s : State) (t : Nat) (g : Nat) (h : Heat) : (setHeat s t g h).qos = s.qos := rfl
@[simp] theorem setHeat_tele (s : State) (t : Nat) (g : Nat) (h : Heat) : (setHeat s t g h).tele = s.tele := rfl
@[simp] theorem setHeat_gecko (s : State) (t : Nat) (g : Nat) (h : Heat) : (setHeat s t g h).gecko = s.gecko := rfl
@[simp] theorem setHeat_pwr (s : State) (t : Nat) (g : Nat) (h : Heat) : (setHeat s t g h).pwr = s.pwr := rfl
@[simp] theorem setHeat_slots (s : State) (t : Nat) (g : Nat) (h : Heat) : (setHeat s t g h).slots = s.slots := rfl
@[simp] theorem setHeat_sec (s : State) (t : Nat) (g : Nat) (h : Heat) : (setHeat s t g h).sec = s.sec := rfl
@[simp] theorem setHeat_out (s : State) (t : Nat) (g : Nat) (h : Heat) : (setHeat s t g h).out = s.out := rfl
@[simp] theorem setHeat_free (s : State) (t : Nat) (g : Nat) (h : Heat) : (setHeat s t g h).free = s.free := rfl

/-! The fields after `setPort`. -/

@[simp] theorem setPort_pending (s : State) (p : Nat) (v : PortSt) : (setPort s p v).pending = s.pending := rfl
@[simp] theorem setPort_obj (s : State) (p : Nat) (v : PortSt) : (setPort s p v).obj = s.obj := rfl
@[simp] theorem setPort_blob (s : State) (p : Nat) (v : PortSt) : (setPort s p v).blob = s.blob := rfl
@[simp] theorem setPort_tbl (s : State) (p : Nat) (v : PortSt) : (setPort s p v).tbl = s.tbl := rfl
@[simp] theorem setPort_chg (s : State) (p : Nat) (v : PortSt) : (setPort s p v).chg = s.chg := rfl
@[simp] theorem setPort_clock (s : State) (p : Nat) (v : PortSt) : (setPort s p v).clock = s.clock := rfl
@[simp] theorem setPort_mgmt (s : State) (p : Nat) (v : PortSt) : (setPort s p v).mgmt = s.mgmt := rfl
@[simp] theorem setPort_flt (s : State) (p : Nat) (v : PortSt) : (setPort s p v).flt = s.flt := rfl
@[simp] theorem setPort_mode (s : State) (p : Nat) (v : PortSt) : (setPort s p v).mode = s.mode := rfl
@[simp] theorem setPort_lanes (s : State) (p : Nat) (v : PortSt) : (setPort s p v).lanes = s.lanes := rfl
@[simp] theorem setPort_groups (s : State) (p : Nat) (v : PortSt) : (setPort s p v).groups = s.groups := rfl
@[simp] theorem setPort_ports (s : State) (p : Nat) (v : PortSt) : (setPort s p v).ports = put s.ports p v := rfl
@[simp] theorem setPort_fns (s : State) (p : Nat) (v : PortSt) : (setPort s p v).fns = s.fns := rfl
@[simp] theorem setPort_bridges (s : State) (p : Nat) (v : PortSt) : (setPort s p v).bridges = s.bridges := rfl
@[simp] theorem setPort_ppb (s : State) (p : Nat) (v : PortSt) : (setPort s p v).ppb = s.ppb := rfl
@[simp] theorem setPort_tiles (s : State) (p : Nat) (v : PortSt) : (setPort s p v).tiles = s.tiles := rfl
@[simp] theorem setPort_links (s : State) (p : Nat) (v : PortSt) : (setPort s p v).links = s.links := rfl
@[simp] theorem setPort_egress (s : State) (p : Nat) (v : PortSt) : (setPort s p v).egress = s.egress := rfl
@[simp] theorem setPort_txns (s : State) (p : Nat) (v : PortSt) : (setPort s p v).txns = s.txns := rfl
@[simp] theorem setPort_mem (s : State) (p : Nat) (v : PortSt) : (setPort s p v).mem = s.mem := rfl
@[simp] theorem setPort_pool (s : State) (p : Nat) (v : PortSt) : (setPort s p v).pool = s.pool := rfl
@[simp] theorem setPort_coh (s : State) (p : Nat) (v : PortSt) : (setPort s p v).coh = s.coh := rfl
@[simp] theorem setPort_lit (s : State) (p : Nat) (v : PortSt) : (setPort s p v).lit = s.lit := rfl
@[simp] theorem setPort_insts (s : State) (p : Nat) (v : PortSt) : (setPort s p v).insts = s.insts := rfl
@[simp] theorem setPort_qos (s : State) (p : Nat) (v : PortSt) : (setPort s p v).qos = s.qos := rfl
@[simp] theorem setPort_tele (s : State) (p : Nat) (v : PortSt) : (setPort s p v).tele = s.tele := rfl
@[simp] theorem setPort_gecko (s : State) (p : Nat) (v : PortSt) : (setPort s p v).gecko = s.gecko := rfl
@[simp] theorem setPort_pwr (s : State) (p : Nat) (v : PortSt) : (setPort s p v).pwr = s.pwr := rfl
@[simp] theorem setPort_slots (s : State) (p : Nat) (v : PortSt) : (setPort s p v).slots = s.slots := rfl
@[simp] theorem setPort_sec (s : State) (p : Nat) (v : PortSt) : (setPort s p v).sec = s.sec := rfl
@[simp] theorem setPort_out (s : State) (p : Nat) (v : PortSt) : (setPort s p v).out = s.out := rfl
@[simp] theorem setPort_free (s : State) (p : Nat) (v : PortSt) : (setPort s p v).free = s.free := rfl

/-! The fields after `setLane`. -/

@[simp] theorem setLane_pending (s : State) (l : Nat) (v : LaneSt) : (setLane s l v).pending = s.pending := rfl
@[simp] theorem setLane_obj (s : State) (l : Nat) (v : LaneSt) : (setLane s l v).obj = s.obj := rfl
@[simp] theorem setLane_blob (s : State) (l : Nat) (v : LaneSt) : (setLane s l v).blob = s.blob := rfl
@[simp] theorem setLane_tbl (s : State) (l : Nat) (v : LaneSt) : (setLane s l v).tbl = s.tbl := rfl
@[simp] theorem setLane_chg (s : State) (l : Nat) (v : LaneSt) : (setLane s l v).chg = s.chg := rfl
@[simp] theorem setLane_clock (s : State) (l : Nat) (v : LaneSt) : (setLane s l v).clock = s.clock := rfl
@[simp] theorem setLane_mgmt (s : State) (l : Nat) (v : LaneSt) : (setLane s l v).mgmt = s.mgmt := rfl
@[simp] theorem setLane_flt (s : State) (l : Nat) (v : LaneSt) : (setLane s l v).flt = s.flt := rfl
@[simp] theorem setLane_mode (s : State) (l : Nat) (v : LaneSt) : (setLane s l v).mode = s.mode := rfl
@[simp] theorem setLane_lanes (s : State) (l : Nat) (v : LaneSt) : (setLane s l v).lanes = put s.lanes l v := rfl
@[simp] theorem setLane_groups (s : State) (l : Nat) (v : LaneSt) : (setLane s l v).groups = s.groups := rfl
@[simp] theorem setLane_ports (s : State) (l : Nat) (v : LaneSt) : (setLane s l v).ports = s.ports := rfl
@[simp] theorem setLane_fns (s : State) (l : Nat) (v : LaneSt) : (setLane s l v).fns = s.fns := rfl
@[simp] theorem setLane_bridges (s : State) (l : Nat) (v : LaneSt) : (setLane s l v).bridges = s.bridges := rfl
@[simp] theorem setLane_ppb (s : State) (l : Nat) (v : LaneSt) : (setLane s l v).ppb = s.ppb := rfl
@[simp] theorem setLane_tiles (s : State) (l : Nat) (v : LaneSt) : (setLane s l v).tiles = s.tiles := rfl
@[simp] theorem setLane_links (s : State) (l : Nat) (v : LaneSt) : (setLane s l v).links = s.links := rfl
@[simp] theorem setLane_egress (s : State) (l : Nat) (v : LaneSt) : (setLane s l v).egress = s.egress := rfl
@[simp] theorem setLane_txns (s : State) (l : Nat) (v : LaneSt) : (setLane s l v).txns = s.txns := rfl
@[simp] theorem setLane_mem (s : State) (l : Nat) (v : LaneSt) : (setLane s l v).mem = s.mem := rfl
@[simp] theorem setLane_pool (s : State) (l : Nat) (v : LaneSt) : (setLane s l v).pool = s.pool := rfl
@[simp] theorem setLane_coh (s : State) (l : Nat) (v : LaneSt) : (setLane s l v).coh = s.coh := rfl
@[simp] theorem setLane_lit (s : State) (l : Nat) (v : LaneSt) : (setLane s l v).lit = s.lit := rfl
@[simp] theorem setLane_insts (s : State) (l : Nat) (v : LaneSt) : (setLane s l v).insts = s.insts := rfl
@[simp] theorem setLane_qos (s : State) (l : Nat) (v : LaneSt) : (setLane s l v).qos = s.qos := rfl
@[simp] theorem setLane_tele (s : State) (l : Nat) (v : LaneSt) : (setLane s l v).tele = s.tele := rfl
@[simp] theorem setLane_gecko (s : State) (l : Nat) (v : LaneSt) : (setLane s l v).gecko = s.gecko := rfl
@[simp] theorem setLane_pwr (s : State) (l : Nat) (v : LaneSt) : (setLane s l v).pwr = s.pwr := rfl
@[simp] theorem setLane_slots (s : State) (l : Nat) (v : LaneSt) : (setLane s l v).slots = s.slots := rfl
@[simp] theorem setLane_sec (s : State) (l : Nat) (v : LaneSt) : (setLane s l v).sec = s.sec := rfl
@[simp] theorem setLane_out (s : State) (l : Nat) (v : LaneSt) : (setLane s l v).out = s.out := rfl
@[simp] theorem setLane_free (s : State) (l : Nat) (v : LaneSt) : (setLane s l v).free = s.free := rfl

/-! The fields after `setGroup`. -/

@[simp] theorem setGroup_pending (s : State) (g : Nat) (v : GroupSt) : (setGroup s g v).pending = s.pending := rfl
@[simp] theorem setGroup_obj (s : State) (g : Nat) (v : GroupSt) : (setGroup s g v).obj = s.obj := rfl
@[simp] theorem setGroup_blob (s : State) (g : Nat) (v : GroupSt) : (setGroup s g v).blob = s.blob := rfl
@[simp] theorem setGroup_tbl (s : State) (g : Nat) (v : GroupSt) : (setGroup s g v).tbl = s.tbl := rfl
@[simp] theorem setGroup_chg (s : State) (g : Nat) (v : GroupSt) : (setGroup s g v).chg = s.chg := rfl
@[simp] theorem setGroup_clock (s : State) (g : Nat) (v : GroupSt) : (setGroup s g v).clock = s.clock := rfl
@[simp] theorem setGroup_mgmt (s : State) (g : Nat) (v : GroupSt) : (setGroup s g v).mgmt = s.mgmt := rfl
@[simp] theorem setGroup_flt (s : State) (g : Nat) (v : GroupSt) : (setGroup s g v).flt = s.flt := rfl
@[simp] theorem setGroup_mode (s : State) (g : Nat) (v : GroupSt) : (setGroup s g v).mode = s.mode := rfl
@[simp] theorem setGroup_lanes (s : State) (g : Nat) (v : GroupSt) : (setGroup s g v).lanes = s.lanes := rfl
@[simp] theorem setGroup_groups (s : State) (g : Nat) (v : GroupSt) : (setGroup s g v).groups = put s.groups g v := rfl
@[simp] theorem setGroup_ports (s : State) (g : Nat) (v : GroupSt) : (setGroup s g v).ports = s.ports := rfl
@[simp] theorem setGroup_fns (s : State) (g : Nat) (v : GroupSt) : (setGroup s g v).fns = s.fns := rfl
@[simp] theorem setGroup_bridges (s : State) (g : Nat) (v : GroupSt) : (setGroup s g v).bridges = s.bridges := rfl
@[simp] theorem setGroup_ppb (s : State) (g : Nat) (v : GroupSt) : (setGroup s g v).ppb = s.ppb := rfl
@[simp] theorem setGroup_tiles (s : State) (g : Nat) (v : GroupSt) : (setGroup s g v).tiles = s.tiles := rfl
@[simp] theorem setGroup_links (s : State) (g : Nat) (v : GroupSt) : (setGroup s g v).links = s.links := rfl
@[simp] theorem setGroup_egress (s : State) (g : Nat) (v : GroupSt) : (setGroup s g v).egress = s.egress := rfl
@[simp] theorem setGroup_txns (s : State) (g : Nat) (v : GroupSt) : (setGroup s g v).txns = s.txns := rfl
@[simp] theorem setGroup_mem (s : State) (g : Nat) (v : GroupSt) : (setGroup s g v).mem = s.mem := rfl
@[simp] theorem setGroup_pool (s : State) (g : Nat) (v : GroupSt) : (setGroup s g v).pool = s.pool := rfl
@[simp] theorem setGroup_coh (s : State) (g : Nat) (v : GroupSt) : (setGroup s g v).coh = s.coh := rfl
@[simp] theorem setGroup_lit (s : State) (g : Nat) (v : GroupSt) : (setGroup s g v).lit = s.lit := rfl
@[simp] theorem setGroup_insts (s : State) (g : Nat) (v : GroupSt) : (setGroup s g v).insts = s.insts := rfl
@[simp] theorem setGroup_qos (s : State) (g : Nat) (v : GroupSt) : (setGroup s g v).qos = s.qos := rfl
@[simp] theorem setGroup_tele (s : State) (g : Nat) (v : GroupSt) : (setGroup s g v).tele = s.tele := rfl
@[simp] theorem setGroup_gecko (s : State) (g : Nat) (v : GroupSt) : (setGroup s g v).gecko = s.gecko := rfl
@[simp] theorem setGroup_pwr (s : State) (g : Nat) (v : GroupSt) : (setGroup s g v).pwr = s.pwr := rfl
@[simp] theorem setGroup_slots (s : State) (g : Nat) (v : GroupSt) : (setGroup s g v).slots = s.slots := rfl
@[simp] theorem setGroup_sec (s : State) (g : Nat) (v : GroupSt) : (setGroup s g v).sec = s.sec := rfl
@[simp] theorem setGroup_out (s : State) (g : Nat) (v : GroupSt) : (setGroup s g v).out = s.out := rfl
@[simp] theorem setGroup_free (s : State) (g : Nat) (v : GroupSt) : (setGroup s g v).free = s.free := rfl

/-! The fields after `setTile`. -/

@[simp] theorem setTile_pending (s : State) (t : Nat) (v : TileSt) : (setTile s t v).pending = s.pending := rfl
@[simp] theorem setTile_obj (s : State) (t : Nat) (v : TileSt) : (setTile s t v).obj = s.obj := rfl
@[simp] theorem setTile_blob (s : State) (t : Nat) (v : TileSt) : (setTile s t v).blob = s.blob := rfl
@[simp] theorem setTile_tbl (s : State) (t : Nat) (v : TileSt) : (setTile s t v).tbl = s.tbl := rfl
@[simp] theorem setTile_chg (s : State) (t : Nat) (v : TileSt) : (setTile s t v).chg = s.chg := rfl
@[simp] theorem setTile_clock (s : State) (t : Nat) (v : TileSt) : (setTile s t v).clock = s.clock := rfl
@[simp] theorem setTile_mgmt (s : State) (t : Nat) (v : TileSt) : (setTile s t v).mgmt = s.mgmt := rfl
@[simp] theorem setTile_flt (s : State) (t : Nat) (v : TileSt) : (setTile s t v).flt = s.flt := rfl
@[simp] theorem setTile_mode (s : State) (t : Nat) (v : TileSt) : (setTile s t v).mode = s.mode := rfl
@[simp] theorem setTile_lanes (s : State) (t : Nat) (v : TileSt) : (setTile s t v).lanes = s.lanes := rfl
@[simp] theorem setTile_groups (s : State) (t : Nat) (v : TileSt) : (setTile s t v).groups = s.groups := rfl
@[simp] theorem setTile_ports (s : State) (t : Nat) (v : TileSt) : (setTile s t v).ports = s.ports := rfl
@[simp] theorem setTile_fns (s : State) (t : Nat) (v : TileSt) : (setTile s t v).fns = s.fns := rfl
@[simp] theorem setTile_bridges (s : State) (t : Nat) (v : TileSt) : (setTile s t v).bridges = s.bridges := rfl
@[simp] theorem setTile_ppb (s : State) (t : Nat) (v : TileSt) : (setTile s t v).ppb = s.ppb := rfl
@[simp] theorem setTile_tiles (s : State) (t : Nat) (v : TileSt) : (setTile s t v).tiles = put s.tiles t v := rfl
@[simp] theorem setTile_links (s : State) (t : Nat) (v : TileSt) : (setTile s t v).links = s.links := rfl
@[simp] theorem setTile_egress (s : State) (t : Nat) (v : TileSt) : (setTile s t v).egress = s.egress := rfl
@[simp] theorem setTile_txns (s : State) (t : Nat) (v : TileSt) : (setTile s t v).txns = s.txns := rfl
@[simp] theorem setTile_mem (s : State) (t : Nat) (v : TileSt) : (setTile s t v).mem = s.mem := rfl
@[simp] theorem setTile_pool (s : State) (t : Nat) (v : TileSt) : (setTile s t v).pool = s.pool := rfl
@[simp] theorem setTile_coh (s : State) (t : Nat) (v : TileSt) : (setTile s t v).coh = s.coh := rfl
@[simp] theorem setTile_lit (s : State) (t : Nat) (v : TileSt) : (setTile s t v).lit = s.lit := rfl
@[simp] theorem setTile_insts (s : State) (t : Nat) (v : TileSt) : (setTile s t v).insts = s.insts := rfl
@[simp] theorem setTile_qos (s : State) (t : Nat) (v : TileSt) : (setTile s t v).qos = s.qos := rfl
@[simp] theorem setTile_tele (s : State) (t : Nat) (v : TileSt) : (setTile s t v).tele = s.tele := rfl
@[simp] theorem setTile_gecko (s : State) (t : Nat) (v : TileSt) : (setTile s t v).gecko = s.gecko := rfl
@[simp] theorem setTile_pwr (s : State) (t : Nat) (v : TileSt) : (setTile s t v).pwr = s.pwr := rfl
@[simp] theorem setTile_slots (s : State) (t : Nat) (v : TileSt) : (setTile s t v).slots = s.slots := rfl
@[simp] theorem setTile_sec (s : State) (t : Nat) (v : TileSt) : (setTile s t v).sec = s.sec := rfl
@[simp] theorem setTile_out (s : State) (t : Nat) (v : TileSt) : (setTile s t v).out = s.out := rfl
@[simp] theorem setTile_free (s : State) (t : Nat) (v : TileSt) : (setTile s t v).free = s.free := rfl

/-! The fields after `setLink`. -/

@[simp] theorem setLink_pending (s : State) (l : Nat) (v : LinkSt) : (setLink s l v).pending = s.pending := rfl
@[simp] theorem setLink_obj (s : State) (l : Nat) (v : LinkSt) : (setLink s l v).obj = s.obj := rfl
@[simp] theorem setLink_blob (s : State) (l : Nat) (v : LinkSt) : (setLink s l v).blob = s.blob := rfl
@[simp] theorem setLink_tbl (s : State) (l : Nat) (v : LinkSt) : (setLink s l v).tbl = s.tbl := rfl
@[simp] theorem setLink_chg (s : State) (l : Nat) (v : LinkSt) : (setLink s l v).chg = s.chg := rfl
@[simp] theorem setLink_clock (s : State) (l : Nat) (v : LinkSt) : (setLink s l v).clock = s.clock := rfl
@[simp] theorem setLink_mgmt (s : State) (l : Nat) (v : LinkSt) : (setLink s l v).mgmt = s.mgmt := rfl
@[simp] theorem setLink_flt (s : State) (l : Nat) (v : LinkSt) : (setLink s l v).flt = s.flt := rfl
@[simp] theorem setLink_mode (s : State) (l : Nat) (v : LinkSt) : (setLink s l v).mode = s.mode := rfl
@[simp] theorem setLink_lanes (s : State) (l : Nat) (v : LinkSt) : (setLink s l v).lanes = s.lanes := rfl
@[simp] theorem setLink_groups (s : State) (l : Nat) (v : LinkSt) : (setLink s l v).groups = s.groups := rfl
@[simp] theorem setLink_ports (s : State) (l : Nat) (v : LinkSt) : (setLink s l v).ports = s.ports := rfl
@[simp] theorem setLink_fns (s : State) (l : Nat) (v : LinkSt) : (setLink s l v).fns = s.fns := rfl
@[simp] theorem setLink_bridges (s : State) (l : Nat) (v : LinkSt) : (setLink s l v).bridges = s.bridges := rfl
@[simp] theorem setLink_ppb (s : State) (l : Nat) (v : LinkSt) : (setLink s l v).ppb = s.ppb := rfl
@[simp] theorem setLink_tiles (s : State) (l : Nat) (v : LinkSt) : (setLink s l v).tiles = s.tiles := rfl
@[simp] theorem setLink_links (s : State) (l : Nat) (v : LinkSt) : (setLink s l v).links = put s.links l v := rfl
@[simp] theorem setLink_egress (s : State) (l : Nat) (v : LinkSt) : (setLink s l v).egress = s.egress := rfl
@[simp] theorem setLink_txns (s : State) (l : Nat) (v : LinkSt) : (setLink s l v).txns = s.txns := rfl
@[simp] theorem setLink_mem (s : State) (l : Nat) (v : LinkSt) : (setLink s l v).mem = s.mem := rfl
@[simp] theorem setLink_pool (s : State) (l : Nat) (v : LinkSt) : (setLink s l v).pool = s.pool := rfl
@[simp] theorem setLink_coh (s : State) (l : Nat) (v : LinkSt) : (setLink s l v).coh = s.coh := rfl
@[simp] theorem setLink_lit (s : State) (l : Nat) (v : LinkSt) : (setLink s l v).lit = s.lit := rfl
@[simp] theorem setLink_insts (s : State) (l : Nat) (v : LinkSt) : (setLink s l v).insts = s.insts := rfl
@[simp] theorem setLink_qos (s : State) (l : Nat) (v : LinkSt) : (setLink s l v).qos = s.qos := rfl
@[simp] theorem setLink_tele (s : State) (l : Nat) (v : LinkSt) : (setLink s l v).tele = s.tele := rfl
@[simp] theorem setLink_gecko (s : State) (l : Nat) (v : LinkSt) : (setLink s l v).gecko = s.gecko := rfl
@[simp] theorem setLink_pwr (s : State) (l : Nat) (v : LinkSt) : (setLink s l v).pwr = s.pwr := rfl
@[simp] theorem setLink_slots (s : State) (l : Nat) (v : LinkSt) : (setLink s l v).slots = s.slots := rfl
@[simp] theorem setLink_sec (s : State) (l : Nat) (v : LinkSt) : (setLink s l v).sec = s.sec := rfl
@[simp] theorem setLink_out (s : State) (l : Nat) (v : LinkSt) : (setLink s l v).out = s.out := rfl
@[simp] theorem setLink_free (s : State) (l : Nat) (v : LinkSt) : (setLink s l v).free = s.free := rfl

/-! The fields after `setLine`. -/

@[simp] theorem setLine_pending (s : State) (k : Nat) (v : Line) : (setLine s k v).pending = s.pending := rfl
@[simp] theorem setLine_obj (s : State) (k : Nat) (v : Line) : (setLine s k v).obj = s.obj := rfl
@[simp] theorem setLine_blob (s : State) (k : Nat) (v : Line) : (setLine s k v).blob = s.blob := rfl
@[simp] theorem setLine_tbl (s : State) (k : Nat) (v : Line) : (setLine s k v).tbl = s.tbl := rfl
@[simp] theorem setLine_chg (s : State) (k : Nat) (v : Line) : (setLine s k v).chg = s.chg := rfl
@[simp] theorem setLine_clock (s : State) (k : Nat) (v : Line) : (setLine s k v).clock = s.clock := rfl
@[simp] theorem setLine_mgmt (s : State) (k : Nat) (v : Line) : (setLine s k v).mgmt = s.mgmt := rfl
@[simp] theorem setLine_flt (s : State) (k : Nat) (v : Line) : (setLine s k v).flt = s.flt := rfl
@[simp] theorem setLine_mode (s : State) (k : Nat) (v : Line) : (setLine s k v).mode = s.mode := rfl
@[simp] theorem setLine_lanes (s : State) (k : Nat) (v : Line) : (setLine s k v).lanes = s.lanes := rfl
@[simp] theorem setLine_groups (s : State) (k : Nat) (v : Line) : (setLine s k v).groups = s.groups := rfl
@[simp] theorem setLine_ports (s : State) (k : Nat) (v : Line) : (setLine s k v).ports = s.ports := rfl
@[simp] theorem setLine_fns (s : State) (k : Nat) (v : Line) : (setLine s k v).fns = s.fns := rfl
@[simp] theorem setLine_bridges (s : State) (k : Nat) (v : Line) : (setLine s k v).bridges = s.bridges := rfl
@[simp] theorem setLine_ppb (s : State) (k : Nat) (v : Line) : (setLine s k v).ppb = s.ppb := rfl
@[simp] theorem setLine_tiles (s : State) (k : Nat) (v : Line) : (setLine s k v).tiles = s.tiles := rfl
@[simp] theorem setLine_links (s : State) (k : Nat) (v : Line) : (setLine s k v).links = s.links := rfl
@[simp] theorem setLine_egress (s : State) (k : Nat) (v : Line) : (setLine s k v).egress = s.egress := rfl
@[simp] theorem setLine_txns (s : State) (k : Nat) (v : Line) : (setLine s k v).txns = s.txns := rfl
@[simp] theorem setLine_mem (s : State) (k : Nat) (v : Line) : (setLine s k v).mem = s.mem := rfl
@[simp] theorem setLine_pool (s : State) (k : Nat) (v : Line) : (setLine s k v).pool = s.pool := rfl
@[simp] theorem setLine_coh (s : State) (k : Nat) (v : Line) : (setLine s k v).coh = { s.coh with lines := put s.coh.lines k v } := rfl
@[simp] theorem setLine_lit (s : State) (k : Nat) (v : Line) : (setLine s k v).lit = s.lit := rfl
@[simp] theorem setLine_insts (s : State) (k : Nat) (v : Line) : (setLine s k v).insts = s.insts := rfl
@[simp] theorem setLine_qos (s : State) (k : Nat) (v : Line) : (setLine s k v).qos = s.qos := rfl
@[simp] theorem setLine_tele (s : State) (k : Nat) (v : Line) : (setLine s k v).tele = s.tele := rfl
@[simp] theorem setLine_gecko (s : State) (k : Nat) (v : Line) : (setLine s k v).gecko = s.gecko := rfl
@[simp] theorem setLine_pwr (s : State) (k : Nat) (v : Line) : (setLine s k v).pwr = s.pwr := rfl
@[simp] theorem setLine_slots (s : State) (k : Nat) (v : Line) : (setLine s k v).slots = s.slots := rfl
@[simp] theorem setLine_sec (s : State) (k : Nat) (v : Line) : (setLine s k v).sec = s.sec := rfl
@[simp] theorem setLine_out (s : State) (k : Nat) (v : Line) : (setLine s k v).out = s.out := rfl
@[simp] theorem setLine_free (s : State) (k : Nat) (v : Line) : (setLine s k v).free = s.free := rfl

/-! The fields after `setTgt`. -/

@[simp] theorem setTgt_pending (s : State) (t : Nat) (v : Target) : (setTgt s t v).pending = s.pending := rfl
@[simp] theorem setTgt_obj (s : State) (t : Nat) (v : Target) : (setTgt s t v).obj = s.obj := rfl
@[simp] theorem setTgt_blob (s : State) (t : Nat) (v : Target) : (setTgt s t v).blob = s.blob := rfl
@[simp] theorem setTgt_tbl (s : State) (t : Nat) (v : Target) : (setTgt s t v).tbl = s.tbl := rfl
@[simp] theorem setTgt_chg (s : State) (t : Nat) (v : Target) : (setTgt s t v).chg = s.chg := rfl
@[simp] theorem setTgt_clock (s : State) (t : Nat) (v : Target) : (setTgt s t v).clock = s.clock := rfl
@[simp] theorem setTgt_mgmt (s : State) (t : Nat) (v : Target) : (setTgt s t v).mgmt = s.mgmt := rfl
@[simp] theorem setTgt_flt (s : State) (t : Nat) (v : Target) : (setTgt s t v).flt = s.flt := rfl
@[simp] theorem setTgt_mode (s : State) (t : Nat) (v : Target) : (setTgt s t v).mode = s.mode := rfl
@[simp] theorem setTgt_lanes (s : State) (t : Nat) (v : Target) : (setTgt s t v).lanes = s.lanes := rfl
@[simp] theorem setTgt_groups (s : State) (t : Nat) (v : Target) : (setTgt s t v).groups = s.groups := rfl
@[simp] theorem setTgt_ports (s : State) (t : Nat) (v : Target) : (setTgt s t v).ports = s.ports := rfl
@[simp] theorem setTgt_fns (s : State) (t : Nat) (v : Target) : (setTgt s t v).fns = s.fns := rfl
@[simp] theorem setTgt_bridges (s : State) (t : Nat) (v : Target) : (setTgt s t v).bridges = s.bridges := rfl
@[simp] theorem setTgt_ppb (s : State) (t : Nat) (v : Target) : (setTgt s t v).ppb = s.ppb := rfl
@[simp] theorem setTgt_tiles (s : State) (t : Nat) (v : Target) : (setTgt s t v).tiles = s.tiles := rfl
@[simp] theorem setTgt_links (s : State) (t : Nat) (v : Target) : (setTgt s t v).links = s.links := rfl
@[simp] theorem setTgt_egress (s : State) (t : Nat) (v : Target) : (setTgt s t v).egress = s.egress := rfl
@[simp] theorem setTgt_txns (s : State) (t : Nat) (v : Target) : (setTgt s t v).txns = s.txns := rfl
@[simp] theorem setTgt_mem (s : State) (t : Nat) (v : Target) : (setTgt s t v).mem = s.mem := rfl
@[simp] theorem setTgt_pool (s : State) (t : Nat) (v : Target) : (setTgt s t v).pool = { s.pool with targets := put s.pool.targets t v } := rfl
@[simp] theorem setTgt_coh (s : State) (t : Nat) (v : Target) : (setTgt s t v).coh = s.coh := rfl
@[simp] theorem setTgt_lit (s : State) (t : Nat) (v : Target) : (setTgt s t v).lit = s.lit := rfl
@[simp] theorem setTgt_insts (s : State) (t : Nat) (v : Target) : (setTgt s t v).insts = s.insts := rfl
@[simp] theorem setTgt_qos (s : State) (t : Nat) (v : Target) : (setTgt s t v).qos = s.qos := rfl
@[simp] theorem setTgt_tele (s : State) (t : Nat) (v : Target) : (setTgt s t v).tele = s.tele := rfl
@[simp] theorem setTgt_gecko (s : State) (t : Nat) (v : Target) : (setTgt s t v).gecko = s.gecko := rfl
@[simp] theorem setTgt_pwr (s : State) (t : Nat) (v : Target) : (setTgt s t v).pwr = s.pwr := rfl
@[simp] theorem setTgt_slots (s : State) (t : Nat) (v : Target) : (setTgt s t v).slots = s.slots := rfl
@[simp] theorem setTgt_sec (s : State) (t : Nat) (v : Target) : (setTgt s t v).sec = s.sec := rfl
@[simp] theorem setTgt_out (s : State) (t : Nat) (v : Target) : (setTgt s t v).out = s.out := rfl
@[simp] theorem setTgt_free (s : State) (t : Nat) (v : Target) : (setTgt s t v).free = s.free := rfl

/-! The fields after `setExt`. -/

@[simp] theorem setExt_pending (s : State) (e : Nat) (v : Extent) : (setExt s e v).pending = s.pending := rfl
@[simp] theorem setExt_obj (s : State) (e : Nat) (v : Extent) : (setExt s e v).obj = s.obj := rfl
@[simp] theorem setExt_blob (s : State) (e : Nat) (v : Extent) : (setExt s e v).blob = s.blob := rfl
@[simp] theorem setExt_tbl (s : State) (e : Nat) (v : Extent) : (setExt s e v).tbl = s.tbl := rfl
@[simp] theorem setExt_chg (s : State) (e : Nat) (v : Extent) : (setExt s e v).chg = s.chg := rfl
@[simp] theorem setExt_clock (s : State) (e : Nat) (v : Extent) : (setExt s e v).clock = s.clock := rfl
@[simp] theorem setExt_mgmt (s : State) (e : Nat) (v : Extent) : (setExt s e v).mgmt = s.mgmt := rfl
@[simp] theorem setExt_flt (s : State) (e : Nat) (v : Extent) : (setExt s e v).flt = s.flt := rfl
@[simp] theorem setExt_mode (s : State) (e : Nat) (v : Extent) : (setExt s e v).mode = s.mode := rfl
@[simp] theorem setExt_lanes (s : State) (e : Nat) (v : Extent) : (setExt s e v).lanes = s.lanes := rfl
@[simp] theorem setExt_groups (s : State) (e : Nat) (v : Extent) : (setExt s e v).groups = s.groups := rfl
@[simp] theorem setExt_ports (s : State) (e : Nat) (v : Extent) : (setExt s e v).ports = s.ports := rfl
@[simp] theorem setExt_fns (s : State) (e : Nat) (v : Extent) : (setExt s e v).fns = s.fns := rfl
@[simp] theorem setExt_bridges (s : State) (e : Nat) (v : Extent) : (setExt s e v).bridges = s.bridges := rfl
@[simp] theorem setExt_ppb (s : State) (e : Nat) (v : Extent) : (setExt s e v).ppb = s.ppb := rfl
@[simp] theorem setExt_tiles (s : State) (e : Nat) (v : Extent) : (setExt s e v).tiles = s.tiles := rfl
@[simp] theorem setExt_links (s : State) (e : Nat) (v : Extent) : (setExt s e v).links = s.links := rfl
@[simp] theorem setExt_egress (s : State) (e : Nat) (v : Extent) : (setExt s e v).egress = s.egress := rfl
@[simp] theorem setExt_txns (s : State) (e : Nat) (v : Extent) : (setExt s e v).txns = s.txns := rfl
@[simp] theorem setExt_mem (s : State) (e : Nat) (v : Extent) : (setExt s e v).mem = s.mem := rfl
@[simp] theorem setExt_pool (s : State) (e : Nat) (v : Extent) : (setExt s e v).pool = { s.pool with extents := put s.pool.extents e v } := rfl
@[simp] theorem setExt_coh (s : State) (e : Nat) (v : Extent) : (setExt s e v).coh = s.coh := rfl
@[simp] theorem setExt_lit (s : State) (e : Nat) (v : Extent) : (setExt s e v).lit = s.lit := rfl
@[simp] theorem setExt_insts (s : State) (e : Nat) (v : Extent) : (setExt s e v).insts = s.insts := rfl
@[simp] theorem setExt_qos (s : State) (e : Nat) (v : Extent) : (setExt s e v).qos = s.qos := rfl
@[simp] theorem setExt_tele (s : State) (e : Nat) (v : Extent) : (setExt s e v).tele = s.tele := rfl
@[simp] theorem setExt_gecko (s : State) (e : Nat) (v : Extent) : (setExt s e v).gecko = s.gecko := rfl
@[simp] theorem setExt_pwr (s : State) (e : Nat) (v : Extent) : (setExt s e v).pwr = s.pwr := rfl
@[simp] theorem setExt_slots (s : State) (e : Nat) (v : Extent) : (setExt s e v).slots = s.slots := rfl
@[simp] theorem setExt_sec (s : State) (e : Nat) (v : Extent) : (setExt s e v).sec = s.sec := rfl
@[simp] theorem setExt_out (s : State) (e : Nat) (v : Extent) : (setExt s e v).out = s.out := rfl
@[simp] theorem setExt_free (s : State) (e : Nat) (v : Extent) : (setExt s e v).free = s.free := rfl

/-! The fields after `setColour`. -/

@[simp] theorem setColour_pending (s : State) (g : Nat) (c : Nat) : (setColour s g c).pending = s.pending := rfl
@[simp] theorem setColour_obj (s : State) (g : Nat) (c : Nat) : (setColour s g c).obj = s.obj := rfl
@[simp] theorem setColour_blob (s : State) (g : Nat) (c : Nat) : (setColour s g c).blob = s.blob := rfl
@[simp] theorem setColour_tbl (s : State) (g : Nat) (c : Nat) : (setColour s g c).tbl = s.tbl := rfl
@[simp] theorem setColour_chg (s : State) (g : Nat) (c : Nat) : (setColour s g c).chg = s.chg := rfl
@[simp] theorem setColour_clock (s : State) (g : Nat) (c : Nat) : (setColour s g c).clock = s.clock := rfl
@[simp] theorem setColour_mgmt (s : State) (g : Nat) (c : Nat) : (setColour s g c).mgmt = s.mgmt := rfl
@[simp] theorem setColour_flt (s : State) (g : Nat) (c : Nat) : (setColour s g c).flt = s.flt := rfl
@[simp] theorem setColour_mode (s : State) (g : Nat) (c : Nat) : (setColour s g c).mode = s.mode := rfl
@[simp] theorem setColour_lanes (s : State) (g : Nat) (c : Nat) : (setColour s g c).lanes = s.lanes := rfl
@[simp] theorem setColour_groups (s : State) (g : Nat) (c : Nat) : (setColour s g c).groups = s.groups := rfl
@[simp] theorem setColour_ports (s : State) (g : Nat) (c : Nat) : (setColour s g c).ports = s.ports := rfl
@[simp] theorem setColour_fns (s : State) (g : Nat) (c : Nat) : (setColour s g c).fns = s.fns := rfl
@[simp] theorem setColour_bridges (s : State) (g : Nat) (c : Nat) : (setColour s g c).bridges = s.bridges := rfl
@[simp] theorem setColour_ppb (s : State) (g : Nat) (c : Nat) : (setColour s g c).ppb = s.ppb := rfl
@[simp] theorem setColour_tiles (s : State) (g : Nat) (c : Nat) : (setColour s g c).tiles = s.tiles := rfl
@[simp] theorem setColour_links (s : State) (g : Nat) (c : Nat) : (setColour s g c).links = s.links := rfl
@[simp] theorem setColour_egress (s : State) (g : Nat) (c : Nat) : (setColour s g c).egress = s.egress := rfl
@[simp] theorem setColour_txns (s : State) (g : Nat) (c : Nat) : (setColour s g c).txns = s.txns := rfl
@[simp] theorem setColour_mem (s : State) (g : Nat) (c : Nat) : (setColour s g c).mem = s.mem := rfl
@[simp] theorem setColour_pool (s : State) (g : Nat) (c : Nat) : (setColour s g c).pool = { s.pool with colours := if c = 0 then del s.pool.colours g else put s.pool.colours g c } := rfl
@[simp] theorem setColour_coh (s : State) (g : Nat) (c : Nat) : (setColour s g c).coh = s.coh := rfl
@[simp] theorem setColour_lit (s : State) (g : Nat) (c : Nat) : (setColour s g c).lit = s.lit := rfl
@[simp] theorem setColour_insts (s : State) (g : Nat) (c : Nat) : (setColour s g c).insts = s.insts := rfl
@[simp] theorem setColour_qos (s : State) (g : Nat) (c : Nat) : (setColour s g c).qos = s.qos := rfl
@[simp] theorem setColour_tele (s : State) (g : Nat) (c : Nat) : (setColour s g c).tele = s.tele := rfl
@[simp] theorem setColour_gecko (s : State) (g : Nat) (c : Nat) : (setColour s g c).gecko = s.gecko := rfl
@[simp] theorem setColour_pwr (s : State) (g : Nat) (c : Nat) : (setColour s g c).pwr = s.pwr := rfl
@[simp] theorem setColour_slots (s : State) (g : Nat) (c : Nat) : (setColour s g c).slots = s.slots := rfl
@[simp] theorem setColour_sec (s : State) (g : Nat) (c : Nat) : (setColour s g c).sec = s.sec := rfl
@[simp] theorem setColour_out (s : State) (g : Nat) (c : Nat) : (setColour s g c).out = s.out := rfl
@[simp] theorem setColour_free (s : State) (g : Nat) (c : Nat) : (setColour s g c).free = s.free := rfl

/-! The fields after `setMeter`. -/

@[simp] theorem setMeter_pending (s : State) (i : Nat) (m : Nat) (b : Bucket) : (setMeter s i m b).pending = s.pending := rfl
@[simp] theorem setMeter_obj (s : State) (i : Nat) (m : Nat) (b : Bucket) : (setMeter s i m b).obj = s.obj := rfl
@[simp] theorem setMeter_blob (s : State) (i : Nat) (m : Nat) (b : Bucket) : (setMeter s i m b).blob = s.blob := rfl
@[simp] theorem setMeter_tbl (s : State) (i : Nat) (m : Nat) (b : Bucket) : (setMeter s i m b).tbl = s.tbl := rfl
@[simp] theorem setMeter_chg (s : State) (i : Nat) (m : Nat) (b : Bucket) : (setMeter s i m b).chg = s.chg := rfl
@[simp] theorem setMeter_clock (s : State) (i : Nat) (m : Nat) (b : Bucket) : (setMeter s i m b).clock = s.clock := rfl
@[simp] theorem setMeter_mgmt (s : State) (i : Nat) (m : Nat) (b : Bucket) : (setMeter s i m b).mgmt = s.mgmt := rfl
@[simp] theorem setMeter_flt (s : State) (i : Nat) (m : Nat) (b : Bucket) : (setMeter s i m b).flt = s.flt := rfl
@[simp] theorem setMeter_mode (s : State) (i : Nat) (m : Nat) (b : Bucket) : (setMeter s i m b).mode = s.mode := rfl
@[simp] theorem setMeter_lanes (s : State) (i : Nat) (m : Nat) (b : Bucket) : (setMeter s i m b).lanes = s.lanes := rfl
@[simp] theorem setMeter_groups (s : State) (i : Nat) (m : Nat) (b : Bucket) : (setMeter s i m b).groups = s.groups := rfl
@[simp] theorem setMeter_ports (s : State) (i : Nat) (m : Nat) (b : Bucket) : (setMeter s i m b).ports = s.ports := rfl
@[simp] theorem setMeter_fns (s : State) (i : Nat) (m : Nat) (b : Bucket) : (setMeter s i m b).fns = s.fns := rfl
@[simp] theorem setMeter_bridges (s : State) (i : Nat) (m : Nat) (b : Bucket) : (setMeter s i m b).bridges = s.bridges := rfl
@[simp] theorem setMeter_ppb (s : State) (i : Nat) (m : Nat) (b : Bucket) : (setMeter s i m b).ppb = s.ppb := rfl
@[simp] theorem setMeter_tiles (s : State) (i : Nat) (m : Nat) (b : Bucket) : (setMeter s i m b).tiles = s.tiles := rfl
@[simp] theorem setMeter_links (s : State) (i : Nat) (m : Nat) (b : Bucket) : (setMeter s i m b).links = s.links := rfl
@[simp] theorem setMeter_egress (s : State) (i : Nat) (m : Nat) (b : Bucket) : (setMeter s i m b).egress = s.egress := rfl
@[simp] theorem setMeter_txns (s : State) (i : Nat) (m : Nat) (b : Bucket) : (setMeter s i m b).txns = s.txns := rfl
@[simp] theorem setMeter_mem (s : State) (i : Nat) (m : Nat) (b : Bucket) : (setMeter s i m b).mem = s.mem := rfl
@[simp] theorem setMeter_pool (s : State) (i : Nat) (m : Nat) (b : Bucket) : (setMeter s i m b).pool = s.pool := rfl
@[simp] theorem setMeter_coh (s : State) (i : Nat) (m : Nat) (b : Bucket) : (setMeter s i m b).coh = s.coh := rfl
@[simp] theorem setMeter_lit (s : State) (i : Nat) (m : Nat) (b : Bucket) : (setMeter s i m b).lit = s.lit := rfl
@[simp] theorem setMeter_insts (s : State) (i : Nat) (m : Nat) (b : Bucket) : (setMeter s i m b).insts = s.insts := rfl
@[simp] theorem setMeter_qos (s : State) (i : Nat) (m : Nat) (b : Bucket) : (setMeter s i m b).qos = { s.qos with meters := put s.qos.meters (4 * i + m) b } := rfl
@[simp] theorem setMeter_tele (s : State) (i : Nat) (m : Nat) (b : Bucket) : (setMeter s i m b).tele = s.tele := rfl
@[simp] theorem setMeter_gecko (s : State) (i : Nat) (m : Nat) (b : Bucket) : (setMeter s i m b).gecko = s.gecko := rfl
@[simp] theorem setMeter_pwr (s : State) (i : Nat) (m : Nat) (b : Bucket) : (setMeter s i m b).pwr = s.pwr := rfl
@[simp] theorem setMeter_slots (s : State) (i : Nat) (m : Nat) (b : Bucket) : (setMeter s i m b).slots = s.slots := rfl
@[simp] theorem setMeter_sec (s : State) (i : Nat) (m : Nat) (b : Bucket) : (setMeter s i m b).sec = s.sec := rfl
@[simp] theorem setMeter_out (s : State) (i : Nat) (m : Nat) (b : Bucket) : (setMeter s i m b).out = s.out := rfl
@[simp] theorem setMeter_free (s : State) (i : Nat) (m : Nat) (b : Bucket) : (setMeter s i m b).free = s.free := rfl

/-! The fields after `setShaper`. -/

@[simp] theorem setShaper_pending (s : State) (q : Nat) (b : Bucket) : (setShaper s q b).pending = s.pending := rfl
@[simp] theorem setShaper_obj (s : State) (q : Nat) (b : Bucket) : (setShaper s q b).obj = s.obj := rfl
@[simp] theorem setShaper_blob (s : State) (q : Nat) (b : Bucket) : (setShaper s q b).blob = s.blob := rfl
@[simp] theorem setShaper_tbl (s : State) (q : Nat) (b : Bucket) : (setShaper s q b).tbl = s.tbl := rfl
@[simp] theorem setShaper_chg (s : State) (q : Nat) (b : Bucket) : (setShaper s q b).chg = s.chg := rfl
@[simp] theorem setShaper_clock (s : State) (q : Nat) (b : Bucket) : (setShaper s q b).clock = s.clock := rfl
@[simp] theorem setShaper_mgmt (s : State) (q : Nat) (b : Bucket) : (setShaper s q b).mgmt = s.mgmt := rfl
@[simp] theorem setShaper_flt (s : State) (q : Nat) (b : Bucket) : (setShaper s q b).flt = s.flt := rfl
@[simp] theorem setShaper_mode (s : State) (q : Nat) (b : Bucket) : (setShaper s q b).mode = s.mode := rfl
@[simp] theorem setShaper_lanes (s : State) (q : Nat) (b : Bucket) : (setShaper s q b).lanes = s.lanes := rfl
@[simp] theorem setShaper_groups (s : State) (q : Nat) (b : Bucket) : (setShaper s q b).groups = s.groups := rfl
@[simp] theorem setShaper_ports (s : State) (q : Nat) (b : Bucket) : (setShaper s q b).ports = s.ports := rfl
@[simp] theorem setShaper_fns (s : State) (q : Nat) (b : Bucket) : (setShaper s q b).fns = s.fns := rfl
@[simp] theorem setShaper_bridges (s : State) (q : Nat) (b : Bucket) : (setShaper s q b).bridges = s.bridges := rfl
@[simp] theorem setShaper_ppb (s : State) (q : Nat) (b : Bucket) : (setShaper s q b).ppb = s.ppb := rfl
@[simp] theorem setShaper_tiles (s : State) (q : Nat) (b : Bucket) : (setShaper s q b).tiles = s.tiles := rfl
@[simp] theorem setShaper_links (s : State) (q : Nat) (b : Bucket) : (setShaper s q b).links = s.links := rfl
@[simp] theorem setShaper_egress (s : State) (q : Nat) (b : Bucket) : (setShaper s q b).egress = s.egress := rfl
@[simp] theorem setShaper_txns (s : State) (q : Nat) (b : Bucket) : (setShaper s q b).txns = s.txns := rfl
@[simp] theorem setShaper_mem (s : State) (q : Nat) (b : Bucket) : (setShaper s q b).mem = s.mem := rfl
@[simp] theorem setShaper_pool (s : State) (q : Nat) (b : Bucket) : (setShaper s q b).pool = s.pool := rfl
@[simp] theorem setShaper_coh (s : State) (q : Nat) (b : Bucket) : (setShaper s q b).coh = s.coh := rfl
@[simp] theorem setShaper_lit (s : State) (q : Nat) (b : Bucket) : (setShaper s q b).lit = s.lit := rfl
@[simp] theorem setShaper_insts (s : State) (q : Nat) (b : Bucket) : (setShaper s q b).insts = s.insts := rfl
@[simp] theorem setShaper_qos (s : State) (q : Nat) (b : Bucket) : (setShaper s q b).qos = { s.qos with shapers := put s.qos.shapers q b } := rfl
@[simp] theorem setShaper_tele (s : State) (q : Nat) (b : Bucket) : (setShaper s q b).tele = s.tele := rfl
@[simp] theorem setShaper_gecko (s : State) (q : Nat) (b : Bucket) : (setShaper s q b).gecko = s.gecko := rfl
@[simp] theorem setShaper_pwr (s : State) (q : Nat) (b : Bucket) : (setShaper s q b).pwr = s.pwr := rfl
@[simp] theorem setShaper_slots (s : State) (q : Nat) (b : Bucket) : (setShaper s q b).slots = s.slots := rfl
@[simp] theorem setShaper_sec (s : State) (q : Nat) (b : Bucket) : (setShaper s q b).sec = s.sec := rfl
@[simp] theorem setShaper_out (s : State) (q : Nat) (b : Bucket) : (setShaper s q b).out = s.out := rfl
@[simp] theorem setShaper_free (s : State) (q : Nat) (b : Bucket) : (setShaper s q b).free = s.free := rfl

/-! The fields after `setEgress`. -/

@[simp] theorem setEgress_pending (s : State) (q : Nat) (l : List EgMsg) : (setEgress s q l).pending = s.pending := rfl
@[simp] theorem setEgress_obj (s : State) (q : Nat) (l : List EgMsg) : (setEgress s q l).obj = s.obj := rfl
@[simp] theorem setEgress_blob (s : State) (q : Nat) (l : List EgMsg) : (setEgress s q l).blob = s.blob := rfl
@[simp] theorem setEgress_tbl (s : State) (q : Nat) (l : List EgMsg) : (setEgress s q l).tbl = s.tbl := rfl
@[simp] theorem setEgress_chg (s : State) (q : Nat) (l : List EgMsg) : (setEgress s q l).chg = s.chg := rfl
@[simp] theorem setEgress_clock (s : State) (q : Nat) (l : List EgMsg) : (setEgress s q l).clock = s.clock := rfl
@[simp] theorem setEgress_mgmt (s : State) (q : Nat) (l : List EgMsg) : (setEgress s q l).mgmt = s.mgmt := rfl
@[simp] theorem setEgress_flt (s : State) (q : Nat) (l : List EgMsg) : (setEgress s q l).flt = s.flt := rfl
@[simp] theorem setEgress_mode (s : State) (q : Nat) (l : List EgMsg) : (setEgress s q l).mode = s.mode := rfl
@[simp] theorem setEgress_lanes (s : State) (q : Nat) (l : List EgMsg) : (setEgress s q l).lanes = s.lanes := rfl
@[simp] theorem setEgress_groups (s : State) (q : Nat) (l : List EgMsg) : (setEgress s q l).groups = s.groups := rfl
@[simp] theorem setEgress_ports (s : State) (q : Nat) (l : List EgMsg) : (setEgress s q l).ports = s.ports := rfl
@[simp] theorem setEgress_fns (s : State) (q : Nat) (l : List EgMsg) : (setEgress s q l).fns = s.fns := rfl
@[simp] theorem setEgress_bridges (s : State) (q : Nat) (l : List EgMsg) : (setEgress s q l).bridges = s.bridges := rfl
@[simp] theorem setEgress_ppb (s : State) (q : Nat) (l : List EgMsg) : (setEgress s q l).ppb = s.ppb := rfl
@[simp] theorem setEgress_tiles (s : State) (q : Nat) (l : List EgMsg) : (setEgress s q l).tiles = s.tiles := rfl
@[simp] theorem setEgress_links (s : State) (q : Nat) (l : List EgMsg) : (setEgress s q l).links = s.links := rfl
@[simp] theorem setEgress_egress (s : State) (q : Nat) (l : List EgMsg) : (setEgress s q l).egress = put s.egress q l := rfl
@[simp] theorem setEgress_txns (s : State) (q : Nat) (l : List EgMsg) : (setEgress s q l).txns = s.txns := rfl
@[simp] theorem setEgress_mem (s : State) (q : Nat) (l : List EgMsg) : (setEgress s q l).mem = s.mem := rfl
@[simp] theorem setEgress_pool (s : State) (q : Nat) (l : List EgMsg) : (setEgress s q l).pool = s.pool := rfl
@[simp] theorem setEgress_coh (s : State) (q : Nat) (l : List EgMsg) : (setEgress s q l).coh = s.coh := rfl
@[simp] theorem setEgress_lit (s : State) (q : Nat) (l : List EgMsg) : (setEgress s q l).lit = s.lit := rfl
@[simp] theorem setEgress_insts (s : State) (q : Nat) (l : List EgMsg) : (setEgress s q l).insts = s.insts := rfl
@[simp] theorem setEgress_qos (s : State) (q : Nat) (l : List EgMsg) : (setEgress s q l).qos = s.qos := rfl
@[simp] theorem setEgress_tele (s : State) (q : Nat) (l : List EgMsg) : (setEgress s q l).tele = s.tele := rfl
@[simp] theorem setEgress_gecko (s : State) (q : Nat) (l : List EgMsg) : (setEgress s q l).gecko = s.gecko := rfl
@[simp] theorem setEgress_pwr (s : State) (q : Nat) (l : List EgMsg) : (setEgress s q l).pwr = s.pwr := rfl
@[simp] theorem setEgress_slots (s : State) (q : Nat) (l : List EgMsg) : (setEgress s q l).slots = s.slots := rfl
@[simp] theorem setEgress_sec (s : State) (q : Nat) (l : List EgMsg) : (setEgress s q l).sec = s.sec := rfl
@[simp] theorem setEgress_out (s : State) (q : Nat) (l : List EgMsg) : (setEgress s q l).out = s.out := rfl
@[simp] theorem setEgress_free (s : State) (q : Nat) (l : List EgMsg) : (setEgress s q l).free = s.free := rfl

/-! The fields after `setDef`. -/

@[simp] theorem setDef_pending (s : State) (q : Nat) (c : Nat) (v : Nat) : (setDef s q c v).pending = s.pending := rfl
@[simp] theorem setDef_obj (s : State) (q : Nat) (c : Nat) (v : Nat) : (setDef s q c v).obj = s.obj := rfl
@[simp] theorem setDef_blob (s : State) (q : Nat) (c : Nat) (v : Nat) : (setDef s q c v).blob = s.blob := rfl
@[simp] theorem setDef_tbl (s : State) (q : Nat) (c : Nat) (v : Nat) : (setDef s q c v).tbl = s.tbl := rfl
@[simp] theorem setDef_chg (s : State) (q : Nat) (c : Nat) (v : Nat) : (setDef s q c v).chg = s.chg := rfl
@[simp] theorem setDef_clock (s : State) (q : Nat) (c : Nat) (v : Nat) : (setDef s q c v).clock = s.clock := rfl
@[simp] theorem setDef_mgmt (s : State) (q : Nat) (c : Nat) (v : Nat) : (setDef s q c v).mgmt = s.mgmt := rfl
@[simp] theorem setDef_flt (s : State) (q : Nat) (c : Nat) (v : Nat) : (setDef s q c v).flt = s.flt := rfl
@[simp] theorem setDef_mode (s : State) (q : Nat) (c : Nat) (v : Nat) : (setDef s q c v).mode = s.mode := rfl
@[simp] theorem setDef_lanes (s : State) (q : Nat) (c : Nat) (v : Nat) : (setDef s q c v).lanes = s.lanes := rfl
@[simp] theorem setDef_groups (s : State) (q : Nat) (c : Nat) (v : Nat) : (setDef s q c v).groups = s.groups := rfl
@[simp] theorem setDef_ports (s : State) (q : Nat) (c : Nat) (v : Nat) : (setDef s q c v).ports = s.ports := rfl
@[simp] theorem setDef_fns (s : State) (q : Nat) (c : Nat) (v : Nat) : (setDef s q c v).fns = s.fns := rfl
@[simp] theorem setDef_bridges (s : State) (q : Nat) (c : Nat) (v : Nat) : (setDef s q c v).bridges = s.bridges := rfl
@[simp] theorem setDef_ppb (s : State) (q : Nat) (c : Nat) (v : Nat) : (setDef s q c v).ppb = s.ppb := rfl
@[simp] theorem setDef_tiles (s : State) (q : Nat) (c : Nat) (v : Nat) : (setDef s q c v).tiles = s.tiles := rfl
@[simp] theorem setDef_links (s : State) (q : Nat) (c : Nat) (v : Nat) : (setDef s q c v).links = s.links := rfl
@[simp] theorem setDef_egress (s : State) (q : Nat) (c : Nat) (v : Nat) : (setDef s q c v).egress = s.egress := rfl
@[simp] theorem setDef_txns (s : State) (q : Nat) (c : Nat) (v : Nat) : (setDef s q c v).txns = s.txns := rfl
@[simp] theorem setDef_mem (s : State) (q : Nat) (c : Nat) (v : Nat) : (setDef s q c v).mem = s.mem := rfl
@[simp] theorem setDef_pool (s : State) (q : Nat) (c : Nat) (v : Nat) : (setDef s q c v).pool = s.pool := rfl
@[simp] theorem setDef_coh (s : State) (q : Nat) (c : Nat) (v : Nat) : (setDef s q c v).coh = s.coh := rfl
@[simp] theorem setDef_lit (s : State) (q : Nat) (c : Nat) (v : Nat) : (setDef s q c v).lit = s.lit := rfl
@[simp] theorem setDef_insts (s : State) (q : Nat) (c : Nat) (v : Nat) : (setDef s q c v).insts = s.insts := rfl
@[simp] theorem setDef_qos (s : State) (q : Nat) (c : Nat) (v : Nat) : (setDef s q c v).qos = { s.qos with deficit := put s.qos.deficit (32 * q + c) v } := rfl
@[simp] theorem setDef_tele (s : State) (q : Nat) (c : Nat) (v : Nat) : (setDef s q c v).tele = s.tele := rfl
@[simp] theorem setDef_gecko (s : State) (q : Nat) (c : Nat) (v : Nat) : (setDef s q c v).gecko = s.gecko := rfl
@[simp] theorem setDef_pwr (s : State) (q : Nat) (c : Nat) (v : Nat) : (setDef s q c v).pwr = s.pwr := rfl
@[simp] theorem setDef_slots (s : State) (q : Nat) (c : Nat) (v : Nat) : (setDef s q c v).slots = s.slots := rfl
@[simp] theorem setDef_sec (s : State) (q : Nat) (c : Nat) (v : Nat) : (setDef s q c v).sec = s.sec := rfl
@[simp] theorem setDef_out (s : State) (q : Nat) (c : Nat) (v : Nat) : (setDef s q c v).out = s.out := rfl
@[simp] theorem setDef_free (s : State) (q : Nat) (c : Nat) (v : Nat) : (setDef s q c v).free = s.free := rfl

/-! The fields after `setCtx`. -/

@[simp] theorem setCtx_pending (s : State) (c : Nat) (v : Ctx) : (setCtx s c v).pending = s.pending := rfl
@[simp] theorem setCtx_obj (s : State) (c : Nat) (v : Ctx) : (setCtx s c v).obj = s.obj := rfl
@[simp] theorem setCtx_blob (s : State) (c : Nat) (v : Ctx) : (setCtx s c v).blob = s.blob := rfl
@[simp] theorem setCtx_tbl (s : State) (c : Nat) (v : Ctx) : (setCtx s c v).tbl = s.tbl := rfl
@[simp] theorem setCtx_chg (s : State) (c : Nat) (v : Ctx) : (setCtx s c v).chg = s.chg := rfl
@[simp] theorem setCtx_clock (s : State) (c : Nat) (v : Ctx) : (setCtx s c v).clock = s.clock := rfl
@[simp] theorem setCtx_mgmt (s : State) (c : Nat) (v : Ctx) : (setCtx s c v).mgmt = s.mgmt := rfl
@[simp] theorem setCtx_flt (s : State) (c : Nat) (v : Ctx) : (setCtx s c v).flt = s.flt := rfl
@[simp] theorem setCtx_mode (s : State) (c : Nat) (v : Ctx) : (setCtx s c v).mode = s.mode := rfl
@[simp] theorem setCtx_lanes (s : State) (c : Nat) (v : Ctx) : (setCtx s c v).lanes = s.lanes := rfl
@[simp] theorem setCtx_groups (s : State) (c : Nat) (v : Ctx) : (setCtx s c v).groups = s.groups := rfl
@[simp] theorem setCtx_ports (s : State) (c : Nat) (v : Ctx) : (setCtx s c v).ports = s.ports := rfl
@[simp] theorem setCtx_fns (s : State) (c : Nat) (v : Ctx) : (setCtx s c v).fns = s.fns := rfl
@[simp] theorem setCtx_bridges (s : State) (c : Nat) (v : Ctx) : (setCtx s c v).bridges = s.bridges := rfl
@[simp] theorem setCtx_ppb (s : State) (c : Nat) (v : Ctx) : (setCtx s c v).ppb = s.ppb := rfl
@[simp] theorem setCtx_tiles (s : State) (c : Nat) (v : Ctx) : (setCtx s c v).tiles = s.tiles := rfl
@[simp] theorem setCtx_links (s : State) (c : Nat) (v : Ctx) : (setCtx s c v).links = s.links := rfl
@[simp] theorem setCtx_egress (s : State) (c : Nat) (v : Ctx) : (setCtx s c v).egress = s.egress := rfl
@[simp] theorem setCtx_txns (s : State) (c : Nat) (v : Ctx) : (setCtx s c v).txns = s.txns := rfl
@[simp] theorem setCtx_mem (s : State) (c : Nat) (v : Ctx) : (setCtx s c v).mem = s.mem := rfl
@[simp] theorem setCtx_pool (s : State) (c : Nat) (v : Ctx) : (setCtx s c v).pool = s.pool := rfl
@[simp] theorem setCtx_coh (s : State) (c : Nat) (v : Ctx) : (setCtx s c v).coh = s.coh := rfl
@[simp] theorem setCtx_lit (s : State) (c : Nat) (v : Ctx) : (setCtx s c v).lit = s.lit := rfl
@[simp] theorem setCtx_insts (s : State) (c : Nat) (v : Ctx) : (setCtx s c v).insts = s.insts := rfl
@[simp] theorem setCtx_qos (s : State) (c : Nat) (v : Ctx) : (setCtx s c v).qos = s.qos := rfl
@[simp] theorem setCtx_tele (s : State) (c : Nat) (v : Ctx) : (setCtx s c v).tele = s.tele := rfl
@[simp] theorem setCtx_gecko (s : State) (c : Nat) (v : Ctx) : (setCtx s c v).gecko = { s.gecko with ctxs := put s.gecko.ctxs c v } := rfl
@[simp] theorem setCtx_pwr (s : State) (c : Nat) (v : Ctx) : (setCtx s c v).pwr = s.pwr := rfl
@[simp] theorem setCtx_slots (s : State) (c : Nat) (v : Ctx) : (setCtx s c v).slots = s.slots := rfl
@[simp] theorem setCtx_sec (s : State) (c : Nat) (v : Ctx) : (setCtx s c v).sec = s.sec := rfl
@[simp] theorem setCtx_out (s : State) (c : Nat) (v : Ctx) : (setCtx s c v).out = s.out := rfl
@[simp] theorem setCtx_free (s : State) (c : Nat) (v : Ctx) : (setCtx s c v).free = s.free := rfl

/-! The fields after `setInst`. -/

@[simp] theorem setInst_pending (s : State) (i : Nat) (v : InstSt) : (setInst s i v).pending = s.pending := rfl
@[simp] theorem setInst_obj (s : State) (i : Nat) (v : InstSt) : (setInst s i v).obj = s.obj := rfl
@[simp] theorem setInst_blob (s : State) (i : Nat) (v : InstSt) : (setInst s i v).blob = s.blob := rfl
@[simp] theorem setInst_tbl (s : State) (i : Nat) (v : InstSt) : (setInst s i v).tbl = s.tbl := rfl
@[simp] theorem setInst_chg (s : State) (i : Nat) (v : InstSt) : (setInst s i v).chg = s.chg := rfl
@[simp] theorem setInst_clock (s : State) (i : Nat) (v : InstSt) : (setInst s i v).clock = s.clock := rfl
@[simp] theorem setInst_mgmt (s : State) (i : Nat) (v : InstSt) : (setInst s i v).mgmt = s.mgmt := rfl
@[simp] theorem setInst_flt (s : State) (i : Nat) (v : InstSt) : (setInst s i v).flt = s.flt := rfl
@[simp] theorem setInst_mode (s : State) (i : Nat) (v : InstSt) : (setInst s i v).mode = s.mode := rfl
@[simp] theorem setInst_lanes (s : State) (i : Nat) (v : InstSt) : (setInst s i v).lanes = s.lanes := rfl
@[simp] theorem setInst_groups (s : State) (i : Nat) (v : InstSt) : (setInst s i v).groups = s.groups := rfl
@[simp] theorem setInst_ports (s : State) (i : Nat) (v : InstSt) : (setInst s i v).ports = s.ports := rfl
@[simp] theorem setInst_fns (s : State) (i : Nat) (v : InstSt) : (setInst s i v).fns = s.fns := rfl
@[simp] theorem setInst_bridges (s : State) (i : Nat) (v : InstSt) : (setInst s i v).bridges = s.bridges := rfl
@[simp] theorem setInst_ppb (s : State) (i : Nat) (v : InstSt) : (setInst s i v).ppb = s.ppb := rfl
@[simp] theorem setInst_tiles (s : State) (i : Nat) (v : InstSt) : (setInst s i v).tiles = s.tiles := rfl
@[simp] theorem setInst_links (s : State) (i : Nat) (v : InstSt) : (setInst s i v).links = s.links := rfl
@[simp] theorem setInst_egress (s : State) (i : Nat) (v : InstSt) : (setInst s i v).egress = s.egress := rfl
@[simp] theorem setInst_txns (s : State) (i : Nat) (v : InstSt) : (setInst s i v).txns = s.txns := rfl
@[simp] theorem setInst_mem (s : State) (i : Nat) (v : InstSt) : (setInst s i v).mem = s.mem := rfl
@[simp] theorem setInst_pool (s : State) (i : Nat) (v : InstSt) : (setInst s i v).pool = s.pool := rfl
@[simp] theorem setInst_coh (s : State) (i : Nat) (v : InstSt) : (setInst s i v).coh = s.coh := rfl
@[simp] theorem setInst_lit (s : State) (i : Nat) (v : InstSt) : (setInst s i v).lit = s.lit := rfl
@[simp] theorem setInst_insts (s : State) (i : Nat) (v : InstSt) : (setInst s i v).insts = put s.insts i v := rfl
@[simp] theorem setInst_qos (s : State) (i : Nat) (v : InstSt) : (setInst s i v).qos = s.qos := rfl
@[simp] theorem setInst_tele (s : State) (i : Nat) (v : InstSt) : (setInst s i v).tele = s.tele := rfl
@[simp] theorem setInst_gecko (s : State) (i : Nat) (v : InstSt) : (setInst s i v).gecko = s.gecko := rfl
@[simp] theorem setInst_pwr (s : State) (i : Nat) (v : InstSt) : (setInst s i v).pwr = s.pwr := rfl
@[simp] theorem setInst_slots (s : State) (i : Nat) (v : InstSt) : (setInst s i v).slots = s.slots := rfl
@[simp] theorem setInst_sec (s : State) (i : Nat) (v : InstSt) : (setInst s i v).sec = s.sec := rfl
@[simp] theorem setInst_out (s : State) (i : Nat) (v : InstSt) : (setInst s i v).out = s.out := rfl
@[simp] theorem setInst_free (s : State) (i : Nat) (v : InstSt) : (setInst s i v).free = s.free := rfl

/-! The fields after `setSpdm`. -/

@[simp] theorem setSpdm_pending (s : State) (p : Nat) (v : SpdmSt) : (setSpdm s p v).pending = s.pending := rfl
@[simp] theorem setSpdm_obj (s : State) (p : Nat) (v : SpdmSt) : (setSpdm s p v).obj = s.obj := rfl
@[simp] theorem setSpdm_blob (s : State) (p : Nat) (v : SpdmSt) : (setSpdm s p v).blob = s.blob := rfl
@[simp] theorem setSpdm_tbl (s : State) (p : Nat) (v : SpdmSt) : (setSpdm s p v).tbl = s.tbl := rfl
@[simp] theorem setSpdm_chg (s : State) (p : Nat) (v : SpdmSt) : (setSpdm s p v).chg = s.chg := rfl
@[simp] theorem setSpdm_clock (s : State) (p : Nat) (v : SpdmSt) : (setSpdm s p v).clock = s.clock := rfl
@[simp] theorem setSpdm_mgmt (s : State) (p : Nat) (v : SpdmSt) : (setSpdm s p v).mgmt = s.mgmt := rfl
@[simp] theorem setSpdm_flt (s : State) (p : Nat) (v : SpdmSt) : (setSpdm s p v).flt = s.flt := rfl
@[simp] theorem setSpdm_mode (s : State) (p : Nat) (v : SpdmSt) : (setSpdm s p v).mode = s.mode := rfl
@[simp] theorem setSpdm_lanes (s : State) (p : Nat) (v : SpdmSt) : (setSpdm s p v).lanes = s.lanes := rfl
@[simp] theorem setSpdm_groups (s : State) (p : Nat) (v : SpdmSt) : (setSpdm s p v).groups = s.groups := rfl
@[simp] theorem setSpdm_ports (s : State) (p : Nat) (v : SpdmSt) : (setSpdm s p v).ports = s.ports := rfl
@[simp] theorem setSpdm_fns (s : State) (p : Nat) (v : SpdmSt) : (setSpdm s p v).fns = s.fns := rfl
@[simp] theorem setSpdm_bridges (s : State) (p : Nat) (v : SpdmSt) : (setSpdm s p v).bridges = s.bridges := rfl
@[simp] theorem setSpdm_ppb (s : State) (p : Nat) (v : SpdmSt) : (setSpdm s p v).ppb = s.ppb := rfl
@[simp] theorem setSpdm_tiles (s : State) (p : Nat) (v : SpdmSt) : (setSpdm s p v).tiles = s.tiles := rfl
@[simp] theorem setSpdm_links (s : State) (p : Nat) (v : SpdmSt) : (setSpdm s p v).links = s.links := rfl
@[simp] theorem setSpdm_egress (s : State) (p : Nat) (v : SpdmSt) : (setSpdm s p v).egress = s.egress := rfl
@[simp] theorem setSpdm_txns (s : State) (p : Nat) (v : SpdmSt) : (setSpdm s p v).txns = s.txns := rfl
@[simp] theorem setSpdm_mem (s : State) (p : Nat) (v : SpdmSt) : (setSpdm s p v).mem = s.mem := rfl
@[simp] theorem setSpdm_pool (s : State) (p : Nat) (v : SpdmSt) : (setSpdm s p v).pool = s.pool := rfl
@[simp] theorem setSpdm_coh (s : State) (p : Nat) (v : SpdmSt) : (setSpdm s p v).coh = s.coh := rfl
@[simp] theorem setSpdm_lit (s : State) (p : Nat) (v : SpdmSt) : (setSpdm s p v).lit = s.lit := rfl
@[simp] theorem setSpdm_insts (s : State) (p : Nat) (v : SpdmSt) : (setSpdm s p v).insts = s.insts := rfl
@[simp] theorem setSpdm_qos (s : State) (p : Nat) (v : SpdmSt) : (setSpdm s p v).qos = s.qos := rfl
@[simp] theorem setSpdm_tele (s : State) (p : Nat) (v : SpdmSt) : (setSpdm s p v).tele = s.tele := rfl
@[simp] theorem setSpdm_gecko (s : State) (p : Nat) (v : SpdmSt) : (setSpdm s p v).gecko = s.gecko := rfl
@[simp] theorem setSpdm_pwr (s : State) (p : Nat) (v : SpdmSt) : (setSpdm s p v).pwr = s.pwr := rfl
@[simp] theorem setSpdm_slots (s : State) (p : Nat) (v : SpdmSt) : (setSpdm s p v).slots = s.slots := rfl
@[simp] theorem setSpdm_sec (s : State) (p : Nat) (v : SpdmSt) : (setSpdm s p v).sec = { s.sec with spdm := put s.sec.spdm p v } := rfl
@[simp] theorem setSpdm_out (s : State) (p : Nat) (v : SpdmSt) : (setSpdm s p v).out = s.out := rfl
@[simp] theorem setSpdm_free (s : State) (p : Nat) (v : SpdmSt) : (setSpdm s p v).free = s.free := rfl

/-! The fields after `setFwSlot`. -/

@[simp] theorem setFwSlot_pending (s : State) (n : Nat) (v : FwSlot) : (setFwSlot s n v).pending = s.pending := rfl
@[simp] theorem setFwSlot_obj (s : State) (n : Nat) (v : FwSlot) : (setFwSlot s n v).obj = s.obj := rfl
@[simp] theorem setFwSlot_blob (s : State) (n : Nat) (v : FwSlot) : (setFwSlot s n v).blob = s.blob := rfl
@[simp] theorem setFwSlot_tbl (s : State) (n : Nat) (v : FwSlot) : (setFwSlot s n v).tbl = s.tbl := rfl
@[simp] theorem setFwSlot_chg (s : State) (n : Nat) (v : FwSlot) : (setFwSlot s n v).chg = s.chg := rfl
@[simp] theorem setFwSlot_clock (s : State) (n : Nat) (v : FwSlot) : (setFwSlot s n v).clock = s.clock := rfl
@[simp] theorem setFwSlot_mgmt (s : State) (n : Nat) (v : FwSlot) : (setFwSlot s n v).mgmt = s.mgmt := rfl
@[simp] theorem setFwSlot_flt (s : State) (n : Nat) (v : FwSlot) : (setFwSlot s n v).flt = s.flt := rfl
@[simp] theorem setFwSlot_mode (s : State) (n : Nat) (v : FwSlot) : (setFwSlot s n v).mode = s.mode := rfl
@[simp] theorem setFwSlot_lanes (s : State) (n : Nat) (v : FwSlot) : (setFwSlot s n v).lanes = s.lanes := rfl
@[simp] theorem setFwSlot_groups (s : State) (n : Nat) (v : FwSlot) : (setFwSlot s n v).groups = s.groups := rfl
@[simp] theorem setFwSlot_ports (s : State) (n : Nat) (v : FwSlot) : (setFwSlot s n v).ports = s.ports := rfl
@[simp] theorem setFwSlot_fns (s : State) (n : Nat) (v : FwSlot) : (setFwSlot s n v).fns = s.fns := rfl
@[simp] theorem setFwSlot_bridges (s : State) (n : Nat) (v : FwSlot) : (setFwSlot s n v).bridges = s.bridges := rfl
@[simp] theorem setFwSlot_ppb (s : State) (n : Nat) (v : FwSlot) : (setFwSlot s n v).ppb = s.ppb := rfl
@[simp] theorem setFwSlot_tiles (s : State) (n : Nat) (v : FwSlot) : (setFwSlot s n v).tiles = s.tiles := rfl
@[simp] theorem setFwSlot_links (s : State) (n : Nat) (v : FwSlot) : (setFwSlot s n v).links = s.links := rfl
@[simp] theorem setFwSlot_egress (s : State) (n : Nat) (v : FwSlot) : (setFwSlot s n v).egress = s.egress := rfl
@[simp] theorem setFwSlot_txns (s : State) (n : Nat) (v : FwSlot) : (setFwSlot s n v).txns = s.txns := rfl
@[simp] theorem setFwSlot_mem (s : State) (n : Nat) (v : FwSlot) : (setFwSlot s n v).mem = s.mem := rfl
@[simp] theorem setFwSlot_pool (s : State) (n : Nat) (v : FwSlot) : (setFwSlot s n v).pool = s.pool := rfl
@[simp] theorem setFwSlot_coh (s : State) (n : Nat) (v : FwSlot) : (setFwSlot s n v).coh = s.coh := rfl
@[simp] theorem setFwSlot_lit (s : State) (n : Nat) (v : FwSlot) : (setFwSlot s n v).lit = s.lit := rfl
@[simp] theorem setFwSlot_insts (s : State) (n : Nat) (v : FwSlot) : (setFwSlot s n v).insts = s.insts := rfl
@[simp] theorem setFwSlot_qos (s : State) (n : Nat) (v : FwSlot) : (setFwSlot s n v).qos = s.qos := rfl
@[simp] theorem setFwSlot_tele (s : State) (n : Nat) (v : FwSlot) : (setFwSlot s n v).tele = s.tele := rfl
@[simp] theorem setFwSlot_gecko (s : State) (n : Nat) (v : FwSlot) : (setFwSlot s n v).gecko = s.gecko := rfl
@[simp] theorem setFwSlot_pwr (s : State) (n : Nat) (v : FwSlot) : (setFwSlot s n v).pwr = s.pwr := rfl
@[simp] theorem setFwSlot_slots (s : State) (n : Nat) (v : FwSlot) : (setFwSlot s n v).slots = s.slots := rfl
@[simp] theorem setFwSlot_sec (s : State) (n : Nat) (v : FwSlot) : (setFwSlot s n v).sec = if n = 0 then { s.sec with fwA := v } else { s.sec with fwB := v } := rfl
@[simp] theorem setFwSlot_out (s : State) (n : Nat) (v : FwSlot) : (setFwSlot s n v).out = s.out := rfl
@[simp] theorem setFwSlot_free (s : State) (n : Nat) (v : FwSlot) : (setFwSlot s n v).free = s.free := rfl

/-! The fields after `setDom`. -/

@[simp] theorem setDom_pending (s : State) (d : Nat) (v : DomSt) : (setDom s d v).pending = s.pending := rfl
@[simp] theorem setDom_obj (s : State) (d : Nat) (v : DomSt) : (setDom s d v).obj = s.obj := rfl
@[simp] theorem setDom_blob (s : State) (d : Nat) (v : DomSt) : (setDom s d v).blob = s.blob := rfl
@[simp] theorem setDom_tbl (s : State) (d : Nat) (v : DomSt) : (setDom s d v).tbl = s.tbl := rfl
@[simp] theorem setDom_chg (s : State) (d : Nat) (v : DomSt) : (setDom s d v).chg = s.chg := rfl
@[simp] theorem setDom_clock (s : State) (d : Nat) (v : DomSt) : (setDom s d v).clock = s.clock := rfl
@[simp] theorem setDom_mgmt (s : State) (d : Nat) (v : DomSt) : (setDom s d v).mgmt = s.mgmt := rfl
@[simp] theorem setDom_flt (s : State) (d : Nat) (v : DomSt) : (setDom s d v).flt = s.flt := rfl
@[simp] theorem setDom_mode (s : State) (d : Nat) (v : DomSt) : (setDom s d v).mode = s.mode := rfl
@[simp] theorem setDom_lanes (s : State) (d : Nat) (v : DomSt) : (setDom s d v).lanes = s.lanes := rfl
@[simp] theorem setDom_groups (s : State) (d : Nat) (v : DomSt) : (setDom s d v).groups = s.groups := rfl
@[simp] theorem setDom_ports (s : State) (d : Nat) (v : DomSt) : (setDom s d v).ports = s.ports := rfl
@[simp] theorem setDom_fns (s : State) (d : Nat) (v : DomSt) : (setDom s d v).fns = s.fns := rfl
@[simp] theorem setDom_bridges (s : State) (d : Nat) (v : DomSt) : (setDom s d v).bridges = s.bridges := rfl
@[simp] theorem setDom_ppb (s : State) (d : Nat) (v : DomSt) : (setDom s d v).ppb = s.ppb := rfl
@[simp] theorem setDom_tiles (s : State) (d : Nat) (v : DomSt) : (setDom s d v).tiles = s.tiles := rfl
@[simp] theorem setDom_links (s : State) (d : Nat) (v : DomSt) : (setDom s d v).links = s.links := rfl
@[simp] theorem setDom_egress (s : State) (d : Nat) (v : DomSt) : (setDom s d v).egress = s.egress := rfl
@[simp] theorem setDom_txns (s : State) (d : Nat) (v : DomSt) : (setDom s d v).txns = s.txns := rfl
@[simp] theorem setDom_mem (s : State) (d : Nat) (v : DomSt) : (setDom s d v).mem = s.mem := rfl
@[simp] theorem setDom_pool (s : State) (d : Nat) (v : DomSt) : (setDom s d v).pool = s.pool := rfl
@[simp] theorem setDom_coh (s : State) (d : Nat) (v : DomSt) : (setDom s d v).coh = s.coh := rfl
@[simp] theorem setDom_lit (s : State) (d : Nat) (v : DomSt) : (setDom s d v).lit = s.lit := rfl
@[simp] theorem setDom_insts (s : State) (d : Nat) (v : DomSt) : (setDom s d v).insts = s.insts := rfl
@[simp] theorem setDom_qos (s : State) (d : Nat) (v : DomSt) : (setDom s d v).qos = s.qos := rfl
@[simp] theorem setDom_tele (s : State) (d : Nat) (v : DomSt) : (setDom s d v).tele = s.tele := rfl
@[simp] theorem setDom_gecko (s : State) (d : Nat) (v : DomSt) : (setDom s d v).gecko = s.gecko := rfl
@[simp] theorem setDom_pwr (s : State) (d : Nat) (v : DomSt) : (setDom s d v).pwr = { s.pwr with doms := put s.pwr.doms d v } := rfl
@[simp] theorem setDom_slots (s : State) (d : Nat) (v : DomSt) : (setDom s d v).slots = s.slots := rfl
@[simp] theorem setDom_sec (s : State) (d : Nat) (v : DomSt) : (setDom s d v).sec = s.sec := rfl
@[simp] theorem setDom_out (s : State) (d : Nat) (v : DomSt) : (setDom s d v).out = s.out := rfl
@[simp] theorem setDom_free (s : State) (d : Nat) (v : DomSt) : (setDom s d v).free = s.free := rfl

/-! The fields after `setRail`. -/

@[simp] theorem setRail_pending (s : State) (r : Nat) (v : RailSt) : (setRail s r v).pending = s.pending := rfl
@[simp] theorem setRail_obj (s : State) (r : Nat) (v : RailSt) : (setRail s r v).obj = s.obj := rfl
@[simp] theorem setRail_blob (s : State) (r : Nat) (v : RailSt) : (setRail s r v).blob = s.blob := rfl
@[simp] theorem setRail_tbl (s : State) (r : Nat) (v : RailSt) : (setRail s r v).tbl = s.tbl := rfl
@[simp] theorem setRail_chg (s : State) (r : Nat) (v : RailSt) : (setRail s r v).chg = s.chg := rfl
@[simp] theorem setRail_clock (s : State) (r : Nat) (v : RailSt) : (setRail s r v).clock = s.clock := rfl
@[simp] theorem setRail_mgmt (s : State) (r : Nat) (v : RailSt) : (setRail s r v).mgmt = s.mgmt := rfl
@[simp] theorem setRail_flt (s : State) (r : Nat) (v : RailSt) : (setRail s r v).flt = s.flt := rfl
@[simp] theorem setRail_mode (s : State) (r : Nat) (v : RailSt) : (setRail s r v).mode = s.mode := rfl
@[simp] theorem setRail_lanes (s : State) (r : Nat) (v : RailSt) : (setRail s r v).lanes = s.lanes := rfl
@[simp] theorem setRail_groups (s : State) (r : Nat) (v : RailSt) : (setRail s r v).groups = s.groups := rfl
@[simp] theorem setRail_ports (s : State) (r : Nat) (v : RailSt) : (setRail s r v).ports = s.ports := rfl
@[simp] theorem setRail_fns (s : State) (r : Nat) (v : RailSt) : (setRail s r v).fns = s.fns := rfl
@[simp] theorem setRail_bridges (s : State) (r : Nat) (v : RailSt) : (setRail s r v).bridges = s.bridges := rfl
@[simp] theorem setRail_ppb (s : State) (r : Nat) (v : RailSt) : (setRail s r v).ppb = s.ppb := rfl
@[simp] theorem setRail_tiles (s : State) (r : Nat) (v : RailSt) : (setRail s r v).tiles = s.tiles := rfl
@[simp] theorem setRail_links (s : State) (r : Nat) (v : RailSt) : (setRail s r v).links = s.links := rfl
@[simp] theorem setRail_egress (s : State) (r : Nat) (v : RailSt) : (setRail s r v).egress = s.egress := rfl
@[simp] theorem setRail_txns (s : State) (r : Nat) (v : RailSt) : (setRail s r v).txns = s.txns := rfl
@[simp] theorem setRail_mem (s : State) (r : Nat) (v : RailSt) : (setRail s r v).mem = s.mem := rfl
@[simp] theorem setRail_pool (s : State) (r : Nat) (v : RailSt) : (setRail s r v).pool = s.pool := rfl
@[simp] theorem setRail_coh (s : State) (r : Nat) (v : RailSt) : (setRail s r v).coh = s.coh := rfl
@[simp] theorem setRail_lit (s : State) (r : Nat) (v : RailSt) : (setRail s r v).lit = s.lit := rfl
@[simp] theorem setRail_insts (s : State) (r : Nat) (v : RailSt) : (setRail s r v).insts = s.insts := rfl
@[simp] theorem setRail_qos (s : State) (r : Nat) (v : RailSt) : (setRail s r v).qos = s.qos := rfl
@[simp] theorem setRail_tele (s : State) (r : Nat) (v : RailSt) : (setRail s r v).tele = s.tele := rfl
@[simp] theorem setRail_gecko (s : State) (r : Nat) (v : RailSt) : (setRail s r v).gecko = s.gecko := rfl
@[simp] theorem setRail_pwr (s : State) (r : Nat) (v : RailSt) : (setRail s r v).pwr = { s.pwr with rails := put s.pwr.rails r v } := rfl
@[simp] theorem setRail_slots (s : State) (r : Nat) (v : RailSt) : (setRail s r v).slots = s.slots := rfl
@[simp] theorem setRail_sec (s : State) (r : Nat) (v : RailSt) : (setRail s r v).sec = s.sec := rfl
@[simp] theorem setRail_out (s : State) (r : Nat) (v : RailSt) : (setRail s r v).out = s.out := rfl
@[simp] theorem setRail_free (s : State) (r : Nat) (v : RailSt) : (setRail s r v).free = s.free := rfl

end Sys2Proof.Machine
end

