-- ==== Sys2Proof/Laws/Log.lean ====
section
/-!
SUPPORT. The fault machinery leaves every unit alone: causes, records, notices and interrupts change only the fault blocks, the record
tables, the outputs and the table of skews.
-/
namespace Sys2Proof.Machine

open Sys2Proof

/-- Only the fault machinery's own parts, the management's skews and the outputs differ. -/
structure LogOnly (s t : State) : Prop where
  pending : t.pending = s.pending
  obj : t.obj = s.obj
  blob : t.blob = s.blob
  chg : t.chg = s.chg
  clock : t.clock = s.clock
  mode : t.mode = s.mode
  lanes : t.lanes = s.lanes
  groups : t.groups = s.groups
  ports : t.ports = s.ports
  fns : t.fns = s.fns
  bridges : t.bridges = s.bridges
  ppb : t.ppb = s.ppb
  tiles : t.tiles = s.tiles
  links : t.links = s.links
  egress : t.egress = s.egress
  txns : t.txns = s.txns
  mem : t.mem = s.mem
  pool : t.pool = s.pool
  coh : t.coh = s.coh
  lit : t.lit = s.lit
  insts : t.insts = s.insts
  qos : t.qos = s.qos
  tele : t.tele = s.tele
  gecko : t.gecko = s.gecko
  pwr : t.pwr = s.pwr
  slots : t.slots = s.slots
  sec : t.sec = s.sec
  free : t.free = s.free

theorem LogOnly.refl (s : State) : LogOnly s s := by constructor <;> rfl

theorem LogOnly.trans {s t u : State} (h : LogOnly s t) (k : LogOnly t u) : LogOnly s u :=
  { pending := k.pending.trans h.pending
    obj := k.obj.trans h.obj
    blob := k.blob.trans h.blob
    chg := k.chg.trans h.chg
    clock := k.clock.trans h.clock
    mode := k.mode.trans h.mode
    lanes := k.lanes.trans h.lanes
    groups := k.groups.trans h.groups
    ports := k.ports.trans h.ports
    fns := k.fns.trans h.fns
    bridges := k.bridges.trans h.bridges
    ppb := k.ppb.trans h.ppb
    tiles := k.tiles.trans h.tiles
    links := k.links.trans h.links
    egress := k.egress.trans h.egress
    txns := k.txns.trans h.txns
    mem := k.mem.trans h.mem
    pool := k.pool.trans h.pool
    coh := k.coh.trans h.coh
    lit := k.lit.trans h.lit
    insts := k.insts.trans h.insts
    qos := k.qos.trans h.qos
    tele := k.tele.trans h.tele
    gecko := k.gecko.trans h.gecko
    pwr := k.pwr.trans h.pwr
    slots := k.slots.trans h.slots
    sec := k.sec.trans h.sec
    free := k.free.trans h.free }

theorem LogOnly.ite {a x y : State} {c : Prop} [Decidable c] (h : LogOnly a x) (k : LogOnly a y) : LogOnly a (if c then x else y) := by
  split
  · exact h
  · exact k

theorem LogOnly.foldl {α : Type} {a s : State} {f : State → α → State} (l : List α) (hf : ∀ x e, LogOnly a x → LogOnly a (f x e))
    (h : LogOnly a s) : LogOnly a (l.foldl f s) := by
  induction l generalizing s with
  | nil => exact h
  | cons e t ih => exact ih (hf s e h)

theorem emit_log (s : State) (o : Out) : LogOnly s (emit s o) := by constructor <;> rfl

theorem setSource_log (s : State) (src : Nat) (v : Source) : LogOnly s (setSource s src v) := by constructor <;> rfl

theorem countLost_log (s : State) (v : Severity) : LogOnly s (countLost s v) := by constructor <;> rfl

theorem setFlt_log (s : State) (x : FaultSt) : LogOnly s { s with flt := x } := by constructor <;> rfl

theorem ringPush_log (s : State) (r : Rec) : LogOnly s (ringPush s r) := by
  unfold ringPush
  split
  · exact setFlt_log _ _
  · split
    · exact setFlt_log _ _
    · split
      · exact (setFlt_log _ _).trans (countLost_log _ _)
      · exact (setFlt_log _ _).trans (countLost_log _ _)

theorem sendNotices_log (s : State) (r : Rec) : LogOnly s (sendNotices s r) := by constructor <;> rfl

theorem record_log (s : State) (v : Severity) (e src : Nat) (ps : List Nat) : LogOnly s (record s v e src ps) :=
  ((setFlt_log _ _).trans (ringPush_log _ _)).trans (sendNotices_log _ _)

theorem sourceMsix_log (s : State) (src : Nat) (v : Severity) : LogOnly s (sourceMsix s src v) := by
  unfold sourceMsix
  split
  · exact LogOnly.refl _
  · split
    · exact LogOnly.refl _
    · split
      · exact emit_log _ _
      · split
        · exact LogOnly.refl _
        · exact setFlt_log _ _

theorem report_log (s : State) (src c : Nat) (v : Severity) (ps : List Nat) : LogOnly s (report s src c v ps) :=
  LogOnly.ite ((record_log _ _ _ _ _).trans (sourceMsix_log _ _ _)) (sourceMsix_log _ _ _)

theorem latchCause_log (s : State) (src c : Nat) (v : Severity) (ps : List Nat) : LogOnly s (latchCause s src c v ps) :=
  (setSource_log _ _ _).trans (report_log _ _ _ _ _)

theorem raiseEv_log (s : State) (src c : Nat) (v : Severity) (p0 : Nat) (ps : List Nat) (b : Bool) :
    LogOnly s (raiseEv s src c v p0 ps b) := by
  unfold raiseEv
  split
  · exact LogOnly.refl _
  · refine LogOnly.ite (LogOnly.ite (record_log _ _ _ _ _) (LogOnly.refl _)) ?_
    split
    · exact latchCause_log _ _ _ _ _
    · exact LogOnly.ite (LogOnly.ite ((setSource_log _ _ _).trans (record_log _ _ _ _ _)) (setSource_log _ _ _))
        ((setSource_log _ _ _).trans (report_log _ _ _ _ _))

theorem raise_log (s : State) (src c : Nat) (v : Severity) (ps : List Nat) : LogOnly s (raise s src c v ps) := raiseEv_log _ _ _ _ _ _ _

theorem unlatchLevel_log (s : State) (src c w : Nat) : LogOnly s (unlatchLevel s src c w) := by
  unfold unlatchLevel
  exact LogOnly.ite (LogOnly.ite ((setSource_log _ _ _).trans (record_log _ _ _ _ _)) (setSource_log _ _ _)) (LogOnly.refl _)

theorem endLevel_log (s : State) (src c : Nat) : LogOnly s (endLevel s src c) := unlatchLevel_log _ _ _ _

theorem clearCause_log (s : State) (src c : Nat) : LogOnly s (clearCause s src c) := by
  unfold clearCause
  exact LogOnly.ite (LogOnly.refl _)
    (LogOnly.ite (LogOnly.ite ((setSource_log _ _ _).trans (record_log _ _ _ _ _)) (setSource_log _ _ _)) (LogOnly.refl _))

theorem clearMaskOf_log (s : State) (src mask : Nat) : LogOnly s (clearMaskOf s src mask) := by
  unfold clearMaskOf
  exact LogOnly.foldl _ (fun x e h => LogOnly.ite (h.trans (clearCause_log _ _ _)) h) (LogOnly.refl _)

theorem clearSame_log (s : State) (src mask : Nat) (o : Option CauseOcc) : LogOnly s (clearSame s src mask o) := by
  unfold clearSame
  cases o with
  | none => exact clearMaskOf_log _ _ _
  | some e => exact (clearMaskOf_log _ _ _).trans (raise_log _ _ _ _ _)

theorem clearAllSources_log (s : State) : LogOnly s (clearAllSources s) := by
  unfold clearAllSources
  exact LogOnly.foldl _ (fun x e h => h.trans (clearMaskOf_log _ _ _)) (LogOnly.refl _)

theorem holdSource_log (s : State) (src : Nat) : LogOnly s (holdSource s src) := by
  unfold holdSource
  dsimp only
  split
  · exact LogOnly.refl _
  · exact (LogOnly.foldl _ (fun x e h => h.trans (unlatchLevel_log _ _ _ _)) (LogOnly.refl _)).trans (setSource_log _ _ _)

theorem freeSource_log (s : State) (src : Nat) : LogOnly s (freeSource s src) := setSource_log _ _ _

theorem holdTileSources_log (s : State) (t : Nat) : LogOnly s (holdTileSources s t) := by
  unfold holdTileSources
  exact LogOnly.foldl _ (fun x e h => h.trans (holdSource_log _ _)) (LogOnly.refl _)

theorem freeSources_log (s : State) (l : List Nat) : LogOnly s (freeSources s l) := by
  unfold freeSources
  exact LogOnly.foldl _ (fun x e h => h.trans (freeSource_log _ _)) (LogOnly.refl _)

theorem commitRec_log (s : State) (r : Rec) : LogOnly s (commitRec s r) := by
  unfold commitRec
  refine LogOnly.ite ((setFlt_log _ _).trans (setFlt_log _ _)) ?_
  split
  · exact (setFlt_log _ _).trans (setFlt_log _ _)
  · exact (setFlt_log _ _).trans (countLost_log _ _)

theorem rescanCause_log (s : State) (src c : Nat) : LogOnly s (rescanCause s src c) := by
  unfold rescanCause
  exact LogOnly.ite ((setSource_log _ _ _).trans (record_log _ _ _ _ _)) (LogOnly.refl _)

theorem rescanAll_log (s : State) : LogOnly s (rescanAll s) := by
  unfold rescanAll
  exact (LogOnly.foldl _ (fun x e h => LogOnly.foldl _ (fun y d g => g.trans (rescanCause_log _ _ _)) h) (LogOnly.refl _)).trans (setFlt_log _ _)

theorem settleViews_log (s : State) : LogOnly s (settleViews s) := by
  unfold settleViews
  refine LogOnly.ite (LogOnly.refl _) ?_
  exact LogOnly.foldl _ (fun x e h => LogOnly.ite h (h.trans (endLevel_log _ _ _))) (by constructor <;> rfl)

@[simp] theorem record_pending (s : State) (v : Severity) (e src : Nat) (ps : List Nat) : (record s v e src ps).pending = s.pending := (record_log s _ _ _ _).pending
@[simp] theorem record_obj (s : State) (v : Severity) (e src : Nat) (ps : List Nat) : (record s v e src ps).obj = s.obj := (record_log s _ _ _ _).obj
@[simp] theorem record_blob (s : State) (v : Severity) (e src : Nat) (ps : List Nat) : (record s v e src ps).blob = s.blob := (record_log s _ _ _ _).blob
@[simp] theorem record_chg (s : State) (v : Severity) (e src : Nat) (ps : List Nat) : (record s v e src ps).chg = s.chg := (record_log s _ _ _ _).chg
@[simp] theorem record_clock (s : State) (v : Severity) (e src : Nat) (ps : List Nat) : (record s v e src ps).clock = s.clock := (record_log s _ _ _ _).clock
@[simp] theorem record_mode (s : State) (v : Severity) (e src : Nat) (ps : List Nat) : (record s v e src ps).mode = s.mode := (record_log s _ _ _ _).mode
@[simp] theorem record_lanes (s : State) (v : Severity) (e src : Nat) (ps : List Nat) : (record s v e src ps).lanes = s.lanes := (record_log s _ _ _ _).lanes
@[simp] theorem record_groups (s : State) (v : Severity) (e src : Nat) (ps : List Nat) : (record s v e src ps).groups = s.groups := (record_log s _ _ _ _).groups
@[simp] theorem record_ports (s : State) (v : Severity) (e src : Nat) (ps : List Nat) : (record s v e src ps).ports = s.ports := (record_log s _ _ _ _).ports
@[simp] theorem record_fns (s : State) (v : Severity) (e src : Nat) (ps : List Nat) : (record s v e src ps).fns = s.fns := (record_log s _ _ _ _).fns
@[simp] theorem record_bridges (s : State) (v : Severity) (e src : Nat) (ps : List Nat) : (record s v e src ps).bridges = s.bridges := (record_log s _ _ _ _).bridges
@[simp] theorem record_ppb (s : State) (v : Severity) (e src : Nat) (ps : List Nat) : (record s v e src ps).ppb = s.ppb := (record_log s _ _ _ _).ppb
@[simp] theorem record_tiles (s : State) (v : Severity) (e src : Nat) (ps : List Nat) : (record s v e src ps).tiles = s.tiles := (record_log s _ _ _ _).tiles
@[simp] theorem record_links (s : State) (v : Severity) (e src : Nat) (ps : List Nat) : (record s v e src ps).links = s.links := (record_log s _ _ _ _).links
@[simp] theorem record_egress (s : State) (v : Severity) (e src : Nat) (ps : List Nat) : (record s v e src ps).egress = s.egress := (record_log s _ _ _ _).egress
@[simp] theorem record_txns (s : State) (v : Severity) (e src : Nat) (ps : List Nat) : (record s v e src ps).txns = s.txns := (record_log s _ _ _ _).txns
@[simp] theorem record_mem (s : State) (v : Severity) (e src : Nat) (ps : List Nat) : (record s v e src ps).mem = s.mem := (record_log s _ _ _ _).mem
@[simp] theorem record_pool (s : State) (v : Severity) (e src : Nat) (ps : List Nat) : (record s v e src ps).pool = s.pool := (record_log s _ _ _ _).pool
@[simp] theorem record_coh (s : State) (v : Severity) (e src : Nat) (ps : List Nat) : (record s v e src ps).coh = s.coh := (record_log s _ _ _ _).coh
@[simp] theorem record_lit (s : State) (v : Severity) (e src : Nat) (ps : List Nat) : (record s v e src ps).lit = s.lit := (record_log s _ _ _ _).lit
@[simp] theorem record_insts (s : State) (v : Severity) (e src : Nat) (ps : List Nat) : (record s v e src ps).insts = s.insts := (record_log s _ _ _ _).insts
@[simp] theorem record_qos (s : State) (v : Severity) (e src : Nat) (ps : List Nat) : (record s v e src ps).qos = s.qos := (record_log s _ _ _ _).qos
@[simp] theorem record_tele (s : State) (v : Severity) (e src : Nat) (ps : List Nat) : (record s v e src ps).tele = s.tele := (record_log s _ _ _ _).tele
@[simp] theorem record_gecko (s : State) (v : Severity) (e src : Nat) (ps : List Nat) : (record s v e src ps).gecko = s.gecko := (record_log s _ _ _ _).gecko
@[simp] theorem record_pwr (s : State) (v : Severity) (e src : Nat) (ps : List Nat) : (record s v e src ps).pwr = s.pwr := (record_log s _ _ _ _).pwr
@[simp] theorem record_slots (s : State) (v : Severity) (e src : Nat) (ps : List Nat) : (record s v e src ps).slots = s.slots := (record_log s _ _ _ _).slots
@[simp] theorem record_sec (s : State) (v : Severity) (e src : Nat) (ps : List Nat) : (record s v e src ps).sec = s.sec := (record_log s _ _ _ _).sec
@[simp] theorem record_free (s : State) (v : Severity) (e src : Nat) (ps : List Nat) : (record s v e src ps).free = s.free := (record_log s _ _ _ _).free

@[simp] theorem sourceMsix_pending (s : State) (src : Nat) (v : Severity) : (sourceMsix s src v).pending = s.pending := (sourceMsix_log s _ _).pending
@[simp] theorem sourceMsix_obj (s : State) (src : Nat) (v : Severity) : (sourceMsix s src v).obj = s.obj := (sourceMsix_log s _ _).obj
@[simp] theorem sourceMsix_blob (s : State) (src : Nat) (v : Severity) : (sourceMsix s src v).blob = s.blob := (sourceMsix_log s _ _).blob
@[simp] theorem sourceMsix_chg (s : State) (src : Nat) (v : Severity) : (sourceMsix s src v).chg = s.chg := (sourceMsix_log s _ _).chg
@[simp] theorem sourceMsix_clock (s : State) (src : Nat) (v : Severity) : (sourceMsix s src v).clock = s.clock := (sourceMsix_log s _ _).clock
@[simp] theorem sourceMsix_mode (s : State) (src : Nat) (v : Severity) : (sourceMsix s src v).mode = s.mode := (sourceMsix_log s _ _).mode
@[simp] theorem sourceMsix_lanes (s : State) (src : Nat) (v : Severity) : (sourceMsix s src v).lanes = s.lanes := (sourceMsix_log s _ _).lanes
@[simp] theorem sourceMsix_groups (s : State) (src : Nat) (v : Severity) : (sourceMsix s src v).groups = s.groups := (sourceMsix_log s _ _).groups
@[simp] theorem sourceMsix_ports (s : State) (src : Nat) (v : Severity) : (sourceMsix s src v).ports = s.ports := (sourceMsix_log s _ _).ports
@[simp] theorem sourceMsix_fns (s : State) (src : Nat) (v : Severity) : (sourceMsix s src v).fns = s.fns := (sourceMsix_log s _ _).fns
@[simp] theorem sourceMsix_bridges (s : State) (src : Nat) (v : Severity) : (sourceMsix s src v).bridges = s.bridges := (sourceMsix_log s _ _).bridges
@[simp] theorem sourceMsix_ppb (s : State) (src : Nat) (v : Severity) : (sourceMsix s src v).ppb = s.ppb := (sourceMsix_log s _ _).ppb
@[simp] theorem sourceMsix_tiles (s : State) (src : Nat) (v : Severity) : (sourceMsix s src v).tiles = s.tiles := (sourceMsix_log s _ _).tiles
@[simp] theorem sourceMsix_links (s : State) (src : Nat) (v : Severity) : (sourceMsix s src v).links = s.links := (sourceMsix_log s _ _).links
@[simp] theorem sourceMsix_egress (s : State) (src : Nat) (v : Severity) : (sourceMsix s src v).egress = s.egress := (sourceMsix_log s _ _).egress
@[simp] theorem sourceMsix_txns (s : State) (src : Nat) (v : Severity) : (sourceMsix s src v).txns = s.txns := (sourceMsix_log s _ _).txns
@[simp] theorem sourceMsix_mem (s : State) (src : Nat) (v : Severity) : (sourceMsix s src v).mem = s.mem := (sourceMsix_log s _ _).mem
@[simp] theorem sourceMsix_pool (s : State) (src : Nat) (v : Severity) : (sourceMsix s src v).pool = s.pool := (sourceMsix_log s _ _).pool
@[simp] theorem sourceMsix_coh (s : State) (src : Nat) (v : Severity) : (sourceMsix s src v).coh = s.coh := (sourceMsix_log s _ _).coh
@[simp] theorem sourceMsix_lit (s : State) (src : Nat) (v : Severity) : (sourceMsix s src v).lit = s.lit := (sourceMsix_log s _ _).lit
@[simp] theorem sourceMsix_insts (s : State) (src : Nat) (v : Severity) : (sourceMsix s src v).insts = s.insts := (sourceMsix_log s _ _).insts
@[simp] theorem sourceMsix_qos (s : State) (src : Nat) (v : Severity) : (sourceMsix s src v).qos = s.qos := (sourceMsix_log s _ _).qos
@[simp] theorem sourceMsix_tele (s : State) (src : Nat) (v : Severity) : (sourceMsix s src v).tele = s.tele := (sourceMsix_log s _ _).tele
@[simp] theorem sourceMsix_gecko (s : State) (src : Nat) (v : Severity) : (sourceMsix s src v).gecko = s.gecko := (sourceMsix_log s _ _).gecko
@[simp] theorem sourceMsix_pwr (s : State) (src : Nat) (v : Severity) : (sourceMsix s src v).pwr = s.pwr := (sourceMsix_log s _ _).pwr
@[simp] theorem sourceMsix_slots (s : State) (src : Nat) (v : Severity) : (sourceMsix s src v).slots = s.slots := (sourceMsix_log s _ _).slots
@[simp] theorem sourceMsix_sec (s : State) (src : Nat) (v : Severity) : (sourceMsix s src v).sec = s.sec := (sourceMsix_log s _ _).sec
@[simp] theorem sourceMsix_free (s : State) (src : Nat) (v : Severity) : (sourceMsix s src v).free = s.free := (sourceMsix_log s _ _).free

@[simp] theorem raiseEv_pending (s : State) (src c : Nat) (v : Severity) (p0 : Nat) (ps : List Nat) (b : Bool) : (raiseEv s src c v p0 ps b).pending = s.pending := (raiseEv_log s _ _ _ _ _ _).pending
@[simp] theorem raiseEv_obj (s : State) (src c : Nat) (v : Severity) (p0 : Nat) (ps : List Nat) (b : Bool) : (raiseEv s src c v p0 ps b).obj = s.obj := (raiseEv_log s _ _ _ _ _ _).obj
@[simp] theorem raiseEv_blob (s : State) (src c : Nat) (v : Severity) (p0 : Nat) (ps : List Nat) (b : Bool) : (raiseEv s src c v p0 ps b).blob = s.blob := (raiseEv_log s _ _ _ _ _ _).blob
@[simp] theorem raiseEv_chg (s : State) (src c : Nat) (v : Severity) (p0 : Nat) (ps : List Nat) (b : Bool) : (raiseEv s src c v p0 ps b).chg = s.chg := (raiseEv_log s _ _ _ _ _ _).chg
@[simp] theorem raiseEv_clock (s : State) (src c : Nat) (v : Severity) (p0 : Nat) (ps : List Nat) (b : Bool) : (raiseEv s src c v p0 ps b).clock = s.clock := (raiseEv_log s _ _ _ _ _ _).clock
@[simp] theorem raiseEv_mode (s : State) (src c : Nat) (v : Severity) (p0 : Nat) (ps : List Nat) (b : Bool) : (raiseEv s src c v p0 ps b).mode = s.mode := (raiseEv_log s _ _ _ _ _ _).mode
@[simp] theorem raiseEv_lanes (s : State) (src c : Nat) (v : Severity) (p0 : Nat) (ps : List Nat) (b : Bool) : (raiseEv s src c v p0 ps b).lanes = s.lanes := (raiseEv_log s _ _ _ _ _ _).lanes
@[simp] theorem raiseEv_groups (s : State) (src c : Nat) (v : Severity) (p0 : Nat) (ps : List Nat) (b : Bool) : (raiseEv s src c v p0 ps b).groups = s.groups := (raiseEv_log s _ _ _ _ _ _).groups
@[simp] theorem raiseEv_ports (s : State) (src c : Nat) (v : Severity) (p0 : Nat) (ps : List Nat) (b : Bool) : (raiseEv s src c v p0 ps b).ports = s.ports := (raiseEv_log s _ _ _ _ _ _).ports
@[simp] theorem raiseEv_fns (s : State) (src c : Nat) (v : Severity) (p0 : Nat) (ps : List Nat) (b : Bool) : (raiseEv s src c v p0 ps b).fns = s.fns := (raiseEv_log s _ _ _ _ _ _).fns
@[simp] theorem raiseEv_bridges (s : State) (src c : Nat) (v : Severity) (p0 : Nat) (ps : List Nat) (b : Bool) : (raiseEv s src c v p0 ps b).bridges = s.bridges := (raiseEv_log s _ _ _ _ _ _).bridges
@[simp] theorem raiseEv_ppb (s : State) (src c : Nat) (v : Severity) (p0 : Nat) (ps : List Nat) (b : Bool) : (raiseEv s src c v p0 ps b).ppb = s.ppb := (raiseEv_log s _ _ _ _ _ _).ppb
@[simp] theorem raiseEv_tiles (s : State) (src c : Nat) (v : Severity) (p0 : Nat) (ps : List Nat) (b : Bool) : (raiseEv s src c v p0 ps b).tiles = s.tiles := (raiseEv_log s _ _ _ _ _ _).tiles
@[simp] theorem raiseEv_links (s : State) (src c : Nat) (v : Severity) (p0 : Nat) (ps : List Nat) (b : Bool) : (raiseEv s src c v p0 ps b).links = s.links := (raiseEv_log s _ _ _ _ _ _).links
@[simp] theorem raiseEv_egress (s : State) (src c : Nat) (v : Severity) (p0 : Nat) (ps : List Nat) (b : Bool) : (raiseEv s src c v p0 ps b).egress = s.egress := (raiseEv_log s _ _ _ _ _ _).egress
@[simp] theorem raiseEv_txns (s : State) (src c : Nat) (v : Severity) (p0 : Nat) (ps : List Nat) (b : Bool) : (raiseEv s src c v p0 ps b).txns = s.txns := (raiseEv_log s _ _ _ _ _ _).txns
@[simp] theorem raiseEv_mem (s : State) (src c : Nat) (v : Severity) (p0 : Nat) (ps : List Nat) (b : Bool) : (raiseEv s src c v p0 ps b).mem = s.mem := (raiseEv_log s _ _ _ _ _ _).mem
@[simp] theorem raiseEv_pool (s : State) (src c : Nat) (v : Severity) (p0 : Nat) (ps : List Nat) (b : Bool) : (raiseEv s src c v p0 ps b).pool = s.pool := (raiseEv_log s _ _ _ _ _ _).pool
@[simp] theorem raiseEv_coh (s : State) (src c : Nat) (v : Severity) (p0 : Nat) (ps : List Nat) (b : Bool) : (raiseEv s src c v p0 ps b).coh = s.coh := (raiseEv_log s _ _ _ _ _ _).coh
@[simp] theorem raiseEv_lit (s : State) (src c : Nat) (v : Severity) (p0 : Nat) (ps : List Nat) (b : Bool) : (raiseEv s src c v p0 ps b).lit = s.lit := (raiseEv_log s _ _ _ _ _ _).lit
@[simp] theorem raiseEv_insts (s : State) (src c : Nat) (v : Severity) (p0 : Nat) (ps : List Nat) (b : Bool) : (raiseEv s src c v p0 ps b).insts = s.insts := (raiseEv_log s _ _ _ _ _ _).insts
@[simp] theorem raiseEv_qos (s : State) (src c : Nat) (v : Severity) (p0 : Nat) (ps : List Nat) (b : Bool) : (raiseEv s src c v p0 ps b).qos = s.qos := (raiseEv_log s _ _ _ _ _ _).qos
@[simp] theorem raiseEv_tele (s : State) (src c : Nat) (v : Severity) (p0 : Nat) (ps : List Nat) (b : Bool) : (raiseEv s src c v p0 ps b).tele = s.tele := (raiseEv_log s _ _ _ _ _ _).tele
@[simp] theorem raiseEv_gecko (s : State) (src c : Nat) (v : Severity) (p0 : Nat) (ps : List Nat) (b : Bool) : (raiseEv s src c v p0 ps b).gecko = s.gecko := (raiseEv_log s _ _ _ _ _ _).gecko
@[simp] theorem raiseEv_pwr (s : State) (src c : Nat) (v : Severity) (p0 : Nat) (ps : List Nat) (b : Bool) : (raiseEv s src c v p0 ps b).pwr = s.pwr := (raiseEv_log s _ _ _ _ _ _).pwr
@[simp] theorem raiseEv_slots (s : State) (src c : Nat) (v : Severity) (p0 : Nat) (ps : List Nat) (b : Bool) : (raiseEv s src c v p0 ps b).slots = s.slots := (raiseEv_log s _ _ _ _ _ _).slots
@[simp] theorem raiseEv_sec (s : State) (src c : Nat) (v : Severity) (p0 : Nat) (ps : List Nat) (b : Bool) : (raiseEv s src c v p0 ps b).sec = s.sec := (raiseEv_log s _ _ _ _ _ _).sec
@[simp] theorem raiseEv_free (s : State) (src c : Nat) (v : Severity) (p0 : Nat) (ps : List Nat) (b : Bool) : (raiseEv s src c v p0 ps b).free = s.free := (raiseEv_log s _ _ _ _ _ _).free

@[simp] theorem raise_pending (s : State) (src c : Nat) (v : Severity) (ps : List Nat) : (raise s src c v ps).pending = s.pending := (raise_log s _ _ _ _).pending
@[simp] theorem raise_obj (s : State) (src c : Nat) (v : Severity) (ps : List Nat) : (raise s src c v ps).obj = s.obj := (raise_log s _ _ _ _).obj
@[simp] theorem raise_blob (s : State) (src c : Nat) (v : Severity) (ps : List Nat) : (raise s src c v ps).blob = s.blob := (raise_log s _ _ _ _).blob
@[simp] theorem raise_chg (s : State) (src c : Nat) (v : Severity) (ps : List Nat) : (raise s src c v ps).chg = s.chg := (raise_log s _ _ _ _).chg
@[simp] theorem raise_clock (s : State) (src c : Nat) (v : Severity) (ps : List Nat) : (raise s src c v ps).clock = s.clock := (raise_log s _ _ _ _).clock
@[simp] theorem raise_mode (s : State) (src c : Nat) (v : Severity) (ps : List Nat) : (raise s src c v ps).mode = s.mode := (raise_log s _ _ _ _).mode
@[simp] theorem raise_lanes (s : State) (src c : Nat) (v : Severity) (ps : List Nat) : (raise s src c v ps).lanes = s.lanes := (raise_log s _ _ _ _).lanes
@[simp] theorem raise_groups (s : State) (src c : Nat) (v : Severity) (ps : List Nat) : (raise s src c v ps).groups = s.groups := (raise_log s _ _ _ _).groups
@[simp] theorem raise_ports (s : State) (src c : Nat) (v : Severity) (ps : List Nat) : (raise s src c v ps).ports = s.ports := (raise_log s _ _ _ _).ports
@[simp] theorem raise_fns (s : State) (src c : Nat) (v : Severity) (ps : List Nat) : (raise s src c v ps).fns = s.fns := (raise_log s _ _ _ _).fns
@[simp] theorem raise_bridges (s : State) (src c : Nat) (v : Severity) (ps : List Nat) : (raise s src c v ps).bridges = s.bridges := (raise_log s _ _ _ _).bridges
@[simp] theorem raise_ppb (s : State) (src c : Nat) (v : Severity) (ps : List Nat) : (raise s src c v ps).ppb = s.ppb := (raise_log s _ _ _ _).ppb
@[simp] theorem raise_tiles (s : State) (src c : Nat) (v : Severity) (ps : List Nat) : (raise s src c v ps).tiles = s.tiles := (raise_log s _ _ _ _).tiles
@[simp] theorem raise_links (s : State) (src c : Nat) (v : Severity) (ps : List Nat) : (raise s src c v ps).links = s.links := (raise_log s _ _ _ _).links
@[simp] theorem raise_egress (s : State) (src c : Nat) (v : Severity) (ps : List Nat) : (raise s src c v ps).egress = s.egress := (raise_log s _ _ _ _).egress
@[simp] theorem raise_txns (s : State) (src c : Nat) (v : Severity) (ps : List Nat) : (raise s src c v ps).txns = s.txns := (raise_log s _ _ _ _).txns
@[simp] theorem raise_mem (s : State) (src c : Nat) (v : Severity) (ps : List Nat) : (raise s src c v ps).mem = s.mem := (raise_log s _ _ _ _).mem
@[simp] theorem raise_pool (s : State) (src c : Nat) (v : Severity) (ps : List Nat) : (raise s src c v ps).pool = s.pool := (raise_log s _ _ _ _).pool
@[simp] theorem raise_coh (s : State) (src c : Nat) (v : Severity) (ps : List Nat) : (raise s src c v ps).coh = s.coh := (raise_log s _ _ _ _).coh
@[simp] theorem raise_lit (s : State) (src c : Nat) (v : Severity) (ps : List Nat) : (raise s src c v ps).lit = s.lit := (raise_log s _ _ _ _).lit
@[simp] theorem raise_insts (s : State) (src c : Nat) (v : Severity) (ps : List Nat) : (raise s src c v ps).insts = s.insts := (raise_log s _ _ _ _).insts
@[simp] theorem raise_qos (s : State) (src c : Nat) (v : Severity) (ps : List Nat) : (raise s src c v ps).qos = s.qos := (raise_log s _ _ _ _).qos
@[simp] theorem raise_tele (s : State) (src c : Nat) (v : Severity) (ps : List Nat) : (raise s src c v ps).tele = s.tele := (raise_log s _ _ _ _).tele
@[simp] theorem raise_gecko (s : State) (src c : Nat) (v : Severity) (ps : List Nat) : (raise s src c v ps).gecko = s.gecko := (raise_log s _ _ _ _).gecko
@[simp] theorem raise_pwr (s : State) (src c : Nat) (v : Severity) (ps : List Nat) : (raise s src c v ps).pwr = s.pwr := (raise_log s _ _ _ _).pwr
@[simp] theorem raise_slots (s : State) (src c : Nat) (v : Severity) (ps : List Nat) : (raise s src c v ps).slots = s.slots := (raise_log s _ _ _ _).slots
@[simp] theorem raise_sec (s : State) (src c : Nat) (v : Severity) (ps : List Nat) : (raise s src c v ps).sec = s.sec := (raise_log s _ _ _ _).sec
@[simp] theorem raise_free (s : State) (src c : Nat) (v : Severity) (ps : List Nat) : (raise s src c v ps).free = s.free := (raise_log s _ _ _ _).free

@[simp] theorem endLevel_pending (s : State) (src c : Nat) : (endLevel s src c).pending = s.pending := (endLevel_log s _ _).pending
@[simp] theorem endLevel_obj (s : State) (src c : Nat) : (endLevel s src c).obj = s.obj := (endLevel_log s _ _).obj
@[simp] theorem endLevel_blob (s : State) (src c : Nat) : (endLevel s src c).blob = s.blob := (endLevel_log s _ _).blob
@[simp] theorem endLevel_chg (s : State) (src c : Nat) : (endLevel s src c).chg = s.chg := (endLevel_log s _ _).chg
@[simp] theorem endLevel_clock (s : State) (src c : Nat) : (endLevel s src c).clock = s.clock := (endLevel_log s _ _).clock
@[simp] theorem endLevel_mode (s : State) (src c : Nat) : (endLevel s src c).mode = s.mode := (endLevel_log s _ _).mode
@[simp] theorem endLevel_lanes (s : State) (src c : Nat) : (endLevel s src c).lanes = s.lanes := (endLevel_log s _ _).lanes
@[simp] theorem endLevel_groups (s : State) (src c : Nat) : (endLevel s src c).groups = s.groups := (endLevel_log s _ _).groups
@[simp] theorem endLevel_ports (s : State) (src c : Nat) : (endLevel s src c).ports = s.ports := (endLevel_log s _ _).ports
@[simp] theorem endLevel_fns (s : State) (src c : Nat) : (endLevel s src c).fns = s.fns := (endLevel_log s _ _).fns
@[simp] theorem endLevel_bridges (s : State) (src c : Nat) : (endLevel s src c).bridges = s.bridges := (endLevel_log s _ _).bridges
@[simp] theorem endLevel_ppb (s : State) (src c : Nat) : (endLevel s src c).ppb = s.ppb := (endLevel_log s _ _).ppb
@[simp] theorem endLevel_tiles (s : State) (src c : Nat) : (endLevel s src c).tiles = s.tiles := (endLevel_log s _ _).tiles
@[simp] theorem endLevel_links (s : State) (src c : Nat) : (endLevel s src c).links = s.links := (endLevel_log s _ _).links
@[simp] theorem endLevel_egress (s : State) (src c : Nat) : (endLevel s src c).egress = s.egress := (endLevel_log s _ _).egress
@[simp] theorem endLevel_txns (s : State) (src c : Nat) : (endLevel s src c).txns = s.txns := (endLevel_log s _ _).txns
@[simp] theorem endLevel_mem (s : State) (src c : Nat) : (endLevel s src c).mem = s.mem := (endLevel_log s _ _).mem
@[simp] theorem endLevel_pool (s : State) (src c : Nat) : (endLevel s src c).pool = s.pool := (endLevel_log s _ _).pool
@[simp] theorem endLevel_coh (s : State) (src c : Nat) : (endLevel s src c).coh = s.coh := (endLevel_log s _ _).coh
@[simp] theorem endLevel_lit (s : State) (src c : Nat) : (endLevel s src c).lit = s.lit := (endLevel_log s _ _).lit
@[simp] theorem endLevel_insts (s : State) (src c : Nat) : (endLevel s src c).insts = s.insts := (endLevel_log s _ _).insts
@[simp] theorem endLevel_qos (s : State) (src c : Nat) : (endLevel s src c).qos = s.qos := (endLevel_log s _ _).qos
@[simp] theorem endLevel_tele (s : State) (src c : Nat) : (endLevel s src c).tele = s.tele := (endLevel_log s _ _).tele
@[simp] theorem endLevel_gecko (s : State) (src c : Nat) : (endLevel s src c).gecko = s.gecko := (endLevel_log s _ _).gecko
@[simp] theorem endLevel_pwr (s : State) (src c : Nat) : (endLevel s src c).pwr = s.pwr := (endLevel_log s _ _).pwr
@[simp] theorem endLevel_slots (s : State) (src c : Nat) : (endLevel s src c).slots = s.slots := (endLevel_log s _ _).slots
@[simp] theorem endLevel_sec (s : State) (src c : Nat) : (endLevel s src c).sec = s.sec := (endLevel_log s _ _).sec
@[simp] theorem endLevel_free (s : State) (src c : Nat) : (endLevel s src c).free = s.free := (endLevel_log s _ _).free

@[simp] theorem clearMaskOf_pending (s : State) (src mask : Nat) : (clearMaskOf s src mask).pending = s.pending := (clearMaskOf_log s _ _).pending
@[simp] theorem clearMaskOf_obj (s : State) (src mask : Nat) : (clearMaskOf s src mask).obj = s.obj := (clearMaskOf_log s _ _).obj
@[simp] theorem clearMaskOf_blob (s : State) (src mask : Nat) : (clearMaskOf s src mask).blob = s.blob := (clearMaskOf_log s _ _).blob
@[simp] theorem clearMaskOf_chg (s : State) (src mask : Nat) : (clearMaskOf s src mask).chg = s.chg := (clearMaskOf_log s _ _).chg
@[simp] theorem clearMaskOf_clock (s : State) (src mask : Nat) : (clearMaskOf s src mask).clock = s.clock := (clearMaskOf_log s _ _).clock
@[simp] theorem clearMaskOf_mode (s : State) (src mask : Nat) : (clearMaskOf s src mask).mode = s.mode := (clearMaskOf_log s _ _).mode
@[simp] theorem clearMaskOf_lanes (s : State) (src mask : Nat) : (clearMaskOf s src mask).lanes = s.lanes := (clearMaskOf_log s _ _).lanes
@[simp] theorem clearMaskOf_groups (s : State) (src mask : Nat) : (clearMaskOf s src mask).groups = s.groups := (clearMaskOf_log s _ _).groups
@[simp] theorem clearMaskOf_ports (s : State) (src mask : Nat) : (clearMaskOf s src mask).ports = s.ports := (clearMaskOf_log s _ _).ports
@[simp] theorem clearMaskOf_fns (s : State) (src mask : Nat) : (clearMaskOf s src mask).fns = s.fns := (clearMaskOf_log s _ _).fns
@[simp] theorem clearMaskOf_bridges (s : State) (src mask : Nat) : (clearMaskOf s src mask).bridges = s.bridges := (clearMaskOf_log s _ _).bridges
@[simp] theorem clearMaskOf_ppb (s : State) (src mask : Nat) : (clearMaskOf s src mask).ppb = s.ppb := (clearMaskOf_log s _ _).ppb
@[simp] theorem clearMaskOf_tiles (s : State) (src mask : Nat) : (clearMaskOf s src mask).tiles = s.tiles := (clearMaskOf_log s _ _).tiles
@[simp] theorem clearMaskOf_links (s : State) (src mask : Nat) : (clearMaskOf s src mask).links = s.links := (clearMaskOf_log s _ _).links
@[simp] theorem clearMaskOf_egress (s : State) (src mask : Nat) : (clearMaskOf s src mask).egress = s.egress := (clearMaskOf_log s _ _).egress
@[simp] theorem clearMaskOf_txns (s : State) (src mask : Nat) : (clearMaskOf s src mask).txns = s.txns := (clearMaskOf_log s _ _).txns
@[simp] theorem clearMaskOf_mem (s : State) (src mask : Nat) : (clearMaskOf s src mask).mem = s.mem := (clearMaskOf_log s _ _).mem
@[simp] theorem clearMaskOf_pool (s : State) (src mask : Nat) : (clearMaskOf s src mask).pool = s.pool := (clearMaskOf_log s _ _).pool
@[simp] theorem clearMaskOf_coh (s : State) (src mask : Nat) : (clearMaskOf s src mask).coh = s.coh := (clearMaskOf_log s _ _).coh
@[simp] theorem clearMaskOf_lit (s : State) (src mask : Nat) : (clearMaskOf s src mask).lit = s.lit := (clearMaskOf_log s _ _).lit
@[simp] theorem clearMaskOf_insts (s : State) (src mask : Nat) : (clearMaskOf s src mask).insts = s.insts := (clearMaskOf_log s _ _).insts
@[simp] theorem clearMaskOf_qos (s : State) (src mask : Nat) : (clearMaskOf s src mask).qos = s.qos := (clearMaskOf_log s _ _).qos
@[simp] theorem clearMaskOf_tele (s : State) (src mask : Nat) : (clearMaskOf s src mask).tele = s.tele := (clearMaskOf_log s _ _).tele
@[simp] theorem clearMaskOf_gecko (s : State) (src mask : Nat) : (clearMaskOf s src mask).gecko = s.gecko := (clearMaskOf_log s _ _).gecko
@[simp] theorem clearMaskOf_pwr (s : State) (src mask : Nat) : (clearMaskOf s src mask).pwr = s.pwr := (clearMaskOf_log s _ _).pwr
@[simp] theorem clearMaskOf_slots (s : State) (src mask : Nat) : (clearMaskOf s src mask).slots = s.slots := (clearMaskOf_log s _ _).slots
@[simp] theorem clearMaskOf_sec (s : State) (src mask : Nat) : (clearMaskOf s src mask).sec = s.sec := (clearMaskOf_log s _ _).sec
@[simp] theorem clearMaskOf_free (s : State) (src mask : Nat) : (clearMaskOf s src mask).free = s.free := (clearMaskOf_log s _ _).free

@[simp] theorem clearAllSources_pending (s : State) : (clearAllSources s).pending = s.pending := (clearAllSources_log s).pending
@[simp] theorem clearAllSources_obj (s : State) : (clearAllSources s).obj = s.obj := (clearAllSources_log s).obj
@[simp] theorem clearAllSources_blob (s : State) : (clearAllSources s).blob = s.blob := (clearAllSources_log s).blob
@[simp] theorem clearAllSources_chg (s : State) : (clearAllSources s).chg = s.chg := (clearAllSources_log s).chg
@[simp] theorem clearAllSources_clock (s : State) : (clearAllSources s).clock = s.clock := (clearAllSources_log s).clock
@[simp] theorem clearAllSources_mode (s : State) : (clearAllSources s).mode = s.mode := (clearAllSources_log s).mode
@[simp] theorem clearAllSources_lanes (s : State) : (clearAllSources s).lanes = s.lanes := (clearAllSources_log s).lanes
@[simp] theorem clearAllSources_groups (s : State) : (clearAllSources s).groups = s.groups := (clearAllSources_log s).groups
@[simp] theorem clearAllSources_ports (s : State) : (clearAllSources s).ports = s.ports := (clearAllSources_log s).ports
@[simp] theorem clearAllSources_fns (s : State) : (clearAllSources s).fns = s.fns := (clearAllSources_log s).fns
@[simp] theorem clearAllSources_bridges (s : State) : (clearAllSources s).bridges = s.bridges := (clearAllSources_log s).bridges
@[simp] theorem clearAllSources_ppb (s : State) : (clearAllSources s).ppb = s.ppb := (clearAllSources_log s).ppb
@[simp] theorem clearAllSources_tiles (s : State) : (clearAllSources s).tiles = s.tiles := (clearAllSources_log s).tiles
@[simp] theorem clearAllSources_links (s : State) : (clearAllSources s).links = s.links := (clearAllSources_log s).links
@[simp] theorem clearAllSources_egress (s : State) : (clearAllSources s).egress = s.egress := (clearAllSources_log s).egress
@[simp] theorem clearAllSources_txns (s : State) : (clearAllSources s).txns = s.txns := (clearAllSources_log s).txns
@[simp] theorem clearAllSources_mem (s : State) : (clearAllSources s).mem = s.mem := (clearAllSources_log s).mem
@[simp] theorem clearAllSources_pool (s : State) : (clearAllSources s).pool = s.pool := (clearAllSources_log s).pool
@[simp] theorem clearAllSources_coh (s : State) : (clearAllSources s).coh = s.coh := (clearAllSources_log s).coh
@[simp] theorem clearAllSources_lit (s : State) : (clearAllSources s).lit = s.lit := (clearAllSources_log s).lit
@[simp] theorem clearAllSources_insts (s : State) : (clearAllSources s).insts = s.insts := (clearAllSources_log s).insts
@[simp] theorem clearAllSources_qos (s : State) : (clearAllSources s).qos = s.qos := (clearAllSources_log s).qos
@[simp] theorem clearAllSources_tele (s : State) : (clearAllSources s).tele = s.tele := (clearAllSources_log s).tele
@[simp] theorem clearAllSources_gecko (s : State) : (clearAllSources s).gecko = s.gecko := (clearAllSources_log s).gecko
@[simp] theorem clearAllSources_pwr (s : State) : (clearAllSources s).pwr = s.pwr := (clearAllSources_log s).pwr
@[simp] theorem clearAllSources_slots (s : State) : (clearAllSources s).slots = s.slots := (clearAllSources_log s).slots
@[simp] theorem clearAllSources_sec (s : State) : (clearAllSources s).sec = s.sec := (clearAllSources_log s).sec
@[simp] theorem clearAllSources_free (s : State) : (clearAllSources s).free = s.free := (clearAllSources_log s).free

@[simp] theorem holdSource_pending (s : State) (src : Nat) : (holdSource s src).pending = s.pending := (holdSource_log s _).pending
@[simp] theorem holdSource_obj (s : State) (src : Nat) : (holdSource s src).obj = s.obj := (holdSource_log s _).obj
@[simp] theorem holdSource_blob (s : State) (src : Nat) : (holdSource s src).blob = s.blob := (holdSource_log s _).blob
@[simp] theorem holdSource_chg (s : State) (src : Nat) : (holdSource s src).chg = s.chg := (holdSource_log s _).chg
@[simp] theorem holdSource_clock (s : State) (src : Nat) : (holdSource s src).clock = s.clock := (holdSource_log s _).clock
@[simp] theorem holdSource_mode (s : State) (src : Nat) : (holdSource s src).mode = s.mode := (holdSource_log s _).mode
@[simp] theorem holdSource_lanes (s : State) (src : Nat) : (holdSource s src).lanes = s.lanes := (holdSource_log s _).lanes
@[simp] theorem holdSource_groups (s : State) (src : Nat) : (holdSource s src).groups = s.groups := (holdSource_log s _).groups
@[simp] theorem holdSource_ports (s : State) (src : Nat) : (holdSource s src).ports = s.ports := (holdSource_log s _).ports
@[simp] theorem holdSource_fns (s : State) (src : Nat) : (holdSource s src).fns = s.fns := (holdSource_log s _).fns
@[simp] theorem holdSource_bridges (s : State) (src : Nat) : (holdSource s src).bridges = s.bridges := (holdSource_log s _).bridges
@[simp] theorem holdSource_ppb (s : State) (src : Nat) : (holdSource s src).ppb = s.ppb := (holdSource_log s _).ppb
@[simp] theorem holdSource_tiles (s : State) (src : Nat) : (holdSource s src).tiles = s.tiles := (holdSource_log s _).tiles
@[simp] theorem holdSource_links (s : State) (src : Nat) : (holdSource s src).links = s.links := (holdSource_log s _).links
@[simp] theorem holdSource_egress (s : State) (src : Nat) : (holdSource s src).egress = s.egress := (holdSource_log s _).egress
@[simp] theorem holdSource_txns (s : State) (src : Nat) : (holdSource s src).txns = s.txns := (holdSource_log s _).txns
@[simp] theorem holdSource_mem (s : State) (src : Nat) : (holdSource s src).mem = s.mem := (holdSource_log s _).mem
@[simp] theorem holdSource_pool (s : State) (src : Nat) : (holdSource s src).pool = s.pool := (holdSource_log s _).pool
@[simp] theorem holdSource_coh (s : State) (src : Nat) : (holdSource s src).coh = s.coh := (holdSource_log s _).coh
@[simp] theorem holdSource_lit (s : State) (src : Nat) : (holdSource s src).lit = s.lit := (holdSource_log s _).lit
@[simp] theorem holdSource_insts (s : State) (src : Nat) : (holdSource s src).insts = s.insts := (holdSource_log s _).insts
@[simp] theorem holdSource_qos (s : State) (src : Nat) : (holdSource s src).qos = s.qos := (holdSource_log s _).qos
@[simp] theorem holdSource_tele (s : State) (src : Nat) : (holdSource s src).tele = s.tele := (holdSource_log s _).tele
@[simp] theorem holdSource_gecko (s : State) (src : Nat) : (holdSource s src).gecko = s.gecko := (holdSource_log s _).gecko
@[simp] theorem holdSource_pwr (s : State) (src : Nat) : (holdSource s src).pwr = s.pwr := (holdSource_log s _).pwr
@[simp] theorem holdSource_slots (s : State) (src : Nat) : (holdSource s src).slots = s.slots := (holdSource_log s _).slots
@[simp] theorem holdSource_sec (s : State) (src : Nat) : (holdSource s src).sec = s.sec := (holdSource_log s _).sec
@[simp] theorem holdSource_free (s : State) (src : Nat) : (holdSource s src).free = s.free := (holdSource_log s _).free

@[simp] theorem holdTileSources_pending (s : State) (t : Nat) : (holdTileSources s t).pending = s.pending := (holdTileSources_log s _).pending
@[simp] theorem holdTileSources_obj (s : State) (t : Nat) : (holdTileSources s t).obj = s.obj := (holdTileSources_log s _).obj
@[simp] theorem holdTileSources_blob (s : State) (t : Nat) : (holdTileSources s t).blob = s.blob := (holdTileSources_log s _).blob
@[simp] theorem holdTileSources_chg (s : State) (t : Nat) : (holdTileSources s t).chg = s.chg := (holdTileSources_log s _).chg
@[simp] theorem holdTileSources_clock (s : State) (t : Nat) : (holdTileSources s t).clock = s.clock := (holdTileSources_log s _).clock
@[simp] theorem holdTileSources_mode (s : State) (t : Nat) : (holdTileSources s t).mode = s.mode := (holdTileSources_log s _).mode
@[simp] theorem holdTileSources_lanes (s : State) (t : Nat) : (holdTileSources s t).lanes = s.lanes := (holdTileSources_log s _).lanes
@[simp] theorem holdTileSources_groups (s : State) (t : Nat) : (holdTileSources s t).groups = s.groups := (holdTileSources_log s _).groups
@[simp] theorem holdTileSources_ports (s : State) (t : Nat) : (holdTileSources s t).ports = s.ports := (holdTileSources_log s _).ports
@[simp] theorem holdTileSources_fns (s : State) (t : Nat) : (holdTileSources s t).fns = s.fns := (holdTileSources_log s _).fns
@[simp] theorem holdTileSources_bridges (s : State) (t : Nat) : (holdTileSources s t).bridges = s.bridges := (holdTileSources_log s _).bridges
@[simp] theorem holdTileSources_ppb (s : State) (t : Nat) : (holdTileSources s t).ppb = s.ppb := (holdTileSources_log s _).ppb
@[simp] theorem holdTileSources_tiles (s : State) (t : Nat) : (holdTileSources s t).tiles = s.tiles := (holdTileSources_log s _).tiles
@[simp] theorem holdTileSources_links (s : State) (t : Nat) : (holdTileSources s t).links = s.links := (holdTileSources_log s _).links
@[simp] theorem holdTileSources_egress (s : State) (t : Nat) : (holdTileSources s t).egress = s.egress := (holdTileSources_log s _).egress
@[simp] theorem holdTileSources_txns (s : State) (t : Nat) : (holdTileSources s t).txns = s.txns := (holdTileSources_log s _).txns
@[simp] theorem holdTileSources_mem (s : State) (t : Nat) : (holdTileSources s t).mem = s.mem := (holdTileSources_log s _).mem
@[simp] theorem holdTileSources_pool (s : State) (t : Nat) : (holdTileSources s t).pool = s.pool := (holdTileSources_log s _).pool
@[simp] theorem holdTileSources_coh (s : State) (t : Nat) : (holdTileSources s t).coh = s.coh := (holdTileSources_log s _).coh
@[simp] theorem holdTileSources_lit (s : State) (t : Nat) : (holdTileSources s t).lit = s.lit := (holdTileSources_log s _).lit
@[simp] theorem holdTileSources_insts (s : State) (t : Nat) : (holdTileSources s t).insts = s.insts := (holdTileSources_log s _).insts
@[simp] theorem holdTileSources_qos (s : State) (t : Nat) : (holdTileSources s t).qos = s.qos := (holdTileSources_log s _).qos
@[simp] theorem holdTileSources_tele (s : State) (t : Nat) : (holdTileSources s t).tele = s.tele := (holdTileSources_log s _).tele
@[simp] theorem holdTileSources_gecko (s : State) (t : Nat) : (holdTileSources s t).gecko = s.gecko := (holdTileSources_log s _).gecko
@[simp] theorem holdTileSources_pwr (s : State) (t : Nat) : (holdTileSources s t).pwr = s.pwr := (holdTileSources_log s _).pwr
@[simp] theorem holdTileSources_slots (s : State) (t : Nat) : (holdTileSources s t).slots = s.slots := (holdTileSources_log s _).slots
@[simp] theorem holdTileSources_sec (s : State) (t : Nat) : (holdTileSources s t).sec = s.sec := (holdTileSources_log s _).sec
@[simp] theorem holdTileSources_free (s : State) (t : Nat) : (holdTileSources s t).free = s.free := (holdTileSources_log s _).free

@[simp] theorem freeSources_pending (s : State) (l : List Nat) : (freeSources s l).pending = s.pending := (freeSources_log s _).pending
@[simp] theorem freeSources_obj (s : State) (l : List Nat) : (freeSources s l).obj = s.obj := (freeSources_log s _).obj
@[simp] theorem freeSources_blob (s : State) (l : List Nat) : (freeSources s l).blob = s.blob := (freeSources_log s _).blob
@[simp] theorem freeSources_chg (s : State) (l : List Nat) : (freeSources s l).chg = s.chg := (freeSources_log s _).chg
@[simp] theorem freeSources_clock (s : State) (l : List Nat) : (freeSources s l).clock = s.clock := (freeSources_log s _).clock
@[simp] theorem freeSources_mode (s : State) (l : List Nat) : (freeSources s l).mode = s.mode := (freeSources_log s _).mode
@[simp] theorem freeSources_lanes (s : State) (l : List Nat) : (freeSources s l).lanes = s.lanes := (freeSources_log s _).lanes
@[simp] theorem freeSources_groups (s : State) (l : List Nat) : (freeSources s l).groups = s.groups := (freeSources_log s _).groups
@[simp] theorem freeSources_ports (s : State) (l : List Nat) : (freeSources s l).ports = s.ports := (freeSources_log s _).ports
@[simp] theorem freeSources_fns (s : State) (l : List Nat) : (freeSources s l).fns = s.fns := (freeSources_log s _).fns
@[simp] theorem freeSources_bridges (s : State) (l : List Nat) : (freeSources s l).bridges = s.bridges := (freeSources_log s _).bridges
@[simp] theorem freeSources_ppb (s : State) (l : List Nat) : (freeSources s l).ppb = s.ppb := (freeSources_log s _).ppb
@[simp] theorem freeSources_tiles (s : State) (l : List Nat) : (freeSources s l).tiles = s.tiles := (freeSources_log s _).tiles
@[simp] theorem freeSources_links (s : State) (l : List Nat) : (freeSources s l).links = s.links := (freeSources_log s _).links
@[simp] theorem freeSources_egress (s : State) (l : List Nat) : (freeSources s l).egress = s.egress := (freeSources_log s _).egress
@[simp] theorem freeSources_txns (s : State) (l : List Nat) : (freeSources s l).txns = s.txns := (freeSources_log s _).txns
@[simp] theorem freeSources_mem (s : State) (l : List Nat) : (freeSources s l).mem = s.mem := (freeSources_log s _).mem
@[simp] theorem freeSources_pool (s : State) (l : List Nat) : (freeSources s l).pool = s.pool := (freeSources_log s _).pool
@[simp] theorem freeSources_coh (s : State) (l : List Nat) : (freeSources s l).coh = s.coh := (freeSources_log s _).coh
@[simp] theorem freeSources_lit (s : State) (l : List Nat) : (freeSources s l).lit = s.lit := (freeSources_log s _).lit
@[simp] theorem freeSources_insts (s : State) (l : List Nat) : (freeSources s l).insts = s.insts := (freeSources_log s _).insts
@[simp] theorem freeSources_qos (s : State) (l : List Nat) : (freeSources s l).qos = s.qos := (freeSources_log s _).qos
@[simp] theorem freeSources_tele (s : State) (l : List Nat) : (freeSources s l).tele = s.tele := (freeSources_log s _).tele
@[simp] theorem freeSources_gecko (s : State) (l : List Nat) : (freeSources s l).gecko = s.gecko := (freeSources_log s _).gecko
@[simp] theorem freeSources_pwr (s : State) (l : List Nat) : (freeSources s l).pwr = s.pwr := (freeSources_log s _).pwr
@[simp] theorem freeSources_slots (s : State) (l : List Nat) : (freeSources s l).slots = s.slots := (freeSources_log s _).slots
@[simp] theorem freeSources_sec (s : State) (l : List Nat) : (freeSources s l).sec = s.sec := (freeSources_log s _).sec
@[simp] theorem freeSources_free (s : State) (l : List Nat) : (freeSources s l).free = s.free := (freeSources_log s _).free

@[simp] theorem commitRec_pending (s : State) (r : Rec) : (commitRec s r).pending = s.pending := (commitRec_log s _).pending
@[simp] theorem commitRec_obj (s : State) (r : Rec) : (commitRec s r).obj = s.obj := (commitRec_log s _).obj
@[simp] theorem commitRec_blob (s : State) (r : Rec) : (commitRec s r).blob = s.blob := (commitRec_log s _).blob
@[simp] theorem commitRec_chg (s : State) (r : Rec) : (commitRec s r).chg = s.chg := (commitRec_log s _).chg
@[simp] theorem commitRec_clock (s : State) (r : Rec) : (commitRec s r).clock = s.clock := (commitRec_log s _).clock
@[simp] theorem commitRec_mode (s : State) (r : Rec) : (commitRec s r).mode = s.mode := (commitRec_log s _).mode
@[simp] theorem commitRec_lanes (s : State) (r : Rec) : (commitRec s r).lanes = s.lanes := (commitRec_log s _).lanes
@[simp] theorem commitRec_groups (s : State) (r : Rec) : (commitRec s r).groups = s.groups := (commitRec_log s _).groups
@[simp] theorem commitRec_ports (s : State) (r : Rec) : (commitRec s r).ports = s.ports := (commitRec_log s _).ports
@[simp] theorem commitRec_fns (s : State) (r : Rec) : (commitRec s r).fns = s.fns := (commitRec_log s _).fns
@[simp] theorem commitRec_bridges (s : State) (r : Rec) : (commitRec s r).bridges = s.bridges := (commitRec_log s _).bridges
@[simp] theorem commitRec_ppb (s : State) (r : Rec) : (commitRec s r).ppb = s.ppb := (commitRec_log s _).ppb
@[simp] theorem commitRec_tiles (s : State) (r : Rec) : (commitRec s r).tiles = s.tiles := (commitRec_log s _).tiles
@[simp] theorem commitRec_links (s : State) (r : Rec) : (commitRec s r).links = s.links := (commitRec_log s _).links
@[simp] theorem commitRec_egress (s : State) (r : Rec) : (commitRec s r).egress = s.egress := (commitRec_log s _).egress
@[simp] theorem commitRec_txns (s : State) (r : Rec) : (commitRec s r).txns = s.txns := (commitRec_log s _).txns
@[simp] theorem commitRec_mem (s : State) (r : Rec) : (commitRec s r).mem = s.mem := (commitRec_log s _).mem
@[simp] theorem commitRec_pool (s : State) (r : Rec) : (commitRec s r).pool = s.pool := (commitRec_log s _).pool
@[simp] theorem commitRec_coh (s : State) (r : Rec) : (commitRec s r).coh = s.coh := (commitRec_log s _).coh
@[simp] theorem commitRec_lit (s : State) (r : Rec) : (commitRec s r).lit = s.lit := (commitRec_log s _).lit
@[simp] theorem commitRec_insts (s : State) (r : Rec) : (commitRec s r).insts = s.insts := (commitRec_log s _).insts
@[simp] theorem commitRec_qos (s : State) (r : Rec) : (commitRec s r).qos = s.qos := (commitRec_log s _).qos
@[simp] theorem commitRec_tele (s : State) (r : Rec) : (commitRec s r).tele = s.tele := (commitRec_log s _).tele
@[simp] theorem commitRec_gecko (s : State) (r : Rec) : (commitRec s r).gecko = s.gecko := (commitRec_log s _).gecko
@[simp] theorem commitRec_pwr (s : State) (r : Rec) : (commitRec s r).pwr = s.pwr := (commitRec_log s _).pwr
@[simp] theorem commitRec_slots (s : State) (r : Rec) : (commitRec s r).slots = s.slots := (commitRec_log s _).slots
@[simp] theorem commitRec_sec (s : State) (r : Rec) : (commitRec s r).sec = s.sec := (commitRec_log s _).sec
@[simp] theorem commitRec_free (s : State) (r : Rec) : (commitRec s r).free = s.free := (commitRec_log s _).free

@[simp] theorem rescanAll_pending (s : State) : (rescanAll s).pending = s.pending := (rescanAll_log s).pending
@[simp] theorem rescanAll_obj (s : State) : (rescanAll s).obj = s.obj := (rescanAll_log s).obj
@[simp] theorem rescanAll_blob (s : State) : (rescanAll s).blob = s.blob := (rescanAll_log s).blob
@[simp] theorem rescanAll_chg (s : State) : (rescanAll s).chg = s.chg := (rescanAll_log s).chg
@[simp] theorem rescanAll_clock (s : State) : (rescanAll s).clock = s.clock := (rescanAll_log s).clock
@[simp] theorem rescanAll_mode (s : State) : (rescanAll s).mode = s.mode := (rescanAll_log s).mode
@[simp] theorem rescanAll_lanes (s : State) : (rescanAll s).lanes = s.lanes := (rescanAll_log s).lanes
@[simp] theorem rescanAll_groups (s : State) : (rescanAll s).groups = s.groups := (rescanAll_log s).groups
@[simp] theorem rescanAll_ports (s : State) : (rescanAll s).ports = s.ports := (rescanAll_log s).ports
@[simp] theorem rescanAll_fns (s : State) : (rescanAll s).fns = s.fns := (rescanAll_log s).fns
@[simp] theorem rescanAll_bridges (s : State) : (rescanAll s).bridges = s.bridges := (rescanAll_log s).bridges
@[simp] theorem rescanAll_ppb (s : State) : (rescanAll s).ppb = s.ppb := (rescanAll_log s).ppb
@[simp] theorem rescanAll_tiles (s : State) : (rescanAll s).tiles = s.tiles := (rescanAll_log s).tiles
@[simp] theorem rescanAll_links (s : State) : (rescanAll s).links = s.links := (rescanAll_log s).links
@[simp] theorem rescanAll_egress (s : State) : (rescanAll s).egress = s.egress := (rescanAll_log s).egress
@[simp] theorem rescanAll_txns (s : State) : (rescanAll s).txns = s.txns := (rescanAll_log s).txns
@[simp] theorem rescanAll_mem (s : State) : (rescanAll s).mem = s.mem := (rescanAll_log s).mem
@[simp] theorem rescanAll_pool (s : State) : (rescanAll s).pool = s.pool := (rescanAll_log s).pool
@[simp] theorem rescanAll_coh (s : State) : (rescanAll s).coh = s.coh := (rescanAll_log s).coh
@[simp] theorem rescanAll_lit (s : State) : (rescanAll s).lit = s.lit := (rescanAll_log s).lit
@[simp] theorem rescanAll_insts (s : State) : (rescanAll s).insts = s.insts := (rescanAll_log s).insts
@[simp] theorem rescanAll_qos (s : State) : (rescanAll s).qos = s.qos := (rescanAll_log s).qos
@[simp] theorem rescanAll_tele (s : State) : (rescanAll s).tele = s.tele := (rescanAll_log s).tele
@[simp] theorem rescanAll_gecko (s : State) : (rescanAll s).gecko = s.gecko := (rescanAll_log s).gecko
@[simp] theorem rescanAll_pwr (s : State) : (rescanAll s).pwr = s.pwr := (rescanAll_log s).pwr
@[simp] theorem rescanAll_slots (s : State) : (rescanAll s).slots = s.slots := (rescanAll_log s).slots
@[simp] theorem rescanAll_sec (s : State) : (rescanAll s).sec = s.sec := (rescanAll_log s).sec
@[simp] theorem rescanAll_free (s : State) : (rescanAll s).free = s.free := (rescanAll_log s).free

@[simp] theorem settleViews_pending (s : State) : (settleViews s).pending = s.pending := (settleViews_log s).pending
@[simp] theorem settleViews_obj (s : State) : (settleViews s).obj = s.obj := (settleViews_log s).obj
@[simp] theorem settleViews_blob (s : State) : (settleViews s).blob = s.blob := (settleViews_log s).blob
@[simp] theorem settleViews_chg (s : State) : (settleViews s).chg = s.chg := (settleViews_log s).chg
@[simp] theorem settleViews_clock (s : State) : (settleViews s).clock = s.clock := (settleViews_log s).clock
@[simp] theorem settleViews_mode (s : State) : (settleViews s).mode = s.mode := (settleViews_log s).mode
@[simp] theorem settleViews_lanes (s : State) : (settleViews s).lanes = s.lanes := (settleViews_log s).lanes
@[simp] theorem settleViews_groups (s : State) : (settleViews s).groups = s.groups := (settleViews_log s).groups
@[simp] theorem settleViews_ports (s : State) : (settleViews s).ports = s.ports := (settleViews_log s).ports
@[simp] theorem settleViews_fns (s : State) : (settleViews s).fns = s.fns := (settleViews_log s).fns
@[simp] theorem settleViews_bridges (s : State) : (settleViews s).bridges = s.bridges := (settleViews_log s).bridges
@[simp] theorem settleViews_ppb (s : State) : (settleViews s).ppb = s.ppb := (settleViews_log s).ppb
@[simp] theorem settleViews_tiles (s : State) : (settleViews s).tiles = s.tiles := (settleViews_log s).tiles
@[simp] theorem settleViews_links (s : State) : (settleViews s).links = s.links := (settleViews_log s).links
@[simp] theorem settleViews_egress (s : State) : (settleViews s).egress = s.egress := (settleViews_log s).egress
@[simp] theorem settleViews_txns (s : State) : (settleViews s).txns = s.txns := (settleViews_log s).txns
@[simp] theorem settleViews_mem (s : State) : (settleViews s).mem = s.mem := (settleViews_log s).mem
@[simp] theorem settleViews_pool (s : State) : (settleViews s).pool = s.pool := (settleViews_log s).pool
@[simp] theorem settleViews_coh (s : State) : (settleViews s).coh = s.coh := (settleViews_log s).coh
@[simp] theorem settleViews_lit (s : State) : (settleViews s).lit = s.lit := (settleViews_log s).lit
@[simp] theorem settleViews_insts (s : State) : (settleViews s).insts = s.insts := (settleViews_log s).insts
@[simp] theorem settleViews_qos (s : State) : (settleViews s).qos = s.qos := (settleViews_log s).qos
@[simp] theorem settleViews_tele (s : State) : (settleViews s).tele = s.tele := (settleViews_log s).tele
@[simp] theorem settleViews_gecko (s : State) : (settleViews s).gecko = s.gecko := (settleViews_log s).gecko
@[simp] theorem settleViews_pwr (s : State) : (settleViews s).pwr = s.pwr := (settleViews_log s).pwr
@[simp] theorem settleViews_slots (s : State) : (settleViews s).slots = s.slots := (settleViews_log s).slots
@[simp] theorem settleViews_sec (s : State) : (settleViews s).sec = s.sec := (settleViews_log s).sec
@[simp] theorem settleViews_free (s : State) : (settleViews s).free = s.free := (settleViews_log s).free

end Sys2Proof.Machine
end

