-- ==== Sys2Proof/Laws/Ops.lean ====
section
/-!
SUPPORT. What the shared operations read after they write: objects, status words, units, and the answered write.
-/
namespace Sys2Proof.Machine

open Sys2Proof

/-! Objects. -/

theorem look_put {α : Type} (d : α) (m : SMap α) (k j : Nat) (v : α) : look d (put m k v) j = if j = k then v else look d m j := by
  split
  · subst_vars
    exact look_put_same _ _ _ _
  · exact look_put_other _ _ (by assumption) _

theorem rd_wr (s : State) (i b q v i' b' q' : Nat) :
    rd (wr s i b q v) i' b' q' = if okey i' b' q' = okey i b q then v else rd s i' b' q' := by
  simp [rd, look_put]

@[simp] theorem rd_wr_same (s : State) (i b q v : Nat) : rd (wr s i b q v) i b q = v := by simp [rd_wr]

theorem rd_wr_other (s : State) {i b q i' b' q' : Nat} (v : Nat) (h : okey i' b' q' ≠ okey i b q) :
    rd (wr s i b q v) i' b' q' = rd s i' b' q' := by simp [rd_wr, h]

/-- Reading an object depends on the objects alone. -/
theorem rd_congr {s t : State} (h : t.obj = s.obj) (i b q : Nat) : rd t i b q = rd s i b q := by simp [rd, h]

@[simp] theorem rd_emit (s : State) (o : Out) (i b q : Nat) : rd (emit s o) i b q = rd s i b q := rfl
@[simp] theorem rd_bumpChange (s : State) (x y z i b q : Nat) : rd (bumpChange s x y z) i b q = rd s i b q := rfl
@[simp] theorem rd_freeNext (s : State) (i b q : Nat) : rd (freeNext s) i b q = rd s i b q := rfl
@[simp] theorem rd_wrTbl (s : State) (x y z n v i b q : Nat) : rd (wrTbl s x y z n v) i b q = rd s i b q := rfl
@[simp] theorem rd_wrBlob (s : State) (x y z : Nat) (v : List Byte) (i b q : Nat) : rd (wrBlob s x y z v) i b q = rd s i b q := rfl
@[simp] theorem rd_settleViews (s : State) (i b q : Nat) : rd (settleViews s) i b q = rd s i b q := rd_congr (by simp) i b q
@[simp] theorem rd_raise (s : State) (src c : Nat) (v : Severity) (ps : List Nat) (i b q : Nat) :
    rd (raise s src c v ps) i b q = rd s i b q := rd_congr (by simp) i b q
@[simp] theorem rd_raiseEv (s : State) (src c : Nat) (v : Severity) (p0 : Nat) (ps : List Nat) (a : Bool) (i b q : Nat) :
    rd (raiseEv s src c v p0 ps a) i b q = rd s i b q := rd_congr (by simp) i b q
@[simp] theorem rd_endLevel (s : State) (src c : Nat) (i b q : Nat) : rd (endLevel s src c) i b q = rd s i b q := rd_congr (by simp) i b q
@[simp] theorem rd_record (s : State) (v : Severity) (e src : Nat) (ps : List Nat) (i b q : Nat) :
    rd (record s v e src ps) i b q = rd s i b q := rd_congr (by simp) i b q

/-- Two objects of one index are the same key only when subindex and qualifier agree. -/
theorem okey_inj {i b q i' b' q' : Nat} (hb : b < 256) (hb' : b' < 256) (hq : q < 65536) (hq' : q' < 65536) :
    okey i b q = okey i' b' q' ↔ i = i' ∧ b = b' ∧ q = q' := by
  unfold okey
  omega

/-! The answered write. -/

/-- A write whose checks pass runs its handler and is answered with the handler's status. -/
theorem rowWrite_accepted {s : State} {r : Requester} {i b q : Nat} {v : List Byte} {f : State → State × Status} (h : accepted s r i b q v) :
    rowWrite s r i b q v f = answered (f s).1 i b q (f s).2 := by
  unfold accepted at h
  unfold rowWrite answered finishWrite
  rw [h]
  dsimp only
  split <;> simp_all

/-- A chunk write whose checks pass runs its handler and is answered with the handler's status. -/
theorem rowChunk_accepted {s : State} {r : Requester} {i b q : Nat} {f : State → State × Status} (h : chunkAccepted s r i b q) :
    rowChunk s r i b q f = chunkAnswered (f s).1 i b q (f s).2 := by
  unfold chunkAccepted at h
  unfold rowChunk chunkAnswered finishWrite
  rw [h]
  dsimp only
  split <;> simp_all

/-- A write whose checks fail changes nothing and is answered with the check's status. -/
theorem rowWrite_refused {s : State} {r : Requester} {i b q : Nat} {v : List Byte} {f : State → State × Status} {st : Status}
    (h : writeChecks s r (rowItem i b q v) = some st) : rowWrite s r i b q v f = emit s (.wrote i b q st) := by
  unfold rowWrite
  rw [h]

/-- A chunk write whose checks fail changes nothing and is answered with the check's status. -/
theorem rowChunk_refused {s : State} {r : Requester} {i b q : Nat} {f : State → State × Status} {st : Status}
    (h : chunkChecks s r (rowItem i b q []) = some st) : rowChunk s r i b q f = emit s (.wrote i b q st) := by
  unfold rowChunk
  rw [h]

/-- A request of a session in order does what its opcode does, and its tagged reply is sent and kept. -/
theorem odpRequest_inOrder {s : State} {t : Transport} {x : Session} {n : OdpMsg} (h : inOrder s t x n) (ho : n.opcode ≠ 0x01 ∧ n.opcode ≠ 0x02) :
    odpRequest s t n = afterOp (sessionOp (beforeOp s t x n) x n).1 x n (sessionOp (beforeOp s t x n) x n).2 := by
  obtain ⟨h1, h2, h3, h4, h5, h6, h7, -⟩ := h
  subst h4
  have h9 : ¬(x.proved = true ∧ ahead n.sequence.toNat x.high = false) := by
    rintro ⟨a, b⟩
    rw [h7 a] at b
    cases b
  simp only [odpRequest, h1, if_true, odpArrives, ho.1, ho.2, if_false, h2, h3, h5, ne_eq, not_true_eq_false, inSession, h6, if_neg h9,
    runInSession, Bool.true_eq_false]
  rfl

/-! Counting. -/

/-- An event counts: the telemetry counters alone change. -/
theorem smallEvent_eq (s : State) (u code n port : Nat) (inst : Option Nat) (cls : Nat) :
    ∃ x, smallEvent s u code n port inst cls = { s with tele := x } := by
  unfold smallEvent
  generalize List.range 8 = l
  suffices h : ∀ a : State, (∃ x, a = { s with tele := x }) → ∃ x, l.foldl (fun a k =>
      if controlCounts (controlRec a u k) code port inst cls then setCounter a u (k + 1) (addCount (counterWord a u (k + 1)) n) else a) a
        = { s with tele := x } from h s ⟨_, rfl⟩
  induction l with
  | nil => exact fun a h => h
  | cons k l ih =>
    rintro a ⟨x, rfl⟩
    refine ih _ ?_
    dsimp only
    split <;> exact ⟨_, rfl⟩

/-- A step is counted: its context's budget falls by 1 and its steps rise, its engine's step counter rises, and telemetry counts; nothing
else changes. -/
theorem account_eq (s : State) (c : Nat) : ∃ x, account s c =
    { bump (setCtx s c { getCtx s c with budget := (getCtx s c).budget - 1, steps := ((getCtx s c).steps + 1) % 2 ^ 32 })
        0x8000 3 (getCtx s c).engine 64 1 with tele := x } := by
  unfold account clusterEvent
  dsimp only
  obtain ⟨x, h⟩ := smallEvent_eq (bump (setCtx s c { getCtx s c with
    budget := (getCtx s c).budget - 1, steps := ((getCtx s c).steps + 1) % 2 ^ 32 }) 0x8000 3 (getCtx s c).engine 64 1)
    (32 + ctxCluster c) 0x20 1 0 (ctxInst (getCtx s c)) 0
  rw [h]
  split
  · exact ⟨_, rfl⟩
  · unfold instEvent
    split <;> exact ⟨_, rfl⟩

/-! Steps. -/

/-- A step that issues does its body after the spent cycle. -/
theorem issue_issues {s : State} {c op : Nat} {f : StepF} (h : issues s c op f) (body : State → State) : issue s c op f body = body (spent s c) := by
  obtain ⟨h1, h2, h3, h4, h5, h6⟩ := h
  simp [issue, spent, h1, h2, h3, h4, h5, h6]

/-- A step without a memory operation. -/
theorem plainStep_issues {s : State} {c op : Nat} {f : StepF} (h : issues s c op f) (g : Ctx → Ctx) : plainStep s c op f g = stepDone s c g := by
  rw [plainStep, issue_issues h]
  rfl

/-- A memory step that is aligned and whose granules all answer starts its accesses. -/
theorem memStep_issues {s u : State} {c op : Nat} {f : StepF} (h : issues s c op f) {align : List (Nat × Nat)} {touches : List Touch}
    (ha : align.find? (fun e => e.1 % e.2 != 0) = none) (accs : State → Ctx → List LineAcc) :
    presentAll (spent s c) c op f ((touches.flatMap fun t => (touchGranules t).map fun a => (a, t.write)).mergeSort
      fun a b => decide (a.1 ≤ b.1)) = (u, none) →
    memStep s c op f align touches accs =
      startPend u c { pendInit op f with accs := accs u (getCtx u c), addr := match touches with | t :: _ => t.addr | [] => 0 } := by
  intro hp
  rw [memStep.eq_def, issue_issues h]
  simp only [ha]
  rw [hp]
  all_goals cases touches <;> rfl

/-- A switched message whose cells find room is placed in its tile. -/
theorem switchMsg_placed {s : State} {m : Msg} {t : Nat} (ht : portTile m.src = t) (h : admits s t (switchCell m) = true) :
    switchMsg s m = placed s t (switchCell m) := by
  subst ht
  have hr : occupancy s (portTile m.src) (switchCell m).limit (switchCell m).cls + cellCount (switchCell m)
      ≤ limitNow s (portTile m.src) (switchCell m).limit (switchCell m).cls := by
    simp only [admits, decide_eq_true_eq] at h; exact h.1
  show enterCell s (portTile m.src) (switchCell m) = _
  rw [enterCell, if_pos hr, admitOrWait, if_pos h, placed]

/-- A port-based routed request whose entry names a port is forwarded there. -/
theorem pbrRequest_forwards {s : State} {p pid : Nat} (x : PbrReq) (h1 : takesPbr s p x = true) (h2 : modeHolding s = false)
    (h3 : bit (pbrRoute s p pid) 31 = true) (h4 : bits (pbrRoute s p pid) 30 28 = 0) :
    pbrRequest s p pid x = forwardTo (enterSwitched s p (pbrMsg x p p).cls (pbrOpcode x)).1
      { kind := pbrKind x, src := p, dst := pbrRoute s p pid % 64, tag := pbrTag x, sent := false, ndr := pbrNdr s p x,
        sample := (enterSwitched s p (pbrMsg x p p).cls (pbrOpcode x)).2 } (pbrMsg x p (pbrRoute s p pid % 64)) := by
  unfold pbrRequest
  rw [if_neg (by rw [h1]; decide), if_neg (by rw [h2, Bool.false_and]; decide)]
  extract_lets r e t miss
  rw [if_neg (by rw [h3]; decide), if_pos h4]
  cases x <;> rfl

/-- A port-based routed request whose entry names an instance enters it. -/
theorem pbrRequest_enters {s : State} {p pid off : Nat} {x : PbrReq} {a : Ask1} (h1 : takesPbr s p x = true) (h2 : modeHolding s = false)
    (h3 : bit (pbrRoute s p pid) 31 = true) (h4 : bits (pbrRoute s p pid) 30 28 ≠ 0) (h5 : rd s 0x5010 2 (pbrRoute s p pid % 4096) = 2)
    (h6 : pbrAsk x = some (off, a)) :
    pbrRequest s p pid x = enterInst s p (pbrRoute s p pid % 4096) (off / 64 * 64 + (if a.len = 64 then 0 else off % 64))
      (actingRole s p == 1 || iscVersion s p != 0) a := by
  unfold pbrRequest
  rw [if_neg (by rw [h1]; decide), if_neg (by rw [h2, Bool.false_and]; decide)]
  extract_lets r e t miss i
  rw [if_neg (by rw [h3]; decide), if_neg h4, if_neg (by rw [h5]; decide)]
  split
  · rename_i o m e1
    rw [h6] at e1
    cases e1
    rfl
  · rename_i e1
    rw [h6] at e1
    cases e1

/-- An SPDM request in its turn on a port with a responder, whose link is up, is served. -/
theorem spdmAsk_open {s : State} {p phase : Nat} (h0 : actingRole s p = 1 ∨ actingRole s p = 3) (h1 : linkUp s p = true)
    (h2 : phase ≤ (getSpdm s p).phase) (f : State → State) : spdmAsk s p phase f = f s := by
  rw [spdmAsk, if_neg, if_neg (by omega)]
  rintro (⟨a, b⟩ | a)
  · omega
  · rw [h1] at a; cases a

end Sys2Proof.Machine
end

