-- ==== Sys2Proof/Laws/PerInstr.lean ====
section
/-!
SUPPORT. Per command: the object that a row writes is one the dictionary names, and it may be written.
-/
namespace Sys2Proof.Laws.CommandForm

open Sys2Proof Sys2Proof.Machine

set_option maxRecDepth 20000

/-- The dictionary names an object that may be written. -/
def writable (idx sub : Nat) : Bool :=
  match descOf idx sub with
  | some d => d.acc != .ro
  | none => false

/-- The object that a row's write, or its chunk write, addresses is defined and may be written. -/
def Statement (i : Instr) : Prop :=
  (match rowOf i with | some x => writable x.2.1 x.2.2.1 | none => true) = true
    ∧ (match chunkRowOf i with | some x => writable x.2.1 x.2.2.1 | none => true) = true

/-- An extent's release object exists throughout the extent indices. -/
theorem writable_extent (e : ExtentN) : writable (extObj e.val) 3 = true := by
  have h : extObj e.val = 0x4100 ∨ extObj e.val = 0x4101 ∨ extObj e.val = 0x4102 ∨ extObj e.val = 0x4103 := by
    have := e.isLt
    unfold extObj
    omega
  rcases h with h | h | h | h <;> rw [h] <;> decide

theorem odpHello : ∀ a b, Statement (.odpHello a b) := fun _ _ => ⟨rfl, rfl⟩
theorem odpOpen : ∀ a b, Statement (.odpOpen a b) := fun _ _ => ⟨rfl, rfl⟩
theorem odpClose : ∀ a b, Statement (.odpClose a b) := fun _ _ => ⟨rfl, rfl⟩
theorem odpRead : ∀ a b, Statement (.odpRead a b) := fun _ _ => ⟨rfl, rfl⟩
theorem odpWrite : ∀ a b, Statement (.odpWrite a b) := fun _ _ => ⟨rfl, rfl⟩
theorem odpReadChunk : ∀ a b, Statement (.odpReadChunk a b) := fun _ _ => ⟨rfl, rfl⟩
theorem odpWriteChunk : ∀ a b, Statement (.odpWriteChunk a b) := fun _ _ => ⟨rfl, rfl⟩
theorem odpDescribe : ∀ a b, Statement (.odpDescribe a b) := fun _ _ => ⟨rfl, rfl⟩
theorem odpSubscribe : ∀ a b, Statement (.odpSubscribe a b) := fun _ _ => ⟨rfl, rfl⟩
theorem odpKeepalive : ∀ a b, Statement (.odpKeepalive a b) := fun _ _ => ⟨rfl, rfl⟩
theorem sessionIdleTimeout : ∀ a, Statement (.sessionIdleTimeout a) := fun _ => ⟨rfl, rfl⟩
theorem dictionaryReady : Statement .dictionaryReady := ⟨rfl, rfl⟩
theorem objectWrite : ∀ a, Statement (.objectWrite a) := fun _ => ⟨rfl, rfl⟩
theorem actualViewChange : ∀ a b, Statement (.actualViewChange a b) := fun _ _ => ⟨rfl, rfl⟩
theorem stateSkew : ∀ a, Statement (.stateSkew a) := fun _ => ⟨rfl, rfl⟩
theorem odwGo : Statement .odwGo := ⟨rfl, rfl⟩
theorem odwDone : Statement .odwDone := ⟨rfl, rfl⟩
theorem odwStatusClear : ∀ a b c, Statement (.odwStatusClear a b c) := fun _ _ _ => ⟨rfl, rfl⟩
theorem endpointDiscovery : Statement .endpointDiscovery := ⟨rfl, rfl⟩
theorem eidAssignment : ∀ a, Statement (.eidAssignment a) := fun _ => ⟨rfl, rfl⟩
theorem versionQuery : ∀ a, Statement (.versionQuery a) := fun _ => ⟨rfl, rfl⟩
theorem identifySwitchDevice : ∀ a, Statement (.identifySwitchDevice a) := fun _ => ⟨rfl, rfl⟩
theorem getPhysicalPortState : ∀ a b, Statement (.getPhysicalPortState a b) := fun _ _ => ⟨rfl, rfl⟩
theorem physicalPortControl : ∀ a b c, Statement (.physicalPortControl a b c) := fun _ _ _ => ⟨rfl, rfl⟩
theorem sendPpbCxlIoConfigurationRequest : ∀ a b c, Statement (.sendPpbCxlIoConfigurationRequest a b c) := fun _ _ _ => ⟨rfl, rfl⟩
theorem getVirtualCxlSwitchInfo : ∀ a b, Statement (.getVirtualCxlSwitchInfo a b) := fun _ _ => ⟨rfl, rfl⟩
theorem bindVppb : ∀ a b c d e, Statement (.bindVppb a b c d e) := fun _ _ _ _ _ => ⟨rfl, rfl⟩
theorem unbindVppb : ∀ a b c, Statement (.unbindVppb a b c) := fun _ _ _ => ⟨rfl, rfl⟩
theorem generateAerEvent : ∀ a b c d, Statement (.generateAerEvent a b c d) := fun _ _ _ _ => ⟨rfl, rfl⟩
theorem tunnelManagementCommand : ∀ a b c, Statement (.tunnelManagementCommand a b c) := fun _ _ _ => ⟨rfl, rfl⟩
theorem sendLdCxlIoConfigurationRequest : ∀ a b c d, Statement (.sendLdCxlIoConfigurationRequest a b c d) := fun _ _ _ _ => ⟨rfl, rfl⟩
theorem sendLdCxlIoMemoryRequest : ∀ a b c d, Statement (.sendLdCxlIoMemoryRequest a b c d) := fun _ _ _ _ => ⟨rfl, rfl⟩
theorem getLdInfo : ∀ a, Statement (.getLdInfo a) := fun _ => ⟨rfl, rfl⟩
theorem getLdAllocations : ∀ a b, Statement (.getLdAllocations a b) := fun _ _ => ⟨rfl, rfl⟩
theorem setLdAllocations : ∀ a b c d, Statement (.setLdAllocations a b c d) := fun _ _ _ _ => ⟨rfl, rfl⟩
theorem getQosControl : ∀ a b, Statement (.getQosControl a b) := fun _ _ => ⟨rfl, rfl⟩
theorem setQosControl : ∀ a b c d e, Statement (.setQosControl a b c d e) := fun _ _ _ _ _ => ⟨rfl, rfl⟩
theorem getQosStatus : ∀ a b, Statement (.getQosStatus a b) := fun _ _ => ⟨rfl, rfl⟩
theorem getQosAllocatedBw : ∀ a b c, Statement (.getQosAllocatedBw a b c) := fun _ _ _ => ⟨rfl, rfl⟩
theorem setQosAllocatedBw : ∀ a b c d, Statement (.setQosAllocatedBw a b c d) := fun _ _ _ _ => ⟨rfl, rfl⟩
theorem getQosBwLimit : ∀ a b c, Statement (.getQosBwLimit a b c) := fun _ _ _ => ⟨rfl, rfl⟩
theorem setQosBwLimit : ∀ a b c d, Statement (.setQosBwLimit a b c d) := fun _ _ _ _ => ⟨rfl, rfl⟩
theorem getDcdInfo : ∀ a, Statement (.getDcdInfo a) := fun _ => ⟨rfl, rfl⟩
theorem getHostDcRegionConfiguration : ∀ a b, Statement (.getHostDcRegionConfiguration a b) := fun _ _ => ⟨rfl, rfl⟩
theorem setDcRegionConfiguration : ∀ a b c d, Statement (.setDcRegionConfiguration a b c d) := fun _ _ _ _ => ⟨rfl, rfl⟩
theorem getDcdExtentLists : ∀ a b, Statement (.getDcdExtentLists a b) := fun _ _ => ⟨rfl, rfl⟩
theorem initiateDynamicCapacityAdd : ∀ a b, Statement (.initiateDynamicCapacityAdd a b) := fun _ _ => ⟨rfl, rfl⟩
theorem initiateDynamicCapacityRelease : ∀ a b c, Statement (.initiateDynamicCapacityRelease a b c) := fun _ _ _ => ⟨rfl, rfl⟩
theorem fmApiUnsupported : ∀ a b, Statement (.fmApiUnsupported a b) := fun _ _ => ⟨rfl, rfl⟩
theorem targetModeWrite : ∀ a b, Statement (.targetModeWrite a b) := fun _ _ => ⟨(by decide : writable 0x1200 1 = true), rfl⟩
theorem quiesceComplete : Statement .quiesceComplete := ⟨rfl, rfl⟩
theorem quiesceTimeout : Statement .quiesceTimeout := ⟨rfl, rfl⟩
theorem drainComplete : Statement .drainComplete := ⟨rfl, rfl⟩
theorem drainTimeout : Statement .drainTimeout := ⟨rfl, rfl⟩
theorem roleChangeTimeout : Statement .roleChangeTimeout := ⟨rfl, rfl⟩
theorem cfgInstall : ∀ a, Statement (.cfgInstall a) := fun _ => ⟨(by decide : writable 0x1211 2 = true), rfl⟩
theorem installComplete : ∀ a, Statement (.installComplete a) := fun _ => ⟨rfl, rfl⟩
theorem cfgActivate : ∀ a, Statement (.cfgActivate a) := fun _ => ⟨(by decide : writable 0x1212 1 = true), rfl⟩
theorem commitDelta : ∀ a, Statement (.commitDelta a) := fun _ => ⟨(by decide : writable 0x1213 1 = true), rfl⟩
theorem clearDelta : ∀ a, Statement (.clearDelta a) := fun _ => ⟨(by decide : writable 0x1213 2 = true), rfl⟩
theorem deviceReset : ∀ a, Statement (.deviceReset a) := fun _ => ⟨rfl, rfl⟩
theorem deviceResetIgnoreBootsel : ∀ a, Statement (.deviceResetIgnoreBootsel a) := fun _ => ⟨rfl, rfl⟩
theorem compatWrite : ∀ a b, Statement (.compatWrite a b) := fun _ _ => ⟨rfl, rfl⟩
theorem compatStatusClear : ∀ a b, Statement (.compatStatusClear a b) := fun _ _ => ⟨rfl, rfl⟩
theorem laneLock : ∀ a, Statement (.laneLock a) := fun _ => ⟨rfl, rfl⟩
theorem laneLockLoss : ∀ a, Statement (.laneLockLoss a) := fun _ => ⟨rfl, rfl⟩
theorem decisionWindowClose : ∀ a, Statement (.decisionWindowClose a) := fun _ => ⟨rfl, rfl⟩
theorem sparingRequest : ∀ a b, Statement (.sparingRequest a b) := fun _ _ => ⟨rfl, rfl⟩
theorem sparingAck : ∀ a, Statement (.sparingAck a) := fun _ => ⟨rfl, rfl⟩
theorem switchFlit : ∀ a, Statement (.switchFlit a) := fun _ => ⟨rfl, rfl⟩
theorem l0pWidthChange : ∀ a b c d, Statement (.l0pWidthChange a b c d) := fun _ _ _ _ => ⟨rfl, rfl⟩
theorem recoveryComplete : ∀ a b, Statement (.recoveryComplete a b) := fun _ _ => ⟨rfl, rfl⟩
theorem degradeThreshold : ∀ a, Statement (.degradeThreshold a) := fun _ => ⟨rfl, rfl⟩
theorem spareExchangeComplete : ∀ a b, Statement (.spareExchangeComplete a b) := fun _ _ => ⟨rfl, rfl⟩
theorem keepaliveLoss : ∀ a, Statement (.keepaliveLoss a) := fun _ => ⟨rfl, rfl⟩
theorem quiesceTarget : ∀ a b c, Statement (.quiesceTarget a b c) := fun _ _ _ => ⟨(by decide : writable 0x2140 1 = true), rfl⟩
theorem swapBack : ∀ a b, Statement (.swapBack a b) := fun _ _ => ⟨(by decide : writable 0x2140 11 = true), rfl⟩
theorem retireLane : ∀ a b c, Statement (.retireLane a b c) := fun _ _ _ => ⟨(by decide : writable 0x2140 12 = true), rfl⟩
theorem laneDirectionTarget : ∀ a b c d, Statement (.laneDirectionTarget a b c d) := fun _ _ _ _ => ⟨by
    show writable (dirIndex _) 1 = true
    unfold dirIndex
    split <;> decide, rfl⟩
theorem testTarget : ∀ a b c, Statement (.testTarget a b c) := fun _ _ _ => ⟨(by decide : writable 0x2110 1 = true), rfl⟩
theorem testLoopback : ∀ a b c, Statement (.testLoopback a b c) := fun _ _ _ => ⟨(by decide : writable 0x2110 4 = true), rfl⟩
theorem loopbackEntry : ∀ a, Statement (.loopbackEntry a) := fun _ => ⟨rfl, rfl⟩
theorem testInject : ∀ a b c, Statement (.testInject a b c) := fun _ _ _ => ⟨(by decide : writable 0x2110 5 = true), rfl⟩
theorem clearCounters : ∀ a b, Statement (.clearCounters a b) := fun _ _ => ⟨(by decide : writable 0x2110 9 = true), rfl⟩
theorem checkerSync : ∀ a, Statement (.checkerSync a) := fun _ => ⟨rfl, rfl⟩
theorem checkerSyncLoss : ∀ a b c, Statement (.checkerSyncLoss a b c) := fun _ _ _ => ⟨rfl, rfl⟩
theorem linkUp : ∀ a b, Statement (.linkUp a b) := fun _ _ => ⟨rfl, rfl⟩
theorem linkDown : ∀ a b c, Statement (.linkDown a b c) := fun _ _ _ => ⟨rfl, rfl⟩
theorem lateResponse : ∀ a b, Statement (.lateResponse a b) := fun _ _ => ⟨rfl, rfl⟩
theorem presenceChange : ∀ a b, Statement (.presenceChange a b) := fun _ _ => ⟨rfl, rfl⟩
theorem powerControllerControl : ∀ a b, Statement (.powerControllerControl a b) := fun _ _ => ⟨rfl, rfl⟩
theorem flitCrcError : ∀ a b c, Statement (.flitCrcError a b c) := fun _ _ _ => ⟨rfl, rfl⟩
theorem replayTimeout : ∀ a b, Statement (.replayTimeout a b) := fun _ _ => ⟨rfl, rfl⟩
theorem auditPeriod : ∀ a, Statement (.auditPeriod a) := fun _ => ⟨rfl, rfl⟩
theorem quietPoint : ∀ a b c, Statement (.quietPoint a b c) := fun _ _ _ => ⟨rfl, rfl⟩
theorem auditHoldTimeout : ∀ a, Statement (.auditHoldTimeout a) := fun _ => ⟨rfl, rfl⟩
theorem retrainDrainComplete : ∀ a, Statement (.retrainDrainComplete a) := fun _ => ⟨rfl, rfl⟩
theorem creditRetrainComplete : ∀ a b, Statement (.creditRetrainComplete a b) := fun _ _ => ⟨rfl, rfl⟩
theorem llreset : ∀ a, Statement (.llreset a) := fun _ => ⟨rfl, rfl⟩
theorem forceRetrain : ∀ a b, Statement (.forceRetrain a b) := fun _ _ => ⟨(by decide : writable 0x2210 9 = true), rfl⟩
theorem bmeClear : ∀ a b, Statement (.bmeClear a b) := fun _ _ => ⟨rfl, rfl⟩
theorem bmeSet : ∀ a b, Statement (.bmeSet a b) := fun _ _ => ⟨rfl, rfl⟩
theorem initiateFlr : ∀ a b, Statement (.initiateFlr a b) := fun _ _ => ⟨rfl, rfl⟩
theorem flrComplete : ∀ a b, Statement (.flrComplete a b) := fun _ _ => ⟨rfl, rfl⟩
theorem completionTimeout : ∀ a b c, Statement (.completionTimeout a b c) := fun _ _ _ => ⟨rfl, rfl⟩
theorem memrd : ∀ a b c d e, Statement (.memrd a b c d e) := fun _ _ _ _ _ => ⟨rfl, rfl⟩
theorem memrddata : ∀ a b c d, Statement (.memrddata a b c d) := fun _ _ _ _ => ⟨rfl, rfl⟩
theorem meminv : ∀ a b c d e, Statement (.meminv a b c d e) := fun _ _ _ _ _ => ⟨rfl, rfl⟩
theorem memwr : ∀ a b c d e f g, Statement (.memwr a b c d e f g) := fun _ _ _ _ _ _ _ => ⟨rfl, rfl⟩
theorem memclnevct : ∀ a b c d, Statement (.memclnevct a b c d) := fun _ _ _ _ => ⟨rfl, rfl⟩
theorem memspecrd : ∀ a b, Statement (.memspecrd a b) := fun _ _ => ⟨rfl, rfl⟩
theorem birsp : ∀ a b c d, Statement (.birsp a b c d) := fun _ _ _ _ => ⟨rfl, rfl⟩
theorem biconflict : ∀ a b, Statement (.biconflict a b) := fun _ _ => ⟨rfl, rfl⟩
theorem sliceResponse : ∀ a b c, Statement (.sliceResponse a b c) := fun _ _ _ => ⟨rfl, rfl⟩
theorem atomicop : ∀ a b c d e f g h, Statement (.atomicop a b c d e f g h) := fun _ _ _ _ _ _ _ _ => ⟨rfl, rfl⟩
theorem cxlIoRequest : ∀ a b, Statement (.cxlIoRequest a b) := fun _ _ => ⟨rfl, rfl⟩
theorem cxlIoCompletion : ∀ a b c d, Statement (.cxlIoCompletion a b c d) := fun _ _ _ _ => ⟨rfl, rfl⟩
theorem pbrRequest : ∀ a b c, Statement (.pbrRequest a b c) := fun _ _ _ => ⟨rfl, rfl⟩
theorem cxlCacheMessage : ∀ a b c d e f g, Statement (.cxlCacheMessage a b c d e f g) := fun _ _ _ _ _ _ _ => ⟨rfl, rfl⟩
theorem walkComplete : ∀ a b c, Statement (.walkComplete a b c) := fun _ _ _ => ⟨rfl, rfl⟩
theorem schedulerCycle : ∀ a, Statement (.schedulerCycle a) := fun _ => ⟨rfl, rfl⟩
theorem tidelinkFlit : ∀ a b c, Statement (.tidelinkFlit a b c) := fun _ _ _ => ⟨rfl, rfl⟩
theorem ackTimeout : ∀ a b, Statement (.ackTimeout a b) := fun _ _ => ⟨rfl, rfl⟩
theorem balancerPeriod : ∀ a, Statement (.balancerPeriod a) := fun _ => ⟨rfl, rfl⟩
theorem pathTableWrite : ∀ a b c d, Statement (.pathTableWrite a b c d) := fun _ _ _ _ => ⟨rfl, (by decide : writable 0x3210 1 = true)⟩
theorem fenceCell : ∀ a b c d, Statement (.fenceCell a b c d) := fun _ _ _ _ => ⟨rfl, rfl⟩
theorem fenceAck : ∀ a b c, Statement (.fenceAck a b c) := fun _ _ _ => ⟨rfl, rfl⟩
theorem tidelinkLaneLoss : ∀ a b c, Statement (.tidelinkLaneLoss a b c) := fun _ _ _ => ⟨rfl, rfl⟩
theorem tidelinkFailure : ∀ a, Statement (.tidelinkFailure a) := fun _ => ⟨rfl, rfl⟩
theorem dedupReport : ∀ a b c, Statement (.dedupReport a b c) := fun _ _ _ => ⟨rfl, rfl⟩
theorem dedupTimeout : ∀ a b, Statement (.dedupTimeout a b) := fun _ _ => ⟨rfl, rfl⟩
theorem tidelinkTarget : ∀ a b c, Statement (.tidelinkTarget a b c) := fun _ _ _ => ⟨(by decide : writable 0x3100 1 = true), rfl⟩
theorem tidelinkRepair : ∀ a b, Statement (.tidelinkRepair a b) := fun _ _ => ⟨(by decide : writable 0x3100 12 = true), rfl⟩
theorem beachcomberPass : ∀ a b, Statement (.beachcomberPass a b) := fun _ _ => ⟨rfl, rfl⟩
theorem resetToken : ∀ a b, Statement (.resetToken a b) := fun _ _ => ⟨rfl, rfl⟩
theorem crossingTimeout : ∀ a b, Statement (.crossingTimeout a b) := fun _ _ => ⟨rfl, rfl⟩
theorem tileReset : ∀ a b, Statement (.tileReset a b) := fun _ _ => ⟨(by decide : writable 0x3000 3 = true), rfl⟩
theorem tileTarget : ∀ a b c, Statement (.tileTarget a b c) := fun _ _ _ => ⟨(by decide : writable 0x3000 1 = true), rfl⟩
theorem tileInService : ∀ a, Statement (.tileInService a) := fun _ => ⟨rfl, rfl⟩
theorem grant : ∀ a b, Statement (.grant a b) := fun _ _ => ⟨(by decide : writable 0x4110 1 = true), rfl⟩
theorem addDynamicCapacityResponse : ∀ a b c, Statement (.addDynamicCapacityResponse a b c) := fun _ _ _ => ⟨rfl, rfl⟩
theorem offerTimeout : ∀ a, Statement (.offerTimeout a) := fun _ => ⟨rfl, rfl⟩
theorem extentRelease : ∀ a b, Statement (.extentRelease a b) := fun _ _ => ⟨writable_extent _, rfl⟩
theorem forcedRelease : ∀ a b, Statement (.forcedRelease a b) := fun _ _ => ⟨writable_extent _, rfl⟩
theorem releaseDynamicCapacity : ∀ a b, Statement (.releaseDynamicCapacity a b) := fun _ _ => ⟨rfl, rfl⟩
theorem cacheAck : ∀ a, Statement (.cacheAck a) := fun _ => ⟨rfl, rfl⟩
theorem releaseDrainTimeout : ∀ a, Statement (.releaseDrainTimeout a) := fun _ => ⟨rfl, rfl⟩
theorem releaseRequestsDone : ∀ a, Statement (.releaseRequestsDone a) := fun _ => ⟨rfl, rfl⟩
theorem scrubComplete : ∀ a b, Statement (.scrubComplete a b) := fun _ _ => ⟨rfl, rfl⟩
theorem targetPoolWrite : ∀ a b c, Statement (.targetPoolWrite a b c) := fun _ _ _ => ⟨(by decide : writable 0x4000 1 = true), rfl⟩
theorem joinComplete : ∀ a b, Statement (.joinComplete a b) := fun _ _ => ⟨rfl, rfl⟩
theorem drainDone : ∀ a, Statement (.drainDone a) := fun _ => ⟨rfl, rfl⟩
theorem linkReturnTimeout : ∀ a, Statement (.linkReturnTimeout a) := fun _ => ⟨rfl, rfl⟩
theorem nearTierWrite : ∀ a b c, Statement (.nearTierWrite a b c) := fun _ _ _ => ⟨(by decide : writable 0x4000 8 = true), rfl⟩
theorem pseudoChannelFailure : ∀ a b, Statement (.pseudoChannelFailure a b) := fun _ _ => ⟨rfl, rfl⟩
theorem retirePseudoChannel : ∀ a b c, Statement (.retirePseudoChannel a b c) := fun _ _ _ => ⟨(by decide : writable 0x4001 5 = true), rfl⟩
theorem rowRepair : ∀ a b c, Statement (.rowRepair a b c) := fun _ _ _ => ⟨rfl, rfl⟩
theorem clearCapture : ∀ a b c, Statement (.clearCapture a b c) := fun _ _ _ => ⟨(by decide : writable 0x4200 5 = true), rfl⟩
theorem recolour : ∀ a b, Statement (.recolour a b) := fun _ _ => ⟨(by decide : writable 0x4300 3 = true), rfl⟩
theorem tagQuery : ∀ a b, Statement (.tagQuery a b) := fun _ _ => ⟨(by decide : writable 0x4300 4 = true), rfl⟩
theorem biTimeout : ∀ a b, Statement (.biTimeout a b) := fun _ _ => ⟨rfl, rfl⟩
theorem rangeBackInvalidationComplete : ∀ a, Statement (.rangeBackInvalidationComplete a) := fun _ => ⟨rfl, rfl⟩
theorem holdWindowEnd : ∀ a, Statement (.holdWindowEnd a) := fun _ => ⟨rfl, rfl⟩
theorem lostHostScan : ∀ a, Statement (.lostHostScan a) := fun _ => ⟨rfl, rfl⟩
theorem cacheFlush : ∀ a b, Statement (.cacheFlush a b) := fun _ _ => ⟨(by decide : writable 0x6100 11 = true), rfl⟩
theorem dirLookup : ∀ a b c, Statement (.dirLookup a b c) := fun _ _ _ => ⟨(by decide : writable 0x6200 8 = true), rfl⟩
theorem iscSelectTimeout : ∀ a, Statement (.iscSelectTimeout a) := fun _ => ⟨rfl, rfl⟩
theorem epochEnd : ∀ a, Statement (.epochEnd a) := fun _ => ⟨rfl, rfl⟩
theorem moveRecallComplete : ∀ a, Statement (.moveRecallComplete a) := fun _ => ⟨rfl, rfl⟩
theorem moveCopyComplete : ∀ a, Statement (.moveCopyComplete a) := fun _ => ⟨rfl, rfl⟩
theorem cutOverComplete : ∀ a, Statement (.cutOverComplete a) := fun _ => ⟨rfl, rfl⟩
theorem lockGuardExpiry : ∀ a, Statement (.lockGuardExpiry a) := fun _ => ⟨rfl, rfl⟩
theorem releaseMessage : ∀ a b, Statement (.releaseMessage a b) := fun _ _ => ⟨rfl, rfl⟩
theorem moveSettle : ∀ a, Statement (.moveSettle a) := fun _ => ⟨rfl, rfl⟩
theorem sectorFill : ∀ a b, Statement (.sectorFill a b) := fun _ _ => ⟨rfl, rfl⟩
theorem littoralMove : ∀ a b, Statement (.littoralMove a b) := fun _ _ => ⟨(by decide : writable 0x6830 1 = true), rfl⟩
theorem invocationStart : ∀ a b, Statement (.invocationStart a b) := fun _ _ => ⟨rfl, rfl⟩
theorem bindingsWrite : ∀ a b c d, Statement (.bindingsWrite a b c d) := fun _ _ _ _ => ⟨rfl, (by decide : writable 0x8000 7 = true)⟩
theorem memoryReply : ∀ a b c, Statement (.memoryReply a b c) := fun _ _ _ => ⟨rfl, rfl⟩
theorem timerExpiry : ∀ a, Statement (.timerExpiry a) := fun _ => ⟨rfl, rfl⟩
theorem waitCycle : ∀ a b, Statement (.waitCycle a b) := fun _ _ => ⟨rfl, rfl⟩
theorem engineFailure : ∀ a, Statement (.engineFailure a) := fun _ => ⟨rfl, rfl⟩
theorem engineOutOfService : ∀ a b, Statement (.engineOutOfService a b) := fun _ _ => ⟨(by decide : writable 0x8000 1 = true), rfl⟩
theorem engineReturn : ∀ a b, Statement (.engineReturn a b) := fun _ _ => ⟨(by decide : writable 0x8000 1 = true), rfl⟩
theorem builtInCheckComplete : ∀ a b, Statement (.builtInCheckComplete a b) := fun _ _ => ⟨rfl, rfl⟩
theorem contextMoveBack : ∀ a, Statement (.contextMoveBack a) := fun _ => ⟨rfl, rfl⟩
theorem tableLoad : ∀ a b, Statement (.tableLoad a b) := fun _ _ => ⟨(by decide : writable 0x8110 2 = true), rfl⟩
theorem tableUnload : ∀ a b, Statement (.tableUnload a b) := fun _ _ => ⟨(by decide : writable 0x8100 11 = true), rfl⟩
theorem unloadTimeout : ∀ a, Statement (.unloadTimeout a) := fun _ => ⟨rfl, rfl⟩
theorem stopContext : ∀ a b c, Statement (.stopContext a b c) := fun _ _ _ => ⟨(by decide : writable 0x8001 1 = true), rfl⟩
theorem stepNop : ∀ a b, Statement (.stepNop a b) := fun _ _ => ⟨rfl, rfl⟩
theorem stepEnd : ∀ a b, Statement (.stepEnd a b) := fun _ _ => ⟨rfl, rfl⟩
theorem stepYield : ∀ a b, Statement (.stepYield a b) := fun _ _ => ⟨rfl, rfl⟩
theorem stepWait : ∀ a b, Statement (.stepWait a b) := fun _ _ => ⟨rfl, rfl⟩
theorem stepSignal : ∀ a b, Statement (.stepSignal a b) := fun _ _ => ⟨rfl, rfl⟩
theorem stepTimer : ∀ a b, Statement (.stepTimer a b) := fun _ _ => ⟨rfl, rfl⟩
theorem stepSysr : ∀ a b, Statement (.stepSysr a b) := fun _ _ => ⟨rfl, rfl⟩
theorem stepRdf : ∀ a b, Statement (.stepRdf a b) := fun _ _ => ⟨rfl, rfl⟩
theorem stepWrf : ∀ a b, Statement (.stepWrf a b) := fun _ _ => ⟨rfl, rfl⟩
theorem stepBr : ∀ a b, Statement (.stepBr a b) := fun _ _ => ⟨rfl, rfl⟩
theorem stepLoop : ∀ a b, Statement (.stepLoop a b) := fun _ _ => ⟨rfl, rfl⟩
theorem stepMov : ∀ a b, Statement (.stepMov a b) := fun _ _ => ⟨rfl, rfl⟩
theorem stepCsel : ∀ a b, Statement (.stepCsel a b) := fun _ _ => ⟨rfl, rfl⟩
theorem stepSext : ∀ a b, Statement (.stepSext a b) := fun _ _ => ⟨rfl, rfl⟩
theorem stepAdd : ∀ a b, Statement (.stepAdd a b) := fun _ _ => ⟨rfl, rfl⟩
theorem stepAdc : ∀ a b, Statement (.stepAdc a b) := fun _ _ => ⟨rfl, rfl⟩
theorem stepSub : ∀ a b, Statement (.stepSub a b) := fun _ _ => ⟨rfl, rfl⟩
theorem stepSbb : ∀ a b, Statement (.stepSbb a b) := fun _ _ => ⟨rfl, rfl⟩
theorem stepNeg : ∀ a b, Statement (.stepNeg a b) := fun _ _ => ⟨rfl, rfl⟩
theorem stepCmp : ∀ a b, Statement (.stepCmp a b) := fun _ _ => ⟨rfl, rfl⟩
theorem stepMul : ∀ a b, Statement (.stepMul a b) := fun _ _ => ⟨rfl, rfl⟩
theorem stepMulhu : ∀ a b, Statement (.stepMulhu a b) := fun _ _ => ⟨rfl, rfl⟩
theorem stepMulhs : ∀ a b, Statement (.stepMulhs a b) := fun _ _ => ⟨rfl, rfl⟩
theorem stepDivu : ∀ a b, Statement (.stepDivu a b) := fun _ _ => ⟨rfl, rfl⟩
theorem stepDivs : ∀ a b, Statement (.stepDivs a b) := fun _ _ => ⟨rfl, rfl⟩
theorem stepRemu : ∀ a b, Statement (.stepRemu a b) := fun _ _ => ⟨rfl, rfl⟩
theorem stepRems : ∀ a b, Statement (.stepRems a b) := fun _ _ => ⟨rfl, rfl⟩
theorem stepMinu : ∀ a b, Statement (.stepMinu a b) := fun _ _ => ⟨rfl, rfl⟩
theorem stepMaxu : ∀ a b, Statement (.stepMaxu a b) := fun _ _ => ⟨rfl, rfl⟩
theorem stepMins : ∀ a b, Statement (.stepMins a b) := fun _ _ => ⟨rfl, rfl⟩
theorem stepMaxs : ∀ a b, Statement (.stepMaxs a b) := fun _ _ => ⟨rfl, rfl⟩
theorem stepAnd : ∀ a b, Statement (.stepAnd a b) := fun _ _ => ⟨rfl, rfl⟩
theorem stepOr : ∀ a b, Statement (.stepOr a b) := fun _ _ => ⟨rfl, rfl⟩
theorem stepXor : ∀ a b, Statement (.stepXor a b) := fun _ _ => ⟨rfl, rfl⟩
theorem stepTst : ∀ a b, Statement (.stepTst a b) := fun _ _ => ⟨rfl, rfl⟩
theorem stepLsl : ∀ a b, Statement (.stepLsl a b) := fun _ _ => ⟨rfl, rfl⟩
theorem stepLsr : ∀ a b, Statement (.stepLsr a b) := fun _ _ => ⟨rfl, rfl⟩
theorem stepAsr : ∀ a b, Statement (.stepAsr a b) := fun _ _ => ⟨rfl, rfl⟩
theorem stepRol : ∀ a b, Statement (.stepRol a b) := fun _ _ => ⟨rfl, rfl⟩
theorem stepRor : ∀ a b, Statement (.stepRor a b) := fun _ _ => ⟨rfl, rfl⟩
theorem stepPopc : ∀ a b, Statement (.stepPopc a b) := fun _ _ => ⟨rfl, rfl⟩
theorem stepClz : ∀ a b, Statement (.stepClz a b) := fun _ _ => ⟨rfl, rfl⟩
theorem stepBswap : ∀ a b, Statement (.stepBswap a b) := fun _ _ => ⟨rfl, rfl⟩
theorem stepCrc : ∀ a b, Statement (.stepCrc a b) := fun _ _ => ⟨rfl, rfl⟩
theorem stepLcrc : ∀ a b, Statement (.stepLcrc a b) := fun _ _ => ⟨rfl, rfl⟩
theorem stepSld : ∀ a b, Statement (.stepSld a b) := fun _ _ => ⟨rfl, rfl⟩
theorem stepSst : ∀ a b, Statement (.stepSst a b) := fun _ _ => ⟨rfl, rfl⟩
theorem stepLd : ∀ a b, Statement (.stepLd a b) := fun _ _ => ⟨rfl, rfl⟩
theorem stepSt : ∀ a b, Statement (.stepSt a b) := fun _ _ => ⟨rfl, rfl⟩
theorem stepLcopy : ∀ a b, Statement (.stepLcopy a b) := fun _ _ => ⟨rfl, rfl⟩
theorem stepLfill : ∀ a b, Statement (.stepLfill a b) := fun _ _ => ⟨rfl, rfl⟩
theorem stepLcmp : ∀ a b, Statement (.stepLcmp a b) := fun _ _ => ⟨rfl, rfl⟩
theorem stepAadd : ∀ a b, Statement (.stepAadd a b) := fun _ _ => ⟨rfl, rfl⟩
theorem stepAswp : ∀ a b, Statement (.stepAswp a b) := fun _ _ => ⟨rfl, rfl⟩
theorem stepAcas : ∀ a b, Statement (.stepAcas a b) := fun _ _ => ⟨rfl, rfl⟩
theorem stepAcas128 : ∀ a b, Statement (.stepAcas128 a b) := fun _ _ => ⟨rfl, rfl⟩
theorem stepXld : ∀ a b, Statement (.stepXld a b) := fun _ _ => ⟨rfl, rfl⟩
theorem stepXst : ∀ a b, Statement (.stepXst a b) := fun _ _ => ⟨rfl, rfl⟩
theorem stepXcpy : ∀ a b, Statement (.stepXcpy a b) := fun _ _ => ⟨rfl, rfl⟩
theorem stepHld : ∀ a b, Statement (.stepHld a b) := fun _ _ => ⟨rfl, rfl⟩
theorem stepHcmt : ∀ a b, Statement (.stepHcmt a b) := fun _ _ => ⟨rfl, rfl⟩
theorem stepBisnp : ∀ a b c d, Statement (.stepBisnp a b c d) := fun _ _ _ _ => ⟨rfl, rfl⟩
theorem stepDlswap : ∀ a b c, Statement (.stepDlswap a b c) := fun _ _ _ => ⟨rfl, rfl⟩
theorem stepCntrd : ∀ a b c d, Statement (.stepCntrd a b c d) := fun _ _ _ _ => ⟨rfl, rfl⟩
theorem stepRmap : ∀ a b c d e, Statement (.stepRmap a b c d e) := fun _ _ _ _ _ => ⟨rfl, rfl⟩
theorem stepHeat : ∀ a b c d, Statement (.stepHeat a b c d) := fun _ _ _ _ => ⟨rfl, rfl⟩
theorem stepNotify : ∀ a b c d e, Statement (.stepNotify a b c d e) := fun _ _ _ _ _ => ⟨rfl, rfl⟩
theorem undefinedStep : ∀ a b, Statement (.undefinedStep a b) := fun _ _ => ⟨rfl, rfl⟩
theorem instCreate : ∀ a b, Statement (.instCreate a b) := fun _ _ => ⟨(by decide : writable 0x5001 1 = true), rfl⟩
theorem instDestroy : ∀ a b, Statement (.instDestroy a b) := fun _ _ => ⟨(by decide : writable 0x5000 3 = true), rfl⟩
theorem destroyComplete : ∀ a, Statement (.destroyComplete a) := fun _ => ⟨rfl, rfl⟩
theorem instBind : ∀ a b c d, Statement (.instBind a b c d) := fun _ _ _ _ => ⟨by
    show writable 0x5010 (bindSub _) = true
    unfold bindSub
    split <;> decide, rfl⟩
theorem instUnbind : ∀ a, Statement (.instUnbind a) := fun _ => ⟨rfl, rfl⟩
theorem hdmDecoderCommit : ∀ a b c, Statement (.hdmDecoderCommit a b c) := fun _ _ _ => ⟨rfl, rfl⟩
theorem identifyMemoryDevice : ∀ a, Statement (.identifyMemoryDevice a) := fun _ => ⟨rfl, rfl⟩
theorem getSupportedLogs : ∀ a, Statement (.getSupportedLogs a) := fun _ => ⟨rfl, rfl⟩
theorem getLog : ∀ a b c, Statement (.getLog a b c) := fun _ _ _ => ⟨rfl, rfl⟩
theorem getEventRecords : ∀ a b, Statement (.getEventRecords a b) := fun _ _ => ⟨rfl, rfl⟩
theorem clearEventRecords : ∀ a b c, Statement (.clearEventRecords a b c) := fun _ _ _ => ⟨rfl, rfl⟩
theorem getEventInterruptPolicy : ∀ a, Statement (.getEventInterruptPolicy a) := fun _ => ⟨rfl, rfl⟩
theorem setEventInterruptPolicy : ∀ a b, Statement (.setEventInterruptPolicy a b) := fun _ _ => ⟨rfl, rfl⟩
theorem getHealthInfo : ∀ a, Statement (.getHealthInfo a) := fun _ => ⟨rfl, rfl⟩
theorem getTimestamp : ∀ a, Statement (.getTimestamp a) := fun _ => ⟨rfl, rfl⟩
theorem getPoisonList : ∀ a b c, Statement (.getPoisonList a b c) := fun _ _ _ => ⟨rfl, rfl⟩
theorem getDynamicCapacityConfiguration : ∀ a b c, Statement (.getDynamicCapacityConfiguration a b c) := fun _ _ _ => ⟨rfl, rfl⟩
theorem getDynamicCapacityExtentList : ∀ a b c, Statement (.getDynamicCapacityExtentList a b c) := fun _ _ _ => ⟨rfl, rfl⟩
theorem mailboxUnsupported : ∀ a b, Statement (.mailboxUnsupported a b) := fun _ _ => ⟨rfl, rfl⟩
theorem dictionaryRequest : ∀ a b, Statement (.dictionaryRequest a b) := fun _ _ => ⟨rfl, rfl⟩
theorem submitInvocations : ∀ a b c, Statement (.submitInvocations a b c) := fun _ _ _ => ⟨rfl, rfl⟩
theorem getCompletions : ∀ a b c, Statement (.getCompletions a b c) := fun _ _ _ => ⟨rfl, rfl⟩
theorem loadStepTable : ∀ a b, Statement (.loadStepTable a b) := fun _ _ => ⟨rfl, rfl⟩
theorem unloadStepTable : ∀ a b, Statement (.unloadStepTable a b) := fun _ _ => ⟨rfl, rfl⟩
theorem getNotices : ∀ a b, Statement (.getNotices a b) := fun _ _ => ⟨rfl, rfl⟩
theorem acknowledgeNotices : ∀ a b, Statement (.acknowledgeNotices a b) := fun _ _ => ⟨rfl, rfl⟩
theorem confirmFlush : ∀ a b c, Statement (.confirmFlush a b c) := fun _ _ _ => ⟨rfl, rfl⟩
theorem postNotice : ∀ a b c, Statement (.postNotice a b c) := fun _ _ _ => ⟨(by decide : writable 0x5100 1 = true), rfl⟩
theorem dirtyStart : ∀ a b, Statement (.dirtyStart a b) := fun _ _ => ⟨(by decide : writable 0x5200 1 = true), rfl⟩
theorem dirtyStop : ∀ a b, Statement (.dirtyStop a b) := fun _ _ => ⟨(by decide : writable 0x5200 2 = true), rfl⟩
theorem dirtyHarvest : ∀ a b c, Statement (.dirtyHarvest a b c) := fun _ _ _ => ⟨(by decide : writable 0x5200 3 = true), rfl⟩
theorem harvestTick : Statement .harvestTick := ⟨rfl, rfl⟩
theorem markFlushComplete : ∀ a, Statement (.markFlushComplete a) := fun _ => ⟨rfl, rfl⟩
theorem bitmapClearComplete : ∀ a, Statement (.bitmapClearComplete a) := fun _ => ⟨rfl, rfl⟩
theorem harvestTransferComplete : ∀ a, Statement (.harvestTransferComplete a) := fun _ => ⟨rfl, rfl⟩
theorem meterRefill : ∀ a, Statement (.meterRefill a) := fun _ => ⟨rfl, rfl⟩
theorem egressSchedule : ∀ a, Statement (.egressSchedule a) := fun _ => ⟨rfl, rfl⟩
theorem clearOverflow : ∀ a b c d, Statement (.clearOverflow a b c d) := fun _ _ _ _ => ⟨(by decide : writable 0xB000 4 = true), rfl⟩
theorem instanceClearOverflow : ∀ a b, Statement (.instanceClearOverflow a b) := fun _ _ => ⟨(by decide : writable 0xB010 2 = true), rfl⟩
theorem controlRecordWrite : ∀ a b c d, Statement (.controlRecordWrite a b c d) := fun _ _ _ _ => ⟨rfl, (by decide : writable 0xB000 3 = true)⟩
theorem windowStart : ∀ a b, Statement (.windowStart a b) := fun _ _ => ⟨(by decide : writable 0xB200 3 = true), rfl⟩
theorem windowStop : ∀ a b, Statement (.windowStop a b) := fun _ _ => ⟨(by decide : writable 0xB200 4 = true), rfl⟩
theorem windowEnd : ∀ a, Statement (.windowEnd a) := fun _ => ⟨rfl, rfl⟩
theorem causeOccurrence : ∀ a b c d, Statement (.causeOccurrence a b c d) := fun _ _ _ _ => ⟨rfl, rfl⟩
theorem faultClear : ∀ a b c d, Statement (.faultClear a b c d) := fun _ _ _ _ => ⟨rfl, rfl⟩
theorem faultClearAll : ∀ a, Statement (.faultClearAll a) := fun _ => ⟨(by decide : writable 0xC010 4 = true), rfl⟩
theorem levelUnlatch : ∀ a b, Statement (.levelUnlatch a b) := fun _ _ => ⟨rfl, rfl⟩
theorem faultRescan : Statement .faultRescan := ⟨rfl, rfl⟩
theorem recordCommit : Statement .recordCommit := ⟨rfl, rfl⟩
theorem storeFailure : Statement .storeFailure := ⟨rfl, rfl⟩
theorem retryStore : ∀ a b, Statement (.retryStore a b) := fun _ _ => ⟨(by decide : writable 0xC100 7 = true), rfl⟩
theorem strandErase : ∀ a, Statement (.strandErase a) := fun _ => ⟨(by decide : writable 0xC100 6 = true), rfl⟩
theorem secondsSave : Statement .secondsSave := ⟨rfl, rfl⟩
theorem domainTarget : ∀ a b c, Statement (.domainTarget a b c) := fun _ _ _ => ⟨(by decide : writable 0x9000 1 = true), rfl⟩
theorem blockAnswer : ∀ a b c, Statement (.blockAnswer a b c) := fun _ _ _ => ⟨rfl, rfl⟩
theorem delayTimeout : ∀ a b, Statement (.delayTimeout a b) := fun _ _ => ⟨rfl, rfl⟩
theorem domainEntryComplete : ∀ a, Statement (.domainEntryComplete a) := fun _ => ⟨rfl, rfl⟩
theorem bankEmpty : ∀ a b, Statement (.bankEmpty a b) := fun _ _ => ⟨rfl, rfl⟩
theorem wakeSource : ∀ a b, Statement (.wakeSource a b) := fun _ _ => ⟨rfl, rfl⟩
theorem idleTime : ∀ a, Statement (.idleTime a) := fun _ => ⟨rfl, rfl⟩
theorem pllLock : ∀ a, Statement (.pllLock a) := fun _ => ⟨rfl, rfl⟩
theorem pllLockTimeout : ∀ a, Statement (.pllLockTimeout a) := fun _ => ⟨rfl, rfl⟩
theorem forceOff : ∀ a b, Statement (.forceOff a b) := fun _ _ => ⟨(by decide : writable 0x9000 8 = true), rfl⟩
theorem droopCrossing : ∀ a b c, Statement (.droopCrossing a b c) := fun _ _ _ => ⟨rfl, rfl⟩
theorem stretchRelease : ∀ a b c, Statement (.stretchRelease a b c) := fun _ _ _ => ⟨rfl, rfl⟩
theorem stretchTimeout : ∀ a, Statement (.stretchTimeout a) := fun _ => ⟨rfl, rfl⟩
theorem thermalThreshold : ∀ a b, Statement (.thermalThreshold a b) := fun _ _ => ⟨rfl, rfl⟩
theorem thermalHoldEnd : ∀ a, Statement (.thermalHoldEnd a) := fun _ => ⟨rfl, rfl⟩
theorem thermalTrip : ∀ a, Statement (.thermalTrip a) := fun _ => ⟨rfl, rfl⟩
theorem avsAck : ∀ a, Statement (.avsAck a) := fun _ => ⟨rfl, rfl⟩
theorem avsTimeout : ∀ a, Statement (.avsTimeout a) := fun _ => ⟨rfl, rfl⟩
theorem phaseLost : ∀ a b, Statement (.phaseLost a b) := fun _ _ => ⟨rfl, rfl⟩
theorem pwrokTFall : ∀ a, Statement (.pwrokTFall a) := fun _ => ⟨rfl, rfl⟩
theorem railMonitor : ∀ a, Statement (.railMonitor a) := fun _ => ⟨rfl, rfl⟩
theorem slotTarget : ∀ a b c, Statement (.slotTarget a b c) := fun _ _ _ => ⟨(by decide : writable 0xA000 1 = true), rfl⟩
theorem slotEnRise : ∀ a b, Statement (.slotEnRise a b) := fun _ _ => ⟨rfl, rfl⟩
theorem slotEnFall : ∀ a, Statement (.slotEnFall a) := fun _ => ⟨rfl, rfl⟩
theorem slotStagger : ∀ a, Statement (.slotStagger a) := fun _ => ⟨rfl, rfl⟩
theorem powerGood : ∀ a b, Statement (.powerGood a b) := fun _ _ => ⟨rfl, rfl⟩
theorem startTimeout : ∀ a, Statement (.startTimeout a) := fun _ => ⟨rfl, rfl⟩
theorem breakerTrip : ∀ a, Statement (.breakerTrip a) := fun _ => ⟨rfl, rfl⟩
theorem fastTrip : ∀ a b, Statement (.fastTrip a b) := fun _ _ => ⟨rfl, rfl⟩
theorem fetTemperatureTrip : ∀ a, Statement (.fetTemperatureTrip a) := fun _ => ⟨rfl, rfl⟩
theorem modelUpdate : ∀ a b, Statement (.modelUpdate a b) := fun _ _ => ⟨rfl, rfl⟩
theorem channelCheck : ∀ a b c, Statement (.channelCheck a b c) := fun _ _ _ => ⟨rfl, rfl⟩
theorem channelDisagreement : ∀ a b c, Statement (.channelDisagreement a b c) := fun _ _ _ => ⟨rfl, rfl⟩
theorem slotPwrwarn : ∀ a b, Statement (.slotPwrwarn a b) := fun _ _ => ⟨rfl, rfl⟩
theorem pwrwarnRecovery : ∀ a, Statement (.pwrwarnRecovery a) := fun _ => ⟨rfl, rfl⟩
theorem inputLoss : ∀ a b, Statement (.inputLoss a b) := fun _ _ => ⟨rfl, rfl⟩
theorem warningLeadEnd : ∀ a, Statement (.warningLeadEnd a) := fun _ => ⟨rfl, rfl⟩
theorem stopComplete : ∀ a, Statement (.stopComplete a) := fun _ => ⟨rfl, rfl⟩
theorem offTimeEnd : ∀ a, Statement (.offTimeEnd a) := fun _ => ⟨rfl, rfl⟩
theorem powerOn : ∀ a, Statement (.powerOn a) := fun _ => ⟨rfl, rfl⟩
theorem pwrokAonFall : Statement .pwrokAonFall := ⟨rfl, rfl⟩
theorem perstN : ∀ a, Statement (.perstN a) := fun _ => ⟨rfl, rfl⟩
theorem bootComplete : Statement .bootComplete := ⟨rfl, rfl⟩
theorem fwBegin : ∀ a b, Statement (.fwBegin a b) := fun _ _ => ⟨(by decide : writable 0xD100 6 = true), rfl⟩
theorem fwDownload : ∀ a b c d, Statement (.fwDownload a b c d) := fun _ _ _ _ => ⟨rfl, (by decide : writable 0xD100 5 = true)⟩
theorem fwVerify : ∀ a, Statement (.fwVerify a) := fun _ => ⟨(by decide : writable 0xD100 7 = true), rfl⟩
theorem activateFirmware : ∀ a, Statement (.activateFirmware a) := fun _ => ⟨(by decide : writable 0xD100 8 = true), rfl⟩
theorem applyMicrocode : ∀ a, Statement (.applyMicrocode a) := fun _ => ⟨(by decide : writable 0xD100 11 = true), rfl⟩
theorem fwConfirm : ∀ a, Statement (.fwConfirm a) := fun _ => ⟨(by decide : writable 0xD100 9 = true), rfl⟩
theorem fwRevert : ∀ a, Statement (.fwRevert a) := fun _ => ⟨(by decide : writable 0xD100 12 = true), rfl⟩
theorem setCredential : ∀ a b, Statement (.setCredential a b) := fun _ _ => ⟨(by decide : writable 0xD000 2 = true), rfl⟩
theorem enrollKey : ∀ a b, Statement (.enrollKey a b) := fun _ _ => ⟨(by decide : writable 0xD000 4 = true), rfl⟩
theorem revokeKey : ∀ a b, Statement (.revokeKey a b) := fun _ _ => ⟨(by decide : writable 0xD000 5 = true), rfl⟩
theorem raiseFloor : ∀ a, Statement (.raiseFloor a) := fun _ => ⟨(by decide : writable 0xD000 7 = true), rfl⟩
theorem revokeRootKey : ∀ a b, Statement (.revokeRootKey a b) := fun _ _ => ⟨rfl, rfl⟩
theorem getVersion : ∀ a, Statement (.getVersion a) := fun _ => ⟨rfl, rfl⟩
theorem getCapabilities : ∀ a, Statement (.getCapabilities a) := fun _ => ⟨rfl, rfl⟩
theorem negotiateAlgorithms : ∀ a b, Statement (.negotiateAlgorithms a b) := fun _ _ => ⟨rfl, rfl⟩
theorem getDigests : ∀ a, Statement (.getDigests a) := fun _ => ⟨rfl, rfl⟩
theorem getCertificate : ∀ a b c d, Statement (.getCertificate a b c d) := fun _ _ _ _ => ⟨rfl, rfl⟩
theorem spdmChallenge : ∀ a b c, Statement (.spdmChallenge a b c) := fun _ _ _ => ⟨rfl, rfl⟩
theorem getMeasurements : ∀ a b c, Statement (.getMeasurements a b c) := fun _ _ _ => ⟨rfl, rfl⟩
theorem keyExchange : ∀ a b, Statement (.keyExchange a b) := fun _ _ => ⟨rfl, rfl⟩
theorem spdmFinish : ∀ a b c, Statement (.spdmFinish a b c) := fun _ _ _ => ⟨rfl, rfl⟩
theorem endSession : ∀ a b, Statement (.endSession a b) := fun _ _ => ⟨rfl, rfl⟩
theorem keyProg : ∀ a b c d e, Statement (.keyProg a b c d e) := fun _ _ _ _ _ => ⟨rfl, rfl⟩
theorem kSetGo : ∀ a b c d, Statement (.kSetGo a b c d) := fun _ _ _ _ => ⟨rfl, rfl⟩
theorem ideRefresh : ∀ a, Statement (.ideRefresh a) := fun _ => ⟨rfl, rfl⟩
theorem ideIntegrityFailure : ∀ a b, Statement (.ideIntegrityFailure a b) := fun _ _ => ⟨rfl, rfl⟩
theorem attestNow : ∀ a b, Statement (.attestNow a b) := fun _ _ => ⟨(by decide : writable 0xD010 6 = true), rfl⟩
theorem sramBist : ∀ a b, Statement (.sramBist a b) := fun _ _ => ⟨(by decide : writable 0xE000 1 = true), rfl⟩
theorem hbmBist : ∀ a b, Statement (.hbmBist a b) := fun _ _ => ⟨(by decide : writable 0xE000 1 = true), rfl⟩
theorem receiverCalibration : ∀ a b, Statement (.receiverCalibration a b) := fun _ _ => ⟨(by decide : writable 0xE000 1 = true), rfl⟩
theorem logicBist : ∀ a b, Statement (.logicBist a b) := fun _ _ => ⟨(by decide : writable 0xE000 1 = true), rfl⟩
theorem patrolScrubPass : ∀ a b, Statement (.patrolScrubPass a b) := fun _ _ => ⟨(by decide : writable 0xE000 1 = true), rfl⟩
theorem testComplete : ∀ a b c, Statement (.testComplete a b c) := fun _ _ _ => ⟨rfl, rfl⟩
theorem diagnosticRead : ∀ a b, Statement (.diagnosticRead a b) := fun _ _ => ⟨(by decide : writable 0xE010 1 = true), rfl⟩
theorem diagnosticWrite : ∀ a b, Statement (.diagnosticWrite a b) := fun _ _ => ⟨(by decide : writable 0xE010 3 = true), rfl⟩
theorem pwrokTRise : ∀ a, Statement (.pwrokTRise a) := fun _ => ⟨rfl, rfl⟩
theorem l1Entry : ∀ a, Statement (.l1Entry a) := fun _ => ⟨rfl, rfl⟩
theorem l1Exit : ∀ a, Statement (.l1Exit a) := fun _ => ⟨rfl, rfl⟩
theorem recoveryEntry : ∀ a, Statement (.recoveryEntry a) := fun _ => ⟨rfl, rfl⟩
theorem headlandWarmReset : Statement .headlandWarmReset := ⟨rfl, rfl⟩
theorem partnerDvsecWrite : ∀ a b, Statement (.partnerDvsecWrite a b) := fun _ _ => ⟨rfl, rfl⟩
theorem actionComplete : ∀ a b, Statement (.actionComplete a b) := fun _ _ => ⟨rfl, rfl⟩
theorem tidelinkTrained : ∀ a b c, Statement (.tidelinkTrained a b c) := fun _ _ _ => ⟨rfl, rfl⟩
theorem vddHldInRange : Statement .vddHldInRange := ⟨rfl, rfl⟩
theorem phaseRestored : ∀ a, Statement (.phaseRestored a) := fun _ => ⟨rfl, rfl⟩
theorem cycleCountTrim : ∀ a, Statement (.cycleCountTrim a) := fun _ => ⟨rfl, rfl⟩
theorem pllLockLoss : ∀ a b, Statement (.pllLockLoss a b) := fun _ _ => ⟨rfl, rfl⟩

end Sys2Proof.Laws.CommandForm
end

