-- ==== Sys2Proof/Machine/Reads.lean ====
section
/-!
DEFINITION. What a read of a memory-mapped register window gives: the dictionary window (Tables 2-15 to 2-18) and the counter page
(R324); a read of the compatibility window is compatRead. The table of operations has no row for these reads: they are functions of the
state that change nothing.
-/
namespace Sys2Proof.Machine
open Sys2Proof

/-- A register of the dictionary window, at its offset; none while the window does not stand (Tables 2-15 to 2-18). -/
def odwRegister (s : State) (off : Nat) : Option Nat :=
  let m := s.mgmt
  if (mgrFn s).isNone ∨ rd s 0x1102 1 0 = 0 then none
  else some (
    if off = 0 then m.odwVec % 256 * 256 + b2n m.odwIrqEn * 2 + b2n m.odwEnable
    else if off = 4 then m.odwLast % 65536 * 65536 + b2n m.odwOverrun * 4 + b2n m.odwDone * 2 + b2n m.odwBusy
    else if off = 12 then m.odwReqLen % 8192
    else if off = 16 then m.odwRspLen % 8192
    else 0)

/-- A byte of the dictionary window's request or response buffer; reserved bytes read 0 (Table 2-15). -/
def odwBufferByte (s : State) (off : Nat) : Byte :=
  if 0x1000 ≤ off ∧ off < 0x2000 then s.mgmt.odwReq.getD (off - 0x1000) 0
  else if 0x2000 ≤ off ∧ off < 0x3000 then s.mgmt.odwRsp.getD (off - 0x2000) 0
  else 0

/-- The counter page stands in BAR3 of the manager's function (R324). -/
def counterPageOpen (s : State) : Bool := rd s 0xB020 1 0 == 1 && (mgrFn s).isSome && actingRole s (rd s 0x1102 2 0) == 1

/-- Slots of a unit that hold a counter: the cycle counter and the programmable counters of a small unit, the events of a large one. -/
def pageSlots (u : Nat) : Nat := if u < 64 then 9 else if u ≤ 89 then unitEvents u else 0

/-- An aligned 8-byte read of the counter page; slots without a counter and absent units read 0 (R324). -/
def counterPage (s : State) (off : Nat) : Option Nat :=
  if counterPageOpen s = false ∨ 131072 ≤ off then none
  else some (if off / 8 % 128 < pageSlots (off / 1024) then readCounter s (off / 1024) (off / 8 % 128) else 0)

end Sys2Proof.Machine
end

