-- ==== Sys2Proof/Tests/Slice0.lean ====
section
/-!
SUPPORT. Tests of the model: states on which the hypotheses of every statement hold together, the smoke test of well-formedness, and the
manual's own examples.
-/
namespace Sys2Proof.Tests

open Sys2Proof Sys2Proof.Machine

set_option Elab.async false

abbrev z : State := State.reset

/-- A pair whose second part is known. -/
theorem by_snd {α β : Type} {p : α × β} {b : β} (h : p.2 = b) : p = (p.1, b) := Prod.ext rfl h

/-- Objects at given values. -/
def objs (s : State) (l : List (Nat × Nat × Nat × Nat)) : State := l.foldl (fun a x => wr a x.1 x.2.1 x.2.2.1 x.2.2.2) s

/-- A linked USP on port 0, ready for CXL.mem, presenting instance 0 through a decoder over the first 1 GiB. -/
def host : State :=
  setInst (wrTbl (objs z [(0x2000, 1, 0, 1), (0x2010, 2, 0, 3), (0x2010, 6, 0, 3), (0x2000, 6, 0, 7), (0x5010, 2, 0, 1), (0x5000, 1, 0, 1)])
    0x5020 1 0 0 (2 ^ 158 + 2 ^ 32)) 0 { instInit with usp := 0 }

/-- One extent of instance 0 in some state. -/
def ext1 (st phase : Nat) : State := setExt host 0 { extInit with st := st, phase := phase, target := 0, first := 0, blocks := 4, indexed := true }

/-- One move in some phase. -/
def mv (phase : Nat) : Move :=
  { phase := phase, source := 16 * 2 ^ 28, dest := 0, back := true, manual := false, first := false, mask := 0, rounds := 0, attempts := 0
    held := [], lockAt := 0, waits := [] }

def f0 : StepF := { rd := 0, ra := 0, rb := 0, rc := 0, sz := 0, immb := false, cond := 0, space := 0, target := 0, imm := 0 }

/-- Flags that are all clear. -/
def noFlags : Flags := ctxFlags (ctxInit 0)

/-- A step table of an instance. -/
def tab (owner : Nat) : StepTable := { owner := owner, budget := 4, entry := 0, steps := [], clusters := 0, version := 0 }

/-- Engine 0 in service with one context of its rings ready. -/
def eng (c : Nat) (g : Ctx → Ctx) (s : State := z) : State :=
  setCtx (wr s 0x9000 2 1 0) c (g { ctxInit c with st := 2, budget := 5 })

/-- Headland runs and the dictionary answers. -/
def run : State := { z with mgmt := { z.mgmt with ready := true }, sec := { z.sec with stage := 3 }, pwr := { z.pwr with aonOk := true, hldOk := true } }

/-- The manager's function stands on port 0 and the window is enabled. -/
def mgr : State := objs { run with mgmt := { run.mgmt with odwEnable := true } } [(0x1102, 1, 0, 1), (0x1102, 2, 0, 0), (0x1101, 1, 0, 1), (0x1103, 1, 0, 1), (0x1103, 2, 0, 1)]

/-- A session over MCTP. -/
def ses : Session := { id := 7, transport := .mctp, level := .vendor, version := 3, key := [], proved := true, high := 4, replies := [], sub := none, lastValid := 0 }

def sesRun : State := { mgr with mgmt := { mgr.mgmt with sessions := [ses] } }

/-- A request of that session, before its tag. -/
def bare (op : Byte) (body : List Byte) (items : BitVec 16) : OdpMsg :=
  { magic := 0x4F44, version := 3, opcode := op, flags := 0, status := 0, session := 7, sequence := 5, items := items
    bodyLen := BitVec.ofNat 16 body.length, reserved := 0, body := body, tag := [] }

/-- The request with its tag. -/
def ask (op : Byte) (body : List Byte) (items : BitVec 16) : OdpMsg := { bare op body items with tag := odpTag [] (odpBytes (bare op body items)) }

/-- An item that reads 0x1000:00. -/
def item : List Byte := be 2 0x1000 ++ zeros 10

theorem tag_len (k b : List Byte) : (odpTag k b).length = 16 := by
  simp [odpTag, padTo, zeros]
  omega

theorem form_ask {op : Byte} {body : List Byte} {it : BitVec 16} (h : (body.length % 4 == 0 && decide (40 + body.length ≤ 1024)
    && bodyOk (bare op body it) && (bare op body it).bodyLen.toNat == body.length) = true) : formOk (ask op body it) 1024 16 = true := by
  simp only [Bool.and_eq_true, decide_eq_true_eq, beq_iff_eq] at h
  obtain ⟨⟨⟨h1, h2⟩, h3⟩, h4⟩ := h
  have e : (ask op body it).tag.length = 16 := tag_len _ _
  have e2 : (ask op body it).body = body := rfl
  have e3 : (ask op body it).bodyLen = (bare op body it).bodyLen := rfl
  have e4 : bodyOk (ask op body it) = true := h3
  simp only [formOk, e, e2, e3, e4, h4, h1]
  simp [ask, bare]
  omega

theorem inOrder_ask {op : Byte} {body : List Byte} {it : BitVec 16} (h : (body.length % 4 == 0 && decide (40 + body.length ≤ 1024)
    && bodyOk (bare op body it) && (bare op body it).bodyLen.toNat == body.length) = true) (hv : versionBad (bare op body it) 3 = false) :
    inOrder sesRun .mctp ses (ask op body it) :=
  ⟨by decide +kernel, form_ask h, (by decide +kernel : sessionOf (hldWake sesRun (transportWake .mctp)) .mctp (bare 0 [] 0) = some ses), rfl, rfl, rfl, fun _ => (by decide : ahead 5 4 = true), hv⟩

/-- A stack with its blocks in one state. -/
def stack (st : Nat) (s : State := z) : State := setTgt s 0 { tgtInit with cap := 8, base := st }

/-- The manager's function and a linked USP on port 0 that presents instance 0. -/
def fmst : State :=
  setInst (objs mgr [(0x2000, 1, 0, 1), (0x2010, 2, 0, 3), (0x2010, 3, 0, 16), (0x2010, 4, 0, 5), (0x5000, 1, 0, 1), (0x5010, 2, 0, 1)]) 0 { instInit with usp := 0 }

/-- A USP on port 0 whose first vPPB is bound to the DSP on port 2 and forwards to it. -/
def sw : State :=
  { wrTbl (objs z [(0x2000, 1, 0, 1), (0x2010, 2, 0, 3), (0x2000, 1, 2, 2), (0x2010, 2, 2, 3)]) 0x2330 1 0 0 (2 ^ 31 + 0xFF * 65536 + 2) with
    bridges := [(0, { base := 0, limit := 2 ^ 40, busLo := 1, busHi := 5 })] }

/-- An inter-switch port on port 0 that carries CXL.mem, with PID 0 routed to port 0. -/
def isc : State :=
  wrTbl (objs z [(0x1200, 2, 0, 3), (0x2000, 1, 0, 3), (0x2010, 2, 0, 3), (0x2010, 6, 0, 3), (0x2000, 6, 0, 7)]) 0x2320 1 0 0 (2 ^ 31)

/-- A slot that is enabled, with its input at 12 V. -/
def powered (s : State) (n : Nat) : State := wrBlob (setSlot s n { slotInit with en := true }) 0xA000 22 n (be 2 12000 ++ zeros 30)

/-- Some dword of a bridge's 1,024 holds no capability, wherever the implementation places them. -/
theorem free_dword : ∃ d, d < 1024 ∧ capAt d = none := by
  by_contra! h
  have hs : Finset.range 1024 ⊆ (ppbAll.toFinset).biUnion fun c =>
      Finset.Ico (Config.ppbPlace c % 1024) (Config.ppbPlace c % 1024 + capDwords c) := by
    intro d hd
    obtain ⟨x, hx⟩ := Option.ne_none_iff_exists'.mp (h d (Finset.mem_range.mp hd))
    obtain ⟨c, hc, e⟩ := List.exists_of_findSome?_eq_some hx
    dsimp only at e
    split at e
    · rename_i r
      exact Finset.mem_biUnion.mpr ⟨c, List.mem_toFinset.mpr hc, Finset.mem_Ico.mpr r⟩
    · cases e
  have hc := (Finset.card_le_card hs).trans Finset.card_biUnion_le
  simp only [Finset.card_range, Nat.card_Ico, Nat.add_sub_cancel_left] at hc
  revert hc
  decide

theorem wit_sendPpbCxlIoConfigurationRequest_3 : ∃ (s : State) (via : FmPath) (x : State) (p : PortN) (q : CfgReq) (w : BitVec 32),
    fmOpen s via = true ∧ x = (if via = .mctp then hldWake s .mctp else s) ∧ (readItem x .manager (fmItem 0x2000 1 p.val)).1 = .ok
      ∧ q.write = some w ∧ capAt (q.reg.toNat / 4 % 1024) = none := by
  obtain ⟨d, h, e⟩ := free_dword
  exact ⟨fmst, .cci, fmst, 0, { reg := BitVec.ofNat _ (4 * d), be := 15, write := some 0 }, 0, by decide +kernel, rfl, by decide +kernel, rfl,
    by simpa [Nat.mod_eq_of_lt h, Nat.mod_eq_of_lt (show 4 * d < 4096 by omega)] using e⟩

/-- Target 0 out of the pool, with 8 blocks that wait for a scrub. -/
def waiting : State := setTgt z 0 { tgtInit with cap := 8, base := 3 }

theorem wit_scrubComplete_2 : ∃ (s : State) (g : TargetN) (b : BlockN) (n c : Nat) (x y w : State), tgtState s g.val ≠ 6
    ∧ (getBlk s g.val b).st = 3 ∧ (getBlk s g.val b).sharers = 0 ∧ n = blockSize s g.val ∧ c = 2 ^ 28 + 256 * tgtHome g.val * 128 + 64
    ∧ gateRange s (blkLo s g.val b) n .system true c = (x, true) ∧ gateRange x (blkLo s g.val b) n .system false c = (y, true)
    ∧ w = (if g.val < 4 then largeEvent (systemTraffic y g.val (2 * (n / 64))) (76 + g.val) 8 (n / 64) else systemTraffic y g.val (2 * (n / 64)))
    ∧ (getBlk w g.val b).st = 3 ∧ (getBlk w g.val b).sharers = 0 :=
  ⟨waiting, 0, 0, _, _, waiting, waiting, _, by decide +kernel, by decide +kernel, by decide +kernel, rfl, rfl, by decide +kernel, by decide +kernel, rfl,
    by decide +kernel, by decide +kernel⟩

/-! An ill-formed command for each check of well-formedness: the check refuses it. -/

theorem smoke_context : (Instr.timerExpiry 100).wf = false := by decide
theorem smoke_context_of_step : (Instr.stepNop 68 f0).wf = false := by decide
theorem smoke_target : (Instr.drainDone 9).wf = false := by decide
theorem smoke_line : (Instr.memwr 0 0 [1] 0 false 0 0).wf = false := by decide
theorem smoke_optional_line : (Instr.sliceResponse 0 0 (some [])).wf = false := by decide
theorem smoke_line_by_pid : (Instr.pbrRequest 0 0 (.memWr 0 (zeros 63) 0 0 0)).wf = false := by decide
theorem smoke_tlp_by_pid : (Instr.pbrRequest 0 0 (.io true 0 0 (zeros 4097))).wf = false := by decide +kernel
theorem smoke_tlp : (Instr.cxlIoRequest 0 (.mem 0 true 0 0 (zeros 4097))).wf = false := by decide +kernel
theorem smoke_config : (Instr.cxlIoRequest 0 (.config 0 0 (zeros 5))).wf = false := by decide
theorem smoke_object_value : (Instr.objectWrite { requester := .vendor, place := .object 0x1100 1 0, value := zeros 65536 }).wf = false := by
  have h : (zeros 65536).length = 65536 := by simp only [zeros, List.length_replicate]
  change decide ((zeros 65536).length ≤ 65535) = false
  rw [h]; decide
theorem smoke_chunk_value : (Instr.objectWrite { requester := .vendor, place := .chunk 0x3210 1 0 0, value := zeros 65536 }).wf = false := by
  have h : (zeros 65536).length = 65536 := by simp only [zeros, List.length_replicate]
  change decide ((zeros 65536).length ≤ 65535) = false
  rw [h]; decide
theorem smoke_window_end : (Instr.objectWrite { requester := .manager, place := .window 16383, value := [0, 0] }).wf = false := by decide
theorem smoke_window_empty : (Instr.objectWrite { requester := .manager, place := .window 0, value := [] }).wf = false := by decide

/-- A partner with one list of each kind. -/
def partner (inv failed : List LaneN) (credits : List (BitVec 32)) (width : Fin 17) : Partner :=
  { formats := 7, maxRate := 5, width := width, cxlRev := 3, dvsec := 0, spareCap := 0, l0p := false, asymmetric := false, reversed := false
    inverted := inv, failed := failed, credits := credits, mem := none, attest := none, digests := [] }

theorem smoke_partner : (Instr.linkUp 5 (partner [16] [31] [] 16)).wf = true := by decide
theorem smoke_partner_inverted : (Instr.linkUp 5 (partner [15] [] [] 16)).wf = false := by decide
theorem smoke_partner_failed : (Instr.linkUp 5 (partner [] [32] [] 16)).wf = false := by decide
theorem smoke_partner_credits : (Instr.linkUp 5 (partner [] [] (List.replicate 19 0) 16)).wf = false := by decide
theorem smoke_region_record : (Instr.setDcRegionConfiguration .mctp 0 0 (zeros 15)).wf = false := by decide
theorem smoke_checker : (Instr.checkerSyncLoss 0 3 4).wf = false := by decide
theorem smoke_credits : (Instr.creditRetrainComplete 0 (List.replicate 19 0)).wf = false := by decide
theorem smoke_flit : (Instr.tidelinkFlit 0 .up (zeros 255)).wf = false := by decide +kernel
theorem smoke_path_range : (Instr.pathTableWrite .vendor 0 767 [0, 0]).wf = false := by decide
theorem smoke_path_empty : (Instr.pathTableWrite .vendor 0 0 []).wf = false := by decide
theorem smoke_binding_record : (Instr.bindingsWrite .vendor 0 0 (zeros 7)).wf = false := by decide
theorem smoke_binding_range : (Instr.bindingsWrite .vendor 0 63 (zeros 16)).wf = false := by decide
theorem smoke_binding_empty : (Instr.bindingsWrite .vendor 0 0 []).wf = false := by decide
theorem smoke_notice : (Instr.stepNotify 0 f0 0 0 (zeros 49)).wf = false := by decide
theorem smoke_decoder_record : (Instr.hdmDecoderCommit 0 0 (zeros 31)).wf = false := by decide
theorem smoke_descriptor : (Instr.submitInvocations 0 0 [zeros 63]).wf = false := by decide
theorem smoke_parameters : (Instr.causeOccurrence 0 0 .fault [0, 0, 0, 0, 0, 0, 0]).wf = false := by decide
theorem smoke_challenge : (Instr.spdmChallenge 0 0 (zeros 31)).wf = false := by decide
theorem smoke_measurements : (Instr.getMeasurements 0 0 (zeros 33)).wf = false := by decide
theorem smoke_key : (Instr.keyProg 0 0 0 true (zeros 31)).wf = false := by decide

/-! The manual's own examples. -/

/-- Table 12-13: MINU W1, W1, #4096. -/
theorem test_word_minu : stepWord 0x2D { f0 with rd := 1, ra := 1, sz := 3, immb := true, imm := 4096 } = 0x2D110070000000000000000000001000 := by
  decide +kernel
/-- Table 12-13: LD W9, [W4 + 0]. -/
theorem test_word_ld : stepWord 0x58 { f0 with rd := 9, ra := 4, sz := 3 } = 0x58940060000000000000000000000000 := by decide +kernel
/-- Table 12-13: BR GEU, 19. -/
theorem test_word_br : stepWord 0x10 { f0 with cond := 4, target := 19 } = 0x100000040004C0000000000000000000 := by decide +kernel
/-- Table 12-13: LOOP W7, 8, #4096. -/
theorem test_word_loop : stepWord 0x11 { f0 with ra := 7, target := 8, imm := 4096 } = 0x11070000000200000000000000001000 := by decide +kernel

/-- The steps of ST0600 (Table 12-12). -/
def st0600 : List Nat :=
  let mov (d b : Nat) := stepWord 0x18 { f0 with rd := Fin.ofNat 16 d, rb := Fin.ofNat 16 b }
  let movi (d i : Nat) := stepWord 0x18 { f0 with rd := Fin.ofNat 16 d, immb := true, imm := BitVec.ofNat 64 i }
  let alu (op d a b : Nat) := stepWord op { f0 with rd := Fin.ofNat 16 d, ra := Fin.ofNat 16 a, rb := Fin.ofNat 16 b, sz := 3 }
  let alui (op d a i : Nat) := stepWord op { f0 with rd := Fin.ofNat 16 d, ra := Fin.ofNat 16 a, sz := 3, immb := true, imm := BitVec.ofNat 64 i }
  let st (a b i : Nat) := stepWord 0x59 { f0 with ra := Fin.ofNat 16 a, rb := Fin.ofNat 16 b, sz := 3, imm := BitVec.ofNat 64 i }
  let halt := stepWord 0x02 f0
  [mov 4 0, movi 0 0, movi 5 0, movi 6 0, movi 7 0, movi 8 0, alui 0x2D 1 1 4096, stepWord 0x10 { f0 with cond := 1, target := 19 },
   stepWord 0x58 { f0 with rd := 9, ra := 4, sz := 3 }, alu 0x20 0 0 9, alui 0x21 8 8 0, alu 0x2E 5 5 9, alu 0x25 0 2 9, alui 0x21 6 6 0,
   alui 0x20 4 4 8, alui 0x20 10 7 1, alu 0x25 0 10 1, stepWord 0x10 { f0 with cond := 4, target := 19 },
   stepWord 0x11 { f0 with ra := 7, target := 8, imm := 4096 }]
  ++ [st 3 6 0, st 3 8 8, mov 1 5, halt, mov 1 7, halt]

/-- ST0600 passes with the least BUDGET, 45,070, and fails rule 8 with one less. -/
theorem test_verify_st0600 : worstCase st0600 23 = 45070 ∧ verifySteps st0600 23 45070 = none ∧ verifySteps st0600 23 45069 = some (0xA8, 0xFFFF) := by
  decide +kernel

/-- The request of Table 2-12, without its tag. -/
def reqBytes : List Byte :=
  [0x4F, 0x44, 0x03, 0x10, 0x00, 0x00, 0x00, 0x00, 0x00, 0x00, 0x2A, 0x11, 0x00, 0x00, 0x00, 0x07, 0x00, 0x02, 0x00, 0x18, 0x00, 0x00, 0x00, 0x00]
  ++ [0x10, 0x00, 0x03, 0x00, 0x00, 0x00, 0x02, 0x00, 0x00, 0x00, 0x00, 0x00]
  ++ [0x10, 0x01, 0x01, 0x00, 0x00, 0x00, 0x03, 0x00, 0x00, 0x00, 0x00, 0x00]

def reqMsg : OdpMsg :=
  { magic := 0x4F44, version := 3, opcode := 0x10, flags := 0, status := 0, session := 0x2A11, sequence := 7, items := 2, bodyLen := 24
    reserved := 0, body := reqBytes.drop 24, tag := [] }

/-- Table 2-12: a READ of two items. -/
theorem test_request_bytes : odpBytes reqMsg = reqBytes := by decide +kernel

theorem test_request_items : (parseItems 2 reqMsg.body).map (·.map fun w => (w.idx, w.sub, w.ty)) = some [(0x1000, 3, 2), (0x1001, 1, 3)] := by
  decide +kernel

/-- The body of the reply of Table 2-13: the stepping 0xB1 and the layout major 3, padded. -/
theorem test_reply_body : (serveItems run .manager 3 1024 reqMsg).2.body =
    [0x10, 0x00, 0x03, 0x00, 0x00, 0x00, 0x02, 0x00, 0x00, 0x01, 0x00, 0x00, 0xB1, 0x00, 0x00, 0x00,
     0x10, 0x01, 0x01, 0x00, 0x00, 0x00, 0x03, 0x00, 0x00, 0x02, 0x00, 0x00, 0x00, 0x03, 0x00, 0x00] := by
  decide +kernel

/-! The corners of Table 12-7. -/

theorem test_divide_by_zero : (aluDivu 32 7 0 noFlags).1 = 0 ∧ (aluRemu 32 7 0 noFlags).1 = 7 ∧ (aluDivu 32 7 0 noFlags).2.dz = true := by
  decide +kernel
theorem test_divide_overflow : (aluDivs 32 (2 ^ 31) (2 ^ 32 - 1) noFlags).1 = 2 ^ 31 ∧ (aluDivs 32 (2 ^ 31) (2 ^ 32 - 1) noFlags).2.v = true := by
  decide +kernel
theorem test_divide_signed : (aluDivs 32 (2 ^ 32 - 7) 2 noFlags).1 = 2 ^ 32 - 3 ∧ (aluRems 32 (2 ^ 32 - 7) 2 noFlags).1 = 2 ^ 32 - 1 := by
  decide +kernel
theorem test_add_carries : (aluAdd 32 (2 ^ 32 - 1) 1 0 noFlags).1 = 0 ∧ (aluAdd 32 (2 ^ 32 - 1) 1 0 noFlags).2.c = true
    ∧ (aluAdd 32 (2 ^ 32 - 1) 1 0 noFlags).2.v = false := by
  decide +kernel
theorem test_subtract_borrows : (aluSub 64 0 1 0 noFlags).1 = 2 ^ 64 - 1 ∧ (aluSub 64 0 1 0 noFlags).2.c = true := by decide +kernel

/-! Witnesses of the hypotheses of the machine-wide statements. -/

theorem wit_StepRunsFront : ∃ (c : Instr) (rest : List Instr) (s : State), s.pending = c :: rest :=
  ⟨.pwrokAonFall, [], { z with pending := [.pwrokAonFall] }, rfl⟩

theorem wit_IdleStep : ∃ s : State, s.pending = [] ∧ s.pwr.aonOk = false := ⟨z, rfl, rfl⟩

theorem wit_IdleStep_2 : ∃ s : State, s.pending = [] ∧ s.pwr.aonOk = true := ⟨run, rfl, rfl⟩

theorem wit_StepsKeepInvariant : ∃ s t : State, s.Inv ∧ s.queueOk ∧ step s = .next t :=
  ⟨z, z, ⟨rfl, rfl, rfl, rfl, rfl⟩, rfl, rfl⟩

theorem wit_StepsKeepInvariant_2 : ∃ s t : State, s.Inv ∧ s.queueOk ∧ s.pending ≠ [] ∧ step s = .next t :=
  ⟨{ run with pending := [.pwrokAonFall] }, _, ⟨rfl, rfl, rfl, rfl, rfl⟩, rfl, by decide, rfl⟩

theorem wit_StepWordRoundTrip : ∃ (op : Nat) (_ : StepF), op < 256 := ⟨255, f0, by decide⟩

theorem wit_OdpMessageRoundTrip : ∃ m : OdpMsg, m.tag = [] := ⟨reqMsg, rfl⟩

theorem wit_OdpItemsRoundTrip : ∃ l : List WireItem, l ≠ [] ∧ ∀ w ∈ l, w.fits :=
  ⟨[{ idx := 65535, sub := 255, iflags := 255, q := 65535, ty := 255, value := [1, 2, 3], change := 65535 }], by decide, by
    intro w h
    simp only [List.mem_singleton] at h
    subst h
    unfold WireItem.fits
    decide⟩

theorem wit_MemoryReadsBack : ∃ (m : List Host.Cell) (_ : Nat) (_ : Byte) (_ _ : Nat), m ≠ [] ∧ Memory.wf m = true :=
  ⟨memWrite [] 7 1, 7, 0, 0, 8, by decide, by decide⟩

theorem wit_RefusedWrites : ∃ (c : Instr) (s : State) (r : Requester) (idx sub q : Nat) (v : List Byte) (st : Status),
    rowOf c = some (r, idx, sub, q, v) ∧ writeChecks s r (rowItem idx sub q v) = some st :=
  ⟨.targetModeWrite .operator 2, z, .operator, 0x1200, 1, 0, [2], .denied, by decide +kernel, by decide +kernel⟩

theorem wit_RefusedWrites_2 : ∃ (c : Instr) (s : State) (r : Requester) (idx sub q : Nat) (st : Status),
    chunkRowOf c = some (r, idx, sub, q) ∧ chunkChecks s r (rowItem idx sub q []) = some st :=
  ⟨.pathTableWrite .operator 0 0 [0], z, .operator, 0x3210, 1, 0, .denied, by decide +kernel, by decide +kernel⟩

/-- The checks of R431 that an item fails, in their order. -/
def fails (s : State) (r : Requester) (it : Item) (d : ObjDesc) : List Bool :=
  let q := itemQual r d it
  [otherInstance r d.qual q || foreignTable s r d.idx q, !rangeRight r d true, !qualOk d.qual q || !present s d q,
   !meaningRight s r d q true (ofBe it.value), d.ty == .table, d.acc == .ro,
   !typeOk d it.ty true || !lengthOk d it.value || !widthOk d it.ty it.value || !validOk d it.value, !rangeOk d it.value || !cmdRange d q it.value || !limitsRise s d q (ofBe it.value),
   it.cond.isSome && it.cond != some (changeOf s it.idx it.sub (canonQual it.idx q)), modeLocked s it.idx it.sub q, d.acc == .rwq && !unitQuiesced s it.idx q,
   d.acc == .cmd && cmdRunning s it.idx it.sub q]

/-- The first check that a write of one object fails, counted from 1, with the status that answers it; 0 when it fails none. -/
def firstFailed (s : State) (r : Requester) (it : Item) : Option (Nat × Option Status) :=
  (descOf it.idx it.sub).map fun d => (((fails s r it d).zipIdx.find? (·.1)).elim 0 (·.2 + 1), writeChecks s r it)

theorem wit_Checks_other : firstFailed z (.tenant 1) (rowItem 0x5100 1 2 (zeros 52)) = some (1, some .absent) := by decide +kernel
theorem wit_Checks_right : firstFailed z .operator (rowItem 0x1200 1 0 [1]) = some (2, some .denied) := by decide +kernel
theorem wit_Checks_missing : firstFailed z .manager (rowItem 0x3000 1 4 [1]) = some (3, some .absent) := by decide +kernel
theorem wit_Checks_meant : firstFailed z .manager (rowItem 0x8100 11 511 [1]) = some (4, some .denied) := by decide +kernel
theorem wit_Checks_table : firstFailed z .manager (rowItem 0x3210 1 0 [1]) = some (5, some .type) := by decide +kernel
theorem wit_Checks_readonly : firstFailed z .manager (rowItem 0x1200 2 0 [1]) = some (6, some .readOnly) := by decide +kernel
theorem wit_Checks_form : firstFailed z .manager (rowItem 0x1200 1 0 [0, 1]) = some (7, some .type) := by decide +kernel
theorem wit_Checks_range : firstFailed z .manager (rowItem 0x1200 1 0 [9]) = some (8, some .range) := by decide +kernel
theorem wit_Checks_stale : firstFailed z .manager { rowItem 0x1200 1 0 [1] with cond := some 1 } = some (9, some .conflict) := by decide +kernel
theorem wit_Checks_locked :
    firstFailed (wr { z with mode := { z.mode with touched := [okey 0x3000 1 0] } } 0x1200 3 0 1) .manager (rowItem 0x3000 1 0 [1])
      = some (10, some .busy) := by decide +kernel
theorem wit_Checks_active : firstFailed (wr z 0x2140 2 256 0) .manager (rowItem 0x2140 3 256 [1]) = some (11, some .notQuiesced) := by decide +kernel
theorem wit_Checks_running : firstFailed (cmdStart z 0x1213 1 0) .manager (rowItem 0x1213 1 0 [1]) = some (12, some .busy) := by decide +kernel
theorem wit_Checks_pass : firstFailed z .manager (rowItem 0x3000 1 0 [1]) = some (0, none) := by decide +kernel

theorem wit_CommandWordFields : ∃ (_ : State) (idx sub q st reason : Nat), st < 256 ∧ reason < 256 ∧ okey 0x1212 1 0 ≠ okey idx sub q :=
  ⟨z, 0x1213, 1, 0, 255, 255, by decide, by decide, by decide⟩

/-- A cause may be raised at a source. -/
def raisable (s : State) (src c : Nat) (sev : Severity) : Prop :=
  isSource src = true ∧ c < 26 ∧ sev ≠ .info ∧ ¬((getSource s src).unreachable = true ∧ isLevel c = true)

theorem wit_CauseLatches : ∃ (s : State) (src c : Nat) (sev : Severity), raisable s src c sev ∧ (getSource s src).standing c = none :=
  ⟨z, 0x3000, 25, .critical, by unfold raisable; decide +kernel, by decide +kernel⟩

theorem wit_CauseMerges : ∃ (s : State) (src c : Nat) (sev old : Severity), raisable s src c sev ∧ (getSource s src).standing c = some old
    ∧ sevCode sev ≤ sevCode old :=
  ⟨raise z 0x3000 0 .fault [], 0x3000, 0, .fault, .fault, by unfold raisable; decide +kernel, by decide +kernel, by decide⟩

theorem wit_CauseEscalates : ∃ (s : State) (src c : Nat) (sev old : Severity), raisable s src c sev ∧ (getSource s src).standing c = some old
    ∧ sevCode old < sevCode sev :=
  ⟨raise z 0x3000 3 .notice [], 0x3000, 3, .critical, .notice, by unfold raisable; decide +kernel, by decide +kernel, by decide⟩

theorem wit_CauseEscalates_2 : ∃ u : State, recording u = true := ⟨run, by decide +kernel⟩

theorem wit_EndStepEndsInvocation : ∃ (s : State) (c : CtxN) (f : StepF) (k : Ctx),
    issues s c.val 0x02 f ∧ k = getCtx s c.val ∧ (k.st = 2 ∨ k.st = 5) ∧ k.byQueue = true :=
  ⟨eng 0 fun k => { k with byQueue := true }, 0, f0, _, by unfold issues; decide +kernel, rfl, by decide +kernel, by decide +kernel⟩

theorem wit_DefaultRegionsAreOpen : ∃ (s : State) (g loc : Nat), (∀ n, n < 64 → has s.tbl (tkey 0x4200 1 g n) = false) ∧ dpaTarget loc = g
    ∧ tagLost s loc = false :=
  ⟨z, 1, 2 ^ 44, fun _ _ => rfl, by decide +kernel, by
    have h : rd z 0x4001 1 (tgtHome (dpaTarget (2 ^ 44))) = 0 := by decide +kernel
    unfold tagLost failedIn
    simp only [h]
    simp [bit]⟩

theorem wit_EngineServesRings : ∃ (s : State) (e c : Nat) (k : Ctx), engineChoice s e = some (c, k) :=
  ⟨eng 0 id, 0, 0, _, rfl⟩

theorem wit_EngineServesRings_2 : ∃ (s : State) (e : Nat), engineChoice s e = none := ⟨z, 0, rfl⟩

theorem wit_NoStepOnEmptyBudget : ∃ (i : Instr) (s : State) (c op : Nat) (f : StepF), stepOf i = some (c, op, f)
    ∧ engineOn s (getCtx s c).engine = true ∧ (engineChoice s (getCtx s c).engine).map (·.1) = some c ∧ stepDue s (getCtx s c) op f = true
    ∧ (getCtx s c).budget = 0 :=
  ⟨.stepNop 0 f0, eng 0 fun k => { k with budget := 0 }, 0, 0x01, f0, rfl, by decide +kernel, by decide +kernel, by decide +kernel, by decide +kernel⟩

theorem wit_NoStepOnEmptyBudget_2 : ∃ (i : Instr) (s : State) (c op : Nat) (f : StepF), stepOf i = some (c, op, f)
    ∧ engineOn s (getCtx s c).engine = true ∧ (engineChoice s (getCtx s c).engine).map (·.1) = some c ∧ stepDue s (getCtx s c) op f = true
    ∧ (getCtx s c).budget ≠ 0 ∧ stepDefined (decide ((getCtx s c).table < 512)) (getCtx s c).sp op f = false :=
  ⟨.stepNop 0 { f0 with rd := 1 }, eng 0 id, 0, 0x01, { f0 with rd := 1 }, rfl, by decide +kernel, by decide +kernel, by decide +kernel,
    by decide +kernel, by decide +kernel⟩

theorem wit_AddAndSubtractFlags : ∃ (w a b i : Nat) (_ : Flags), (w = 32 ∨ w = 64) ∧ a < 2 ^ w ∧ b < 2 ^ w ∧ i ≤ 1 :=
  ⟨64, 2 ^ 64 - 1, 2 ^ 64 - 1, 1, noFlags, .inr rfl, by decide, by decide, by decide⟩

theorem wit_DivisionSteps_overflow : ∃ (w a b : Nat) (_ : Flags), (w = 32 ∨ w = 64) ∧ a < 2 ^ w ∧ b < 2 ^ w ∧ b ≠ 0 ∧ a = 2 ^ (w - 1)
    ∧ b = 2 ^ w - 1 :=
  ⟨64, 2 ^ 63, 2 ^ 64 - 1, noFlags, .inr rfl, by decide, by decide, by decide, by decide, by decide⟩

theorem wit_DivisionSteps_plain : ∃ (w a b : Nat) (_ : Flags), (w = 32 ∨ w = 64) ∧ a < 2 ^ w ∧ b < 2 ^ w ∧ b ≠ 0 ∧ ¬(a = 2 ^ (w - 1) ∧ b = 2 ^ w - 1) :=
  ⟨32, 2 ^ 31, 1, noFlags, .inl rfl, by decide, by decide, by decide, by decide⟩

theorem wit_DivisionSteps_zero : ∃ (w a b : Nat) (_ : Flags), (w = 32 ∨ w = 64) ∧ a < 2 ^ w ∧ b < 2 ^ w ∧ b = 0 :=
  ⟨32, 2 ^ 32 - 1, 0, noFlags, .inl rfl, by decide, by decide, rfl⟩

theorem wit_RecoveryHidesObjects : ∃ (s : State) (it : Item) (r : Requester) (d : ObjDesc), modeNow s = 6
    ∧ ([0x1000, 0x1100, 0x1200, 0xC000, 0xC100, 0xD000, 0xD100, 0xE000].all fun a => decide (it.idx < a) || decide (a + 0x100 ≤ it.idx)) = true
    ∧ it.idx < 0xF000 ∧ descOf it.idx it.sub = some d ∧ rangeRight r d true = true :=
  ⟨wr z 0x1200 2 0 6, rowItem 0x3000 1 0 [1], .manager, ⟨0x3000, 1, .enum8, .rw, 1, true, .tile, .oneOf [0, 1]⟩, by decide +kernel, by decide +kernel, by decide +kernel,
    by decide +kernel, by decide +kernel⟩

/-! The worked example of chapter 8 (a scratch area inside shared memory) and an address of chapter 7's. -/

/-- A region record: VALID, POLICY, BASE, LAST. -/
def region (policy lo hi : Nat) : Nat := 2 ^ 127 + policy * 2 ^ 125 + lo * 2 ^ 64 + hi

/-- Gate 1 with the three records, the key sets, and the granule read. -/
def scratch : State :=
  setColour (objs (wrTbl (wrTbl (wrTbl z 0x4200 1 1 0 (region 1 0 0x3FFFF)) 0x4200 1 1 1 (region 2 0x40000 0x4FFFF)) 0x4200 1 1 2
    (region 1 0x50000 0xFFFFFFF)) [(0x4310, 1, 117, 0x21220000), (0x4310, 1, 200, 0x22000000)]) (granuleOf 0x100401000040) 0x21

theorem test_gate_refuses : gateKind scratch 0x100401000040 (.tenant 200) false = 2 ∧ gateKind scratch 0x100401000040 (.tenant 117) false = 0 := by
  unfold gateKind tagLost failedIn
  have h : rd scratch 0x4001 1 (tgtHome (dpaTarget 0x100401000040)) = 0 := by decide +kernel
  simp only [h, bit, Nat.zero_testBit, Bool.false_and, List.filter_false]
  decide +kernel

/-- The fields of the capture: COLOUR, REGION, POLICY, and the key. -/
theorem test_gate_capture : (refusalOf scratch 0x100401000040 0x100401000040 (.tenant 200) false 3 2).colour = 0x21
    ∧ (refusalOf scratch 0x100401000040 0x100401000040 (.tenant 200) false 3 2).region = 1
    ∧ (refusalOf scratch 0x100401000040 0x100401000040 (.tenant 200) false 3 2).policy = 2 := by
  decide +kernel

theorem test_extent_object : extObj 70006 = 0x4101 ∧ extQ 70006 = 4470 := by decide

theorem test_dpa_parts : dpaTarget 0x3804512345640 = 56 ∧ granuleOf 0x3804512345640 = 0x380451234 := by decide +kernel


/-- The dictionary window and the counter page stand only where the manager opened them: 0x1102:01 and 0xB020:01 start at 0 (Tables 2-15, 15-12). -/
theorem test_window_reads_closed : odwRegister State.reset 0 = none ∧ counterPage State.reset 0 = none := by decide +kernel

/-! Witnesses of the hypotheses of LinkWritesAndDownsComplete. -/

theorem wit_quiesceTarget : ∃ (s : State) (r : Requester) (g : GroupN) (v : Byte),
    accepted s r 0x2140 1 (256 + g.val) [v] :=
  ⟨z, .vendor, 0, 0,
    by unfold accepted; decide +kernel⟩

theorem wit_lateResponse : ∃ (s : State) (p : PortN) (tag : Nat),
    (getPort s p.val).lateTags.contains tag = true :=
  ⟨setPort z 0 { portInit with lateTags := [0] }, 0, 0,
    by decide +kernel⟩

theorem wit_presenceChange : ∃ (s : State) (p : PortN) (v : Bool),
    actingRole s p.val ≠ 2 :=
  ⟨z, 0, false,
    by decide +kernel⟩

theorem wit_presenceChange_2 : ∃ (s : State) (p : PortN),
    actingRole s p.val = 2 ∧ (getPort s p.val).presence = false ∧ isPoolDsp s p.val = true :=
  ⟨objs z [(0x2000, 1, 0, 2), (0x2010, 2, 0, 3), (0x4000, 1, 16, 1)], 0,
    by decide +kernel⟩

theorem wit_presenceChange_3 : ∃ (s : State) (p : PortN),
    actingRole s p.val = 2 ∧ (getPort s p.val).presence = false ∧ isPoolDsp s p.val = false :=
  ⟨objs z [(0x2000, 1, 0, 2), (0x2010, 2, 0, 3)], 0,
    by decide +kernel⟩

theorem wit_presenceChange_4 : ∃ (s : State) (p : PortN),
    actingRole s p.val = 2 ∧ (getPort s p.val).presence = true ∧ (getTgt s (dspTarget p.val)).away = false ∧ isPoolDsp s p.val = true :=
  ⟨setPort (objs z [(0x2000, 1, 0, 2), (0x2010, 2, 0, 3), (0x4000, 1, 16, 1)]) 0 { portInit with presence := true }, 0,
    by decide +kernel⟩

theorem wit_presenceChange_5 : ∃ (s : State) (p : PortN),
    actingRole s p.val = 2 ∧ (getPort s p.val).presence = true ∧ (getTgt s (dspTarget p.val)).away = false ∧ isPoolDsp s p.val = false :=
  ⟨setPort (objs z [(0x2000, 1, 0, 2), (0x2010, 2, 0, 3)]) 0 { portInit with presence := true }, 0,
    by decide +kernel⟩

/-! Witnesses of the hypotheses of CreditAuditComplete. -/

theorem wit_auditPeriod : ∃ (s : State) (p : PortN),
    linkUp s p.val = true :=
  ⟨objs z [(0x2010, 2, 0, 3)], 0,
    by decide +kernel⟩

theorem wit_quietPoint : ∃ (s : State) (p : PortN) (pool : Fin 18) (n : BitVec 32),
    linkUp s p.val = true ∧ audited (nth poolInit (getPort s p.val).pools pool.val) = true ∧ rd s 0x2210 1 p.val = 0 ∧ n.toNat ≤ (nth
      poolInit (getPort s p.val).pools pool.val).initial ∧ (auditPool (nth poolInit (getPort s p.val).pools pool.val) n.toNat).noticed =
      (nth poolInit (getPort s p.val).pools pool.val).noticed ∧ poolAwaits s p.val pool.val = false :=
  ⟨setPort (wr (objs z [(0x2010, 2, 0, 3)]) 0x2210 1 0 0) 0 { portInit with pools := [{ poolInit with initial := 4 }] }, 0, 0, 4,
    by decide +kernel⟩

theorem wit_auditHoldTimeout : ∃ (s : State) (p : PortN),
    (getPort s p.val).auditHold = true :=
  ⟨setPort z 0 { portInit with auditHold := true }, 0,
    by decide +kernel⟩

theorem wit_retrainDrainComplete : ∃ (s : State) (p : PortN),
    (getPort s p.val).retrain = 1 :=
  ⟨setPort z 0 { portInit with retrain := 1 }, 0,
    by decide +kernel⟩

theorem wit_creditRetrainComplete : ∃ (s : State) (p : PortN) (cs : List Nat),
    2 ≤ (getPort s p.val).retrain :=
  ⟨setPort z 0 { portInit with retrain := 2 }, 0, [],
    by decide +kernel⟩

theorem wit_llreset : ∃ (s : State) (p : PortN),
    linkUp s p.val = true ∧ llReinit s p.val = true ∧ (getPort s p.val).retrain = 0 :=
  ⟨objs z [(0x2010, 2, 0, 3), (0x2300, 7, 0, 1)], 0,
    by decide +kernel⟩

theorem wit_forceRetrain : ∃ (s : State) (r : Requester) (p : PortN),
    accepted s r 0x2210 9 p.val [1] ∧ linkUp s p.val = true ∧ llReinit s p.val = true ∧ (getPort s p.val).retrain = 0 :=
  ⟨objs z [(0x2010, 2, 0, 3), (0x2300, 7, 0, 1)], .vendor, 0,
    by unfold accepted; decide +kernel, by decide +kernel⟩

/-! Witnesses of the hypotheses of FunctionEventsComplete. -/

theorem wit_bmeClear : ∃ (s : State) (p : PortN) (f : FuncSel),
    actingRole s p.val = 1 ∧ (getFn s (fnKey p.val (funcNo f))).flr = false :=
  ⟨objs z [(0x2000, 1, 0, 1), (0x2010, 2, 0, 3)], 0, .manager,
    by decide +kernel⟩

theorem wit_bmeSet : ∃ (s : State) (p : PortN) (f : FuncSel),
    actingRole s p.val = 1 ∧ (getFn s (fnKey p.val (funcNo f))).flr = false :=
  ⟨objs z [(0x2000, 1, 0, 1), (0x2010, 2, 0, 3)], 0, .manager,
    by decide +kernel⟩

theorem wit_initiateFlr : ∃ (s : State) (p : PortN) (f : FuncSel),
    actingRole s p.val = 1 ∧ (getFn s (fnKey p.val (funcNo f))).flr = false :=
  ⟨objs z [(0x2000, 1, 0, 1), (0x2010, 2, 0, 3)], 0, .manager,
    by decide +kernel⟩

theorem wit_completionTimeout : ∃ (s : State) (p : PortN) (f : FuncSel) (c : CtxN),
    (getFn s (fnKey p.val (funcNo f))).reads.find? (fun e => e.1 == c.val) = none :=
  ⟨z, 0, .manager, 0,
    by decide +kernel⟩

theorem wit_completionTimeout_2 : ∃ (s : State) (p : PortN) (f : FuncSel) (c : CtxN) (e : Nat × Nat) (y : Pend) (k : Nat) (a : Nat) (b :
  Nat),
    k = fnKey p.val (funcNo f) ∧ (getFn s k).reads.find? (fun e => e.1 == c.val) = some e ∧ (getCtx s c.val).pend = some y ∧ y.host = some
      (k, a, b) :=
  ⟨setFn (setCtx host 0 { ctxInit 0 with pend := some { pendInit 0x68 f0 with host := some (16, 0, 0) } }) 16 { fnInit with reads := [(0, 5)] },
    0, .manager, 0, (0, 5), { pendInit 0x68 f0 with host := some (16, 0, 0) }, _, 0, 0,
    rfl, by decide +kernel⟩

theorem wit_schedulerCycle : ∃ (s : State) (t : TileN),
    rd s 0x3000 2 t.val = 3 :=
  ⟨objs z [(0x3000, 2, 0, 3)], 0,
    by decide +kernel⟩

theorem wit_partnerDvsecWrite : ∃ (s : State) (p : PortN) (v : Bool),
    linkUp s p.val = true :=
  ⟨objs z [(0x2010, 2, 0, 3)], 0, false,
    by decide +kernel⟩

theorem wit_partnerDvsecWrite_2 : ∃ (s : State) (p : PortN) (v : Bool),
    linkUp s p.val = true :=
  ⟨objs z [(0x2010, 2, 0, 3)], 0, true,
    by decide +kernel⟩

theorem wit_partnerDvsecWrite_3 : ∃ (s : State) (p : PortN) (v : Byte),
    linkUp s p.val = true ∧ s.coh.iscWait.contains p.val = true ∧ v.toNat ≠ 0 :=
  ⟨{ objs z [(0x2010, 2, 0, 3)] with coh := { z.coh with iscWait := [0] } }, 0, 1,
    by decide +kernel⟩

/-! Witnesses of the hypotheses of HostRequestsReachTheirInstance. -/

theorem wit_memrd : ∃ (s : State) (p : PortN) (hpa : BitVec 64) (ask : Ask) (tag : BitVec 16) (tc : Fin 4) (i : Nat) (off : Nat) (db :
  Bool),
    takesMem s p.val = true ∧ modeHolding s = false ∧ decodeHpa s p.val (hpa.toNat / 64 * 64) = some (i, off, db) :=
  ⟨host, 0, 64, .shared, 0, 0, 0, 64, false,
    by decide +kernel⟩

theorem wit_memrddata : ∃ (s : State) (p : PortN) (hpa : BitVec 64) (tag : BitVec 16) (tc : Fin 4) (i : Nat) (off : Nat) (db : Bool),
    takesMem s p.val = true ∧ modeHolding s = false ∧ decodeHpa s p.val (hpa.toNat / 64 * 64) = some (i, off, db) :=
  ⟨host, 0, 64, 0, 0, 0, 64, false,
    by decide +kernel⟩

theorem wit_meminv : ∃ (s : State) (p : PortN) (hpa : BitVec 64) (ask : Ask) (tag : BitVec 16) (tc : Fin 4) (i : Nat) (off : Nat) (db :
  Bool),
    takesMem s p.val = true ∧ modeHolding s = false ∧ decodeHpa s p.val (hpa.toNat / 64 * 64) = some (i, off, db) :=
  ⟨host, 0, 64, .shared, 0, 0, 0, 64, false,
    by decide +kernel⟩

theorem wit_memwr : ∃ (s : State) (p : PortN) (hpa : BitVec 64) (data : List Byte) (m : BitVec 64) (ks : Bool) (tag : BitVec 16) (tc : Fin
  4) (i : Nat) (off : Nat) (db : Bool),
    takesMem s p.val = true ∧ modeHolding s = false ∧ decodeHpa s p.val (hpa.toNat / 64 * 64) = some (i, off, db) :=
  ⟨host, 0, 64, [], 0, false, 0, 0, 0, 64, false,
    by decide +kernel⟩

theorem wit_memclnevct : ∃ (s : State) (p : PortN) (hpa : BitVec 64) (tag : BitVec 16) (tc : Fin 4) (i : Nat) (off : Nat) (db : Bool),
    takesMem s p.val = true ∧ modeHolding s = false ∧ decodeHpa s p.val (hpa.toNat / 64 * 64) = some (i, off, db) :=
  ⟨host, 0, 64, 0, 0, 0, 64, false,
    by decide +kernel⟩

theorem wit_memspecrd : ∃ (s : State) (p : PortN) (hpa : BitVec 64) (i : Nat) (off : Nat) (db : Bool),
    takesMem s p.val = true ∧ modeHolding s = false ∧ decodeHpa s p.val (hpa.toNat / 64 * 64) = some (i, off, db) :=
  ⟨host, 0, 64, 0, 64, false,
    by decide +kernel⟩

theorem wit_atomicop : ∃ (s : State) (p : PortN) (hpa : BitVec 64) (k : AtomKind) (size : AtomSize) (a : BitVec 128) (b : BitVec 128) (tag
  : BitVec 16) (tc : Fin 4) (i : Nat) (off : Nat) (db : Bool),
    takesMem s p.val = true ∧ modeHolding s = false ∧ atomOk k size hpa.toNat = true ∧ decodeHpa s p.val hpa.toNat = some (i, off, db) :=
  ⟨host, 0, 64, .fetchAdd, .w64, 0, 0, 0, 0, 0, 64, false,
    by decide +kernel⟩

theorem wit_atomicop_2 : ∃ (s : State) (p : PortN) (hpa : BitVec 64) (k : AtomKind) (size : AtomSize) (a : BitVec 128) (b : BitVec 128)
  (tag : BitVec 16) (tc : Fin 4),
    takesMem s p.val = true ∧ atomOk k size hpa.toNat = false :=
  ⟨host, 0, 65, .fetchAdd, .w64, 0, 0, 0, 0,
    by decide +kernel⟩

/-! Witnesses of the hypotheses of SnoopAnswersComplete. -/

theorem wit_birsp : ∃ (s : State) (p : PortN) (key : LineN) (x : BiRsp),
    linkUp s p.val = true ∧ (getLine s key.toNat).snoops = [(p.val, .inv)] ∧ (getLine s key.toNat).coarse = false ∧ (dropHolder { getLine s key.toNat with snoops := [] }
      p.val).coarse = false :=
  ⟨setLine (objs z [(0x2010, 2, 0, 3)]) 0 { lineInit with hstate := 2, ptrs := [0], snoops := [(0, .inv)] }, 0, 0, .i,
    by decide +kernel⟩

theorem wit_biconflict : ∃ (s : State) (p : PortN) (key : LineN),
    linkUp s p.val = true :=
  ⟨objs z [(0x2010, 2, 0, 3)], 0, 0,
    by decide +kernel⟩

theorem wit_sliceResponse : ∃ (s : State) (t : TileN) (key : LineN),
    (getLine s key.toNat).sliceAsks.contains t.val = true ∧ (getLine s key.toNat).cur = none ∧ dirtySt (sliceAt (getLine s key.toNat)
      t.val) = false :=
  ⟨setLine z 0 { lineInit with sliceAsks := [0] }, 0, 0,
    by decide +kernel⟩

theorem wit_biTimeout : ∃ (s : State) (p : PortN) (key : LineN),
    (getLine s key.toNat).snoops.any (fun e => e.1 == p.val) = true ∧ rd s 0x2300 4 p.val ≠ 1 :=
  ⟨setLine z 0 { lineInit with snoops := [(0, .inv)] }, 0, 0,
    by decide +kernel⟩

theorem wit_lostHostScan : ∃ (s : State) (p : PortN),
    s.coh.lostHosts.contains p.val = true :=
  ⟨{ z with coh := { z.coh with lostHosts := [0] } }, 0,
    by decide +kernel⟩

theorem wit_cacheFlush : ∃ (s : State) (r : Requester) (t : TileN),
    accepted s r 0x6100 11 t.val [1] :=
  ⟨z, .vendor, 0,
    by unfold accepted; decide +kernel⟩

theorem wit_dirLookup : ∃ (s : State) (r : Requester) (t : TileN) (v : List Byte),
    accepted s r 0x6200 8 t.val v :=
  ⟨z, .vendor, 0, zeros 8,
    by unfold accepted; decide +kernel⟩

theorem wit_iscSelectTimeout : ∃ (s : State) (p : PortN),
    s.coh.iscWait.contains p.val = true :=
  ⟨{ z with coh := { z.coh with iscWait := [0] } }, 0,
    by decide +kernel⟩

theorem wit_walkComplete : ∃ (s : State) (t : TileN) (k : WalkKind) (key : Nat) (x : Nat) (u : State),
    u = { s with pool := { s.pool with caches := put s.pool.caches (8 * cacheSlot (walkKind k) + t.val) (cacheKeys s (cacheSlot (walkKind k)) t.val ++ [x]), walks := s.pool.walks.filter (· != (8 * walkKind k + t.val, key)) } }
      ∧ k ≠ .directory ∧ s.pool.walks.contains (8 * walkKind k + t.val, key) = true ∧ walkKey s (walkKind k) key = some x ∧ (cacheKeys s
      (cacheSlot (walkKind k)) t.val).contains x = false ∧ ((cacheKeys s (cacheSlot (walkKind k)) t.val).filter fun y => cacheSet
      (cacheSlot (walkKind k)) y == cacheSet (cacheSlot (walkKind k)) x).length < cacheWays (cacheSlot (walkKind k)) :=
  ⟨{ z with pool := { z.pool with walks := [(32, 0)] } }, 0, .frame, 0, 0, _,
    rfl, by decide +kernel⟩

theorem wit_walkComplete_2 : ∃ (s : State) (t : TileN) (key : Nat),
    s.pool.walks.contains (24 + t.val, key) = true ∧ entryWord s key ≠ 0 :=
  ⟨setLine { z with pool := { z.pool with walks := [(24, 5)] } } 5 { lineInit with hstate := 1, ptrs := [0] }, 0, 5,
    by decide +kernel⟩

/-! Witnesses of the hypotheses of IoTrafficComplete. -/

theorem wit_cxlIoRequest : ∃ (s : State) (p : PortN) (v : VppbN) (b : BitVec 64) (l : BitVec 64) (lo : Byte) (hi : Byte),
    linkUp s p.val = true ∧ modeHolding s = false ∧ actingRole s p.val = 1 :=
  ⟨objs z [(0x2000, 1, 0, 1), (0x2010, 2, 0, 3)], 0, 0, 0, 0, 0, 0,
    by decide +kernel⟩

theorem wit_cxlIoRequest_2 : ∃ (s : State) (p : PortN) (a : BitVec 64) (tag : BitVec 16) (tc : Fin 8) (d : List Byte),
    linkUp s p.val = true ∧ modeHolding s = false ∧ routeMem (enterSwitched s p.val 6 0x20).1 p.val a.toNat = none :=
  ⟨objs z [(0x2000, 1, 0, 1), (0x2010, 2, 0, 3)], 0, 0, 0, 0, [],
    by decide +kernel⟩

theorem wit_cxlIoRequest_3 : ∃ (s : State) (p : PortN) (a : BitVec 64) (tag : BitVec 16) (tc : Fin 8) (d : List Byte) (q : Nat) (e : State
  × Option Sample) (v : State) (m : Msg) (x : Option Sample),
    e = enterSwitched s p.val 6 0x20 ∧ m = ioMsg p.val q tag.toNat tc.val 6 .ioNonPosted d ∧ x = hopSample e.1 (portTile p.val) (portTile
      q) m.key ((stamp e.1 e.2 0).map fun y => { y with egress := q }) ∧ v = { e.1 with txns := e.1.txns ++ [{ kind := .ioNonPosted, src := p.val, dst := q, tag := tag.toNat, sent := false, sample := x }] }
      ∧ linkUp s p.val = true ∧ modeHolding s = false ∧ routeMem e.1 p.val a.toNat = some q ∧ linkUp e.1 q = true ∧ admits v (portTile
      p.val) (switchCell m) = true :=
  ⟨sw, 0, 0, 0, 0, [], 2, _, _, _, _,
    rfl, rfl, rfl, rfl, by decide +kernel⟩

theorem wit_cxlIoRequest_4 : ∃ (s : State) (p : PortN) (a : BitVec 64) (tag : BitVec 16) (tc : Fin 8) (d : List Byte) (q : Nat) (e : State
  × Option Sample) (v : State) (m : Msg) (x : Option Sample),
    e = enterSwitched s p.val 5 0x60 ∧ m = ioMsg p.val q tag.toNat tc.val 5 .ioPosted d ∧ x = hopSample e.1 (portTile p.val) (portTile q)
      m.key ((stamp e.1 e.2 0).map fun y => { y with egress := q }) ∧ v = e.1 ∧ linkUp s p.val = true ∧ modeHolding s = false ∧ routeMem
      e.1 p.val a.toNat = some q ∧ linkUp e.1 q = true ∧ admits v (portTile p.val) (switchCell { m with sample := x }) = true :=
  ⟨sw, 0, 0, 0, 0, [], 2, _, _, _, _,
    rfl, rfl, rfl, rfl, by decide +kernel⟩

theorem wit_cxlIoRequest_5 : ∃ (s : State) (p : PortN) (bus : Byte) (tag : BitVec 16) (d : List Byte) (q : Nat) (e : State × Option Sample)
  (v : State) (m : Msg) (x : Option Sample),
    e = enterSwitched s p.val 6 0x05 ∧ m = ioMsg p.val q tag.toNat 0 6 .ioConfig d ∧ x = hopSample e.1 (portTile p.val) (portTile q) m.key
      ((stamp e.1 e.2 0).map fun y => { y with egress := q }) ∧ v = { e.1 with txns := e.1.txns ++ [{ kind := .ioConfig, src := p.val, dst := q, tag := tag.toNat, sent := false, sample := x }] }
      ∧ linkUp s p.val = true ∧ modeHolding s = false ∧ routeCfg e.1 p.val bus.toNat = some q ∧ linkUp e.1 q = true ∧ admits v (portTile
      p.val) (switchCell m) = true :=
  ⟨sw, 0, 3, 0, [], 2, _, _, _, _,
    rfl, rfl, rfl, rfl, by decide +kernel⟩

theorem wit_cxlIoCompletion : ∃ (s : State) (p : PortN) (q : PortN) (tag : BitVec 16) (n : Nat) (v : State) (m : Msg),
    v = endTxn (portEvent s p.val 3 1 none 7) p.val q.val tag.toNat ∧ m = { ioMsg p.val (completionPort s p.val q.val) tag.toNat 0 7 .ioCompletion (zeros n) with sample := answeredSample s p.val q.val tag.toNat }
      ∧ linkUp s p.val = true ∧ (getPort s p.val).lateTags.contains tag.toNat = false ∧ linkUp s (completionPort s p.val q.val) = true ∧
      admits v (portTile p.val) (switchCell m) = true :=
  ⟨sw, 0, 2, 0, 0, _, _,
    rfl, rfl, by decide +kernel⟩

theorem wit_pbrRequest : ∃ (s : State) (p : PortN) (pid : Fin 4096) (a : BitVec 64) (k : Ask) (tag : BitVec 16) (tc : Fin 4) (q : Nat) (e :
  State × Option Sample) (v : State) (m : Msg) (x : Option Sample),
    q = pbrRoute s p.val pid.val % 64 ∧ e = enterSwitched s p.val 0 1 ∧ m = pbrMsg (.memRd a k tag tc) p.val q ∧ x = hopSample e.1
      (portTile p.val) (portTile q) m.key ((stamp e.1 e.2 0).map fun y => { y with egress := q }) ∧ v = { e.1 with txns := e.1.txns ++ [{ kind := .memRd, src := p.val, dst := q, tag := tag.toNat, sent := false, ndr := pbrNdr s p.val (.memRd a k tag tc), sample := x }] }
      ∧ takesPbr s p.val (.memRd a k tag tc) = true ∧ modeHolding s = false ∧ bit (pbrRoute s p.val pid.val) 31 = true ∧ bits (pbrRoute s
      p.val pid.val) 30 28 = 0 ∧ linkUp e.1 q = true ∧ admits v (portTile p.val) (switchCell m) = true :=
  ⟨isc, 0, 0, 0, .shared, 0, 0, _, _, _, _, _,
    rfl, rfl, rfl, rfl, rfl, by decide +kernel⟩

theorem wit_pbrRequest_2 : ∃ (s : State) (p : PortN) (pid : Fin 4096) (x : PbrReq) (e : State × Option Sample) (q : Nat),
    q = pbrRoute s p.val pid.val % 64 ∧ e = enterSwitched s p.val (pbrMsg x p.val p.val).cls (pbrOpcode x) ∧ takesPbr s p.val x = true ∧
      modeHolding s = false ∧ bit (pbrRoute s p.val pid.val) 31 = true ∧ bits (pbrRoute s p.val pid.val) 30 28 = 0 :=
  ⟨isc, 0, 0, .memSpecRd 0, _, _,
    rfl, rfl, by decide +kernel⟩

theorem wit_pbrRequest_3 : ∃ (s : State) (p : PortN) (pid : Fin 4096) (x : PbrReq) (off : Nat) (i : Nat) (a : Ask1),
    i = pbrRoute s p.val pid.val % 4096 ∧ takesPbr s p.val x = true ∧ modeHolding s = false ∧ bit (pbrRoute s p.val pid.val) 31 = true ∧
      bits (pbrRoute s p.val pid.val) 30 28 ≠ 0 ∧ rd s 0x5010 2 i = 2 ∧ pbrAsk x = some (off, a) :=
  ⟨wr (wrTbl isc 0x2320 1 0 0 (2 ^ 31 + 2 ^ 28)) 0x5010 2 0 2, 0, 0, .memSpecRd 0, 0, _, { kind := .specRd, tag := 0, tc := 0, len := 0, cls := 0, opcode := 8, data := [], be := 0, keepS := false },
    rfl, by decide +kernel⟩

theorem wit_cxlCacheMessage : ∃ (s : State) (p : PortN) (q0 : PortN) (cid : Fin 16) (d2h : Bool) (tag : BitVec 16) (n : Nat) (q : Nat) (e :
  State × Option Sample) (v : State) (m : Msg) (x : Option Sample),
    q = q0.val ∧ e = enterSwitched (freeNext s) p.val 0 (freeBits s 8) ∧ m = { kind := if d2h then TxnKind.d2hReq else .h2dSnp, src := p.val, dst := q, tag := tag.toNat, len := 16 + n, cls := 0, data := zeros n, key := cacheKey p.val q cid.val, tc := 0 }
      ∧ x = hopSample e.1 (portTile p.val) (portTile q) m.key ((stamp e.1 e.2 0).map fun y => { y with egress := q }) ∧ v = { e.1 with txns := e.1.txns ++ [{ kind := if d2h then TxnKind.d2hReq else .h2dSnp, src := p.val, dst := q, tag := tag.toNat, sent := false, sample := x }] }
      ∧ takesCache s p.val = true ∧ actingRole s p.val = (if d2h then 2 else 1) ∧ modeHolding s = false ∧ linkUp e.1 q = true ∧ admits v
      (portTile p.val) (switchCell m) = true :=
  ⟨objs sw [(0x2010, 6, 0, 3), (0x2000, 6, 0, 7)], 0, 2, 0, false, 0, 0, _, _, _, _, _,
    rfl, rfl, rfl, rfl, rfl, by decide +kernel⟩

theorem wit_egressSchedule : ∃ (s : State) (q : SchedN) (i : Nat) (m : EgMsg),
    (pickEgress s (schedOf q.val)).2 = some i ∧ (egressOf (pickEgress s (schedOf q.val)).1 (schedOf q.val))[i]? = some m :=
  ⟨setEgress (objs z [(0x2010, 2, 0, 3)]) 0 [{ cls := 16, low := false, len := 1, line := none, out := .conflictAck 0, sample := none }],
    0, 0, { cls := 16, low := false, len := 1, line := none, out := .conflictAck 0, sample := none },
    by decide +kernel⟩

/-! Witnesses of the hypotheses of GateCommandsComplete. -/

theorem wit_clearCapture : ∃ (s : State) (r : Requester) (g : TargetN),
    accepted s r 0x4200 5 g.val [1] :=
  ⟨z, .vendor, 0,
    by unfold accepted; decide +kernel⟩

theorem wit_recolour : ∃ (s : State) (r : Requester) (v : List Byte),
    accepted s r 0x4300 3 0 v ∧ fieldBe v 12 4 ≠ 0 ∧ fieldBe v 4 8 % 65536 = 0 ∧ fieldBe v 0 2 < 4096 ∧ fieldBe v 12 4 * 65536 ≤ instBytes
      s (fieldBe v 0 2) (fun _ => true) ∧ (recolourKeys s (fieldBe v 0 2) (fieldBe v 4 8) (fieldBe v 12 4)).any Option.isNone = false ∧
      trackedRanges s ((recolourKeys s (fieldBe v 0 2) (fieldBe v 4 8) (fieldBe v 12 4)).filterMap id) = [] ∧ ((recolourKeys s (fieldBe v 0
      2) (fieldBe v 4 8) (fieldBe v 12 4)).filterMap id).any (locked s) = false :=
  ⟨ext1 2 0, .vendor, zeros 15 ++ [1] ++ zeros 8,
    by unfold accepted; decide +kernel, by decide +kernel⟩

theorem wit_tagQuery : ∃ (s : State) (r : Requester) (v : List Byte) (key : Nat),
    accepted s r 0x4300 4 0 v ∧ keyAt s (fieldBe v 0 2) (fieldBe v 4 8) extInUse = some key :=
  ⟨ext1 2 0, .vendor, zeros 12, 0,
    by unfold accepted; decide +kernel, by decide +kernel⟩

theorem wit_rangeBackInvalidationComplete : ∃ (s : State) (j : Nat) (x : Rbi),
    s.coh.rbis.find? (fun e => e.1 == j) = some (j, x) ∧ rbiLeft s x = [] ∧ rbiWaits s x.why = false :=
  ⟨{ z with coh := { z.coh with rbis := [(0, { ranges := [], port := none, why := .service })] } }, 0, { ranges := [], port := none, why := .service },
    by decide +kernel⟩

/-! Witnesses of the hypotheses of ExtentCommandsComplete. -/

theorem wit_grant : ∃ (s : State) (r : Requester) (v : List Byte) (f : Nat),
    accepted s r 0x4110 1 0 v ∧ v.length = 32 ∧ grantForm (parseGrant v) = true ∧ testsBlock s (parseGrant v).target (parseGrant v).first
      (parseGrant v).blocks = false ∧ grantChecks (cmdStart s 0x4110 1 0) (parseGrant v) = 0 ∧ grantRun (cmdStart s 0x4110 1 0) (parseGrant
      v) = some f :=
  ⟨setTgt (wrTbl (objs host [(0x4000, 2, 0, 3), (0x4000, 5, 0, 0)]) 0x4120 1 0 0 (2 ^ 34 + 2 ^ 16)) 0 { tgtInit with cap := 8, base := 1 },
    .vendor, zeros 8 ++ be 4 1 ++ zeros 20, 0,
    by unfold accepted; decide +kernel, by decide +kernel⟩

theorem wit_addDynamicCapacityResponse : ∃ (s : State) (i : InstN) (e : ExtentN),
    mailboxOpen s i.val = true ∧ (getExt s e.val).st = 1 ∧ (getExt s e.val).inst = i.val :=
  ⟨ext1 1 0, 0, 0,
    by decide +kernel⟩

theorem wit_addDynamicCapacityResponse_2 : ∃ (s : State) (i : InstN) (e : ExtentN),
    mailboxOpen s i.val = true ∧ (getExt s e.val).st = 1 ∧ (getExt s e.val).inst = i.val :=
  ⟨ext1 1 0, 0, 0,
    by decide +kernel⟩

theorem wit_offerTimeout : ∃ (s : State) (e : ExtentN),
    (getExt s e.val).st = 1 :=
  ⟨ext1 1 0, 0,
    by decide +kernel⟩

theorem wit_extentRelease : ∃ (s : State) (r : Requester) (e : ExtentN),
    accepted s r (extObj e.val) 3 (extQ e.val) (be 4 0) ∧ (getExt s e.val).st = 2 :=
  ⟨ext1 2 0, .vendor, 0,
    by unfold accepted; decide +kernel, by decide +kernel⟩

theorem wit_forcedRelease : ∃ (s : State) (r : Requester) (e : ExtentN),
    accepted s r (extObj e.val) 3 (extQ e.val) (be 4 1) ∧ (getExt s e.val).st = 2 :=
  ⟨ext1 2 0, .vendor, 0,
    by unfold accepted; decide +kernel, by decide +kernel⟩

theorem wit_releaseDynamicCapacity : ∃ (s : State) (i : InstN) (e : ExtentN),
    mailboxOpen s i.val = true ∧ (getExt s e.val).st = 2 ∧ (getExt s e.val).inst = i.val :=
  ⟨ext1 2 0, 0, 0,
    by decide +kernel⟩

theorem wit_cacheAck : ∃ (s : State) (e : ExtentN),
    ((getExt s e.val).st = 2 ∨ (getExt s e.val).st = 4) :=
  ⟨ext1 2 0, 0,
    by decide +kernel⟩

theorem wit_cacheAck_2 : ∃ (s : State) (e : ExtentN),
    (getExt s e.val).st = 3 ∧ (getExt s e.val).phase = 1 :=
  ⟨ext1 3 1, 0,
    by decide +kernel⟩

theorem wit_releaseDrainTimeout : ∃ (s : State) (e : ExtentN),
    (getExt s e.val).st = 3 ∧ (getExt s e.val).phase = 2 :=
  ⟨ext1 3 2, 0,
    by decide +kernel⟩

theorem wit_releaseRequestsDone : ∃ (s : State) (e : ExtentN),
    (getExt s e.val).st = 3 ∧ (getExt s e.val).phase = 2 ∧ inFlight s e.val = 0 :=
  ⟨ext1 3 2, 0,
    by decide +kernel⟩

theorem wit_scrubComplete : ∃ (s : State) (g : TargetN) (b : BlockN),
    tgtState s g.val ≠ 6 :=
  ⟨setTgt z 0 { tgtInit with cap := 8, base := 3 }, 0, 0,
    by decide +kernel⟩

/-! Witnesses of the hypotheses of TargetCommandsComplete. -/

theorem wit_targetPoolWrite : ∃ (s : State) (r : Requester) (g : TargetN) (v : Byte),
    accepted s r 0x4000 1 g.val [v] ∧ v.toNat = 0 ∧ (tgtState s g.val = 0 ∨ tgtState s g.val = 1) :=
  ⟨z, .vendor, 0, 0,
    by unfold accepted; decide +kernel, by decide +kernel⟩

theorem wit_targetPoolWrite_2 : ∃ (s : State) (r : Requester) (g : TargetN) (v : Byte),
    accepted s r 0x4000 1 g.val [v] ∧ v.toNat = 1 ∧ 4 ≤ g.val ∧ tgtState s g.val = 1 ∧ tgtLinkUp s g.val = true ∧ boundToVppb s (g.val -
      16) = false :=
  ⟨objs z [(0x2000, 1, 0, 2), (0x2010, 2, 0, 3), (0x4000, 2, 16, 1)], .vendor, 16, 1,
    by unfold accepted; decide +kernel, by decide +kernel⟩

theorem wit_targetPoolWrite_3 : ∃ (s : State) (r : Requester) (g : TargetN) (v : Byte),
    accepted s r 0x4000 1 g.val [v] ∧ v.toNat = 2 ∧ tgtState s g.val = 3 :=
  ⟨objs z [(0x4000, 2, 0, 3)], .vendor, 0, 2,
    by unfold accepted; decide +kernel, by decide +kernel⟩

theorem wit_joinComplete : ∃ (s : State) (g : TargetN) (n : Nat) (b : Nat) (u : State) (v : State),
    n = devBlocks s g.val ∧ b = n * blockSize s g.val ∧ u = programDevice s g.val b ∧ v = dropBlks (setTgt u g.val { getTgt u g.val with cap := n, base := 3, blocks := [], joinedSerial := (getTgt u g.val).serial, joinedCap := (getTgt u g.val).devCap, away := false })
      g.val (fun _ => true) ∧ tgtState s g.val = 2 ∧ n ≠ 0 ∧ poolBytes s - tgtBytes s g.val + b ≤ poolLimit s ∧ homedBytes s (tgtHome
      g.val) - tgtBytes s g.val + b ≤ tagBytes s (tgtHome g.val) * 65536 :=
  ⟨setTgt (objs ({ z with pool := { z.pool with limitAtBoot := 256, sharesAtBoot := 25 * 16843009 } }) [(0x4000, 2, 16, 2), (0x4000, 5, 16,
    0)]) 16 { tgtInit with devCap := 2 ^ 30 }, 16, _, _, _, _,
    rfl, rfl, rfl, rfl, by decide +kernel⟩

theorem wit_joinComplete_2 : ∃ (s : State) (g : TargetN) (n : Nat) (b : Nat),
    n = devBlocks s g.val ∧ b = n * blockSize s g.val ∧ tgtState s g.val = 2 ∧ (poolLimit s < poolBytes s - tgtBytes s g.val + b ∨ tagBytes
      s (tgtHome g.val) * 65536 < homedBytes s (tgtHome g.val) - tgtBytes s g.val + b) :=
  ⟨setTgt (objs ({ z with pool := { z.pool with limitAtBoot := 0, sharesAtBoot := 25 * 16843009 } }) [(0x4000, 2, 16, 2), (0x4000, 5, 16,
    0)]) 16 { tgtInit with devCap := 2 ^ 30 }, 16, _, _,
    rfl, rfl, by decide +kernel⟩

theorem wit_drainDone : ∃ (s : State) (g : TargetN),
    tgtState s g.val = 4 ∧ extentsWhere s (fun x => extInUse x && x.target == g.val) = [] ∧ s.pool.overlay.any (fun e => dpaTarget
      (e.2.dest * 65536) == g.val) = false :=
  ⟨objs z [(0x4000, 2, 0, 4)], 0,
    by decide +kernel⟩

theorem wit_linkReturnTimeout : ∃ (s : State) (g : TargetN),
    (getTgt s g.val).away = true ∧ (tgtState s g.val = 3 ∨ tgtState s g.val = 4) :=
  ⟨setTgt (objs z [(0x4000, 2, 0, 3)]) 0 { tgtInit with away := true }, 0,
    by decide +kernel⟩

theorem wit_nearTierWrite : ∃ (s : State) (r : Requester) (t : TileN) (v : BitVec 16),
    accepted s r 0x4000 8 t.val (be 2 v.toNat) ∧ (tgtState s t.val < 3 ∨ tgtState s t.val = 7) :=
  ⟨z, .vendor, 0, 0,
    by unfold accepted; decide +kernel, by decide +kernel⟩

theorem wit_nearTierWrite_2 : ∃ (s : State) (r : Requester) (t : TileN) (v : BitVec 16),
    accepted s r 0x4000 8 t.val (be 2 v.toNat) ∧ 3 ≤ tgtState s t.val ∧ tgtState s t.val ≤ 6 ∧ highBlock s t.val * blockSize s t.val ≤ min
      (nearBytes (wr s 0x4000 8 t.val v.toNat) t.val) (nearRoom s t.val) :=
  ⟨wr z 0x4000 2 0 3, .vendor, 0, 0,
    by unfold accepted; decide +kernel, by decide +kernel⟩

theorem wit_pseudoChannelFailure : ∃ (s : State) (t : TileN) (pc : Fin 32),
    bit (rd s 0x4001 1 t.val) pc.val = false ∧ failedIn (wr s 0x4001 1 t.val (setBit (rd s 0x4001 1 t.val) pc.val true)) t.val (stripeSet
      pc.val) < 2 :=
  ⟨z, 0, 0,
    by decide +kernel⟩

theorem wit_retirePseudoChannel : ∃ (s : State) (r : Requester) (t : TileN) (v : Byte),
    accepted s r 0x4001 5 t.val (be 4 v.toNat) ∧ v.toNat ≤ 31 ∧ failedIn s t.val (stripeSet v.toNat) = 0 :=
  ⟨z, .vendor, 0, 0,
    by unfold accepted; decide +kernel, by decide +kernel⟩

theorem wit_rowRepair : ∃ (s : State) (t : TileN) (n : Nat) (u : State),
    u = raise (bump (rowErrors s t.val) 0x4001 2 t.val 32 1) (0x4100 + t.val) 3 .notice [] :=
  ⟨z, 0, 0, _,
    rfl⟩

theorem wit_rowRepair_2 : ∃ (s : State) (t : TileN) (n : Nat),
    (rowErrors s t.val).pool.exhausted.contains (t.val, n) = false :=
  ⟨z, 0, 0,
    by decide +kernel⟩

/-! Witnesses of the hypotheses of LittoralEventsComplete. -/

theorem wit_epochEnd : ∃ (s : State) (t : TileN) (u : State) (v : State),
    u = { returnPlaces (decayHeat (litBump s t.val 0 1) t.val) t.val with lit := { (returnPlaces (decayHeat (litBump s t.val 0 1) t.val) t.val).lit with spent := put (returnPlaces (decayHeat (litBump s t.val 0 1) t.val) t.val).lit.spent t.val 0, queue := (returnPlaces (decayHeat (litBump s t.val 0 1) t.val) t.val).lit.queue.filter fun w => w.manual || w.tile != t.val } }
      ∧ v = (if litState u = 1 ∧ hasHeat u t.val = true then { u with lit := { u.lit with queue := u.lit.queue ++ policyQueue u t.val } }
      else u) :=
  ⟨z, 0, _, _,
    rfl, rfl⟩

theorem wit_moveRecallComplete : ∃ (s : State) (g : GranN) (m : Move) (n : Move) (u : State),
    n = { m with phase := 3, mask := 0 } ∧ copyGate (setMove s g.toNat n) g.toNat n = (u, true) ∧ moveAt s g.toNat = some m ∧ m.phase = 2 ∧
      recallLines s g.toNat = [] :=
  ⟨setMove z 0 (mv 2), 0, mv 2, _, _,
    rfl, by_snd (by decide +kernel), by decide +kernel⟩

theorem wit_moveCopyComplete : ∃ (s : State) (g : GranN) (m : Move) (n : Move) (u : State),
    n = { m with phase := 4, mask := 0, rounds := m.rounds + 1 } ∧ copyGate (setMove s g.toNat n) g.toNat n = (u, true) ∧ moveAt s g.toNat
      = some m ∧ m.phase = 3 :=
  ⟨setMove z 0 (mv 3), 0, mv 3, _, _,
    rfl, by_snd (by decide +kernel), by decide +kernel⟩

theorem wit_moveCopyComplete_2 : ∃ (s : State) (g : GranN) (m : Move),
    moveAt s g.toNat = some m ∧ m.phase = 4 ∧ (marked m).length ≤ rd s 0x6800 10 0 ∧ recallLines s g.toNat = [] :=
  ⟨setMove z 0 (mv 4), 0, mv 4,
    by decide +kernel⟩

theorem wit_cutOverComplete : ∃ (s : State) (g : GranN) (m : Move) (u : State) (v : State) (w : State) (x : State) (y : State) (z : State),
    copyGate s g.toNat m = (u, true) ∧ v = copyLines u g.toNat m (marked m) ∧ w = setColour (setColour v m.dest (colourAt v m.source))
      m.source 0 ∧ x = handOver w g.toNat (moveTile m) (tgtHome (dpaTarget (m.dest * 65536))) ∧ y = (if m.back then delRemap x g.toNat else
      setRemap x g.toNat { cutover := false, dest := m.dest }) ∧ z = setMove (litBump y (moveTile m) (if m.back then 2 else 1) 1) g.toNat { m with phase := 6, mask := 0, held := [], waits := [0, 1, 2, 3] }
      ∧ moveAt s g.toNat = some m ∧ m.phase = 5 ∧ m.held = [] ∧ look [] z.lit.locked g.toNat = [] :=
  ⟨setMove z 0 (mv 5), 0, mv 5, _, _, _, _, _, _,
    by_snd (by decide +kernel), rfl, rfl, rfl, rfl, rfl, by decide +kernel⟩

theorem wit_lockGuardExpiry : ∃ (s : State) (g : GranN) (m : Move),
    moveAt s g.toNat = some m ∧ m.phase = 5 :=
  ⟨setMove z 0 (mv 5), 0, mv 5,
    by decide +kernel⟩

theorem wit_releaseMessage : ∃ (s : State) (t : TileN) (g : GranN) (m : Move),
    moveAt s g.toNat = some m ∧ m.phase = 6 :=
  ⟨setMove z 0 (mv 6), 0, 0, mv 6,
    by decide +kernel⟩

theorem wit_moveSettle : ∃ (s : State) (g : GranN) (m : Move),
    moveAt s g.toNat = some m ∧ m.phase = 6 ∧ m.waits = [] ∧ m.back = true ∧ m.manual = false ∧ 4 ≤ dpaTarget (m.source * 65536) :=
  ⟨setMove z 0 (mv 6), 0, mv 6,
    by decide +kernel⟩

theorem wit_sectorFill : ∃ (s : State) (g : GranN) (k : Fin 64),
    has s.lit.frames g.toNat = true ∧ bit (getFrame s g.toNat).filling k.val = true :=
  ⟨setFrame z 0 { frameInit with filling := 1 }, 0, 0,
    by decide +kernel⟩

theorem wit_littoralMove : ∃ (s : State) (r : Requester) (v : List Byte) (gs : List Nat) (a : Nat) (u : State),
    accepted s r 0x6830 1 0 v ∧ a = fieldBe v 2 1 ∧ u = { wr (cmdStart s 0x6830 1 0) 0x6830 2 0 0 with lit := { s.lit with queue := s.lit.queue.filter (·.manual) ++ gs.map (fun g => { g := g, action := a, stack := fieldBe v 3 1, tile := keyTile g, manual := true }) ++ s.lit.queue.filter (fun x => !x.manual), left := fieldBe v 12 4, lastReason := 0 } }
      ∧ v.length = 24 ∧ a ≤ 3 ∧ ((a = 0 → fieldBe v 3 1 ≤ 3 ∨ fieldBe v 3 1 = 255)) ∧ fieldBe v 12 4 ≠ 0 ∧ fieldBe v 4 8 % 65536 = 0 ∧
      fieldBe v 12 4 * 65536 ≤ instBytes s (fieldBe v 0 2) (fun _ => true) ∧ gs = (rangeGrans s (fieldBe v 0 2) (fieldBe v 4 8) (fieldBe v
      12 4)).filterMap id ∧ gs.length = fieldBe v 12 4 ∧ gs.any (fun g => !farGran g) = false ∧ gs.any (fun g => ((a == 0 || a == 3) &&
      granKnob s g == 3) || (a == 0 && granKnob s g == 2)) = false :=
  ⟨wr (setExt host 0 { extInit with st := 2, target := 16, first := 0, blocks := 4 }) 0x1200 2 0 5, .vendor, zeros 2 ++ [1] ++ zeros 12 ++
    [1] ++ zeros 8, [16 * 2 ^ 28], _, _,
    by unfold accepted; decide +kernel, rfl, rfl, by decide +kernel⟩

/-! Witnesses of the hypotheses of ModeTransitionsComplete. -/

theorem wit_targetModeWrite : ∃ (s : State) (r : Requester) (v : Byte),
    accepted s r 0x1200 1 0 [v] ∧ rd s 0x1200 3 0 = 0 ∧ v.toNat ≠ modeNow s ∧ allowedMode (modeNow s) v.toNat = true ∧ hasOverlay s v.toNat
      = true ∧ modeBlocked s v.toNat = 0 :=
  ⟨objs { z with mode := { z.mode with running := some { serial := 0, defaultMode := 1, base := [], overlays := [(2, [])] } } } [(0x1200,
    2, 0, 1), (0x1200, 3, 0, 0)], .vendor, 2,
    by unfold accepted; decide +kernel, by decide +kernel⟩

theorem wit_quiesceComplete : ∃ (s : State) (u : State),
    patchAll (runningCfg s (modeNow s)) (runningCfg s s.mode.target) s.mode.touched (wr s 0x1200 3 0 2) = (u, none) ∧ rd s 0x1200 3 0 = 1 ∧
      s.mode.target ≠ 5 :=
  ⟨objs { z with mode := { z.mode with target := 2 } } [(0x1200, 3, 0, 1), (0x1200, 2, 0, 1)], _,
    by_snd (by decide +kernel), by decide +kernel⟩

theorem wit_quiesceTimeout : ∃ (s : State),
    rd s 0x1200 3 0 = 1 ∧ s.mode.target ≠ 5 :=
  ⟨wr z 0x1200 3 0 1,
    by decide +kernel⟩

theorem wit_drainComplete : ∃ (s : State) (u : State),
    patchAll (runningCfg s (modeNow s)) (runningCfg s 5) s.mode.touched (wr { (List.range 4).foldl flushTile s with coh := { ((List.range 4).foldl flushTile s).coh with lines := [] } }
      0x1200 3 0 2) = (u, none) ∧ rd s 0x1200 3 0 = 1 ∧ s.mode.target = 5 ∧ requestsDone s = true ∧ (s.coh.lines.any fun e => wayUsed
      (lineHome s e.1) e.2) = false :=
  ⟨wr { z with mode := { z.mode with target := 5 } } 0x1200 3 0 1, _,
    by_snd (by decide +kernel), by decide +kernel⟩

theorem wit_drainTimeout : ∃ (s : State),
    rd s 0x1200 3 0 = 1 ∧ s.mode.target = 5 :=
  ⟨wr { z with mode := { z.mode with target := 5 } } 0x1200 3 0 1,
    by decide +kernel⟩

theorem wit_roleChangeTimeout : ∃ (s : State),
    rd s 0x1200 3 0 = 3 :=
  ⟨wr z 0x1200 3 0 3,
    by decide +kernel⟩

/-! Witnesses of the hypotheses of ImageCommandsComplete. -/

theorem wit_cfgInstall : ∃ (s : State) (r : Requester),
    accepted s r 0x1211 2 0 [1] :=
  ⟨z, .vendor,
    by unfold accepted; decide +kernel⟩

theorem wit_installComplete : ∃ (s : State) (v : List Byte),
    s.mode.installing = some v :=
  ⟨{ z with mode := { z.mode with installing := some [] } }, [],
    by decide +kernel⟩

theorem wit_installComplete_2 : ∃ (s : State) (err : Byte) (v : List Byte),
    s.mode.installing = some v ∧ err ≠ 0 :=
  ⟨{ z with mode := { z.mode with installing := some [] } }, 1, [],
    by decide +kernel⟩

theorem wit_cfgActivate : ∃ (s : State) (r : Requester),
    accepted s r 0x1212 1 0 [1] ∧ modeNow s = 5 ∧ rd s 0x1200 3 0 = 0 :=
  ⟨objs z [(0x1200, 2, 0, 5), (0x1200, 3, 0, 0)], .vendor,
    by unfold accepted; decide +kernel, by decide +kernel⟩

theorem wit_commitDelta : ∃ (s : State) (r : Requester),
    accepted s r 0x1213 1 0 [1] ∧ rd s 0x1210 1 0 ≠ 2 ∧ ((deltaPatches s).flatMap Patch.bytes).length ≤ 262080 :=
  ⟨z, .vendor,
    by unfold accepted; decide +kernel, by decide +kernel⟩

theorem wit_clearDelta : ∃ (s : State) (r : Requester),
    accepted s r 0x1213 2 0 [1] ∧ rd s 0x1210 1 0 ≠ 2 :=
  ⟨z, .vendor,
    by unfold accepted; decide +kernel, by decide +kernel⟩

theorem wit_compatWrite : ∃ (s : State) (off : Fin 2048) (v : BitVec 32),
    compatOpen s = true :=
  ⟨wr mgr 0x1220 1 0 1, 0, 0,
    by decide +kernel⟩

theorem wit_compatStatusClear : ∃ (s : State) (mask : BitVec 32) (f : Bool),
    compatOpen s = true :=
  ⟨wr mgr 0x1220 1 0 1, 0, false,
    by decide +kernel⟩

/-! Witnesses of the hypotheses of OdpRequestsComplete. -/

theorem wit_odpHello : ∃ (s : State) (t : Transport) (m : OdpMsg) (n : OdpMsg),
    n = { m with opcode := 0x01 } ∧ transportOpen s t = true ∧ formOk n (msgLimit t) 0 = true :=
  ⟨mgr, .mctp, bare 1 [] 0, _,
    rfl, by decide +kernel⟩

theorem wit_odpOpen : ∃ (s : State) (t : Transport) (m : OdpMsg) (n : OdpMsg) (u : State) (cred : List Byte) (nonce : List Byte) (key :
  List Byte),
    n = { m with opcode := 0x02 } ∧ formOk n (msgLimit t) 16 = true ∧ u = hldWake s (transportWake t) ∧ nonce = padTo (Config.nonceBytes
      (u.free + 1)) 32 ∧ key = Config.hkdfSha384 cred (slice n.body 4 32 ++ nonce) ∧ transportOpen s t = true ∧ openRefusal u t n = none ∧
      credential u (fieldBe n.body 0 1) = some cred :=
  ⟨{ mgr with sec := { mgr.sec with creds := [(2, [1])] } }, .mctp, ask 2 (2 :: zeros 35) 0, ask 2 (2 :: zeros 35) 0, _, [1], _, _,
    rfl, form_ask (by decide +kernel), rfl, rfl, rfl, by decide +kernel⟩

theorem wit_odpClose : ∃ (s : State) (t : Transport) (m : OdpMsg) (n : OdpMsg) (x : Session),
    n = { m with opcode := 0x03 } ∧ inOrder s t x n :=
  ⟨sesRun, .mctp, ask 3 [] 0, ask 3 [] 0, ses,
    rfl, inOrder_ask (by decide +kernel) (by decide +kernel)⟩

theorem wit_odpRead : ∃ (s : State) (t : Transport) (m : OdpMsg) (n : OdpMsg) (x : Session),
    n = { m with opcode := 0x10 } ∧ inOrder s t x n ∧ (((parseItems n.items.toNat n.body).getD []).flatMap (fun w => replyItem (beforeOp s
      t x n) x.level x.version w (readOne (beforeOp s t x n) x.level n.opcode.toNat (msgLimit t - 40) w).1 (readOne (beforeOp s t x n)
      x.level n.opcode.toNat (msgLimit t - 40) w).2)).length ≤ msgLimit t - 40 :=
  ⟨sesRun, .mctp, ask 16 item 1, ask 16 item 1, ses,
    rfl, inOrder_ask (by decide +kernel) (by decide +kernel), by decide +kernel⟩

theorem wit_odpWrite : ∃ (s : State) (t : Transport) (m : OdpMsg) (n : OdpMsg) (x : Session),
    n = { m with opcode := 0x11 } ∧ inOrder s t x n ∧ 12 * ((parseItems n.items.toNat n.body).getD []).length ≤ msgLimit t - 40 :=
  ⟨sesRun, .mctp, ask 17 item 1, ask 17 item 1, ses,
    rfl, inOrder_ask (by decide +kernel) (by decide +kernel), by decide +kernel⟩

theorem wit_odpReadChunk : ∃ (s : State) (t : Transport) (m : OdpMsg) (n : OdpMsg) (x : Session),
    n = { m with opcode := 0x12 } ∧ inOrder s t x n ∧ (((parseItems n.items.toNat n.body).getD []).flatMap (fun w => replyItem (beforeOp s
      t x n) x.level x.version w (readOne (beforeOp s t x n) x.level n.opcode.toNat (msgLimit t - 40) w).1 (readOne (beforeOp s t x n)
      x.level n.opcode.toNat (msgLimit t - 40) w).2)).length ≤ msgLimit t - 40 :=
  ⟨sesRun, .mctp, ask 18 item 1, ask 18 item 1, ses,
    rfl, inOrder_ask (by decide +kernel) (by decide +kernel), by decide +kernel⟩

theorem wit_odpWriteChunk : ∃ (s : State) (t : Transport) (m : OdpMsg) (n : OdpMsg) (x : Session),
    n = { m with opcode := 0x13 } ∧ inOrder s t x n ∧ 12 * ((parseItems n.items.toNat n.body).getD []).length ≤ msgLimit t - 40 :=
  ⟨sesRun, .mctp, ask 19 item 1, ask 19 item 1, ses,
    rfl, inOrder_ask (by decide +kernel) (by decide +kernel), by decide +kernel⟩

theorem wit_odpDescribe : ∃ (s : State) (t : Transport) (m : OdpMsg) (n : OdpMsg) (x : Session),
    n = { m with opcode := 0x20 } ∧ inOrder s t x n ∧ (((parseItems n.items.toNat n.body).getD []).flatMap (fun w => replyItem (beforeOp s
      t x n) x.level x.version w (readOne (beforeOp s t x n) x.level n.opcode.toNat (msgLimit t - 40) w).1 (readOne (beforeOp s t x n)
      x.level n.opcode.toNat (msgLimit t - 40) w).2)).length ≤ msgLimit t - 40 :=
  ⟨sesRun, .mctp, ask 32 (be 2 1 ++ zeros 10) 1, ask 32 (be 2 1 ++ zeros 10) 1, ses,
    rfl, inOrder_ask (by decide +kernel) (by decide +kernel), by decide +kernel⟩

theorem wit_odpSubscribe : ∃ (s : State) (t : Transport) (m : OdpMsg) (n : OdpMsg) (x : Session),
    n = { m with opcode := 0x30 } ∧ inOrder s t x n :=
  ⟨sesRun, .mctp, ask 48 (zeros 4) 0, ask 48 (zeros 4) 0, ses,
    rfl, inOrder_ask (by decide +kernel) (by decide +kernel)⟩

theorem wit_odpKeepalive : ∃ (s : State) (t : Transport) (m : OdpMsg) (n : OdpMsg) (x : Session),
    n = { m with opcode := 0x3F } ∧ inOrder s t x n :=
  ⟨sesRun, .mctp, ask 63 [] 0, ask 63 [] 0, ses,
    rfl, inOrder_ask (by decide +kernel) (by decide +kernel)⟩

/-! Witnesses of the hypotheses of DictionaryCommandsComplete. -/

theorem wit_dictionaryReady : ∃ (s : State),
    s.pwr.testMode = false ∧ (s.sec.stage = 2 ∨ s.sec.stage = 3) ∧ s.mgmt.ready = false ∧ s.mgmt.odwBusy = false :=
  ⟨{ z with sec := { z.sec with stage := 2 } },
    by decide +kernel⟩

theorem wit_objectWrite : ∃ (s : State) (w : RegWrite) (idx : BitVec 16) (q : BitVec 16) (sub : Byte) (u : State),
    writeItem s w.requester (rowItem idx.toNat sub.toNat q.toNat w.value) = (u, .ok) ∧ w.place = .object idx sub q :=
  ⟨z, { requester := .vendor, place := .object 0x1100 0x07 0, value := [3] }, 0x1100, 0, 7, _,
    by_snd (by decide +kernel), by decide +kernel⟩

theorem wit_objectWrite_2 : ∃ (s : State) (w : RegWrite) (idx : BitVec 16) (q : BitVec 16) (sub : Byte) (start : BitVec 32) (u : State),
    writeChunk s w.requester (rowItem idx.toNat sub.toNat q.toNat (chunkValue start.toNat (w.value.length / recSize idx.toNat sub.toNat)
      w.value)) = (u, .ok) ∧ w.place = .chunk idx sub q start :=
  ⟨z, { requester := .vendor, place := .chunk 0x3210 1 0 0, value := [0] }, 0x3210, 0, 1, 0, _,
    by_snd (by decide +kernel), by decide +kernel⟩

theorem wit_objectWrite_3 : ∃ (s : State) (w : RegWrite) (off : Fin 16384),
    w.place = .window off :=
  ⟨z, { requester := .vendor, place := .window 0, value := [0] }, 0,
    by decide +kernel⟩

theorem wit_actualViewChange : ∃ (s : State) (u : ViewUnit) (v : Byte) (n : Nat),
    actualMax u.idx.toNat = some n ∧ v.toNat ≤ n ∧ viewExists s u.idx.toNat u.q.toNat = true :=
  ⟨z, { idx := 0x3000, q := 0 }, 0, 4,
    by decide +kernel⟩

theorem wit_stateSkew : ∃ (s : State) (u : ViewUnit),
    statefulObjs.contains u.idx.toNat = true ∧ viewExists s u.idx.toNat u.q.toNat = true ∧ has s.mgmt.skewed (okey u.idx.toNat 1 u.q.toNat)
      = false ∧ viewsAgree s u.idx.toNat u.q.toNat = false :=
  ⟨objs z [(0x3000, 1, 0, 1), (0x3000, 2, 0, 0)], { idx := 0x3000, q := 0 },
    by decide +kernel⟩

theorem wit_odwGo : ∃ (s : State),
    windowOpen s = true ∧ s.mgmt.odwEnable = true ∧ s.mgmt.odwBusy = false ∧ s.mgmt.ready = true :=
  ⟨mgr,
    by decide +kernel⟩

theorem wit_odwGo_2 : ∃ (s : State),
    windowOpen s = true ∧ s.mgmt.odwEnable = true ∧ s.mgmt.odwBusy = true :=
  ⟨{ mgr with mgmt := { mgr.mgmt with odwBusy := true } },
    by decide +kernel⟩

theorem wit_odwDone : ∃ (s : State) (st : Nat) (b : List Byte),
    s.mgmt.odwReply = some (st, b) ∧ s.mgmt.odwBusy = true ∧ s.mgmt.odwIrqEn = false :=
  ⟨{ z with mgmt := { z.mgmt with odwBusy := true, odwReply := some (0, []) } }, 0, [],
    by decide +kernel⟩

theorem wit_odwStatusClear : ∃ (s : State) (mask : BitVec 32) (o : Bool),
    windowOpen s = true :=
  ⟨mgr, 0, false,
    by decide +kernel⟩

theorem wit_endpointDiscovery : ∃ (s : State),
    transportOpen s .mctp = true :=
  ⟨mgr,
    by decide +kernel⟩

theorem wit_eidAssignment : ∃ (s : State) (eid : Byte),
    transportOpen s .mctp = true ∧ eid ≠ 0 ∧ eid ≠ 0xFF :=
  ⟨mgr, 9,
    by decide +kernel⟩

theorem wit_versionQuery : ∃ (s : State) (k : Byte),
    transportOpen s .mctp = true :=
  ⟨mgr, 0,
    by decide +kernel⟩

theorem wit_dictionaryRequest : ∃ (s : State) (i : InstN) (v : List Byte) (u : State) (n : Nat) (b : List Byte),
    mailboxOpen s i.val = true ∧ vendorBit s i.val 0xC000 = true ∧ s.mgmt.ready = true ∧ plainRequest s (.tenant i) v = (u, some (n, b)) :=
  ⟨wr { host with mgmt := { host.mgmt with ready := true } } 0x5100 5 0 255, 0, odpBytes (bare 1 [] 0), (plainRequest (wr { host with mgmt := { host.mgmt with ready := true } }
    0x5100 5 0 255) (.tenant 0) (odpBytes (bare 1 [] 0))).1, 0, (plainRequest (wr { host with mgmt := { host.mgmt with ready := true } }
    0x5100 5 0 255) (.tenant 0) (odpBytes (bare 1 [] 0))).2.get!.2,
    by decide +kernel⟩

/-! Witnesses of the hypotheses of InstanceCommandsComplete. -/

theorem wit_instCreate : ∃ (s : State) (r : Requester) (v : List Byte) (j : Nat),
    accepted s r 0x5001 1 0 v ∧ v.length = 8 ∧ fieldBe v 0 2 = 0xFFFF ∧ fieldBe v 2 2 ≤ 4096 ∧ ((List.range 4096).find? fun i =>
      !instExists s i) = some j :=
  ⟨z, .vendor, be 2 0xFFFF ++ zeros 6, 0,
    by unfold accepted; decide +kernel, by decide +kernel⟩

theorem wit_instCreate_2 : ∃ (s : State) (r : Requester) (v : List Byte) (j : Nat),
    accepted s r 0x5001 1 0 v ∧ v.length = 8 ∧ fieldBe v 0 2 = j ∧ j < 4096 ∧ fieldBe v 2 2 ≤ 4096 ∧ instExists s j = false :=
  ⟨z, .vendor, zeros 8, 0,
    by unfold accepted; decide +kernel, by decide +kernel⟩

theorem wit_instDestroy : ∃ (s : State) (r : Requester) (i : InstN),
    accepted s r 0x5000 3 i.val [1] ∧ instExists s i.val = true ∧ (rd s 0x5010 2 i.val = 1 ∨ rd s 0x5010 2 i.val = 2 ∨ rd s 0x5010 2 i.val
      = 4) :=
  ⟨host, .vendor, 0,
    by unfold accepted; decide +kernel, by decide +kernel⟩

theorem wit_instDestroy_2 : ∃ (s : State) (r : Requester) (i : InstN),
    accepted s r 0x5000 3 i.val [1] ∧ instExists s i.val = true ∧ rd s 0x5010 2 i.val = 0 :=
  ⟨wr z 0x5000 1 0 1, .vendor, 0,
    by unfold accepted; decide +kernel, by decide +kernel⟩

theorem wit_destroyComplete : ∃ (s : State) (i : InstN),
    (getInst s i.val).destroying = 2 ∧ (instExtents s i.val).isEmpty = true ∧ s.gecko.tables.any (fun e => e.2.owner == i.val) = false :=
  ⟨setInst z 0 { instInit with destroying := 2 }, 0,
    by decide +kernel⟩

theorem wit_instBind : ∃ (s : State) (r : Requester) (i : InstN) (v : Byte),
    accepted s r 0x5010 1 i.val [v] ∧ v.toNat = 1 ∧ rd s 0x5010 2 i.val = 0 ∧ bindOk s i.val (rd s 0x5010 3 i.val) (rd s 0x5010 4 i.val) =
      true :=
  ⟨objs z [(0x5000, 1, 0, 1), (0x5010, 3, 0, 0), (0x2000, 1, 0, 1)], .vendor, 0, 1,
    by unfold accepted; decide +kernel, by decide +kernel⟩

theorem wit_instBind_2 : ∃ (s : State) (r : Requester) (i : InstN) (v : Byte),
    accepted s r 0x5010 1 i.val [v] ∧ v.toNat = 0 :=
  ⟨z, .vendor, 0, 0,
    by unfold accepted; decide +kernel, by decide +kernel⟩

theorem wit_instBind_3 : ∃ (s : State) (r : Requester) (i : InstN) (v : Byte),
    accepted s r 0x5010 3 i.val [v] ∧ v.toNat < 64 ∧ rd s 0x5010 2 i.val = 0 :=
  ⟨z, .vendor, 0, 0,
    by unfold accepted; decide +kernel, by decide +kernel⟩

theorem wit_instBind_4 : ∃ (s : State) (r : Requester) (i : InstN) (v : Byte),
    accepted s r 0x5010 4 i.val [v] ∧ rd s 0x5010 2 i.val = 0 :=
  ⟨z, .vendor, 0, 0,
    by unfold accepted; decide +kernel, by decide +kernel⟩

theorem wit_instUnbind : ∃ (s : State) (i : InstN),
    rd s 0x5010 2 i.val = 4 ∧ stillAccepted s i.val = false ∧ 64 ≤ (getInst s i.val).usp ∧ hdmDbRanges s i.val = [] :=
  ⟨setInst (wr z 0x5010 2 0 4) 0 { instInit with usp := 64 }, 0,
    by decide +kernel⟩

theorem wit_instUnbind_2 : ∃ (s : State) (i : InstN) (k : Nat) (l : List (Nat × Nat)) (u : State),
    k = fnKey (getInst s i.val).usp (getInst s i.val).ld ∧ l = (getFn s k).reads ∧ u = dropReads (setFn s k { getFn s k with heldTags := (getFn s k).heldTags ++ l.map (·.2), reads := [] })
      l ∧ rd s 0x5010 2 i.val = 4 ∧ stillAccepted s i.val = false ∧ (getInst s i.val).usp < 64 :=
  ⟨setInst (wr z 0x5010 2 0 4) 0 { instInit with usp := 0 }, 0, _, _, _,
    rfl, rfl, rfl, by decide +kernel⟩

theorem wit_hdmDecoderCommit : ∃ (s : State) (i : InstN) (d : Fin 8) (b : List Byte),
    b.length = 32 ∧ rd s 0x5010 2 i.val = 1 ∧ decCommitted (decoderRec s i.val d.val) = false ∧ decCommitted (ofBe b) = true ∧ decOk s
      i.val (ofBe b) (otherDecs s i.val d.val) = true :=
  ⟨wrTbl (wr host 0x1200 2 0 1) 0x4120 1 0 0 (640 * 2 ^ 32 + 2 ^ 16), 0, 1, be 8 (2 ^ 30) ++ be 8 (2 ^ 28) ++ be 8 (2 ^ 30) ++ be 8 (2 ^
    32),
    by decide +kernel⟩

theorem wit_postNotice : ∃ (s : State) (r : Requester) (i : InstN) (v : List Byte),
    accepted s r 0x5100 1 i.val v ∧ instExists s i.val = true ∧ ((4 ≤ fieldBe v 0 2 ∧ fieldBe v 0 2 ≤ 7) ∨ (0x100 ≤ fieldBe v 0 2 ∧ fieldBe
      v 0 2 ≤ 0x7FFF)) ∧ fieldBe v 2 2 = 0 ∧ (getInst s i.val).notices.length < 64 :=
  ⟨wr z 0x5000 1 0 1, .vendor, 0, be 2 4 ++ zeros 50,
    by unfold accepted; decide +kernel, by decide +kernel⟩

/-! Witnesses of the hypotheses of MailboxCommandsComplete. -/

theorem wit_identifyMemoryDevice : ∃ (s : State) (i : InstN),
    mailboxOpen s i.val = true :=
  ⟨wr host 0x5100 5 0 255, 0,
    by decide +kernel⟩

theorem wit_getSupportedLogs : ∃ (s : State) (i : InstN),
    mailboxOpen s i.val = true :=
  ⟨wr host 0x5100 5 0 255, 0,
    by decide +kernel⟩

theorem wit_getLog : ∃ (s : State) (i : InstN) (o : BitVec 32) (n : BitVec 32),
    mailboxOpen s i.val = true ∧ o.toNat + n.toNat ≤ (celBytes s i.val).length :=
  ⟨wr host 0x5100 5 0 255, 0, 0, 0,
    by decide +kernel⟩

theorem wit_getEventRecords : ∃ (s : State) (i : InstN) (k : Byte) (l : List EventRec) (n : Nat),
    l = (getInst s i.val).events.filter (fun e => e.log == k.toNat) ∧ mailboxOpen s i.val = true ∧ k.toNat < 5 ∧ n = min l.length 511 :=
  ⟨wr host 0x5100 5 0 255, 0, 0, _, 0,
    rfl, by decide +kernel⟩

theorem wit_clearEventRecords : ∃ (s : State) (i : InstN) (k : Byte) (hs : List Nat),
    mailboxOpen s i.val = true ∧ k.toNat < 5 ∧ (hs.all fun h => (logRecords s i.val k.toNat).any fun e => e.handle == h) = true :=
  ⟨wr host 0x5100 5 0 255, 0, 0, [],
    by decide +kernel⟩

theorem wit_getEventInterruptPolicy : ∃ (s : State) (i : InstN),
    mailboxOpen s i.val = true :=
  ⟨wr host 0x5100 5 0 255, 0,
    by decide +kernel⟩

theorem wit_setEventInterruptPolicy : ∃ (s : State) (i : InstN) (p : List Byte),
    mailboxOpen s i.val = true ∧ (p.length = 4 ∨ p.length = 5) :=
  ⟨wr host 0x5100 5 0 255, 0, [0, 0, 0, 0],
    by decide +kernel⟩

theorem wit_getHealthInfo : ∃ (s : State) (i : InstN),
    mailboxOpen s i.val = true :=
  ⟨wr host 0x5100 5 0 255, 0,
    by decide +kernel⟩

theorem wit_getTimestamp : ∃ (s : State) (i : InstN),
    mailboxOpen s i.val = true :=
  ⟨wr host 0x5100 5 0 255, 0,
    by decide +kernel⟩

theorem wit_getPoisonList : ∃ (s : State) (i : InstN) (o : BitVec 64) (n : BitVec 64) (l : List Nat),
    l = poisonOffsets s i.val o.toNat n.toNat ∧ mailboxOpen s i.val = true :=
  ⟨wr host 0x5100 5 0 255, 0, 0, 0, _,
    rfl, by decide +kernel⟩

theorem wit_getDynamicCapacityConfiguration : ∃ (s : State) (i : InstN) (a : Byte) (n : Byte) (l : List (Nat × Nat × Nat × Nat × Nat)),
    l = validRegions s i.val ∧ mailboxOpen s i.val = true :=
  ⟨wr host 0x5100 5 0 255, 0, 0, 0, _,
    rfl, by decide +kernel⟩

theorem wit_getDynamicCapacityExtentList : ∃ (s : State) (i : InstN) (a : BitVec 32) (n : BitVec 32) (l : List Nat),
    l = (((instExtents s i.val).filter fun e => (getExt s e).st == 2).mergeSort fun a b => decide ((getExt s a).offset ≤ (getExt s
      b).offset)) ∧ mailboxOpen s i.val = true ∧ a.toNat ≤ l.length :=
  ⟨wr host 0x5100 5 0 255, 0, 0, 0, _,
    rfl, by decide +kernel⟩

theorem wit_mailboxUnsupported : ∃ (s : State) (i : InstN) (op : BitVec 16),
    mailboxOpen s i.val = true ∧ cxlCommands.contains op.toNat = false ∧ vendorBit s i.val op.toNat = false :=
  ⟨wr host 0x5100 5 0 255, 0, 0xFFFF,
    by decide +kernel⟩

theorem wit_submitInvocations : ∃ (s : State) (i : InstN) (k : QueueK) (ds : List (List Byte)) (n : Nat) (u : State),
    u = setRing s i.val k.val (ringOf s i.val k.val ++ ds.take n) ∧ mailboxOpen s i.val = true ∧ vendorBit s i.val 0xC001 = true ∧ ds ≠ []
      ∧ ds.length ≤ 63 ∧ (∀ d ∈ ds, d.length = 64) ∧ n = min ds.length (256 - (ringOf s i.val k.val).length) :=
  ⟨wr host 0x5100 5 0 255, 0, 0, [zeros 64], 1, _,
    rfl, by decide +kernel⟩

theorem wit_getCompletions : ∃ (s : State) (i : InstN) (mask : BitVec 16) (m : BitVec 16) (u : State) (b : List Byte) (n : Nat),
    takeCompletions s i.val mask.toNat (List.range 16) (min m.toNat 1638) = (u, b, n) ∧ mailboxOpen s i.val = true ∧ vendorBit s i.val
      0xC002 = true :=
  ⟨wr host 0x5100 5 0 255, 0, 0, 0, _, [], 0,
    rfl, by decide +kernel⟩

theorem wit_loadStepTable : ∃ (s : State) (i : InstN) (b : List Byte) (u : State) (code : Nat) (at_ : Nat),
    loadImage s i.val b = (u, code, at_) ∧ mailboxOpen s i.val = true ∧ vendorBit s i.val 0xC003 = true ∧ (getInst s i.val).background =
      none :=
  ⟨wr host 0x5100 5 0 255, 0, [], _, (loadImage (wr host 0x5100 5 0 255) 0 []).2.1, (loadImage (wr host 0x5100 5 0 255) 0 []).2.2,
    rfl, by decide +kernel⟩

theorem wit_unloadStepTable : ∃ (s : State) (i : InstN) (tb : BitVec 16) (t : StepTable),
    mailboxOpen s i.val = true ∧ vendorBit s i.val 0xC004 = true ∧ getTable s tb.toNat = some t ∧ t.owner = i.val ∧ (getInst s
      i.val).background = none ∧ getTable (unloadTable s tb.toNat) tb.toNat = none :=
  ⟨{ (wr host 0x5100 5 0 255) with gecko := { z.gecko with tables := [(512, tab 0)] } }, 0, 512, tab 0,
    by decide +kernel⟩

theorem wit_getNotices : ∃ (s : State) (i : InstN) (m : Byte),
    mailboxOpen s i.val = true ∧ vendorBit s i.val 0xC005 = true :=
  ⟨wr host 0x5100 5 0 255, 0, 0,
    by decide +kernel⟩

theorem wit_acknowledgeNotices : ∃ (s : State) (i : InstN) (q : BitVec 32) (l : List Notice),
    l = (getInst s i.val).notices.filter (fun n => !decide ((q.toNat + 2 ^ 32 - n.seq) % 2 ^ 32 < 2 ^ 31)) ∧ mailboxOpen s i.val = true ∧
      vendorBit s i.val 0xC006 = true :=
  ⟨wr host 0x5100 5 0 255, 0, 0, _,
    rfl, by decide +kernel⟩

theorem wit_confirmFlush : ∃ (s : State) (i : InstN) (o : BitVec 64) (n : BitVec 64),
    mailboxOpen s i.val = true ∧ vendorBit s i.val 0xC007 = true :=
  ⟨wr host 0x5100 5 0 255, 0, 0, 0,
    by decide +kernel⟩

/-! Witnesses of the hypotheses of DirtyLogCommandsComplete. -/

theorem wit_dirtyStart : ∃ (s : State) (r : Requester) (i : InstN),
    accepted s r 0x5200 1 i.val [1] ∧ instExists s i.val = true ∧ (getDirty s i.val).stopP = false ∧ (getDirty s i.val).logging = false ∧
      (getDirty s i.val).startP = false :=
  ⟨wr z 0x5000 1 0 1, .vendor, 0,
    by unfold accepted; decide +kernel, by decide +kernel⟩

theorem wit_dirtyStop : ∃ (s : State) (r : Requester) (i : InstN),
    accepted s r 0x5200 2 i.val [1] ∧ instExists s i.val = true ∧ (getDirty s i.val).stopP = false ∧ (getDirty s i.val).logging = true :=
  ⟨setDirty (wr z 0x5000 1 0 1) 0 { dirtyInit with logging := true }, .vendor, 0,
    by unfold accepted; decide +kernel, by decide +kernel⟩

theorem wit_dirtyHarvest : ∃ (s : State) (r : Requester) (i : InstN) (v : List Byte),
    accepted s r 0x5200 3 i.val v ∧ instExists s i.val = true ∧ fieldBe v 12 4 = 0 ∧ (getDirty s i.val).logging = true ∧ (getDirty s
      i.val).harvestP = false ∧ (getDirty s i.val).transfer = false :=
  ⟨setDirty (wr z 0x5000 1 0 1) 0 { dirtyInit with logging := true }, .vendor, 0, zeros 16,
    by unfold accepted; decide +kernel, by decide +kernel⟩

theorem wit_markFlushComplete : ∃ (s : State) (i : InstN) (d : DirtySt),
    d = getDirty s i.val ∧ d.flushing = true ∧ d.transfer = true ∧ d.addr ≠ 0 :=
  ⟨setDirty (wr z 0x5000 1 0 1) 0 { dirtyInit with flushing := true, transfer := true, addr := 64 }, 0, _,
    rfl, by decide +kernel⟩

theorem wit_markFlushComplete_2 : ∃ (s : State) (i : InstN) (d : DirtySt),
    d = getDirty s i.val ∧ d.flushing = true ∧ d.transfer = true ∧ d.addr = 0 ∧ d.final = false :=
  ⟨setDirty (wr z 0x5000 1 0 1) 0 { dirtyInit with flushing := true, transfer := true }, 0, _,
    rfl, by decide +kernel⟩

theorem wit_bitmapClearComplete : ∃ (s : State) (i : InstN),
    (getDirty s i.val).clearing = true :=
  ⟨setDirty (wr z 0x5000 1 0 1) 0 { dirtyInit with clearing := true }, 0,
    by decide +kernel⟩

theorem wit_harvestTransferComplete : ∃ (s : State) (i : InstN),
    (getDirty s i.val).transfer = true ∧ (getDirty s i.val).flushing = false ∧ mgrFn s = none ∧ (getDirty s i.val).final = false ∧ fieldBe
      (rdBlob s 0x5200 5 i.val (zeros 40)) 0 4 ≠ (getDirty s i.val).frozenEpoch :=
  ⟨setDirty (wr z 0x5000 1 0 1) 0 { dirtyInit with transfer := true, frozenEpoch := 1 }, 0,
    by decide +kernel⟩

theorem wit_harvestTransferComplete_2 : ∃ (s : State) (i : InstN) (d : DirtySt) (fn : Nat) (n : Nat) (l : List Nat),
    d = getDirty s i.val ∧ l = dirtyLines d.frozen ∧ n = l.length ∧ d.transfer = true ∧ d.flushing = false ∧ d.final = false ∧ mgrFn s =
      some fn ∧ (getFn s fn).bme = true ∧ (getFn s fn).flr = false ∧ linkUp s (fn / 32) = true ∧ 32 + 72 * l.length ≤ d.len :=
  ⟨setDirty (setFn (objs mgr [(0x2010, 2, 0, 3)]) 16 { fnInit with bme := true }) 0 { dirtyInit with transfer := true, len := 64 }, 0, _,
    16, _, _,
    rfl, rfl, rfl, by decide +kernel⟩

/-! Witnesses of the hypotheses of ControlStepsComplete. -/

theorem wit_stepNop : ∃ (s : State) (c : CtxN) (f : StepF),
    issues s c.val 0x01 f :=
  ⟨eng 0 id, 0, f0,
    by unfold issues; decide +kernel⟩

theorem wit_stepEnd : ∃ (s : State) (c : CtxN) (f : StepF),
    issues s c.val 0x02 f :=
  ⟨eng 0 id, 0, f0,
    by unfold issues; decide +kernel⟩

theorem wit_stepYield : ∃ (s : State) (c : CtxN) (f : StepF),
    issues s c.val 0x03 f :=
  ⟨eng 0 id, 0, f0,
    by unfold issues; decide +kernel⟩

theorem wit_stepWait : ∃ (s : State) (c : CtxN) (f : StepF) (ev : Nat),
    issues s c.val 0x04 f ∧ lowestBit (pendingOf (stepped s c.val) c.val &&& f.imm.toNat) = some ev :=
  ⟨eng 0 (fun k => { k with ext := 1 }), 0, { f0 with imm := 2 ^ 24 }, 24,
    by unfold issues; decide +kernel, by decide +kernel⟩

theorem wit_stepWait_2 : ∃ (s : State) (c : CtxN) (f : StepF),
    issues s c.val 0x04 f ∧ lowestBit (pendingOf (stepped s c.val) c.val &&& f.imm.toNat) = none :=
  ⟨eng 0 id, 0, { f0 with imm := 1 },
    by unfold issues; decide +kernel, by decide +kernel⟩

theorem wit_stepSignal : ∃ (s : State) (c : CtxN) (f : StepF),
    issues s c.val 0x05 f :=
  ⟨eng 0 id, 0, f0,
    by unfold issues; decide +kernel⟩

theorem wit_stepTimer : ∃ (s : State) (c : CtxN) (f : StepF),
    issues s c.val 0x06 f :=
  ⟨eng 0 id, 0, f0,
    by unfold issues; decide +kernel⟩

theorem wit_stepSysr : ∃ (s : State) (c : CtxN) (f : StepF),
    issues s c.val 0x07 f :=
  ⟨eng 0 id, 0, f0,
    by unfold issues; decide +kernel⟩

theorem wit_stepRdf : ∃ (s : State) (c : CtxN) (f : StepF),
    issues s c.val 0x08 f :=
  ⟨eng 0 id, 0, f0,
    by unfold issues; decide +kernel⟩

theorem wit_stepWrf : ∃ (s : State) (c : CtxN) (f : StepF),
    issues s c.val 0x09 f :=
  ⟨eng 0 id, 0, f0,
    by unfold issues; decide +kernel⟩

theorem wit_stepBr : ∃ (s : State) (c : CtxN) (f : StepF),
    issues s c.val 0x10 f :=
  ⟨eng 0 id, 0, f0,
    by unfold issues; decide +kernel⟩

theorem wit_stepLoop : ∃ (s : State) (c : CtxN) (f : StepF),
    issues s c.val 0x11 f :=
  ⟨eng 0 id, 0, { f0 with imm := 1 },
    by unfold issues; decide +kernel⟩

theorem wit_stepMov : ∃ (s : State) (c : CtxN) (f : StepF),
    issues s c.val 0x18 f :=
  ⟨eng 0 id, 0, f0,
    by unfold issues; decide +kernel⟩

theorem wit_stepCsel : ∃ (s : State) (c : CtxN) (f : StepF),
    issues s c.val 0x19 f :=
  ⟨eng 0 id, 0, f0,
    by unfold issues; decide +kernel⟩

theorem wit_stepSext : ∃ (s : State) (c : CtxN) (f : StepF),
    issues s c.val 0x1A f :=
  ⟨eng 0 id, 0, f0,
    by unfold issues; decide +kernel⟩

theorem wit_undefinedStep : ∃ (s : State) (c : CtxN) (w : BitVec 128),
    ¬(wordReserved w.toNat = true ∧ stepDefined true (getCtx s c.val).sp (wordOp w.toNat) (wordStep w.toNat) = true) ∧ engineOn s (getCtx s
      c.val).engine = true ∧ (engineChoice s (getCtx s c.val).engine).map (·.1) = some c.val ∧ (getCtx s c.val).table < 512 ∧ (getCtx s
      c.val).budget ≠ 0 :=
  ⟨eng 0 id, 0, 0,
    by decide +kernel⟩

/-! Witnesses of the hypotheses of ArithmeticStepsComplete. -/

theorem wit_stepAdd : ∃ (s : State) (c : CtxN) (f : StepF),
    issues s c.val 0x20 f :=
  ⟨eng 0 id, 0, { f0 with sz := 2 },
    by unfold issues; decide +kernel⟩

theorem wit_stepAdc : ∃ (s : State) (c : CtxN) (f : StepF),
    issues s c.val 0x21 f :=
  ⟨eng 0 id, 0, { f0 with sz := 2 },
    by unfold issues; decide +kernel⟩

theorem wit_stepSub : ∃ (s : State) (c : CtxN) (f : StepF),
    issues s c.val 0x22 f :=
  ⟨eng 0 id, 0, { f0 with sz := 2 },
    by unfold issues; decide +kernel⟩

theorem wit_stepSbb : ∃ (s : State) (c : CtxN) (f : StepF),
    issues s c.val 0x23 f :=
  ⟨eng 0 id, 0, { f0 with sz := 2 },
    by unfold issues; decide +kernel⟩

theorem wit_stepNeg : ∃ (s : State) (c : CtxN) (f : StepF),
    issues s c.val 0x24 f :=
  ⟨eng 0 id, 0, { f0 with sz := 2 },
    by unfold issues; decide +kernel⟩

theorem wit_stepCmp : ∃ (s : State) (c : CtxN) (f : StepF),
    issues s c.val 0x25 f :=
  ⟨eng 0 id, 0, { f0 with sz := 2 },
    by unfold issues; decide +kernel⟩

theorem wit_stepMul : ∃ (s : State) (c : CtxN) (f : StepF),
    issues s c.val 0x26 f :=
  ⟨eng 0 id, 0, { f0 with sz := 2 },
    by unfold issues; decide +kernel⟩

theorem wit_stepMulhu : ∃ (s : State) (c : CtxN) (f : StepF),
    issues s c.val 0x27 f :=
  ⟨eng 0 id, 0, { f0 with sz := 2 },
    by unfold issues; decide +kernel⟩

theorem wit_stepMulhs : ∃ (s : State) (c : CtxN) (f : StepF),
    issues s c.val 0x28 f :=
  ⟨eng 0 id, 0, { f0 with sz := 2 },
    by unfold issues; decide +kernel⟩

theorem wit_stepDivu : ∃ (s : State) (c : CtxN) (f : StepF),
    issues s c.val 0x29 f ∧ ¬(operand (getCtx (spent s c.val) c.val) f % 2 ^ stepWidth f = 0 ∧ (getCtx (spent s c.val) c.val).dzt = true) :=
  ⟨eng 0 id, 0, { f0 with sz := 2 },
    by unfold issues; decide +kernel, by decide +kernel⟩

theorem wit_stepDivs : ∃ (s : State) (c : CtxN) (f : StepF),
    issues s c.val 0x2A f ∧ ¬(operand (getCtx (spent s c.val) c.val) f % 2 ^ stepWidth f = 0 ∧ (getCtx (spent s c.val) c.val).dzt = true) :=
  ⟨eng 0 id, 0, { f0 with sz := 2 },
    by unfold issues; decide +kernel, by decide +kernel⟩

theorem wit_stepRemu : ∃ (s : State) (c : CtxN) (f : StepF),
    issues s c.val 0x2B f ∧ ¬(operand (getCtx (spent s c.val) c.val) f % 2 ^ stepWidth f = 0 ∧ (getCtx (spent s c.val) c.val).dzt = true) :=
  ⟨eng 0 id, 0, { f0 with sz := 2 },
    by unfold issues; decide +kernel, by decide +kernel⟩

theorem wit_stepRems : ∃ (s : State) (c : CtxN) (f : StepF),
    issues s c.val 0x2C f ∧ ¬(operand (getCtx (spent s c.val) c.val) f % 2 ^ stepWidth f = 0 ∧ (getCtx (spent s c.val) c.val).dzt = true) :=
  ⟨eng 0 id, 0, { f0 with sz := 2 },
    by unfold issues; decide +kernel, by decide +kernel⟩

theorem wit_stepMinu : ∃ (s : State) (c : CtxN) (f : StepF),
    issues s c.val 0x2D f :=
  ⟨eng 0 id, 0, { f0 with sz := 2 },
    by unfold issues; decide +kernel⟩

theorem wit_stepMaxu : ∃ (s : State) (c : CtxN) (f : StepF),
    issues s c.val 0x2E f :=
  ⟨eng 0 id, 0, { f0 with sz := 2 },
    by unfold issues; decide +kernel⟩

theorem wit_stepMins : ∃ (s : State) (c : CtxN) (f : StepF),
    issues s c.val 0x2F f :=
  ⟨eng 0 id, 0, { f0 with sz := 2 },
    by unfold issues; decide +kernel⟩

theorem wit_stepMaxs : ∃ (s : State) (c : CtxN) (f : StepF),
    issues s c.val 0x30 f :=
  ⟨eng 0 id, 0, { f0 with sz := 2 },
    by unfold issues; decide +kernel⟩

theorem wit_stepAnd : ∃ (s : State) (c : CtxN) (f : StepF),
    issues s c.val 0x38 f :=
  ⟨eng 0 id, 0, { f0 with sz := 2 },
    by unfold issues; decide +kernel⟩

theorem wit_stepOr : ∃ (s : State) (c : CtxN) (f : StepF),
    issues s c.val 0x39 f :=
  ⟨eng 0 id, 0, { f0 with sz := 2 },
    by unfold issues; decide +kernel⟩

theorem wit_stepXor : ∃ (s : State) (c : CtxN) (f : StepF),
    issues s c.val 0x3A f :=
  ⟨eng 0 id, 0, { f0 with sz := 2 },
    by unfold issues; decide +kernel⟩

theorem wit_stepTst : ∃ (s : State) (c : CtxN) (f : StepF),
    issues s c.val 0x3B f :=
  ⟨eng 0 id, 0, { f0 with sz := 2 },
    by unfold issues; decide +kernel⟩

theorem wit_stepLsl : ∃ (s : State) (c : CtxN) (f : StepF),
    issues s c.val 0x3C f :=
  ⟨eng 0 id, 0, { f0 with sz := 2 },
    by unfold issues; decide +kernel⟩

theorem wit_stepLsr : ∃ (s : State) (c : CtxN) (f : StepF),
    issues s c.val 0x3D f :=
  ⟨eng 0 id, 0, { f0 with sz := 2 },
    by unfold issues; decide +kernel⟩

theorem wit_stepAsr : ∃ (s : State) (c : CtxN) (f : StepF),
    issues s c.val 0x3E f :=
  ⟨eng 0 id, 0, { f0 with sz := 2 },
    by unfold issues; decide +kernel⟩

theorem wit_stepRol : ∃ (s : State) (c : CtxN) (f : StepF),
    issues s c.val 0x3F f :=
  ⟨eng 0 id, 0, { f0 with sz := 2 },
    by unfold issues; decide +kernel⟩

theorem wit_stepRor : ∃ (s : State) (c : CtxN) (f : StepF),
    issues s c.val 0x40 f :=
  ⟨eng 0 id, 0, { f0 with sz := 2 },
    by unfold issues; decide +kernel⟩

theorem wit_stepPopc : ∃ (s : State) (c : CtxN) (f : StepF),
    issues s c.val 0x41 f :=
  ⟨eng 0 id, 0, { f0 with sz := 2 },
    by unfold issues; decide +kernel⟩

theorem wit_stepClz : ∃ (s : State) (c : CtxN) (f : StepF),
    issues s c.val 0x42 f :=
  ⟨eng 0 id, 0, { f0 with sz := 2 },
    by unfold issues; decide +kernel⟩

theorem wit_stepBswap : ∃ (s : State) (c : CtxN) (f : StepF),
    issues s c.val 0x43 f :=
  ⟨eng 0 id, 0, { f0 with sz := 2 },
    by unfold issues; decide +kernel⟩

theorem wit_stepCrc : ∃ (s : State) (c : CtxN) (f : StepF),
    issues s c.val 0x48 f :=
  ⟨eng 0 id, 0, f0,
    by unfold issues; decide +kernel⟩

/-! Witnesses of the hypotheses of MemoryStepsComplete. -/

theorem wit_stepLcrc : ∃ (s : State) (c : CtxN) (f : StepF) (u : State),
    issues s c.val 0x49 f ∧ presentAll (spent s c.val) c.val 0x49 f ((([⟨reg (getCtx s c.val) f.ra.val, 64 * lineCount f, false⟩] : List
      Touch).flatMap fun t => (touchGranules t).map fun a => (a, t.write)).mergeSort fun a b => decide (a.1 ≤ b.1)) = (u, none) ∧ ([(reg
      (getCtx s c.val) f.ra.val, 64)]).find? (fun e => e.1 % e.2 != 0) = none :=
  ⟨eng 0 id (stack 2 (ext1 2 0)), 0, { f0 with imm := 1 }, _,
    by unfold issues; decide +kernel, by_snd (by decide +kernel), by decide +kernel⟩

theorem wit_stepSld : ∃ (s : State) (c : CtxN) (f : StepF),
    issues s c.val 0x50 f ∧ stepAddr (getCtx (spent s c.val) c.val) f % 2 ^ f.sz.val = 0 ∧ stepAddr (getCtx (spent s c.val) c.val) f + 2 ^
      f.sz.val ≤ scratchSize (getCtx (spent s c.val) c.val) :=
  ⟨eng 0 id, 0, f0,
    by unfold issues; decide +kernel, by decide +kernel⟩

theorem wit_stepSst : ∃ (s : State) (c : CtxN) (f : StepF),
    issues s c.val 0x51 f ∧ stepAddr (getCtx (spent s c.val) c.val) f % 2 ^ f.sz.val = 0 ∧ stepAddr (getCtx (spent s c.val) c.val) f + 2 ^
      f.sz.val ≤ scratchSize (getCtx (spent s c.val) c.val) :=
  ⟨eng 0 id, 0, f0,
    by unfold issues; decide +kernel, by decide +kernel⟩

theorem wit_stepLd : ∃ (s : State) (c : CtxN) (f : StepF) (u : State),
    issues s c.val 0x58 f ∧ presentAll (spent s c.val) c.val 0x58 f ((([⟨stepAddr (getCtx s c.val) f, 2 ^ f.sz.val, false⟩] : List
      Touch).flatMap fun t => (touchGranules t).map fun a => (a, t.write)).mergeSort fun a b => decide (a.1 ≤ b.1)) = (u, none) ∧
      ([(stepAddr (getCtx s c.val) f, 2 ^ f.sz.val)]).find? (fun e => e.1 % e.2 != 0) = none :=
  ⟨eng 64 id (stack 1), 64, { f0 with sz := 3, space := 1 }, _,
    by unfold issues; decide +kernel, by_snd (by decide +kernel), by decide +kernel⟩

theorem wit_stepSt : ∃ (s : State) (c : CtxN) (f : StepF) (u : State),
    issues s c.val 0x59 f ∧ presentAll (spent s c.val) c.val 0x59 f ((([⟨stepAddr (getCtx s c.val) f, 2 ^ f.sz.val, true⟩] : List
      Touch).flatMap fun t => (touchGranules t).map fun a => (a, t.write)).mergeSort fun a b => decide (a.1 ≤ b.1)) = (u, none) ∧
      ([(stepAddr (getCtx s c.val) f, 2 ^ f.sz.val)]).find? (fun e => e.1 % e.2 != 0) = none :=
  ⟨eng 64 id (stack 1), 64, { f0 with sz := 3, space := 1 }, _,
    by unfold issues; decide +kernel, by_snd (by decide +kernel), by decide +kernel⟩

theorem wit_stepLcopy : ∃ (s : State) (c : CtxN) (f : StepF) (u : State),
    issues s c.val 0x5A f ∧ presentAll (spent s c.val) c.val 0x5A f ((([⟨reg (getCtx s c.val) f.rb.val, 64 * lineCount f, false⟩, ⟨reg
      (getCtx s c.val) f.ra.val, 64 * lineCount f, true⟩] : List Touch).flatMap fun t => (touchGranules t).map fun a => (a,
      t.write)).mergeSort fun a b => decide (a.1 ≤ b.1)) = (u, none) ∧ ([(reg (getCtx s c.val) f.ra.val, 64), (reg (getCtx s c.val)
      f.rb.val, 64)]).find? (fun e => e.1 % e.2 != 0) = none :=
  ⟨eng 64 id (stack 1), 64, { f0 with imm := 1, space := 1 }, (presentAll (spent (eng 64 id (stack 1)) 64) 64 90 { f0 with imm := 1, space := 1 }
    [(0, false), (0, true)]).1,
    by unfold issues; decide +kernel, by rw [List.mergeSort_of_pairwise (by decide +kernel)]; exact Prod.ext rfl (by decide +kernel), by
      decide +kernel⟩

theorem wit_stepLfill : ∃ (s : State) (c : CtxN) (f : StepF) (u : State),
    issues s c.val 0x5B f ∧ presentAll (spent s c.val) c.val 0x5B f ((([⟨reg (getCtx s c.val) f.ra.val, 64 * lineCount f, true⟩] : List
      Touch).flatMap fun t => (touchGranules t).map fun a => (a, t.write)).mergeSort fun a b => decide (a.1 ≤ b.1)) = (u, none) ∧ ([(reg
      (getCtx s c.val) f.ra.val, 64)]).find? (fun e => e.1 % e.2 != 0) = none :=
  ⟨eng 64 id (stack 1), 64, { f0 with imm := 1, space := 1 }, _,
    by unfold issues; decide +kernel, by_snd (by decide +kernel), by decide +kernel⟩

theorem wit_stepLcmp : ∃ (s : State) (c : CtxN) (f : StepF) (u : State),
    issues s c.val 0x5C f ∧ presentAll (spent s c.val) c.val 0x5C f ((([⟨reg (getCtx s c.val) f.ra.val, 64 * lineCount f, false⟩, ⟨reg
      (getCtx s c.val) f.rb.val, 64 * lineCount f, false⟩] : List Touch).flatMap fun t => (touchGranules t).map fun a => (a,
      t.write)).mergeSort fun a b => decide (a.1 ≤ b.1)) = (u, none) ∧ ([(reg (getCtx s c.val) f.ra.val, 64), (reg (getCtx s c.val)
      f.rb.val, 64)]).find? (fun e => e.1 % e.2 != 0) = none :=
  ⟨eng 64 id (stack 1), 64, { f0 with imm := 1, space := 1 }, (presentAll (spent (eng 64 id (stack 1)) 64) 64 92 { f0 with imm := 1, space := 1 }
    [(0, false), (0, false)]).1,
    by unfold issues; decide +kernel, by rw [List.mergeSort_of_pairwise (by decide +kernel)]; exact Prod.ext rfl (by decide +kernel), by
      decide +kernel⟩

theorem wit_stepAadd : ∃ (s : State) (c : CtxN) (f : StepF) (u : State),
    issues s c.val 0x60 f ∧ presentAll (spent s c.val) c.val 0x60 f ((([⟨reg (getCtx s c.val) f.ra.val, (if f.sz.val = 2 then 4 else 8),
      true⟩] : List Touch).flatMap fun t => (touchGranules t).map fun a => (a, t.write)).mergeSort fun a b => decide (a.1 ≤ b.1)) = (u,
      none) ∧ ([(reg (getCtx s c.val) f.ra.val, (if f.sz.val = 2 then 4 else 8))]).find? (fun e => e.1 % e.2 != 0) = none :=
  ⟨eng 64 id (stack 1), 64, { f0 with sz := 2, space := 1 }, _,
    by unfold issues; decide +kernel, by_snd (by decide +kernel), by decide +kernel⟩

theorem wit_stepAswp : ∃ (s : State) (c : CtxN) (f : StepF) (u : State),
    issues s c.val 0x61 f ∧ presentAll (spent s c.val) c.val 0x61 f ((([⟨reg (getCtx s c.val) f.ra.val, (if f.sz.val = 2 then 4 else 8),
      true⟩] : List Touch).flatMap fun t => (touchGranules t).map fun a => (a, t.write)).mergeSort fun a b => decide (a.1 ≤ b.1)) = (u,
      none) ∧ ([(reg (getCtx s c.val) f.ra.val, (if f.sz.val = 2 then 4 else 8))]).find? (fun e => e.1 % e.2 != 0) = none :=
  ⟨eng 64 id (stack 1), 64, { f0 with sz := 2, space := 1 }, _,
    by unfold issues; decide +kernel, by_snd (by decide +kernel), by decide +kernel⟩

theorem wit_stepAcas : ∃ (s : State) (c : CtxN) (f : StepF) (u : State),
    issues s c.val 0x62 f ∧ presentAll (spent s c.val) c.val 0x62 f ((([⟨reg (getCtx s c.val) f.ra.val, (if f.sz.val = 2 then 4 else 8),
      true⟩] : List Touch).flatMap fun t => (touchGranules t).map fun a => (a, t.write)).mergeSort fun a b => decide (a.1 ≤ b.1)) = (u,
      none) ∧ ([(reg (getCtx s c.val) f.ra.val, (if f.sz.val = 2 then 4 else 8))]).find? (fun e => e.1 % e.2 != 0) = none :=
  ⟨eng 64 id (stack 1), 64, { f0 with sz := 2, space := 1 }, _,
    by unfold issues; decide +kernel, by_snd (by decide +kernel), by decide +kernel⟩

theorem wit_stepAcas128 : ∃ (s : State) (c : CtxN) (f : StepF) (u : State),
    issues s c.val 0x63 f ∧ presentAll (spent s c.val) c.val 0x63 f ((([⟨reg (getCtx s c.val) f.ra.val, 16, true⟩] : List Touch).flatMap
      fun t => (touchGranules t).map fun a => (a, t.write)).mergeSort fun a b => decide (a.1 ≤ b.1)) = (u, none) ∧ ([(reg (getCtx s c.val)
      f.ra.val, 16)]).find? (fun e => e.1 % e.2 != 0) = none :=
  ⟨eng 64 id (stack 1), 64, { f0 with space := 1 }, _,
    by unfold issues; decide +kernel, by_snd (by decide +kernel), by decide +kernel⟩

theorem wit_stepXld : ∃ (s : State) (c : CtxN) (f : StepF) (fn : Nat),
    issues s c.val 0x68 f ∧ stepAddr (getCtx (spent s c.val) c.val) f % 2 ^ f.sz.val = 0 ∧ fnOpen (spent s c.val) (getCtx (spent s c.val)
      c.val).inst = some fn :=
  ⟨eng 0 id (setFn host 0 { fnInit with bme := true }), 0, f0, 0,
    by unfold issues; decide +kernel, by decide +kernel⟩

theorem wit_stepXst : ∃ (s : State) (c : CtxN) (f : StepF) (fn : Nat),
    issues s c.val 0x69 f ∧ stepAddr (getCtx (spent s c.val) c.val) f % 2 ^ f.sz.val = 0 ∧ fnOpen (spent s c.val) (getCtx (spent s c.val)
      c.val).inst = some fn :=
  ⟨eng 0 id (setFn host 0 { fnInit with bme := true }), 0, f0, 0,
    by unfold issues; decide +kernel, by decide +kernel⟩

theorem wit_stepXcpy : ∃ (s : State) (c : CtxN) (f : StepF) (fn : Nat) (x : State) (u : State),
    issues s c.val 0x6A f ∧ x = spent s c.val ∧ presentAll x c.val 0x6A f ((touchGranules ⟨reg (getCtx x c.val) f.rb.val, 64 * lineCount f,
      true⟩).map fun g => (g, true)) = (u, none) ∧ reg (getCtx x c.val) f.ra.val % 64 = 0 ∧ reg (getCtx x c.val) f.rb.val % 64 = 0 ∧ fnOpen
      x (getCtx x c.val).inst = some fn ∧ bit f.imm.toNat 16 = false :=
  ⟨eng 0 id (setFn (stack 2 (ext1 2 0)) 0 { fnInit with bme := true }), 0, { f0 with imm := 1 }, 0, _, _,
    by unfold issues; decide +kernel, rfl, by_snd (by decide +kernel), by decide +kernel⟩

theorem wit_stepXcpy_2 : ∃ (s : State) (c : CtxN) (f : StepF) (fn : Nat) (x : State) (u : State),
    issues s c.val 0x6A f ∧ x = spent s c.val ∧ presentAll x c.val 0x6A f ((touchGranules ⟨reg (getCtx x c.val) f.rb.val, 64 * lineCount f,
      false⟩).map fun g => (g, false)) = (u, none) ∧ reg (getCtx x c.val) f.ra.val % 64 = 0 ∧ reg (getCtx x c.val) f.rb.val % 64 = 0 ∧
      fnOpen x (getCtx x c.val).inst = some fn ∧ bit f.imm.toNat 16 = true :=
  ⟨eng 0 id (setFn (stack 2 (ext1 2 0)) 0 { fnInit with bme := true }), 0, { f0 with imm := 65537 }, 0, _, _,
    by unfold issues; decide +kernel, rfl, by_snd (by decide +kernel), by decide +kernel⟩

theorem wit_stepHld : ∃ (s : State) (c : CtxN) (f : StepF) (u : State),
    issues s c.val 0x70 f ∧ presentAll (spent s c.val) c.val 0x70 f ((([⟨reg (getCtx s c.val) f.ra.val, 2 ^ f.sz.val, false⟩] : List
      Touch).flatMap fun t => (touchGranules t).map fun a => (a, t.write)).mergeSort fun a b => decide (a.1 ≤ b.1)) = (u, none) ∧ ([(reg
      (getCtx s c.val) f.ra.val, 2 ^ f.sz.val)]).find? (fun e => e.1 % e.2 != 0) = none :=
  ⟨eng 0 (fun k => { k with atom := true }) (stack 1), 0, { f0 with sz := 2 }, _,
    by unfold issues; decide +kernel, by_snd (by decide +kernel), by decide +kernel⟩

theorem wit_stepHcmt : ∃ (s : State) (c : CtxN) (f : StepF) (u : State),
    issues s c.val 0x71 f ∧ presentAll (spent s c.val) c.val 0x71 f ((([⟨reg (getCtx s c.val) f.ra.val, 2 ^ f.sz.val, true⟩] : List
      Touch).flatMap fun t => (touchGranules t).map fun a => (a, t.write)).mergeSort fun a b => decide (a.1 ≤ b.1)) = (u, none) ∧ ([(reg
      (getCtx s c.val) f.ra.val, 2 ^ f.sz.val)]).find? (fun e => e.1 % e.2 != 0) = none :=
  ⟨eng 0 (fun k => { k with atom := true }) (stack 1), 0, { f0 with sz := 2 }, _,
    by unfold issues; decide +kernel, by_snd (by decide +kernel), by decide +kernel⟩

/-! Witnesses of the hypotheses of SystemStepsComplete. -/

theorem wit_stepBisnp : ∃ (s : State) (c : CtxN) (f : StepF) (p : PortN) (key : LineN),
    issues s c.val 0x78 f ∧ (holders (spent s c.val) key.toNat (getLine (spent s c.val) key.toNat)).contains p.val = true ∧ linkUp (spent s
      c.val) p.val = true :=
  ⟨eng 64 id (setLine host 0 { lineInit with hstate := 2, ptrs := [0] }), 64, f0, 0, 0,
    by unfold issues; decide +kernel, by decide +kernel⟩

theorem wit_stepDlswap : ∃ (s : State) (c : CtxN) (f : StepF) (i : InstN),
    issues s c.val 0x79 f :=
  ⟨eng 64 id, 64, f0, 0,
    by unfold issues; decide +kernel⟩

theorem wit_stepCntrd : ∃ (s : State) (c : CtxN) (f : StepF) (u : UnitN) (n : Byte),
    issues s c.val 0x7A f :=
  ⟨eng 64 id, 64, f0, 0, 0,
    by unfold issues; decide +kernel⟩

theorem wit_stepRmap : ∃ (s : State) (c : CtxN) (f : StepF) (g : GranN) (take : Bool) (dest : BitVec 36),
    issues s c.val 0x7B f :=
  ⟨eng 64 id, 64, f0, 0, false, 0,
    by unfold issues; decide +kernel⟩

theorem wit_stepHeat : ∃ (s : State) (c : CtxN) (f : StepF) (g : GranN),
    issues s c.val 0x7C f :=
  ⟨eng 64 id, 64, f0, 0,
    by unfold issues; decide +kernel⟩

theorem wit_stepHeat_2 : ∃ (s : State) (c : CtxN) (f : StepF) (g : GranN) (w : BitVec 64) (u : State),
    issues s c.val 0x7C f ∧ heatRoom (stepped s c.val) (keyTile g.toNat) g.toNat = some u :=
  ⟨eng 64 id, 64, f0, 0, 5, (heatRoom (stepped (eng 64 id) 64) (keyTile 0) 0).getD z,
    by unfold issues; decide +kernel, by decide +kernel⟩

theorem wit_stepNotify : ∃ (s : State) (c : CtxN) (f : StepF) (i : InstN) (kind : BitVec 16) (ps : List Byte),
    issues s c.val 0x7D f ∧ 1 ≤ kind.toNat ∧ kind.toNat ≤ 0xFF :=
  ⟨eng 64 id, 64, f0, 0, 1, [],
    by unfold issues; decide +kernel, by decide +kernel⟩

/-! Witnesses of the hypotheses of GeckoCommandsComplete. -/

theorem wit_invocationStart : ∃ (s : State) (c : CtxN),
    canStart s c.val = true ∧ bindKind (bindRec s c.val) = 1 :=
  ⟨wrTbl (setCtx (wr z 0x9000 2 1 0) 0 { ctxInit 0 with st := 1 }) 0x8000 7 0 0 (2 ^ 56), 0,
    by decide +kernel⟩

theorem wit_invocationStart_2 : ∃ (s : State) (c : CtxN) (x : VendorWork) (ver : Nat) (b : Nat),
    canStart s c.val = true ∧ s.gecko.swapping.contains (ctxCluster c.val) = false ∧ c.val % 128 < 64 ∧ bindKind (bindRec s c.val) = 2 ∧
      tableFor s c.val x.inst.val x.table.val = some (ver, b) :=
  ⟨objs { setCtx (wrTbl (wr z 0x9000 2 1 0) 0x8000 7 0 0 (2 ^ 57)) 0 { ctxInit 0 with st := 1 } with gecko := { (setCtx (wrTbl (wr z 0x9000 2 1 0) 0x8000 7 0 0 (2 ^ 57)) 0 { ctxInit 0 with st := 1 }).gecko with tables := [(5, tab 0)] } }
    [(0x8100, 1, 5, 2)], 0, { table := 5, inst := 0, atom := false, args := [] }, 0, 4,
    by decide +kernel⟩

theorem wit_bindingsWrite : ∃ (s : State) (r : Requester) (e : EngineN) (a : Fin 64) (v : List Byte) (u : State),
    chunkAccepted s r 0x8000 7 e.val ∧ Machine.bindingsWrite s e.val a.val (recordsOf 8 v) = (u, .ok) ∧ v.length % 8 = 0 :=
  ⟨z, .vendor, 0, 0, be 8 (0xFE * 2 ^ 48), _,
    by unfold chunkAccepted; decide +kernel, by_snd (by decide +kernel), by decide +kernel⟩

theorem wit_memoryReply : ∃ (s : State) (c : CtxN) (d : List Byte) (p : Pend),
    (getCtx s c.val).pend = some p ∧ p.host = none ∧ p.snoop = none ∧ p.ready = true ∧ p.op ≠ 0x6A :=
  ⟨setCtx z 0 { ctxInit 0 with pend := some { pendInit 0x58 f0 with ready := true } }, 0, [], { pendInit 0x58 f0 with ready := true },
    by decide +kernel⟩

theorem wit_memoryReply_2 : ∃ (s : State) (c : CtxN) (d : List Byte) (p : Pend) (tag : Nat) (a : Nat) (n : Nat) (fn : Nat),
    (getCtx s c.val).pend = some p ∧ p.host = some (tag, a, n) ∧ p.op ≠ 0x6A ∧ instFn s (getCtx s c.val).inst = some fn :=
  ⟨setCtx host 0 { ctxInit 0 with inst := 0, pend := some { pendInit 0x68 f0 with host := some (16, 0, 0) } }, 0, [], { pendInit 0x68 f0 with host := some (16, 0, 0) },
    16, 0, 0, fnKey 0 0,
    by decide +kernel⟩

theorem wit_memoryReply_3 : ∃ (s : State) (c : CtxN) (d : List Byte) (p : Pend) (q : Nat) (k : Nat),
    (getCtx s c.val).pend = some p ∧ p.host = none ∧ p.snoop = some (q, k) ∧ (getLine s k).snoops.any (fun e => e.1 == q) = false :=
  ⟨setCtx z 0 { ctxInit 0 with pend := some { pendInit 0x78 f0 with snoop := some (0, 0) } }, 0, [], { pendInit 0x78 f0 with snoop := some (0, 0) },
    0, 0,
    by decide +kernel⟩

theorem wit_timerExpiry : ∃ (s : State) (c : CtxN) (n : Nat),
    (getCtx s c.val).timer = some n :=
  ⟨setCtx z 0 { ctxInit 0 with timer := some 3 }, 0, 3,
    by decide +kernel⟩

theorem wit_waitCycle : ∃ (s : State) (cl : ClusterN) (g : Byte) (y : Nat × Ctx) (l : List (Nat × Ctx)),
    g.toNat < 0xFE ∧ inWaitCycle s cl.val g.toNat = true ∧ ((groupRunning (bump s 0x8010 4 (32 * cl.val) 32 1) cl.val g.toNat).mergeSort
      fun a b => decide (b.2.start ≤ a.2.start)) = y :: l :=
  ⟨setCtx z 0 { ctxInit 0 with st := 4, wgroup := 1, evmask := 1, inst := 0 }, 0, 1, (0, { ctxInit 0 with st := 4, wgroup := 1, evmask := 1, inst := 0 }),
    [],
    by decide +kernel⟩

theorem wit_engineFailure : ∃ (s : State) (e : EngineN) (l : List Nat) (w : State) (u : State),
    l = (hosted s e.val).filter (fun c => (getCtx s c).pend.isSome && (look [] s.gecko.replay e.val).contains (c, (getCtx s c).start,
      (getCtx s c).steps)) ∧ w = l.foldl (fun a c => clusterEvent a (e.val / 32) 0x29 1 (ctxInst (getCtx a c))) s ∧ moveContexts (bump (wr
      w 0x8000 2 e.val 2) 0x8000 5 e.val 32 1) e.val = (u, true) ∧ engineOn s e.val = true :=
  ⟨(List.range 8).foldl (fun a k => setCtx a (60 + k) { ctxInit (60 + k) with engine := 1 }) (wr z 0x9000 2 1 0), 0, _, _, _,
    rfl, rfl, by_snd (by decide +kernel), by decide +kernel⟩

theorem wit_engineOutOfService : ∃ (s : State) (r : Requester) (e : EngineN),
    accepted s r 0x8000 1 e.val [0] ∧ engineOn s e.val = true ∧ (hosted s e.val).length ≤ (failoverSlots s e.val).length :=
  ⟨(List.range 8).foldl (fun a k => setCtx a (60 + k) { ctxInit (60 + k) with engine := 1 }) (wr z 0x9000 2 1 0), .vendor, 0,
    by unfold accepted; decide +kernel, by decide +kernel⟩

theorem wit_engineReturn : ∃ (s : State) (r : Requester) (e : EngineN),
    accepted s r 0x8000 1 e.val [1] ∧ rd s 0x8000 2 e.val = 0 :=
  ⟨wr z 0x8000 2 0 0, .vendor, 0,
    by unfold accepted; decide +kernel, by decide +kernel⟩

theorem wit_engineReturn_2 : ∃ (s : State) (r : Requester) (e : EngineN),
    accepted s r 0x8000 1 e.val [1] ∧ rd s 0x8000 2 e.val = 2 :=
  ⟨wr z 0x8000 2 0 2, .vendor, 0,
    by unfold accepted; decide +kernel, by decide +kernel⟩

theorem wit_builtInCheckComplete : ∃ (s : State) (e : EngineN),
    (s.gecko.checking.contains e.val) = true :=
  ⟨{ z with gecko := { z.gecko with checking := [0] } }, 0,
    by decide +kernel⟩

theorem wit_builtInCheckComplete_2 : ∃ (s : State) (e : EngineN),
    (s.gecko.checking.contains e.val) = true :=
  ⟨{ z with gecko := { z.gecko with checking := [0] } }, 0,
    by decide +kernel⟩

theorem wit_contextMoveBack : ∃ (s : State) (c : CtxN),
    (getCtx s c.val).engine ≠ c.val / 128 ∧ engineOn s (c.val / 128) = true :=
  ⟨setCtx (wr z 0x9000 2 1 0) 0 { ctxInit 0 with engine := 1 }, 0,
    by decide +kernel⟩

theorem wit_tableLoad : ∃ (s : State) (r : Requester) (o : BitVec 16) (u : State) (code : Nat) (i : Nat),
    accepted s r 0x8110 2 0 (be 2 o.toNat) ∧ loadImage s o.toNat s.gecko.staging = (u, code, i) ∧ o.toNat < 4096 :=
  ⟨z, .vendor, 0, _, (loadImage z 0 []).2.1, (loadImage z 0 []).2.2,
    by unfold accepted; decide +kernel, rfl, by decide +kernel⟩

theorem wit_tableUnload : ∃ (s : State) (r : Requester) (tb : TableN) (t : StepTable),
    accepted s r 0x8100 11 tb.val [1] ∧ 512 ≤ tb.val ∧ getTable s tb.val = some t :=
  ⟨wr { z with gecko := { z.gecko with tables := [(512, tab 0)] } } 0x8100 1 512 2, .vendor, 512, tab 0,
    by unfold accepted; decide +kernel, by decide +kernel⟩

theorem wit_unloadTimeout : ∃ (s : State) (tb : TableN),
    rd s 0x8100 1 tb.val = 4 :=
  ⟨wr z 0x8100 1 0 4, 0,
    by decide +kernel⟩

theorem wit_stopContext : ∃ (s : State) (r : Requester) (e : EngineN) (v : Byte),
    accepted s r 0x8001 1 e.val (be 4 v.toNat) ∧ (v.toNat < 64 ∨ (v.toNat < 68 ∧ r = .vendor)) :=
  ⟨z, .vendor, 0, 0,
    by unfold accepted; decide +kernel, by decide +kernel⟩

/-! Witnesses of the hypotheses of FmApiCommandsComplete. -/

theorem wit_identifySwitchDevice : ∃ (s : State) (via : FmPath) (x : State),
    x = (if via = .mctp then hldWake s .mctp else s) ∧ fmOpen s via = true :=
  ⟨fmst, .cci, (fmst),
    rfl, by decide +kernel⟩

theorem wit_getPhysicalPortState : ∃ (s : State) (via : FmPath) (x : State) (ps : List PortN),
    x = (if via = .mctp then hldWake s .mctp else s) ∧ fmOpen s via = true :=
  ⟨fmst, .cci, (fmst), [],
    rfl, by decide +kernel⟩

theorem wit_physicalPortControl : ∃ (s : State) (via : FmPath) (x : State) (p : PortN) (op : PortOp) (u : State),
    x = (if via = .mctp then hldWake s .mctp else s) ∧ portControl x p.val op = (u, .ok) ∧ fmOpen s via = true :=
  ⟨fmst, .cci, (fmst), 0, .assertPerst, _,
    rfl, by_snd (by decide +kernel), by decide +kernel⟩

theorem wit_sendPpbCxlIoConfigurationRequest : ∃ (s : State) (via : FmPath) (x : State) (p : PortN) (q : CfgReq),
    x = (if via = .mctp then hldWake s .mctp else s) ∧ fmOpen s via = true ∧ (readItem x .manager (fmItem 0x2000 1 p.val)).1 = .ok ∧
      q.write = none :=
  ⟨fmst, .cci, (fmst), 0, { reg := 0, be := 15, write := none },
    rfl, by decide +kernel⟩

theorem wit_sendPpbCxlIoConfigurationRequest_2 : ∃ (s : State) (via : FmPath) (x : State) (p : PortN) (q : CfgReq) (w : BitVec 32),
    x = (if via = .mctp then hldWake s .mctp else s) ∧ fmOpen s via = true ∧ (readItem x .manager (fmItem 0x2000 1 p.val)).1 = .ok ∧
      q.write = some w :=
  ⟨fmst, .cci, (fmst), 0, { reg := 0, be := 15, write := some 0 }, 0,
    rfl, by decide +kernel⟩

theorem wit_getVirtualCxlSwitchInfo : ∃ (s : State) (via : FmPath) (x : State) (p : PortN),
    x = (if via = .mctp then hldWake s .mctp else s) ∧ fmOpen s via = true :=
  ⟨fmst, .cci, (fmst), 0,
    rfl, by decide +kernel⟩

theorem wit_bindVppb : ∃ (s : State) (via : FmPath) (x : State) (p : PortN) (v : VppbN) (d : PortN) (l : Byte) (u : State),
    x = (if via = .mctp then hldWake s .mctp else s) ∧ fmChunk x 0x2330 1 p.val v.val (be 4 (b2n true * 2 ^ 31 + l.toNat * 65536 + d.val))
      = (u, .ok) ∧ fmOpen s via = true :=
  ⟨objs fmst [(0x2000, 1, 2, 2)], .cci, (objs fmst [(0x2000, 1, 2, 2)]), 0, 0, 2, 255, _,
    rfl, by_snd (by decide +kernel), by decide +kernel⟩

theorem wit_unbindVppb : ∃ (s : State) (via : FmPath) (x : State) (p : PortN) (v : VppbN) (u : State),
    x = (if via = .mctp then hldWake s .mctp else s) ∧ fmChunk x 0x2330 1 p.val v.val (be 4 (b2n false * 2 ^ 31 + 0xFF * 65536 + 0)) = (u,
      .ok) ∧ fmOpen s via = true :=
  ⟨fmst, .cci, (fmst), 0, 0, _,
    rfl, by_snd (by decide +kernel), by decide +kernel⟩

theorem wit_generateAerEvent : ∃ (s : State) (via : FmPath) (x : State) (p : PortN) (v : VppbN) (e : BitVec 32),
    x = (if via = .mctp then hldWake s .mctp else s) ∧ fmOpen s via = true ∧ (readItem x .manager (fmItem 0x2000 1 p.val)).1 = .ok :=
  ⟨fmst, .cci, (fmst), 0, 0, 0,
    rfl, by decide +kernel⟩

theorem wit_tunnelManagementCommand : ∃ (s : State) (via : FmPath) (x : State) (p : PortN) (b : List Byte),
    x = (if via = .mctp then hldWake s .mctp else s) ∧ fmOpen s via = true ∧ (readItem x .manager (fmItem 0x2300 1 p.val)).1 = .ok :=
  ⟨fmst, .cci, (fmst), 0, [],
    rfl, by decide +kernel⟩

theorem wit_sendLdCxlIoConfigurationRequest : ∃ (s : State) (via : FmPath) (x : State) (p : PortN) (l : LdN) (q : CfgReq),
    x = (if via = .mctp then hldWake s .mctp else s) ∧ fmOpen s via = true ∧ (readItem x .manager (fmItem 0x2300 1 p.val)).1 = .ok :=
  ⟨fmst, .cci, (fmst), 0, 0, { reg := 0, be := 15, write := none },
    rfl, by decide +kernel⟩

theorem wit_sendLdCxlIoMemoryRequest : ∃ (s : State) (via : FmPath) (x : State) (p : PortN) (l : LdN) (q : MemReq),
    x = (if via = .mctp then hldWake s .mctp else s) ∧ fmOpen s via = true ∧ (readItem x .manager (fmItem 0x2300 1 p.val)).1 = .ok :=
  ⟨fmst, .cci, (fmst), 0, 0, { offset := 0, write := none, length := 0 },
    rfl, by decide +kernel⟩

theorem wit_getLdInfo : ∃ (s : State) (via : FmPath) (x : State),
    x = (if via = .mctp then hldWake s .mctp else s) ∧ fmOpen s via = true :=
  ⟨fmst, .cci, (fmst),
    rfl, by decide +kernel⟩

theorem wit_getLdAllocations : ∃ (s : State) (via : FmPath) (x : State) (p : PortN),
    x = (if via = .mctp then hldWake s .mctp else s) ∧ fmOpen s via = true ∧ (readItem x .manager (fmItem 0x2000 1 p.val)).1 = .ok :=
  ⟨fmst, .cci, (fmst), 0,
    rfl, by decide +kernel⟩

theorem wit_setLdAllocations : ∃ (s : State) (via : FmPath) (x : State) (p : PortN) (l : LdN) (b : List Byte) (i : Nat),
    x = (if via = .mctp then hldWake s .mctp else s) ∧ fmOpen s via = true ∧ ldInst x p.val l.val = some i :=
  ⟨fmst, .cci, (fmst), 0, 0, [], 0,
    rfl, by decide +kernel⟩

theorem wit_getQosControl : ∃ (s : State) (via : FmPath) (x : State) (p : PortN),
    x = (if via = .mctp then hldWake s .mctp else s) ∧ fmOpen s via = true ∧ (readItem x .manager (fmItem 0x2300 2 p.val)).1 = .ok :=
  ⟨fmst, .cci, (fmst), 0,
    rfl, by decide +kernel⟩

theorem wit_setQosControl : ∃ (s : State) (via : FmPath) (x : State) (p : PortN) (a : Byte) (b : Byte) (rest : List Byte) (u : State),
    x = (if via = .mctp then hldWake s .mctp else s) ∧ fmWrites x (if a.toNat < rd x 0x2300 3 p.val then [(0x2300, 2, p.val, [a]), (0x2300,
      3, p.val, [b])] else [(0x2300, 3, p.val, [b]), (0x2300, 2, p.val, [a])]) = (u, .ok) ∧ fmOpen s via = true :=
  ⟨fmst, .cci, (fmst), 0, 50, 90, [], _,
    rfl, by_snd (by decide +kernel), by decide +kernel⟩

theorem wit_getQosStatus : ∃ (s : State) (via : FmPath) (x : State) (p : PortN),
    x = (if via = .mctp then hldWake s .mctp else s) ∧ fmOpen s via = true ∧ (readItem x .manager (fmItem 0x2300 2 p.val)).1 = .ok :=
  ⟨fmst, .cci, (fmst), 0,
    rfl, by decide +kernel⟩

theorem wit_getQosAllocatedBw : ∃ (s : State) (via : FmPath) (x : State) (p : PortN) (l : LdN) (i : Nat),
    x = (if via = .mctp then hldWake s .mctp else s) ∧ fmOpen s via = true ∧ ldInst x p.val l.val = some i :=
  ⟨fmst, .cci, (fmst), 0, 0, 0,
    rfl, by decide +kernel⟩

theorem wit_setQosAllocatedBw : ∃ (s : State) (via : FmPath) (x : State) (p : PortN) (l : LdN) (k : Byte) (u : State),
    x = (if via = .mctp then hldWake s .mctp else s) ∧ allocatedBw x p.val l.val k.toNat = (u, .ok) ∧ fmOpen s via = true :=
  ⟨fmst, .cci, (fmst), 0, 0, 0, _,
    rfl, by_snd (by decide +kernel), by decide +kernel⟩

theorem wit_getQosBwLimit : ∃ (s : State) (via : FmPath) (x : State) (p : PortN) (l : LdN) (i : Nat),
    x = (if via = .mctp then hldWake s .mctp else s) ∧ fmOpen s via = true ∧ ldInst x p.val l.val = some i :=
  ⟨fmst, .cci, (fmst), 0, 0, 0,
    rfl, by decide +kernel⟩

theorem wit_setQosBwLimit : ∃ (s : State) (via : FmPath) (x : State) (p : PortN) (l : LdN) (k : Byte) (u : State),
    x = (if via = .mctp then hldWake s .mctp else s) ∧ bwLimit x p.val l.val k.toNat = (u, .ok) ∧ fmOpen s via = true :=
  ⟨fmst, .cci, (fmst), 0, 0, 1, _,
    rfl, by_snd (by decide +kernel), by decide +kernel⟩

theorem wit_getDcdInfo : ∃ (s : State) (via : FmPath) (x : State),
    x = (if via = .mctp then hldWake s .mctp else s) ∧ fmOpen s via = true :=
  ⟨fmst, .cci, (fmst),
    rfl, by decide +kernel⟩

theorem wit_getHostDcRegionConfiguration : ∃ (s : State) (via : FmPath) (x : State) (i : InstN),
    x = (if via = .mctp then hldWake s .mctp else s) ∧ fmOpen s via = true :=
  ⟨fmst, .cci, (fmst), 0,
    rfl, by decide +kernel⟩

theorem wit_setDcRegionConfiguration : ∃ (s : State) (via : FmPath) (x : State) (i : InstN) (g : Fin 8) (b : List Byte) (u : State),
    x = (if via = .mctp then hldWake s .mctp else s) ∧ fmChunk x 0x4120 1 0 (8 * i.val + g.val) b = (u, .ok) ∧ fmOpen s via = true :=
  ⟨fmst, .cci, (fmst), 0, 0, zeros 16, _,
    rfl, by_snd (by decide +kernel), by decide +kernel⟩

theorem wit_getDcdExtentLists : ∃ (s : State) (via : FmPath) (x : State) (i : InstN),
    x = (if via = .mctp then hldWake s .mctp else s) ∧ fmOpen s via = true ∧ (readItem x .manager (fmItem 0x5000 1 i.val)).1 = .ok :=
  ⟨fmst, .cci, (fmst), 0,
    rfl, by decide +kernel⟩

theorem wit_initiateDynamicCapacityAdd : ∃ (s : State) (via : FmPath) (x : State) (qs : List (List Byte)) (u : State),
    x = (if via = .mctp then hldWake s .mctp else s) ∧ fmWrites x (qs.map fun v => (0x4110, 1, 0, v)) = (u, .ok) ∧ fmOpen s via = true ∧ qs
      ≠ [] :=
  ⟨fmst, .cci, (fmst), [zeros 8 ++ be 4 1 ++ zeros 20], _,
    rfl, by_snd (by decide +kernel), by decide +kernel⟩

theorem wit_initiateDynamicCapacityRelease : ∃ (s : State) (via : FmPath) (x : State) (es : List ExtentN) (k : Bool) (u : State),
    x = (if via = .mctp then hldWake s .mctp else s) ∧ fmWrites x (es.map fun e => (0x4100 + e.val / 65536, 3, e.val % 65536, be 4 (b2n
      k))) = (u, .ok) ∧ fmOpen s via = true ∧ es ≠ [] :=
  ⟨fmst, .cci, (fmst), [0], false, _,
    rfl, by_snd (by decide +kernel), by decide +kernel⟩

theorem wit_fmApiUnsupported : ∃ (s : State) (via : FmPath) (op : BitVec 16),
    fmOpen s via = true ∧ fmOpcode op.toNat = false :=
  ⟨fmst, .cci, 0,
    by decide +kernel⟩

/-! Witnesses of the hypotheses of PowerDomainsComplete. -/

theorem wit_domainTarget : ∃ (s : State) (r : Requester) (d : DomainN) (v : Byte),
    accepted s r 0x9000 1 d.val [v] ∧ targetHas d.val v.toNat = true ∧ (v.toNat = 1 ∨ v.toNat = 2) ∧ domNow s d.val = 0 ∧ mayLeave s d.val
      = true ∧ modeTouches s d.val = false :=
  ⟨objs z [(0x9000, 2, 1, 0)], .vendor, 1, 1,
    by unfold accepted; decide +kernel, by decide +kernel⟩

theorem wit_domainTarget_2 : ∃ (s : State) (r : Requester) (d : DomainN) (v : Byte),
    accepted s r 0x9000 1 d.val [v] ∧ targetHas d.val v.toNat = true ∧ v.toNat = 0 ∧ domNow s d.val = 1 ∧ parentOff s d.val = false :=
  ⟨objs z [(0x9000, 2, 0, 0), (0x9000, 2, 1, 1)], .vendor, 1, 0,
    by unfold accepted; decide +kernel, by decide +kernel⟩

theorem wit_blockAnswer : ∃ (s : State) (d : DomainN) (b : BlockId) (e : Entry),
    (∀ t k, domKind d.val ≠ .bank t k) ∧ (getDom s d.val).entry = some e ∧ e.waits.contains (blockCode b) = true ∧ blockRefuses s d.val
      (blockCode b) = none :=
  ⟨setDom z 129 { domInit with entry := some { want := 1, before := 0, waits := [2304], delayed := [], byItself := false, wakeAfter := false } },
    129, { kind := 9, num := 0 }, { want := 1, before := 0, waits := [2304], delayed := [], byItself := false, wakeAfter := false },
    fun _ _ => by simp [domKind], by decide +kernel⟩

theorem wit_blockAnswer_2 : ∃ (s : State) (d : DomainN) (b : BlockId) (e : Entry),
    (getDom s d.val).entry = some e ∧ e.waits.contains (blockCode b) = true ∧ e.delayed.contains (blockCode b) = false :=
  ⟨setDom z 1 { domInit with entry := some { want := 1, before := 0, waits := [512], delayed := [], byItself := false, wakeAfter := false } },
    1, { kind := 2, num := 0 }, { want := 1, before := 0, waits := [512], delayed := [], byItself := false, wakeAfter := false },
    by decide +kernel⟩

theorem wit_blockAnswer_3 : ∃ (s : State) (d : DomainN) (b : BlockId) (e : Entry),
    (getDom s d.val).entry = some e ∧ e.waits.contains (blockCode b) = true ∧ neverRefuses (blockCode b) = false :=
  ⟨setDom z 1 { domInit with entry := some { want := 1, before := 0, waits := [512], delayed := [], byItself := false, wakeAfter := false } },
    1, { kind := 2, num := 0 }, { want := 1, before := 0, waits := [512], delayed := [], byItself := false, wakeAfter := false },
    by decide +kernel⟩

theorem wit_delayTimeout : ∃ (s : State) (d : DomainN) (b : BlockId) (e : Entry),
    (getDom s d.val).entry = some e ∧ e.waits.contains (blockCode b) = true ∧ e.delayed.contains (blockCode b) = true ∧ neverRefuses
      (blockCode b) = false :=
  ⟨setDom z 1 { domInit with entry := some { want := 1, before := 0, waits := [512], delayed := [512], byItself := false, wakeAfter := false } },
    1, { kind := 2, num := 0 }, { want := 1, before := 0, waits := [512], delayed := [512], byItself := false, wakeAfter := false },
    by decide +kernel⟩

theorem wit_domainEntryComplete : ∃ (s : State) (d : DomainN) (e : Entry),
    (getDom s d.val).entry = some e ∧ e.waits = [] ∧ e.wakeAfter = false :=
  ⟨setDom z 1 { domInit with entry := some { want := 1, before := 0, waits := [], delayed := [], byItself := false, wakeAfter := false } },
    1, { want := 1, before := 0, waits := [], delayed := [], byItself := false, wakeAfter := false },
    by decide +kernel⟩

theorem wit_bankEmpty : ∃ (s : State) (t : TileN) (b : Fin 4) (e : Entry),
    (getDom s (32 * t.val + 17 + b.val)).entry = some e ∧ e.waits.contains (1024 + b.val) = true ∧ blockRefuses s (32 * t.val + 17 + b.val)
      (1024 + b.val) = none :=
  ⟨wr (setDom z 17 { domInit with entry := some { want := 1, before := 0, waits := [1024], delayed := [], byItself := false, wakeAfter := false } })
    0x9000 2 21 0, 0, 0, { want := 1, before := 0, waits := [1024], delayed := [], byItself := false, wakeAfter := false },
    by decide +kernel⟩

theorem wit_wakeSource : ∃ (s : State) (d : DomainN) (x : WakeSrc),
    wakesDomain d.val x = true ∧ domNow s d.val = 1 ∧ parentOff s d.val = false :=
  ⟨wr z 0x9000 2 129 1, 129, .odp,
    by decide +kernel⟩

theorem wit_idleTime : ∃ (s : State) (d : DomainN),
    domNow s d.val = 0 ∧ d.val = 129 ∧ domTarget s d.val = 1 ∧ (getDom s d.val).woken = true ∧ mayLeave s d.val = true :=
  ⟨setDom (objs z [(0x9000, 1, 129, 1)]) 129 { domInit with woken := true }, 129,
    by decide +kernel⟩

theorem wit_pllLock : ∃ (s : State) (d : DomainN) (u : State),
    u = setDom (wr (wr (bump s 0x9000 6 d.val 32 1) 0x9000 7 d.val (rd s 0x9000 7 d.val + restMs s (getDom s d.val).since)) 0x9000 2 d.val
      0) d.val { getDom s d.val with fromOff := false, retried := false } ∧ domNow s d.val = 4 :=
  ⟨wr z 0x9000 2 0 4, 0, _,
    rfl, by decide +kernel⟩

theorem wit_pllLockTimeout : ∃ (s : State) (d : DomainN),
    domNow s d.val = 4 :=
  ⟨wr z 0x9000 2 0 4, 0,
    by decide +kernel⟩

theorem wit_pllLockLoss : ∃ (s : State) (t : TileN) (k : Fin 11),
    bit (rd s 0x9101 3 t.val) k.val = true :=
  ⟨wr z 0x9101 3 0 1, 0, 0,
    by decide +kernel⟩

theorem wit_cycleCountTrim : ∃ (s : State) (t : TileN),
    t.val ≠ 0 :=
  ⟨z, 1,
    by decide +kernel⟩

theorem wit_forceOff : ∃ (s : State) (r : Requester) (d : DomainN) (t : Nat),
    accepted s r 0x9000 8 d.val [1] ∧ domKind d.val = .core t :=
  ⟨z, .vendor, 0, 0,
    by unfold accepted; decide +kernel, by decide +kernel⟩

/-! Witnesses of the hypotheses of TileRailsComplete. -/

theorem wit_droopCrossing : ∃ (s : State) (t : TileN) (k : Fin 64) (l : DroopLevel) (u : State),
    u = bump { s with pwr := { s.pwr with droop := put s.pwr.droop (64 * t.val + k.val) (max (match l with | .a => 1 | .b => 2) (look 0 s.pwr.droop (64 * t.val + k.val))) } }
      0x9200 7 t.val 64 1 ∧ rd s 0x9200 4 t.val = 0 :=
  ⟨wr z 0x9200 4 0 0, 0, 0, .a, _,
    rfl, by decide +kernel⟩

theorem wit_stretchRelease : ∃ (s : State) (t : TileN) (c : Nat) (n : Nat) (u : State),
    u = bump (wr { s with pwr := { s.pwr with droop := delIf s.pwr.droop fun k _ => k / 64 == t.val } } 0x9200 4 t.val 0) 0x9200 8 t.val 64
      c ∧ rd s 0x9200 4 t.val ≠ 0 :=
  ⟨wr z 0x9200 4 0 1, 0, 0, 0, _,
    rfl, by decide +kernel⟩

theorem wit_stretchTimeout : ∃ (s : State) (t : TileN),
    rd s 0x9200 4 t.val ≠ 0 :=
  ⟨wr z 0x9200 4 0 1, 0,
    by decide +kernel⟩

theorem wit_thermalHoldEnd : ∃ (s : State) (t : TileN) (u : State),
    u = showThrottle { s with pwr := { s.pwr with thermal := del s.pwr.thermal t.val } } t.val ∧ look 0 s.pwr.thermal t.val ≠ 0 :=
  ⟨{ z with pwr := { z.pwr with thermal := [(0, 1)] } }, 0, _,
    rfl, by decide +kernel⟩

theorem wit_thermalTrip : ∃ (s : State) (t : TileN) (u : State),
    u = (List.range 4).foldl Machine.forceOff s :=
  ⟨z, 0, _,
    rfl⟩

theorem wit_avsAck : ∃ (s : State) (k : TileN) (v : Nat),
    (getRail s k.val).step = some v :=
  ⟨setRail z 0 { railInit with step := some 9 }, 0, 9,
    by decide +kernel⟩

theorem wit_avsTimeout : ∃ (s : State) (k : TileN) (v : Nat),
    (getRail s k.val).step = some v :=
  ⟨setRail z 0 { railInit with step := some 9 }, 0, 9,
    by decide +kernel⟩

theorem wit_phaseRestored : ∃ (s : State) (k : TileN) (u : State),
    u = railCalm (setRail (wr s 0x9210 5 k.val 0) k.val { getRail s k.val with phaseStatus := false }) k.val :=
  ⟨z, 0, _,
    rfl⟩

theorem wit_pwrokTRise : ∃ (s : State) (t : TileN) (u : State),
    u = railCalm (setRail { s with pwr := { s.pwr with pwrokT := if s.pwr.pwrokT.contains t.val then s.pwr.pwrokT else s.pwr.pwrokT ++ [t.val] } }
      t.val { getRail s t.val with low := false }) t.val ∧ domNow u (coreDom t.val) = 2 ∧ domTarget u (coreDom t.val) = 0 ∧ tripBars u
      (coreDom t.val) = false ∧ mayPower u t.val = true :=
  ⟨{ run with pwr := { run.pwr with tripped := false } }, 0, _,
    rfl, by decide +kernel⟩

theorem wit_pwrokTFall : ∃ (s : State) (t : TileN),
    (coreDom t.val :: childDoms t.val).all (fun d => domNow s d == 2) = false :=
  ⟨wr z 0x9000 2 0 0, 0,
    by decide +kernel⟩

/-! Witnesses of the hypotheses of SlotCommandsComplete. -/

theorem wit_slotTarget : ∃ (s : State) (r : Requester) (n : SlotN) (v : Byte),
    accepted s r 0xA000 1 n.val [v] ∧ v.toNat = 0 :=
  ⟨z, .vendor, 0, 0,
    by unfold accepted; decide +kernel, by decide +kernel⟩

theorem wit_slotTarget_2 : ∃ (s : State) (r : Requester) (n : SlotN) (v : Byte) (u : State),
    accepted s r 0xA000 1 n.val [v] ∧ u = wr s 0xA000 1 n.val 1 ∧ v.toNat ≠ 0 ∧ slotNow s n.val ≠ 6 ∧ mayStartSlot u n.val = true :=
  ⟨powered z 0, .vendor, 0, 1, _,
    by unfold accepted; decide +kernel, rfl, by decide +kernel⟩

theorem wit_slotTarget_3 : ∃ (s : State) (r : Requester) (n : SlotN) (v : Byte) (u : State),
    accepted s r 0xA000 1 n.val [v] ∧ u = wr s 0xA000 1 n.val 1 ∧ v.toNat ≠ 0 ∧ slotNow s n.val ≠ 6 ∧ mayStartSlot u n.val = false :=
  ⟨z, .vendor, 0, 1, _,
    by unfold accepted; decide +kernel, rfl, by decide +kernel⟩

theorem wit_powerControllerControl : ∃ (s : State) (p : PortN) (n : Nat) (u : State),
    n = rd s 0x2000 7 p.val ∧ u = wr s 0xA000 1 n 1 ∧ actingRole s p.val = 2 ∧ n < 16 ∧ isPoolDsp s p.val = false ∧ slotNow s n ≠ 6 ∧
      mayStartSlot u n = true :=
  ⟨powered (objs z [(0x2000, 1, 0, 2), (0x2000, 7, 0, 3)]) 3, 0, _, _,
    rfl, rfl, by decide +kernel⟩

theorem wit_powerControllerControl_2 : ∃ (s : State) (p : PortN) (n : Nat),
    n = rd s 0x2000 7 p.val ∧ actingRole s p.val = 2 ∧ n < 16 ∧ isPoolDsp s p.val = false :=
  ⟨objs z [(0x2000, 1, 0, 2), (0x2000, 7, 0, 3)], 0, _,
    rfl, by decide +kernel⟩

theorem wit_powerControllerControl_3 : ∃ (s : State) (p : PortN) (n : Nat),
    n = rd s 0x2000 7 p.val ∧ actingRole s p.val = 2 ∧ n < 16 ∧ isPoolDsp s p.val = false ∧ slotNow (wr s 0xA000 1 n 0) n = 2 :=
  ⟨objs z [(0x2000, 1, 0, 2), (0x2000, 7, 0, 3), (0xA000, 2, 3, 2)], 0, _,
    rfl, by decide +kernel⟩

theorem wit_slotEnRise : ∃ (s : State) (n : SlotN) (l : Bool) (u : State),
    u = setSlot (wr s 0xA000 27 n.val 1) n.val { getSlot s n.val with en := true } ∧ slotNow u n.val ≠ 6 ∧ mayStartSlot u n.val = true :=
  ⟨powered (wr z 0xA000 1 0 1) 0, 0, false, _,
    rfl, by decide +kernel⟩

theorem wit_slotEnFall : ∃ (s : State) (n : SlotN) (u : State),
    u = setSlot (wr s 0xA000 27 n.val 0) n.val { getSlot s n.val with en := false } :=
  ⟨z, 0, _,
    rfl⟩

theorem wit_slotStagger : ∃ (s : State) (n : SlotN),
    slotNow s n.val = 1 :=
  ⟨wr z 0xA000 2 0 1, 0,
    by decide +kernel⟩

theorem wit_powerGood : ∃ (s : State) (n : SlotN) (e : BitVec 32),
    slotNow s n.val = 2 :=
  ⟨wr z 0xA000 2 0 2, 0, 0,
    by decide +kernel⟩

theorem wit_startTimeout : ∃ (s : State) (n : SlotN),
    slotNow s n.val = 2 :=
  ⟨wr z 0xA000 2 0 2, 0,
    by decide +kernel⟩

theorem wit_breakerTrip : ∃ (s : State) (n : SlotN),
    fetOn s n.val = true :=
  ⟨wr z 0xA000 2 0 3, 0,
    by decide +kernel⟩

theorem wit_fastTrip : ∃ (s : State) (n : SlotN) (c : Chan),
    fetOn s n.val = true ∧ bit (rd s 0xA000 23 n.val) (match c with | .a => 0 | .b => 1) = false :=
  ⟨wr z 0xA000 2 0 3, 0, .a,
    by decide +kernel⟩

theorem wit_fetTemperatureTrip : ∃ (s : State) (n : SlotN),
    fetOn s n.val = true :=
  ⟨wr z 0xA000 2 0 3, 0,
    by decide +kernel⟩

theorem wit_channelCheck : ∃ (s : State) (n : SlotN) (a : Bool) (b : Bool),
    b2n (!a || bit (rd s 0xA000 23 n.val) 0) + 2 * b2n (!b || bit (rd s 0xA000 23 n.val) 1) ≠ rd s 0xA000 23 n.val ∧ b2n (!a || bit (rd s
      0xA000 23 n.val) 0) + 2 * b2n (!b || bit (rd s 0xA000 23 n.val) 1) = 3 :=
  ⟨z, 0, false, false,
    by decide +kernel⟩

theorem wit_channelDisagreement : ∃ (s : State) (n : SlotN) (a : BitVec 32) (b : BitVec 32),
    rd s 0xA000 23 n.val = 0 ∧ (rd s 0xA000 6 n.val * 5 + 500 : Nat) < (a.toInt - b.toInt).natAbs :=
  ⟨z, 0, 0x00FFFFFF, 0,
    by decide +kernel⟩

theorem wit_pwrwarnRecovery : ∃ (s : State) (n : SlotN),
    slotNow s n.val = 3 ∧ (getSlot s n.val).warn = true :=
  ⟨setSlot (wr z 0xA000 2 0 3) 0 { slotInit with warn := true }, 0,
    by decide +kernel⟩

theorem wit_inputLoss : ∃ (s : State) (n : SlotN) (k : LossKind),
    fetOn s n.val = true :=
  ⟨wr z 0xA000 2 0 3, 0, .inputLoss,
    by decide +kernel⟩

theorem wit_warningLeadEnd : ∃ (s : State) (n : SlotN),
    slotNow s n.val = 4 :=
  ⟨wr z 0xA000 2 0 4, 0,
    by decide +kernel⟩

theorem wit_stopComplete : ∃ (s : State) (n : SlotN),
    slotNow s n.val = 5 :=
  ⟨wr z 0xA000 2 0 5, 0,
    by decide +kernel⟩

theorem wit_stopComplete_2 : ∃ (s : State) (n : SlotN),
    slotNow s n.val = 5 ∧ mayStartSlot (wr s 0xA000 2 n.val 0) n.val = false :=
  ⟨wr z 0xA000 2 0 5, 0,
    by decide +kernel⟩

theorem wit_offTimeEnd : ∃ (s : State) (n : SlotN) (u : State),
    u = setSlot s n.val { getSlot s n.val with offTime := false } ∧ mayStartSlot u n.val = true :=
  ⟨powered (wr z 0xA000 1 0 1) 0, 0, _,
    rfl, by decide +kernel⟩

theorem wit_offTimeEnd_2 : ∃ (s : State) (n : SlotN) (u : State),
    u = setSlot s n.val { getSlot s n.val with offTime := false } ∧ mayStartSlot u n.val = false :=
  ⟨z, 0, _,
    rfl, by decide +kernel⟩

/-! Witnesses of the hypotheses of SpdmCommandsComplete. -/

theorem wit_getVersion : ∃ (s : State) (p : PortN),
    (actingRole s p.val = 1 ∨ actingRole s p.val = 3) ∧ linkUp s p.val = true ∧ 0 ≤ (getSpdm s p.val).phase :=
  ⟨setSpdm (objs z [(0x2000, 1, 0, 1), (0x2010, 2, 0, 3)]) 0 { spdmInit with phase := 3 }, 0,
    by decide +kernel⟩

theorem wit_getCapabilities : ∃ (s : State) (p : PortN),
    (actingRole s p.val = 1 ∨ actingRole s p.val = 3) ∧ linkUp s p.val = true ∧ 1 ≤ (getSpdm s p.val).phase :=
  ⟨setSpdm (objs z [(0x2000, 1, 0, 1), (0x2010, 2, 0, 3)]) 0 { spdmInit with phase := 3 }, 0,
    by decide +kernel⟩

theorem wit_negotiateAlgorithms : ∃ (s : State) (p : PortN) (v : List Byte),
    (actingRole s p.val = 1 ∨ actingRole s p.val = 3) ∧ linkUp s p.val = true ∧ 2 ≤ (getSpdm s p.val).phase :=
  ⟨setSpdm (objs z [(0x2000, 1, 0, 1), (0x2010, 2, 0, 3)]) 0 { spdmInit with phase := 3 }, 0, [],
    by decide +kernel⟩

theorem wit_getDigests : ∃ (s : State) (p : PortN),
    (actingRole s p.val = 1 ∨ actingRole s p.val = 3) ∧ linkUp s p.val = true ∧ 3 ≤ (getSpdm s p.val).phase :=
  ⟨setSpdm (objs z [(0x2000, 1, 0, 1), (0x2010, 2, 0, 3)]) 0 { spdmInit with phase := 3 }, 0,
    by decide +kernel⟩

theorem wit_getCertificate : ∃ (s : State) (p : PortN) (o : BitVec 16) (n : BitVec 16),
    (actingRole s p.val = 1 ∨ actingRole s p.val = 3) ∧ linkUp s p.val = true ∧ 3 ≤ (getSpdm s p.val).phase :=
  ⟨setSpdm (objs z [(0x2000, 1, 0, 1), (0x2010, 2, 0, 3)]) 0 { spdmInit with phase := 3 }, 0, 0, 0,
    by decide +kernel⟩

theorem wit_spdmChallenge : ∃ (s : State) (p : PortN) (n : List Byte) (body : List Byte),
    body = certDigest ++ Config.nonceBytes s.free ++ Config.sha384 ((List.range 6).flatMap fun i => measured s (i + 1)) ++ le 2 0 ∧
      (actingRole s p.val = 1 ∨ actingRole s p.val = 3) ∧ linkUp s p.val = true ∧ 3 ≤ (getSpdm s p.val).phase :=
  ⟨setSpdm (objs z [(0x2000, 1, 0, 1), (0x2010, 2, 0, 3)]) 0 { spdmInit with phase := 3 }, 0, [], _,
    rfl, by decide +kernel⟩

theorem wit_getMeasurements : ∃ (s : State) (p : PortN) (k : Byte) (n : List Byte) (body : List Byte),
    body = be 1 1 ++ le 3 (measBlock s k.toNat).length ++ measBlock s k.toNat ++ Config.nonceBytes s.free ++ le 2 0 ∧ (actingRole s p.val =
      1 ∨ actingRole s p.val = 3) ∧ linkUp s p.val = true ∧ 3 ≤ (getSpdm s p.val).phase ∧ 1 ≤ k.toNat ∧ k.toNat ≤ 6 :=
  ⟨setSpdm (objs z [(0x2000, 1, 0, 1), (0x2010, 2, 0, 3)]) 0 { spdmInit with phase := 3 }, 0, 1, [], _,
    rfl, by decide +kernel⟩

theorem wit_keyExchange : ∃ (s : State) (p : PortN) (v : List Byte) (i : Nat),
    (actingRole s p.val = 1 ∨ actingRole s p.val = 3) ∧ linkUp s p.val = true ∧ 3 ≤ (getSpdm s p.val).phase ∧ ([0, 1].find? fun j => nth 0
      (getSpdm s p.val).sessions j == 0) = some i :=
  ⟨setSpdm (objs z [(0x2000, 1, 0, 1), (0x2010, 2, 0, 3)]) 0 { spdmInit with phase := 3 }, 0, [], 0,
    by decide +kernel⟩

theorem wit_spdmFinish : ∃ (s : State) (p : PortN) (i : Fin 2) (mac : List Byte),
    mac = Config.hmacSha384 (look [] (getSpdm s p.val).secrets i.val) (be 1 i.val) ∧ (actingRole s p.val = 1 ∨ actingRole s p.val = 3) ∧
      linkUp s p.val = true ∧ 3 ≤ (getSpdm s p.val).phase ∧ nth 0 (getSpdm s p.val).sessions i.val = 1 :=
  ⟨setSpdm (objs z [(0x2000, 1, 0, 1), (0x2010, 2, 0, 3)]) 0 { spdmInit with phase := 3, sessions := [1, 0] }, 0, 0, _,
    rfl, by decide +kernel⟩

theorem wit_endSession : ∃ (s : State) (p : PortN) (i : Fin 2),
    (actingRole s p.val = 1 ∨ actingRole s p.val = 3) ∧ linkUp s p.val = true ∧ 3 ≤ (getSpdm s p.val).phase ∧ nth 0 (getSpdm s
      p.val).sessions i.val = 2 :=
  ⟨setSpdm (objs z [(0x2000, 1, 0, 1), (0x2010, 2, 0, 3)]) 0 { spdmInit with phase := 3, sessions := [2, 0] }, 0, 0,
    by decide +kernel⟩

theorem wit_keyProg : ∃ (s : State) (p : PortN) (i : Fin 2) (st : Byte) (ks : Bool) (key : List Byte),
    (actingRole s p.val = 1 ∨ actingRole s p.val = 3) ∧ linkUp s p.val = true ∧ 3 ≤ (getSpdm s p.val).phase ∧ nth 0 (getSpdm s
      p.val).sessions i.val = 2 ∧ ideRequester s p.val = false ∧ streamOk s p.val st.toNat = true :=
  ⟨setSpdm (objs z [(0x2000, 1, 0, 1), (0x2010, 2, 0, 3)]) 0 { spdmInit with phase := 3, sessions := [2, 0] }, 0, 0, 0, false, [],
    by decide +kernel⟩

theorem wit_kSetGo : ∃ (s : State) (p : PortN) (i : Fin 2) (st : Byte) (ks : Bool),
    (actingRole s p.val = 1 ∨ actingRole s p.val = 3) ∧ linkUp s p.val = true ∧ 3 ≤ (getSpdm s p.val).phase ∧ nth 0 (getSpdm s
      p.val).sessions i.val = 2 ∧ ideRequester s p.val = false ∧ has (getSpdm s p.val).keys (2 * st.toNat + b2n ks) = true :=
  ⟨setSpdm (objs z [(0x2000, 1, 0, 1), (0x2010, 2, 0, 3)]) 0 { spdmInit with phase := 3, sessions := [2, 0], keys := [(0, [])] }, 0, 0, 0,
    false,
    by decide +kernel⟩

theorem wit_ideRefresh : ∃ (s : State) (p : PortN),
    rd s 0xD000 11 0 ≠ 0 ∧ ideRequester s p.val = true ∧ linkUp s p.val = true :=
  ⟨objs z [(0xD000, 11, 0, 1), (0x2000, 1, 0, 2), (0x2010, 2, 0, 3)], 0,
    by decide +kernel⟩

theorem wit_ideIntegrityFailure : ∃ (s : State) (p : PortN) (k : Byte) (u : State),
    u = portDown (bump (setSpdm s p.val { getSpdm s p.val with streams := del (getSpdm s p.val).streams k.toNat }) 0xD010 5 p.val 32 1)
      p.val 3 false ∧ linkUp s p.val = true :=
  ⟨wr z 0x2010 2 0 3, 0, 0, _,
    rfl, by decide +kernel⟩

theorem wit_attestNow : ∃ (s : State) (r : Requester) (p : PortN),
    accepted s r 0xD010 6 p.val [1] ∧ actingRole s p.val = 2 :=
  ⟨wr z 0x2000 1 0 2, .vendor, 0,
    by unfold accepted; decide +kernel, by decide +kernel⟩

/-! Witnesses of the hypotheses of StartupCommandsComplete. -/

theorem wit_powerOn : ∃ (s : State) (b : PowerUp),
    s.pwr.aonOk = false :=
  ⟨z, { bootsel := 0, testN := true, hldInRange := true, corePasses := true, otherPasses := true, nor := none },
    by decide +kernel⟩

theorem wit_vddHldInRange : ∃ (s : State),
    s.pwr.aonOk = true ∧ s.pwr.hldOk = false ∧ s.sec.stage = 1 ∧ s.pwr.testMode = false :=
  ⟨{ z with pwr := { z.pwr with aonOk := true, hldOk := false, testMode := false }, sec := { z.sec with stage := 1 } },
    by decide +kernel⟩

theorem wit_bootComplete : ∃ (s : State),
    s.sec.stage = 2 ∧ s.sec.kind ≠ 2 :=
  ⟨{ z with sec := { z.sec with stage := 2, kind := 0 } },
    by decide +kernel⟩

theorem wit_bootComplete_2 : ∃ (s : State),
    s.sec.stage = 2 ∧ s.sec.kind = 2 :=
  ⟨{ z with sec := { z.sec with stage := 2, kind := 2 } },
    by decide +kernel⟩

theorem wit_pwrokAonFall : ∃ (s : State),
    s.pwr.aonOk = true :=
  ⟨run,
    by decide +kernel⟩

theorem wit_perstN : ∃ (s : State) (g : GroupN) (u : State) (v : State),
    u = resetSide ((domPorts s g.val).foldl perstPort s) (g.val / 8) (groupCrossings g.val) ∧ v = (if recording u then record u .info
      0x0002 0x1000 [0, 2, 0, 0, 0, 0] else u) ∧ s.pwr.aonOk = true :=
  ⟨objs run [(0x2140, 3, 256, 0)], 0, _, _,
    rfl, rfl, by decide +kernel⟩

theorem wit_headlandWarmReset : ∃ (s : State) (x : State) (u : State),
    x = (List.range 4).foldl (fun a t => resetSide a t [33, 34]) s ∧ u = romStart (headlandCleared (cutInstall x)) ∧ (s.sec.stage = 2 ∨
      s.sec.stage = 3) ∧ rd s 0x1200 3 0 = 0 :=
  ⟨run, _, _,
    rfl, rfl, by decide +kernel⟩

theorem wit_deviceReset : ∃ (s : State) (r : Requester),
    accepted s r 0x1201 1 0 (be 4 1) :=
  ⟨z, .vendor,
    by unfold accepted; decide +kernel⟩

theorem wit_deviceResetIgnoreBootsel : ∃ (s : State) (r : Requester),
    accepted s r 0x1201 1 0 (be 4 2) :=
  ⟨z, .vendor,
    by unfold accepted; decide +kernel⟩

theorem wit_linkUp : ∃ (s : State) (p : PortN) (x : Partner) (u : State),
    u = portUp s p.val x ∧ canTrain s p.val x = true ∧ ((rd u 0x1200 3 0 ≠ 3 ∨ u.mode.waitPorts ≠ [])) :=
  ⟨objs z [(0x2000, 1, 0, 1), (0x2010, 1, 0, 1), (0x2010, 2, 0, 1), (0x9000, 2, 9, 0), (0x2140, 2, 256, 0)], 0, { formats := 7, maxRate := 5, width := 16, cxlRev := 3, dvsec := 0, spareCap := 0, l0p := false, asymmetric := false, reversed := false, inverted := [], failed := [], credits := [], mem := none, attest := none, digests := [] },
    _,
    rfl, by decide +kernel⟩

theorem wit_linkUp_2 : ∃ (s : State) (p : PortN) (x : Partner) (u : State),
    u = portUp s p.val x ∧ canTrain s p.val x = true ∧ rd u 0x1200 3 0 = 3 ∧ u.mode.waitPorts = [] :=
  ⟨wr (objs z [(0x2000, 1, 0, 1), (0x2010, 1, 0, 1), (0x2010, 2, 0, 1), (0x9000, 2, 9, 0), (0x2140, 2, 256, 0)]) 0x1200 3 0 3, 0, { formats := 7, maxRate := 5, width := 16, cxlRev := 3, dvsec := 0, spareCap := 0, l0p := false, asymmetric := false, reversed := false, inverted := [], failed := [], credits := [], mem := none, attest := none, digests := [] },
    _,
    rfl, by decide +kernel⟩

theorem wit_actionComplete : ∃ (s : State),
    cmdRunning s 0x1213 1 0 = true :=
  ⟨cmdStart z 0x1213 1 0,
    by decide +kernel⟩

theorem wit_actionComplete_2 : ∃ (s : State),
    cmdRunning s 0x1213 2 0 = true :=
  ⟨cmdStart z 0x1213 2 0,
    by decide +kernel⟩

theorem wit_actionComplete_3 : ∃ (s : State),
    cmdRunning s 0xD100 6 0 = true :=
  ⟨cmdStart z 0xD100 6 0,
    by decide +kernel⟩

theorem wit_actionComplete_4 : ∃ (s : State),
    cmdRunning s 0xD100 11 0 = true :=
  ⟨cmdStart z 0xD100 11 0,
    by decide +kernel⟩

theorem wit_actionComplete_5 : ∃ (s : State) (l : LinkN),
    cmdRunning s 0x3100 12 l.val = true ∧ linkCarries s l.val = true :=
  ⟨wr (cmdStart z 0x3100 12 0) 0x3100 2 0 2, 0,
    by decide +kernel⟩

/-! Witnesses of the hypotheses of UpdateCommandsComplete. -/

theorem wit_fwBegin : ∃ (s : State) (r : Requester) (n : BitVec 32) (k : Nat),
    accepted s r 0xD100 6 0 (be 4 n.toNat) ∧ cmdRunning s 0xD100 7 0 = false ∧ n.toNat ≤ 12582912 ∧ downSlot s = some k :=
  ⟨{ z with sec := { z.sec with u0 := some { seq := 1, active := 0, trial := 0xFF, count := 0 } } }, .vendor, 0, 1,
    by unfold accepted; decide +kernel, by decide +kernel⟩

theorem wit_fwDownload : ∃ (s : State) (r : Requester) (a : BitVec 32) (v : List Byte) (k : Nat),
    chunkAccepted s r 0xD100 5 0 ∧ downSlot s = some k ∧ cmdRunning s 0xD100 6 0 = false ∧ cmdRunning s 0xD100 7 0 = false ∧ (fwSlot s
      k).st = 1 ∧ v ≠ [] ∧ a.toNat + v.length ≤ (fwSlot s k).len :=
  ⟨{ z with sec := { z.sec with u0 := some { seq := 1, active := 0, trial := 0xFF, count := 0 }, fwB := { FwSlot.empty with st := 1, len := 8 } } },
    .vendor, 0, [1], 1,
    by unfold chunkAccepted; decide +kernel, by decide +kernel⟩

theorem wit_fwVerify : ∃ (s : State) (r : Requester),
    accepted s r 0xD100 7 0 [1] ∧ cmdRunning s 0xD100 6 0 = false :=
  ⟨z, .vendor,
    by unfold accepted; decide +kernel, by decide +kernel⟩

theorem wit_activateFirmware : ∃ (s : State) (r : Requester) (k : Nat),
    accepted s r 0xD100 8 0 [1] ∧ rd s 0x1200 3 0 = 0 ∧ downSlot s = some k ∧ (fwSlot s k).st = 3 :=
  ⟨{ z with sec := { z.sec with u0 := some { seq := 1, active := 0, trial := 0xFF, count := 0 }, fwB := { FwSlot.empty with st := 3, len := 8 } } },
    .vendor, 1,
    by unfold accepted; decide +kernel, by decide +kernel⟩

theorem wit_applyMicrocode : ∃ (s : State) (r : Requester),
    accepted s r 0xD100 11 0 [1] ∧ modeNow s = 5 ∧ (List.range 64).all (fun p => !linkUp s p) = true :=
  ⟨wr z 0x1200 2 0 5, .vendor,
    by unfold accepted; decide +kernel, by decide +kernel⟩

theorem wit_fwConfirm : ∃ (s : State) (r : Requester),
    accepted s r 0xD100 9 0 [1] ∧ trialOpen s = true :=
  ⟨{ z with sec := { z.sec with u0 := some { seq := 1, active := 0, trial := 1, count := 1 } } }, .vendor,
    by unfold accepted; decide +kernel, by decide +kernel⟩

theorem wit_fwRevert : ∃ (s : State) (r : Requester) (u : State),
    accepted s r 0xD100 12 0 [1] ∧ u = bump (writeRecord (cmdStart s 0xD100 12 0) (activeSlot s) 0xFF 0) 0xD100 4 0 32 1 ∧ trialOpen s =
      true ∧ s.sec.trialMicrocode = false :=
  ⟨{ z with sec := { z.sec with u0 := some { seq := 1, active := 0, trial := 1, count := 1 } } }, .vendor, _,
    by unfold accepted; decide +kernel, rfl, by decide +kernel⟩

theorem wit_setCredential : ∃ (s : State) (r : Requester) (v : List Byte),
    accepted s r 0xD000 2 0 v ∧ fieldBe v 0 1 ≤ 2 ∧ ((fieldBe v 0 1 = 0 → r = .vendor)) :=
  ⟨z, .vendor, zeros 49,
    by unfold accepted; decide +kernel, by decide +kernel⟩

theorem wit_enrollKey : ∃ (s : State) (r : Requester) (v : List Byte),
    accepted s r 0xD000 4 0 v ∧ fieldBe v 0 1 ≤ 3 ∧ cfgKey s (fieldBe v 0 1) = none :=
  ⟨z, .vendor, 1 :: zeros 193,
    by unfold accepted; decide +kernel, by decide +kernel⟩

theorem wit_revokeKey : ∃ (s : State) (r : Requester) (v : List Byte) (k : List Byte),
    accepted s r 0xD000 5 0 v ∧ fieldBe v 0 1 ≤ 3 ∧ cfgKey s (fieldBe v 0 1) = some k ∧ (cfgKeySlots s).filter (· != fieldBe v 0 1) ≠ [] :=
  ⟨setCfgKey (setCfgKey z 1 (some [1])) 2 (some [2]), .vendor, 1 :: zeros 96, [1],
    by unfold accepted; decide +kernel, by decide +kernel⟩

theorem wit_raiseFloor : ∃ (s : State) (r : Requester),
    accepted s r 0xD000 7 0 [1] ∧ rd s 0xD000 6 0 < rd s 0x1210 2 0 :=
  ⟨wr z 0x1210 2 0 5, .vendor,
    by unfold accepted; decide +kernel, by decide +kernel⟩

theorem wit_revokeRootKey : ∃ (s : State) (n : Fin 4),
    s.sec.revoked.contains n.val = false :=
  ⟨z, 0,
    by decide +kernel⟩

/-! Witnesses of the hypotheses of DiagnosticCommandsComplete. -/

theorem wit_sramBist : ∃ (s : State) (r : Requester) (v : List Byte) (t : TestRun) (u : State),
    accepted s r 0xE000 1 0 v ∧ t = { kind := fieldBe v 0 1, unit := fieldBe v 2 2, first := fieldBe v 4 4, count := fieldBe v 8 4 } ∧
      testGate (cmdStart s 0xE000 1 0) t = (u, true) ∧ fieldBe v 0 1 = 1 ∧ v.length = 16 ∧ testForm t = true ∧ s.sec.test = none ∧
      testAccepted s t = true :=
  ⟨z, .vendor, [1] ++ zeros 1 ++ be 2 0 ++ be 4 0 ++ be 4 0 ++ zeros 4, _, _,
    by unfold accepted; decide +kernel, rfl, by_snd (by decide +kernel), by decide +kernel⟩

theorem wit_hbmBist : ∃ (s : State) (r : Requester) (v : List Byte) (t : TestRun) (u : State),
    accepted s r 0xE000 1 0 v ∧ t = { kind := fieldBe v 0 1, unit := fieldBe v 2 2, first := fieldBe v 4 4, count := fieldBe v 8 4 } ∧
      testGate (cmdStart s 0xE000 1 0) t = (u, true) ∧ fieldBe v 0 1 = 2 ∧ v.length = 16 ∧ testForm t = true ∧ s.sec.test = none ∧
      testAccepted s t = true :=
  ⟨stack 1, .vendor, [2] ++ zeros 1 ++ be 2 0 ++ be 4 0 ++ be 4 1 ++ zeros 4, _, _,
    by unfold accepted; decide +kernel, rfl, by_snd (by decide +kernel), by decide +kernel⟩

theorem wit_receiverCalibration : ∃ (s : State) (r : Requester) (v : List Byte) (t : TestRun) (u : State),
    accepted s r 0xE000 1 0 v ∧ t = { kind := fieldBe v 0 1, unit := fieldBe v 2 2, first := fieldBe v 4 4, count := fieldBe v 8 4 } ∧
      testGate (cmdStart s 0xE000 1 0) t = (u, true) ∧ fieldBe v 0 1 = 3 ∧ v.length = 16 ∧ testForm t = true ∧ s.sec.test = none ∧
      testAccepted s t = true :=
  ⟨z, .vendor, [3] ++ zeros 1 ++ be 2 256 ++ be 4 0 ++ be 4 0 ++ zeros 4, _, _,
    by unfold accepted; decide +kernel, rfl, by_snd (by decide +kernel), by decide +kernel⟩

theorem wit_logicBist : ∃ (s : State) (r : Requester) (v : List Byte) (t : TestRun) (u : State),
    accepted s r 0xE000 1 0 v ∧ t = { kind := fieldBe v 0 1, unit := fieldBe v 2 2, first := fieldBe v 4 4, count := fieldBe v 8 4 } ∧
      testGate (cmdStart s 0xE000 1 0) t = (u, true) ∧ fieldBe v 0 1 = 4 ∧ v.length = 16 ∧ testForm t = true ∧ s.sec.test = none ∧
      testAccepted s t = true :=
  ⟨objs z ((0x1200, 2, 0, 5) :: (List.range 16).map fun p => (0x2010, 1, p, 0)), .vendor, [4] ++ zeros 1 ++ be 2 0 ++ be 4 0 ++ be 4 0 ++
    zeros 4, _, _,
    by unfold accepted; decide +kernel, rfl, by_snd (by decide +kernel), by decide +kernel⟩

theorem wit_patrolScrubPass : ∃ (s : State) (r : Requester) (v : List Byte) (t : TestRun) (u : State),
    accepted s r 0xE000 1 0 v ∧ t = { kind := fieldBe v 0 1, unit := fieldBe v 2 2, first := fieldBe v 4 4, count := fieldBe v 8 4 } ∧
      testGate (cmdStart s 0xE000 1 0) t = (u, true) ∧ fieldBe v 0 1 = 5 ∧ v.length = 16 ∧ testForm t = true ∧ s.sec.test = none ∧
      testAccepted s t = true :=
  ⟨z, .vendor, [5] ++ zeros 1 ++ be 2 0 ++ be 4 0 ++ be 4 0 ++ zeros 4, _, _,
    by unfold accepted; decide +kernel, rfl, by_snd (by decide +kernel), by decide +kernel⟩

theorem wit_testComplete : ∃ (s : State) (n : Nat) (a : Nat) (t : TestRun),
    s.sec.test = some t ∧ t.kind ≠ 4 :=
  ⟨{ z with sec := { z.sec with test := some { kind := 1, unit := 0, first := 0, count := 0 } } }, 0, 0, { kind := 1, unit := 0, first := 0, count := 0 },
    by decide +kernel⟩

theorem wit_diagnosticRead : ∃ (s : State) (r : Requester) (v : List Byte) (u : State),
    accepted s r 0xE010 1 0 v ∧ diagGate (cmdStart s 0xE010 1 0) (fieldBe v 0 8) (fieldBe v 8 4) false = (u, true) ∧ diagForm s (fieldBe v
      0 8) (fieldBe v 8 4) = true :=
  ⟨z, .vendor, zeros 11 ++ [1], _,
    by unfold accepted; decide +kernel, by_snd (by decide +kernel), by decide +kernel⟩

theorem wit_diagnosticWrite : ∃ (s : State) (r : Requester) (v : List Byte) (u : State),
    accepted s r 0xE010 3 0 v ∧ diagGate (cmdStart s 0xE010 3 0) (fieldBe v 0 8) (fieldBe v 8 4) true = (u, true) ∧ diagForm s (fieldBe v 0
      8) (fieldBe v 8 4) = true ∧ v.length = 12 + fieldBe v 8 4 :=
  ⟨z, .vendor, zeros 11 ++ [1, 7], _,
    by unfold accepted; decide +kernel, by_snd (by decide +kernel), by decide +kernel⟩

/-! Witnesses of the hypotheses of TelemetryAndTilesComplete. -/

theorem wit_meterRefill : ∃ (s : State) (t : TileN) (u : State),
    u = { s with qos := { s.qos with meters := mapVals s.qos.meters fun k b => if meterTile s (k / 4) = t.val then refillMeter (meterRec s (k / 4) (k % 4)) b else b } }
      :=
  ⟨z, 0, _,
    rfl⟩

theorem wit_clearOverflow : ∃ (s : State) (r : Requester) (u : UnitN) (m : BitVec 64) (w : BitVec 64),
    accepted s r 0xB000 4 u.val (be 8 m.toNat) :=
  ⟨z, .vendor, 0, 0, 0,
    by unfold accepted; decide +kernel⟩

theorem wit_instanceClearOverflow : ∃ (s : State) (r : Requester) (i : InstN),
    accepted s r 0xB010 2 i.val [1] :=
  ⟨z, .vendor, 0,
    by unfold accepted; decide +kernel⟩

theorem wit_controlRecordWrite : ∃ (s : State) (r : Requester) (u : UnitN) (n : Fin 8) (v : BitVec 32),
    chunkAccepted s r 0xB000 3 u.val ∧ eventDefined u.val (bits v.toNat 31 24) = true ∧ bits v.toNat 23 22 ≠ 3 ∧ ((32 ≤ u.val → bits
      v.toNat 23 22 = 0)) ∧ ((classEvent (bits v.toNat 31 24) = false → bits v.toNat 7 0 = 0xFF)) :=
  ⟨z, .vendor, 0, 0, 255,
    by unfold chunkAccepted; decide +kernel, by decide +kernel⟩

theorem wit_windowStart : ∃ (s : State) (r : Requester) (p : PortN),
    accepted s r 0xB200 3 p.val [1] ∧ rd s 0xB200 5 p.val ≠ 1 ∧ rd s 0xB200 1 p.val ≠ 0 :=
  ⟨objs z [(0xB200, 5, 0, 0), (0xB200, 1, 0, 5)], .vendor, 0,
    by unfold accepted; decide +kernel, by decide +kernel⟩

theorem wit_windowStop : ∃ (s : State) (r : Requester) (p : PortN) (u : State) (x : List Byte),
    accepted s r 0xB200 4 p.val [1] ∧ windowResult (cmdDone s 0xB200 4 p.val 0) p.val (min ((getWin s p.val).len) (tileCycles s (p.val /
      16) - (getWin s p.val).start)) true = (u, x) ∧ rd s 0xB200 5 p.val = 1 :=
  ⟨wr z 0xB200 5 0 1, .vendor, 0, _, _,
    by unfold accepted; decide +kernel, rfl, by decide +kernel⟩

theorem wit_windowEnd : ∃ (s : State) (p : PortN) (u : State) (v : State) (x : List Byte),
    windowResult s p.val (getWin s p.val).len false = (u, x) ∧ v = writeResult u p.val x ∧ rd s 0xB200 5 p.val = 1 ∧ rd v 0xB200 2 p.val =
      1 :=
  ⟨objs z [(0xB200, 5, 0, 1), (0xB200, 2, 0, 1)], 0, _, _, _,
    rfl, rfl, by decide +kernel⟩

theorem wit_tileReset : ∃ (s : State) (r : Requester) (t : TileN),
    accepted s r 0x3000 3 t.val [1] ∧ rd s 0x3000 2 t.val = 3 :=
  ⟨wr z 0x3000 2 0 3, .vendor, 0,
    by unfold accepted; decide +kernel, by decide +kernel⟩

theorem wit_tileTarget : ∃ (s : State) (r : Requester) (t : TileN) (v : Byte),
    accepted s r 0x3000 1 t.val [v] ∧ v.toNat ≠ 0 ∧ rd s 0x3000 2 t.val = 1 :=
  ⟨wr z 0x3000 2 0 1, .vendor, 0, 1,
    by unfold accepted; decide +kernel, by decide +kernel⟩

theorem wit_tileTarget_2 : ∃ (s : State) (r : Requester) (t : TileN) (v : Byte),
    accepted s r 0x3000 1 t.val [v] ∧ v.toNat = 0 ∧ rd s 0x3000 2 t.val = 3 :=
  ⟨wr z 0x3000 2 0 3, .vendor, 0, 0,
    by unfold accepted; decide +kernel, by decide +kernel⟩

theorem wit_tileInService : ∃ (s : State) (t : TileN),
    rd s 0x3000 2 t.val = 2 :=
  ⟨wr z 0x3000 2 0 2, 0,
    by decide +kernel⟩

/-! Witnesses of the hypotheses of StrandlineCommandsComplete. -/

theorem wit_causeOccurrence : ∃ (s : State) (src : BitVec 16) (c : CauseN) (v : Severity) (ps : List Nat),
    v ≠ .critical ∧ v ≠ .info ∧ isSource src.toNat = true ∧ (getSource s src.toNat).unreachable = false ∧ (getSource s src.toNat).standing
      c.val = none :=
  ⟨z, 0x3000, 0, .fault, [],
    by decide +kernel⟩

theorem wit_faultClear : ∃ (s : State) (r : Requester) (src : BitVec 16) (m : BitVec 32),
    accepted s r 0xC000 6 src.toNat (be 4 m.toNat) :=
  ⟨z, .vendor, 0x2100, 0,
    by unfold accepted; decide +kernel⟩

theorem wit_faultClearAll : ∃ (s : State) (r : Requester),
    accepted s r 0xC010 4 0 [1] :=
  ⟨z, .vendor,
    by unfold accepted; decide +kernel⟩

theorem wit_levelUnlatch : ∃ (s : State) (src : BitVec 16) (c : CauseN) (k : Cause) (u : State),
    k = (getSource s src.toNat).cause c.val ∧ u = setSource s src.toNat ((getSource s src.toNat).setCause c.val { k with latched := false, merged := false, recorded := true, sev := .info }).settle
      ∧ isLevel c.val = true ∧ k.latched = true :=
  ⟨raise z 0x3000 0 .fault [], 0x3000, 0, _, _,
    rfl, rfl, by decide +kernel⟩

theorem wit_faultRescan : ∃ (s : State) (u : State),
    u = (sourcesWhere s fun _ => true).foldl (fun a src => (List.range 26).foldl (fun b c => rescanCause b src c) a) s :=
  ⟨z, _,
    rfl⟩

theorem wit_recordCommit : ∃ (s : State) (x : Rec),
    storeState s = 0 ∧ nextCommit s = some x :=
  ⟨{ z with flt := { z.flt with ring := [⟨{ sev := .notice, event := 0x1000, src := 0x1000, seq := 1, seconds := 0, cycles := 0, params := [] }, false⟩] } },
    { sev := .notice, event := 0x1000, src := 0x1000, seq := 1, seconds := 0, cycles := 0, params := [] },
    by decide +kernel⟩

theorem wit_storeFailure : ∃ (s : State) (u : State),
    u = wr { s with flt := { s.flt with ringLost := 0 } } 0xC100 1 0 1 ∧ cmdRunning u 0xC100 6 0 = false :=
  ⟨z, wr { z with flt := { z.flt with ringLost := 0 } } 0xC100 1 0 1,
    by decide +kernel⟩

theorem wit_retryStore : ∃ (s : State) (r : Requester),
    accepted s r 0xC100 7 0 [1] :=
  ⟨z, .vendor,
    by unfold accepted; decide +kernel⟩

theorem wit_retryStore_2 : ∃ (s : State) (r : Requester) (u : State),
    accepted s r 0xC100 7 0 [1] ∧ u = record (commitAll (awaiting s) (wr (cmdStart s 0xC100 7 0) 0xC100 1 0 0)) .notice 0x0004 0xC100 [0,
      awaiting s, s.flt.ringLost, 0, 0, 0] :=
  ⟨z, .vendor, _,
    by unfold accepted; decide +kernel, rfl⟩

theorem wit_strandErase : ∃ (s : State) (r : Requester) (u : State),
    accepted s r 0xC100 6 0 [1] ∧ u = { cmdStart s 0xC100 6 0 with flt := { s.flt with store := [], ring := [] } } ∧ storeState s ≠ 1 :=
  ⟨z, .vendor, _,
    by unfold accepted; decide +kernel, rfl, by decide +kernel⟩

/-! Witnesses of the hypotheses of SwitchCommandsComplete. -/

theorem wit_crossingTimeout : ∃ (s : State) (t : TileN) (x : CrossN),
    crossingStopped s t.val x.val = false ∧ crossingHolds s t.val x.val = true ∧ crossingLink t.val x.val = none :=
  ⟨setTile (wr z 0x9000 2 9 0) 0 { getTile z 0 with voq := [{ switchCell { kind := .ioPosted, src := 0, dst := 2, tag := 0, len := 16, cls := 5, data := [], key := 0, tc := 0 } with xpOut := 0 }] },
    0, 0,
    by decide +kernel⟩

theorem wit_crossingTimeout_2 : ∃ (s : State) (t : TileN) (x : CrossN) (l : Nat) (u : State),
    u = dropCells (closeCrossing (raise (bump (crossed s t.val x.val 2) 0x3000 6 t.val 32 1) (0x3200 + t.val) 6 .fault []) t.val x.val)
      t.val (crossingCells x.val) ∧ crossingStopped s t.val x.val = false ∧ crossingHolds s t.val x.val = true ∧ crossingLink t.val x.val =
      some l ∧ (getLink u l).timeouts = [] :=
  ⟨setTile (wr z 0x3100 2 0 2) 0 { getTile z 0 with voq := [{ switchCell { kind := .ioPosted, src := 0, dst := 2, tag := 0, len := 16, cls := 5, data := [], key := 0, tc := 0 } with xpOut := 8 }] },
    0, 30, 0, _,
    rfl, by decide +kernel⟩

theorem wit_tidelinkFlit : ∃ (s : State) (l : LinkN) (d : LinkDir) (f : TlFlit) (u : State),
    u = receiveFlit s l.val d f ∧ linkCarries s l.val = true ∧ replayExhausted u l.val .up = false ∧ replayExhausted u l.val .down = false
      :=
  ⟨wr z 0x3100 2 0 2, 0, .up, [], receiveFlit (wr z 0x3100 2 0 2) 0 .up [],
    rfl, by decide +kernel⟩

theorem wit_ackTimeout : ∃ (s : State) (l : LinkN) (d : LinkDir) (u : State),
    u = resendGroups s l.val d ∧ linkCarries s l.val = true ∧ replayExhausted u l.val d = false :=
  ⟨wr z 0x3100 2 0 2, 0, .up, resendGroups (wr z 0x3100 2 0 2) 0 .up,
    rfl, by decide +kernel⟩

theorem wit_balancerPeriod : ∃ (s : State) (t : TileN) (u : State),
    u = (List.range 768).foldl (fun a k => wrTbl a 0x3210 8 t.val k (look 0 (getTile s t.val).load k % 2 ^ 32)) s ∧ rd s 0x3210 2 t.val ≠ 1
      ∧ u.obj = s.obj :=
  ⟨wr z 0x3210 2 0 0, 0, (List.range 768).foldl (fun a k => wrTbl a 0x3210 8 0 k (look 0 (getTile (wr z 0x3210 2 0 0) 0).load k % 2 ^ 32))
    (wr z 0x3210 2 0 0),
    rfl, by decide +kernel⟩

theorem wit_pathTableWrite : ∃ (s : State) (r : Requester) (t : TileN) (a : Fin 768) (vs : List Byte) (u : State),
    chunkAccepted s r 0x3210 1 t.val ∧ Machine.pathTableWrite s t.val a.val (vs.map (·.toNat)) = (u, .ok) :=
  ⟨z, .vendor, 0, 0, [0], _,
    by unfold chunkAccepted; decide +kernel, by_snd (by decide +kernel)⟩

theorem wit_fenceCell : ∃ (s : State) (t : TileN) (d : TileN) (e : Byte) (c : Fin 8) (u : State) (r : Repin),
    u = takeFence s t.val d.val e.toNat c.val ∧ (getTile u t.val).repins = [r] ∧ r.dst = d.val ∧ r.entry = e.toNat :=
  ⟨setTile z 0 { getTile z 0 with repins := [{ dst := 1, entry := 0, path := 1, waits := [0], held := [], queued := [] }] }, 0, 1, 0, 0, _,
    { dst := 1, entry := 0, path := 1, waits := [0], held := [], queued := [] },
    rfl, by decide +kernel⟩

theorem wit_fenceAck : ∃ (s : State) (t : TileN) (d : TileN) (e : Byte) (r : Repin) (u : State),
    u = goOnHeld (pathTaken (setTile s t.val { getTile s t.val with repins := (getTile s t.val).repins.filter (· != r) }) t.val d.val
      e.toNat r.path) t.val r ∧ repinOf s t.val d.val e.toNat = some r ∧ r.waits = [] :=
  ⟨setTile z 0 { getTile z 0 with repins := [{ dst := 1, entry := 0, path := 1, waits := [], held := [], queued := [] }] }, 0, 1, 0, { dst := 1, entry := 0, path := 1, waits := [], held := [], queued := [] },
    _,
    rfl, by decide +kernel⟩

theorem wit_tidelinkLaneLoss : ∃ (s : State) (l : LinkN) (d : LinkDir) (k : Fin 64) (x : TlDir) (y : TlDir) (u : State),
    x = getDir (getLink s l.val) d ∧ y = (if x.spared.length + x.dead < 2 ∧ (x.lost.all fun n => n == k.val || x.spared.contains n) = true
      then { x with lost := k.val :: x.lost, spared := k.val :: x.spared } else { x with lost := k.val :: x.lost }) ∧ u = setLink s l.val
      (setDirSt (getLink s l.val) d y) ∧ linkCarries s l.val = true ∧ x.lost.contains k.val = false ∧ x.spared.contains k.val = false :=
  ⟨wr z 0x3100 2 0 2, 0, .up, 0, _, _, _,
    rfl, rfl, rfl, by decide +kernel⟩

theorem wit_tidelinkFailure : ∃ (s : State) (l : LinkN) (u : State) (v : State),
    u = bump (wr (wr (wr s 0x3100 2 l.val 5) 0x3100 3 l.val 0) 0x3100 4 l.val 0) 0x3100 9 l.val 32 1 ∧ v = repinTiles (setLink u l.val { getLink u l.val with awaitLow := true, awaitHigh := true, timeouts := [] })
      l.val none true ∧ linkCarries s l.val = true :=
  ⟨wr z 0x3100 2 0 2, 0, _, _,
    rfl, rfl, by decide +kernel⟩

theorem wit_dedupReport : ∃ (s : State) (l : LinkN) (t : TileN) (g : Byte),
    awaitsDedup s l.val t.val = true :=
  ⟨setLink z 0 { linkInit with awaitLow := true }, 0, 0, 0,
    by decide +kernel⟩

theorem wit_dedupTimeout : ∃ (s : State) (l : LinkN) (t : TileN),
    awaitsDedup s l.val t.val = true :=
  ⟨setLink z 0 { linkInit with awaitLow := true }, 0, 0,
    by decide +kernel⟩

theorem wit_tidelinkTarget : ∃ (s : State) (r : Requester) (l : LinkN) (v : Byte),
    accepted s r 0x3100 1 l.val [v] ∧ v.toNat = 1 ∧ rd s 0x3100 2 l.val = 0 ∧ rd s 0x3000 2 (linkEnds l.val).1 = 3 ∧ rd s 0x3000 2
      (linkEnds l.val).2 = 3 :=
  ⟨objs z [(0x3000, 2, 0, 3), (0x3000, 2, 1, 3)], .vendor, 0, 1,
    by unfold accepted; decide +kernel, by decide +kernel⟩

theorem wit_tidelinkRepair : ∃ (s : State) (r : Requester) (l : LinkN),
    accepted s r 0x3100 12 l.val [1] ∧ modeNow s = 5 :=
  ⟨wr z 0x1200 2 0 5, .vendor, 0,
    by unfold accepted; decide +kernel, by decide +kernel⟩

theorem wit_tidelinkTrained : ∃ (s : State) (l : LinkN) (a : Byte) (b : Byte) (u : State),
    u = showLink (setLink (openLink (openLink s (linkEnds l.val).1 l.val) (linkEnds l.val).2 l.val) l.val { up := trainedDir a.toNat, down := trainedDir b.toNat, awaitLow := false, awaitHigh := false, timeouts := [] })
      l.val ∧ rd s 0x3100 1 l.val ≠ 0 ∧ linkCarries s l.val = false ∧ rd s 0x3000 2 (linkEnds l.val).1 = 3 ∧ rd s 0x3000 2 (linkEnds
      l.val).2 = 3 ∧ dirWidth (trainedDir a.toNat) ≠ 0 ∧ dirWidth (trainedDir b.toNat) ≠ 0 :=
  ⟨objs z [(0x3000, 2, 0, 3), (0x3000, 2, 1, 3)], 0, 0, 0, _,
    rfl, by decide +kernel⟩

theorem wit_beachcomberPass : ∃ (s : State) (t : TileN) (l : List Nat),
    rd s 0x3300 1 t.val = 1 :=
  ⟨wr z 0x3300 1 0 1, 0, [],
    by decide +kernel⟩

/-! Witnesses of the hypotheses of LaneWritesComplete. -/

theorem wit_laneDirectionTarget : ∃ (s : State) (r : Requester) (l : LaneN) (d : Dir) (v : Byte),
    accepted s r (dirIndex d) 1 l.val [v] ∧ ((v = 2 → laneRole s l.val ≠ 1 ∧ laneRole s l.val ≠ 3)) :=
  ⟨z, .vendor, 0, .tx, 0,
    by unfold accepted; decide +kernel, by decide +kernel⟩

theorem wit_testTarget : ∃ (s : State) (r : Requester) (l : LaneN) (v : Byte),
    accepted s r 0x2110 1 l.val [v] ∧ ((v.toNat % 2 = 1 → generatorOk (laneKind s l.val) = true)) ∧ ((2 ≤ v.toNat → checkerOk (laneKind s
      l.val) = true)) :=
  ⟨z, .vendor, 0, 0,
    by unfold accepted; decide +kernel, by decide +kernel⟩

theorem wit_testLoopback : ∃ (s : State) (r : Requester) (l : LaneN) (v : Byte),
    accepted s r 0x2110 4 l.val [v] ∧ ((v = 1 ∨ v = 2 → nearEndOk (laneKind s l.val) = true)) ∧ ((v = 3 → farEndOk (laneKind s l.val) =
      true)) :=
  ⟨z, .vendor, 0, 0,
    by unfold accepted; decide +kernel, by decide +kernel⟩

theorem wit_testInject : ∃ (s : State) (r : Requester) (l : LaneN) (n : BitVec 32),
    accepted s r 0x2110 5 l.val (be 4 n.toNat) ∧ 1 ≤ n.toNat ∧ n.toNat ≤ 255 ∧ laneKind s l.val ≠ .traffic ∧ laneKind s l.val ≠ .spareBusy
      ∧ (rd s 0x2110 2 l.val % 2 = 1 ∨ laneKind s l.val = .spareKeepalive) :=
  ⟨wr z 0x2110 2 256 1, .vendor, 256, 1,
    by unfold accepted; decide +kernel, by decide +kernel⟩

theorem wit_clearCounters : ∃ (s : State) (r : Requester) (l : LaneN),
    accepted s r 0x2110 9 l.val [1] :=
  ⟨z, .vendor, 0,
    by unfold accepted; decide +kernel⟩

theorem wit_swapBack : ∃ (s : State) (r : Requester) (g : GroupN),
    accepted s r 0x2140 11 (256 + g.val) [1] ∧ spareInUse s g.val = true :=
  ⟨objs z [(0x2140, 9, 256, 0)], .vendor, 0,
    by unfold accepted; decide +kernel, by decide +kernel⟩

theorem wit_retireLane : ∃ (s : State) (r : Requester) (g : GroupN) (v : Byte),
    accepted s r 0x2140 12 (256 + g.val) (be 4 v.toNat) ∧ spareTaken s g.val = false ∧ (getPort s (lanePort s (8 * g.val +
      v.toNat))).subPhase = 0 ∧ (getPort s (lanePort s (8 * g.val + v.toNat))).window = false :=
  ⟨z, .vendor, 0, 0,
    by unfold accepted; decide +kernel, by decide +kernel⟩

/-! Witnesses of the hypotheses of LaneEventsComplete. -/

theorem wit_laneLock : ∃ (s : State) (l : LaneN),
    rd s 0x2102 2 l.val = 0 :=
  ⟨wr z 0x2102 2 0 0, 0,
    by decide +kernel⟩

theorem wit_laneLockLoss : ∃ (s : State) (l : LaneN),
    rd s 0x2100 5 l.val = 2 ∧ rd s 0x2102 2 l.val = 0 ∧ rd s 0x2010 2 (lanePort s l.val) = 3 ∧ laneRole s l.val ≠ 1 ∧ laneRole s l.val ≠ 3
      :=
  ⟨objs z [(0x2100, 5, 0, 2), (0x2102, 2, 0, 0), (0x2010, 2, 0, 3), (0x2100, 1, 0, 0), (0x2100, 2, 0, 0)], 0,
    by decide +kernel⟩

theorem wit_laneLockLoss_2 : ∃ (s : State) (l : LaneN),
    rd s 0x2100 5 l.val = 2 ∧ rd s 0x2102 2 l.val = 0 ∧ rd s 0x2010 2 (lanePort s l.val) = 3 ∧ (laneRole s l.val = 1 ∨ laneRole s l.val =
      3) ∧ lanePort s l.val < 64 ∧ (getPort s (lanePort s l.val)).window = false ∧ (getPort s (lanePort s l.val)).subPhase = 0 ∧ (getPort s
      (lanePort s l.val)).swap = false :=
  ⟨objs z [(0x2100, 5, 0, 2), (0x2102, 2, 0, 0), (0x2010, 2, 0, 3), (0x2100, 1, 0, 1), (0x2100, 2, 0, 0)], 0,
    by decide +kernel⟩

theorem wit_decisionWindowClose : ∃ (s : State) (p : PortN),
    (getPort s p.val).window = true :=
  ⟨setPort (z) 0 { portInit with window := true }, 0,
    by decide +kernel⟩

theorem wit_sparingRequest : ∃ (s : State) (p : PortN) (l : LaneN),
    l.val < 256 ∧ lanePort s l.val = p.val ∧ laneRole s l.val = 1 ∧ rd s 0x2010 2 p.val = 3 ∧ sparingMode s p.val (laneGroup l.val) = 3 ∧
      spareFree s (laneGroup l.val) p.val = true ∧ (getPort s p.val).swap = false ∧ (∀ x ∈ (getPort s p.val).lost, x = l.val) ∧ (∀ x,
      (getPort s p.val).subLane = some x → x = l.val) :=
  ⟨objs z [(0x2100, 1, 0, 1), (0x2100, 2, 0, 0), (0x2010, 2, 0, 3), (0x2140, 7, 256, 3)], 0, 0,
    by decide +kernel⟩

theorem wit_sparingAck : ∃ (s : State) (p : PortN),
    (getPort s p.val).subPhase = 1 :=
  ⟨setPort (z) 0 { portInit with subPhase := 1 }, 0,
    by decide +kernel⟩

theorem wit_switchFlit : ∃ (s : State) (p : PortN) (l : Nat),
    (getPort s p.val).subPhase = 2 ∧ (getPort s p.val).subLane = some l :=
  ⟨setPort (z) 0 { portInit with subPhase := 2, subLane := some 0 }, 0, 0,
    by decide +kernel⟩

theorem wit_l0pWidthChange : ∃ (s : State) (p : PortN) (w : Byte),
    (getPort s p.val).l0p = true ∧ rd s 0x2010 2 p.val = 3 ∧ w.toNat ≠ 0 ∧ w.toNat ≤ (getPort s p.val).fullWidth ∧ (getPort s
      p.val).subPhase = 0 :=
  ⟨setPort (wr z 0x2010 2 0 3) 0 { portInit with l0p := true, fullWidth := 16 }, 0, 8,
    by decide +kernel⟩

theorem wit_l0pWidthChange_2 : ∃ (s : State) (p : PortN) (w : Byte) (x : Nat),
    (getPort s p.val).l0p = true ∧ rd s 0x2010 2 p.val = 3 ∧ w.toNat ≠ 0 ∧ w.toNat ≤ (getPort s p.val).fullWidth ∧ (getPort s
      p.val).subPhase = 3 ∧ (getPort s p.val).subLane = some x ∧ x < 256 ∧ w.toNat = narrowWidth s (getPort s p.val) x :=
  ⟨setPort (objs z [(0x2010, 2, 0, 3), (0x2100, 3, 0, 9)]) 0 { portInit with l0p := true, fullWidth := 16, subPhase := 3, subLane := some 0 },
    0, 8, 0,
    by decide +kernel⟩

theorem wit_recoveryComplete : ∃ (s : State) (p : PortN) (ok : Bool),
    rd s 0x2010 2 p.val = 4 ∧ rd s 0x2010 3 p.val ≠ 0 ∧ (getPort s p.val).subLane = none ∧ (getPort s p.val).excluded = [] :=
  ⟨objs z [(0x2010, 2, 0, 4), (0x2010, 3, 0, 16)], 0, false,
    by decide +kernel⟩

theorem wit_recoveryEntry : ∃ (s : State) (p : PortN),
    rd s 0x2010 2 p.val = 3 ∧ (getPort s p.val).window = false :=
  ⟨wr z 0x2010 2 0 3, 0,
    by decide +kernel⟩

theorem wit_degradeThreshold : ∃ (s : State) (l : LaneN),
    l.val < 256 ∧ rd s 0x2140 13 (256 + laneGroup l.val) ≠ 0 ∧ laneRole s l.val = 1 ∧ rd s 0x2010 2 (lanePort s l.val) = 3 ∧ (getPort s
      (lanePort s l.val)).subPhase = 0 ∧ (getPort s (lanePort s l.val)).window = false ∧ spareable s (lanePort s l.val) [l.val] = some
      l.val :=
  ⟨objs z [(0x2140, 13, 256, 5), (0x2100, 1, 0, 1), (0x2100, 2, 0, 0), (0x2010, 2, 0, 3), (0x2140, 7, 256, 3)], 0,
    by decide +kernel⟩

/-! Witnesses of the hypotheses of LaneChecksComplete. -/

theorem wit_spareExchangeComplete : ∃ (s : State) (p : PortN) (g : Nat),
    portGroups s p.val = [g] ∧ p.val ∈ (getGroup s g).exchange ∧ bit (getPort s p.val).spareCap 3 = false :=
  ⟨setGroup z 0 { groupInit with exchange := [0] }, 0, 0,
    by decide +kernel⟩

theorem wit_spareExchangeComplete_2 : ∃ (s : State) (p : PortN) (g : Nat),
    portGroups s p.val = [g] ∧ p.val ∈ (getGroup s g).exchange :=
  ⟨setGroup z 0 { groupInit with exchange := [0] }, 0, 0,
    by decide +kernel⟩

theorem wit_keepaliveLoss : ∃ (s : State) (g : GroupN),
    (getGroup s g.val).keepalive ≠ [] :=
  ⟨setGroup z 0 { groupInit with keepalive := [0] }, 0,
    by decide +kernel⟩

theorem wit_loopbackEntry : ∃ (s : State) (l : LaneN),
    farEndOk (laneKind s l.val) = true :=
  ⟨z, 0,
    by decide +kernel⟩

theorem wit_checkerSync : ∃ (s : State) (l : LaneN),
    (2 ≤ rd s 0x2110 2 l.val ∨ laneKind s l.val = .spareKeepalive) :=
  ⟨wr z 0x2110 2 0 2, 0,
    by decide +kernel⟩

theorem wit_checkerSyncLoss : ∃ (s : State) (l : LaneN) (bits : Nat) (errs : Nat),
    (getLane s l.val).inSync = true :=
  ⟨setLane z 0 { laneInit with inSync := true }, 0, 0, 0,
    by decide +kernel⟩

theorem wit_l1Entry : ∃ (s : State) (p : PortN),
    rd s 0x2010 2 p.val = 3 ∧ rd s 0x2000 5 p.val = 1 ∧ actingRole s p.val ≠ 3 :=
  ⟨objs z [(0x2010, 2, 0, 3), (0x2000, 5, 0, 1)], 0,
    by decide +kernel⟩

theorem wit_l1Exit : ∃ (s : State) (p : PortN),
    rd s 0x2010 2 p.val = 5 ∧ (∀ g ∈ portGroups s p.val, rd s 0x9000 2 (32 * (g / 8) + 9 + g % 8) = 0) :=
  ⟨objs z [(0x2010, 2, 0, 5), (0x9000, 2, 9, 0)], 0,
    by decide +kernel⟩

end Sys2Proof.Tests
end

section
/-!
SUPPORT. Numbers as bytes in network byte order (R23): the bytes of a number spell it again, and a field of a record laid out field by field
reads as the field written there.
-/
namespace Sys2Proof.Proofs

open Sys2Proof Sys2Proof.Machine

@[simp] theorem length_be (n v : Nat) : (be n v).length = n := by
  induction n with
  | zero => rfl
  | succ n ih => simp [be, ih]

theorem ofBe_append (l₁ l₂ : List Byte) : ofBe (l₁ ++ l₂) = ofBe l₁ * 256 ^ l₂.length + ofBe l₂ := by
  induction l₂ using List.reverseRecOn with
  | nil => simp [ofBe]
  | append_singleton l b ih =>
    simp only [ofBe, List.foldl_append, List.foldl_cons, List.foldl_nil, List.length_append, List.length_singleton] at ih ⊢
    rw [ih]
    ring

/-- The bytes of a number spell what of it fits in them. -/
@[simp] theorem ofBe_be (n v : Nat) : ofBe (be n v) = v % 256 ^ n := by
  induction n with
  | zero => simp [be, ofBe, Nat.mod_one]
  | succ n ih =>
    have hsplit : be (n + 1) v = [BitVec.ofNat 8 (v / 256 ^ n)] ++ be n v := rfl
    rw [hsplit, ofBe_append, ih, length_be, Nat.mod_pow_succ]
    simp [ofBe]
    ring

/-- The first field of a record. -/
theorem fieldBe_be_append (n v : Nat) (l : List Byte) : fieldBe (be n v ++ l) 0 n = v % 256 ^ n := by
  have hslice : slice (be n v ++ l) 0 n = be n v := List.take_left' (length_be n v)
  rw [fieldBe, hslice, ofBe_be]

/-- The first field of a record, where it holds a word of its width. -/
theorem fieldBe_word_append {n w : Nat} (hw : w = 8 * n) (x : BitVec w) (l : List Byte) : fieldBe (be n x.toNat ++ l) 0 n = x.toNat := by
  have hlt : x.toNat < 256 ^ n := by
    calc x.toNat < 2 ^ w := x.isLt
      _ = 256 ^ n := by rw [hw, Nat.pow_mul]
  rw [fieldBe_be_append, Nat.mod_eq_of_lt hlt]

/-- Bytes beyond the end of a number's field. -/
theorem drop_be_of_le {n k : Nat} (v : Nat) (h : n ≤ k) : (be n v).drop k = [] := List.drop_of_length_le (by simpa using h)

/-- A field that lies behind the first bytes of a record. -/
theorem fieldBe_append_of_le {l₁ l₂ : List Byte} {off : Nat} (n : Nat) (h : l₁.length ≤ off) :
    fieldBe (l₁ ++ l₂) off n = fieldBe l₂ (off - l₁.length) n := by
  simp only [fieldBe, slice, List.drop_append, List.drop_of_length_le h, List.nil_append]

end Sys2Proof.Proofs
end

section
/-!
SUPPORT. The bytes of an ODP message and of the items of its body (R33, R34, Tables 2-8 and 2-10), read back: O44 and O45.
-/
namespace Sys2Proof.Proofs

open Sys2Proof Sys2Proof.Machine

/-- A message's header as ten numbers of fixed widths, then its body (Table 2-8). -/
theorem odpBytes_eq (m : OdpMsg) : odpBytes m =
    be 2 m.magic.toNat ++ (be 1 m.version.toNat ++ (be 1 m.opcode.toNat ++ (be 2 m.flags.toNat ++ (be 2 m.status.toNat
      ++ (be 4 m.session.toNat ++ (be 4 m.sequence.toNat ++ (be 2 m.items.toNat ++ (be 2 m.bodyLen.toNat
      ++ (be 4 m.reserved.toNat ++ m.body))))))))) := by
  simp [odpBytes, be]

/-- Settles O44: each field of the header stands behind fields of known widths, and a field's bytes spell it. -/
theorem odpMessageRoundTrip : Obligations.OdpMessageRoundTrip := by
  rintro ⟨magic, version, opcode, flags, status, session, sequence, items, bodyLen, reserved, body, tag⟩ htag
  obtain rfl : tag = [] := htag
  rw [odpBytes_eq, msgOfBytes]
  simp [fieldBe_append_of_le, fieldBe_word_append, List.drop_append, drop_be_of_le]

/-! The items of a body (Table 2-10). -/

theorem length_pad4 (l : List Byte) : (pad4 l).length = ceilDiv l.length 4 * 4 := by
  simp only [pad4, ceilDiv, zeros, List.length_append, List.length_replicate, OfNat.ofNat_ne_zero, if_false]
  omega

/-- An item as the numbers of its header, with whatever stands behind it. -/
theorem bytes_append_eq (w : WireItem) (rest : List Byte) : w.bytes ++ rest =
    be 2 w.idx ++ (be 1 w.sub ++ (be 1 w.iflags ++ (be 2 w.q ++ (be 1 w.ty ++ (be 1 0 ++ (be 2 w.value.length ++ (be 2 w.change
      ++ (pad4 w.value ++ rest)))))))) := by
  simp [WireItem.bytes, be]

theorem length_bytes (w : WireItem) : w.bytes.length = 12 + ceilDiv w.value.length 4 * 4 := by
  simp only [WireItem.bytes, List.length_append, length_be, length_pad4, List.length_singleton]

/-- The value of an item stands behind its header, before its padding. -/
theorem slice_bytes_value (w : WireItem) (rest : List Byte) : slice (w.bytes ++ rest) 12 w.value.length = w.value := by
  rw [bytes_append_eq, slice]
  simp [List.drop_append, drop_be_of_le, pad4]

/-- Each field of an item's header is read at its offset. -/
theorem fieldBe_bytes {w : WireItem} (hw : w.fits) (rest : List Byte) :
    fieldBe (w.bytes ++ rest) 0 2 = w.idx ∧ fieldBe (w.bytes ++ rest) 2 1 = w.sub ∧ fieldBe (w.bytes ++ rest) 3 1 = w.iflags
      ∧ fieldBe (w.bytes ++ rest) 4 2 = w.q ∧ fieldBe (w.bytes ++ rest) 6 1 = w.ty
      ∧ fieldBe (w.bytes ++ rest) 8 2 = w.value.length ∧ fieldBe (w.bytes ++ rest) 10 2 = w.change := by
  obtain ⟨hidx, hsub, hflags, hq, hty, hchange, hlen⟩ := hw
  rw [bytes_append_eq]
  simpa [fieldBe_append_of_le, fieldBe_be_append] using And.intro hidx ⟨hsub, hflags, hq, hty, hlen, hchange⟩

/-- One item in front of a body is taken off as it is. -/
theorem parseItems_bytes_append {w : WireItem} (hw : w.fits) (n : Nat) (rest : List Byte) :
    parseItems (n + 1) (w.bytes ++ rest) = (parseItems n rest).map (w :: ·) := by
  obtain ⟨hidx, hsub, hflags, hq, hty, hlen, hchange⟩ := fieldBe_bytes hw rest
  have hroom : ¬((w.bytes ++ rest).length < 12 ∨ (w.bytes ++ rest).length < 12 + ceilDiv w.value.length 4 * 4) := by
    rw [List.length_append, length_bytes]
    omega
  have hdrop : (w.bytes ++ rest).drop (12 + ceilDiv w.value.length 4 * 4) = rest := List.drop_left' (length_bytes w)
  rw [parseItems]
  simp only [hidx, hsub, hflags, hq, hty, hlen, hchange, if_neg hroom, hdrop, slice_bytes_value]
  cases parseItems n rest <;> rfl

/-- Settles O45, by induction on the items. -/
theorem odpItemsRoundTrip : Obligations.OdpItemsRoundTrip := by
  intro l
  induction l with
  | nil => intro _; rfl
  | cons w l ih =>
    intro hfits
    rw [List.forall_mem_cons] at hfits
    rw [List.flatMap_cons, List.length_cons, parseItems_bytes_append hfits.1, ih hfits.2]
    rfl

end Sys2Proof.Proofs
end

section
/-!
SUPPORT. Time, reset and the status word of a CMD object (R25, R28, R30): O38, O39 and O49.
-/
namespace Sys2Proof.Proofs

open Sys2Proof Sys2Proof.Machine

/-- Settles O38: on an empty queue a step is `idle`, whose one condition is the power of the AON island. -/
theorem idleStep : Obligations.IdleStep := by
  intro s hempty
  have hstep : step s = .next (idle s) := by rw [step, hempty]
  constructor
  · intro hoff
    rw [hstep, idle, hoff]
    rfl
  · intro hon
    rw [hstep, idle, hon]
    rfl

/-- The objects' map is empty at reset. -/
theorem rd_reset (idx sub q : Nat) : rd State.reset idx sub q = objDefault idx sub q := rfl

/-- Settles O39: each object reads its default, that of the transition's state being 0. -/
theorem resetState : Obligations.ResetState := by
  have hstable : objDefault 0x1200 3 0 = 0 := by decide
  exact ⟨rfl, rfl, rfl, rfl, rfl, rfl, rfl, rd_reset, (rd_reset _ _ _).trans hstable, fun _ => rd_reset _ _ _, rd_reset _ _ _⟩

/-- The STATE field of a status word (Table 2-3). -/
theorem cmdWord_state (st reason seq : Nat) : cmdWord st reason seq / 2 ^ 24 = st := by
  unfold cmdWord
  omega

/-- The REASON field of a status word. -/
theorem cmdWord_reason (st reason seq : Nat) : cmdWord st reason seq / 2 ^ 16 % 256 = reason % 256 := by
  unfold cmdWord
  omega

/-- The ACTION_SEQ field of a status word. -/
theorem cmdWord_seq (st reason seq : Nat) : cmdWord st reason seq % 2 ^ 16 = seq % 2 ^ 16 := by
  unfold cmdWord
  omega

/-- Settles O49: both operations write one status word, whose fields are those of `cmdWord`. -/
theorem commandWordFields : Obligations.CommandWordFields := by
  intro s idx sub q st reason _ hreason
  refine ⟨?_, ?_, fun i j k hk => ⟨rd_wr_other s _ hk, rd_wr_other s _ hk⟩⟩
  · rw [cmdStart, rd_wr_same]
    exact ⟨cmdWord_state _ _ _, cmdWord_reason _ _ _, cmdWord_seq _ _ _⟩
  · rw [cmdEnd, rd_wr_same]
    exact ⟨cmdWord_state _ _ _, (cmdWord_reason _ _ _).trans (Nat.mod_eq_of_lt hreason), cmdWord_seq _ _ _⟩

end Sys2Proof.Proofs
end

section
/-!
SUPPORT. The checks of R431 on a write item, in one chain: O48.
-/
namespace Sys2Proof.Proofs

open Sys2Proof Sys2Proof.Machine

/-- Checks 1 to 4 on an object that the dictionary names. -/
theorem reachChecks_of_desc {it : Item} {d : ObjDesc} (hd : descOf it.idx it.sub = some d) (s : State) (r : Requester) (write : Bool) :
    reachChecks s r it write =
      if otherInstance r d.qual (itemQual r d it) = true ∨ foreignTable s r d.idx (itemQual r d it) = true then some .absent
      else if rangeRight r d write = false then some .denied
      else if qualOk d.qual (itemQual r d it) = false ∨ present s d (itemQual r d it) = false then some .absent
      else if meaningRight s r d (itemQual r d it) write (ofBe it.value) = false then some .denied
      else none := by
  rw [reachChecks.eq_def, hd]

/-- A check in front of others decides when its condition holds. -/
theorem ite_some_or {α : Type} (p : Prop) [Decidable p] (a : α) (o o' : Option α) :
    (if p then some a else o).or o' = if p then some a else o.or o' := by
  split <;> rfl

/-- Checks 1 to 11 on a write item whose object the dictionary names, as one chain. -/
theorem writeChecks_of_desc {it : Item} {d : ObjDesc} (hd : descOf it.idx it.sub = some d) (s : State) (r : Requester) :
    writeChecks s r it =
      if otherInstance r d.qual (itemQual r d it) = true ∨ foreignTable s r d.idx (itemQual r d it) = true then some .absent
      else if rangeRight r d true = false then some .denied
      else if qualOk d.qual (itemQual r d it) = false ∨ present s d (itemQual r d it) = false then some .absent
      else if meaningRight s r d (itemQual r d it) true (ofBe it.value) = false then some .denied
      else if d.ty = .table then some .type
      else if d.acc = .ro then some .readOnly
      else if typeOk d it.ty true = false ∨ lengthOk d it.value = false ∨ widthOk d it.ty it.value = false ∨ validOk d it.value = false then
        some .type
      else if rangeOk d it.value = false ∨ cmdRange d (itemQual r d it) it.value = false
          ∨ limitsRise s d (itemQual r d it) (ofBe it.value) = false then some .range
      else if it.cond.isSome = true ∧ it.cond ≠ some (changeOf s it.idx it.sub (canonQual it.idx (itemQual r d it))) then some .conflict
      else if modeLocked s it.idx it.sub (itemQual r d it) = true then some .busy
      else if d.acc = .rwq ∧ unitQuiesced s it.idx (itemQual r d it) = false then some .notQuiesced
      else if d.acc = .cmd ∧ cmdRunning s it.idx it.sub (itemQual r d it) = true then some .busy
      else none := by
  have hreach : ∀ o : Option Status, (match reachChecks s r it true with | some st => some st | none => o) = (reachChecks s r it true).or o := by
    intro o
    cases reachChecks s r it true <;> rfl
  rw [writeChecks.eq_def, hd]
  refine (hreach _).trans ?_
  simp only [reachChecks_of_desc hd, ite_some_or, Option.none_or]

/-- Settles O48: in the one chain of the checks, the conditions that a clause assumes away leave its own in front. -/
theorem checksTakeFirstStatus : Obligations.ChecksTakeFirstStatus := by
  rintro s r it d q hd rfl
  dsimp only
  rw [writeChecks_of_desc hd]
  refine ⟨?_, ?_, ?_, ?_, ?_, ?_, ?_, ?_, ?_, ?_, ?_, ?_, ?_⟩ <;> intros <;> simp [*]

end Sys2Proof.Proofs
end

section
/-!
SUPPORT. The commands that are the write of one object, or of a chunk of a table: O47.
-/
namespace Sys2Proof.Proofs

open Sys2Proof Sys2Proof.Machine

/-- A command of `rowOf` is the checked write of its object by some handler. -/
theorem exec_of_rowOf {c : Instr} {r : Requester} {idx sub q : Nat} {v : List Byte} (h : rowOf c = some (r, idx, sub, q, v)) (s : State) :
    ∃ f, exec c s = .next (rowWrite s r idx sub q v f) := by
  unfold rowOf at h
  split at h <;> cases h <;> exact ⟨_, rfl⟩

/-- A command of `chunkRowOf` is the checked chunk write of its object by some handler. -/
theorem exec_of_chunkRowOf {c : Instr} {r : Requester} {idx sub q : Nat} (h : chunkRowOf c = some (r, idx, sub, q)) (s : State) :
    ∃ f, exec c s = .next (rowChunk s r idx sub q f) := by
  unfold chunkRowOf at h
  split at h <;> cases h <;> exact ⟨_, rfl⟩

/-- Settles O47: every such command is a checked write, and a refused one only sends its answer. -/
theorem refusedWritesChangeNothing : Obligations.RefusedWritesChangeNothing := by
  intro c s r idx sub q v st
  constructor
  · intro hrow hcheck
    obtain ⟨f, hexec⟩ := exec_of_rowOf hrow s
    rw [hexec, rowWrite_refused hcheck]
    rfl
  · intro hrow hcheck
    obtain ⟨f, hexec⟩ := exec_of_chunkRowOf hrow s
    rw [hexec, rowChunk_refused hcheck]
    rfl

end Sys2Proof.Proofs
end

section
/-!
SUPPORT. ODP requests (R33 to R38): what HELLO, OPEN and the opcodes of a session in order come to, and O16.
-/
namespace Sys2Proof.Proofs

open Sys2Proof Sys2Proof.Machine

/-- HELLO is answered without a session. -/
theorem odpRequest_hello {s : State} {t : Transport} {n : OdpMsg} (ht : transportOpen s t = true) (hop : n.opcode = 0x01)
    (hform : formOk n (msgLimit t) 0 = true) : odpRequest s t n = sendOdp (hldWake s (transportWake t)) t (helloReply n) := by
  simp only [odpRequest, ht, odpArrives, hop, hform, if_true, Bool.true_eq_false, if_false]

/-- OPEN reaches `openSession`. -/
theorem odpRequest_open {s : State} {t : Transport} {n : OdpMsg} (ht : transportOpen s t = true) (hop : n.opcode = 0x02)
    (hform : formOk n (msgLimit t) 16 = true) : odpRequest s t n = openSession (hldWake s (transportWake t)) t n := by
  have hhello : ¬(0x02 : Byte) = 0x01 := by decide
  simp only [odpRequest, ht, odpArrives, hop, hform, hhello, if_true, Bool.true_eq_false, if_false]

/-- An OPEN that nothing refuses adds its session and answers with its nonce. -/
theorem openSession_granted {u : State} {t : Transport} {n : OdpMsg} {cred nonce key : List Byte} (hno : openRefusal u t n = none)
    (hcred : credential u (fieldBe n.body 0 1) = some cred) (hnonce : nonce = padTo (Config.nonceBytes (u.free + 1)) 32)
    (hkey : key = Config.hkdfSha384 cred (slice n.body 4 32 ++ nonce)) :
    openSession u t n = sendOdp (freeNext (freeNext { u with mgmt := { u.mgmt with sessions :=
      { id := freshSession u, transport := t, level := levelOf (fieldBe n.body 0 1), version := n.version.toNat, key := key, proved := false,
        high := 0, replies := [], sub := none, lastValid := secondsNow u } :: u.mgmt.sessions } }))
      t (tagged key (replyTo n n.version.toNat 0 (BitVec.ofNat 32 (freshSession u)) 0 nonce)) := by
  subst hnonce hkey
  simp only [openSession, hno, hcred, Option.getD_some]

/-- The items of a request. -/
def requestItems (n : OdpMsg) : List WireItem := (parseItems n.items.toNat n.body).getD []

/-- What the items of a request that reads are answered, one after another. -/
def readReplies (u : State) (r : Requester) (ver room : Nat) (n : OdpMsg) : List Byte :=
  (requestItems n).flatMap fun w =>
    replyItem u r ver w (readOne u r n.opcode.toNat room w).1 (readOne u r n.opcode.toNat room w).2

/-- A request that reads leaves the block as it is. -/
theorem serveItems_reads {u : State} {r : Requester} {ver room : Nat} {n : OdpMsg} (hop : ¬(n.opcode.toNat = 0x11 ∨ n.opcode.toNat = 0x13))
    (hfit : (readReplies u r ver room n).length ≤ room) :
    serveItems u r ver room n = (u, { status := 0, items := (requestItems n).length, body := readReplies u r ver room n }) := by
  simp only [serveItems, if_neg hop]
  exact if_neg (Nat.not_lt.2 hfit)

/-- A request that writes applies its items one after another. -/
theorem serveItems_writes {u : State} {r : Requester} {ver room : Nat} {n : OdpMsg} (hop : n.opcode.toNat = 0x11 ∨ n.opcode.toNat = 0x13)
    (hfit : 12 * (requestItems n).length ≤ room) :
    serveItems u r ver room n = ((writeItems r ver (n.opcode.toNat == 0x13) (requestItems n) u).1,
      { status := 0, items := (requestItems n).length, body := (writeItems r ver (n.opcode.toNat == 0x13) (requestItems n) u).2 }) := by
  simp only [serveItems, if_pos hop]
  exact if_neg (Nat.not_lt.2 hfit)

/-- CLOSE forgets its session. -/
theorem sessionOp_close {u : State} {x : Session} {n : OdpMsg} (hver : versionBad n x.version = false) (hop : n.opcode = 0x03) :
    sessionOp u x n = (dropSession u x.id, { status := 0, items := 0, body := [] }) := by
  rw [sessionOp, if_neg (by simp [hver]), if_pos hop]

/-- SUBSCRIBE sets the severity of its session. -/
theorem sessionOp_subscribe {u : State} {x : Session} {n : OdpMsg} (hver : versionBad n x.version = false) (hop : n.opcode = 0x30) :
    sessionOp u x n = (setSession u x.id fun y => { y with sub := subscribed (fieldBe n.body 0 1) },
      { status := 0, items := 0, body := [] }) := by
  rw [sessionOp, if_neg (by simp [hver]), if_neg (by simp [hop]), if_pos hop]

/-- KEEPALIVE does nothing of its own. -/
theorem sessionOp_keepalive {u : State} {x : Session} {n : OdpMsg} (hver : versionBad n x.version = false) (hop : n.opcode = 0x3F) :
    sessionOp u x n = (u, { status := 0, items := 0, body := [] }) := by
  rw [sessionOp, if_neg (by simp [hver]), if_neg (by simp [hop]), if_neg (by simp [hop]), if_pos hop]

/-- The other opcodes of a session are requests of items. -/
theorem sessionOp_items {u : State} {x : Session} {n : OdpMsg} (hver : versionBad n x.version = false)
    (hop : n.opcode ≠ 0x03 ∧ n.opcode ≠ 0x30 ∧ n.opcode ≠ 0x3F) :
    sessionOp u x n = serveItems u x.level x.version (msgLimit x.transport - 40) n := by
  obtain ⟨hclose, hsub, hkeep⟩ := hop
  rw [sessionOp, if_neg (by simp [hver]), if_neg hclose, if_neg hsub, if_neg hkeep]

/-- A request of a session in order names a version and an opcode of it, and comes over its transport. -/
theorem inOrder_session {s : State} {t : Transport} {x : Session} {n : OdpMsg} (h : inOrder s t x n) :
    versionBad n x.version = false ∧ x.transport = t := by
  obtain ⟨-, -, -, htransport, -, -, -, hver⟩ := h
  exact ⟨hver, htransport⟩

/-- A request of a session in order that is no request of items. -/
theorem odpRequest_session {s : State} {t : Transport} {x : Session} {n : OdpMsg} {u : State} {a : Answer} (h : inOrder s t x n)
    (hop : n.opcode ≠ 0x01 ∧ n.opcode ≠ 0x02) (hact : sessionOp (beforeOp s t x n) x n = (u, a)) : odpRequest s t n = afterOp u x n a := by
  rw [odpRequest_inOrder h hop, hact]

/-- A request of a session in order that reads items. -/
theorem odpRequest_reads {s : State} {t : Transport} {x : Session} {n : OdpMsg} (h : inOrder s t x n)
    (hop : n.opcode = 0x10 ∨ n.opcode = 0x12 ∨ n.opcode = 0x20)
    (hfit : (readReplies (beforeOp s t x n) x.level x.version (msgLimit t - 40) n).length ≤ msgLimit t - 40) :
    odpRequest s t n = afterOp (beforeOp s t x n) x n
      { status := 0, items := (requestItems n).length, body := readReplies (beforeOp s t x n) x.level x.version (msgLimit t - 40) n } := by
  obtain ⟨hver, rfl⟩ := inOrder_session h
  refine odpRequest_session h ?_ ((sessionOp_items hver ?_).trans (serveItems_reads ?_ hfit)) <;>
    rcases hop with hop | hop | hop <;> rw [hop] <;> decide

/-- A request of a session in order that writes items. -/
theorem odpRequest_writes {s : State} {t : Transport} {x : Session} {n : OdpMsg} (h : inOrder s t x n)
    (hop : n.opcode = 0x11 ∨ n.opcode = 0x13) (hfit : 12 * (requestItems n).length ≤ msgLimit t - 40) :
    odpRequest s t n = afterOp (writeItems x.level x.version (n.opcode.toNat == 0x13) (requestItems n) (beforeOp s t x n)).1 x n
      { status := 0, items := (requestItems n).length,
        body := (writeItems x.level x.version (n.opcode.toNat == 0x13) (requestItems n) (beforeOp s t x n)).2 } := by
  obtain ⟨hver, rfl⟩ := inOrder_session h
  refine odpRequest_session h ?_ ((sessionOp_items hver ?_).trans (serveItems_writes ?_ hfit)) <;>
    rcases hop with hop | hop <;> rw [hop] <;> decide

/-- Settles O16: each row carries a message of its opcode, which goes through `odpRequest`. -/
theorem odpRequestsComplete : Obligations.OdpRequestsComplete := by
  intro s
  refine ⟨?hello, ?opens, ?close, ?read, ?write, ?readChunk, ?writeChunk, ?describe, ?subscribe, ?keepalive⟩
  case hello =>
    rintro t m _ rfl ht hform
    exact congrArg Host.Outcome.next (odpRequest_hello ht rfl hform)
  case opens =>
    rintro t m _ _ cred nonce key rfl ht hform rfl hno hcred hnonce hkey
    exact congrArg Host.Outcome.next ((odpRequest_open ht rfl hform).trans (openSession_granted hno hcred hnonce hkey))
  case close =>
    rintro t m _ x rfl h
    exact congrArg Host.Outcome.next (odpRequest_session h (by simp) (sessionOp_close (inOrder_session h).1 rfl))
  case read =>
    rintro t m _ x rfl h hfit
    exact congrArg Host.Outcome.next (odpRequest_reads h (.inl rfl) hfit)
  case write =>
    rintro t m _ x rfl h hfit
    exact congrArg Host.Outcome.next (odpRequest_writes h (.inl rfl) hfit)
  case readChunk =>
    rintro t m _ x rfl h hfit
    exact congrArg Host.Outcome.next (odpRequest_reads h (.inr (.inl rfl)) hfit)
  case writeChunk =>
    rintro t m _ x rfl h hfit
    exact congrArg Host.Outcome.next (odpRequest_writes h (.inr rfl) hfit)
  case describe =>
    rintro t m _ x rfl h hfit
    exact congrArg Host.Outcome.next (odpRequest_reads h (.inr (.inr rfl)) hfit)
  case subscribe =>
    rintro t m _ x rfl h
    exact congrArg Host.Outcome.next (odpRequest_session h (by simp) (sessionOp_subscribe (inOrder_session h).1 rfl))
  case keepalive =>
    rintro t m _ x rfl h
    exact congrArg Host.Outcome.next (odpRequest_session h (by simp) (sessionOp_keepalive (inOrder_session h).1 rfl))

end Sys2Proof.Proofs
end

section
/-!
SUPPORT. The dictionary's own events (R28 to R44, R434): what each does when its conditions hold, and O17.
-/
namespace Sys2Proof.Proofs

open Sys2Proof Sys2Proof.Machine

/-- The dictionary begins to answer, with no request in the window. -/
theorem dictionaryReady_idle {s : State} (htest : s.pwr.testMode = false) (hstage : s.sec.stage = 2 ∨ s.sec.stage = 3)
    (hready : s.mgmt.ready = false) (hbusy : s.mgmt.odwBusy = false) :
    dictionaryReady s = { s with mgmt := { s.mgmt with ready := true } } := by
  have hstarts : ¬(s.pwr.testMode = true ∨ (s.sec.stage ≠ 2 ∧ s.sec.stage ≠ 3) ∨ s.mgmt.ready = true) := by
    rw [htest, hready]
    simp only [Bool.false_eq_true, false_or, or_false]
    omega
  rw [dictionaryReady, if_neg hstarts]
  exact if_neg (by simp [hbusy])

/-- GO on an idle window of a ready dictionary takes the request. -/
theorem windowGo_idle {s : State} (hopen : windowOpen s = true) (hon : s.mgmt.odwEnable = true) (hbusy : s.mgmt.odwBusy = false)
    (hready : s.mgmt.ready = true) : windowGo s = windowTaken { s with mgmt := { s.mgmt with odwBusy := true, odwReply := none } } := by
  rw [windowGo, if_neg (by simp [hopen, hon]), hbusy, hready]
  rfl

/-- GO while a request is processed is an overrun. -/
theorem windowGo_busy {s : State} (hopen : windowOpen s = true) (hon : s.mgmt.odwEnable = true) (hbusy : s.mgmt.odwBusy = true) :
    windowGo s = { s with mgmt := { s.mgmt with odwOverrun := true } } := by
  rw [windowGo, if_neg (by simp [hopen, hon]), hbusy]
  rfl

/-- A reply that stands ready ends the processing; without the interrupt nothing else leaves. -/
theorem windowDone_reply {s : State} {st : Nat} {b : List Byte} (hreply : s.mgmt.odwReply = some (st, b)) (hbusy : s.mgmt.odwBusy = true)
    (hirq : s.mgmt.odwIrqEn = false) :
    windowDone s = promisedReset { s with mgmt := { s.mgmt with
      odwBusy := false, odwDone := true, odwLast := st, odwRspLen := b.length, odwRsp := b, odwReply := none } } := by
  simp only [windowDone, hreply, hbusy, hirq, Bool.true_eq_false, Bool.false_eq_true, if_false]

/-- An MCTP control message on an open transport. -/
theorem mctpControl_open {s : State} (h : transportOpen s .mctp = true) (f : State → State) : mctpControl s f = f (hldWake s .mctp) := if_pos h

/-- A vendor command that is allowed on an open mailbox. -/
theorem vendorRun_allowed {s : State} {i op : Nat} (hopen : mailboxOpen s i = true) (hbit : vendorBit s i op = true) (f : State → State) :
    vendorRun s i op f = f s := by
  rw [vendorRun, mailboxRun, if_pos hopen, if_pos hbit]

/-- An actual view takes a code that its object allows at a unit that exists. -/
theorem exec_actualViewChange {s : State} {u : ViewUnit} {v : Byte} {n : Nat} (hmax : actualMax u.idx.toNat = some n) (hv : v.toNat ≤ n)
    (hunit : viewExists s u.idx.toNat u.q.toNat = true) :
    exec (.actualViewChange u v) s = .next (settleViews (wr s u.idx.toNat 2 u.q.toNat v.toNat)) := by
  show execActualViewChange u v s = _
  rw [execActualViewChange, hmax]
  exact congrArg Host.Outcome.next (if_pos ⟨hv, hunit⟩)

/-- A skew of a stateful object that is not yet latched raises STATE_SKEW. -/
theorem exec_stateSkew {s : State} {u : ViewUnit} (hstateful : statefulObjs.contains u.idx.toNat = true)
    (hunit : viewExists s u.idx.toNat u.q.toNat = true) (hnew : has s.mgmt.skewed (okey u.idx.toNat 1 u.q.toNat) = false)
    (hskew : viewsAgree s u.idx.toNat u.q.toNat = false) :
    exec (.stateSkew u) s = .next (raiseEv
      { s with mgmt := { s.mgmt with skewed := put s.mgmt.skewed (okey u.idx.toNat 1 u.q.toNat) true } }
      (viewSource u.idx.toNat u.q.toNat) 0 .notice 0
      [keyAddress (okey u.idx.toNat 1 u.q.toNat), rd s u.idx.toNat 1 u.q.toNat, rd s u.idx.toNat 2 u.q.toNat] true) := by
  show execStateSkew u s = _
  simp only [execStateSkew, hstateful, hunit, hnew, hskew, Bool.true_eq_false, Bool.false_eq_true, or_false, if_false]

/-- Settles O17: each row through the fact of its own operation. -/
theorem dictionaryCommandsComplete : Obligations.DictionaryCommandsComplete := by
  intro s
  refine ⟨fun _ => rfl, ?ready, ?object, ?chunk, ?window, ?view, ?skew, ?go, ?overrun, ?done, ?clear, ?discovery, ?eid, ?version, ?tenant⟩
  case ready =>
    intro htest hstage hready hbusy
    exact congrArg Host.Outcome.next (dictionaryReady_idle htest hstage hready hbusy)
  case object =>
    intro w idx q sub u hplace hwrite
    show execObjectWrite w s = _
    simp only [execObjectWrite, hplace, hwrite]
  case chunk =>
    intro w idx q sub start u hplace hwrite
    show execObjectWrite w s = _
    simp only [execObjectWrite, hplace, chunkOf, hwrite]
  case window =>
    intro w off hplace
    show execObjectWrite w s = _
    simp only [execObjectWrite, hplace]
  case view =>
    intro u v n hmax hv hunit
    exact exec_actualViewChange hmax hv hunit
  case skew =>
    intro u hstateful hunit hnew hskew
    exact exec_stateSkew hstateful hunit hnew hskew
  case go =>
    intro hopen hon hbusy hready
    exact congrArg Host.Outcome.next (windowGo_idle hopen hon hbusy hready)
  case overrun =>
    intro hopen hon hbusy
    exact congrArg Host.Outcome.next (windowGo_busy hopen hon hbusy)
  case done =>
    intro st b hreply hbusy hirq
    exact congrArg Host.Outcome.next (windowDone_reply hreply hbusy hirq)
  case clear =>
    intro mask o hopen
    show execOdwStatusClear mask false o s = _
    simp only [execOdwStatusClear, hopen, Bool.true_eq_false, Bool.false_eq_true, if_false]
  case discovery =>
    intro hopen
    exact congrArg Host.Outcome.next (mctpControl_open hopen _)
  case eid =>
    intro eid hopen hzero hall
    refine congrArg Host.Outcome.next ((mctpControl_open hopen _).trans (if_neg ?_))
    rintro (h | h)
    · exact hzero h
    · exact hall h
  case version =>
    intro k hopen
    exact congrArg Host.Outcome.next (mctpControl_open hopen _)
  case tenant =>
    intro i v u n b hopen hbit hready hplain
    refine congrArg Host.Outcome.next ((vendorRun_allowed hopen hbit _).trans ?_)
    simp only [hready, hplain, Bool.true_eq_false, if_false]

end Sys2Proof.Proofs
end

section
/-!
SUPPORT. The FM API (R40, R98, R145, R146, R148): what a command's parts answer when they succeed, and O26.
-/
namespace Sys2Proof.Proofs

open Sys2Proof Sys2Proof.Machine

/-- A command on an open path acts on the state that its transport has woken. -/
theorem next_fmRun {s x u : State} {via : FmPath} {f : State → State} (hopen : fmOpen s via = true)
    (hx : x = if via = .mctp then hldWake s .mctp else s) (hf : f x = u) :
    (Host.Outcome.next (fmRun s via f) : Host.Outcome State Fault Refusal) = .next u := by
  rw [fmRun, if_pos hopen, ← hx, hf]

/-- A part that ends in OK is answered Success. -/
theorem fmReply_of_ok {y : State × Status} {u : State} (h : y = (u, .ok)) (via : FmPath) (b : List Byte) :
    fmReply y.1 via (fmCode y.2) b = fmReply u via 0 b := by
  rw [h]
  rfl

/-- A forwarded command whose port reads OK is carried out. -/
theorem fmForward_ok {x : State} {idx sub q : Nat} (h : (readItem x .manager (fmItem idx sub q)).1 = .ok) (via : FmPath) (f : State → State)
    (b : List Byte) : fmForward x via idx sub q f b = fmReply (f x) via 0 b := if_pos h

/-- A read of a bridge's configuration. -/
theorem ppbRequest_read {x : State} {p : Nat} {q : CfgReq} (hport : (readItem x .manager (fmItem 0x2000 1 p)).1 = .ok) (hq : q.write = none)
    (via : FmPath) : ppbRequest x via p q = fmReply x via 0 (le 4 (mergeDword 0 (ppbRead x p q.reg.toNat) q.be.toNat)) := by
  rw [ppbRequest, if_neg (not_not_intro hport), hq]

/-- A write of a bridge's configuration. -/
theorem ppbRequest_write {x : State} {p : Nat} {q : CfgReq} {w : BitVec 32} (hport : (readItem x .manager (fmItem 0x2000 1 p)).1 = .ok)
    (hq : q.write = some w) (via : FmPath) :
    ppbRequest x via p q = fmReply (ppbWrite x p q.reg.toNat (mergeDword (ppbRead x p q.reg.toNat) w.toNat q.be.toNat)) via 0 [] := by
  rw [ppbRequest, if_neg (not_not_intro hport), hq]

/-- A register of a bridge outside its capability structures is stored as written. -/
theorem ppbWrite_plain {x : State} {p reg : Nat} (hcap : capAt (reg / 4 % 1024) = none) (v : Nat) :
    ppbWrite x p reg v = { x with ppb := put x.ppb (1024 * p + reg / 4 % 1024) v } := by
  simp only [ppbWrite, hcap]

/-- Set QoS Control stores the other fields when both limits are taken. -/
theorem qosControl_ok {x u : State} {p : Nat} {a b : Byte} (h : fmWrites x (if a.toNat < rd x 0x2300 3 p
      then [(0x2300, 2, p, [a]), (0x2300, 3, p, [b])] else [(0x2300, 3, p, [b]), (0x2300, 2, p, [a])]) = (u, .ok)) (rest : List Byte) :
    qosControl x p a b rest = (fmStore u (ctlKey p) rest, .ok) := by
  simp only [qosControl, h, if_true]

/-- The fractions of an LD that is presented read as stored. -/
theorem ldFraction_presented {x : State} {p n i : Nat} (h : ldInst x p n = some i) (via : FmPath) (key : Nat) :
    ldFraction x via p n key = fmReply x via 0 [(fmStored x key).headD 0] := by
  rw [ldFraction, h]

/-- A command that wrote CMD objects and succeeded says whether an action still runs. -/
theorem fmCmdCode_ok (u : State) (cmds : List (Nat × Nat × Nat)) :
    fmCmdCode u .ok cmds = if cmds.any (fun e => cmdRunning u e.1 e.2.1 e.2.2) = true then 1 else 0 := by
  have hok : fmCode .ok = 0 := rfl
  simp only [fmCmdCode, hok, true_and]

/-- Grants that are all taken. -/
theorem capacityAdd_ok {x u : State} {qs : List (List Byte)} (hne : qs ≠ []) (h : fmWrites x (qs.map fun v => (0x4110, 1, 0, v)) = (u, .ok))
    (via : FmPath) : capacityAdd x via qs = fmReply u via (if cmdRunning u 0x4110 1 0 = true then 1 else 0) [] := by
  simp only [capacityAdd, if_neg hne, h, fmCmdCode_ok, List.any_cons, List.any_nil, Bool.or_false]

/-- Releases that are all taken. -/
theorem capacityRelease_ok {x u : State} {es : List Nat} {k : Bool} (hne : es ≠ [])
    (h : fmWrites x (es.map fun e => (0x4100 + e / 65536, 3, e % 65536, be 4 (b2n k))) = (u, .ok)) (via : FmPath) :
    capacityRelease x via es k =
      fmReply u via (if es.any (fun e => cmdRunning u (0x4100 + e / 65536) 3 (e % 65536)) = true then 1 else 0) [] := by
  simp only [capacityRelease, if_neg hne, h, fmCmdCode_ok, List.any_map]
  rfl

/-- Settles O26: on an open path each command is its part of the service, which succeeds. -/
theorem fmApiCommandsComplete : Obligations.FmApiCommandsComplete := by
  intro s
  refine ⟨?identify, ?portState, ?portControl, ?ppbRead, ?ppbWrite, ?ppbPlain, ?vcsInfo, ?bind, ?unbind, ?aer, ?tunnel, ?ldConfig, ?ldMemory,
    ?ldInfo, ?getAlloc, ?setAlloc, ?getQos, ?setQos, ?qosStatus, ?getBw, ?setBw, ?getLimit, ?setLimit, ?dcdInfo, ?getDc, ?setDc, ?extents,
    ?add, ?release, ?unsupported⟩
  case identify => exact fun via x hopen hx => next_fmRun hopen hx rfl
  case portState => exact fun via x ps hopen hx => next_fmRun hopen hx rfl
  case portControl => exact fun via x p op u hopen hx h => next_fmRun hopen hx (fmReply_of_ok h via [])
  case ppbRead => exact fun via x p q hopen hx hport hq => next_fmRun hopen hx (ppbRequest_read hport hq via)
  case ppbWrite => exact fun via x p q w hopen hx hport hq => next_fmRun hopen hx (ppbRequest_write hport hq via)
  case ppbPlain =>
    intro via x p q w hopen hx hport hq hcap
    exact next_fmRun hopen hx ((ppbRequest_write hport hq via).trans (by rw [ppbWrite_plain hcap]))
  case vcsInfo => exact fun via x p hopen hx => next_fmRun hopen hx rfl
  case bind => exact fun via x p v d l u hopen hx h => next_fmRun hopen hx (fmReply_of_ok h via [])
  case unbind => exact fun via x p v u hopen hx h => next_fmRun hopen hx (fmReply_of_ok h via [])
  case aer => exact fun via x p v e hopen hx h => next_fmRun hopen hx (fmForward_ok h via _ _)
  case tunnel => exact fun via x p b hopen hx h => next_fmRun hopen hx (fmForward_ok h via _ _)
  case ldConfig => exact fun via x p l q hopen hx h => next_fmRun hopen hx (fmForward_ok h via _ _)
  case ldMemory => exact fun via x p l q hopen hx h => next_fmRun hopen hx (fmForward_ok h via _ _)
  case ldInfo => exact fun via x hopen hx => next_fmRun hopen hx rfl
  case getAlloc => exact fun via x p hopen hx h => next_fmRun hopen hx (fmForward_ok h via _ _)
  case setAlloc =>
    intro via x p l b i hopen hx h
    refine next_fmRun hopen hx ?_
    simp only [h]
  case getQos => exact fun via x p hopen hx h => next_fmRun hopen hx (fmForward_ok h via _ _)
  case setQos =>
    intro via x p a b rest u hopen hx h
    refine next_fmRun hopen hx ?_
    simp only [qosControl_ok h]
    rfl
  case qosStatus => exact fun via x p hopen hx h => next_fmRun hopen hx (fmForward_ok h via _ _)
  case getBw => exact fun via x p l i hopen hx h => next_fmRun hopen hx (ldFraction_presented h via _)
  case setBw => exact fun via x p l k u hopen hx h => next_fmRun hopen hx (fmReply_of_ok h via _)
  case getLimit => exact fun via x p l i hopen hx h => next_fmRun hopen hx (ldFraction_presented h via _)
  case setLimit => exact fun via x p l k u hopen hx h => next_fmRun hopen hx (fmReply_of_ok h via _)
  case dcdInfo => exact fun via x hopen hx => next_fmRun hopen hx rfl
  case getDc => exact fun via x i hopen hx => next_fmRun hopen hx rfl
  case setDc => exact fun via x i g b u hopen hx h => next_fmRun hopen hx (fmReply_of_ok h via [])
  case extents => exact fun via x i hopen hx h => next_fmRun hopen hx (fmForward_ok h via _ _)
  case add => exact fun via x qs u hopen hx hne h => next_fmRun hopen hx (capacityAdd_ok hne h via)
  case release =>
    intro via x es k u hopen hx hne h
    refine next_fmRun hopen hx ((capacityRelease_ok (by simpa using hne) (by rw [List.map_map]; exact h) via).trans ?_)
    rw [List.any_map]
    rfl
  case unsupported => exact fun via op hopen hop => congrArg Host.Outcome.next (if_pos ⟨hopen, hop⟩)

end Sys2Proof.Proofs
end

section
/-!
SUPPORT. The dictionary in RECOVERY (R46): what lies outside the ranges that are present, and O59.
-/
namespace Sys2Proof.Proofs

open Sys2Proof Sys2Proof.Machine

/-- A row is found under its own index. -/
theorem idx_of_descOf {idx sub : Nat} {d : ObjDesc} (h : descOf idx sub = some d) : d.idx = idx := by
  have hkey := List.find?_some h
  simp only [Bool.and_eq_true, beq_iff_eq] at hkey
  exact hkey.1

/-- The dictionary defines no object from 0xD200 to 0xDFFF. -/
theorem descOf_eq_none_of_gap {idx : Nat} (hlo : 0xD200 ≤ idx) (hhi : idx < 0xE000) (sub : Nat) : descOf idx sub = none := by
  have hrows : ∀ d ∈ objRows, d.idx < 0xD200 ∨ 0xE000 ≤ d.idx := by decide +kernel
  rw [descOf, List.find?_eq_none]
  intro d hd hkey
  simp only [Bool.and_eq_true, beq_iff_eq] at hkey
  have := hrows d hd
  omega

/-- No object outside the eight ranges of R46 stands in what RECOVERY keeps: `recoveryRange` takes in beyond them only the gap without
objects. -/
theorem recoveryRange_eq_false {idx sub : Nat} {d : ObjDesc} (hd : descOf idx sub = some d)
    (hout : ([0x1000, 0x1100, 0x1200, 0xC000, 0xC100, 0xD000, 0xD100, 0xE000].all fun a => decide (idx < a) || decide (a + 0x100 ≤ idx)) = true) :
    recoveryRange d.idx = false := by
  have hgap : ¬(0xD200 ≤ idx ∧ idx < 0xE000) := by
    rintro ⟨hlo, hhi⟩
    rw [descOf_eq_none_of_gap hlo hhi] at hd
    cases hd
  simp only [List.all_cons, List.all_nil, Bool.and_eq_true, Bool.or_eq_true, decide_eq_true_eq, and_true] at hout
  simp only [idx_of_descOf hd, recoveryRange, Bool.or_eq_false_iff, decide_eq_false_iff_not]
  omega

/-- What RECOVERY does not keep is not present in it. -/
theorem present_eq_false_of_recovery {s : State} {d : ObjDesc} (hmode : modeNow s = 6) (hout : recoveryRange d.idx = false) (q : Nat) :
    present s d q = false := by
  simp only [present, hmode, hout, bne_self_eq_false, Bool.or_false, Bool.false_and]

/-- An object that is not present answers ABSENT to a level with the right over its range. -/
theorem reachChecks_absent {s : State} {r : Requester} {it : Item} {d : ObjDesc} {w : Bool} (hd : descOf it.idx it.sub = some d)
    (hright : rangeRight r d w = true) (hpresent : present s d (itemQual r d it) = false) : reachChecks s r it w = some .absent := by
  rw [reachChecks_of_desc hd, hright, hpresent]
  simp

/-- What the dictionary does not define answers ABSENT at Vendor privilege. -/
theorem reachChecks_vendor_undefined {it : Item} (hd : descOf it.idx it.sub = none) (s : State) (w : Bool) :
    reachChecks s .vendor it w = some .absent := by
  rw [reachChecks.eq_def, hd]
  simp

/-- A write that fails checks 1 to 4 changes nothing. -/
theorem writeItem_of_reachChecks {s : State} {r : Requester} {it : Item} {st : Status} (h : reachChecks s r it true = some st) :
    writeItem s r it = (s, st) := by
  have hchecks : writeChecks s r it = some st := by rw [writeChecks.eq_def, h]
  rw [writeItem.eq_def, hchecks]

/-- A read that fails checks 1 to 4 gives no value. -/
theorem readItem_of_reachChecks {s : State} {r : Requester} {it : Item} {st : Status} (h : reachChecks s r it false = some st) :
    readItem s r it = (st, []) := by
  have hchecks : readChecks s r it = some st := by rw [readChecks.eq_def, h]
  rw [readItem.eq_def, hchecks]

/-- Settles O59: an object that the dictionary defines outside the ranges is not present, and check 3 answers it; the same answer comes
where no object is defined. -/
theorem recoveryHidesObjects : Obligations.RecoveryHidesObjects := by
  intro s it w hmode hout _
  have hhidden : ∀ r d w, descOf it.idx it.sub = some d → rangeRight r d w = true → reachChecks s r it w = some .absent := fun r d w hd hright =>
    reachChecks_absent hd hright (present_eq_false_of_recovery hmode (recoveryRange_eq_false hd hout) _)
  have hvendor : ∀ w, reachChecks s .vendor it w = some .absent := by
    intro w
    cases hd : descOf it.idx it.sub with
    | none => exact reachChecks_vendor_undefined hd s w
    | some d => exact hhidden .vendor d w hd rfl
  exact ⟨hvendor w, fun r d hd hright => hhidden r d w hd hright, writeItem_of_reachChecks (hvendor true),
    readItem_of_reachChecks (hvendor false)⟩

end Sys2Proof.Proofs
end

section
/-!
SUPPORT. Mode transitions (R49 to R52): how each phase goes when its conditions hold, and O14.
-/
namespace Sys2Proof.Proofs

open Sys2Proof Sys2Proof.Machine

/-- A write that passes its checks is answered with what its handler gives. -/
theorem next_rowWrite {s u : State} {r : Requester} {i b q : Nat} {v : List Byte} {st : Status} {f : State → State × Status}
    (h : accepted s r i b q v) (hf : f s = (u, st)) :
    (Host.Outcome.next (rowWrite s r i b q v f) : Host.Outcome State Fault Refusal) = .next (answered u i b q st) := by
  rw [rowWrite_accepted h, hf]

/-- A target mode that nothing refuses starts its transition. -/
theorem targetModeWrite_starts {s : State} {v : Nat} (hstable : rd s 0x1200 3 0 = 0) (hnew : v ≠ modeNow s)
    (hallowed : allowedMode (modeNow s) v = true) (hoverlay : hasOverlay s v = true) (hfree : modeBlocked s v = 0) :
    targetModeWrite s v = (startTransition s v, .ok) := by
  simp only [targetModeWrite, hstable, hnew, hallowed, hoverlay, hfree, ne_eq, not_true_eq_false, Bool.true_eq_false, if_false]

/-- Patches that are all taken let the transition resume. -/
theorem applyMode_patched {s u : State}
    (h : patchAll (runningCfg s (modeNow s)) (runningCfg s s.mode.target) s.mode.touched (wr s 0x1200 3 0 2) = (u, none)) :
    applyMode s = resumeMode s u := by
  simp only [applyMode, h]

/-- The state in which the drain applies the overlay: dirty lines are in memory and the directory is empty. -/
def drained (s : State) : State :=
  { (List.range 4).foldl flushTile s with coh := { ((List.range 4).foldl flushTile s).coh with lines := [] } }

/-- A drain with no request and no holder left, whose patches are all taken, enters SERVICE. -/
theorem drainEnds_patched {s u : State} (hdone : requestsDone s = true) (hheld : (s.coh.lines.any fun e => wayUsed (lineHome s e.1) e.2) = false)
    (h : patchAll (runningCfg s (modeNow s)) (runningCfg s 5) s.mode.touched (wr (drained s) 0x1200 3 0 2) = (u, none)) :
    drainEnds s = finishMode (leaveCascade u) := by
  unfold drained at h
  simp only [drainEnds, hdone, hheld, h, Bool.true_eq_false, Bool.false_eq_true, if_false]

/-- Settles O14: each command's condition holds, and its phase goes as the fact of that phase says. -/
theorem modeTransitionsComplete : Obligations.ModeTransitionsComplete := by
  intro s
  refine ⟨?target, ?quiesced, ?quiesceTimeout, ?drain, ?drainTimeout, ?roles⟩
  case target =>
    intro r v haccepted hstable hnew hallowed hoverlay hfree
    exact next_rowWrite haccepted (targetModeWrite_starts hstable hnew hallowed hoverlay hfree)
  case quiesced =>
    intro u hphase htarget hpatched
    exact congrArg Host.Outcome.next ((if_pos ⟨hphase, htarget⟩).trans (applyMode_patched hpatched))
  case quiesceTimeout =>
    intro hphase htarget
    exact congrArg Host.Outcome.next (if_pos ⟨hphase, htarget⟩)
  case drain =>
    intro u hphase htarget hdone hheld hpatched
    exact congrArg Host.Outcome.next ((if_pos ⟨hphase, htarget⟩).trans (drainEnds_patched hdone hheld hpatched))
  case drainTimeout =>
    intro hphase htarget
    exact congrArg Host.Outcome.next (if_pos ⟨hphase, htarget⟩)
  case roles =>
    intro hphase
    exact congrArg Host.Outcome.next (if_pos hphase)

end Sys2Proof.Proofs
end

section
/-!
SUPPORT. Configuration images (R55 to R58): what each of their commands comes to, and O15.
-/
namespace Sys2Proof.Proofs

open Sys2Proof Sys2Proof.Machine

/-- What Install leaves: a failed check, an image that is not newer, or an installation under way. -/
theorem installWrite_eq (s : State) : installWrite s =
    (if imageCheck s s.mode.staging ≠ 0 then
      cmdDone (raise (wr s 0x1210 3 0 (imageCheck s s.mode.staging)) 0x1200 12 .notice []) 0x1211 2 0 (imageCheck s s.mode.staging)
    else if imgSerial s.mode.staging ≤ rd s 0x1210 2 0 then cmdDone (wr s 0x1210 3 0 0) 0x1211 2 0 0x3A
    else { cmdStart (wr s 0x1210 3 0 0) 0x1211 2 0 with
      mode := { s.mode with installing := some (s.mode.staging.take (imgLen s.mode.staging)) } }, .ok) := by
  rw [installWrite]
  by_cases hcheck : imageCheck s s.mode.staging = 0
  · rw [hcheck, if_neg (not_not_intro rfl), if_neg (not_not_intro rfl)]
    split <;> rfl
  · rw [if_pos hcheck, if_pos hcheck]

/-- An installation that ends well puts the image into the slot that is not active, with an empty delta area. -/
theorem installEnd_ok {s : State} {v : List Byte} (h : s.mode.installing = some v) :
    installEnd s 0 = cmdEnd (setCfgSlot { s with mode := { s.mode with installing := none } } (otherSlot s) { image := v, delta := [] })
      0x1211 2 0 2 0 := by
  simp only [installEnd, h, if_true]

/-- An installation that fails leaves both slots. -/
theorem installEnd_failed {s : State} {v : List Byte} {err : Nat} (h : s.mode.installing = some v) (herr : err ≠ 0) :
    installEnd s err = cmdEnd { s with mode := { s.mode with installing := none } } 0x1211 2 0 3 err := by
  simp only [installEnd, h, herr, if_false]

/-- Activate starts in SERVICE, with no transition under way. -/
theorem cfgActivateWrite_starts {s : State} (hmode : modeNow s = 5) (hstable : rd s 0x1200 3 0 = 0) :
    cfgActivateWrite s = (cmdStart s 0x1212 1 0, .ok) := by
  simp only [cfgActivateWrite, hmode, hstable, ne_eq, not_true_eq_false, or_false, if_false]

/-- Commit writes the records that differ into the delta area of the active slot, where they fit. -/
theorem commitWrite_fits {s : State} (hslot : rd s 0x1210 1 0 ≠ 2) (hfit : ((deltaPatches s).flatMap Patch.bytes).length ≤ 262080) :
    commitWrite s = (setCfgSlot (cmdStart s 0x1213 1 0) (rd s 0x1210 1 0) { cfgSlot s (rd s 0x1210 1 0) with
      delta := (deltaArea (slotSerial s (rd s 0x1210 1 0)) ((deltaPatches s).flatMap Patch.bytes)).take
        (16 + ((deltaPatches s).flatMap Patch.bytes).length) }, .ok) := by
  simp only [commitWrite, hslot, Nat.not_lt.2 hfit, if_false]

/-- Clear starts the erase of the active slot's delta area. -/
theorem clearDeltaWrite_starts {s : State} (hslot : rd s 0x1210 1 0 ≠ 2) : clearDeltaWrite s = (cmdStart s 0x1213 2 0, .ok) := by
  simp only [clearDeltaWrite, hslot, if_false]

/-- Settles O15: the image commands are checked writes, whose handlers go as their facts say; the window's are what `compatItem` and
`compatClear` do while it is open. -/
theorem imageCommandsComplete : Obligations.ImageCommandsComplete := by
  intro s
  refine ⟨?install, ?installed, ?installFailed, ?activate, ?commit, ?clear, ?compatWrite, ?compatClear⟩
  case install => exact fun r haccepted => next_rowWrite haccepted (installWrite_eq s)
  case installed => exact fun v h => congrArg Host.Outcome.next (installEnd_ok h)
  case installFailed =>
    intro err v h herr
    have hcode : err.toNat ≠ 0 := fun h0 => herr (BitVec.eq_of_toNat_eq h0)
    exact congrArg Host.Outcome.next (installEnd_failed h hcode)
  case activate => exact fun r haccepted hmode hstable => next_rowWrite haccepted (cfgActivateWrite_starts hmode hstable)
  case commit => exact fun r haccepted hslot hfit => next_rowWrite haccepted (commitWrite_fits hslot hfit)
  case clear => exact fun r haccepted hslot => next_rowWrite haccepted (clearDeltaWrite_starts hslot)
  case compatWrite => exact fun off v hopen => congrArg Host.Outcome.next (if_pos hopen)
  case compatClear => exact fun mask f hopen => congrArg Host.Outcome.next (if_pos hopen)

end Sys2Proof.Proofs
end

section
/-!
SUPPORT. What ports and lanes read after an update, and what the tests and the power states of a lane change (R67, R78, R81).
-/
namespace Sys2Proof.Proofs

open Sys2Proof Sys2Proof.Machine

/-! Ports, lanes and objects. -/

@[simp] theorem rd_setPort (s : State) (p : Nat) (v : PortSt) (i b q : Nat) : rd (setPort s p v) i b q = rd s i b q := rfl
@[simp] theorem rd_setLane (s : State) (l : Nat) (v : LaneSt) (i b q : Nat) : rd (setLane s l v) i b q = rd s i b q := rfl
@[simp] theorem getPort_setPort_same (s : State) (p : Nat) (v : PortSt) : getPort (setPort s p v) p = v := look_put_same _ _ _ _
@[simp] theorem getLane_setLane_same (s : State) (l : Nat) (v : LaneSt) : getLane (setLane s l v) l = v := look_put_same _ _ _ _

/-- A port's registers depend on the ports alone. -/
theorem getPort_congr {s t : State} (h : t.ports = s.ports) (p : Nat) : getPort t p = getPort s p := by rw [getPort, getPort, h]

/-- A write reaches no other object of the same qualifier. -/
theorem rd_wr_row (s : State) {i b i' b' : Nat} (q v : Nat) (h : i' * 256 + b' ≠ i * 256 + b) : rd (wr s i b q v) i' b' q = rd s i' b' q := by
  refine rd_wr_other s v fun hkey => h ?_
  exact Nat.eq_of_mul_eq_mul_right (by decide) (Nat.add_right_cancel hkey)

theorem rd_bump_row (s : State) {i b i' b' : Nat} (q w n : Nat) (h : i' * 256 + b' ≠ i * 256 + b) :
    rd (bump s i b q w n) i' b' q = rd s i' b' q := rd_wr_row s q _ h

@[simp] theorem rd_bump_same (s : State) (i b q w n : Nat) : rd (bump s i b q w n) i b q = (rd s i b q + n) % 2 ^ w := rd_wr_same _ _ _ _ _

/-! The checker of a lane. -/

theorem rd_countBits_bits (s : State) (l bits errs : Nat) : rd (countBits s l bits errs) 0x2110 6 l = sat64 (rd s 0x2110 6 l) bits := by
  rw [countBits, rd_wr_row _ _ _ (by decide), rd_wr_same]

theorem rd_countBits_errs (s : State) (l bits errs : Nat) : rd (countBits s l bits errs) 0x2110 7 l = sat64 (rd s 0x2110 7 l) errs := by
  rw [countBits, rd_wr_same, rd_wr_row _ _ _ (by decide)]

/-- Counting reaches the two counters alone. -/
theorem rd_countBits_other (s : State) (l bits errs : Nat) {b : Nat} (h6 : b ≠ 6) (h7 : b ≠ 7) :
    rd (countBits s l bits errs) 0x2110 b l = rd s 0x2110 b l := by
  rw [countBits, rd_wr_row _ _ _ (by omega), rd_wr_row _ _ _ (by omega)]

/-- A checker that ends leaves all but objects, lanes and free values. -/
theorem checkerEnds_eq (s : State) (l : Nat) :
    ∃ x y z, checkerEnds s l = { s with obj := x, lanes := y, free := z } := by
  unfold checkerEnds
  split <;> exact ⟨_, _, _, rfl⟩

theorem inSync_checkerEnds (s : State) (l : Nat) : (getLane (checkerEnds s l) l).inSync = false := by
  rw [checkerEnds, getLane_setLane_same]

theorem rd_checkerEnds_other (s : State) (l : Nat) {b : Nat} (h6 : b ≠ 6) (h7 : b ≠ 7) :
    rd (checkerEnds s l) 0x2110 b l = rd s 0x2110 b l := by
  rw [checkerEnds, rd_setLane]
  split
  · rw [rd_countBits_other _ _ _ _ h6 h7, rd_freeNext, rd_freeNext]
  · rfl

/-- A test that stops leaves every port. -/
@[simp] theorem stopTest_ports (s : State) (l reason : Nat) : (stopTest s l reason).ports = s.ports := by
  unfold stopTest
  split
  · rfl
  · obtain ⟨x, y, z, h⟩ := checkerEnds_eq (wr (wr (wr s 0x2110 1 l 0) 0x2110 2 l 0) 0x2110 11 l reason) l
    rw [h]
    rfl

@[simp] theorem getPort_stopTest (s : State) (l reason p : Nat) : getPort (stopTest s l reason) p = getPort s p :=
  getPort_congr (stopTest_ports s l reason) p

/-! The power states of a lane's directions. -/

/-- A direction goes to a power state, and a wake is counted with it or not. -/
theorem setDir_cases (s : State) (idx l v : Nat) :
    ∃ w, setDir s idx l v = wr (bump s idx 3 l 32 1) idx 2 l w ∨ setDir s idx l v = wr s idx 2 l w := by
  refine ⟨if rd s idx 1 l = 2 then 2 else v, ?_⟩
  by_cases hwake : (if rd s idx 1 l = 2 then 2 else v) = 0 ∧ rd s idx 2 l ≠ 0
  · exact .inl (by rw [setDir, if_pos hwake])
  · exact .inr (by rw [setDir, if_neg hwake])

theorem setDir_eq (s : State) (idx l v : Nat) : ∃ x, setDir s idx l v = { s with obj := x } := by
  obtain ⟨w, h | h⟩ := setDir_cases s idx l v <;> exact ⟨_, h⟩

/-- No object below those of the direction changes. -/
theorem rd_setDir_below (s : State) (l v : Nat) {idx i b q : Nat} (h : okey i b q < okey idx 2 0) :
    rd (setDir s idx l v) i b q = rd s i b q := by
  have hstate : okey i b q ≠ okey idx 2 l := by unfold okey at h ⊢; omega
  have hwakes : okey i b q ≠ okey idx 3 l := by unfold okey at h ⊢; omega
  obtain ⟨w, hdir | hdir⟩ := setDir_cases s idx l v
  · rw [hdir, rd_wr_other _ _ hstate, bump, rd_wr_other _ _ hwakes]
  · rw [hdir, rd_wr_other _ _ hstate]

/-- A width of a port is in objects of its lanes. -/
theorem setWidth_eq (s : State) (p idx w : Nat) : ∃ x, setWidth s p idx w = { s with obj := x } := by
  refine List.foldlRecOn (motive := fun a : State => ∃ x, a = { s with obj := x }) _ _ ⟨s.obj, rfl⟩ ?_
  rintro a ⟨x, rfl⟩ l -
  exact setDir_eq _ _ _ _

/-- A width changes no object below those of its direction. -/
theorem rd_setWidth_below (s : State) (p w : Nat) {idx i b q : Nat} (h : okey i b q < okey idx 2 0) :
    rd (setWidth s p idx w) i b q = rd s i b q :=
  List.foldlRecOn _ _ (motive := fun a => rd a i b q = rd s i b q) rfl fun _ ih _ _ => (rd_setDir_below _ _ _ h).trans ih

@[simp] theorem setWidth_ports (s : State) (p idx w : Nat) : (setWidth s p idx w).ports = s.ports := by
  obtain ⟨x, h⟩ := setWidth_eq s p idx w
  rw [h]

@[simp] theorem setWidth_lanes (s : State) (p idx w : Nat) : (setWidth s p idx w).lanes = s.lanes := by
  obtain ⟨x, h⟩ := setWidth_eq s p idx w
  rw [h]

@[simp] theorem setWidth_mem (s : State) (p idx w : Nat) : (setWidth s p idx w).mem = s.mem := by
  obtain ⟨x, h⟩ := setWidth_eq s p idx w
  rw [h]

@[simp] theorem getPort_setWidth (s : State) (p idx w p' : Nat) : getPort (setWidth s p idx w) p' = getPort s p' :=
  getPort_congr (setWidth_ports s p idx w) p'

end Sys2Proof.Proofs
end

section
/-!
SUPPORT. Writes of lane and group objects (R67, R76, R78 to R81): what each handler gives when its own rules allow the write, and O1.
-/
namespace Sys2Proof.Proofs

open Sys2Proof Sys2Proof.Machine

/-- A target that the lane's use allows is written; OFF takes effect at once. -/
theorem laneDirWrite_allowed {s : State} {l : Nat} {v : Byte} (h : v = 2 → laneRole s l ≠ 1 ∧ laneRole s l ≠ 3) (idx : Nat) :
    laneDirWrite s idx l v.toNat = (if v = 2 then wr (wr s idx 1 l 2) idx 2 l 2 else wr s idx 1 l v.toNat, .ok) := by
  by_cases hoff : v = 2
  · subst hoff
    obtain ⟨hdata, hspare⟩ := h rfl
    exact if_neg fun hused => hused.2.elim hdata hspare
  · have hne : v.toNat ≠ 2 := fun hv => hoff (BitVec.eq_of_toNat_eq hv)
    simp only [laneDirWrite, hne, hoff, false_and, if_false]

/-- What a permitted test target writes before the checker ends: the target, the actual, and the reason (R81). -/
def testWritten (s : State) (l v : Nat) : State :=
  if v = 0 then
    (if rd s 0x2110 2 l ≠ 0 then wr (wr (wr s 0x2110 1 l v) 0x2110 2 l v) 0x2110 11 l 1 else wr (wr s 0x2110 1 l v) 0x2110 2 l v)
  else wr (wr (wr s 0x2110 1 l v) 0x2110 2 l v) 0x2110 11 l 0

/-- A test that the lane's kind permits is written. -/
theorem testTargetWrite_permitted {s : State} {l v : Nat} (hgen : v % 2 = 1 → generatorOk (laneKind s l) = true)
    (hcheck : 2 ≤ v → checkerOk (laneKind s l) = true) : testTargetWrite s l v = (checkerEnds (testWritten s l v) l, .ok) := by
  have hpermitted : ¬((v % 2 = 1 ∧ generatorOk (laneKind s l) = false) ∨ (2 ≤ v ∧ checkerOk (laneKind s l) = false)) := by
    rintro (⟨hv, hno⟩ | ⟨hv, hno⟩)
    · exact absurd (hgen hv) (by rw [hno]; decide)
    · exact absurd (hcheck hv) (by rw [hno]; decide)
  rw [testTargetWrite, if_neg hpermitted, testWritten]
  by_cases hv : v = 0
  · simp only [hv, true_and, if_true]
  · simp only [hv, false_and, if_false]

theorem testWritten_eq (s : State) (l v : Nat) : ∃ x, testWritten s l v = { s with obj := x } := by
  unfold testWritten
  split
  · split <;> exact ⟨_, rfl⟩
  · exact ⟨_, rfl⟩

theorem rd_testWritten_target (s : State) (l v : Nat) : rd (testWritten s l v) 0x2110 1 l = v := by
  unfold testWritten
  split
  · split <;> simp [rd_wr_row]
  · simp [rd_wr_row]

theorem rd_testWritten_actual (s : State) (l v : Nat) : rd (testWritten s l v) 0x2110 2 l = v := by
  unfold testWritten
  split
  · split <;> simp [rd_wr_row]
  · simp [rd_wr_row]

/-- A test that starts has no reason to have stopped. -/
theorem rd_testWritten_reason_start (s : State) {l v : Nat} (hv : v ≠ 0) : rd (testWritten s l v) 0x2110 11 l = 0 := by
  rw [testWritten, if_neg hv, rd_wr_same]

/-- A running test that a target of 0 stops was stopped by its target. -/
theorem rd_testWritten_reason_stop {s : State} {l : Nat} (hran : rd s 0x2110 2 l ≠ 0) : rd (testWritten s l 0) 0x2110 11 l = 1 := by
  rw [testWritten, if_pos rfl, if_pos hran, rd_wr_same]

/-- What a test's write leaves, its checker ended: objects, lanes and free values alone. -/
theorem checkerEnds_testWritten_eq (s : State) (l v : Nat) :
    checkerEnds (testWritten s l v) l = { s with
      obj := (checkerEnds (testWritten s l v) l).obj, lanes := (checkerEnds (testWritten s l v) l).lanes
      free := (checkerEnds (testWritten s l v) l).free } := by
  obtain ⟨x, hwritten⟩ := testWritten_eq s l v
  obtain ⟨y, z, n, hends⟩ := checkerEnds_eq (testWritten s l v) l
  rw [hends, hwritten]

/-- A loopback that the lane's kind permits is written. -/
theorem loopbackWrite_permitted {s : State} {l : Nat} {v : Byte} (hnear : v = 1 ∨ v = 2 → nearEndOk (laneKind s l) = true)
    (hfar : v = 3 → farEndOk (laneKind s l) = true) : loopbackWrite s l v.toNat = (wr s 0x2110 4 l v.toNat, .ok) := by
  refine if_neg ?_
  rintro (⟨hv, hno⟩ | ⟨hv, hno⟩)
  · exact absurd (hnear (hv.imp BitVec.eq_of_toNat_eq BitVec.eq_of_toNat_eq)) (by rw [hno]; decide)
  · exact absurd (hfar (BitVec.eq_of_toNat_eq hv)) (by rw [hno]; decide)

/-- Errors are injected where a generator runs. -/
theorem injectWrite_runs {s : State} {l n : Nat} (hn : 1 ≤ n ∧ n ≤ 255) (htraffic : laneKind s l ≠ .traffic)
    (hbusy : laneKind s l ≠ .spareBusy) (hrun : rd s 0x2110 2 l % 2 = 1 ∨ laneKind s l = .spareKeepalive) :
    injectWrite s l n = (setLane (cmdDone s 0x2110 5 l 0) l { getLane s l with inject := n }, .ok) := by
  rw [injectWrite, if_neg (by omega), if_neg (not_or.2 ⟨htraffic, hbusy⟩), if_pos hrun]

/-- A spare in use is checked before its lane returns. -/
theorem swapBackWrite_starts {s : State} {g : Nat} (h : spareInUse s g = true) :
    swapBackWrite s g = (cmdStart (stopTest s (8 * g + rd s 0x2140 9 (256 + g)) 2) 0x2140 11 (256 + g), .ok) := by
  rw [swapBackWrite, h]
  rfl

/-- A lane whose spare is free and whose port handles no loss is retired. -/
theorem retireLaneWrite_free {s : State} {g v : Nat} (hspare : spareTaken s g = false)
    (hphase : (getPort s (lanePort s (8 * g + v))).subPhase = 0) (hwindow : (getPort s (lanePort s (8 * g + v))).window = false) :
    retireLaneWrite s g v = (if laneRole s (8 * g + v) = 1 then
      beginSubstitution (cmdDone s 0x2140 12 (256 + g) 0) (lanePort s (8 * g + v)) (8 * g + v)
      else retireIdle (cmdDone s 0x2140 12 (256 + g) 0) g (8 * g + v), .ok) := by
  rw [retireLaneWrite, if_neg (by simp [hspare, hphase, hwindow])]

/-- Settles O1: each row is a checked write, whose handler goes as its fact says. -/
theorem laneWritesComplete : Obligations.LaneWritesComplete := by
  intro s r
  refine ⟨?direction, ?test, ?loopback, ?inject, ?clear, ?swap, ?retire⟩
  case direction => exact fun l d v haccepted hused => next_rowWrite haccepted (laneDirWrite_allowed hused _)
  case test =>
    intro l v haccepted hgen hcheck
    refine ⟨_, next_rowWrite haccepted (testTargetWrite_permitted hgen hcheck), ?_, ?_, ?_, ?_, inSync_checkerEnds _ _,
      checkerEnds_testWritten_eq _ _ _⟩
    · rw [rd_checkerEnds_other _ _ (by decide) (by decide), rd_testWritten_target]
    · rw [rd_checkerEnds_other _ _ (by decide) (by decide), rd_testWritten_actual]
    · intro hv
      have hstart : v.toNat ≠ 0 := fun h0 => hv (BitVec.eq_of_toNat_eq h0)
      rw [rd_checkerEnds_other _ _ (by decide) (by decide), rd_testWritten_reason_start _ hstart]
    · rintro rfl hran
      rw [rd_checkerEnds_other _ _ (by decide) (by decide)]
      exact rd_testWritten_reason_stop hran
  case loopback => exact fun l v haccepted hnear hfar => next_rowWrite haccepted (loopbackWrite_permitted hnear hfar)
  case inject =>
    intro l n haccepted hn htraffic hbusy hrun
    exact next_rowWrite haccepted (injectWrite_runs hn htraffic hbusy hrun)
  case clear => exact fun l haccepted => next_rowWrite haccepted rfl
  case swap => exact fun g haccepted hspare => next_rowWrite haccepted (swapBackWrite_starts hspare)
  case retire => exact fun g v haccepted hspare hphase hwindow => next_rowWrite haccepted (retireLaneWrite_free hspare hphase hwindow)

end Sys2Proof.Proofs
end

section
/-!
SUPPORT. Lane and link events (R62, R67, R72 to R75): what a lost lock opens, how an L0p width is taken and a substitution goes on with it,
and O2.
-/
namespace Sys2Proof.Proofs

open Sys2Proof Sys2Proof.Machine

/-! A lost lock. -/

/-- What a loss of lock counts on its lane (R66): the state, the losses, and the bad units, a free amount beyond 16 (log 190). -/
def lockLost (s : State) (l : Nat) : State :=
  freeNext (bump (bump (wr s 0x2100 5 l 1) 0x2100 6 l 32 1) 0x2100 7 l 64 (16 + Config.freeValue s.free))

@[simp] theorem laneRole_lockLost (s : State) (l : Nat) : laneRole (lockLost s l) l = laneRole s l := by
  rw [laneRole, lockLost, rd_freeNext, rd_bump_row _ _ _ _ (by decide), rd_bump_row _ _ _ _ (by decide), rd_wr_row _ _ _ (by decide), laneRole]

/-- The objects of links lie below those of lanes. -/
theorem rd_lockLost_link (s : State) (l : Nat) {b p : Nat} (hb : b < 256) (hp : p < 65536) : rd (lockLost s l) 0x2010 b p = rd s 0x2010 b p := by
  have hne : ∀ c, okey 0x2010 b p ≠ okey 0x2100 c l := by
    intro c
    unfold okey
    omega
  rw [lockLost, rd_freeNext, bump, rd_wr_other _ _ (hne 7), bump, rd_wr_other _ _ (hne 6), rd_wr_other _ _ (hne 5)]

/-- A locked lane that is judged in L0 loses its lock; where it carries a logical lane, its port handles the loss. -/
theorem exec_laneLockLoss_judged {s : State} {l : LaneN} (hlocked : rd s 0x2100 5 l.val = 2) (hactive : rd s 0x2102 2 l.val = 0)
    (hup : rd s 0x2010 2 (lanePort s l.val) = 3) : exec (.laneLockLoss l) s = .next (
      if laneRole s l.val = 1 ∨ laneRole s l.val = 3 then lockLossOf (lockLost s l.val) (lanePort s l.val) l.val else lockLost s l.val) := by
  refine congrArg Host.Outcome.next ((if_pos ⟨hlocked, hactive, .inl hup⟩).trans ?_)
  show (if laneRole (lockLost s l.val) l.val = 1 ∨ laneRole (lockLost s l.val) l.val = 3 then
    lockLossOf (lockLost s l.val) (lanePort s l.val) l.val else lockLost s l.val) = _
  rw [laneRole_lockLost]

/-- A first loss in L0 opens the decision window of its port. -/
theorem lockLossOf_opens {s : State} {p : Nat} (hup : rd s 0x2010 2 p = 3) (hwindow : (getPort s p).window = false)
    (hphase : (getPort s p).subPhase = 0) (hswap : (getPort s p).swap = false) (l : Nat) :
    lockLossOf s p l = setPort s p { getPort s p with window := true, lost := [l] } := by
  simp [lockLossOf, hup, hwindow, hphase, hswap]

/-! Sparing and Recovery. -/

/-- A partner's request for a lane whose port has lost no other is acknowledged (R73). -/
theorem exec_sparingRequest_acknowledged {s : State} {p : PortN} {l : LaneN} (hdata : l.val < 256) (hport : lanePort s l.val = p.val)
    (hrole : laneRole s l.val = 1) (hup : rd s 0x2010 2 p.val = 3) (hmode : sparingMode s p.val (laneGroup l.val) = 3)
    (hspare : spareFree s (laneGroup l.val) p.val = true) (hswap : (getPort s p.val).swap = false)
    (hlost : ∀ x ∈ (getPort s p.val).lost, x = l.val) (hsub : ∀ x, (getPort s p.val).subLane = some x → x = l.val) :
    exec (.sparingRequest p l) s = .next (emit (setPort (stopTest s (256 + l.val / 8) 2) p.val
      { getPort s p.val with window := false, lost := [], subPhase := 2, subLane := some l.val, excluded := [] }) (.sparingAck p.val l.val)) := by
  have hothers : ((getPort s p.val).lost ++ (match (getPort s p.val).subLane with | some x => [x] | none => [])).filter (· != l.val) = [] := by
    rw [List.filter_eq_nil_iff]
    intro x hx
    suffices x = l.val by simp [this]
    rcases List.mem_append.1 hx with hx | hx
    · exact hlost x hx
    · cases hlane : (getPort s p.val).subLane with
      | none => simp [hlane] at hx
      | some y => simp only [hlane, List.mem_singleton] at hx; exact hx.trans (hsub y hlane)
  have hof : spareOf l.val = 256 + l.val / 8 := if_pos hdata
  show execSparingRequest p l s = _
  rw [execSparingRequest, if_pos ⟨hdata, hport, hrole, hup, hmode, hspare, hswap⟩]
  simp only [hof, getPort_stopTest]
  exact congrArg Host.Outcome.next (if_neg (not_not_intro hothers))

/-- The switch flit ends the exchange: the spare carries the lane, or a returning lane carries it again. -/
theorem exec_switchFlit_pending {s : State} {p : PortN} {l : Nat} (hphase : (getPort s p.val).subPhase = 2)
    (hlane : (getPort s p.val).subLane = some l) : exec (.switchFlit p) s = .next (
      if (getPort s p.val).swap then restored (setPort s p.val { getPort s p.val with subPhase := 0, subLane := none, swap := false }) (laneGroup l)
      else substituted (setPort s p.val { getPort s p.val with subPhase := 0, subLane := none, swap := false }) p.val l) := by
  show execSwitchFlit p s = _
  simp only [execSwitchFlit, hphase, hlane]

/-- Recovery that has no lane to take or to exclude ends in L0 at the same width. -/
theorem exec_recoveryComplete_plain {s : State} {p : PortN} (hrecovery : rd s 0x2010 2 p.val = 4) (hwidth : rd s 0x2010 3 p.val ≠ 0)
    (hlane : (getPort s p.val).subLane = none) (hexcluded : (getPort s p.val).excluded = []) (ok : Bool) :
    exec (.recoveryComplete p ok) s = .next (setPort (wr s 0x2010 2 p.val 3) p.val
      { getPort s p.val with subPhase := 0, subLane := none, excluded := [], swap := false }) := by
  have hdone : recoveryDone s p.val ok = setPort (wr s 0x2010 2 p.val 3) p.val
      { getPort s p.val with subPhase := 0, subLane := none, excluded := [], swap := false } := by
    simp only [recoveryDone, hlane, hexcluded, narrowPort]
  refine congrArg Host.Outcome.next ((if_pos hrecovery).trans ?_)
  rw [hdone]
  refine if_neg ?_
  rwa [rd_setPort, rd_wr_row _ _ _ (by decide)]

/-- A link in L0 that its partner leads into Recovery, with no window open. -/
theorem exec_recoveryEntry_plain {s : State} {p : PortN} (hup : rd s 0x2010 2 p.val = 3) (hwindow : (getPort s p.val).window = false) :
    exec (.recoveryEntry p) s = .next (setPort (wr s 0x2010 2 p.val 4) p.val
      { getPort s p.val with window := false, lost := [], subPhase := 5, swap := false }) := by
  refine congrArg Host.Outcome.next ((if_neg (not_not_intro hup)).trans ?_)
  rw [hwindow]
  rfl

/-! L0p widths. -/

/-- Outside a substitution a link that has L0p takes every width up to its full one. -/
theorem widthAllowed_idle {s : State} {p n : Nat} (hl0p : (getPort s p).l0p = true) (hup : rd s 0x2010 2 p = 3) (hn : n ≠ 0)
    (hfull : n ≤ (getPort s p).fullWidth) (hphase : (getPort s p).subPhase = 0) : widthAllowed s p n = true := by
  simp [widthAllowed, hl0p, hup, hn, hfull, hphase]

/-- A substitution's first step asks for the narrow width. -/
theorem widthAllowed_narrow {s : State} {p n x : Nat} (hl0p : (getPort s p).l0p = true) (hup : rd s 0x2010 2 p = 3) (hn : n ≠ 0)
    (hfull : n ≤ (getPort s p).fullWidth) (hphase : (getPort s p).subPhase = 3) (hlane : (getPort s p).subLane = some x)
    (hnarrow : n = narrowWidth s (getPort s p) x) : widthAllowed s p n = true := by
  simp [widthAllowed, hl0p, hup, hn, hfull, hphase, hlane, ← hnarrow]

/-- Both directions take a width. -/
theorem takeWidth_both (s : State) (p n : Nat) : takeWidth s p .both n =
    setPort (setWidth (setWidth s p 0x2101 n) p 0x2102 n) p { getPort s p with widthTx := n, widthRx := n } := by
  simp [takeWidth]

/-- Outside a substitution a width that no lane hinders is all that changes. -/
theorem widthStep_idle {s : State} {p : Nat} (hphase : (getPort s p).subPhase = 0) : widthStep s p none = s := by
  simp [widthStep, hphase]

/-- A substitution whose link is narrow in both directions goes on to widen. -/
theorem widthStep_narrowed {s : State} {p x : Nat} (hphase : (getPort s p).subPhase = 3) (hlane : (getPort s p).subLane = some x)
    (htx : (getPort s p).widthTx = narrowWidth s (getPort s p) x) (hrx : (getPort s p).widthRx = narrowWidth s (getPort s p) x) :
    widthStep s p none = setPort s p { getPort s p with subPhase := 4 } := by
  simp only [widthStep, hphase, hlane]
  exact if_pos ⟨htx, hrx⟩

/-- The narrow width is of logical lanes, which the power states of lanes leave. -/
theorem narrowWidth_takeWidth (s : State) (p n : Nat) (q : PortSt) {x : Nat} (hx : x < 256) (a b : Nat) :
    narrowWidth (takeWidth s p .both n) { q with widthTx := a, widthRx := b } x = narrowWidth s q x := by
  have hlogical : ∀ l < 65536, rd (takeWidth s p .both n) 0x2100 3 l = rd s 0x2100 3 l := by
    intro l hl
    rw [takeWidth_both, rd_setPort, rd_setWidth_below, rd_setWidth_below] <;> (unfold okey; omega)
  have hlane : (if q.swap = true then spareOf x else x) < 65536 := by
    unfold spareOf
    split <;> omega
  rw [narrowWidth, hlogical _ hlane, narrowWidth]

theorem exec_l0pWidthChange_idle {s : State} {p : PortN} {w : Byte} (hl0p : (getPort s p.val).l0p = true) (hup : rd s 0x2010 2 p.val = 3)
    (hw : w.toNat ≠ 0) (hfull : w.toNat ≤ (getPort s p.val).fullWidth) (hphase : (getPort s p.val).subPhase = 0) :
    exec (.l0pWidthChange p .both w none) s = .next (setPort (setWidth (setWidth s p.val 0x2101 w.toNat) p.val 0x2102 w.toNat) p.val
      { getPort s p.val with widthTx := w.toNat, widthRx := w.toNat }) := by
  refine congrArg Host.Outcome.next ((if_pos (widthAllowed_idle hl0p hup hw hfull hphase)).trans ?_)
  rw [takeWidth_both, widthStep_idle]
  rwa [getPort_setPort_same]

theorem exec_l0pWidthChange_narrow {s : State} {p : PortN} {w : Byte} {x : Nat} (hl0p : (getPort s p.val).l0p = true)
    (hup : rd s 0x2010 2 p.val = 3) (hw : w.toNat ≠ 0) (hfull : w.toNat ≤ (getPort s p.val).fullWidth) (hphase : (getPort s p.val).subPhase = 3)
    (hlane : (getPort s p.val).subLane = some x) (hx : x < 256) (hnarrow : w.toNat = narrowWidth s (getPort s p.val) x) :
    exec (.l0pWidthChange p .both w none) s = .next (setPort (takeWidth s p.val .both w.toNat) p.val
      { getPort s p.val with subPhase := 4, widthTx := w.toNat, widthRx := w.toNat }) := by
  have hport : getPort (takeWidth s p.val .both w.toNat) p.val = { getPort s p.val with widthTx := w.toNat, widthRx := w.toNat } := by
    rw [takeWidth_both, getPort_setPort_same]
  have hkeeps := hnarrow.trans (narrowWidth_takeWidth s p.val w.toNat (getPort s p.val) hx w.toNat w.toNat).symm
  refine congrArg Host.Outcome.next ((if_pos (widthAllowed_narrow hl0p hup hw hfull hphase hlane hnarrow)).trans ?_)
  rw [widthStep_narrowed (x := x)] <;> rw [hport] <;> assumption

/-- Settles O2: each event through the fact of its own operation. -/
theorem laneEventsComplete : Obligations.LaneEventsComplete := by
  intro s
  refine ⟨?lock, ?loss, ?window, ?close, ?request, ?ack, ?switch, ?width, ?narrow, ?complete, ?entry, ?degrade⟩
  case lock => exact fun l hactive => congrArg Host.Outcome.next (if_pos hactive)
  case loss =>
    intro l hlocked hactive hup hdata hspare
    exact (exec_laneLockLoss_judged hlocked hactive hup).trans (congrArg Host.Outcome.next (if_neg (not_or.2 ⟨hdata, hspare⟩)))
  case window =>
    intro l hlocked hactive hup hrole hport hwindow hphase hswap
    rw [exec_laneLockLoss_judged hlocked hactive hup, if_pos hrole]
    refine congrArg Host.Outcome.next (lockLossOf_opens (s := lockLost s l.val) ?_ hwindow hphase hswap l.val)
    rw [rd_lockLost_link _ _ (by decide) (by omega), hup]
  case close =>
    intro p hwindow
    refine congrArg Host.Outcome.next ((if_pos hwindow).trans ?_)
    dsimp only
    rcases (getPort s p.val).lost with _ | ⟨l, _ | ⟨l', ls⟩⟩ <;> rfl
  case request =>
    intro p l hdata hport hrole hup hmode hspare hswap hlost hsub
    exact exec_sparingRequest_acknowledged hdata hport hrole hup hmode hspare hswap hlost hsub
  case ack => exact fun p hphase => congrArg Host.Outcome.next (if_pos hphase)
  case switch => exact fun p l hphase hlane => exec_switchFlit_pending hphase hlane
  case width => exact fun p w hl0p hup hw hfull hphase => exec_l0pWidthChange_idle hl0p hup hw hfull hphase
  case narrow =>
    intro p w x hl0p hup hw hfull hphase hlane hx hnarrow
    refine ⟨_, exec_l0pWidthChange_narrow hl0p hup hw hfull hphase hlane hx hnarrow, getPort_setPort_same _ _ _, ?_⟩
    simp only [takeWidth_both, setPort_obj, setPort_mem, setPort_lanes, setWidth_mem, setWidth_lanes, and_self]
  case complete => exact fun p ok hrecovery hwidth hlane hexcluded => exec_recoveryComplete_plain hrecovery hwidth hlane hexcluded ok
  case entry => exact fun p hup hwindow => exec_recoveryEntry_plain hup hwindow
  case degrade =>
    intro l hdata hthreshold hrole hup hphase hwindow hspare
    exact congrArg Host.Outcome.next (if_pos ⟨hdata, hthreshold, hrole, hup, hphase, hwindow, hspare⟩)

end Sys2Proof.Proofs
end

section
/-!
SUPPORT. The spare's exchange, loopback, the checker and L1 (R67, R70, R78, R80): what each event does when its conditions hold, and O3.
-/
namespace Sys2Proof.Proofs

open Sys2Proof Sys2Proof.Machine

/-- A port of one group whose exchange ends well; the partner carries no keep-alive. -/
theorem exec_spareExchangeComplete_ok {s : State} {p : PortN} {g : Nat} (hgroups : portGroups s p.val = [g])
    (hruns : p.val ∈ (getGroup s g).exchange) (hcap : bit (getPort s p.val).spareCap 3 = false) :
    exec (.spareExchangeComplete p true) s = .next
      (setGroup s g { getGroup s g with exchange := (getGroup s g).exchange.filter (· != p.val) }) := by
  show execSpareExchangeComplete p true s = _
  rw [execSpareExchangeComplete, hgroups, List.foldl_cons, List.foldl_nil, if_pos (List.contains_iff_mem.2 hruns), if_pos rfl, hcap]
  rfl

/-- A port of one group whose exchange fails goes to mode NONE. -/
theorem exec_spareExchangeComplete_failed {s : State} {p : PortN} {g : Nat} (hgroups : portGroups s p.val = [g])
    (hruns : p.val ∈ (getGroup s g).exchange) : exec (.spareExchangeComplete p false) s = .next (raise
      (wr (keepaliveEnds s g p.val) 0x2140 (sparingSub s p.val) (256 + g) 0) (0x2000 + g) 4 .notice []) := by
  show execSpareExchangeComplete p false s = _
  rw [execSpareExchangeComplete, hgroups, List.foldl_cons, List.foldl_nil, if_pos (List.contains_iff_mem.2 hruns)]
  rfl

/-- A checker that loses its sync has counted bits and errors, and its lane is in sync no more. -/
theorem exec_checkerSyncLoss_inSync {s : State} {l : LaneN} (hsync : (getLane s l.val).inSync = true) (bits errs : Nat) :
    exec (.checkerSyncLoss l bits errs) s = .next (setLane (bump (countBits s l.val bits errs) 0x2110 8 l.val 32 1) l.val
      { getLane s l.val with inSync := false }) := congrArg Host.Outcome.next (if_pos hsync)

/-- Settles O3: each event through the fact of its own operation. -/
theorem laneChecksComplete : Obligations.LaneChecksComplete := by
  intro s
  refine ⟨?exchanged, ?exchangeFailed, ?keepalive, ?loopback, ?sync, ?syncLoss, ?l1Entry, ?l1Exit⟩
  case exchanged => exact fun p g hgroups hruns hcap => exec_spareExchangeComplete_ok hgroups hruns hcap
  case exchangeFailed => exact fun p g hgroups hruns => exec_spareExchangeComplete_failed hgroups hruns
  case keepalive => exact fun g hruns => congrArg Host.Outcome.next (if_pos hruns)
  case loopback => exact fun l hok => congrArg Host.Outcome.next (if_pos hok)
  case sync => exact fun l hchecks => congrArg Host.Outcome.next (if_pos hchecks)
  case syncLoss =>
    intro l bits errs hsync
    refine ⟨_, exec_checkerSyncLoss_inSync hsync bits errs, ?_, ?_, ?_, ?_, rfl⟩
    · rw [getLane_setLane_same]
    · rw [rd_setLane, rd_bump_row _ _ _ _ (by decide), rd_countBits_bits]
    · rw [rd_setLane, rd_bump_row _ _ _ _ (by decide), rd_countBits_errs]
    · rw [rd_setLane, rd_bump_same, rd_countBits_other _ _ _ _ (by decide) (by decide)]
  case l1Entry => exact fun p hup hoffers hrole => congrArg Host.Outcome.next (if_pos ⟨hup, hoffers, hrole⟩)
  case l1Exit =>
    intro p hl1 hon
    have hall : ((portGroups s p.val).all fun g => rd s 0x9000 2 (32 * (g / 8) + 9 + g % 8) == 0) = true :=
      List.all_eq_true.2 fun g hg => beq_iff_eq.2 (hon g hg)
    exact congrArg Host.Outcome.next (if_pos ⟨hl1, hall⟩)

end Sys2Proof.Proofs
end

section
/-!
SUPPORT. Quiesce, link-down, presence and flit errors (R82 to R86, R97, R98): what a change of presence comes to, and O4.
-/
namespace Sys2Proof.Proofs

open Sys2Proof Sys2Proof.Machine

/-- Where the port is no DSP, its presence is all that changes. -/
theorem exec_presenceChange_plain {s : State} {p : PortN} (hrole : actingRole s p.val ≠ 2) (v : Bool) :
    exec (.presenceChange p v) s = .next (setPort s p.val { getPort s p.val with presence := v }) :=
  congrArg Host.Outcome.next (if_pos (.inl hrole))

/-- A DSP's presence changes while no kept target waits for it: the manager hears of a pool target, the host of another device. -/
theorem exec_presenceChange_hotPlug {s : State} {p : PortN} {v : Bool} (hrole : actingRole s p.val = 2) (hnew : (getPort s p.val).presence ≠ v)
    (hkept : v = false → (getTgt s (dspTarget p.val)).away = false) : exec (.presenceChange p v) s = .next (
      if isPoolDsp s p.val then raise (setPort s p.val { getPort s p.val with presence := v }) (portSource p.val) 7 .notice []
      else emit (setPort s p.val { getPort s p.val with presence := v }) (.hotPlug p.val v)) := by
  have hchanges : ¬(actingRole s p.val ≠ 2 ∨ (getPort s p.val).presence = v) := not_or.2 ⟨not_not_intro hrole, hnew⟩
  have hno : ¬(v = false ∧ (getTgt (setPort s p.val { getPort s p.val with presence := v }) (dspTarget p.val)).away = true) := by
    rintro ⟨hv, haway⟩
    exact Bool.false_ne_true ((hkept hv).symm.trans haway)
  show execPresenceChange p v s = _
  simp only [execPresenceChange, if_neg hchanges, if_neg hno]
  rfl

/-- Without a loss of presence a link-down is no removal. -/
theorem exec_linkDown_present (s : State) (p : PortN) (c : DownCause) :
    exec (.linkDown p c false) s = .next (portDown s p.val (downCode c) false) := by
  have hstays : isRemoval s p.val c false = false := by rw [isRemoval, Bool.and_false, Bool.false_and]
  show execLinkDown p c false s = _
  rw [execLinkDown, hstays]
  rfl

/-- Settles O4: each event through the fact of its own operation. -/
theorem linkWritesAndDownsComplete : Obligations.LinkWritesAndDownsComplete := by
  intro s
  refine ⟨?quiesce, ?down, ?late, ?presence, ?poolComes, ?deviceComes, ?poolLeaves, ?deviceLeaves, ?removed, ?flit, ?beyondFec, ?replay⟩
  case quiesce => exact fun r g v haccepted => next_rowWrite haccepted rfl
  case down => exact exec_linkDown_present s
  case late => exact fun p tag hlate => congrArg Host.Outcome.next (if_pos hlate)
  case presence => exact fun p v hrole => exec_presenceChange_plain hrole v
  case poolComes =>
    intro p hrole hgone hpool
    exact (exec_presenceChange_hotPlug (v := true) hrole (by simp [hgone]) nofun).trans (congrArg Host.Outcome.next (if_pos hpool))
  case deviceComes =>
    intro p hrole hgone hhost
    exact (exec_presenceChange_hotPlug (v := true) hrole (by simp [hgone]) nofun).trans (congrArg Host.Outcome.next (if_neg (by simp [hhost])))
  case poolLeaves =>
    intro p hrole hthere hkept hpool
    exact (exec_presenceChange_hotPlug hrole (by simp [hthere]) fun _ => hkept).trans (congrArg Host.Outcome.next (if_pos hpool))
  case deviceLeaves =>
    intro p hrole hthere hkept hhost
    exact (exec_presenceChange_hotPlug hrole (by simp [hthere]) fun _ => hkept).trans (congrArg Host.Outcome.next (if_neg (by simp [hhost])))
  case removed => exact fun p c => rfl
  case flit => exact fun p n => rfl
  case beyondFec => exact fun p n => rfl
  case replay => exact fun p n => rfl

end Sys2Proof.Proofs
end

section
/-!
SUPPORT. The credit audit and the retrain (R89 to R92): a quiet point that finds no shortage, a forced retrain that starts, and O5.
-/
namespace Sys2Proof.Proofs

open Sys2Proof Sys2Proof.Machine

@[simp] theorem getPort_emit (s : State) (o : Out) (p : Nat) : getPort (emit s o) p = getPort s p := rfl

/-- A quiet point that finds no shortage it has not told of, on a port whose retrain threshold is 0, only audits its pool (R90). -/
theorem quietPoint_audits {s : State} {p i n : Nat} (hup : linkUp s p = true) (haudited : audited (nth poolInit (getPort s p).pools i) = true)
    (hthreshold : rd s 0x2210 1 p = 0) (hfits : n ≤ (nth poolInit (getPort s p).pools i).initial)
    (hnotice : (auditPool (nth poolInit (getPort s p).pools i) n).noticed = (nth poolInit (getPort s p).pools i).noticed)
    (hquiet : poolAwaits s p i = false) :
    quietPoint s p i n = (setPort s p { getPort s p with
      pools := setAt (getPort s p).pools i (auditPool (nth poolInit (getPort s p).pools i) n)
      auditHold := (getPort s p).auditHold &&
        !((setAt (getPort s p).pools i (auditPool (nth poolInit (getPort s p).pools i) n)).filter audited).all (·.quiet) }, false) := by
  have htaken : ¬(linkUp s p = false ∨ audited (nth poolInit (getPort s p).pools i) = false ∨ poolAwaits s p i = true) := by
    simp [hup, haudited, hquiet]
  have hsilent : ¬((nth poolInit (getPort s p).pools i).initial < n ∨
      (auditPool (nth poolInit (getPort s p).pools i) n).noticed = true ∧ (nth poolInit (getPort s p).pools i).noticed = false) := by
    rw [hnotice]
    rintro (hover | ⟨htold, huntold⟩)
    · exact absurd hfits (Nat.not_le.2 hover)
    · exact Bool.false_ne_true (huntold.symm.trans htold)
  simp only [quietPoint, if_neg htaken, if_neg hsilent]
  exact if_neg fun hdue => hdue.1 hthreshold

/-- Forcing a retrain starts one where both sides show LL_REINIT and none runs. -/
theorem forceRetrainWrite_starts {s : State} {p : Nat} (hup : linkUp s p = true) (hreinit : llReinit s p = true) (hnone : (getPort s p).retrain = 0) :
    forceRetrainWrite s p = (startRetrain (cmdStart s 0x2210 9 p) p, .ok) := by
  have hable : ¬(linkUp s p = false ∨ llReinit s p = false) := by simp [hup, hreinit]
  exact (if_neg hable).trans (congrArg (·, Status.ok) (if_pos hnone))

/-- Settles O5: each event through the condition that its own operation tests. -/
theorem creditAuditComplete : Obligations.CreditAuditComplete := by
  intro s
  refine ⟨?period, ?quiet, ?holdEnds, ?drained, ?retrained, ?partner, ?forced⟩
  case period => exact fun p hup => congrArg Host.Outcome.next (if_pos hup)
  case quiet =>
    intro p pool n hup haudited hthreshold hfits hnotice hquiet
    show execQuietPoint p pool n s = _
    rw [execQuietPoint, quietPoint_audits hup haudited hthreshold hfits hnotice hquiet]
    rfl
  case holdEnds => exact fun p hhold => congrArg Host.Outcome.next (if_pos hhold)
  case drained =>
    intro p hfirst
    show execRetrainDrainComplete p s = _
    simp only [execRetrainDrainComplete, if_pos hfirst, getPort_emit]
  case retrained => exact fun p cs hruns => congrArg Host.Outcome.next (if_pos hruns)
  case partner => exact fun p hup hreinit hnone => congrArg Host.Outcome.next (if_pos ⟨hup, hreinit, hnone⟩)
  case forced => exact fun r p haccepted hup hreinit hnone => next_rowWrite haccepted (forceRetrainWrite_starts hup hreinit hnone)

end Sys2Proof.Proofs
end

section
/-!
SUPPORT. The functions of a USP (R94 to R96): a configuration write outside a reset, a function-level reset, a completion timeout, the
partner's choice of a coherence version, and O6.
-/
namespace Sys2Proof.Proofs

open Sys2Proof Sys2Proof.Machine

@[simp] theorem getFn_setFn_same (s : State) (k : Nat) (v : FnSt) : getFn (setFn s k v) k = v := look_put_same _ _ _ _

/-- A USP's function that is in no function-level reset does what a configuration write asks of it. -/
theorem ite_usp_noFlr {α : Type} {s : State} {p k : Nat} (hrole : actingRole s p = 1) (hflr : (getFn s k).flr = false) (idle retry done : α) :
    (if actingRole s p ≠ 1 then idle else if (getFn s k).flr = true then retry else done) = done := by
  rw [if_neg (not_not_intro hrole), if_neg (by rw [hflr]; exact Bool.false_ne_true)]

/-- A function-level reset that starts leaves the function in reset, with no MSI-X message pending (R96). -/
theorem exec_initiateFlr_starts {s : State} {p : PortN} {f : FuncSel} (hrole : actingRole s p.val = 1)
    (hflr : (getFn s (fnKey p.val (funcNo f))).flr = false) : ∃ t, exec (.initiateFlr p f) s = .next t ∧
      (getFn t (fnKey p.val (funcNo f))).flr = true ∧ (getFn t (fnKey p.val (funcNo f))).msix = [] := by
  refine ⟨_, congrArg Host.Outcome.next (ite_usp_noFlr hrole hflr _ _ _), ?_⟩
  dsimp only
  split
  · exact ⟨congrArg FnSt.flr (getFn_setFn_same _ _ _), congrArg FnSt.msix (getFn_setFn_same _ _ _)⟩
  · simp only [getFn_setFn_same, and_self]

/-- A completion timeout of a function that reads nothing for the context frees its oldest held tag (R95). -/
theorem exec_completionTimeout_held {s : State} {p : PortN} {f : FuncSel} {c : CtxN}
    (hread : (getFn s (fnKey p.val (funcNo f))).reads.find? (fun e => e.1 == c.val) = none) :
    exec (.completionTimeout p f c) s = .next (setFn s (fnKey p.val (funcNo f))
      { getFn s (fnKey p.val (funcNo f)) with heldTags := (getFn s (fnKey p.val (funcNo f))).heldTags.tail }) := by
  show execCompletionTimeout p f c s = _
  simp only [execCompletionTimeout, hread]

/-- A completion timeout of a context's host read ends its step with fault 0x08 (R95, Table 11-5). -/
theorem exec_completionTimeout_read {s : State} {p : PortN} {f : FuncSel} {c : CtxN} {e : Nat × Nat} {y : Pend} {k a b : Nat}
    (hk : k = fnKey p.val (funcNo f)) (hread : (getFn s k).reads.find? (fun e => e.1 == c.val) = some e)
    (hpend : (getCtx s c.val).pend = some y) (hhost : y.host = some (k, a, b)) :
    exec (.completionTimeout p f c) s = .next (finishStep (freeNext (setFn s k { getFn s k with reads := (getFn s k).reads.filter (· != e) })) c.val
      { y with fault := 8, detail := freeBits s 8, addr := a }) := by
  subst hk
  have hthere : ∀ v, (getCtx (freeNext (setFn s (fnKey p.val (funcNo f)) v)) c.val).pend = some y := fun _ => hpend
  show execCompletionTimeout p f c s = _
  simp only [execCompletionTimeout, hread, hthere, hhost]

/-- A partner that names a coherence version other than 0 ends the port's wait for it (R195). -/
theorem dvsecWrite_iscSelect {s : State} {p : Nat} {v : Byte} (hwaits : s.coh.iscWait.contains p = true) (hv : v.toNat ≠ 0) :
    dvsecWrite s p (.iscSelect v) = { setPort s p { getPort s p with iscSelect := v.toNat } with
      coh := { s.coh with iscWait := s.coh.iscWait.filter (· != p) } } := by
  simp only [dvsecWrite, if_pos hwaits, if_neg hv]

/-- Settles O6: each event through the fact of its own operation. -/
theorem functionEventsComplete : Obligations.FunctionEventsComplete := by
  intro s
  refine ⟨?clear, ?set, ?reset, ?resetEnds, ?heldTag, ?readEnds, ?scheduler, ?reinit, ?spare, ?select⟩
  case clear => exact fun p f hrole hflr => congrArg Host.Outcome.next (ite_usp_noFlr hrole hflr _ _ _)
  case set => exact fun p f hrole hflr => congrArg Host.Outcome.next (ite_usp_noFlr hrole hflr _ _ _)
  case reset => exact fun p f hrole hflr => exec_initiateFlr_starts hrole hflr
  case resetEnds => exact fun p f => rfl
  case heldTag => exact fun p f c hread => exec_completionTimeout_held hread
  case readEnds => exact fun p f c e y k a b hk hread hpend hhost => exec_completionTimeout_read hk hread hpend hhost
  case scheduler => exact fun t hserves => congrArg Host.Outcome.next (if_pos hserves)
  case reinit => exact fun p v hup => congrArg Host.Outcome.next (if_pos hup)
  case spare => exact fun p v hup => congrArg Host.Outcome.next (if_pos hup)
  case select =>
    exact fun p v hup hwaits hv => congrArg Host.Outcome.next ((if_pos hup).trans (dvsecWrite_iscSelect hwaits hv))

end Sys2Proof.Proofs
end

section
/-!
SUPPORT. CXL.io, port-based routing, CXL.cache and the egress turn (R99 to R103, R193, R311): how a message goes on once its destination's
link is up and its cells find room, what each request comes to, and O9.
-/
namespace Sys2Proof.Proofs

open Sys2Proof Sys2Proof.Machine

/-! Forwarding. -/

/-- The sample record that a forwarded message's transaction carries on (R330). -/
def forwardedSample (s : State) (t : Txn) (m : Msg) : Option Sample :=
  hopSample s (portTile t.src) (portTile t.dst) m.key ((stamp s t.sample 0).map fun y => { y with egress := t.dst })

/-- A request that awaits an answer is admitted as an outstanding transaction. -/
theorem forwardTo_outstanding {s : State} {t : Txn} {m : Msg} (hposted : t.kind ≠ .ioPosted) (hcompletion : t.kind ≠ .ioCompletion)
    (hspec : t.kind ≠ .memSpecRd) (hup : linkUp s t.dst = true)
    (hroom : admits { s with txns := s.txns ++ [{ t with sample := forwardedSample s t m }] } (portTile m.src) (switchCell m) = true) :
    forwardTo s t m = placed { s with txns := s.txns ++ [{ t with sample := forwardedSample s t m }] } (portTile m.src) (switchCell m) := by
  refine Eq.trans ?_ (switchMsg_placed rfl hroom)
  obtain ⟨kind, src, dst, tag, sent, ndr, sample⟩ := t
  refine (if_pos hup).trans ?_
  cases kind
  case ioPosted => exact absurd rfl hposted
  case ioCompletion => exact absurd rfl hcompletion
  case memSpecRd => exact absurd rfl hspec
  all_goals rfl

/-- A posted write awaits nothing: it carries its own sample record. -/
theorem forwardTo_posted {s : State} {t : Txn} {m : Msg} (hposted : t.kind = .ioPosted) (hup : linkUp s t.dst = true)
    (hroom : admits s (portTile m.src) (switchCell { m with sample := forwardedSample s t m }) = true) :
    forwardTo s t m = placed s (portTile m.src) (switchCell { m with sample := forwardedSample s t m }) := by
  refine Eq.trans ?_ (switchMsg_placed (m := { m with sample := forwardedSample s t m }) rfl hroom)
  obtain ⟨kind, src, dst, tag, sent, ndr, sample⟩ := t
  obtain rfl : kind = .ioPosted := hposted
  exact if_pos hup

/-! CXL.io (R101). -/

/-- A request to a port whose link is up is not held back while no transition holds requests. -/
theorem ite_taken_unheld {α : Type} {s : State} {p : Nat} (hup : linkUp s p = true) (hidle : modeHolding s = false) (touches : Bool)
    (dropped held done : α) :
    (if linkUp s p = false then dropped else if (modeHolding s && touches) = true then held else done) = done := by
  rw [if_neg (by rw [hup]; decide), if_neg (by rw [hidle, Bool.false_and]; decide)]

theorem ioRequest_window {s : State} {p : Nat} (hup : linkUp s p = true) (hidle : modeHolding s = false) (hrole : actingRole s p = 1)
    (v : VppbN) (b l : BitVec 64) (lo hi : Byte) : ioRequest s p (.window v b l lo hi) =
      { s with bridges := put s.bridges (64 * p + v.val) { base := b.toNat, limit := l.toNat, busLo := lo.toNat, busHi := hi.toNat } } :=
  (ite_taken_unheld hup hidle _ _ _ _).trans (if_pos hrole)

section
variable {s : State} {p q : Nat} (hup : linkUp s p = true) (hidle : modeHolding s = false)
include hup hidle

/-- A memory request goes to the port that its address routes to. -/
theorem ioRequest_mem_routed {a : BitVec 64} {posted : Bool}
    (hroute : routeMem (enterSwitched s p (if posted then 5 else 6) (if posted then 0x60 else 0x20)).1 p a.toNat = some q)
    (tag : BitVec 16) (tc : Fin 8) (d : List Byte) : ioRequest s p (.mem a posted tag tc d) =
      forwardTo (enterSwitched s p (if posted then 5 else 6) (if posted then 0x60 else 0x20)).1
        { kind := if posted then .ioPosted else .ioNonPosted, src := p, dst := q, tag := tag.toNat, sent := false
          sample := (enterSwitched s p (if posted then 5 else 6) (if posted then 0x60 else 0x20)).2 }
        (ioMsg p q tag.toNat tc.val (if posted then 5 else 6) (if posted then .ioPosted else .ioNonPosted) d) := by
  refine (ite_taken_unheld hup hidle _ _ _ _).trans ?_
  simp only [hroute]

/-- A non-posted memory request without a route is answered Unsupported Request. -/
theorem ioRequest_mem_unrouted {a : BitVec 64} (hroute : routeMem (enterSwitched s p 6 0x20).1 p a.toNat = none)
    (tag : BitVec 16) (tc : Fin 8) (d : List Byte) : ioRequest s p (.mem a false tag tc d) =
      emit (endSample (enterSwitched s p 6 0x20).1 (flagSample (enterSwitched s p 6 0x20).2 32)) (.response p tag.toNat (.io 1 [])) := by
  refine (ite_taken_unheld hup hidle _ _ _ _).trans ?_
  simp only [Bool.false_eq_true, if_false, hroute]

/-- A configuration request goes to the port that its bus number routes to. -/
theorem ioRequest_config_routed {bus : Byte} (hroute : routeCfg (enterSwitched s p 6 0x05).1 p bus.toNat = some q)
    (tag : BitVec 16) (d : List Byte) : ioRequest s p (.config bus tag d) =
      forwardTo (enterSwitched s p 6 0x05).1
        { kind := .ioConfig, src := p, dst := q, tag := tag.toNat, sent := false, sample := (enterSwitched s p 6 0x05).2 }
        (ioMsg p q tag.toNat 0 6 .ioConfig d) := by
  refine (ite_taken_unheld hup hidle _ _ _ _).trans ?_
  simp only [hroute]

end

/-- A completion that is not late ends its transaction and goes to the requester's port (R114). -/
theorem ioCompletion_forwards {s : State} {p q tag : Nat} (hup : linkUp s p = true) (hlate : (getPort s p).lateTags.contains tag = false)
    (hdst : linkUp s (completionPort s p q) = true) (n : Nat) : ioCompletion s p q tag n =
      switchMsg (endTxn (portEvent s p 3 1 none 7) p q tag)
        { ioMsg p (completionPort s p q) tag 0 7 .ioCompletion (zeros n) with sample := answeredSample s p q tag } := by
  rw [ioCompletion, if_neg (by simp [hup]), if_neg (by rw [hlate]; exact Bool.false_ne_true), if_pos hdst]

/-! CXL.cache (R180). -/

/-- A request of a CXL.cache host or device goes to its partner's port and waits for its response. -/
theorem cacheMessage_request {s : State} {p q cid : Nat} {d2h : Bool} (htakes : takesCache s p = true)
    (hrole : actingRole s p = if d2h then 2 else 1) (hidle : modeHolding s = false) (tag n : Nat) :
    cacheMessage s p q cid d2h .req tag n = forwardTo (enterSwitched (freeNext s) p 0 (freeBits s 8)).1
      { kind := if d2h then .d2hReq else .h2dSnp, src := p, dst := q, tag := tag, sent := false
        sample := (enterSwitched (freeNext s) p 0 (freeBits s 8)).2 }
      { kind := if d2h then .d2hReq else .h2dSnp, src := p, dst := q, tag := tag, len := 16 + n, cls := 0, data := zeros n
        key := cacheKey p q cid, tc := 0 } := by
  have htaken : ¬(takesCache s p = false ∨ actingRole s p ≠ if d2h then 2 else 1) := by simp [htakes, hrole]
  simp only [cacheMessage, if_neg htaken, hidle, Bool.false_and, Bool.false_eq_true, if_false]

/-! Schedulers (R311 to R313). -/

/-- The message that a scheduler picks leaves it. -/
theorem egressTurn_leaves {s : State} {q i : Nat} {m : EgMsg} (hpick : (pickEgress s q).2 = some i)
    (hmsg : (egressOf (pickEgress s q).1 q)[i]? = some m) : egressTurn s q = leave (takeEgress (pickEgress s q).1 q i m) q m := by
  simp only [egressTurn, hpick, hmsg]

/-- Settles O9: what each request comes to, and the admission of what is forwarded. -/
theorem ioTrafficComplete : Obligations.IoTrafficComplete := by
  intro s
  refine ⟨?window, ?unrouted, ?read, ?write, ?config, ?completion, ?pbrRead, ?pbrForward, ?pbrInstance, ?cache, ?egress⟩
  case window => exact fun p v b l lo hi hup hidle hrole => congrArg Host.Outcome.next (ioRequest_window hup hidle hrole v b l lo hi)
  case unrouted =>
    exact fun p a tag tc d hup hidle hroute => congrArg Host.Outcome.next (ioRequest_mem_unrouted hup hidle hroute tag tc d)
  case read =>
    rintro p a tag tc d q _ _ _ _ hup hidle rfl hroute rfl rfl hdst rfl hroom
    exact congrArg Host.Outcome.next ((ioRequest_mem_routed (posted := false) hup hidle hroute tag tc d).trans
      (forwardTo_outstanding nofun nofun nofun hdst hroom))
  case write =>
    rintro p a tag tc d q _ _ _ _ hup hidle rfl hroute rfl rfl hdst rfl hroom
    exact congrArg Host.Outcome.next ((ioRequest_mem_routed (posted := true) hup hidle hroute tag tc d).trans
      (forwardTo_posted rfl hdst hroom))
  case config =>
    rintro p bus tag d q _ _ _ _ hup hidle rfl hroute rfl rfl hdst rfl hroom
    exact congrArg Host.Outcome.next ((ioRequest_config_routed hup hidle hroute tag d).trans
      (forwardTo_outstanding nofun nofun nofun hdst hroom))
  case completion =>
    rintro p q tag n _ _ hup hlate hdst rfl rfl hroom
    exact congrArg Host.Outcome.next ((ioCompletion_forwards hup hlate hdst n).trans (switchMsg_placed rfl hroom))
  case pbrRead =>
    rintro p pid a k tag tc _ _ _ _ _ htakes hidle hvalid hport rfl rfl rfl rfl hdst rfl hroom
    exact congrArg Host.Outcome.next ((pbrRequest_forwards (.memRd a k tag tc) htakes hidle hvalid hport).trans
      (forwardTo_outstanding nofun nofun nofun hdst hroom))
  case pbrForward =>
    rintro p pid x _ _ htakes hidle hvalid hport rfl rfl
    exact congrArg Host.Outcome.next (pbrRequest_forwards x htakes hidle hvalid hport)
  case pbrInstance =>
    rintro p pid x off _ m htakes hidle hvalid hinst rfl hready hask
    exact congrArg Host.Outcome.next (pbrRequest_enters htakes hidle hvalid hinst hready hask)
  case cache =>
    rintro p q0 cid d2h tag n _ _ _ _ _ rfl htakes hrole hidle rfl rfl rfl hdst rfl hroom
    have hkind : ∀ k : TxnKind, k ≠ .d2hReq → k ≠ .h2dSnp → (if d2h then TxnKind.d2hReq else .h2dSnp) ≠ k := by
      cases d2h
      · exact fun k _ hsnoop => hsnoop.symm
      · exact fun k hrequest _ => hrequest.symm
    exact congrArg Host.Outcome.next ((cacheMessage_request htakes hrole hidle tag.toNat n).trans
      (forwardTo_outstanding (hkind _ nofun nofun) (hkind _ nofun nofun) (hkind _ nofun nofun) hdst hroom))
  case egress => exact fun q i m hpick hmsg => congrArg Host.Outcome.next (egressTurn_leaves hpick hmsg)

end Sys2Proof.Proofs
end

section
/-!
SUPPORT. The switch core and Tidelinks (R113 to R125, R127, R128): what each event and write does when its conditions hold, and O36.
-/
namespace Sys2Proof.Proofs

open Sys2Proof Sys2Proof.Machine

/-- A chunk that passes its checks is answered with what its handler gives. -/
theorem next_rowChunk {s u : State} {r : Requester} {i b q : Nat} {st : Status} {f : State → State × Status}
    (h : chunkAccepted s r i b q) (hf : f s = (u, st)) :
    (Host.Outcome.next (rowChunk s r i b q f) : Host.Outcome State Fault Refusal) = .next (chunkAnswered u i b q st) := by
  rw [rowChunk_accepted h, hf]

/-! Tiles and the ends of links. -/

@[simp] theorem rd_setTile (s : State) (t : Nat) (v : TileSt) (i b q : Nat) : rd (setTile s t v) i b q = rd s i b q := rfl

/-- The ends of a link are tiles. -/
theorem linkEnds_lt (l : Nat) : (linkEnds l).1 < 4 ∧ (linkEnds l).2 < 4 := by
  unfold linkEnds
  split <;> decide

/-! Crossings (R128). -/

/-- A crossing that times out counts, latches its Fault, closes and drops what waits on its way. -/
def timedOut (s : State) (t x : Nat) : State :=
  dropCells (closeCrossing (raise (bump (crossed s t x 2) 0x3000 6 t 32 1) (0x3200 + t) 6 .fault []) t x) t (crossingCells x)

/-- A crossing that is no Tidelink's times out alone. -/
theorem exec_crossingTimeout_unlinked {s : State} {t : TileN} {x : CrossN} (hruns : crossingStopped s t.val x.val = false)
    (hholds : crossingHolds s t.val x.val = true) (hlink : crossingLink t.val x.val = none) :
    exec (.crossingTimeout t x) s = .next (timedOut s t.val x.val) := by
  show execCrossingTimeout t x s = _
  simp only [execCrossingTimeout, hruns, hholds, hlink, Bool.false_eq_true, Bool.true_eq_false, or_self, if_false]
  rfl

/-- The first timeout of a Tidelink's crossings is remembered by the link. -/
theorem exec_crossingTimeout_first {s : State} {t : TileN} {x : CrossN} {l : Nat} (hruns : crossingStopped s t.val x.val = false)
    (hholds : crossingHolds s t.val x.val = true) (hlink : crossingLink t.val x.val = some l)
    (hfirst : (getLink (timedOut s t.val x.val) l).timeouts = []) :
    exec (.crossingTimeout t x) s = .next (setLink (timedOut s t.val x.val) l
      { getLink (timedOut s t.val x.val) l with timeouts := [t.val * 64 + x.val] }) := by
  rw [timedOut] at hfirst
  show execCrossingTimeout t x s = _
  simp only [execCrossingTimeout, hruns, hholds, hlink, hfirst, Bool.false_eq_true, Bool.true_eq_false, or_self, if_false,
    List.contains_nil, if_true]
  rfl

/-! Flits and acknowledgements (R118, R119). -/

/-- A flit on a link that carries is received; no group of either direction is exhausted. -/
theorem exec_tidelinkFlit_received {s : State} {l : LinkN} {d : LinkDir} {f : TlFlit} (hcarries : linkCarries s l.val = true)
    (hup : replayExhausted (receiveFlit s l.val d f) l.val .up = false)
    (hdown : replayExhausted (receiveFlit s l.val d f) l.val .down = false) :
    exec (.tidelinkFlit l d f) s = .next (receiveFlit s l.val d f) :=
  congrArg Host.Outcome.next ((if_pos hcarries).trans (if_neg (by simp [hup, hdown])))

/-- An acknowledgement that does not come makes the sender resend; its groups are not exhausted. -/
theorem exec_ackTimeout_resends {s : State} {l : LinkN} {d : LinkDir} (hcarries : linkCarries s l.val = true)
    (hlast : replayExhausted (resendGroups s l.val d) l.val d = false) :
    exec (.ackTimeout l d) s = .next (resendGroups s l.val d) :=
  congrArg Host.Outcome.next ((if_pos hcarries).trans (if_neg (by simp [hlast])))

/-! The path table and its fences (R115, R116). -/

/-- The loads of a tile's path entries in the period that ends (0x3210:08). -/
def loadsShown (s : State) (t : Nat) : State :=
  (List.range 768).foldl (fun a k => wrTbl a 0x3210 8 t k (look 0 (getTile s t).load k % 2 ^ 32)) s

/-- With the balancer off, the period only moves the loads into their table. -/
theorem exec_balancerPeriod_off {s : State} {t : TileN} (hoff : rd s 0x3210 2 t.val ≠ 1) (hobj : (loadsShown s t.val).obj = s.obj) :
    exec (.balancerPeriod t) s = .next (setTile (loadsShown s t.val) t.val { getTile (loadsShown s t.val) t.val with load := [] }) := by
  refine congrArg Host.Outcome.next (if_neg fun hon => hoff ?_)
  exact (rd_congr hobj _ _ _).symm.trans ((rd_setTile _ _ _ _ _ _).symm.trans hon.1)

/-- A fence cell that arrives for a tile's one re-pin ends the wait for its class. -/
theorem fenceArrives_single {u : State} {t : Nat} {r : Repin} (hone : (getTile u t).repins = [r]) (cls : Nat) :
    fenceArrives u t r.dst r.entry cls =
      setTile u t { getTile u t with repins := [{ r with waits := r.waits.filter (· != cls) }] } := by
  simp only [fenceArrives, hone, List.map_cons, List.map_nil, and_self, if_true]

/-- A re-pin that waits for no class more: its entry has switched, and its held cells go on. -/
def switched (s : State) (t dst entry : Nat) (r : Repin) : State :=
  goOnHeld (pathTaken (setTile s t { getTile s t with repins := (getTile s t).repins.filter (· != r) }) t dst entry r.path) t r

/-- The last acknowledgement switches the entry; a path that was asked for meanwhile starts its own re-pin. -/
theorem fenceAcked_complete {s : State} {t dst entry : Nat} {r : Repin} (hrepin : repinOf s t dst entry = some r) (hwaits : r.waits = []) :
    fenceAcked s t dst entry = match r.queued with
      | [] => switched s t dst entry r
      | v :: rest => startRepin (switched s t dst entry r) t dst entry v rest := by
  simp only [fenceAcked, hrepin, hwaits, ne_eq, not_true_eq_false, if_false]
  rfl

/-! Lanes and failure of a Tidelink (R122, R123). -/

/-- A direction after the loss of a lane that carried: a spare takes the lane over when one is left and no earlier loss is unspared. -/
def laneGone (x : TlDir) (k : Nat) : TlDir :=
  if x.spared.length + x.dead < 2 ∧ (x.lost.all fun n => n == k || x.spared.contains n) = true then
    { x with lost := k :: x.lost, spared := k :: x.spared }
  else { x with lost := k :: x.lost }

/-- The loss of a carrying lane that leaves its direction with some width shows, and is told as sparing or as narrowing. -/
theorem tlLaneLost_carries {s : State} {l k : Nat} {d : LinkDir} (hcarries : linkCarries s l = true)
    (hlost : (getDir (getLink s l) d).lost.contains k = false) (hspared : (getDir (getLink s l) d).spared.contains k = false)
    (hwidth : dirWidth (laneGone (getDir (getLink s l) d) k) ≠ 0) :
    tlLaneLost s l d k =
      if dirWidth (laneGone (getDir (getLink s l) d) k) = 64 then
        raise (showLink (setLink s l (setDirSt (getLink s l) d (laneGone (getDir (getLink s l) d) k))) l) (0x3100 + l) 3 .notice []
      else raise (showLink (setLink s l (setDirSt (getLink s l) d (laneGone (getDir (getLink s l) d) k))) l) (0x3100 + l) 5 .fault [] := by
  rw [laneGone] at hwidth ⊢
  simp only [tlLaneLost, hcarries, hlost, hspared, Bool.true_eq_false, Bool.false_eq_true, false_and, or_self, if_false, List.all_cons,
    beq_self_eq_true, Bool.true_or, Bool.true_and, hwidth]

/-! Targets, repair and training (R117, R123). -/

/-- A target of 1 on a link that is off trains it when both its tiles are on. -/
theorem tidelinkTargetWrite_trains {s : State} {l : Nat} (hl : l < 6) (hoff : rd s 0x3100 2 l = 0)
    (hlow : rd s 0x3000 2 (linkEnds l).1 = 3) (hhigh : rd s 0x3000 2 (linkEnds l).2 = 3) :
    tidelinkTargetWrite s l 1 = (wr (wr s 0x3100 1 l 1) 0x3100 2 l 1, .ok) := by
  obtain ⟨hfst, hsnd⟩ := linkEnds_lt l
  have htile : ∀ t < 4, rd (wr s 0x3100 1 l 1) 0x3000 2 t = rd s 0x3000 2 t := fun t ht =>
    rd_wr_other s 1 fun hkey => by unfold okey at hkey; omega
  have htrains : rd (wr s 0x3100 1 l 1) 0x3100 2 l = 0 ∧ rd (wr s 0x3100 1 l 1) 0x3000 2 (linkEnds l).1 = 3
      ∧ rd (wr s 0x3100 1 l 1) 0x3000 2 (linkEnds l).2 = 3 :=
    ⟨(rd_wr_row s l 1 (by decide)).trans hoff, (htile _ hfst).trans hlow, (htile _ hsnd).trans hhigh⟩
  rw [tidelinkTargetWrite, if_neg (by decide), if_pos htrains]

/-- In SERVICE a repair retrains all lanes. -/
theorem tidelinkRepairWrite_service {s : State} (hmode : modeNow s = 5) (l : Nat) :
    tidelinkRepairWrite s l = (wr (cmdStart s 0x3100 12 l) 0x3100 2 l 1, .ok) := if_neg (not_not_intro hmode)

/-- A link as training leaves it, with the lanes that stayed faulty in each direction. -/
def trainedLink (s : State) (l up down : Nat) : State :=
  showLink (setLink (openLink (openLink s (linkEnds l).1 l) (linkEnds l).2 l) l
    { up := trainedDir up, down := trainedDir down, awaitLow := false, awaitHigh := false, timeouts := [] }) l

/-- Training that leaves both directions some width shows the link; a full one ends the alarm. -/
theorem linkTrained_carries {s : State} {l up down : Nat} (hon : rd s 0x3100 1 l ≠ 0) (hidle : linkCarries s l = false)
    (hlow : rd s 0x3000 2 (linkEnds l).1 = 3) (hhigh : rd s 0x3000 2 (linkEnds l).2 = 3) (hup : dirWidth (trainedDir up) ≠ 0)
    (hdown : dirWidth (trainedDir down) ≠ 0) :
    linkTrained s l up down = if rd (trainedLink s l up down) 0x3100 2 l = 2 ∨ rd (trainedLink s l up down) 0x3100 2 l = 3 then
      endLevel (trainedLink s l up down) (0x3100 + l) 5 else trainedLink s l up down := by
  have htrains : ¬(rd s 0x3100 1 l = 0 ∨ linkCarries s l = true ∨ rd s 0x3000 2 (linkEnds l).1 ≠ 3 ∨ rd s 0x3000 2 (linkEnds l).2 ≠ 3) := by
    simp [hon, hidle, hlow, hhigh]
  simp only [linkTrained, if_neg htrains, if_neg (not_or.2 ⟨hup, hdown⟩)]
  rfl

/-- Settles O36: each command through the fact of its own operation. -/
theorem switchCommandsComplete : Obligations.SwitchCommandsComplete := by
  intro s
  refine ⟨fun _ _ => rfl, ?timeout, ?linkTimeout, ?flit, ?ack, ?period, ?path, ?fence, ?fenceAck, ?lane, ?failure, ?report, ?noReport, ?target,
    ?repair, ?trained, ?pass⟩
  case timeout => exact fun t x hruns hholds hlink => exec_crossingTimeout_unlinked hruns hholds hlink
  case linkTimeout =>
    rintro t x l _ hruns hholds hlink rfl hfirst
    exact exec_crossingTimeout_first hruns hholds hlink hfirst
  case flit =>
    rintro l d f _ hcarries rfl hup hdown
    exact exec_tidelinkFlit_received hcarries hup hdown
  case ack =>
    rintro l d _ hcarries rfl hlast
    exact exec_ackTimeout_resends hcarries hlast
  case period =>
    intro t u hoff hu hobj
    rw [← loadsShown] at hu
    rw [hu] at hobj ⊢
    exact exec_balancerPeriod_off hoff hobj
  case path => exact fun r t a vs u haccepted hwrite => next_rowChunk haccepted hwrite
  case fence =>
    rintro t d e c _ r rfl hone hdst hentry
    show Host.Outcome.next (fenceArrives _ t.val d.val e.toNat c.val) = _
    rw [← hdst, ← hentry] at hone ⊢
    rw [fenceArrives_single hone]
  case fenceAck =>
    rintro t d e r _ hrepin hwaits rfl
    have hacked := fenceAcked_complete hrepin hwaits
    constructor
    · intro hqueued
      rw [hqueued] at hacked
      exact congrArg Host.Outcome.next hacked
    · intro k rest hqueued
      rw [hqueued] at hacked
      exact congrArg Host.Outcome.next hacked
  case lane =>
    rintro l d k _ _ _ hcarries rfl hlost hspared rfl rfl
    constructor <;> intro hwidth
    · exact congrArg Host.Outcome.next ((tlLaneLost_carries hcarries hlost hspared (ne_of_eq_of_ne hwidth (by decide))).trans (if_pos hwidth))
    · exact congrArg Host.Outcome.next ((tlLaneLost_carries hcarries hlost hspared (ne_of_eq_of_ne hwidth (by decide))).trans
        (if_neg (ne_of_eq_of_ne hwidth (by decide))))
  case failure =>
    rintro l _ _ hcarries rfl rfl
    exact congrArg Host.Outcome.next (if_pos hcarries)
  case report => exact fun l t g hawaits => congrArg Host.Outcome.next (if_pos hawaits)
  case noReport => exact fun l t hawaits => congrArg Host.Outcome.next (if_pos hawaits)
  case target =>
    intro r l v haccepted hv hoff hlow hhigh
    refine next_rowWrite haccepted ?_
    rw [hv]
    exact tidelinkTargetWrite_trains l.isLt hoff hlow hhigh
  case repair => exact fun r l haccepted hmode => next_rowWrite haccepted (tidelinkRepairWrite_service hmode l.val)
  case trained =>
    rintro l a b _ hon hidle hlow hhigh hup hdown rfl
    exact congrArg Host.Outcome.next (linkTrained_carries hon hidle hlow hhigh hup hdown)
  case pass => exact fun t l hon => congrArg Host.Outcome.next (if_pos hon)

end Sys2Proof.Proofs
end

section
/-!
SUPPORT. Memory (R149, R270): what a byte reads after a write and after a scrub, and O46.
-/
namespace Sys2Proof.Proofs

open Sys2Proof Sys2Proof.Machine

/-- An address below every listed one reads as the default. -/
theorem memRead_of_lt {k : Nat} : ∀ {n : Nat} {m : List Host.Cell}, k < n → memWfFrom n m = true → memRead m k = memDefault
  | _, [], _, _ => rfl
  | n, (a, w) :: t, hk, hwf => by
    simp only [memWfFrom, Bool.and_eq_true, decide_eq_true_eq] at hwf
    obtain ⟨⟨ha, -⟩, ht⟩ := hwf
    rw [memRead, if_neg (by omega), memRead_of_lt (by omega) ht]

/-- A byte in front of memory that does not list its address: listed, or left out as the default. -/
theorem memRead_cons_of_unlisted {m : List Host.Cell} {k : Nat} (hunlisted : memRead m k = memDefault) (v : Byte) (b : Nat) :
    memRead (if v = memDefault then m else (k, v) :: m) b = if b = k then v else memRead m b := by
  by_cases hv : v = memDefault
  · rw [if_pos hv, hv]
    split
    · rename_i hb
      rw [hb, hunlisted]
    · rfl
  · rw [if_neg hv, memRead]

/-- A byte reads what was last written to it. -/
theorem memRead_memWrite (k : Nat) (v : Byte) (b : Nat) :
    ∀ {n : Nat} {m : List Host.Cell}, memWfFrom n m = true → memRead (memWrite m k v) b = if b = k then v else memRead m b
  | _, [], _ => memRead_cons_of_unlisted (m := []) rfl v b
  | n, (a, w) :: t, hwf => by
    simp only [memWfFrom, Bool.and_eq_true, decide_eq_true_eq] at hwf
    obtain ⟨-, ht⟩ := hwf
    rw [memWrite]
    rcases Nat.lt_trichotomy k a with hlt | rfl | hgt
    · have hunlisted : memRead ((a, w) :: t) k = memDefault := by rw [memRead, if_neg (by omega), memRead_of_lt (by omega) ht]
      rw [if_pos hlt, memRead_cons_of_unlisted hunlisted]
    · rw [if_neg (Nat.lt_irrefl k), if_pos rfl, memRead_cons_of_unlisted (memRead_of_lt (Nat.lt_succ_self k) ht), memRead]
      split <;> rfl
    · rw [if_neg (by omega), if_neg (by omega), memRead, memRead, memRead_memWrite k v b ht]
      by_cases hb : b = a
      · rw [if_pos hb, if_pos hb, if_neg (by omega)]
      · rw [if_neg hb, if_neg hb]

/-- Cells taken out by their address read as the default, and the others as before. -/
theorem memRead_filter (p : Nat → Bool) (b : Nat) :
    ∀ m : List Host.Cell, memRead (m.filter fun c => p c.1) b = if p b = true then memRead m b else memDefault
  | [] => by simp [memRead]
  | (a, w) :: t => by
    rw [List.filter_cons]
    by_cases hb : b = a
    · subst hb
      by_cases hp : p b = true
      · simp [hp, memRead]
      · simp [hp, memRead_filter p b t]
    · split <;> simp [memRead, hb, memRead_filter p b t]

/-- A scrubbed range reads as zeros. -/
theorem memRead_memClear (m : List Host.Cell) (lo hi b : Nat) :
    memRead (memClear m lo hi) b = if lo ≤ b ∧ b < hi then 0 else memRead m b := by
  rw [memClear, memRead_filter fun a => !(decide (lo ≤ a) && decide (a < hi))]
  by_cases hin : lo ≤ b ∧ b < hi
  · simp [hin, memDefault]
  · have hkept : (!(decide (lo ≤ b) && decide (b < hi))) = true := by simpa [← Bool.decide_and] using hin
    rw [if_neg hin, if_pos hkept]

/-- Settles O46: what a byte reads after each operation, and the canonical form that both keep. -/
theorem memoryReadsBack : Obligations.MemoryReadsBack := fun m a v lo hi hwf =>
  ⟨memWrite_wf a v hwf, fun b => memRead_memWrite a v b hwf, memClear_wf lo hi hwf, memRead_memClear m lo hi⟩

end Sys2Proof.Proofs
end

section
/-!
SUPPORT. Extents (R144 to R153): what each step of an extent's life does when its conditions hold, and O11.
-/
namespace Sys2Proof.Proofs

open Sys2Proof Sys2Proof.Machine

@[simp] theorem getExt_setExt_same (s : State) (e : Nat) (v : Extent) : getExt (setExt s e v) e = v := look_put_same _ _ _ _
@[simp] theorem getExt_cmdStart (s : State) (i b q e : Nat) : getExt (cmdStart s i b q) e = getExt s e := rfl

/-- A mailbox that is open runs its command. -/
theorem mailboxRun_open {s : State} {i : Nat} (h : mailboxOpen s i = true) (f : State → State) : mailboxRun s i f = f s := if_pos h

/-- A grant that passes its checks on blocks without a test makes its extent. -/
theorem grantCommand_makes {s : State} {v : List Byte} {f : Nat} (hlen : v.length = 32) (hform : grantForm (parseGrant v) = true)
    (htest : testsBlock s (parseGrant v).target (parseGrant v).first (parseGrant v).blocks = false)
    (hchecks : grantChecks (cmdStart s 0x4110 1 0) (parseGrant v) = 0) (hrun : grantRun (cmdStart s 0x4110 1 0) (parseGrant v) = some f) :
    grantCommand s v = (cmdEnd (makeExtent (cmdStart s 0x4110 1 0) (parseGrant v) f) 0x4110 1 0 2 0, .ok) := by
  have haction : grantAction s (parseGrant v) = cmdEnd (makeExtent (cmdStart s 0x4110 1 0) (parseGrant v) f) 0x4110 1 0 2 0 := by
    simp only [grantAction, hchecks, hrun, ne_eq, not_true_eq_false, if_false]
  have hwrite : grantWrite s v = (cmdEnd (makeExtent (cmdStart s 0x4110 1 0) (parseGrant v) f) 0x4110 1 0 2 0, .ok) := by
    rw [grantWrite, if_pos (And.intro hlen hform), haction]
  simp only [grantCommand, hwrite, htest, Bool.false_eq_true, and_false, if_false]

/-- The host's answer to an offer that stands accepts it or withdraws it. -/
theorem exec_addDynamicCapacityResponse_offered {s : State} {i : InstN} {e : ExtentN} (hopen : mailboxOpen s i.val = true)
    (hoffered : (getExt s e.val).st = 1) (hinst : (getExt s e.val).inst = i.val) (accept : Bool) :
    exec (.addDynamicCapacityResponse i e accept) s =
      .next (mailboxReply (if accept then acceptOffer s e.val else withdrawOffer s e.val 0x7B) i.val 0 []) :=
  congrArg Host.Outcome.next ((mailboxRun_open hopen _).trans (if_pos ⟨hoffered, hinst⟩))

/-- A Release of an active extent asks its host. -/
theorem releaseWrite_asks {s : State} {e : Nat} (hactive : (getExt s e).st = 2) :
    releaseWrite s e (be 4 0) = (dcEvent (setExt (setExt (cmdStart s (extObj e) 3 (extQ e)) e { getExt s e with cmd := true }) e
      { getExt s e with cmd := true, asked := true }) 1 (getExt s e), .ok) := by
  have hvalue : ofBe (be 4 0) = 0 := by decide
  simp [releaseWrite, hvalue, hactive]

/-- A forced Release of an active extent begins at once. -/
theorem releaseWrite_forces {s : State} {e : Nat} (hactive : (getExt s e).st = 2) :
    releaseWrite s e (be 4 1) = (beginRelease (dcEvent (setExt (cmdStart s (extObj e) 3 (extQ e)) e { getExt s e with cmd := true }) 2
      (getExt s e)) e, .ok) := by
  have hvalue : ofBe (be 4 1) = 1 := by decide
  simp [releaseWrite, hvalue, hactive]

/-- The host releases its active extent. -/
theorem exec_releaseDynamicCapacity_active {s : State} {i : InstN} {e : ExtentN} (hopen : mailboxOpen s i.val = true)
    (hactive : (getExt s e.val).st = 2) (hinst : (getExt s e.val).inst = i.val) :
    exec (.releaseDynamicCapacity i e) s = .next (mailboxReply (beginRelease s e.val) i.val 0 []) :=
  congrArg Host.Outcome.next ((mailboxRun_open hopen _).trans (if_pos ⟨hactive, hinst⟩))

/-- The tiles' acknowledgement of a record that leaves the index ends its first phase. -/
theorem exec_cacheAck_releasing {s : State} {e : ExtentN} (hreleasing : (getExt s e.val).st = 3) (hphase : (getExt s e.val).phase = 1) :
    exec (.cacheAck e) s = .next (dropIndex (setExt s e.val { getExt s e.val with indexed := false, phase := 2 }) e.val) :=
  congrArg Host.Outcome.next ((if_neg (by omega)).trans (if_pos ⟨hreleasing, hphase⟩))

/-- The traffic that a scrub of `n` bytes counts: its lines, written and read back; in an HBM stack also as an event. -/
def scrubCounted (s : State) (t n : Nat) : State :=
  if t < 4 then largeEvent (systemTraffic s t (2 * (n / 64))) (76 + t) 8 (n / 64) else systemTraffic s t (2 * (n / 64))

/-- A block in scrubbing whose gate passes both passes of the scrub is counted and scrubbed. -/
theorem scrubTarget_passes {s x y : State} {t b : Nat} (hscrubs : (getBlk s t b).st = 3) (hunshared : (getBlk s t b).sharers = 0)
    (hwrite : gateRange s (blkLo s t b) (blockSize s t) .system true (2 ^ 28 + 256 * tgtHome t * 128 + 64) = (x, true))
    (hread : gateRange x (blkLo s t b) (blockSize s t) .system false (2 ^ 28 + 256 * tgtHome t * 128 + 64) = (y, true)) :
    scrubTarget s t b = scrubBlock (scrubCounted y t (blockSize s t)) t b := by
  simp only [scrubTarget, hscrubs, hunshared, hwrite, hread, and_self, if_true]
  rfl

/-- Settles O11: each command through the fact of its own step. -/
theorem extentCommandsComplete : Obligations.ExtentCommandsComplete := by
  intro s
  refine ⟨?grant, ?accept, ?decline, ?timeout, ?release, ?forced, ?hostRelease, ?indexed, ?unindexed, ?drainLimit, ?drained, ?scrub, ?scrubbed⟩
  case grant =>
    exact fun r v f haccepted hlen hform htest hchecks hrun => next_rowWrite haccepted (grantCommand_makes hlen hform htest hchecks hrun)
  case accept =>
    intro i e hopen hoffered hinst
    rw [exec_addDynamicCapacityResponse_offered hopen hoffered hinst, ← hinst]
    rfl
  case decline => exact fun i e hopen hoffered hinst => exec_addDynamicCapacityResponse_offered hopen hoffered hinst false
  case timeout => exact fun e hoffered => congrArg Host.Outcome.next (if_pos hoffered)
  case release => exact fun r e haccepted hactive => next_rowWrite haccepted (releaseWrite_asks hactive)
  case forced => exact fun r e haccepted hactive => next_rowWrite haccepted (releaseWrite_forces hactive)
  case hostRelease =>
    intro i e hopen hactive hinst
    rw [exec_releaseDynamicCapacity_active hopen hactive hinst, ← hinst]
    rfl
  case indexed => exact fun e hst => congrArg Host.Outcome.next (if_pos hst)
  case unindexed => exact fun e hreleasing hphase => exec_cacheAck_releasing hreleasing hphase
  case drainLimit => exact fun e hreleasing hphase => congrArg Host.Outcome.next (if_pos ⟨hreleasing, hphase⟩)
  case drained => exact fun e hreleasing hphase hnone => congrArg Host.Outcome.next (if_pos ⟨hreleasing, hphase, hnone⟩)
  case scrub => exact fun g b hkept => congrArg Host.Outcome.next (if_neg hkept)
  case scrubbed =>
    rintro g b _ _ x y w hkept hscrubs hunshared rfl rfl hwrite hread hcounted hst hsharers
    have hw : w = scrubCounted y g.val (blockSize s g.val) := hcounted
    refine congrArg Host.Outcome.next ((if_neg hkept).trans ((scrubTarget_passes hscrubs hunshared hwrite hread).trans ?_))
    rw [← hw]
    exact if_pos ⟨hst, hsharers⟩

end Sys2Proof.Proofs
end

section
/-!
SUPPORT. Targets and HBM health (R134, R153 to R157, R435): what each write and event does when its conditions hold, and O12.
-/
namespace Sys2Proof.Proofs

open Sys2Proof Sys2Proof.Machine

/-! The pool target (R132, R152). -/

/-- A target outside the pool that is written out stays where it is. -/
theorem targetPoolWrite_out {s : State} {t : Nat} (hst : tgtState s t = 0 ∨ tgtState s t = 1) :
    targetPoolWrite s t 0 = (wr s 0x4000 1 t 0, .ok) := by
  have hout : tgtState s t = 0 ∨ tgtState s t = 1 ∨ tgtState s t = 7 := hst.imp_right .inl
  have hfailed : ¬(tgtState s t = 7 ∧ 4 ≤ t) := by omega
  simp only [targetPoolWrite, if_pos hout, if_neg hfailed, if_true]

/-- A candidate whose link is up and that no vPPB is bound to starts its join. -/
theorem targetPoolWrite_joins {s : State} {t : Nat} (hdsp : 4 ≤ t) (hcandidate : tgtState s t = 1) (hup : tgtLinkUp s t = true)
    (hfree : boundToVppb s (t - 16) = false) : targetPoolWrite s t 1 = (wr (startJoin (leavePool s t) t) 0x4000 1 t 1, .ok) := by
  have hdevice : ¬t < 4 := by omega
  simp [targetPoolWrite, hcandidate, hup, hfree, hdevice]

/-- An active target that is told to drain ends at once when nothing holds it. -/
theorem targetPoolWrite_drains {s : State} {t : Nat} (hactive : tgtState s t = 3) :
    targetPoolWrite s t 2 = (Machine.drainDone (wr (wr s 0x4000 2 t 4) 0x4000 1 t 2) t, .ok) := by
  simp [targetPoolWrite, hactive]

/-! The end of a join (R151, R168), and the near tier (R144). -/

/-- A join whose capacity goes beyond the pool limit or the tags of its tile fails. -/
theorem finishJoin_beyond {s : State} {t : Nat}
    (h : poolLimit s < poolBytes s - tgtBytes s t + devBlocks s t * blockSize s t
      ∨ tagBytes s (tgtHome t) * 65536 < homedBytes s (tgtHome t) - tgtBytes s t + devBlocks s t * blockSize s t) (refuses : Bool) :
    finishJoin s t refuses = failJoin s t 0x7E := if_pos h

/-- A target's record after a join with `n` blocks: every block in scrubbing, and the device's serial number and capacity kept. -/
def joined (s : State) (t n : Nat) : State :=
  dropBlks (setTgt s t { getTgt s t with
    cap := n, base := 3, blocks := [], joinedSerial := (getTgt s t).serial, joinedCap := (getTgt s t).devCap, away := false }) t fun _ => true

/-- No location of a target has a colour. -/
def uncoloured (s : State) (t : Nat) : State :=
  { s with pool := { s.pool with colours := delIf s.pool.colours fun k _ => dpaTarget (k * 65536) == t } }

/-- A join within the limits that its device does not refuse makes the target active. -/
theorem finishJoin_joins {s : State} {t : Nat} (hsome : devBlocks s t ≠ 0)
    (hpool : poolBytes s - tgtBytes s t + devBlocks s t * blockSize s t ≤ poolLimit s)
    (htags : homedBytes s (tgtHome t) - tgtBytes s t + devBlocks s t * blockSize s t ≤ tagBytes s (tgtHome t) * 65536) :
    finishJoin s t false =
      wr (wr (wr (uncoloured (joined (programDevice s t (devBlocks s t * blockSize s t)) t (devBlocks s t)) t) 0x4000 2 t 3) 0x4000 16 t 0)
        0x4000 6 t (devBlocks s t * blockSize s t) := by
  have hwithin := not_or.2 ⟨Nat.not_lt.2 hpool, Nat.not_lt.2 htags⟩
  simp only [finishJoin, if_neg hwithin, if_neg hsome, Bool.false_eq_true, if_false]
  rfl

/-- Out of the pool a near-tier size only stands. -/
theorem nearTierCommand_out {s : State} {t : Nat} (hst : tgtState s t < 3 ∨ tgtState s t = 7) (v : Nat) :
    nearTierCommand s t v = (trimFrames (wr s 0x4000 8 t v) t, .ok) := by
  have hout : ¬(3 ≤ tgtState s t ∧ tgtState s t ≤ 6) := by omega
  rw [nearTierCommand, nearTierWrite, if_neg hout]

/-- In the pool a near-tier size that holds the highest block in use takes effect. -/
theorem nearTierCommand_fits {s : State} {t v : Nat} (hlow : 3 ≤ tgtState s t) (hhigh : tgtState s t ≤ 6)
    (hfits : highBlock s t * blockSize s t ≤ min (nearBytes (wr s 0x4000 8 t v) t) (nearRoom s t)) :
    nearTierCommand s t v = (trimFrames (setNear (wr s 0x4000 8 t v) t) t, .ok) := by
  rw [nearTierCommand, nearTierWrite, if_pos ⟨hlow, hhigh⟩, if_neg (Nat.not_lt.2 hfits)]

/-! HBM health (R155 to R157). -/

/-- A pseudo-channel that fails as the first of its stripe set is told at Fault. -/
theorem failChannel_first {s : State} {t pc : Nat} (hsound : bit (rd s 0x4001 1 t) pc = false)
    (hfirst : failedIn (wr s 0x4001 1 t (setBit (rd s 0x4001 1 t) pc true)) t (stripeSet pc) < 2) :
    failChannel s t pc = raise (wr s 0x4001 1 t (setBit (rd s 0x4001 1 t) pc true)) (0x4100 + t) 3 .fault [] :=
  (if_neg (by simp [hsound])).trans (if_neg (Nat.not_le.2 hfirst))

/-- A pseudo-channel of a sound stripe set is retired as if it failed. -/
theorem retireWrite_sound {s : State} {t v : Nat} (hv : v ≤ 31) (hset : failedIn s t (stripeSet v) = 0) :
    retireWrite s t v = (cmdDone (failChannel s t v) 0x4001 5 t 0, .ok) := by
  rw [retireWrite, if_neg (Nat.not_lt.2 hv), if_neg (by simp [hset])]

/-- Settles O12: each command through the fact of its own operation. -/
theorem targetCommandsComplete : Obligations.TargetCommandsComplete := by
  intro s
  refine ⟨?out, ?join, ?drain, ?joins, ?joinFails, ?drained, ?lost, ?nearOut, ?nearIn, ?failure, ?retire, ?spare, ?exhausted⟩
  case out =>
    intro r g v haccepted hv hst
    refine next_rowWrite haccepted ?_
    rw [hv, targetPoolWrite_out hst]
  case join =>
    intro r g v haccepted hv hdsp hcandidate hup hfree
    refine next_rowWrite haccepted ?_
    rw [hv, targetPoolWrite_joins hdsp hcandidate hup hfree]
  case drain =>
    intro r g v haccepted hv hactive
    refine next_rowWrite haccepted ?_
    rw [hv, targetPoolWrite_drains hactive]
  case joins =>
    rintro g _ _ _ _ hjoining rfl rfl hsome hpool htags rfl rfl
    have hjoined := finishJoin_joins hsome hpool htags
    rw [uncoloured, joined] at hjoined
    exact congrArg Host.Outcome.next ((if_pos hjoining).trans hjoined)
  case joinFails =>
    rintro g _ _ hjoining rfl rfl hbeyond refuses
    exact congrArg Host.Outcome.next ((if_pos hjoining).trans (finishJoin_beyond hbeyond refuses))
  case drained =>
    exact fun g hdraining hextents hoverlay => congrArg Host.Outcome.next (if_pos ⟨hdraining, hextents, hoverlay⟩)
  case lost => exact fun g haway hst => congrArg Host.Outcome.next ((if_pos haway).trans (if_pos hst))
  case nearOut => exact fun r t v haccepted hst => next_rowWrite haccepted (nearTierCommand_out hst _)
  case nearIn => exact fun r t v haccepted hlow hhigh hfits => next_rowWrite haccepted (nearTierCommand_fits hlow hhigh hfits)
  case failure => exact fun t pc hsound hfirst => congrArg Host.Outcome.next (failChannel_first hsound hfirst)
  case retire => exact fun r t v haccepted hv hset => next_rowWrite haccepted (retireWrite_sound hv hset)
  case spare =>
    rintro t n _ rfl
    rfl
  case exhausted => exact fun t n hleft => congrArg Host.Outcome.next (if_neg (Bool.eq_false_iff.1 hleft))

end Sys2Proof.Proofs
end

section
/-!
SUPPORT. The gates under their default regions (R166): the records that read as unset, the region that covers a granule, and O53.
-/
namespace Sys2Proof.Proofs

open Sys2Proof Sys2Proof.Machine

/-- A key that a map does not list reads as the default. -/
theorem look_of_unlisted {α : Type} (d : α) {k : Nat} : ∀ {m : SMap α}, has m k = false → look d m k = d
  | [], _ => rfl
  | (j, v) :: t, h => by
    by_cases hj : k = j
    · exact Bool.noConfusion ((if_pos hj).symm.trans h)
    · exact (if_neg hj).trans (look_of_unlisted d ((if_neg hj).symm.trans h))

/-- An unset record 0 is valid and open over the whole window (R166). -/
theorem regionRec_zero_unset {s : State} {g : Nat} (h : has s.tbl (tkey 0x4200 1 g 0) = false) :
    regionRec s g 0 = 2 ^ 127 + 2 ^ 125 + 0xFFFFFFF := look_of_unlisted _ h

/-- An unset record other than record 0 is empty (R166). -/
theorem regionRec_pos_unset {s : State} {g n : Nat} (hn : 0 < n) (h : has s.tbl (tkey 0x4200 1 g n) = false) : regionRec s g n = 0 :=
  (look_of_unlisted _ h).trans (if_neg hn.ne')

/-- A valid record 0 over the whole window is the region of every granule of it. -/
theorem regionOf_zero {s : State} {g granule : Nat} (hvalid : regValid (regionRec s g 0) = true) (hbase : regBase (regionRec s g 0) = 0)
    (hlast : regLast (regionRec s g 0) = 0xFFFFFFF) (hgranule : granule ≤ 0xFFFFFFF) : regionOf s g granule = some 0 := by
  have hcovers : (regValid (regionRec s g 0) && decide (regBase (regionRec s g 0) ≤ granule ∧ granule ≤ regLast (regionRec s g 0))) = true := by
    rw [hvalid, hbase, hlast, Bool.true_and, decide_eq_true_iff]
    exact ⟨granule.zero_le, hgranule⟩
  have hfirst : List.range 64 = 0 :: (List.range 63).map Nat.succ := List.range_succ_eq_map
  rw [regionOf, hfirst]
  exact List.find?_cons_of_pos hcovers

/-- A granule's number within its window. -/
theorem granuleOf_dpaOffset_le (loc : Nat) : granuleOf (dpaOffset loc) ≤ 0xFFFFFFF := by
  unfold granuleOf dpaOffset
  omega

/-- In an open region a tenant is refused only at a quarantined granule (Table 8-4). -/
theorem gateKind_tenant_open {s : State} {loc : Nat} (hopen : policyAt s loc = some 1) (htag : tagLost s loc = false) (i : Nat) (w : Bool) :
    gateKind s loc (.tenant i) w = if colourAt s (granuleOf loc) = 0xFF then 3 else 0 := by
  simp only [gateKind, hopen, htag, Bool.false_eq_true, if_false]

/-- Settles O53: an unset record reads as its default, and record 0 then covers every granule with the open policy. -/
theorem defaultRegionsAreOpen : Obligations.DefaultRegionsAreOpen := by
  refine ⟨fun g n => rfl, fun s g hunset => ?_⟩
  have hzero : regionRec s g 0 = 2 ^ 127 + 2 ^ 125 + 0xFFFFFFF := regionRec_zero_unset (hunset 0 (by decide))
  have hvalid : regValid (regionRec s g 0) = true := by rw [hzero]; decide
  have hpolicy : regPolicy (regionRec s g 0) = 1 := by rw [hzero]; decide
  have hbase : regBase (regionRec s g 0) = 0 := by rw [hzero]; decide
  have hlast : regLast (regionRec s g 0) = 0xFFFFFFF := by rw [hzero]; decide
  refine ⟨hvalid, hpolicy, hbase, hlast, ?others, ?tenant⟩
  case others =>
    intro n hn hlt
    rw [regionRec_pos_unset hn (hunset n hlt)]
    decide
  case tenant =>
    rintro loc i w rfl htag
    have hregion := regionOf_zero hvalid hbase hlast (granuleOf_dpaOffset_le loc)
    have hopen : policyAt s loc = some 1 := by rw [policyAt, hregion, Option.map_some, hpolicy]
    exact gateKind_tenant_open hopen htag i w

end Sys2Proof.Proofs
end

section
/-!
SUPPORT. CXL.mem requests and AtomicOps at the ports (chapter 5, R169, R204, R207): a request whose address decodes, and O7.
-/
namespace Sys2Proof.Proofs

open Sys2Proof Sys2Proof.Machine

/-- A request that the port takes and nothing holds enters the instance that its address decodes to. -/
theorem next_hostAccess {s : State} {p hpa i off : Nat} {db : Bool} (htakes : takesMem s p = true) (hidle : modeHolding s = false)
    (hdecodes : decodeHpa s p hpa = some (i, off, db)) (m : Ask1) :
    (Host.Outcome.next (hostAccess s p hpa m) : Host.Outcome State Fault Refusal) = .next (enterInst s p i off db m) := by
  simp only [hostAccess, htakes, hidle, hdecodes, Bool.false_and, Bool.true_eq_false, Bool.false_eq_true, if_false]

/-- An AtomicOp that the base specification has goes on as a request of the host (R204). -/
theorem exec_atomicop_forwards {s : State} {p : PortN} {hpa : BitVec 64} {k : AtomKind} {size : AtomSize} (htakes : takesMem s p.val = true)
    (hok : atomOk k size hpa.toNat = true) (a b : BitVec 128) (tag : BitVec 16) (tc : Fin 4) :
    exec (.atomicop p hpa k size a b tag tc) s = .next (hostAccess s p.val hpa.toNat
      { kind := .atomic k size a.toNat b.toNat, tag := tag.toNat, tc := tc.val, len := atomLen k size, cls := 6, opcode := atomOpcode k
        data := [], be := 0, keepS := false }) :=
  congrArg Host.Outcome.next ((if_neg (by simp [htakes])).trans (if_neg (by simp [hok])))

/-- An AtomicOp that the base specification does not have is answered with Unsupported Request. (Log 67: PRESUMED.) -/
theorem exec_atomicop_unsupported {s : State} {p : PortN} {hpa : BitVec 64} {k : AtomKind} {size : AtomSize} (htakes : takesMem s p.val = true)
    (hbad : atomOk k size hpa.toNat = false) (a b : BitVec 128) (tag : BitVec 16) (tc : Fin 4) :
    exec (.atomicop p hpa k size a b tag tc) s = .next (emit (portEvent s p.val 3 1 none 6) (.response p.val tag.toNat (.io 1 []))) :=
  congrArg Host.Outcome.next ((if_neg (by simp [htakes])).trans (if_pos hbad))

/-- Settles O7: each opcode makes its own message, which enters where its address decodes to. -/
theorem hostRequestsReachTheirInstance : Obligations.HostRequestsReachTheirInstance := by
  intro s
  refine ⟨?rd, ?rdData, ?inv, ?wr, ?clnEvct, ?specRd, ?atomic, ?unsupported⟩
  case rd => exact fun p hpa ask tag tc i off db htakes hidle hdecodes => next_hostAccess htakes hidle hdecodes _
  case rdData => exact fun p hpa tag tc i off db htakes hidle hdecodes => next_hostAccess htakes hidle hdecodes _
  case inv => exact fun p hpa ask tag tc i off db htakes hidle hdecodes => next_hostAccess htakes hidle hdecodes _
  case wr => exact fun p hpa data m ks tag tc i off db htakes hidle hdecodes => next_hostAccess htakes hidle hdecodes _
  case clnEvct => exact fun p hpa tag tc i off db htakes hidle hdecodes => next_hostAccess htakes hidle hdecodes _
  case specRd => exact fun p hpa i off db htakes hidle hdecodes => next_hostAccess htakes hidle hdecodes _
  case atomic =>
    intro p hpa k size a b tag tc i off db htakes hidle hok hdecodes
    exact (exec_atomicop_forwards htakes hok a b tag tc).trans (next_hostAccess htakes hidle hdecodes _)
  case unsupported => exact fun p hpa k size a b tag tc htakes hbad => exec_atomicop_unsupported htakes hbad a b tag tc

end Sys2Proof.Proofs
end

section
/-!
SUPPORT. The commands of the colour gates (R172 to R177, R190): a recolour that waits for nothing, a query of a granule in an extent, a range
back-invalidation that is done, and O10.
-/
namespace Sys2Proof.Proofs

open Sys2Proof Sys2Proof.Machine

/-- A recolour of granules in extents, none of them tracked or locked, takes effect at once (R177). -/
theorem recolourWrite_finishes {s : State} {v : List Byte} (hn : fieldBe v 12 4 ≠ 0) (haligned : fieldBe v 4 8 % 65536 = 0)
    (hinst : fieldBe v 0 2 < 4096) (hfits : fieldBe v 12 4 * 65536 ≤ instBytes s (fieldBe v 0 2) fun _ => true)
    (hall : (recolourKeys s (fieldBe v 0 2) (fieldBe v 4 8) (fieldBe v 12 4)).any Option.isNone = false)
    (huntracked : trackedRanges s ((recolourKeys s (fieldBe v 0 2) (fieldBe v 4 8) (fieldBe v 12 4)).filterMap id) = [])
    (hunlocked : ((recolourKeys s (fieldBe v 0 2) (fieldBe v 4 8) (fieldBe v 12 4)).filterMap id).any (locked s) = false) :
    recolourWrite s v = (finishRecolour (cmdStart s 0x4300 3 0) (fieldBe v 0 2) (fieldBe v 4 8) (fieldBe v 12 4) (fieldBe v 3 1), .ok) := by
  have hform : ¬(fieldBe v 12 4 = 0 ∨ fieldBe v 4 8 % 65536 ≠ 0) := by simp [hn, haligned]
  have hrange : ¬(4096 ≤ fieldBe v 0 2 ∨ instBytes s (fieldBe v 0 2) (fun _ => true) < fieldBe v 12 4 * 65536) :=
    not_or.2 ⟨Nat.not_le.2 hinst, Nat.not_lt.2 hfits⟩
  simp only [recolourWrite, if_neg hform, if_neg hrange, hall, huntracked, hunlocked, ne_eq, not_true_eq_false, Bool.false_eq_true, or_self,
    if_false]

/-- A query of a granule in an extent in use reads its colour, as valid. -/
theorem queryWrite_found {s : State} {v : List Byte} {key : Nat} (h : keyAt s (fieldBe v 0 2) (fieldBe v 4 8) extInUse = some key) :
    queryWrite s v = (wr (cmdDone s 0x4300 4 0 0) 0x4300 5 0 (0x100 + colourAt s (granuleOf (locOf s key))), .ok) := by
  simp only [queryWrite, h]

/-- A range back-invalidation with no line left and no lock to wait for is done (R190). -/
theorem exec_rangeBackInvalidationComplete_done {s : State} {j : Nat} {x : Rbi} (hruns : s.coh.rbis.find? (fun e => e.1 == j) = some (j, x))
    (hnone : rbiLeft s x = []) (hfree : rbiWaits s x.why = false) :
    exec (.rangeBackInvalidationComplete j) s = .next (rbiDone { s with coh := { s.coh with rbis := del s.coh.rbis j } } x.why) := by
  show execRangeBackInvalidationComplete j s = _
  simp only [execRangeBackInvalidationComplete, hruns, hnone, hfree, ne_eq, not_true_eq_false, Bool.false_eq_true, if_false]

/-- Settles O10: each command through the fact of its own operation. -/
theorem gateCommandsComplete : Obligations.GateCommandsComplete := by
  intro s
  refine ⟨?clear, ?recolour, ?query, ?done⟩
  case clear => exact fun r g haccepted => next_rowWrite haccepted rfl
  case recolour =>
    exact fun r v haccepted hn haligned hinst hfits hall huntracked hunlocked =>
      next_rowWrite haccepted (recolourWrite_finishes hn haligned hinst hfits hall huntracked hunlocked)
  case query => exact fun r v key haccepted hkey => next_rowWrite haccepted (queryWrite_found hkey)
  case done => exact fun j x hruns hnone hfree => exec_rangeBackInvalidationComplete_done hruns hnone hfree

end Sys2Proof.Proofs
end

section
/-!
SUPPORT. Answers to snoops, and the events of the directory and the slices (R141, R184 to R210): what an answer leaves of its line, a walk that
brings an entry into a cache, and O8.
-/
namespace Sys2Proof.Proofs

open Sys2Proof Sys2Proof.Machine

/-- A host that leaves an entry does not change its form (R186). -/
@[simp] theorem dropHolder_coarse (l : Line) (p : Nat) : (dropHolder l p).coarse = l.coarse := by
  unfold dropHolder
  split <;> rfl

/-- The answer to the only invalidation that an entry with pointers waits for takes its host out of the entry (R187). -/
theorem snoopAnswer_onlyInv {s : State} {k p : Nat} (honly : (getLine s k).snoops = [(p, .inv)]) (hfine : (getLine s k).coarse = false)
    (rsp : BiRsp) : snoopAnswer s k p rsp none =
      resume (largeEvent (setLine s k (dropHolder { getLine s k with snoops := [] } p)) (68 + lineHome s k) 4 1) k := by
  simp [snoopAnswer, honly, hfine]

/-- An answer that the line waits for is taken as the answer to its snoop. -/
theorem exec_birsp_awaited {s : State} {p : PortN} {key : LineN} (hup : linkUp s p.val = true)
    (hawaited : (getLine s key.toNat).snoops.any (fun e => e.1 == p.val) = true) (rsp : BiRsp) (d : Option (List Byte)) :
    exec (.birsp p key rsp d) s = .next (snoopAnswer s key.toNat p.val rsp d) :=
  congrArg Host.Outcome.next ((if_neg (by simp [hup])).trans (if_neg (by simp [hawaited])))

/-- A clean copy that the home asks back, with no request in service, is gone (Table 9-5). -/
theorem sliceAnswer_clean {s : State} {t k : Nat} (hasked : (getLine s k).sliceAsks.contains t = true) (hidle : (getLine s k).cur = none)
    (hclean : dirtySt (sliceAt (getLine s k) t) = false) : sliceAnswer s t k none =
      resume (setLine s k (setSlice { getLine s k with sliceAsks := (getLine s k).sliceAsks.filter (· != t) } t .i)) k := by
  simp only [sliceAnswer, hasked, hidle, hclean, Bool.true_eq_false, Bool.false_eq_true, if_false]

/-- A snooped host that does not answer is given up, without Viral where 0x2300:04 does not ask for it (R191). -/
theorem biTimeout_givesUp {s : State} {p k : Nat} (hp : p < 65536) (hsnooped : (getLine s k).snoops.any (fun e => e.1 == p) = true)
    (hquiet : rd s 0x2300 4 p ≠ 1) : biTimeout s p k = loseHost (raise (bump s 0x6000 9 0 32 1) (0x6200 + p) 6 .critical []) p := by
  have hkey : okey 0x2300 4 p ≠ okey 0x6000 9 0 := by unfold okey; omega
  have hkept : rd (raise (bump s 0x6000 9 0 32 1) (0x6200 + p) 6 .critical []) 0x2300 4 p = rd s 0x2300 4 p :=
    (rd_raise _ _ _ _ _ _ _ _).trans (rd_wr_other s _ hkey)
  simp only [biTimeout, if_pos hsnooped, hkept, if_neg hquiet]

/-- No scan for a host runs once its scan has ended (R210). -/
theorem scanLost_ends (s : State) (p : Nat) : (scanLost s p).coh.lostHosts.contains p = false := by
  simp [scanLost]

/-- A key that a cache does not hold enters it where its set has a free way. -/
theorem cachePut_free {s : State} {slot t key : Nat} (hnew : (cacheKeys s slot t).contains key = false)
    (hfree : ((cacheKeys s slot t).filter fun y => cacheSet slot y == cacheSet slot key).length < cacheWays slot) :
    cachePut s slot t key =
      { s with pool := { s.pool with caches := put s.pool.caches (8 * slot + t) (cacheKeys s slot t ++ [key]) } } :=
  (if_neg (by simpa using hnew)).trans (if_pos hfree)

/-- The walk for a key is under way no more. -/
def endWalk (s : State) (w key : Nat) : State := { s with pool := { s.pool with walks := s.pool.walks.filter (· != (w, key)) } }

/-- A walk that finds a record brings its key into the cache; walks of the translation are counted (R141). -/
theorem cacheFill_found {s : State} {kind t key x : Nat} (hruns : s.pool.walks.contains (8 * kind + t, key) = true)
    (hfound : walkKey s kind key = some x) : cacheFill s kind t key =
      if kind ≤ 2 then bump (cachePut (endWalk s (8 * kind + t) key) (cacheSlot kind) t x) 0x4020 5 t 64 (if kind = 0 then 2 else 1)
      else cachePut (endWalk s (8 * kind + t) key) (cacheSlot kind) t x := by
  have hkept : walkKey (endWalk s (8 * kind + t) key) kind key = some x := hfound
  unfold endWalk at hkept ⊢
  simp only [cacheFill, if_pos hruns, hkept]

/-- A walk of the backing that finds an entry caches it (R184). -/
theorem dirFill_found {s : State} {h key : Nat} (hruns : s.pool.walks.contains (24 + h, key) = true) (hentry : entryWord s key ≠ 0) :
    dirFill s h key = dirPut (endWalk s (24 + h) key) h key :=
  (if_pos hruns).trans (if_neg hentry)

/-- Settles O8: each answer and event through the fact of its own operation. -/
theorem snoopAnswersComplete : Obligations.SnoopAnswersComplete := by
  intro s
  refine ⟨?birsp, ?biconflict, ?slice, ?silent, ?hold, ?scan, ?flush, ?lookup, ?select, ?walk, ?directory⟩
  case birsp =>
    intro p key x hup honly hfine _
    exact (exec_birsp_awaited hup (by simp [honly]) x none).trans (congrArg Host.Outcome.next (snoopAnswer_onlyInv honly hfine x))
  case biconflict => exact fun p key hup => congrArg Host.Outcome.next (if_pos hup)
  case slice => exact fun t key hasked hidle hclean => congrArg Host.Outcome.next (sliceAnswer_clean hasked hidle hclean)
  case silent => exact fun p key hsnooped hquiet => congrArg Host.Outcome.next (biTimeout_givesUp (p.isLt.trans (by decide)) hsnooped hquiet)
  case hold => exact fun key => rfl
  case scan => exact fun p hruns => ⟨scanLost s p.val, congrArg Host.Outcome.next (if_pos hruns), scanLost_ends s p.val⟩
  case flush => exact fun r t haccepted => next_rowWrite haccepted rfl
  case lookup => exact fun r t v haccepted => next_rowWrite haccepted rfl
  case select => exact fun p hwaits => congrArg Host.Outcome.next (if_pos hwaits)
  case walk =>
    rintro t k key x u hkind hruns hfound hnew hfree rfl
    have hput := cachePut_free (s := endWalk s (8 * walkKind k + t.val) key) hnew hfree
    exact congrArg Host.Outcome.next ((if_neg hkind).trans ((cacheFill_found hruns hfound).trans (by rw [hput]; rfl)))
  case directory => exact fun t key hruns hentry => congrArg Host.Outcome.next (dirFill_found hruns hentry)

end Sys2Proof.Proofs
end

section
/-!
SUPPORT. Littoral (R216 to R231): what each stage of a move comes to when nothing stands in its way, a manual move that is queued, and O13.
-/
namespace Sys2Proof.Proofs

open Sys2Proof Sys2Proof.Machine

/-- A pass over lines that the gates let through is the copy of the lines. -/
theorem copyPass_let {s u : State} {g : Nat} {m : Move} (hgate : copyGate s g m = (u, true)) (ls : List Nat) :
    copyPass s g m ls = copyLines u g m ls := by
  simp only [copyPass, hgate, if_true]

/-- A recall that leaves no line held starts the copy of the granule, with the tracker's mask clear (R224). -/
theorem recallDone_copies {s u : State} {g : Nat} {m : Move} (hm : moveAt s g = some m) (hphase : m.phase = 2)
    (hnone : recallLines s g = [])
    (hgate : copyGate (setMove s g { m with phase := 3, mask := 0 }) g { m with phase := 3, mask := 0 } = (u, true)) :
    recallDone s g = copyLines u g { m with phase := 3, mask := 0 } (List.range 1024) := by
  simp only [recallDone, hm, hphase, hnone, ne_eq, not_true_eq_false, if_false]
  exact copyPass_let hgate _

/-- A copy that is complete is followed by a round of re-copy of the marked lines. (Log 94: DEDUCED.) -/
theorem copyDone_recopies {s u : State} {g : Nat} {m : Move} (hm : moveAt s g = some m) (hphase : m.phase = 3)
    (hgate : copyGate (setMove s g { m with phase := 4, mask := 0, rounds := m.rounds + 1 }) g
      { m with phase := 4, mask := 0, rounds := m.rounds + 1 } = (u, true)) :
    copyDone s g = copyLines u g { m with phase := 4, mask := 0, rounds := m.rounds + 1 } (marked m) := by
  simp only [copyDone, hm, hphase, if_true]
  exact copyPass_let hgate _

/-- A granule without a holder is locked: its remap entry takes CUTOVER (R225). -/
theorem lockMove_locks {s : State} {g : Nat} (hnone : recallLines s g = []) (m : Move) : lockMove s g m =
    setRemap (setMove s g { m with phase := 5, lockAt := s.clock.core }) g { cutover := true, dest := m.source } :=
  if_neg (not_not.2 hnone)

/-- A round of re-copy that leaves few enough lines marked is followed by the lock (R224). -/
theorem copyDone_locks {s : State} {g : Nat} {m : Move} (hm : moveAt s g = some m) (hphase : m.phase = 4)
    (hfew : (marked m).length ≤ rd s 0x6800 10 0) : copyDone s g = lockMove s g m := by
  simp [copyDone, hm, hphase, hfew]

/-- A cut-over that holds no request, within the move or for the granule, ends with the granule at its destination (R225). -/
theorem cutOver_unheld {s u v w x y z : State} {g : Nat} {m : Move} (hm : moveAt s g = some m) (hphase : m.phase = 5) (hheld : m.held = [])
    (hgate : copyGate s g m = (u, true)) (hv : v = copyLines u g m (marked m))
    (hw : w = setColour (setColour v m.dest (colourAt v m.source)) m.source 0)
    (hx : x = handOver w g (moveTile m) (tgtHome (dpaTarget (m.dest * 65536))))
    (hy : y = if m.back then delRemap x g else setRemap x g { cutover := false, dest := m.dest })
    (hz : z = setMove (litBump y (moveTile m) (if m.back then 2 else 1) 1) g { m with phase := 6, mask := 0, held := [], waits := [0, 1, 2, 3] })
    (hunlocked : look [] z.lit.locked g = []) :
    cutOver s g = { z with lit := { z.lit with locked := del z.lit.locked g } } := by
  subst hv hw hx hy
  simp only [cutOver, hm, hphase, hgate, hheld, ne_eq, not_true_eq_false, Bool.true_eq_false, Bool.false_eq_true, if_false, List.any_nil,
    false_and, List.filter_nil, ← hz, takeLocked, hunlocked, List.append_nil]
  rfl

/-- The guard of a lock abandons its move, and is counted and told (R227). -/
theorem guardExpires_locked {s : State} {g : Nat} {m : Move} (hm : moveAt s g = some m) (hphase : m.phase = 5) : guardExpires s g =
    runMoves (raise (litBump (abandonMove s g 0x98) (moveTile m) 12 1) (litSource (moveTile m)) 14 .notice []) := by
  simp only [guardExpires, hm, hphase, ne_eq, not_true_eq_false, if_false]

/-- A tile that receives the release message frees what its requests wait for, and has acknowledged (R226). -/
theorem releaseMessage_settling {s : State} {t g : Nat} {m : Move} (hm : moveAt s g = some m) (hphase : m.phase = 6) : releaseMessage s t g =
    freeHeld (setMove s g { m with held := m.held.filter (fun r => reqTile r != t), waits := m.waits.filter (· != t) })
      (m.held.filter fun r => reqTile r == t) := by
  simp only [releaseMessage, hm, hphase, ne_eq, not_true_eq_false, if_false]

/-- A return by the policy from a target that is no stack settles: the slot is free, and the granule is far (R226). -/
theorem settleMove_back {s : State} {g : Nat} {m : Move} (hm : moveAt s g = some m) (hphase : m.phase = 6) (hwaits : m.waits = [])
    (hback : m.back = true) (hpolicy : m.manual = false) (hfar : 4 ≤ dpaTarget (m.source * 65536)) : settleMove s g =
    runMoves (markPlace { s with lit := { s.lit with moves := del s.lit.moves g, slots := del s.lit.slots m.source } } g 0) := by
  simp only [settleMove, hm, hphase, hwaits, hback, hpolicy, if_neg (Nat.not_lt.2 hfar), ne_eq, not_true_eq_false, Bool.false_eq_true,
    or_self, if_true, if_false]

/-- A manual move of granules that exist and may move is queued ahead of the policy's changes (R231). -/
theorem moveWrite_queues {s u : State} {v : List Byte} {gs : List Nat} {a : Nat} (hlen : v.length = 24) (ha : a = fieldBe v 2 1)
    (haction : a ≤ 3) (hstack : a = 0 → fieldBe v 3 1 ≤ 3 ∨ fieldBe v 3 1 = 255) (hn : fieldBe v 12 4 ≠ 0)
    (haligned : fieldBe v 4 8 % 65536 = 0) (hfits : fieldBe v 12 4 * 65536 ≤ instBytes s (fieldBe v 0 2) fun _ => true)
    (hgs : gs = (rangeGrans s (fieldBe v 0 2) (fieldBe v 4 8) (fieldBe v 12 4)).filterMap id) (hall : gs.length = fieldBe v 12 4)
    (hfar : gs.any (fun g => !farGran g) = false)
    (hknobs : gs.any (fun g => ((a == 0 || a == 3) && granKnob s g == 3) || (a == 0 && granKnob s g == 2)) = false)
    (hu : u = { wr (cmdStart s 0x6830 1 0) 0x6830 2 0 0 with lit := { s.lit with
      queue := s.lit.queue.filter (·.manual)
        ++ gs.map (fun g => { g := g, action := a, stack := fieldBe v 3 1, tile := keyTile g, manual := true })
        ++ s.lit.queue.filter (fun x => !x.manual)
      left := fieldBe v 12 4, lastReason := 0 } }) :
    moveWrite s v = (if litState u = 2 then u else runMoves u, .ok) := by
  subst ha hgs hu
  have hform : ¬(3 < fieldBe v 2 1 ∨ fieldBe v 12 4 = 0 ∨ fieldBe v 4 8 % 65536 ≠ 0
      ∨ (fieldBe v 2 1 = 0 ∧ 3 < fieldBe v 3 1 ∧ fieldBe v 3 1 ≠ 255)) := by omega
  have hroom : ¬(fieldBe v 0 2 < 4096 ∧ instBytes s (fieldBe v 0 2) (fun _ => true) < fieldBe v 12 4 * 65536) :=
    fun h => Nat.not_lt.2 hfits h.2
  simp only [moveWrite, hlen, if_neg hform, if_neg hroom, hall, hfar, hknobs, ne_eq, not_true_eq_false, Bool.false_eq_true, or_self, if_false]
  rfl

/-- Settles O13: each event through the fact of its own stage. -/
theorem littoralEventsComplete : Obligations.LittoralEventsComplete := by
  intro s
  refine ⟨?epoch, ?called, ?copy, ?lock, ?cutOver, ?guard, ?release, ?settle, ?fill, ?manual⟩
  case epoch => rintro t _ _ rfl rfl; rfl
  case called =>
    rintro g m _ u hm hphase hnone rfl hgate
    exact congrArg Host.Outcome.next (recallDone_copies hm hphase hnone hgate)
  case copy =>
    rintro g m _ u hm hphase rfl hgate
    exact congrArg Host.Outcome.next (copyDone_recopies hm hphase hgate)
  case lock =>
    intro g m hm hphase hfew hnone
    exact congrArg Host.Outcome.next ((copyDone_locks hm hphase hfew).trans (lockMove_locks hnone m))
  case cutOver =>
    exact fun g m u v w x y z hm hphase hheld hgate hv hw hx hy hz hunlocked =>
      congrArg Host.Outcome.next (cutOver_unheld hm hphase hheld hgate hv hw hx hy hz hunlocked)
  case guard => exact fun g m hm hphase => congrArg Host.Outcome.next (guardExpires_locked hm hphase)
  case release => exact fun t g m hm hphase => congrArg Host.Outcome.next (releaseMessage_settling hm hphase)
  case settle =>
    exact fun g m hm hphase hwaits hback hpolicy hfar =>
      congrArg Host.Outcome.next (settleMove_back hm hphase hwaits hback hpolicy hfar)
  case fill => exact fun g k hframe hfilling => congrArg Host.Outcome.next (if_pos ⟨hframe, hfilling⟩)
  case manual =>
    exact fun r v gs a u haccepted hlen ha haction hstack hn haligned hfits hgs hall hfar hknobs hu =>
      next_rowWrite haccepted (moveWrite_queues hlen ha haction hstack hn haligned hfits hgs hall hfar hknobs hu)

end Sys2Proof.Proofs
end

section
/-!
SUPPORT. The scheduler of an engine (R237): the context that a ring's pointer reaches first, the ring that a cycle serves, and O54.
-/
namespace Sys2Proof.Proofs

open Sys2Proof Sys2Proof.Machine

/-- How many slots a context stands after the pointer of its ring. -/
def slotsAhead (ptr : Nat) (k : Ctx) : Nat := (k.slot + 72 - ptr) % 72

/-! The choice from a ring, as one ready context more is looked at. -/

theorem ringChoice_concat_none {ptr : Nat} {l : List (Nat × Ctx)} (h : ringChoice ptr l = none) (x : Nat × Ctx) :
    ringChoice ptr (l ++ [x]) = some x := by
  rw [ringChoice] at h ⊢
  rw [List.foldl_concat, h]

theorem ringChoice_concat_some {ptr : Nat} {l : List (Nat × Ctx)} {b : Nat × Ctx} (h : ringChoice ptr l = some b) (x : Nat × Ctx) :
    ringChoice ptr (l ++ [x]) = some (if slotsAhead ptr x.2 < slotsAhead ptr b.2 then x else b) := by
  rw [ringChoice] at h ⊢
  rw [List.foldl_concat, h, apply_ite some]
  rfl

/-- A ring chooses nothing only when it has no ready context. -/
theorem ringChoice_eq_none_iff {ptr : Nat} {l : List (Nat × Ctx)} : ringChoice ptr l = none ↔ l = [] := by
  refine ⟨fun h => ?_, fun h => by rw [h]; rfl⟩
  rcases List.eq_nil_or_concat' l with rfl | ⟨l, x, rfl⟩
  · rfl
  · cases hl : ringChoice ptr l with
    | none => rw [ringChoice_concat_none hl] at h; cases h
    | some b => rw [ringChoice_concat_some hl] at h; cases h

/-- The context chosen is in its ring, and none there is nearer to the pointer. -/
theorem ringChoice_nearest {ptr : Nat} {l : List (Nat × Ctx)} :
    ∀ {b : Nat × Ctx}, ringChoice ptr l = some b → b ∈ l ∧ ∀ x ∈ l, slotsAhead ptr b.2 ≤ slotsAhead ptr x.2 := by
  induction l using List.reverseRecOn with
  | nil => exact fun h => nomatch h
  | append_singleton l y ih =>
    intro b h
    cases hl : ringChoice ptr l with
    | none =>
      obtain rfl : l = [] := ringChoice_eq_none_iff.1 hl
      obtain rfl : y = b := Option.some.inj h
      exact ⟨List.mem_singleton.2 rfl, fun x hx => by rw [List.mem_singleton.1 hx]⟩
    | some a =>
      obtain ⟨hmem, hle⟩ := ih hl
      rw [ringChoice_concat_some hl, Option.some.injEq] at h
      subst h
      split
      case isTrue hnearer =>
        refine ⟨List.mem_append_right l (List.mem_singleton.2 rfl), List.forall_mem_append.2 ⟨fun x hx => hnearer.le.trans (hle x hx), ?_⟩⟩
        exact List.forall_mem_singleton.2 le_rfl
      case isFalse hfarther =>
        refine ⟨List.mem_append_left [y] hmem, List.forall_mem_append.2 ⟨hle, ?_⟩⟩
        exact List.forall_mem_singleton.2 (Nat.not_lt.1 hfarther)

/-- The ring that a cycle serves: the atomic one in its turn, or when the general one is empty. -/
theorem servesAtomic_iff (s : State) (e : Nat) :
    servesAtomic s e = true ↔ ready s e true ≠ [] ∧ (look false s.gecko.lastAtomic e = false ∨ ready s e false = []) := by
  simp [servesAtomic]

/-- A spent cycle leaves the pointer of the ring that it served one past its context. -/
theorem look_rings_spendCycle (s : State) (e slot : Nat) :
    look 0 (spendCycle s e slot).gecko.rings (2 * e + b2n !servesAtomic s e) = (slot + 1) % 72 := look_put_same _ _ _ _

/-- Settles O54: the cycle's turn, then the choice in the ring that it serves. -/
theorem engineServesRings : Obligations.EngineServesRings := by
  intro s e
  refine ⟨servesAtomic_iff s e, ?_, ringChoice_eq_none_iff⟩
  intro c k hchoice
  obtain ⟨hready, hnearest⟩ := ringChoice_nearest hchoice
  exact ⟨hready, hnearest, look_rings_spendCycle s e k.slot⟩

end Sys2Proof.Proofs
end

section
/-!
SUPPORT. Steps that are due and do not execute (R243, R260): the shapes that steps have, and O55.
-/
namespace Sys2Proof.Proofs

open Sys2Proof Sys2Proof.Machine

/-- An outcome that `issue` gives, with some body, for a context, an operation code and fields. -/
def ThroughIssue (s : State) (c op : Nat) (f : StepF) (o : Host.Outcome State Fault Refusal) : Prop :=
  ∃ body : State → State, o = .next (issue s c op f body)

/-! The shapes of steps that come to `issue` over another shape. -/

theorem aluStep_throughIssue (s : State) (c op : Nat) (f : StepF) (g : Nat → Nat → Nat → Flags → Alu) :
    ThroughIssue s c op f (.next (aluStep s c op f g)) := by
  unfold aluStep
  exact ⟨_, rfl⟩

theorem shiftStep_throughIssue (s : State) (c op : Nat) (f : StepF) (g : Nat → Nat → Nat → Flags → Alu) :
    ThroughIssue s c op f (.next (shiftStep s c op f g)) := by
  unfold shiftStep
  exact ⟨_, rfl⟩

theorem flagStep_throughIssue (s : State) (c op : Nat) (f : StepF) (g : Nat → Nat → Nat → Flags → Alu) :
    ThroughIssue s c op f (.next (flagStep s c op f g)) := by
  unfold flagStep
  exact ⟨_, rfl⟩

theorem atomicStep_throughIssue (s : State) (c op : Nat) (f : StepF) (kind : AtomKind) (size : AtomSize) (a b : Ctx → Nat) :
    ThroughIssue s c op f (.next (atomicStep s c op f kind size a b)) := by
  unfold atomicStep
  exact ⟨_, rfl⟩

theorem execStepHeat_throughIssue (c : CtxN) (f : StepF) (g : GranN) (w : Option (BitVec 64)) (s : State) :
    ThroughIssue s c.val 0x7C f (execStepHeat c f g w s) := by
  cases w with
  | none => exact ⟨_, rfl⟩
  | some w => exact ⟨_, rfl⟩

/-- Every step command goes through `issue` with its own operation code and fields: the meanings of steps differ in their bodies alone. -/
theorem exec_throughIssue {i : Instr} {c op : Nat} {f : StepF} (h : stepOf i = some (c, op, f)) (s : State) :
    ThroughIssue s c op f (exec i s) := by
  cases i with
  | stepHeat c f g w => cases h; exact execStepHeat_throughIssue c f g w s
  | stepAdd | stepAdc | stepSub | stepSbb | stepNeg | stepMul | stepMulhu | stepMulhs | stepMinu | stepMaxu | stepMins | stepMaxs | stepAnd
  | stepOr | stepXor | stepPopc | stepClz | stepBswap => cases h; exact aluStep_throughIssue _ _ _ _ _
  | stepLsl | stepLsr | stepAsr | stepRol | stepRor => cases h; exact shiftStep_throughIssue _ _ _ _ _
  | stepCmp | stepTst => cases h; exact flagStep_throughIssue _ _ _ _ _
  | stepAadd | stepAswp | stepAcas | stepAcas128 => cases h; exact atomicStep_throughIssue _ _ _ _ _ _ _ _
  | _ => cases h <;> exact ⟨_, rfl⟩

section
variable {s : State} {c op : Nat} {f : StepF} (hon : engineOn s (getCtx s c).engine = true)
  (hchosen : (engineChoice s (getCtx s c).engine).map (·.1) = some c) (hdue : stepDue s (getCtx s c) op f = true)
include hon hchosen hdue

/-- A step that is due on an empty budget takes fault 0x01 (R243). -/
theorem issue_emptyBudget (hbudget : (getCtx s c).budget = 0) (body : State → State) :
    issue s c op f body = stepFault (spent s c) c 1 0 0 := by
  simp only [issue, spent, hon, hchosen, hdue, hbudget, Bool.true_eq_false, ne_eq, not_true_eq_false, or_self, if_false, if_true]

/-- A step that is due and is not defined, or not allowed where it stands, takes fault 0x0E (R260). -/
theorem issue_undefined (hbudget : (getCtx s c).budget ≠ 0)
    (hundefined : stepDefined (decide ((getCtx s c).table < 512)) (getCtx s c).sp op f = false ∨ notAllowed (getCtx s c) op f = true)
    (body : State → State) : issue s c op f body = stepFault (account (spent s c) c) c 0x0E 0 0 := by
  simp only [issue, spent, faultStep, hon, hchosen, hdue, if_neg hbudget, if_pos hundefined, Bool.true_eq_false, ne_eq, not_true_eq_false,
    or_self, if_false]

end

/-- Settles O55: what `issue` answers, over every step command. -/
theorem noStepOnEmptyBudget : Obligations.NoStepOnEmptyBudget := by
  intro i s c op f hstep hon hchosen hdue
  obtain ⟨body, hexec⟩ := exec_throughIssue hstep s
  rw [hexec]
  exact ⟨fun hbudget => congrArg Host.Outcome.next (issue_emptyBudget hon hchosen hdue hbudget body),
    fun hbudget hundefined => congrArg Host.Outcome.next (issue_undefined hon hchosen hdue hbudget hundefined body)⟩

end Sys2Proof.Proofs
end

section
/-!
SUPPORT. The part common to every step that issues (R236, R243): what a spent cycle and a counted step leave of contexts and objects, and O56.
-/
namespace Sys2Proof.Proofs

open Sys2Proof Sys2Proof.Machine

@[simp] theorem getCtx_setCtx_same (s : State) (c : Nat) (v : Ctx) : getCtx (setCtx s c v) c = v := look_put_same _ _ _ _

theorem getCtx_setCtx_other (s : State) {c d : Nat} (v : Ctx) (h : d ≠ c) : getCtx (setCtx s c v) d = getCtx s d := look_put_other _ _ h _

/-- A context as a step that issues leaves it before its own effect. -/
def steppedCtx (k : Ctx) : Ctx :=
  { k with budget := k.budget - 1, steps := (k.steps + 1) % 2 ^ 32, sp := (k.sp + 1) % 16384 }

/-- The later of two values at a key is the one that a map holds. -/
theorem put_put_same {α : Type} (k : Nat) (a b : α) : ∀ m : SMap α, put (put m k a) k b = put m k b
  | [] => by simp [put]
  | (j, v) :: t => by
    rw [put, put]
    split
    · simp [put]
    · split
      · simp [put]
      · rw [put, if_neg (by assumption), if_neg (by assumption), put_put_same k a b t]

theorem setCtx_setCtx_same (s : State) (c : Nat) (a b : Ctx) : setCtx (setCtx s c a) c b = setCtx s c b := by
  simp only [setCtx, put_put_same]

/-- A step that issues: after the spent cycle its engine's step counter and its context change, and telemetry counts. -/
theorem stepped_eq (s : State) (c : Nat) : ∃ x, stepped s c =
    { setCtx (bump (spent s c) 0x8000 3 (getCtx s c).engine 64 1) c (steppedCtx (getCtx s c)) with tele := x } := by
  obtain ⟨x, hcounted⟩ := account_eq (spent s c) c
  have hctx : getCtx (account (spent s c) c) c =
      { getCtx s c with budget := (getCtx s c).budget - 1, steps := ((getCtx s c).steps + 1) % 2 ^ 32 } := by
    rw [hcounted]
    exact getCtx_setCtx_same _ _ _
  refine ⟨x, ?_⟩
  rw [stepped, retire, nextStep, hctx, hcounted]
  exact congrArg (fun a : State => { a with tele := x }) (setCtx_setCtx_same (bump (spent s c) 0x8000 3 (getCtx s c).engine 64 1) c _ _)

/-- Settles O56: the context and the engine's step counter are all that `stepped_eq` changes beside the ring and telemetry. -/
theorem stepFrame : Obligations.StepFrame := by
  intro s c
  obtain ⟨x, h⟩ := stepped_eq s c
  rw [h]
  refine ⟨getCtx_setCtx_same _ _ _, fun d hd => getCtx_setCtx_other _ _ hd, rfl, rfl, rfl, rfl, rfl, rfl, rfl, rfl, rfl, fun idx sub q hkey => ?_⟩
  exact rd_wr_other (spent s c) _ hkey

end Sys2Proof.Proofs
end

section
/-!
SUPPORT. The commands of the Gecko engines (R236 to R257): what each comes to when its conditions hold, and O25.
-/
namespace Sys2Proof.Proofs

open Sys2Proof Sys2Proof.Machine

/-! Invocations (R239 to R242). -/

/-- A bound context that can start work takes its next invocation. -/
theorem exec_invocationStart_bound {s : State} {c : CtxN} (hstart : canStart s c.val = true) (hbound : bindKind (bindRec s c.val) = 1) :
    exec (.invocationStart c none) s = .next (takeInvocation s c.val) :=
  congrArg Host.Outcome.next ((if_neg (by simp [hstart])).trans (if_pos hbound))

/-- A pooled context starts a table that its cluster has for the instance. -/
theorem startVendor_pooled {s : State} {c : Nat} {x : VendorWork} {ver b : Nat} (hswap : s.gecko.swapping.contains (ctxCluster c) = false)
    (htenant : c % 128 < 64) (hpooled : bindKind (bindRec s c) = 2) (htable : tableFor s c x.inst.val x.table.val = some (ver, b)) :
    startVendor s c x =
      beginInvocation s c x.table.val x.inst.val false x.atom false 0 0 ver b (x.args.map (·.toNat)) := by
  have hsys : decide (64 ≤ c % 128) = false := decide_eq_false (Nat.not_le.2 htenant)
  simp only [startVendor, hsys, hswap, hpooled, htable, Bool.false_eq_true, ne_eq, not_true_eq_false, and_false, false_and, or_self, if_false]

/-! Replies (R236, R274). -/

/-- The last of a context's memory replies finishes its step. -/
theorem memoryReply_ready {s : State} {c : Nat} {p : Pend} (hpend : (getCtx s c).pend = some p) (hhost : p.host = none)
    (hsnoop : p.snoop = none) (hready : p.ready = true) (hop : p.op ≠ 0x6A) (d : List Byte) :
    memoryReply s c d 0 = finishStep s c p := by
  simp only [memoryReply, hpend, hhost, hsnoop, hready, hop, Bool.true_eq_false, false_and, if_false]

/-- The completion of a host read frees its tag and finishes the step with its bytes. -/
theorem memoryReply_host {s : State} {c tag a n fn : Nat} {p : Pend} (hpend : (getCtx s c).pend = some p) (hhost : p.host = some (tag, a, n))
    (hop : p.op ≠ 0x6A) (hfn : instFn s (getCtx s c).inst = some fn) (d : List Byte) :
    memoryReply s c d 0 = finishStep (setFn s fn { getFn s fn with reads := (getFn s fn).reads.filter (· != (c, tag)) }) c
      { p with bytes := padTo d n, host := none } := by
  simp only [memoryReply, hpend, hhost, hfn, hop, ne_eq, not_true_eq_false, if_false]

/-- The answer to a context's BISnp finishes its step. -/
theorem memoryReply_snoop {s : State} {c q k : Nat} {p : Pend} (hpend : (getCtx s c).pend = some p) (hhost : p.host = none)
    (hsnoop : p.snoop = some (q, k)) (hanswered : (getLine s k).snoops.any (fun e => e.1 == q) = false) (d : List Byte) :
    memoryReply s c d 0 = finishStep s c { p with snoop := none } := by
  simp only [memoryReply, hpend, hhost, hsnoop, hanswered, Bool.false_eq_true, if_false]

/-! The wait-cycle monitor (R253). -/

/-- A tenant group in a wait cycle: its youngest context is aborted, and the cycle is told at Fault. -/
theorem waitCycle_tenant {s : State} {cl g : Nat} {y : Nat × Ctx} {l : List (Nat × Ctx)} (hg : g < 0xFE) (hcycle : inWaitCycle s cl g = true)
    (hyoungest : ((groupRunning (bump s 0x8010 4 (32 * cl) 32 1) cl g).mergeSort fun a b => decide (b.2.start ≤ a.2.start)) = y :: l) :
    waitCycle s cl g = raiseEv (stepFault (clusterEvent (bump (bump s 0x8010 4 (32 * cl) 32 1) 0x8010 5 (32 * cl) 32 1) cl 0x2A 1
      (ctxInst (getCtx s y.1))) y.1 9 0 0) (clusterSource cl) 13 .fault 0 [g, y.1] true := by
  have hgroup : groupRunning (bump s 0x8010 4 (32 * cl) 32 1) cl g = groupRunning s cl g := rfl
  have hdeclared : ¬(g = 0xFE ∨ inWaitCycle s cl g = false) := not_or.2 ⟨hg.ne, by simp [hcycle]⟩
  have htenant : g ≠ 0xFF := by omega
  rw [hgroup] at hyoungest
  simp only [waitCycle, if_neg hdeclared, hyoungest, List.head?_cons, if_neg htenant]

/-! Engines (R254 to R257). -/

/-- An engine that fails while every context of it finds a slot: reissued steps are counted, and SPARED is told. (Log 105: DESIGN CHOICE.) -/
theorem engineFails_spared {s u : State} {e : Nat} (hon : engineOn s e = true)
    (hmoved : moveContexts (bump (wr (((hosted s e).filter fun c => (getCtx s c).pend.isSome &&
        (look [] s.gecko.replay e).contains (c, (getCtx s c).start, (getCtx s c).steps)).foldl
          (fun a c => clusterEvent a (e / 32) 0x29 1 (ctxInst (getCtx a c))) s) 0x8000 2 e 2) 0x8000 5 e 32 1) e = (u, true)) :
    engineFails s e = raise u (clusterSource (e / 32)) 3 .fault [] := by
  simp only [engineFails, hon, hmoved, if_true]

/-- An engine in service whose contexts all find failover slots is taken out of service. -/
theorem engineTargetWrite_out {s : State} {e : Nat} (hon : engineOn s e = true) (hroom : (hosted s e).length ≤ (failoverSlots s e).length) :
    engineTargetWrite s e 0 = ((moveContexts (wr (wr s 0x8000 1 e 0) 0x8000 2 e 0) e).1, .ok) := by
  simp only [engineTargetWrite, hon, Nat.not_lt.2 hroom, Bool.true_eq_false, if_true, if_false]

/-- An engine out of service returns at once. -/
theorem engineTargetWrite_returns {s : State} {e : Nat} (hout : rd s 0x8000 2 e = 0) :
    engineTargetWrite s e 1 = (engineReturns (wr s 0x8000 1 e 1) e, .ok) := by
  simp only [engineTargetWrite, hout, one_ne_zero, if_true, if_false]

/-- A failed engine is checked before it returns. -/
theorem engineTargetWrite_checks {s : State} {e : Nat} (hfailed : rd s 0x8000 2 e = 2) :
    engineTargetWrite s e 1 = ({ wr s 0x8000 1 e 1 with
      gecko := { s.gecko with checking := s.gecko.checking.filter (· != e) ++ [e] } }, .ok) := by
  simp only [engineTargetWrite, hfailed, one_ne_zero, OfNat.ofNat_ne_zero, if_true, if_false]
  rfl

/-! Tables and contexts (R244, R249, R250). -/

/-- A load for an owner that exists answers with what the verifier found. -/
theorem loadWrite_owner {s u : State} {owner code i : Nat} (howner : owner < 4096)
    (hload : loadImage s owner s.gecko.staging = (u, code, i)) : loadWrite s owner = (cmdDone u 0x8110 2 0 code, .ok) := by
  simp only [loadWrite, if_neg (Nat.not_le.2 howner), hload]

/-- A tenant's table that is there unloads, and is gone when nothing runs it. -/
theorem unloadWrite_tenant {s : State} {tb : Nat} {t : StepTable} (htenant : 512 ≤ tb) (htable : getTable s tb = some t) (r : Requester) :
    unloadWrite s r tb = (dropTables (wr (cmdStart s 0x8100 11 tb) 0x8100 1 tb 4), .ok) := by
  have hstarted : getTable (cmdStart s 0x8100 11 tb) tb = some t := htable
  have hallowed : ¬(tb < 512 ∧ r ≠ .vendor) := fun h => Nat.not_lt.2 htenant h.1
  simp only [unloadWrite, if_neg hallowed, htable, Option.isSome_some, true_or, if_true, unloadTable, hstarted]

/-- A context that the requester may stop is stopped. -/
theorem stopWrite_allowed {r : Requester} {v : Nat} (h : v < 64 ∨ (v < 68 ∧ r = .vendor)) (s : State) (e : Nat) :
    stopWrite s r e v = (cmdDone (stopRun s (e * 128 + v)) 0x8001 1 e 0, .ok) := by
  have hrange : ¬68 ≤ v := by omega
  have hright : ¬(64 ≤ v ∧ r ≠ .vendor) := by
    rintro ⟨hsys, hr⟩
    exact h.elim (Nat.not_lt.2 hsys) fun hv => hr hv.2
  rw [stopWrite, if_neg hrange, if_neg hright]

/-- Settles O25: each command through the fact of its own operation. -/
theorem geckoCommandsComplete : Obligations.GeckoCommandsComplete := by
  intro s
  refine ⟨?bound, ?pooled, ?bindings, ?reply, ?hostReply, ?snoopReply, ?timer, ?waitCycle, ?failure, ?out, ?back, ?check, ?sound, ?faulty,
    ?moveBack, ?load, ?unload, ?expires, ?stop⟩
  case bound => exact fun c hstart hbound => exec_invocationStart_bound hstart hbound
  case pooled =>
    intro c x ver b hstart hswap htenant hpooled htable
    exact congrArg Host.Outcome.next ((if_neg (by simp [hstart])).trans (startVendor_pooled hswap htenant hpooled htable))
  case bindings =>
    intro r e a v u haccepted hwhole hwrite
    exact next_rowChunk haccepted ((if_neg (not_not_intro hwhole)).trans hwrite)
  case reply =>
    exact fun c d p hpend hhost hsnoop hready hop => congrArg Host.Outcome.next (memoryReply_ready hpend hhost hsnoop hready hop d)
  case hostReply =>
    exact fun c d p tag a n fn hpend hhost hop hfn => congrArg Host.Outcome.next (memoryReply_host hpend hhost hop hfn d)
  case snoopReply =>
    exact fun c d p q k hpend hhost hsnoop hanswered => congrArg Host.Outcome.next (memoryReply_snoop hpend hhost hsnoop hanswered d)
  case timer => exact fun c n htimer => congrArg Host.Outcome.next (if_pos (by rw [htimer]; rfl))
  case waitCycle =>
    exact fun cl g y l hg hcycle hyoungest => congrArg Host.Outcome.next (waitCycle_tenant hg hcycle hyoungest)
  case failure =>
    rintro e _ _ u hon rfl rfl hmoved
    exact congrArg Host.Outcome.next (engineFails_spared hon hmoved)
  case out => exact fun r e haccepted hon hroom => next_rowWrite haccepted (engineTargetWrite_out hon hroom)
  case back => exact fun r e haccepted hout => next_rowWrite haccepted (engineTargetWrite_returns hout)
  case check => exact fun r e haccepted hfailed => next_rowWrite haccepted (engineTargetWrite_checks hfailed)
  case sound => exact fun e hchecking => congrArg Host.Outcome.next (if_pos hchecking)
  case faulty => exact fun e hchecking => congrArg Host.Outcome.next (if_pos hchecking)
  case moveBack => exact fun c haway hon => congrArg Host.Outcome.next (if_pos ⟨haway, hon⟩)
  case load => exact fun r o u code i haccepted howner hload => next_rowWrite haccepted (loadWrite_owner howner hload)
  case unload => exact fun r tb t haccepted htenant htable => next_rowWrite haccepted (unloadWrite_tenant htenant htable r)
  case expires => exact fun tb hunloads => congrArg Host.Outcome.next (if_pos hunloads)
  case stop => exact fun r e v haccepted hallowed => next_rowWrite haccepted (stopWrite_allowed hallowed s e.val)

end Sys2Proof.Proofs
end

section
/-!
SUPPORT. The word of a step (R260, Table 12-1): numbers that stand beside one another in a word, the bits of each, and O43.
-/
namespace Sys2Proof.Proofs

open Sys2Proof Sys2Proof.Machine

/-- Two neighbours in a word: a number of `w` bits, and the bits above it. -/
def beside (w a v : Nat) : Nat := a * 2 ^ w + v

/-- Bits above the lower neighbour are the upper one's. -/
theorem bits_beside_upper {w v lo hi : Nat} (hv : v < 2 ^ w) (hlo : w ≤ lo) (hhi : lo ≤ hi) (a : Nat) :
    bits (beside w a v) hi lo = bits a (hi - w) (lo - w) := by
  obtain ⟨k, rfl⟩ := Nat.exists_eq_add_of_le hlo
  have hupper : beside w a v >>> w = a := by
    rw [beside, Nat.shiftRight_eq_div_pow, Nat.add_div_of_dvd_right (Nat.dvd_mul_left _ a), Nat.mul_div_cancel a (Nat.two_pow_pos w),
      Nat.div_eq_of_lt hv, Nat.add_zero]
  have hwidth : hi - w + 1 - k = hi + 1 - (w + k) := by omega
  rw [bits, Nat.shiftRight_add, hupper, Nat.add_sub_cancel_left, bits, hwidth]

/-- The lower neighbour's bits. -/
theorem bits_beside_lower {hi v : Nat} (hv : v < 2 ^ (hi + 1)) (a : Nat) : bits (beside (hi + 1) a v) hi 0 = v := by
  rw [bits, beside, Nat.shiftRight_zero, Nat.sub_zero, Nat.mul_add_mod', Nat.mod_eq_of_lt hv]

theorem bit_eq_decide_bits (v i : Nat) : bit v i = decide (bits v i i = 1) := by
  simp [bit, bits, Nat.testBit_eq_decide_div_mod_eq, Nat.shiftRight_eq_div_pow]

theorem beside_lt {w n a v : Nat} (ha : a < 2 ^ n) (hv : v < 2 ^ w) : beside w a v < 2 ^ (n + w) := by
  calc a * 2 ^ w + v < (a + 1) * 2 ^ w := by rw [Nat.succ_mul]; omega
    _ ≤ 2 ^ n * 2 ^ w := Nat.mul_le_mul_right _ ha
    _ = 2 ^ (n + w) := (Nat.pow_add 2 n w).symm

theorem b2n_lt (b : Bool) : b2n b < 2 := by cases b <;> decide

@[simp] theorem decide_b2n_eq_one (b : Bool) : decide (b2n b = 1) = b := by cases b <;> rfl

/-- The fields of Table 12-1 stand beside one another in the word, the reserved ones at 0. -/
theorem stepWord_eq (op : Nat) (f : StepF) : stepWord op f =
    beside 64 (beside 14 (beside 14 (beside 2 (beside 2 (beside 4 (beside 1 (beside 3 (beside 4 (beside 4 (beside 4 (beside 4 op f.rd.val)
      f.ra.val) f.rb.val) f.rc.val) f.sz.val) (b2n f.immb)) f.cond.val) f.space.val) 0) f.target.val) 0) f.imm.toNat := by
  simp only [stepWord, beside]
  ring

theorem stepWord_lt {op : Nat} (hop : op < 256) (f : StepF) : stepWord op f < 2 ^ 128 := by
  have hregs : beside 4 (beside 4 (beside 4 (beside 4 op f.rd.val) f.ra.val) f.rb.val) f.rc.val < 2 ^ 24 :=
    beside_lt (beside_lt (beside_lt (beside_lt hop f.rd.isLt) f.ra.isLt) f.rb.isLt) f.rc.isLt
  rw [stepWord_eq]
  exact beside_lt (beside_lt (beside_lt (beside_lt (beside_lt (beside_lt (beside_lt (beside_lt hregs f.sz.isLt) (b2n_lt f.immb)) f.cond.isLt)
    f.space.isLt) (by decide)) f.target.isLt) (by decide)) f.imm.isLt

/-- Settles O43: each field's bits are those of one neighbour in the word. -/
theorem stepWordRoundTrip : Obligations.StepWordRoundTrip := by
  intro op f hop
  have himm := f.imm.isLt
  have himmb := b2n_lt f.immb
  have hcode : bits op 7 0 = op := (Nat.mod_eq_of_lt (b := 256) hop)
  rw [stepWord_eq]
  refine ⟨?code, ?fields, ?reserved, stepWord_eq op f ▸ stepWord_lt hop f⟩
  case code => simp [wordOp, bits_beside_upper, himm, himmb, hcode]
  case fields => simp [wordStep, bits_beside_upper, bits_beside_lower, bit_eq_decide_bits, himm, himmb]
  case reserved => simp [wordReserved, bits_beside_upper, bits_beside_lower, himm]

end Sys2Proof.Proofs
end

section
/-!
SUPPORT. The end of an invocation (R239, R265): what END leaves of its context, of events and of completions, and O52.
-/
namespace Sys2Proof.Proofs

open Sys2Proof Sys2Proof.Machine

/-- Contexts, the events of wait groups and every queue's completions are as before. -/
structure SameWork (s t : State) : Prop where
  ctxs : t.gecko.ctxs = s.gecko.ctxs
  events : t.gecko.events = s.gecko.events
  compls : ∀ i, (getInst t i).compls = (getInst s i).compls

theorem SameWork.refl (s : State) : SameWork s s := ⟨rfl, rfl, fun _ => rfl⟩

theorem SameWork.trans {s t u : State} (h : SameWork s t) (k : SameWork t u) : SameWork s u :=
  ⟨k.ctxs.trans h.ctxs, k.events.trans h.events, fun i => (k.compls i).trans (h.compls i)⟩

theorem SameWork.ite {s x y : State} {p : Prop} [Decidable p] (h : SameWork s x) (k : SameWork s y) : SameWork s (if p then x else y) := by
  split
  · exact h
  · exact k

/-- An update of an instance that leaves its completions. -/
theorem setInst_sameWork {s : State} {i : Nat} {v : InstSt} (h : v.compls = (getInst s i).compls) : SameWork s (setInst s i v) := by
  refine ⟨rfl, rfl, fun j => ?_⟩
  rw [getInst, setInst, look_put]
  split
  · subst_vars
    exact h
  · rfl

theorem instMsix_sameWork (s : State) (i vec : Nat) : SameWork s (instMsix s i vec) := by
  unfold instMsix
  split
  · exact .ite ⟨rfl, rfl, fun _ => rfl⟩ ⟨rfl, rfl, fun _ => rfl⟩
  · exact .refl s

theorem instEvent_sameWork (s : State) (i n t k : Nat) : SameWork s (instEvent s i n t k) :=
  .ite ⟨rfl, rfl, fun _ => rfl⟩ (.refl s)

theorem clusterEvent_sameWork (s : State) (cl code n : Nat) (inst : Option Nat) : SameWork s (clusterEvent s cl code n inst) := by
  obtain ⟨x, h⟩ := smallEvent_eq s (32 + cl) code n 0 inst 0
  rw [clusterEvent, h]
  exact ⟨rfl, rfl, fun _ => rfl⟩

theorem bump_sameWork (s : State) (idx sub q w n : Nat) : SameWork s (bump s idx sub q w n) := ⟨rfl, rfl, fun _ => rfl⟩

/-- Tables that go away (R250) take no context, event or completion with them. -/
theorem dropTables_sameWork (s : State) : SameWork s (dropTables s) := by
  unfold dropTables
  extract_lets gone s1
  have hgone : SameWork s s1 := by
    refine List.foldlRecOn (motive := SameWork s) gone _ (.refl s) fun a h tb _ => h.trans ?_
    have hbackground : ∀ b : State, SameWork b (if (getInst b (rd a 0x8100 2 tb)).background = some tb then
        setInst b (rd a 0x8100 2 tb) { getInst b (rd a 0x8100 2 tb) with background := none } else b) :=
      fun b => .ite (setInst_sameWork rfl) (.refl b)
    refine .trans (t := wr (wr (wr (wr (wr (wr a 0x8100 1 tb 0) 0x8100 2 tb 0xFFFF) 0x8100 3 tb 0) 0x8100 4 tb 0) 0x8100 5 tb 0) 0x8100 6 tb 0)
      ⟨rfl, rfl, fun _ => rfl⟩ ((hbackground _).trans ?_)
    exact .ite ⟨rfl, rfl, fun _ => rfl⟩ ⟨rfl, rfl, fun _ => rfl⟩
  exact hgone.trans ⟨rfl, rfl, fun _ => rfl⟩

theorem pushCompl_sameWork (s : State) (i q : Nat) (b : List Byte) :
    SameWork (setInst s i { getInst s i with compls := put (getInst s i).compls q (look [] (getInst s i).compls q ++ [b]) }) (pushCompl s i q b) :=
  .ite (instMsix_sameWork _ _ _) (.refl _)

/-- A completion joins those of its queue (R239). -/
theorem look_compls_pushCompl (s : State) (i q : Nat) (b : List Byte) :
    look [] (getInst (pushCompl s i q b) i).compls q = look [] (getInst s i).compls q ++ [b] := by
  rw [(pushCompl_sameWork s i q b).compls, getInst, setInst, look_put_same, look_put_same]

/-- The completion of an invocation. -/
def complOf (k : Ctx) (status : Nat) : List Byte := complBytes k.tag status k.steps (nth 0 k.w 0) (nth 0 k.w 1)

/-- A running invocation has ended: its context is cleared, and its completion is written where a queue supplied it. -/
def completed (s : State) (c status : Nat) : State :=
  let k := getCtx s c
  if k.byQueue then pushCompl (setCtx s c (clearCtx s c k)) k.inst k.queue (complOf k status) else setCtx s c (clearCtx s c k)

theorem completed_gecko (s : State) (c status : Nat) :
    (completed s c status).gecko.ctxs = put s.gecko.ctxs c (clearCtx s c (getCtx s c))
      ∧ (completed s c status).gecko.events = s.gecko.events := by
  unfold completed
  dsimp only
  split
  · exact ⟨(pushCompl_sameWork _ _ _ _).ctxs, (pushCompl_sameWork _ _ _ _).events⟩
  · exact ⟨rfl, rfl⟩

/-- Then it is counted, tables that it held go away, and the context moves back to its own engine (R250, R257). -/
theorem endInvocation_running {s : State} {c : Nat} (hrunning : running (getCtx s c) = true) (hstarted : (getCtx s c).st ≠ 6) (status : Nat) :
    ∃ u, SameWork (completed s c status) u ∧ endInvocation s c status =
      if c % 128 < 64 ∧ bindKind (bindRec s c) = 2 then wakeBlocked (moveBack u c) else moveBack u c := by
  unfold endInvocation
  rw [if_neg (by simp [hrunning, hstarted])]
  refine ⟨_, ?_, rfl⟩
  refine .trans ?_ (dropTables_sameWork _)
  refine .trans ?_ (.ite (clusterEvent_sameWork _ _ _ _ _) (bump_sameWork _ _ _ _ _ _))
  exact .ite (.refl _) (instEvent_sameWork _ _ _ _ _)

/-- A context that moves back to its own engine keeps all but its place; events and instances stay. -/
theorem moveBack_leaves (s : State) (c : Nat) : (∃ e n, getCtx (moveBack s c) c = { getCtx s c with engine := e, slot := n })
    ∧ (moveBack s c).gecko.events = s.gecko.events ∧ (moveBack s c).insts = s.insts := by
  unfold moveBack
  dsimp only
  split
  · exact ⟨⟨_, _, getCtx_setCtx_same _ _ _⟩, rfl, rfl⟩
  · exact ⟨⟨_, _, rfl⟩, rfl, rfl⟩

theorem bit_setBit_false (v i : Nat) : bit (setBit v i false) i = false := by
  unfold setBit bit
  rw [if_neg Bool.false_ne_true]
  split
  case isTrue hset =>
    have hborrow := Nat.testBit_two_pow_add_eq (v - 2 ^ i) i
    rw [Nat.add_sub_cancel' (Nat.ge_two_pow_of_testBit hset), hset] at hborrow
    simpa using hborrow
  case isFalse hclear => simpa using hclear

/-- What the end of a running invocation leaves: its context idle without timer and event 25, every wait group's events, and its completion where a
queue supplied it. The wake of an AtomicOp that waits for a pooled context comes after that (R239, R241, R265). -/
theorem endInvocation_leaves {s : State} {c : Nat} {k : Ctx} (hk : getCtx s c = k) (hrunning : k.st = 2 ∨ k.st = 5) (status : Nat) :
    ∃ t, endInvocation s c status = (if c % 128 < 64 ∧ bindKind (bindRec s c) = 2 then wakeBlocked t else t) ∧ (getCtx t c).st = 1
      ∧ (getCtx t c).timer = none ∧ bit (getCtx t c).ext 1 = false ∧ t.gecko.events = s.gecko.events
      ∧ (k.byQueue = true → look [] (getInst t k.inst).compls k.queue = look [] (getInst s k.inst).compls k.queue ++ [complOf k status]) := by
  subst hk
  have hstarted : running (getCtx s c) = true := decide_eq_true (by omega)
  obtain ⟨u, hwork, hend⟩ := endInvocation_running hstarted (by omega) status
  obtain ⟨⟨e, n, hback⟩, hsignals, hinsts⟩ := moveBack_leaves u c
  obtain ⟨hctxs, hevents⟩ := completed_gecko s c status
  have hctx : getCtx u c = clearCtx s c (getCtx s c) := by rw [getCtx, hwork.ctxs, hctxs, look_put_same]
  rw [hctx] at hback
  refine ⟨moveBack u c, hend, ?_, ?_, ?_, ?_, fun hqueue => ?_⟩
  · rw [hback]; rfl
  · rw [hback]; rfl
  · rw [hback]; exact bit_setBit_false _ 1
  · rw [hsignals, hwork.events, hevents]
  · have hsame : getInst (moveBack u c) = getInst u := by funext i; rw [getInst, hinsts]; rfl
    rw [hsame, hwork.compls, completed, if_pos hqueue, look_compls_pushCompl]
    rfl

/-- A context whose step is counted (R243, R266). -/
def countedCtx (k : Ctx) : Ctx := { k with budget := k.budget - 1, steps := (k.steps + 1) % 2 ^ 32 }

/-- A counted step changes its context, and neither events, instances nor binding records. -/
theorem account_leaves (s : State) (c : Nat) : getCtx (account s c) c = countedCtx (getCtx s c)
    ∧ (account s c).gecko.events = s.gecko.events ∧ (account s c).insts = s.insts ∧ (account s c).tbl = s.tbl := by
  obtain ⟨x, hcounted⟩ := account_eq s c
  rw [hcounted]
  exact ⟨getCtx_setCtx_same _ _ _, rfl, rfl, rfl⟩

/-- A defined step of a class other than S holds allowed values in its own fields (R261). -/
theorem ownOk_of_stepDefined {vendor : Bool} {idx op : Nat} {f : StepF} {u : Usage} (husage : usageOf op = some u) (hclass : u.cls ≠ .s)
    (h : stepDefined vendor idx op f = true) : ownOk vendor idx op f = true := by
  simp only [stepDefined, husage, if_neg hclass, Bool.and_eq_true] at h
  exact h.2

/-- END takes 0 or 1 in IMM (Table 12-4). -/
theorem imm_le_one_of_issues_end {s : State} {c : Nat} {f : StepF} (h : issues s c 0x02 f) : f.imm.toNat ≤ 1 := by
  obtain ⟨_, _, _, _, hdefined, _⟩ := h
  exact of_decide_eq_true (ownOk_of_stepDefined rfl (by decide) hdefined)

theorem exec_stepEnd {s : State} {c : CtxN} {f : StepF} (h : issues s c.val 0x02 f) : exec (.stepEnd c f) s =
    .next (endInvocation (account (spent s c.val) c.val) c.val (if (getCtx (account (spent s c.val) c.val) c.val).handler = true ∧ f.imm.toNat ≠ 1
      then (getCtx (account (spent s c.val) c.val) c.val).fault else 0)) :=
  congrArg Host.Outcome.next (issue_issues h _)

/-- With 0 or 1 in IMM, a value other than 1 leaves IMM[0] at 0. -/
theorem ne_one_iff_bit_zero {m : Nat} (h : m ≤ 1) : m ≠ 1 ↔ bit m 0 = false := by
  interval_cases m <;> decide

/-- Settles O52: END ends the invocation of its context, which stands as counting the step leaves it. -/
theorem endStepEndsInvocation : Obligations.EndStepEndsInvocation := by
  rintro s c f k hissues rfl hrunning
  obtain ⟨hctx, hevents, hinsts, htbl⟩ := account_leaves (spent s c.val) c.val
  have hbind : bindRec (account (spent s c.val) c.val) c.val = bindRec s c.val := by rw [bindRec, rdTbl, htbl]; rfl
  have hinst : getInst (account (spent s c.val) c.val) = getInst s := by funext i; rw [getInst, hinsts]; rfl
  have himm := ne_one_iff_bit_zero (imm_le_one_of_issues_end hissues)
  obtain ⟨t, hend, hidle, htimer, hext, hkept, hcompl⟩ := endInvocation_leaves hctx hrunning
    (if (getCtx s c.val).handler = true ∧ f.imm.toNat ≠ 1 then (getCtx s c.val).fault else 0)
  refine ⟨t, ?_, hidle, htimer, hext, hkept.trans hevents, fun hqueue => ?_⟩
  · rw [exec_stepEnd hissues, hctx, ← hbind, ← hend]
    rfl
  · have hjoined := hcompl hqueue
    simp only [hinst, himm] at hjoined
    exact hjoined

end Sys2Proof.Proofs
end

section
/-!
SUPPORT. Control, event and move steps, and steps on registers (R252, R260 to R268, Tables 12-4 to 12-7): what each shape of step comes to when it
issues, and O21 and O22.
-/
namespace Sys2Proof.Proofs

open Sys2Proof Sys2Proof.Machine

/-- A step that only changes its context has issued. -/
theorem next_plainStep {s : State} {c op : Nat} {f : StepF} (h : issues s c op f) (g : Ctx → Ctx) :
    (Host.Outcome.next (plainStep s c op f g) : Host.Outcome State Fault Refusal) = .next (stepDone s c g) :=
  congrArg Host.Outcome.next (plainStep_issues h g)

/-- WAIT on a pending event consumes the lowest of its mask (R252). -/
theorem waitStep_pending {s : State} {c ev : Nat} {f : StepF} (h : issues s c 0x04 f)
    (hpending : lowestBit (pendingOf (stepped s c) c &&& f.imm.toNat) = some ev) :
    waitStep s c f = setCtx (consume (stepped s c) c ev) c (setReg (getCtx (consume (stepped s c) c ev) c) f.rd.val ev) := by
  rw [stepped] at hpending
  rw [waitStep, issue_issues h]
  simp only [hpending]
  rfl

/-- WAIT without a pending event of its mask waits (R252). -/
theorem waitStep_none {s : State} {c : Nat} {f : StepF} (h : issues s c 0x04 f)
    (hnone : lowestBit (pendingOf (stepped s c) c &&& f.imm.toNat) = none) :
    waitStep s c f = stepDone s c fun k => { k with st := 4, evmask := f.imm.toNat, waitRd := f.rd.val } := by
  rw [stepped] at hnone
  rw [waitStep, issue_issues h]
  simp only [hnone]
  rfl

/-- A word that is no step, due in a vendor table with budget left, takes fault 0x0E (R260). -/
theorem exec_undefinedStep {s : State} {c : CtxN} {w : BitVec 128}
    (hundefined : ¬(wordReserved w.toNat = true ∧ stepDefined true (getCtx s c.val).sp (wordOp w.toNat) (wordStep w.toNat) = true))
    (hon : engineOn s (getCtx s c.val).engine = true) (hchosen : (engineChoice s (getCtx s c.val).engine).map (·.1) = some c.val)
    (hvendor : (getCtx s c.val).table < 512) (hbudget : (getCtx s c.val).budget ≠ 0) :
    exec (.undefinedStep c w) s = .next (stepFault (account (spent s c.val) c.val) c.val 0x0E 0 0) := by
  have hdue : ¬(engineOn s (getCtx s c.val).engine = false ∨ (engineChoice s (getCtx s c.val).engine).map (·.1) ≠ some c.val
      ∨ 512 ≤ (getCtx s c.val).table) := by
    simp [hon, hchosen, hvendor]
  exact congrArg Host.Outcome.next ((if_neg hundefined).trans ((if_neg hdue).trans (if_neg hbudget)))

/-- Settles O21: most steps change their context alone; the others through the fact of their own operation. -/
theorem controlStepsComplete : Obligations.ControlStepsComplete := by
  intro s
  refine ⟨?nop, ?endStep, ?yield, ?waitPending, ?waitNone, ?signal, ?timer, ?sysr, ?rdf, ?wrf, ?br, ?loop, ?mov, ?csel, ?sext, ?undefined⟩
  case nop | yield | timer | sysr | rdf | wrf | br | loop | mov | csel | sext => exact fun c f h => next_plainStep h _
  case endStep => exact fun c f h => exec_stepEnd h
  case waitPending => exact fun c f ev h hpending => congrArg Host.Outcome.next (waitStep_pending h hpending)
  case waitNone => exact fun c f h hnone => congrArg Host.Outcome.next (waitStep_none h hnone)
  case signal => exact fun c f h => congrArg Host.Outcome.next (issue_issues h _)
  case undefined => exact fun c w hundefined hon hchosen hvendor hbudget => exec_undefinedStep hundefined hon hchosen hvendor hbudget

/-! Arithmetic and logic (Table 12-5). -/

/-- A division by another value than 0, or without the trap, writes its result (R262). -/
theorem divStep_issues {s : State} {c op : Nat} {f : StepF} (h : issues s c op f)
    (hdivides : ¬(operand (getCtx (spent s c) c) f % 2 ^ stepWidth f = 0 ∧ (getCtx (spent s c) c).dzt = true))
    (g : Nat → Nat → Nat → Flags → Alu) :
    divStep s c op f g = stepDone s c fun k =>
      setFlags (setReg k f.rd.val (g (stepWidth f) (reg k f.ra.val % 2 ^ stepWidth f) (operand k f % 2 ^ stepWidth f) (ctxFlags k)).1)
        (g (stepWidth f) (reg k f.ra.val % 2 ^ stepWidth f) (operand k f % 2 ^ stepWidth f) (ctxFlags k)).2 := by
  rw [divStep, issue_issues h]
  exact if_neg hdivides

/-- Settles O22: every step but a division changes its context alone, by the function of its row. -/
theorem arithmeticStepsComplete : Obligations.ArithmeticStepsComplete := by
  intro s
  refine ⟨?add, ?adc, ?sub, ?sbb, ?neg, ?cmp, ?mul, ?mulhu, ?mulhs, ?divu, ?divs, ?remu, ?rems, ?minu, ?maxu, ?mins, ?maxs, ?and, ?or, ?xor,
    ?tst, ?lsl, ?lsr, ?asr, ?rol, ?ror, ?popc, ?clz, ?bswap, ?crc⟩
  case divu | divs | remu | rems => exact fun c f h hdivides => congrArg Host.Outcome.next (divStep_issues h hdivides _)
  case add | adc | sub | sbb | neg | cmp | mul | mulhu | mulhs | minu | maxu | mins | maxs | and | or | xor | tst | lsl | lsr | asr | rol | ror
    | popc | clz | bswap | crc => exact fun c f h => next_plainStep h _

end Sys2Proof.Proofs
end

section
/-!
SUPPORT. Memory, scratch and host steps (R245, R246, R269 to R274): what each shape of step comes to when it issues, and O23.
-/
namespace Sys2Proof.Proofs

open Sys2Proof Sys2Proof.Machine

/-- A scratch step inside its window reads or writes it at once (R246). -/
theorem scratchStep_issues {s : State} {c op : Nat} {f : StepF} (h : issues s c op f)
    (haligned : stepAddr (getCtx (spent s c) c) f % 2 ^ f.sz.val = 0)
    (hinside : stepAddr (getCtx (spent s c) c) f + 2 ^ f.sz.val ≤ scratchSize (getCtx (spent s c) c)) (g : Ctx → Nat → Ctx) :
    scratchStep s c op f g = stepDone s c fun k => g k (stepAddr (getCtx (spent s c) c) f) := by
  rw [scratchStep, issue_issues h]
  exact (if_neg (not_not_intro haligned)).trans (if_neg (Nat.not_lt.2 hinside))

/-- An aligned host step of an open function goes out (R274). -/
theorem hostStep_issues {s : State} {c op fn : Nat} {f : StepF} (h : issues s c op f)
    (haligned : stepAddr (getCtx (spent s c) c) f % 2 ^ f.sz.val = 0)
    (hopen : fnOpen (spent s c) (getCtx (spent s c) c).inst = some fn) (go : State → Nat → Nat → State) :
    hostStep s c op f go = go (spent s c) fn (stepAddr (getCtx (spent s c) c) f) := by
  rw [hostStep, issue_issues h]
  simp only [hopen, if_neg (not_not_intro haligned)]

section
variable {s u : State} {c fn : Nat} {f : StepF} (h : issues s c 0x6A f)
  (hhost : reg (getCtx (spent s c) c) f.ra.val % 64 = 0) (hoffset : reg (getCtx (spent s c) c) f.rb.val % 64 = 0)
  (hopen : fnOpen (spent s c) (getCtx (spent s c) c).inst = some fn)
include h hhost hoffset hopen

/-- XCPY from the host reads its lines there (R274). -/
theorem xcpyStep_fromHost (hdir : bit f.imm.toNat 16 = false) (hpresent : presentAll (spent s c) c 0x6A f
      ((touchGranules ⟨reg (getCtx (spent s c) c) f.rb.val, 64 * lineCount f, true⟩).map fun g => (g, true)) = (u, none)) :
    xcpyStep s c f = hostFetch u c fn (reg (getCtx (spent s c) c) f.ra.val) (64 * lineCount f)
      { pendInit 0x6A f with addr := reg (getCtx (spent s c) c) f.rb.val } := by
  rw [xcpyStep, issue_issues h]
  simp only [hhost, hoffset, hopen, hdir, Bool.not_false, hpresent, ne_eq, not_true_eq_false, Bool.false_eq_true, if_false]

/-- XCPY to the host reads its lines from the instance (R274). -/
theorem xcpyStep_toHost (hdir : bit f.imm.toNat 16 = true) (hpresent : presentAll (spent s c) c 0x6A f
      ((touchGranules ⟨reg (getCtx (spent s c) c) f.rb.val, 64 * lineCount f, false⟩).map fun g => (g, false)) = (u, none)) :
    xcpyStep s c f = startPend u c { pendInit 0x6A f with
      accs := readLines u (getCtx u c) 0x6A f (reg (getCtx (spent s c) c) f.rb.val) (lineCount f), addr := reg (getCtx (spent s c) c) f.rb.val } := by
  rw [xcpyStep, issue_issues h]
  simp only [hhost, hoffset, hopen, hdir, Bool.not_true, hpresent, ne_eq, not_true_eq_false, if_false, if_true]

end

/-- The bytes of an atomic operand. -/
def atomBytes : AtomSize → Nat
  | .w32 => 4
  | .w64 => 8
  | .w128 => 16

theorem atomBytes_atomSize (f : StepF) : atomBytes (atomSize f) = if f.sz.val = 2 then 4 else 8 := by
  unfold atomSize
  split <;> rfl

/-- An atomic step is a memory step on its operand (R273). -/
theorem atomicStep_eq (s : State) (c op : Nat) (f : StepF) (kind : AtomKind) (size : AtomSize) (a b : Ctx → Nat) :
    atomicStep s c op f kind size a b =
      memStep s c op f [(reg (getCtx s c) f.ra.val, atomBytes size)] [⟨reg (getCtx s c) f.ra.val, atomBytes size, true⟩] fun x k =>
        [{ lineAccess x k op f (reg (getCtx s c) f.ra.val) with write := true, atomic := some (kind, size, a k, b k) }] := by
  cases size <;> rfl

/-- An aligned atomic step whose granules answer starts its access at the line's home. -/
theorem atomicStep_issues {s u : State} {c op n : Nat} {f : StepF} (h : issues s c op f) {size : AtomSize} (hbytes : atomBytes size = n)
    (haligned : [(reg (getCtx s c) f.ra.val, n)].find? (fun e => e.1 % e.2 != 0) = none)
    (hpresent : presentAll (spent s c) c op f ((([⟨reg (getCtx s c) f.ra.val, n, true⟩] : List Touch).flatMap fun t =>
      (touchGranules t).map fun a => (a, t.write)).mergeSort fun a b => decide (a.1 ≤ b.1)) = (u, none))
    (kind : AtomKind) (a b : Ctx → Nat) :
    atomicStep s c op f kind size a b = startPend u c { pendInit op f with
      accs := [{ lineAccess u (getCtx u c) op f (reg (getCtx s c) f.ra.val) with
        write := true, atomic := some (kind, size, a (getCtx u c), b (getCtx u c)) }]
      addr := reg (getCtx s c) f.ra.val } := by
  subst hbytes
  rw [atomicStep_eq]
  exact memStep_issues h haligned _ hpresent

/-- Settles O23: each step through the fact of its shape. -/
theorem memoryStepsComplete : Obligations.MemoryStepsComplete := by
  intro s
  refine ⟨?lcrc, ?sld, ?sst, ?ld, ?st, ?lcopy, ?lfill, ?lcmp, ?aadd, ?aswp, ?acas, ?acas128, ?xld, ?xst, ?xcpyFrom, ?xcpyTo, ?hld, ?hcmt⟩
  case lcrc | ld | st | lcopy | lfill | lcmp | hld | hcmt =>
    exact fun c f u h haligned hpresent => congrArg Host.Outcome.next (memStep_issues h haligned _ hpresent)
  case sld | sst => exact fun c f h haligned hinside => congrArg Host.Outcome.next (scratchStep_issues h haligned hinside _)
  case aadd | aswp | acas =>
    exact fun c f u h haligned hpresent =>
      congrArg Host.Outcome.next (atomicStep_issues h (atomBytes_atomSize f) haligned hpresent _ _ _)
  case acas128 =>
    exact fun c f u h haligned hpresent => congrArg Host.Outcome.next (atomicStep_issues (size := .w128) h rfl haligned hpresent _ _ _)
  case xld | xst => exact fun c f fn h haligned hopen => congrArg Host.Outcome.next (hostStep_issues h haligned hopen _)
  case xcpyFrom =>
    rintro c f fn _ u h rfl hhost hoffset hopen hdir hpresent
    exact congrArg Host.Outcome.next (xcpyStep_fromHost h hhost hoffset hopen hdir hpresent)
  case xcpyTo =>
    rintro c f fn _ u h rfl hhost hoffset hopen hdir hpresent
    exact congrArg Host.Outcome.next (xcpyStep_toHost h hhost hoffset hopen hdir hpresent)

end Sys2Proof.Proofs
end

section
/-!
SUPPORT. System steps (R275, Table 12-9): what each comes to when it issues, and O24.
-/
namespace Sys2Proof.Proofs

open Sys2Proof Sys2Proof.Machine

/-- A snoop of a host that may hold the line, over a link that is up, is sent and waited for. -/
theorem exec_stepBisnp_held {s : State} {c : CtxN} {f : StepF} {p : PortN} {key : LineN} (h : issues s c.val 0x78 f)
    (hholds : (holders (spent s c.val) key.toNat (getLine (spent s c.val) key.toNat)).contains p.val = true)
    (hup : linkUp (spent s c.val) p.val = true) :
    exec (.stepBisnp c f p key) s = .next (startPend (sendSnoop (spent s c.val) key.toNat p.val .inv) c.val
      { pendInit 0x78 f with snoop := some (p.val, key.toNat) }) := by
  refine congrArg Host.Outcome.next ((issue_issues h _).trans ?_)
  simp only [hholds, hup, Bool.and_self, if_true]

/-- A heat-table entry that finds room is written. -/
theorem heatWrite_room {s u : State} {g : Nat} (hroom : heatRoom s (keyTile g) g = some u) (w : Nat) :
    heatWrite s g w = setHeat u (keyTile g) g { heat := bits w 27 16, place := bits w 15 14, samples := bits w 11 0 } := by
  simp only [heatWrite, hroom]

/-- Settles O24: each step's own effect after it is counted. -/
theorem systemStepsComplete : Obligations.SystemStepsComplete := by
  intro s
  refine ⟨?bisnp, ?dlswap, ?cntrd, ?rmap, ?heatRead, ?heatWritten, ?notify⟩
  case bisnp => exact fun c f p key h hholds hup => exec_stepBisnp_held h hholds hup
  case dlswap => exact fun c f i h => congrArg Host.Outcome.next (issue_issues h _)
  case cntrd => exact fun c f unit n h => next_plainStep h _
  case rmap => exact fun c f g take dest h => congrArg Host.Outcome.next (issue_issues h _)
  case heatRead => exact fun c f g h => next_plainStep h _
  case heatWritten =>
    exact fun c f g w u h hroom => congrArg Host.Outcome.next ((issue_issues h _).trans (heatWrite_room hroom w.toNat))
  case notify =>
    exact fun c f i kind ps h hlow hhigh => congrArg Host.Outcome.next ((issue_issues h _).trans (if_pos ⟨hlow, hhigh⟩))

end Sys2Proof.Proofs
end

section
/-!
SUPPORT. The life of an instance (R278 to R286): what its commands come to when their conditions hold, and O18.
-/
namespace Sys2Proof.Proofs

open Sys2Proof Sys2Proof.Machine

/-! Creation and destruction (R278 to R280). -/

/-- The number that Create gives (R279): for 0xFFFF the lowest free one, else the one named while it is free. -/
def createPick (s : State) (n : Nat) : Option Nat :=
  if n = 0xFFFF then (List.range 4096).find? fun i => !instExists s i else if instExists s n then none else some n

theorem createPick_lowest (s : State) : createPick s 0xFFFF = (List.range 4096).find? fun i => !instExists s i := if_pos rfl

theorem createPick_named {s : State} {j : Nat} (hnumber : j < 4096) (hfree : instExists s j = false) : createPick s j = some j := by
  rw [createPick, if_neg (by omega), if_neg (by simp [hfree])]

/-- A number that Create finds becomes an instance with its share, and shows in 0x5001:02. -/
theorem createWrite_picks {s : State} {v : List Byte} {j : Nat} (hlen : v.length = 8) (hnumber : fieldBe v 0 2 < 4096 ∨ fieldBe v 0 2 = 0xFFFF)
    (hshare : fieldBe v 2 2 ≤ 4096) (hpick : createPick s (fieldBe v 0 2) = some j) :
    createWrite s v =
      (cmdDone (wr (wr (wr (resetInst s j) 0x5000 1 j 1) 0x5000 4 j (fieldBe v 2 2)) 0x5001 2 0 j) 0x5001 1 0 0, .ok) := by
  have hranges : ¬((4096 ≤ fieldBe v 0 2 ∧ fieldBe v 0 2 ≠ 0xFFFF) ∨ 4096 < fieldBe v 2 2) := by omega
  rw [createPick] at hpick
  simp only [createWrite, hlen, ne_eq, not_true_eq_false, if_false, if_neg hranges, hpick]

/-- What a destroy that begins leaves of the objects before it touches the presentation. -/
def destroyMarked (s : State) (i : Nat) : State := wr (cmdStart s 0x5000 3 i) 0x5000 1 i 3

@[simp] theorem rd_destroyMarked_actual (s : State) (i : Nat) : rd (destroyMarked s i) 0x5010 2 i = rd s 0x5010 2 i := by
  rw [destroyMarked, rd_wr_row _ _ _ (by decide), cmdStart, rd_wr_row _ _ _ (by decide)]

/-- Nothing is unbound while no host sees the instance. -/
theorem beginUnbind_unpresented {s : State} {i : Nat} (h : rd s 0x5010 2 i = 0) : beginUnbind s i = s := by
  simp [beginUnbind, h]

/-- A presented instance is unbound before it stops (R280). -/
theorem destroyWrite_presented {s : State} {i : Nat} (hexists : instExists s i = true)
    (hactual : rd s 0x5010 2 i = 1 ∨ rd s 0x5010 2 i = 2 ∨ rd s 0x5010 2 i = 4) :
    destroyWrite s i = (setInst (beginUnbind (destroyMarked s i) i) i
      { getInst (beginUnbind (destroyMarked s i) i) i with destroying := 1, background := none }, .ok) := by
  rw [destroyWrite, if_neg (by simp [hexists])]
  exact if_pos hactual

/-- An instance that no host sees stops at once (R280). -/
theorem destroyWrite_unpresented {s : State} {i : Nat} (hexists : instExists s i = true) (hactual : rd s 0x5010 2 i = 0) :
    destroyWrite s i = (stopInst (setInst (destroyMarked s i) i
      { getInst (destroyMarked s i) i with destroying := 1, background := none }) i, .ok) := by
  have hunbound : beginUnbind (destroyMarked s i) i = destroyMarked s i :=
    beginUnbind_unpresented ((rd_destroyMarked_actual s i).trans hactual)
  rw [destroyWrite, if_neg (by simp [hexists])]
  dsimp only
  rw [if_neg (by omega), ← destroyMarked, hunbound]

/-- With no extent and no step table left, every object of the instance holds its default, and only the word of Destroy stands. -/
theorem destroyComplete_empty {s : State} {i : Nat} (hstopped : (getInst s i).destroying = 2) (hextents : (instExtents s i).isEmpty = true)
    (htables : s.gecko.tables.any (fun e => e.2.owner == i) = false) :
    destroyComplete s i = cmdEnd (wr (resetInst s i) 0x5000 3 i (rd s 0x5000 3 i)) 0x5000 3 i 2 0 := by
  have hnone : s.gecko.tables.filter (fun e => e.2.owner == i) = [] :=
    List.filter_eq_nil_iff.2 fun e he howner => List.any_eq_false.1 htables e he howner
  rw [destroyComplete, if_pos ⟨hstopped, hextents⟩]
  simp only [hnone, List.map_nil, List.foldl_nil]

/-! Presentation (R281, R282). -/

/-- Target LD of an instance that no host sees starts its presentation where that is possible. -/
theorem presentationWrite_binds {s : State} {i v : Nat} (hv : v = 1) (hactual : rd s 0x5010 2 i = 0)
    (hpossible : bindOk s i (rd s 0x5010 3 i) (rd s 0x5010 4 i) = true) :
    presentationWrite s i 1 v = (startBind (wr s 0x5010 1 i 1) i, .ok) := by
  subst hv
  simp [presentationWrite, bindTargetWrite, hactual, hpossible]

/-- Target 0 ends the presentation. -/
theorem presentationWrite_unbinds {s : State} {i v : Nat} (hv : v = 0) :
    presentationWrite s i 1 v = (beginUnbind (wr s 0x5010 1 i 0) i, .ok) := by
  subst hv
  rfl

/-- While no host sees the instance, its place is only noted. -/
theorem presentationWrite_places {s : State} {i sub v : Nat} (hsub : sub ≠ 1) (hport : sub = 3 → v < 64) (hactual : rd s 0x5010 2 i = 0) :
    presentationWrite s i sub v = (wr s 0x5010 sub i v, .ok) := by
  rw [presentationWrite, if_neg hsub, bindPlaceWrite, if_neg (by omega), if_neg (by omega)]

/-- Without a USP no host request waits: an unbind with nothing tracked is complete. -/
theorem unbind_noUsp {s : State} {i : Nat} (hphase : rd s 0x5010 2 i = 4) (hdone : stillAccepted s i = false) (husp : 64 ≤ (getInst s i).usp)
    (htracked : hdmDbRanges s i = []) : unbind s i = unbound s i := by
  have hgoes : ¬(rd s 0x5010 2 i ≠ 4 ∨ stillAccepted s i = true) := by simp [hphase, hdone]
  rw [unbind, if_neg hgoes]
  simp only [if_neg (Nat.not_lt.2 husp), dropReads, failReads, List.foldl_nil, htracked, if_true]

/-- Host reads of an LD that its function gives up: their tags are held until answered or timed out (R95, R282). -/
def readsGivenUp (s : State) (k : Nat) : State :=
  dropReads (setFn s k { getFn s k with heldTags := (getFn s k).heldTags ++ (getFn s k).reads.map (·.2), reads := [] }) (getFn s k).reads

/-- The unbind of an LD gives up its reads and calls back what the old host tracks. -/
theorem unbind_usp {s u : State} {i : Nat} (hphase : rd s 0x5010 2 i = 4) (hdone : stillAccepted s i = false) (husp : (getInst s i).usp < 64)
    (hreads : u = readsGivenUp s (fnKey (getInst s i).usp (getInst s i).ld)) :
    unbind s i = if hdmDbRanges u i = [] then unbound u i
      else startRbi u { ranges := hdmDbRanges u i, port := some (getInst s i).usp, why := .unbind i } := by
  have hgoes : ¬(rd s 0x5010 2 i ≠ 4 ∨ stillAccepted s i = true) := by simp [hphase, hdone]
  subst hreads
  rw [unbind, if_neg hgoes]
  simp only [if_pos husp]
  rfl

/-! Decoders and notices (R283, R286). -/

/-- A host's commit of a free decoder that keeps the rules stands as it was written. -/
theorem hostCommit_commits {s : State} {i d r : Nat} (hactual : rd s 0x5010 2 i = 1) (hfree : decCommitted (decoderRec s i d) = false)
    (hcommits : decCommitted r = true) (hrules : decOk s i r (otherDecs s i d) = true) :
    hostCommit s i d r = emit (decWrite s i d r) (.decoder i d true) := by
  simp only [hostCommit, hactual, hfree, hcommits, hrules, ne_eq, not_true_eq_false, Bool.false_eq_true, Bool.true_eq_false, false_and,
    or_self, if_false, if_true]

/-- A notice of a kind that the manager may post takes the next of 64 places. -/
theorem postNoticeWrite_posts {s : State} {i : Nat} {v : List Byte} (hexists : instExists s i = true)
    (hkind : (4 ≤ fieldBe v 0 2 ∧ fieldBe v 0 2 ≤ 7) ∨ (0x100 ≤ fieldBe v 0 2 ∧ fieldBe v 0 2 ≤ 0x7FFF))
    (hroom : (getInst s i).notices.length < 64) :
    postNoticeWrite s i v = (cmdDone (pushNotice s i (fieldBe v 0 2) (v.drop 4)) 0x5100 1 i 0, .ok) := by
  have hallowed : (4 ≤ fieldBe v 0 2 && fieldBe v 0 2 ≤ 7 || 0x100 ≤ fieldBe v 0 2 && fieldBe v 0 2 ≤ 0x7FFF) = true := by simpa using hkind
  rw [postNoticeWrite, if_neg (by simp [hexists]), hallowed, if_neg (by decide), if_neg (Nat.not_le.2 hroom)]

/-- Settles O18: the checked writes through the facts of their handlers, the events through those of their own operations. -/
theorem instanceCommandsComplete : Obligations.InstanceCommandsComplete := by
  intro s
  refine ⟨?createLowest, ?createNamed, ?destroyPresented, ?destroyUnpresented, ?destroyed, ?bind, ?unbinds, ?usp, ?ld, ?unbindNoUsp, ?unbindUsp,
    ?decoder, ?notice⟩
  case createLowest =>
    intro r v j haccepted hlen hany hshare hlowest
    exact next_rowWrite haccepted (createWrite_picks hlen (.inr hany) hshare (by rw [hany, createPick_lowest, hlowest]))
  case createNamed =>
    intro r v j haccepted hlen hnamed hnumber hshare hfree
    exact next_rowWrite haccepted (createWrite_picks hlen (.inl (hnamed ▸ hnumber)) hshare (by rw [hnamed, createPick_named hnumber hfree]))
  case destroyPresented => exact fun r i haccepted hexists hactual => next_rowWrite haccepted (destroyWrite_presented hexists hactual)
  case destroyUnpresented => exact fun r i haccepted hexists hactual => next_rowWrite haccepted (destroyWrite_unpresented hexists hactual)
  case destroyed => exact fun i hstopped hextents htables => congrArg Host.Outcome.next (destroyComplete_empty hstopped hextents htables)
  case bind => exact fun r i v haccepted hv hactual hpossible => next_rowWrite haccepted (presentationWrite_binds hv hactual hpossible)
  case unbinds => exact fun r i v haccepted hv => next_rowWrite haccepted (presentationWrite_unbinds hv)
  case usp =>
    exact fun r i v haccepted hport hactual => next_rowWrite haccepted (presentationWrite_places (by decide) (fun _ => hport) hactual)
  case ld =>
    exact fun r i v haccepted hactual =>
      next_rowWrite haccepted (presentationWrite_places (by decide) (fun h => absurd h (by decide)) hactual)
  case unbindNoUsp => exact fun i hphase hdone husp htracked => congrArg Host.Outcome.next (unbind_noUsp hphase hdone husp htracked)
  case unbindUsp =>
    rintro i _ _ u hphase hdone husp rfl rfl hreads
    exact congrArg Host.Outcome.next (unbind_usp hphase hdone husp hreads)
  case decoder =>
    exact fun i d b hlen hactual hfree hcommits hrules =>
      congrArg Host.Outcome.next ((if_pos hlen).trans (hostCommit_commits hactual hfree hcommits hrules))
  case notice => exact fun r i v haccepted hexists hkind _ hroom => next_rowWrite haccepted (postNoticeWrite_posts hexists hkind hroom)

end Sys2Proof.Proofs
end

section
/-!
SUPPORT. The tenant mailbox (R211, R239, R284, R285): what its commands come to on an open mailbox, and O19.
-/
namespace Sys2Proof.Proofs

open Sys2Proof Sys2Proof.Machine

/-- A command runs on an open mailbox. -/
theorem next_mailboxRun {s u : State} {i : Nat} {f : State → State} (hopen : mailboxOpen s i = true) (hf : f s = u) :
    (Host.Outcome.next (mailboxRun s i f) : Host.Outcome State Fault Refusal) = .next u := by
  rw [mailboxRun, if_pos hopen, hf]

/-- A vendor command whose bit is set runs on an open mailbox. -/
theorem next_vendorRun {s u : State} {i op : Nat} {f : State → State} (hopen : mailboxOpen s i = true) (hbit : vendorBit s i op = true)
    (hf : f s = u) : (Host.Outcome.next (vendorRun s i op f) : Host.Outcome State Fault Refusal) = .next u := by
  rw [vendorRun_allowed hopen hbit, hf]

/-! CXL's own commands (R284). -/

/-- Handles that all name records of a log clear them. -/
theorem exec_clearEventRecords_named {s : State} {i : InstN} {k : Byte} {hs : List Nat} (hopen : mailboxOpen s i.val = true) (hlog : k.toNat < 5)
    (hnamed : (hs.all fun h => (logRecords s i.val k.toNat).any fun e => e.handle == h) = true) :
    exec (.clearEventRecords i k hs) s = .next (mailboxReply (setInst s i.val { getInst s i.val with
      events := (getInst s i.val).events.filter fun e => !(e.log == k.toNat && hs.contains e.handle) }) i.val 0 []) :=
  next_mailboxRun hopen ((if_neg (Nat.not_le.2 hlog)).trans (if_pos hnamed))

/-- An answer holds 4094 poisoned lines (log 107: PRESUMED). -/
theorem exec_getPoisonList {s : State} {i : InstN} (hopen : mailboxOpen s i.val = true) (o n : BitVec 64) {l : List Nat}
    (hl : l = poisonOffsets s i.val o.toNat n.toNat) :
    exec (.getPoisonList i o n) s = .next (mailboxReply s i.val 0 ([BitVec.ofNat 8 (b2n (decide (4094 < l.length)))] ++ zeros 9
      ++ le 2 (min l.length 4094) ++ zeros 20 ++ (l.take 4094).flatMap fun a => le 8 (a + 2) ++ le 4 1 ++ zeros 4)) := by
  have hmore : decide (min l.length 4094 < l.length) = decide (4094 < l.length) := decide_eq_decide.2 (by omega)
  have htake : l.take (min l.length 4094) = l.take 4094 := by rw [min_comm, ← List.take_eq_take_min]
  subst hl
  rw [← hmore, ← htake]
  exact next_mailboxRun hopen rfl

/-- Another opcode is Unsupported. -/
theorem exec_mailboxUnsupported {s : State} {i : InstN} {op : BitVec 16} (hopen : mailboxOpen s i.val = true)
    (hcxl : cxlCommands.contains op.toNat = false) (hvendor : vendorBit s i.val op.toNat = false) :
    exec (.mailboxUnsupported i op) s = .next (mailboxReply s i.val 3 []) := by
  refine next_mailboxRun hopen (if_neg ?_)
  rw [hcxl, hvendor]
  decide

/-! The vendor commands (R285). -/

/-- One to 63 invocations of 64 bytes enter their queue. -/
theorem exec_submitInvocations {s : State} {i : InstN} {k : QueueK} {ds : List (List Byte)} (hopen : mailboxOpen s i.val = true)
    (hbit : vendorBit s i.val 0xC001 = true) (hsome : ds ≠ []) (hcount : ds.length ≤ 63) (hsize : ∀ d ∈ ds, d.length = 64) :
    exec (.submitInvocations i k ds) s = .next (submit s i.val k.val ds) := by
  have hsizes : ds.any (fun d => d.length != 64) = false := List.any_eq_false.2 fun d hd => by simp [hsize d hd]
  have hform : ¬(ds = [] ∨ 63 < ds.length ∨ ds.any (fun d => d.length != 64) = true) := by
    rw [hsizes]
    exact fun h => h.elim hsome fun h => h.elim (Nat.not_lt.2 hcount) Bool.false_ne_true
  exact next_vendorRun hopen hbit (if_neg hform)

/-- A step table is loaded while no command runs in the background. -/
theorem exec_loadStepTable_idle {s u : State} {i : InstN} {b : List Byte} {code at_ : Nat} (hopen : mailboxOpen s i.val = true)
    (hbit : vendorBit s i.val 0xC003 = true) (hidle : (getInst s i.val).background = none) (hload : loadImage s i.val b = (u, code, at_)) :
    exec (.loadStepTable i b) s = .next (mailboxReply u i.val 0 (be 1 code ++ be 2 at_)) := by
  refine next_vendorRun hopen hbit ?_
  simp only [hidle, hload, Option.isSome_none, Bool.false_eq_true, if_false]

/-- An own step table that nothing runs is unloaded at once. -/
theorem exec_unloadStepTable_unused {s : State} {i : InstN} {tb : BitVec 16} {t : StepTable} (hopen : mailboxOpen s i.val = true)
    (hbit : vendorBit s i.val 0xC004 = true) (htable : getTable s tb.toNat = some t) (howner : t.owner = i.val)
    (hidle : (getInst s i.val).background = none) (hgone : getTable (unloadTable s tb.toNat) tb.toNat = none) :
    exec (.unloadStepTable i tb) s = .next (mailboxReply (unloadTable s tb.toNat) i.val 0 []) := by
  refine next_vendorRun hopen hbit ?_
  simp only [htable, howner, hidle, hgone, ne_eq, not_true_eq_false, Option.isSome_none, Bool.false_eq_true, if_false]

/-- Settles O19: each command runs on its open mailbox; those that can be refused through the fact of their own. -/
theorem mailboxCommandsComplete : Obligations.MailboxCommandsComplete := by
  intro s
  refine ⟨?identify, ?logs, ?cel, ?records, ?clear, ?policy, ?setPolicy, ?health, ?timestamp, ?poison, ?capacity, ?extents, ?unsupported, ?submits,
    ?completions, ?load, ?unload, ?notices, ?acknowledge, ?flush⟩
  case identify | logs | policy | health | timestamp => exact fun i hopen => next_mailboxRun hopen rfl
  case cel => exact fun i o n hopen hrange => next_mailboxRun hopen (if_neg (Nat.not_lt.2 hrange))
  case records =>
    rintro i k _ _ hopen hlog rfl rfl
    exact next_mailboxRun hopen (if_neg (Nat.not_le.2 hlog))
  case clear => exact fun i k hs hopen hlog hnamed => exec_clearEventRecords_named hopen hlog hnamed
  case setPolicy => exact fun i p hopen hlen => next_mailboxRun hopen (if_pos hlen)
  case poison => exact fun i o n l hopen hl => exec_getPoisonList hopen o n hl
  case capacity =>
    rintro i a n _ hopen rfl
    exact next_mailboxRun hopen rfl
  case extents =>
    rintro i a n _ hopen rfl hstart
    exact next_mailboxRun hopen (if_neg (Nat.not_lt.2 hstart))
  case unsupported => exact fun i op hopen hcxl hvendor => exec_mailboxUnsupported hopen hcxl hvendor
  case submits =>
    rintro i k ds _ _ hopen hbit hsome hcount hsize rfl rfl
    exact exec_submitInvocations hopen hbit hsome hcount hsize
  case completions =>
    intro i mask m u b n hopen hbit htaken
    refine next_vendorRun hopen hbit ?_
    simp only [htaken]
  case load => exact fun i b u code at_ hopen hbit hidle hload => exec_loadStepTable_idle hopen hbit hidle hload
  case unload =>
    exact fun i tb t hopen hbit htable howner hidle hgone => exec_unloadStepTable_unused hopen hbit htable howner hidle hgone
  case notices => exact fun i m hopen hbit => next_vendorRun hopen hbit rfl
  case acknowledge =>
    rintro i q _ hopen hbit rfl
    exact next_vendorRun hopen hbit rfl
  case flush => exact fun i o n hopen hbit => next_vendorRun hopen hbit rfl

end Sys2Proof.Proofs
end

section
/-!
SUPPORT. The dirty log (R287 to R293): what its commands and the ends of its parts come to, and O20.
-/
namespace Sys2Proof.Proofs

open Sys2Proof Sys2Proof.Machine

/-! What the dirty log of an instance reads after an update. -/

@[simp] theorem getInst_setInst_same (s : State) (i : Nat) (v : InstSt) : getInst (setInst s i v) i = v := look_put_same _ _ _ _

@[simp] theorem getDirty_setDirty_same (s : State) (i : Nat) (d : DirtySt) : getDirty (setDirty s i d) i = d := by
  rw [getDirty, setDirty, getInst_setInst_same]

@[simp] theorem getDirty_cmdEnd (s : State) (i b q st reason j : Nat) : getDirty (cmdEnd s i b q st reason) j = getDirty s j := rfl

@[simp] theorem rdBlob_setDirty (s : State) (i : Nat) (v : DirtySt) (a b q : Nat) (d : List Byte) :
    rdBlob (setDirty s i v) a b q d = rdBlob s a b q d := rfl

/-! Start, Stop and Harvest wait for the tick (R287, R290). -/

/-- Start of a log that stands still is pending. -/
theorem dirtyStartWrite_pends {s : State} {i : Nat} (hexists : instExists s i = true) (hstop : (getDirty s i).stopP = false)
    (hlogging : (getDirty s i).logging = false) (hstart : (getDirty s i).startP = false) :
    dirtyStartWrite s i = (wr (setDirty (cmdStart s 0x5200 1 i) i { getDirty s i with startP := true }) 0x5200 4 i 1, .ok) := by
  simp only [dirtyStartWrite, hexists, hstop, hlogging, hstart, Bool.true_eq_false, Bool.false_eq_true, or_self, if_false]

/-- Stop of a running log is pending. -/
theorem dirtyStopWrite_pends {s : State} {i : Nat} (hexists : instExists s i = true) (hstop : (getDirty s i).stopP = false)
    (hlogging : (getDirty s i).logging = true) :
    dirtyStopWrite s i = (wr (setDirty (cmdStart s 0x5200 2 i) i { getDirty s i with stopP := true }) 0x5200 4 i 3, .ok) := by
  simp only [dirtyStopWrite, hexists, hstop, hlogging, Bool.true_eq_false, Bool.false_eq_true, false_and, or_self, if_false, if_true]

/-- Harvest of a running log is pending while no other is under way. -/
theorem dirtyHarvestWrite_pends {s : State} {i : Nat} (hexists : instExists s i = true) (hlogging : (getDirty s i).logging = true)
    (hharvest : (getDirty s i).harvestP = false) (htransfer : (getDirty s i).transfer = false) (v : List Byte) :
    dirtyHarvestWrite s i v = (setDirty (cmdStart s 0x5200 3 i) i
      { getDirty s i with harvestP := true, addr := fieldBe v 0 8, len := fieldBe v 8 4 }, .ok) := by
  simp only [dirtyHarvestWrite, hexists, hlogging, hharvest, htransfer, Bool.true_eq_false, Bool.false_eq_true, false_and, or_self, if_false]

/-! The flush of the marks (R290, R291). -/

section
variable {s : State} {i : Nat} {d : DirtySt} (hd : d = getDirty s i) (hflushing : d.flushing = true) (htransfer : d.transfer = true)
include hd hflushing htransfer

/-- A Harvest with an address goes on after the flush. -/
theorem markFlushed_transfers (haddr : d.addr ≠ 0) : markFlushed s i = setDirty s i { d with flushing := false } := by
  have hhere : (d.transfer && d.addr == 0) = false := by simp [haddr]
  unfold markFlushed
  dsimp only
  rw [← hd, if_neg (by simp [hflushing]), hhere]
  simp [htransfer]

/-- A Harvest without an address ends with the flush, its bitmap kept. -/
theorem markFlushed_ends (haddr : d.addr = 0) (hfinal : d.final = false) :
    markFlushed s i = cmdEnd (setDirty s i { d with flushing := false, transfer := false, kept := true }) 0x5200 3 i 2 0 := by
  have hhere : (d.transfer && d.addr == 0) = true := by simp [htransfer, haddr]
  unfold markFlushed
  dsimp only
  rw [← hd, if_neg (by simp [hflushing]), hhere]
  simp [hfinal]

end

/-! The report of a Harvest (R292). -/

/-- A whole report (R292): its header, then the number and the bits of each marked summary line. -/
def reportBytes (d : DirtySt) : List Byte :=
  be 4 d.frozenEpoch ++ be 4 d.frozenFlags ++ be 8 (dirtyLines d.frozen).length ++ be 8 d.frozen.length ++ zeros 8
    ++ (dirtyLines d.frozen).flatMap fun x => be 8 x ++ dirtyLine d.frozen x

section
variable {s : State} {i : Nat} {d : DirtySt} (hd : d = getDirty s i) (htransfer : d.transfer = true) (hflushing : d.flushing = false)
  (hfinal : d.final = false)
include hd htransfer hflushing hfinal

/-- Without a function to write through nothing leaves: the bitmap is kept, and the report counts as truncated. -/
theorem harvestDone_noManager (hmgr : mgrFn s = none) (hreport : fieldBe (rdBlob s 0x5200 5 i (zeros 40)) 0 4 ≠ d.frozenEpoch) :
    harvestDone s i = cmdEnd (setDirty s i { d with transfer := false, kept := true, frozenFlags := d.frozenFlags + 16 }) 0x5200 3 i 2 0 := by
  have hgoes : ¬(d.transfer = false ∨ d.flushing = true) := by simp [htransfer, hflushing]
  unfold harvestDone
  dsimp only
  rw [← hd, if_neg hgoes, hmgr]
  simp [hreport, hfinal]

/-- A report that fits its buffer leaves whole for host memory, and its bitmap is given up. -/
theorem harvestDone_whole {fn : Nat} (hmgr : mgrFn s = some fn) (hbme : (getFn s fn).bme = true) (hflr : (getFn s fn).flr = false)
    (hup : linkUp s (fn / 32) = true) (hfit : 32 + 72 * (dirtyLines d.frozen).length ≤ d.len) :
    harvestDone s i = cmdEnd (setDirty (emit s (.hostWrite fn d.addr (reportBytes d))) i
      { d with transfer := false, kept := false, frozen := [] }) 0x5200 3 i 2 0 := by
  have hgoes : ¬(d.transfer = false ∨ d.flushing = true) := by simp [htransfer, hflushing]
  have hlines : min (dirtyLines d.frozen).length ((d.len - 32) / 72) = (dirtyLines d.frozen).length := by omega
  have hroom : 32 ≤ d.len := by omega
  unfold harvestDone
  dsimp only
  rw [← hd, if_neg hgoes, hmgr, hlines]
  simp [hbme, hflr, hup, hroom, hfinal, reportBytes]

end

/-- Settles O20: each command through the fact of its own operation. -/
theorem dirtyLogCommandsComplete : Obligations.DirtyLogCommandsComplete := by
  intro s
  refine ⟨?start, ?stop, ?harvest, ?tick, ?flushTransfers, ?flushEnds, ?cleared, ?noManager, ?whole⟩
  case start =>
    exact fun r i haccepted hexists hstop hlogging hstart => next_rowWrite haccepted (dirtyStartWrite_pends hexists hstop hlogging hstart)
  case stop => exact fun r i haccepted hexists hstop hlogging => next_rowWrite haccepted (dirtyStopWrite_pends hexists hstop hlogging)
  case harvest =>
    exact fun r i v haccepted hexists _ hlogging hharvest htransfer =>
      next_rowWrite haccepted (dirtyHarvestWrite_pends hexists hlogging hharvest htransfer v)
  case tick => rfl
  case flushTransfers =>
    exact fun i d hd hflushing htransfer haddr => congrArg Host.Outcome.next (markFlushed_transfers hd hflushing htransfer haddr)
  case flushEnds =>
    exact fun i d hd hflushing htransfer haddr hfinal =>
      congrArg Host.Outcome.next (markFlushed_ends hd hflushing htransfer haddr hfinal)
  case cleared => exact fun i hclearing => congrArg Host.Outcome.next (if_pos hclearing)
  case noManager =>
    exact fun i htransfer hflushing hmgr hfinal hreport =>
      congrArg Host.Outcome.next (harvestDone_noManager rfl htransfer hflushing hfinal hmgr hreport)
  case whole =>
    rintro i d fn _ _ hd htransfer hflushing hfinal hmgr hbme hflr hup rfl hfit rfl
    exact congrArg Host.Outcome.next (harvestDone_whole hd htransfer hflushing hfinal hmgr hbme hflr hup hfit)

end Sys2Proof.Proofs
end

section
/-!
SUPPORT. What every step keeps: each command by the law of its own meaning, and a step through its command or through `idle`; O37, O40, O41 and
O42.
-/
namespace Sys2Proof.Proofs

open Sys2Proof Sys2Proof.Machine

/-- Every command completes, by the law of its own meaning (Laws/Exec.lean). -/
theorem exec_keeps (c : Instr) (s : State) : ∃ t, exec c s = .next t ∧ Keeps s t := by
  cases c with
  | odpHello => exact execOdpHello_keeps _ _ s (.refl s)
  | odpOpen => exact execOdpOpen_keeps _ _ s (.refl s)
  | odpClose => exact execOdpClose_keeps _ _ s (.refl s)
  | odpRead => exact execOdpRead_keeps _ _ s (.refl s)
  | odpWrite => exact execOdpWrite_keeps _ _ s (.refl s)
  | odpReadChunk => exact execOdpReadChunk_keeps _ _ s (.refl s)
  | odpWriteChunk => exact execOdpWriteChunk_keeps _ _ s (.refl s)
  | odpDescribe => exact execOdpDescribe_keeps _ _ s (.refl s)
  | odpSubscribe => exact execOdpSubscribe_keeps _ _ s (.refl s)
  | odpKeepalive => exact execOdpKeepalive_keeps _ _ s (.refl s)
  | sessionIdleTimeout => exact execSessionIdleTimeout_keeps _ s (.refl s)
  | dictionaryReady => exact execDictionaryReady_keeps s (.refl s)
  | objectWrite => exact execObjectWrite_keeps _ s (.refl s)
  | actualViewChange => exact execActualViewChange_keeps _ _ s (.refl s)
  | stateSkew => exact execStateSkew_keeps _ s (.refl s)
  | odwGo => exact execOdwGo_keeps s (.refl s)
  | odwDone => exact execOdwDone_keeps s (.refl s)
  | odwStatusClear => exact execOdwStatusClear_keeps _ _ _ s (.refl s)
  | endpointDiscovery => exact execEndpointDiscovery_keeps s (.refl s)
  | eidAssignment => exact execEidAssignment_keeps _ s (.refl s)
  | versionQuery => exact execVersionQuery_keeps _ s (.refl s)
  | identifySwitchDevice => exact execIdentifySwitchDevice_keeps _ s (.refl s)
  | getPhysicalPortState => exact execGetPhysicalPortState_keeps _ _ s (.refl s)
  | physicalPortControl => exact execPhysicalPortControl_keeps _ _ _ s (.refl s)
  | sendPpbCxlIoConfigurationRequest => exact execSendPpbCxlIoConfigurationRequest_keeps _ _ _ s (.refl s)
  | getVirtualCxlSwitchInfo => exact execGetVirtualCxlSwitchInfo_keeps _ _ s (.refl s)
  | bindVppb => exact execBindVppb_keeps _ _ _ _ _ s (.refl s)
  | unbindVppb => exact execUnbindVppb_keeps _ _ _ s (.refl s)
  | generateAerEvent => exact execGenerateAerEvent_keeps _ _ _ _ s (.refl s)
  | tunnelManagementCommand => exact execTunnelManagementCommand_keeps _ _ _ s (.refl s)
  | sendLdCxlIoConfigurationRequest => exact execSendLdCxlIoConfigurationRequest_keeps _ _ _ _ s (.refl s)
  | sendLdCxlIoMemoryRequest => exact execSendLdCxlIoMemoryRequest_keeps _ _ _ _ s (.refl s)
  | getLdInfo => exact execGetLdInfo_keeps _ s (.refl s)
  | getLdAllocations => exact execGetLdAllocations_keeps _ _ s (.refl s)
  | setLdAllocations => exact execSetLdAllocations_keeps _ _ _ _ s (.refl s)
  | getQosControl => exact execGetQosControl_keeps _ _ s (.refl s)
  | setQosControl => exact execSetQosControl_keeps _ _ _ _ _ s (.refl s)
  | getQosStatus => exact execGetQosStatus_keeps _ _ s (.refl s)
  | getQosAllocatedBw => exact execGetQosAllocatedBw_keeps _ _ _ s (.refl s)
  | setQosAllocatedBw => exact execSetQosAllocatedBw_keeps _ _ _ _ s (.refl s)
  | getQosBwLimit => exact execGetQosBwLimit_keeps _ _ _ s (.refl s)
  | setQosBwLimit => exact execSetQosBwLimit_keeps _ _ _ _ s (.refl s)
  | getDcdInfo => exact execGetDcdInfo_keeps _ s (.refl s)
  | getHostDcRegionConfiguration => exact execGetHostDcRegionConfiguration_keeps _ _ s (.refl s)
  | setDcRegionConfiguration => exact execSetDcRegionConfiguration_keeps _ _ _ _ s (.refl s)
  | getDcdExtentLists => exact execGetDcdExtentLists_keeps _ _ s (.refl s)
  | initiateDynamicCapacityAdd => exact execInitiateDynamicCapacityAdd_keeps _ _ s (.refl s)
  | initiateDynamicCapacityRelease => exact execInitiateDynamicCapacityRelease_keeps _ _ _ s (.refl s)
  | fmApiUnsupported => exact execFmApiUnsupported_keeps _ _ s (.refl s)
  | targetModeWrite => exact execTargetModeWrite_keeps _ _ s (.refl s)
  | quiesceComplete => exact execQuiesceComplete_keeps s (.refl s)
  | quiesceTimeout => exact execQuiesceTimeout_keeps s (.refl s)
  | drainComplete => exact execDrainComplete_keeps s (.refl s)
  | drainTimeout => exact execDrainTimeout_keeps s (.refl s)
  | roleChangeTimeout => exact execRoleChangeTimeout_keeps s (.refl s)
  | cfgInstall => exact execCfgInstall_keeps _ s (.refl s)
  | installComplete => exact execInstallComplete_keeps _ s (.refl s)
  | cfgActivate => exact execCfgActivate_keeps _ s (.refl s)
  | commitDelta => exact execCommitDelta_keeps _ s (.refl s)
  | clearDelta => exact execClearDelta_keeps _ s (.refl s)
  | deviceReset => exact execDeviceReset_keeps _ s (.refl s)
  | deviceResetIgnoreBootsel => exact execDeviceResetIgnoreBootsel_keeps _ s (.refl s)
  | compatWrite => exact execCompatWrite_keeps _ _ s (.refl s)
  | compatStatusClear => exact execCompatStatusClear_keeps _ _ s (.refl s)
  | laneLock => exact execLaneLock_keeps _ s (.refl s)
  | laneLockLoss => exact execLaneLockLoss_keeps _ s (.refl s)
  | decisionWindowClose => exact execDecisionWindowClose_keeps _ s (.refl s)
  | sparingRequest => exact execSparingRequest_keeps _ _ s (.refl s)
  | sparingAck => exact execSparingAck_keeps _ s (.refl s)
  | switchFlit => exact execSwitchFlit_keeps _ s (.refl s)
  | l0pWidthChange => exact execL0pWidthChange_keeps _ _ _ _ s (.refl s)
  | recoveryComplete => exact execRecoveryComplete_keeps _ _ s (.refl s)
  | degradeThreshold => exact execDegradeThreshold_keeps _ s (.refl s)
  | spareExchangeComplete => exact execSpareExchangeComplete_keeps _ _ s (.refl s)
  | keepaliveLoss => exact execKeepaliveLoss_keeps _ s (.refl s)
  | quiesceTarget => exact execQuiesceTarget_keeps _ _ _ s (.refl s)
  | swapBack => exact execSwapBack_keeps _ _ s (.refl s)
  | retireLane => exact execRetireLane_keeps _ _ _ s (.refl s)
  | laneDirectionTarget => exact execLaneDirectionTarget_keeps _ _ _ _ s (.refl s)
  | testTarget => exact execTestTarget_keeps _ _ _ s (.refl s)
  | testLoopback => exact execTestLoopback_keeps _ _ _ s (.refl s)
  | loopbackEntry => exact execLoopbackEntry_keeps _ s (.refl s)
  | testInject => exact execTestInject_keeps _ _ _ s (.refl s)
  | clearCounters => exact execClearCounters_keeps _ _ s (.refl s)
  | checkerSync => exact execCheckerSync_keeps _ s (.refl s)
  | checkerSyncLoss => exact execCheckerSyncLoss_keeps _ _ _ s (.refl s)
  | linkUp => exact execLinkUp_keeps _ _ s (.refl s)
  | linkDown => exact execLinkDown_keeps _ _ _ s (.refl s)
  | lateResponse => exact execLateResponse_keeps _ _ s (.refl s)
  | presenceChange => exact execPresenceChange_keeps _ _ s (.refl s)
  | powerControllerControl => exact execPowerControllerControl_keeps _ _ s (.refl s)
  | flitCrcError => exact execFlitCrcError_keeps _ _ _ s (.refl s)
  | replayTimeout => exact execReplayTimeout_keeps _ _ s (.refl s)
  | auditPeriod => exact execAuditPeriod_keeps _ s (.refl s)
  | quietPoint => exact execQuietPoint_keeps _ _ _ s (.refl s)
  | auditHoldTimeout => exact execAuditHoldTimeout_keeps _ s (.refl s)
  | retrainDrainComplete => exact execRetrainDrainComplete_keeps _ s (.refl s)
  | creditRetrainComplete => exact execCreditRetrainComplete_keeps _ _ s (.refl s)
  | llreset => exact execLlreset_keeps _ s (.refl s)
  | forceRetrain => exact execForceRetrain_keeps _ _ s (.refl s)
  | bmeClear => exact execBmeClear_keeps _ _ s (.refl s)
  | bmeSet => exact execBmeSet_keeps _ _ s (.refl s)
  | initiateFlr => exact execInitiateFlr_keeps _ _ s (.refl s)
  | flrComplete => exact execFlrComplete_keeps _ _ s (.refl s)
  | completionTimeout => exact execCompletionTimeout_keeps _ _ _ s (.refl s)
  | memrd => exact execMemrd_keeps _ _ _ _ _ s (.refl s)
  | memrddata => exact execMemrddata_keeps _ _ _ _ s (.refl s)
  | meminv => exact execMeminv_keeps _ _ _ _ _ s (.refl s)
  | memwr => exact execMemwr_keeps _ _ _ _ _ _ _ s (.refl s)
  | memclnevct => exact execMemclnevct_keeps _ _ _ _ s (.refl s)
  | memspecrd => exact execMemspecrd_keeps _ _ s (.refl s)
  | birsp => exact execBirsp_keeps _ _ _ _ s (.refl s)
  | biconflict => exact execBiconflict_keeps _ _ s (.refl s)
  | sliceResponse => exact execSliceResponse_keeps _ _ _ s (.refl s)
  | atomicop => exact execAtomicop_keeps _ _ _ _ _ _ _ _ s (.refl s)
  | cxlIoRequest => exact execCxlIoRequest_keeps _ _ s (.refl s)
  | cxlIoCompletion => exact execCxlIoCompletion_keeps _ _ _ _ s (.refl s)
  | pbrRequest => exact execPbrRequest_keeps _ _ _ s (.refl s)
  | cxlCacheMessage => exact execCxlCacheMessage_keeps _ _ _ _ _ _ _ s (.refl s)
  | walkComplete => exact execWalkComplete_keeps _ _ _ s (.refl s)
  | schedulerCycle => exact execSchedulerCycle_keeps _ s (.refl s)
  | tidelinkFlit => exact execTidelinkFlit_keeps _ _ _ s (.refl s)
  | ackTimeout => exact execAckTimeout_keeps _ _ s (.refl s)
  | balancerPeriod => exact execBalancerPeriod_keeps _ s (.refl s)
  | pathTableWrite => exact execPathTableWrite_keeps _ _ _ _ s (.refl s)
  | fenceCell => exact execFenceCell_keeps _ _ _ _ s (.refl s)
  | fenceAck => exact execFenceAck_keeps _ _ _ s (.refl s)
  | tidelinkLaneLoss => exact execTidelinkLaneLoss_keeps _ _ _ s (.refl s)
  | tidelinkFailure => exact execTidelinkFailure_keeps _ s (.refl s)
  | dedupReport => exact execDedupReport_keeps _ _ _ s (.refl s)
  | dedupTimeout => exact execDedupTimeout_keeps _ _ s (.refl s)
  | tidelinkTarget => exact execTidelinkTarget_keeps _ _ _ s (.refl s)
  | tidelinkRepair => exact execTidelinkRepair_keeps _ _ s (.refl s)
  | beachcomberPass => exact execBeachcomberPass_keeps _ _ s (.refl s)
  | resetToken => exact execResetToken_keeps _ _ s (.refl s)
  | crossingTimeout => exact execCrossingTimeout_keeps _ _ s (.refl s)
  | tileReset => exact execTileReset_keeps _ _ s (.refl s)
  | tileTarget => exact execTileTarget_keeps _ _ _ s (.refl s)
  | tileInService => exact execTileInService_keeps _ s (.refl s)
  | grant => exact execGrant_keeps _ _ s (.refl s)
  | addDynamicCapacityResponse => exact execAddDynamicCapacityResponse_keeps _ _ _ s (.refl s)
  | offerTimeout => exact execOfferTimeout_keeps _ s (.refl s)
  | extentRelease => exact execExtentRelease_keeps _ _ s (.refl s)
  | forcedRelease => exact execForcedRelease_keeps _ _ s (.refl s)
  | releaseDynamicCapacity => exact execReleaseDynamicCapacity_keeps _ _ s (.refl s)
  | cacheAck => exact execCacheAck_keeps _ s (.refl s)
  | releaseDrainTimeout => exact execReleaseDrainTimeout_keeps _ s (.refl s)
  | releaseRequestsDone => exact execReleaseRequestsDone_keeps _ s (.refl s)
  | scrubComplete => exact execScrubComplete_keeps _ _ s (.refl s)
  | targetPoolWrite => exact execTargetPoolWrite_keeps _ _ _ s (.refl s)
  | joinComplete => exact execJoinComplete_keeps _ _ s (.refl s)
  | drainDone => exact execDrainDone_keeps _ s (.refl s)
  | linkReturnTimeout => exact execLinkReturnTimeout_keeps _ s (.refl s)
  | nearTierWrite => exact execNearTierWrite_keeps _ _ _ s (.refl s)
  | pseudoChannelFailure => exact execPseudoChannelFailure_keeps _ _ s (.refl s)
  | retirePseudoChannel => exact execRetirePseudoChannel_keeps _ _ _ s (.refl s)
  | rowRepair => exact execRowRepair_keeps _ _ _ s (.refl s)
  | clearCapture => exact execClearCapture_keeps _ _ _ s (.refl s)
  | recolour => exact execRecolour_keeps _ _ s (.refl s)
  | tagQuery => exact execTagQuery_keeps _ _ s (.refl s)
  | biTimeout => exact execBiTimeout_keeps _ _ s (.refl s)
  | rangeBackInvalidationComplete => exact execRangeBackInvalidationComplete_keeps _ s (.refl s)
  | holdWindowEnd => exact execHoldWindowEnd_keeps _ s (.refl s)
  | lostHostScan => exact execLostHostScan_keeps _ s (.refl s)
  | cacheFlush => exact execCacheFlush_keeps _ _ s (.refl s)
  | dirLookup => exact execDirLookup_keeps _ _ _ s (.refl s)
  | iscSelectTimeout => exact execIscSelectTimeout_keeps _ s (.refl s)
  | epochEnd => exact execEpochEnd_keeps _ s (.refl s)
  | moveRecallComplete => exact execMoveRecallComplete_keeps _ s (.refl s)
  | moveCopyComplete => exact execMoveCopyComplete_keeps _ s (.refl s)
  | cutOverComplete => exact execCutOverComplete_keeps _ s (.refl s)
  | lockGuardExpiry => exact execLockGuardExpiry_keeps _ s (.refl s)
  | releaseMessage => exact execReleaseMessage_keeps _ _ s (.refl s)
  | moveSettle => exact execMoveSettle_keeps _ s (.refl s)
  | sectorFill => exact execSectorFill_keeps _ _ s (.refl s)
  | littoralMove => exact execLittoralMove_keeps _ _ s (.refl s)
  | invocationStart => exact execInvocationStart_keeps _ _ s (.refl s)
  | bindingsWrite => exact execBindingsWrite_keeps _ _ _ _ s (.refl s)
  | memoryReply => exact execMemoryReply_keeps _ _ _ s (.refl s)
  | timerExpiry => exact execTimerExpiry_keeps _ s (.refl s)
  | waitCycle => exact execWaitCycle_keeps _ _ s (.refl s)
  | engineFailure => exact execEngineFailure_keeps _ s (.refl s)
  | engineOutOfService => exact execEngineOutOfService_keeps _ _ s (.refl s)
  | engineReturn => exact execEngineReturn_keeps _ _ s (.refl s)
  | builtInCheckComplete => exact execBuiltInCheckComplete_keeps _ _ s (.refl s)
  | contextMoveBack => exact execContextMoveBack_keeps _ s (.refl s)
  | tableLoad => exact execTableLoad_keeps _ _ s (.refl s)
  | tableUnload => exact execTableUnload_keeps _ _ s (.refl s)
  | unloadTimeout => exact execUnloadTimeout_keeps _ s (.refl s)
  | stopContext => exact execStopContext_keeps _ _ _ s (.refl s)
  | stepNop => exact execStepNop_keeps _ _ s (.refl s)
  | stepEnd => exact execStepEnd_keeps _ _ s (.refl s)
  | stepYield => exact execStepYield_keeps _ _ s (.refl s)
  | stepWait => exact execStepWait_keeps _ _ s (.refl s)
  | stepSignal => exact execStepSignal_keeps _ _ s (.refl s)
  | stepTimer => exact execStepTimer_keeps _ _ s (.refl s)
  | stepSysr => exact execStepSysr_keeps _ _ s (.refl s)
  | stepRdf => exact execStepRdf_keeps _ _ s (.refl s)
  | stepWrf => exact execStepWrf_keeps _ _ s (.refl s)
  | stepBr => exact execStepBr_keeps _ _ s (.refl s)
  | stepLoop => exact execStepLoop_keeps _ _ s (.refl s)
  | stepMov => exact execStepMov_keeps _ _ s (.refl s)
  | stepCsel => exact execStepCsel_keeps _ _ s (.refl s)
  | stepSext => exact execStepSext_keeps _ _ s (.refl s)
  | stepAdd => exact execStepAdd_keeps _ _ s (.refl s)
  | stepAdc => exact execStepAdc_keeps _ _ s (.refl s)
  | stepSub => exact execStepSub_keeps _ _ s (.refl s)
  | stepSbb => exact execStepSbb_keeps _ _ s (.refl s)
  | stepNeg => exact execStepNeg_keeps _ _ s (.refl s)
  | stepCmp => exact execStepCmp_keeps _ _ s (.refl s)
  | stepMul => exact execStepMul_keeps _ _ s (.refl s)
  | stepMulhu => exact execStepMulhu_keeps _ _ s (.refl s)
  | stepMulhs => exact execStepMulhs_keeps _ _ s (.refl s)
  | stepDivu => exact execStepDivu_keeps _ _ s (.refl s)
  | stepDivs => exact execStepDivs_keeps _ _ s (.refl s)
  | stepRemu => exact execStepRemu_keeps _ _ s (.refl s)
  | stepRems => exact execStepRems_keeps _ _ s (.refl s)
  | stepMinu => exact execStepMinu_keeps _ _ s (.refl s)
  | stepMaxu => exact execStepMaxu_keeps _ _ s (.refl s)
  | stepMins => exact execStepMins_keeps _ _ s (.refl s)
  | stepMaxs => exact execStepMaxs_keeps _ _ s (.refl s)
  | stepAnd => exact execStepAnd_keeps _ _ s (.refl s)
  | stepOr => exact execStepOr_keeps _ _ s (.refl s)
  | stepXor => exact execStepXor_keeps _ _ s (.refl s)
  | stepTst => exact execStepTst_keeps _ _ s (.refl s)
  | stepLsl => exact execStepLsl_keeps _ _ s (.refl s)
  | stepLsr => exact execStepLsr_keeps _ _ s (.refl s)
  | stepAsr => exact execStepAsr_keeps _ _ s (.refl s)
  | stepRol => exact execStepRol_keeps _ _ s (.refl s)
  | stepRor => exact execStepRor_keeps _ _ s (.refl s)
  | stepPopc => exact execStepPopc_keeps _ _ s (.refl s)
  | stepClz => exact execStepClz_keeps _ _ s (.refl s)
  | stepBswap => exact execStepBswap_keeps _ _ s (.refl s)
  | stepCrc => exact execStepCrc_keeps _ _ s (.refl s)
  | stepLcrc => exact execStepLcrc_keeps _ _ s (.refl s)
  | stepSld => exact execStepSld_keeps _ _ s (.refl s)
  | stepSst => exact execStepSst_keeps _ _ s (.refl s)
  | stepLd => exact execStepLd_keeps _ _ s (.refl s)
  | stepSt => exact execStepSt_keeps _ _ s (.refl s)
  | stepLcopy => exact execStepLcopy_keeps _ _ s (.refl s)
  | stepLfill => exact execStepLfill_keeps _ _ s (.refl s)
  | stepLcmp => exact execStepLcmp_keeps _ _ s (.refl s)
  | stepAadd => exact execStepAadd_keeps _ _ s (.refl s)
  | stepAswp => exact execStepAswp_keeps _ _ s (.refl s)
  | stepAcas => exact execStepAcas_keeps _ _ s (.refl s)
  | stepAcas128 => exact execStepAcas128_keeps _ _ s (.refl s)
  | stepXld => exact execStepXld_keeps _ _ s (.refl s)
  | stepXst => exact execStepXst_keeps _ _ s (.refl s)
  | stepXcpy => exact execStepXcpy_keeps _ _ s (.refl s)
  | stepHld => exact execStepHld_keeps _ _ s (.refl s)
  | stepHcmt => exact execStepHcmt_keeps _ _ s (.refl s)
  | stepBisnp => exact execStepBisnp_keeps _ _ _ _ s (.refl s)
  | stepDlswap => exact execStepDlswap_keeps _ _ _ s (.refl s)
  | stepCntrd => exact execStepCntrd_keeps _ _ _ _ s (.refl s)
  | stepRmap => exact execStepRmap_keeps _ _ _ _ _ s (.refl s)
  | stepHeat => exact execStepHeat_keeps _ _ _ _ s (.refl s)
  | stepNotify => exact execStepNotify_keeps _ _ _ _ _ s (.refl s)
  | undefinedStep => exact execUndefinedStep_keeps _ _ s (.refl s)
  | instCreate => exact execInstCreate_keeps _ _ s (.refl s)
  | instDestroy => exact execInstDestroy_keeps _ _ s (.refl s)
  | destroyComplete => exact execDestroyComplete_keeps _ s (.refl s)
  | instBind => exact execInstBind_keeps _ _ _ _ s (.refl s)
  | instUnbind => exact execInstUnbind_keeps _ s (.refl s)
  | hdmDecoderCommit => exact execHdmDecoderCommit_keeps _ _ _ s (.refl s)
  | identifyMemoryDevice => exact execIdentifyMemoryDevice_keeps _ s (.refl s)
  | getSupportedLogs => exact execGetSupportedLogs_keeps _ s (.refl s)
  | getLog => exact execGetLog_keeps _ _ _ s (.refl s)
  | getEventRecords => exact execGetEventRecords_keeps _ _ s (.refl s)
  | clearEventRecords => exact execClearEventRecords_keeps _ _ _ s (.refl s)
  | getEventInterruptPolicy => exact execGetEventInterruptPolicy_keeps _ s (.refl s)
  | setEventInterruptPolicy => exact execSetEventInterruptPolicy_keeps _ _ s (.refl s)
  | getHealthInfo => exact execGetHealthInfo_keeps _ s (.refl s)
  | getTimestamp => exact execGetTimestamp_keeps _ s (.refl s)
  | getPoisonList => exact execGetPoisonList_keeps _ _ _ s (.refl s)
  | getDynamicCapacityConfiguration => exact execGetDynamicCapacityConfiguration_keeps _ _ _ s (.refl s)
  | getDynamicCapacityExtentList => exact execGetDynamicCapacityExtentList_keeps _ _ _ s (.refl s)
  | mailboxUnsupported => exact execMailboxUnsupported_keeps _ _ s (.refl s)
  | dictionaryRequest => exact execDictionaryRequest_keeps _ _ s (.refl s)
  | submitInvocations => exact execSubmitInvocations_keeps _ _ _ s (.refl s)
  | getCompletions => exact execGetCompletions_keeps _ _ _ s (.refl s)
  | loadStepTable => exact execLoadStepTable_keeps _ _ s (.refl s)
  | unloadStepTable => exact execUnloadStepTable_keeps _ _ s (.refl s)
  | getNotices => exact execGetNotices_keeps _ _ s (.refl s)
  | acknowledgeNotices => exact execAcknowledgeNotices_keeps _ _ s (.refl s)
  | confirmFlush => exact execConfirmFlush_keeps _ _ _ s (.refl s)
  | postNotice => exact execPostNotice_keeps _ _ _ s (.refl s)
  | dirtyStart => exact execDirtyStart_keeps _ _ s (.refl s)
  | dirtyStop => exact execDirtyStop_keeps _ _ s (.refl s)
  | dirtyHarvest => exact execDirtyHarvest_keeps _ _ _ s (.refl s)
  | harvestTick => exact execHarvestTick_keeps s (.refl s)
  | markFlushComplete => exact execMarkFlushComplete_keeps _ s (.refl s)
  | bitmapClearComplete => exact execBitmapClearComplete_keeps _ s (.refl s)
  | harvestTransferComplete => exact execHarvestTransferComplete_keeps _ s (.refl s)
  | meterRefill => exact execMeterRefill_keeps _ s (.refl s)
  | egressSchedule => exact execEgressSchedule_keeps _ s (.refl s)
  | clearOverflow => exact execClearOverflow_keeps _ _ _ _ s (.refl s)
  | instanceClearOverflow => exact execInstanceClearOverflow_keeps _ _ s (.refl s)
  | controlRecordWrite => exact execControlRecordWrite_keeps _ _ _ _ s (.refl s)
  | windowStart => exact execWindowStart_keeps _ _ s (.refl s)
  | windowStop => exact execWindowStop_keeps _ _ s (.refl s)
  | windowEnd => exact execWindowEnd_keeps _ s (.refl s)
  | causeOccurrence => exact execCauseOccurrence_keeps _ _ _ _ s (.refl s)
  | faultClear r src mask same => exact execFaultClear_keeps r src mask same s (.refl s)
  | faultClearAll => exact execFaultClearAll_keeps _ s (.refl s)
  | levelUnlatch => exact execLevelUnlatch_keeps _ _ s (.refl s)
  | faultRescan => exact execFaultRescan_keeps s (.refl s)
  | recordCommit => exact execRecordCommit_keeps s (.refl s)
  | storeFailure => exact execStoreFailure_keeps s (.refl s)
  | retryStore => exact execRetryStore_keeps _ _ s (.refl s)
  | strandErase => exact execStrandErase_keeps _ s (.refl s)
  | secondsSave => exact execSecondsSave_keeps s (.refl s)
  | domainTarget => exact execDomainTarget_keeps _ _ _ s (.refl s)
  | blockAnswer => exact execBlockAnswer_keeps _ _ _ s (.refl s)
  | delayTimeout => exact execDelayTimeout_keeps _ _ s (.refl s)
  | domainEntryComplete => exact execDomainEntryComplete_keeps _ s (.refl s)
  | bankEmpty => exact execBankEmpty_keeps _ _ s (.refl s)
  | wakeSource => exact execWakeSource_keeps _ _ s (.refl s)
  | idleTime => exact execIdleTime_keeps _ s (.refl s)
  | pllLock => exact execPllLock_keeps _ s (.refl s)
  | pllLockTimeout => exact execPllLockTimeout_keeps _ s (.refl s)
  | forceOff => exact execForceOff_keeps _ _ s (.refl s)
  | droopCrossing => exact execDroopCrossing_keeps _ _ _ s (.refl s)
  | stretchRelease => exact execStretchRelease_keeps _ _ _ s (.refl s)
  | stretchTimeout => exact execStretchTimeout_keeps _ s (.refl s)
  | thermalThreshold => exact execThermalThreshold_keeps _ _ s (.refl s)
  | thermalHoldEnd => exact execThermalHoldEnd_keeps _ s (.refl s)
  | thermalTrip => exact execThermalTrip_keeps _ s (.refl s)
  | avsAck => exact execAvsAck_keeps _ s (.refl s)
  | avsTimeout => exact execAvsTimeout_keeps _ s (.refl s)
  | phaseLost => exact execPhaseLost_keeps _ _ s (.refl s)
  | pwrokTFall => exact execPwrokTFall_keeps _ s (.refl s)
  | railMonitor => exact execRailMonitor_keeps _ s (.refl s)
  | slotTarget => exact execSlotTarget_keeps _ _ _ s (.refl s)
  | slotEnRise => exact execSlotEnRise_keeps _ _ s (.refl s)
  | slotEnFall => exact execSlotEnFall_keeps _ s (.refl s)
  | slotStagger => exact execSlotStagger_keeps _ s (.refl s)
  | powerGood => exact execPowerGood_keeps _ _ s (.refl s)
  | startTimeout => exact execStartTimeout_keeps _ s (.refl s)
  | breakerTrip => exact execBreakerTrip_keeps _ s (.refl s)
  | fastTrip => exact execFastTrip_keeps _ _ s (.refl s)
  | fetTemperatureTrip => exact execFetTemperatureTrip_keeps _ s (.refl s)
  | modelUpdate => exact execModelUpdate_keeps _ _ s (.refl s)
  | channelCheck => exact execChannelCheck_keeps _ _ _ s (.refl s)
  | channelDisagreement => exact execChannelDisagreement_keeps _ _ _ s (.refl s)
  | slotPwrwarn => exact execSlotPwrwarn_keeps _ _ s (.refl s)
  | pwrwarnRecovery => exact execPwrwarnRecovery_keeps _ s (.refl s)
  | inputLoss => exact execInputLoss_keeps _ _ s (.refl s)
  | warningLeadEnd => exact execWarningLeadEnd_keeps _ s (.refl s)
  | stopComplete => exact execStopComplete_keeps _ s (.refl s)
  | offTimeEnd => exact execOffTimeEnd_keeps _ s (.refl s)
  | powerOn => exact execPowerOn_keeps _ s (.refl s)
  | pwrokAonFall => exact execPwrokAonFall_keeps s (.refl s)
  | perstN => exact execPerstN_keeps _ s (.refl s)
  | bootComplete => exact execBootComplete_keeps s (.refl s)
  | fwBegin => exact execFwBegin_keeps _ _ s (.refl s)
  | fwDownload => exact execFwDownload_keeps _ _ _ _ s (.refl s)
  | fwVerify => exact execFwVerify_keeps _ s (.refl s)
  | activateFirmware => exact execActivateFirmware_keeps _ s (.refl s)
  | applyMicrocode => exact execApplyMicrocode_keeps _ s (.refl s)
  | fwConfirm => exact execFwConfirm_keeps _ s (.refl s)
  | fwRevert => exact execFwRevert_keeps _ s (.refl s)
  | setCredential => exact execSetCredential_keeps _ _ s (.refl s)
  | enrollKey => exact execEnrollKey_keeps _ _ s (.refl s)
  | revokeKey => exact execRevokeKey_keeps _ _ s (.refl s)
  | raiseFloor => exact execRaiseFloor_keeps _ s (.refl s)
  | revokeRootKey => exact execRevokeRootKey_keeps _ _ s (.refl s)
  | getVersion => exact execGetVersion_keeps _ s (.refl s)
  | getCapabilities => exact execGetCapabilities_keeps _ s (.refl s)
  | negotiateAlgorithms => exact execNegotiateAlgorithms_keeps _ _ s (.refl s)
  | getDigests => exact execGetDigests_keeps _ s (.refl s)
  | getCertificate => exact execGetCertificate_keeps _ _ _ _ s (.refl s)
  | spdmChallenge => exact execSpdmChallenge_keeps _ _ _ s (.refl s)
  | getMeasurements => exact execGetMeasurements_keeps _ _ _ s (.refl s)
  | keyExchange => exact execKeyExchange_keeps _ _ s (.refl s)
  | spdmFinish => exact execSpdmFinish_keeps _ _ _ s (.refl s)
  | endSession => exact execEndSession_keeps _ _ s (.refl s)
  | keyProg => exact execKeyProg_keeps _ _ _ _ _ s (.refl s)
  | kSetGo => exact execKSetGo_keeps _ _ _ _ s (.refl s)
  | ideRefresh => exact execIdeRefresh_keeps _ s (.refl s)
  | ideIntegrityFailure => exact execIdeIntegrityFailure_keeps _ _ s (.refl s)
  | attestNow => exact execAttestNow_keeps _ _ s (.refl s)
  | sramBist => exact execSramBist_keeps _ _ s (.refl s)
  | hbmBist => exact execHbmBist_keeps _ _ s (.refl s)
  | receiverCalibration => exact execReceiverCalibration_keeps _ _ s (.refl s)
  | logicBist => exact execLogicBist_keeps _ _ s (.refl s)
  | patrolScrubPass => exact execPatrolScrubPass_keeps _ _ s (.refl s)
  | testComplete => exact execTestComplete_keeps _ _ _ s (.refl s)
  | diagnosticRead => exact execDiagnosticRead_keeps _ _ s (.refl s)
  | diagnosticWrite => exact execDiagnosticWrite_keeps _ _ s (.refl s)
  | pwrokTRise => exact execPwrokTRise_keeps _ s (.refl s)
  | l1Entry => exact execL1Entry_keeps _ s (.refl s)
  | l1Exit => exact execL1Exit_keeps _ s (.refl s)
  | recoveryEntry => exact execRecoveryEntry_keeps _ s (.refl s)
  | headlandWarmReset => exact execHeadlandWarmReset_keeps s (.refl s)
  | partnerDvsecWrite => exact execPartnerDvsecWrite_keeps _ _ s (.refl s)
  | actionComplete => exact execActionComplete_keeps _ _ s (.refl s)
  | tidelinkTrained => exact execTidelinkTrained_keeps _ _ _ s (.refl s)
  | vddHldInRange => exact execVddHldInRange_keeps s (.refl s)
  | phaseRestored => exact execPhaseRestored_keeps _ s (.refl s)
  | cycleCountTrim => exact execCycleCountTrim_keeps _ s (.refl s)
  | pllLockLoss => exact execPllLockLoss_keeps _ _ s (.refl s)

/-- Settles O41: the dispatch runs each command's own meaning, and each keeps what has left the device. -/
theorem everyCommandCompletes : Obligations.EveryCommandCompletes := exec_keeps

/-! A step. -/

/-- A step of a queue with a command in front is that command on the queue's rest. -/
theorem step_of_pending {c : Instr} {rest : List Instr} {s : State} (h : s.pending = c :: rest) : step s = exec c { s with pending := rest } := by
  rw [step, h]

theorem step_of_empty {s : State} (h : s.pending = []) : step s = .next (idle s) := by rw [step, h]

/-- Settles O37. -/
theorem stepRunsFront : Obligations.StepRunsFront := fun _ _ _ => step_of_pending

/-- Settles O40: at reset every sparse map, memory and the queue are empty. -/
theorem resetKeepsForm : Obligations.ResetKeepsForm := ⟨⟨rfl, rfl, rfl, rfl, rfl⟩, rfl⟩

/-- A step keeps what its command keeps of the state with the queue's rest. -/
theorem step_keeps {s t : State} (h : step s = .next t) : Keeps { s with pending := s.pending.drop 1 } t := by
  cases hqueue : s.pending with
  | nil =>
    rw [step_of_empty hqueue] at h
    cases h
    rw [List.drop_nil, ← hqueue]
    exact idle_keeps s (.refl s)
  | cons c rest =>
    rw [step_of_pending hqueue] at h
    obtain ⟨u, hnext, hkeeps⟩ := exec_keeps c { s with pending := rest }
    rw [h] at hnext
    cases hnext
    exact hkeeps

/-- Canonical forms pass through what keeps them. -/
theorem inv_of_keeps {s t : State} (hkeeps : Keeps s t) : s.Inv → t.Inv := by
  rintro ⟨hobj, hblob, htbl, hchg, hmem⟩
  exact ⟨hkeeps.obj hobj, hkeeps.blob hblob, hkeeps.tbl htbl, hkeeps.chg hchg, hkeeps.mem hmem⟩

/-- Settles O42: a step is `idle` or a command on the queue's rest, and both keep their state's form. -/
theorem stepsKeepInvariant : Obligations.StepsKeepInvariant := by
  intro s t hinv hqueue hstep
  have hkeeps := step_keeps hstep
  have hpending : t.pending = s.pending.drop 1 := hkeeps.pending
  have hrest : t.queueOk := by
    unfold State.queueOk at hqueue ⊢
    rw [hpending]
    exact List.all_eq_true.2 fun c hc => List.all_eq_true.1 hqueue c (List.mem_of_mem_drop hc)
  exact ⟨inv_of_keeps hkeeps hinv, hrest, hkeeps.out, hkeeps.free, hpending⟩

end Sys2Proof.Proofs
end

section
/-!
SUPPORT. Fault sources and the Strandline recorder (R336 to R354, R436): how an occurrence of a cause goes by what stands, what its source then
reads, and O50, O51 and O35.
-/
namespace Sys2Proof.Proofs

open Sys2Proof Sys2Proof.Machine

@[simp] theorem getSource_setSource_same (s : State) (src : Nat) (x : Source) : getSource (setSource s src x) src = x := look_put_same _ _ _ _

theorem getSource_setSource_other (s : State) {src y : Nat} (x : Source) (h : y ≠ src) : getSource (setSource s src x) y = getSource s y :=
  look_put_other _ _ h _

@[simp] theorem cause_setCause_same (x : Source) (c : Nat) (k : Cause) : (x.setCause c k).cause c = k := look_put_same _ _ _ _

@[simp] theorem unreachable_setCause (x : Source) (c : Nat) (k : Cause) : (x.setCause c k).unreachable = x.unreachable := rfl

/-! What an occurrence leaves of its source (R337 to R339): in the block, or in the held copy of a source that cannot be reached. -/

/-- The source after its cause latches (R337). -/
def latchedSource (s : State) (src c : Nat) (sev : Severity) (ps : List Nat) : Source :=
  let x := getSource s src
  let k := x.cause c
  let first : Rec := { sev := sev, event := 0x1000 + c, src := src, seq := s.flt.nextSeq, seconds := secondsNow s
                       cycles := s.clock.powerCycles, params := ps }
  let n := (k.count + 1) % 2 ^ 32
  if x.unreachable then
    { x.setCause c { k with held := true, heldMerged := false, heldSev := sev, count := n } with
      heldFirst := if x.noHeld then first.bytes else x.heldFirst }
  else
    { x.setCause c { k with latched := true, merged := false, recorded := recording s, sev := sev, count := n
                            countAtLatch := n, latchSec := secondsNow s, latchCyc := s.clock.powerCycles, params := ps } with
      first := if x.clear then first.bytes else x.first }

/-- The source after an occurrence of its cause merges (R338). -/
def mergedSource (x : Source) (c : Nat) : Source :=
  x.setCause c (if x.unreachable then { x.cause c with count := ((x.cause c).count + 1) % 2 ^ 32, heldMerged := true }
    else { x.cause c with count := ((x.cause c).count + 1) % 2 ^ 32, merged := true })

/-- The source after its cause escalates (R339), with a record of it or without. -/
def escalatedSource (x : Source) (c : Nat) (sev : Severity) (recorded : Bool) (ps : List Nat) : Source :=
  x.setCause c (if x.unreachable then { x.cause c with count := ((x.cause c).count + 1) % 2 ^ 32, heldSev := sev }
    else { x.cause c with count := ((x.cause c).count + 1) % 2 ^ 32, sev := sev, recorded := recorded, params := ps })

theorem latchCause_eq (s : State) (src c : Nat) (sev : Severity) (ps : List Nat) :
    latchCause s src c sev ps = report (setSource s src (latchedSource s src c sev ps)) src c sev ps := rfl

@[simp] theorem standing_latchedSource (s : State) (src c : Nat) (sev : Severity) (ps : List Nat) :
    (latchedSource s src c sev ps).standing c = some sev := by
  unfold latchedSource
  cases hreach : (getSource s src).unreachable <;> simp [Source.standing, Source.setCause, Source.cause, look_put_same, hreach]

@[simp] theorem count_latchedSource (s : State) (src c : Nat) (sev : Severity) (ps : List Nat) :
    ((latchedSource s src c sev ps).cause c).count = (((getSource s src).cause c).count + 1) % 2 ^ 32 := by
  unfold latchedSource
  cases hreach : (getSource s src).unreachable <;> simp [Source.setCause, Source.cause, look_put_same, hreach]

@[simp] theorem standing_mergedSource (x : Source) (c : Nat) : (mergedSource x c).standing c = x.standing c := by
  unfold mergedSource
  cases hreach : x.unreachable <;> simp [Source.standing, hreach]

@[simp] theorem count_mergedSource (x : Source) (c : Nat) : ((mergedSource x c).cause c).count = ((x.cause c).count + 1) % 2 ^ 32 := by
  rw [mergedSource, cause_setCause_same]
  split <;> rfl

/-- The MERGED flag of the copy that holds the cause is set. -/
theorem merged_mergedSource (x : Source) (c : Nat) :
    (if x.unreachable then ((mergedSource x c).cause c).heldMerged else ((mergedSource x c).cause c).merged) = true := by
  rw [mergedSource, cause_setCause_same]
  split <;> rfl

section
variable (x : Source) (c : Nat) (sev : Severity) (recorded : Bool) (ps : List Nat)

/-- A cause that stands stands at the new severity. -/
theorem standing_escalatedSource {old : Severity} (h : x.standing c = some old) : (escalatedSource x c sev recorded ps).standing c = some sev := by
  unfold escalatedSource
  cases hreach : x.unreachable <;> simp [Source.standing, hreach] at h ⊢ <;> exact h.1

theorem count_escalatedSource : ((escalatedSource x c sev recorded ps).cause c).count = ((x.cause c).count + 1) % 2 ^ 32 := by
  rw [escalatedSource, cause_setCause_same]
  split <;> rfl

theorem merged_escalatedSource : ((escalatedSource x c sev recorded ps).cause c).merged = (x.cause c).merged := by
  rw [escalatedSource, cause_setCause_same]
  split <;> rfl

theorem heldMerged_escalatedSource : ((escalatedSource x c sev recorded ps).cause c).heldMerged = (x.cause c).heldMerged := by
  rw [escalatedSource, cause_setCause_same]
  split <;> rfl

end

/-! How an occurrence goes: by whether its cause stands, and at which severity. -/

section
variable {s : State} {src c : Nat} {sev : Severity} (hsource : isSource src = true) (hcause : c < 26) (hsev : sev ≠ .info)
  (hreach : ¬((getSource s src).unreachable = true ∧ isLevel c = true))
include hsource hcause hsev hreach

/-- A cause that does not stand latches. -/
theorem raise_latches (ps : List Nat) (hclear : (getSource s src).standing c = none) :
    raise s src c sev ps = latchCause s src c sev (causeParams s src 0 ps) := by
  have hlatches : ¬(isSource src = false ∨ 26 ≤ c ∨ sev = .info) := by simp [hsource, hcause, hsev]
  rw [raise, raiseEv, if_neg hlatches]
  simp only [if_neg hreach, hclear]

/-- At a severity no higher than the latched one it merges. -/
theorem raise_merges (ps : List Nat) {old : Severity} (hstands : (getSource s src).standing c = some old) (hle : sevCode sev ≤ sevCode old) :
    raise s src c sev ps = setSource s src (mergedSource (getSource s src) c) := by
  have hlatches : ¬(isSource src = false ∨ 26 ≤ c ∨ sev = .info) := by simp [hsource, hcause, hsev]
  have hmerges : sevLe sev old = true := decide_eq_true hle
  rw [raise, raiseEv, if_neg hlatches]
  simp only [if_neg hreach, hstands, if_pos hmerges, Bool.false_eq_true, false_and, if_false]
  rfl

/-- At a higher one it escalates. -/
theorem raise_escalates (ps : List Nat) {old : Severity} (hstands : (getSource s src).standing c = some old) (hlt : sevCode old < sevCode sev) :
    raise s src c sev ps = report (setSource s src
      (escalatedSource (getSource s src) c sev (recording s) (causeParams s src 0 ps))) src c sev (causeParams s src 0 ps) := by
  have hlatches : ¬(isSource src = false ∨ 26 ≤ c ∨ sev = .info) := by simp [hsource, hcause, hsev]
  have hrises : ¬sevLe sev old = true := by simpa [sevLe] using hlt
  rw [raise, raiseEv, if_neg hlatches]
  simp only [if_neg hreach, hstands, if_neg hrises]
  rfl

end

/-- Settles O50: the cause latches or merges, and its source reads as that left it. -/
theorem causeLatchesOrMerges : Obligations.CauseLatchesOrMerges := by
  intro s src c sev ps hsource hcause hsev hreach
  constructor
  · intro hclear
    rw [raise_latches hsource hcause hsev hreach ps hclear, latchCause_eq]
    exact ⟨_, rfl, by simp, by simp, rfl, fun x hx => getSource_setSource_other s _ hx⟩
  · intro old hstands hle
    rw [raise_merges hsource hcause hsev hreach ps hstands hle, getSource_setSource_same]
    exact ⟨(standing_mergedSource _ _).trans hstands, count_mergedSource _ _, merged_mergedSource _ _, rfl,
      fun x hx => getSource_setSource_other s _ hx⟩

/-- Settles O51: the cause escalates, and a latch and an escalation are reported by one operation. -/
theorem causeEscalates : Obligations.CauseEscalates := by
  intro s src c sev ps hsource hcause hsev hreach
  refine ⟨fun old hstands hlt => ?escalates, fun hclear => ?latches, fun u ps hrecording => if_pos hrecording⟩
  case escalates =>
    rw [raise_escalates hsource hcause hsev hreach ps hstands hlt]
    refine ⟨_, rfl, ?_⟩
    rw [getSource_setSource_same]
    exact ⟨standing_escalatedSource _ _ _ _ _ hstands, count_escalatedSource _ _ _ _ _, merged_escalatedSource _ _ _ _ _,
      heldMerged_escalatedSource _ _ _ _ _, rfl⟩
  case latches => exact ⟨_, (raise_latches hsource hcause hsev hreach ps hclear).trans (latchCause_eq _ _ _ _ _)⟩

/-! The commands of sources and of the recorder. -/

/-- An occurrence below Critical leaves the power of its tile. -/
theorem coreCritical_of_ne (s : State) (src : Nat) {sev : Severity} (h : sev ≠ .critical) : coreCritical s src sev = s :=
  if_neg fun hcritical => h hcritical.1

/-- A Clear without an occurrence of the same cycle is its write. -/
theorem exec_faultClear_alone (r : Requester) (src : BitVec 16) (m : BitVec 32) (s : State) : exec (.faultClear r src m none) s =
    .next (rowWrite s r 0xC000 6 src.toNat (be 4 m.toNat) fun x => faultClearWrite x src.toNat m.toNat none) := by
  have hexec : exec (.faultClear r src m none) s = execFaultClear r src m none s := rfl
  rw [hexec]
  unfold execFaultClear
  cases writeChecks s r (rowItem 0xC000 6 src.toNat (be 4 m.toNat)) <;> rfl

/-- A level cause that is latched unlatches with its condition, and a record says so (R336). -/
theorem endLevel_latched {s : State} {src c : Nat} {k : Cause} (hlevel : isLevel c = true) (hk : k = (getSource s src).cause c)
    (hlatched : k.latched = true) {u : State} (hu : u = setSource s src
      ((getSource s src).setCause c { k with latched := false, merged := false, recorded := true, sev := .info }).settle) :
    endLevel s src c = if recording s = true then record u .info (0x1200 + c) src [0, k.latchSec * 2 ^ 32 + k.latchCyc, 0, 0, 0, 0]
      else u := by
  subst hk hu
  rw [endLevel, unlatchLevel, if_pos ⟨hlevel, hlatched⟩]

/-- A record that awaits its commit is committed while the store works (R352). -/
theorem exec_recordCommit_committing {s : State} {x : Rec} (hstore : storeState s = 0) (hnext : nextCommit s = some x) :
    exec .recordCommit s = .next (commitRec s x) := by
  show execRecordCommit s = _
  simp [execRecordCommit, hstore, hnext]

/-- The store fails while no Erase runs (R354). -/
theorem storeFails_idle {s u : State} (hu : u = wr { s with flt := { s.flt with ringLost := 0 } } 0xC100 1 0 1)
    (hidle : cmdRunning u 0xC100 6 0 = false) : storeFails s = raise u 0xC100 24 .fault [] := by
  subst hu
  rw [storeFails, hidle]
  rfl

/-- An Erase of a store that works empties it and the ring (R436). -/
theorem eraseStore_working {s u : State} (hstore : storeState s ≠ 1)
    (hu : u = { cmdStart s 0xC100 6 0 with flt := { s.flt with store := [], ring := [] } }) :
    eraseStore s = record (wr u 0xC100 1 0 2) .info 0x0005 0xC100 [0, s.flt.store.length + awaiting s, 0, 0, 0, 0] := by
  subst hu
  exact if_neg hstore

/-- Settles O35: each command through the fact of its own operation. -/
theorem strandlineCommandsComplete : Obligations.StrandlineCommandsComplete := by
  intro s
  refine ⟨?occurs, ?clear, ?clearAll, ?unlatch, ?rescan, ?commit, ?storeFailure, ?probeFails, ?probe, ?erase, ?save⟩
  case occurs =>
    intro src c v ps hcritical hinfo hsource hreach hclear
    have hlatches := raise_latches hsource c.isLt hinfo (by simp [hreach]) ps hclear
    exact congrArg Host.Outcome.next ((coreCritical_of_ne _ _ hcritical).trans hlatches)
  case clear =>
    exact fun r src m haccepted => (exec_faultClear_alone r src m s).trans (next_rowWrite haccepted rfl)
  case clearAll => exact fun r haccepted => next_rowWrite haccepted rfl
  case unlatch => exact fun src c k u hlevel hk hlatched hu => congrArg Host.Outcome.next (endLevel_latched hlevel hk hlatched hu)
  case rescan =>
    rintro _ rfl
    rfl
  case commit => exact fun x hstore hnext => exec_recordCommit_committing hstore hnext
  case storeFailure => exact fun u hu hidle => congrArg Host.Outcome.next (storeFails_idle hu hidle)
  case probeFails => exact fun r haccepted => next_rowWrite haccepted rfl
  case probe =>
    rintro r _ haccepted rfl
    exact next_rowWrite haccepted rfl
  case erase => exact fun r u haccepted hstore hu => next_rowWrite haccepted (congrArg (·, Status.ok) (eraseStore_working hstore hu))
  case save => rfl

end Sys2Proof.Proofs
end

section
/-!
SUPPORT. Meters, telemetry and tiles (R129, R131, R303, R321 to R328): what each command comes to when its conditions hold, and O34.
-/
namespace Sys2Proof.Proofs

open Sys2Proof Sys2Proof.Machine

/-! Counters and bandwidth windows (R322, R326 to R328). -/

/-- A control record that its unit's kind defines is written, and its counter starts afresh. -/
theorem controlWrite_defined {s : State} {u n r : Nat} (hevent : eventDefined u (bits r 31 24) = true) (hport : bits r 23 22 ≠ 3)
    (hcluster : 32 ≤ u → bits r 23 22 = 0) (hclass : classEvent (bits r 31 24) = false → bits r 7 0 = 0xFF) :
    controlWrite s u n r = (setCounter (wrTbl s 0xB000 3 u n (bits r 31 22 * 2 ^ 22 + bits r 19 0)) u (n + 1) 0, .ok) := by
  refine if_neg ?_
  rintro (hundefined | hboth | ⟨hlarge, hnamed⟩ | ⟨hplain, hclasses⟩)
  · simp [hevent] at hundefined
  · exact hport hboth
  · exact hnamed (hcluster hlarge)
  · exact hclasses (hclass hplain)

/-- A window starts where none runs and its length is not 0. -/
theorem windowStartWrite_starts {s : State} {p : Nat} (hidle : rd s 0xB200 5 p ≠ 1) (hlength : rd s 0xB200 1 p ≠ 0) :
    windowStartWrite s p = (openWindow (wr (cmdDone s 0xB200 3 p 0) 0xB200 5 p 1) p 1, .ok) :=
  if_neg fun h => h.elim hidle hlength

/-- A running window that stops closes with its result so far. -/
theorem windowStopWrite_stops {s u : State} {p : Nat} {x : List Byte} (hruns : rd s 0xB200 5 p = 1)
    (hresult : windowResult (cmdDone s 0xB200 4 p 0) p (min ((getWin s p).len) (tileCycles s (p / 16) - (getWin s p).start)) true = (u, x)) :
    windowStopWrite s p = (wr (writeResult u p x) 0xB200 5 p 0, .ok) := by
  rw [windowStopWrite, if_neg (not_not.2 hruns), hresult]

/-- A window that does not repeat is complete at its end. -/
theorem endWindow_single {s u v : State} {p : Nat} {x : List Byte} (hruns : rd s 0xB200 5 p = 1)
    (hresult : windowResult s p (getWin s p).len false = (u, x)) (hv : v = writeResult u p x) (hsingle : rd v 0xB200 2 p = 1) :
    endWindow s p = wr v 0xB200 5 p 2 := by
  subst hv
  rw [endWindow, if_neg (not_not.2 hruns)]
  dsimp only
  rw [hresult]
  exact if_pos hsingle

/-! Tiles (R129, R131). -/

/-- A tile in service resets, and is released again while its target is in service. -/
theorem tileResetWrite_inService {s : State} {t : Nat} (hserves : rd s 0x3000 2 t = 3) :
    tileResetWrite s t = (tileReset (cmdStart s 0x3000 3 t) t 1 (if rd s 0x3000 1 t = 1 then 2 else 1), .ok) :=
  if_pos (.inl hserves)

/-- A tile held in reset is released by its target. -/
theorem tileTargetWrite_releases {s : State} {t v : Nat} (hv : v ≠ 0) (hreset : rd s 0x3000 2 t = 1) :
    tileTargetWrite s t v = (wr (wr s 0x3000 1 t v) 0x3000 2 t 2, .ok) := by
  rw [tileTargetWrite, if_neg hv, if_pos hreset]

/-- A tile in service whose target is 0 resets and stays in reset. -/
theorem tileTargetWrite_resets {s : State} {t v : Nat} (hv : v = 0) (hserves : rd s 0x3000 2 t = 3) :
    tileTargetWrite s t v = (tileReset (wr s 0x3000 1 t 0) t 1 1, .ok) := by
  rw [tileTargetWrite, if_pos hv, if_pos (.inl hserves), hv]

/-- Settles O34: the checked writes through the facts of their handlers, the events by their conditions. -/
theorem telemetryAndTilesComplete : Obligations.TelemetryAndTilesComplete := by
  intro s
  refine ⟨?refill, ?clear, ?clearInstance, ?control, ?start, ?stop, ?windowEnd, ?reset, ?release, ?hold, ?serves⟩
  case refill =>
    rintro t _ rfl
    rfl
  case clear => exact fun r u m w haccepted => next_rowWrite haccepted rfl
  case clearInstance => exact fun r i haccepted => next_rowWrite haccepted rfl
  case control =>
    exact fun r u n v haccepted hevent hport hcluster hclass =>
      next_rowChunk haccepted (controlWrite_defined hevent hport hcluster hclass)
  case start => exact fun r p haccepted hidle hlength => next_rowWrite haccepted (windowStartWrite_starts hidle hlength)
  case stop => exact fun r p u x haccepted hruns hresult => next_rowWrite haccepted (windowStopWrite_stops hruns hresult)
  case windowEnd =>
    exact fun p u v x hruns hresult hv hsingle => congrArg Host.Outcome.next (endWindow_single hruns hresult hv hsingle)
  case reset => exact fun r t haccepted hserves => next_rowWrite haccepted (tileResetWrite_inService hserves)
  case release => exact fun r t v haccepted hv hreset => next_rowWrite haccepted (tileTargetWrite_releases hv hreset)
  case hold => exact fun r t v haccepted hv hserves => next_rowWrite haccepted (tileTargetWrite_resets hv hserves)
  case serves => exact fun t hstarting => congrArg Host.Outcome.next (if_pos hstarting)

end Sys2Proof.Proofs
end

section
/-!
SUPPORT. Power domains (R358 to R372): targets, the entry handshake, waking, PLLs and Force off when their conditions hold, and O27.
-/
namespace Sys2Proof.Proofs

open Sys2Proof Sys2Proof.Machine

/-! Targets (R358, R359, R366). -/

/-- A domain that is ON starts the entry of a state at rest that it has, where it may leave ON. -/
theorem domainTargetWrite_enters {s : State} {d v : Nat} (hhas : targetHas d v = true) (hv : v = 1 ∨ v = 2) (hon : domNow s d = 0)
    (hleaves : mayLeave s d = true) (hmode : modeTouches s d = false) :
    domainTargetWrite s d v = (startEntry (wr s 0x9000 1 d v) d v false, .ok) := by
  rcases hv with rfl | rfl <;> simp [domainTargetWrite, hhas, hon, hleaves, hmode]

/-- A domain in RET under a parent that is ON wakes. -/
theorem domainTargetWrite_wakes {s : State} {d v : Nat} (hhas : targetHas d v = true) (hv : v = 0) (hret : domNow s d = 1)
    (hparent : parentOff s d = false) : domainTargetWrite s d v = (startWake (wr s 0x9000 1 d 0) d false, .ok) := by
  subst hv
  simp [domainTargetWrite, hhas, hret, hparent]

/-! The entry handshake (R360). -/

/-- A domain whose block answered: it waits for the block no longer. -/
def blockDone (s : State) (d code : Nat) (e : Entry) : State :=
  setDom s d { getDom s d with entry := some { e with waits := e.waits.filter (· != code), delayed := e.delayed.filter (· != code) } }

/-- The domain of a bank. -/
theorem domKind_bank (t : TileN) (b : Fin 4) : domKind (32 * t.val + 17 + b.val) = .bank t.val b.val := by
  revert t b
  decide

section
variable {s : State} {d code : Nat} {e : Entry} (hentry : (getDom s d).entry = some e) (hwaits : e.waits.contains code = true)
include hentry hwaits

theorem blockAnswer_acks : blockAnswer s d code .ack = blockAcks s d code e := by simp only [blockAnswer, hentry, if_pos hwaits]

/-- A block but a bank that acknowledges is waited for no longer. -/
theorem blockAnswer_ack (hready : blockRefuses s d code = none) (hother : ∀ t k, domKind d ≠ .bank t k) :
    blockAnswer s d code .ack = blockDone s d code e := by
  rw [blockAnswer_acks hentry hwaits]
  simp only [blockAcks, hready]
  rfl

/-- A bank that acknowledges has emptied (R198). -/
theorem blockAnswer_ack_bank {t b : Nat} (hready : blockRefuses s d code = none) (hbank : domKind d = .bank t b) :
    blockAnswer s d code .ack = blockDone (endLevel (emptyBank s t b) (0x6100 + t) 5) d code e := by
  rw [blockAnswer_acks hentry hwaits]
  simp only [blockAcks, hready, hbank]
  rfl

theorem blockAnswer_delay (hfirst : e.delayed.contains code = false) :
    blockAnswer s d code .delay = setDom s d { getDom s d with entry := some { e with delayed := e.delayed ++ [code] } } := by
  simp only [blockAnswer, hentry, if_pos hwaits, hfirst, Bool.false_eq_true, if_false]

theorem blockAnswer_refuse (hmay : neverRefuses code = false) :
    blockAnswer s d code .refuse = refuseEntry s d (blockReason s d code) code := by
  simp only [blockAnswer, hentry, if_pos hwaits, hmay, Bool.false_eq_true, if_false]

/-- A block that delayed and does not answer in time has refused. -/
theorem delayExpires_delayed (hdelayed : e.delayed.contains code = true) (hmay : neverRefuses code = false) :
    delayExpires s d code = refuseEntry s d (blockReason s d code) code := by
  simp only [delayExpires, hentry, hwaits, hdelayed, hmay, and_self, if_true, Bool.false_eq_true, if_false]

end

/-- An entry that waits for no block rests the domain. -/
theorem entryComplete_rests {s : State} {d : Nat} {e : Entry} (hentry : (getDom s d).entry = some e) (hdone : e.waits = [])
    (hstays : e.wakeAfter = false) : entryComplete s d = restDomain (cmdEnd s 0x9000 3 d 2 0) d e.want := by
  simp only [entryComplete, hentry, hdone, hstays, if_true, Bool.false_eq_true, if_false]

/-! Waking, idling and PLLs (R366 to R370). -/

/-- A wake source of a domain in RET under a parent that is ON wakes it. -/
theorem wakeSource_wakes {s : State} {d : Nat} {x : WakeSrc} (hwakes : wakesDomain d x = true) (hret : domNow s d = 1)
    (hparent : parentOff s d = false) : wakeSource s d x = startWake s d true := by
  simp [wakeSource, hwakes, hret, hparent]

/-- The Headland die, woken and with target RET, enters it by itself (R367). -/
theorem idleEntry_hld {s : State} {d : Nat} (hon : domNow s d = 0) (hd : d = 129) (htarget : domTarget s d = 1)
    (hwoken : (getDom s d).woken = true) (hleaves : mayLeave s d = true) : idleEntry s d = startEntry s d 1 true := by
  have hkind : domKind d = .hld := by
    rw [hd]
    decide
  simp only [idleEntry, hon, hkind, htarget, hwoken, hleaves, ne_eq, not_true_eq_false, if_false, and_self, if_true]

/-- A PLL's lock lets a waking domain read ON. -/
theorem wakeDone_waking {s u : State} {d : Nat} (hwaking : domNow s d = 4)
    (hu : u = setDom (wr (wr (bump s 0x9000 6 d 32 1) 0x9000 7 d (rd s 0x9000 7 d + restMs s (getDom s d).since)) 0x9000 2 d 0) d
      { getDom s d with fromOff := false, retried := false }) :
    wakeDone s d = serveDomain (freeSources u (domSources u d)) d (getDom s d).fromOff := by
  subst hu
  exact if_pos hwaking

/-- Force off takes a core alone. -/
theorem forceOffWrite_core {s : State} {d t : Nat} (hcore : domKind d = .core t) :
    forceOffWrite s d = (cmdDone (forceOff s t) 0x9000 8 d 0, .ok) := by
  simp only [forceOffWrite, hcore]

/-- Settles O27: the checked writes through the facts of their handlers, each event through that of its own operation. -/
theorem powerDomainsComplete : Obligations.PowerDomainsComplete := by
  intro s
  refine ⟨?enter, ?wake, ?ack, ?delay, ?refuse, ?expires, ?rests, ?bank, ?source, ?idle, ?lock, ?lockTimeout, ?lockLoss, ?trim, ?off⟩
  case enter =>
    exact fun r d v haccepted hhas hv hon hleaves hmode => next_rowWrite haccepted (domainTargetWrite_enters hhas hv hon hleaves hmode)
  case wake => exact fun r d v haccepted hhas hv hret hparent => next_rowWrite haccepted (domainTargetWrite_wakes hhas hv hret hparent)
  case ack => exact fun d b e hentry hwaits hready hother => congrArg Host.Outcome.next (blockAnswer_ack hentry hwaits hready hother)
  case delay => exact fun d b e hentry hwaits hfirst => congrArg Host.Outcome.next (blockAnswer_delay hentry hwaits hfirst)
  case refuse => exact fun d b e hentry hwaits hmay => congrArg Host.Outcome.next (blockAnswer_refuse hentry hwaits hmay)
  case expires =>
    exact fun d b e hentry hwaits hdelayed hmay => congrArg Host.Outcome.next (delayExpires_delayed hentry hwaits hdelayed hmay)
  case rests => exact fun d e hentry hdone hstays => congrArg Host.Outcome.next (entryComplete_rests hentry hdone hstays)
  case bank =>
    exact fun t b e hentry hwaits hready => congrArg Host.Outcome.next (blockAnswer_ack_bank hentry hwaits hready (domKind_bank t b))
  case source => exact fun d x hwakes hret hparent => congrArg Host.Outcome.next (wakeSource_wakes hwakes hret hparent)
  case idle =>
    exact fun d hon hd htarget hwoken hleaves => congrArg Host.Outcome.next (idleEntry_hld hon hd htarget hwoken hleaves)
  case lock => exact fun d u hwaking hu => congrArg Host.Outcome.next (wakeDone_waking hwaking hu)
  case lockTimeout => exact fun d hwaking => congrArg Host.Outcome.next (if_pos hwaking)
  case lockLoss => exact fun t k hlocked => congrArg Host.Outcome.next (if_pos hlocked)
  case trim => exact fun t ht => congrArg Host.Outcome.next (if_neg ht)
  case off => exact fun r d t haccepted hcore => next_rowWrite haccepted (forceOffWrite_core hcore)

end Sys2Proof.Proofs
end

section
/-!
SUPPORT. Droop, temperature and tile rails (R371 to R377, R424): what each event comes to when its conditions hold, and O28.
-/
namespace Sys2Proof.Proofs

open Sys2Proof Sys2Proof.Machine

/-! Droop and temperature (R373, R375). -/

/-- The first crossing of a tile counts, and its clock is stretched as its detectors ask. -/
theorem droopCrosses_first {s u : State} {t k lvl : Nat} (hrelaxed : rd s 0x9200 4 t = 0)
    (hu : u = bump { s with pwr := { s.pwr with droop := put s.pwr.droop (64 * t + k) (max lvl (look 0 s.pwr.droop (64 * t + k))) } }
      0x9200 7 t 64 1) : droopCrosses s t k lvl = wr u 0x9200 4 t (stretchOf u t) := by
  subst hu
  rw [droopCrosses, if_pos hrelaxed]

/-- A stretch that is released counts the cycles it removed and its length. -/
theorem stretchEnds_stretched {s u : State} {t c n : Nat} (hstretched : rd s 0x9200 4 t ≠ 0)
    (hu : u = bump (wr { s with pwr := { s.pwr with droop := delIf s.pwr.droop fun k _ => k / 64 == t } } 0x9200 4 t 0) 0x9200 8 t 64 c) :
    stretchEnds s t c n = endLevel (wr u 0x9200 9 t (max (rd u 0x9200 9 t) (n % 2 ^ 32))) (0x9200 + t) 19 := by
  subst hu
  rw [stretchEnds, if_neg hstretched]

/-- A hold that ends counts the cycles it removed, a free value (log 135: DESIGN CHOICE). -/
theorem thermalEnds_held {s u : State} {t : Nat} (hheld : look 0 s.pwr.thermal t ≠ 0)
    (hu : u = showThrottle { s with pwr := { s.pwr with thermal := del s.pwr.thermal t } } t) :
    thermalEnds s t = endLevel (bump (freeNext u) 0x9200 8 t 64 (freeBits u 32)) (0x9200 + t) 18 := by
  subst hu
  rw [thermalEnds, if_neg hheld]

/-! Rails (R371, R376, R377). -/

/-- The step that a regulator acknowledges is its rail's setting, and the next step is written. -/
theorem railAck_step {s : State} {k v : Nat} (hstep : (getRail s k).step = some v) :
    railAck s k = railStep (railCalm (showThrottle (setRail (wr s 0x9210 1 k v) k { getRail s k with step := none, silent := false }) k) k) k := by
  simp only [railAck, hstep]

/-- A regulator that does not acknowledge its step is silent (R377). -/
theorem railTimeout_step {s : State} {k v : Nat} (hstep : (getRail s k).step = some v) :
    railTimeout s k = raise (showThrottle (setRail (bump s 0x9210 7 k 32 1) k { getRail s k with silent := true }) k) (0x9300 + k) 19 .fault [] := by
  rw [railTimeout, if_pos (by rw [hstep]; rfl)]

/-- Power returns to a tile whose core waits in OFF for it. -/
theorem pwrokRises_wakes {s u : State} {t : Nat}
    (hu : u = railCalm (setRail { s with pwr := { s.pwr with
      pwrokT := if s.pwr.pwrokT.contains t then s.pwr.pwrokT else s.pwr.pwrokT ++ [t] } } t { getRail s t with low := false }) t)
    (hoff : domNow u (coreDom t) = 2) (htarget : domTarget u (coreDom t) = 0) (htrip : tripBars u (coreDom t) = false)
    (hmay : mayPower u t = true) : pwrokRises s t = startWake u (coreDom t) false := by
  subst hu
  exact if_pos ⟨hoff, htarget, htrip, hmay⟩

/-- A tile that loses its power while a domain of it is not OFF is forced OFF (R371). -/
theorem pwrokFalls_powered {s : State} {t : Nat} (hpowered : (coreDom t :: childDoms t).all (fun d => domNow s d == 2) = false) :
    pwrokFalls s t = forceOff { s with pwr := { s.pwr with pwrokT := s.pwr.pwrokT.filter (· != t) } } t :=
  if_neg fun h => Bool.false_ne_true (hpowered.symm.trans h)

/-- Settles O28: each event through the fact of its own operation. -/
theorem tileRailsComplete : Obligations.TileRailsComplete := by
  intro s
  refine ⟨?droop, ?release, ?long, ?threshold, ?holdEnd, ?trip, ?ack, ?timeout, ?lost, ?restored, ?rise, ?fall, ?tileRail, ?sharedRail⟩
  case droop => exact fun t k l u hrelaxed hu => congrArg Host.Outcome.next (droopCrosses_first hrelaxed hu)
  case release => exact fun t c n u hstretched hu => congrArg Host.Outcome.next (stretchEnds_stretched hstretched hu)
  case long => exact fun t hstretched => congrArg Host.Outcome.next (if_neg hstretched)
  case threshold =>
    intro t l
    cases l <;> rfl
  case holdEnd => exact fun t u hheld hu => congrArg Host.Outcome.next (thermalEnds_held hheld hu)
  case trip =>
    rintro t _ rfl
    rfl
  case ack => exact fun k v hstep => congrArg Host.Outcome.next (railAck_step hstep)
  case timeout => exact fun k v hstep => congrArg Host.Outcome.next (railTimeout_step hstep)
  case lost => exact fun k n => rfl
  case restored =>
    rintro k _ rfl
    rfl
  case rise => exact fun t u hu hoff htarget htrip hmay => congrArg Host.Outcome.next (pwrokRises_wakes hu hoff htarget htrip hmay)
  case fall => exact fun t hpowered => congrArg Host.Outcome.next (pwrokFalls_powered hpowered)
  case tileRail => exact fun t => rfl
  case sharedRail => rfl

end Sys2Proof.Proofs
end

section
/-!
SUPPORT. Slot controllers (R380 to R394): a state in which a slot's trip overwrites the measurements that caused it, against O29. An object's key is
its index, subindex and qualifier in one number, which are apart only while the qualifier has 16 bits; the address of a stored extent has no such
bound in the model. No run is claimed to reach this state: the statement is about every state.
-/
namespace Sys2Proof.Proofs

open Sys2Proof Sys2Proof.Machine

/-- A target number, past the 16 bits of a qualifier, whose capture of a refusal (0x4200:04) has the key of slot 0's measurements (0xA000:22). -/
def collidingTarget : Nat := okey 0xA000 22 0 - okey 0x4200 4 0

/-- A host's read at offset 0 of instance 0, held untranslated by a move. -/
def heldRead : Req :=
  { kind := .specRd, agent := 0, inst := 0, off := 0, tag := 0, queue := 0, colour := 0, low := false, devLoad := 0, len := 0, data := []
    be := 0, keepS := false, tracked := false, extent := 262144, key := 0, loc := 0, sample := none }

/-- Slot 0 is ON and powers port 0, a pool DSP whose target 16 is active; a move from target 16 holds a read of an extent on the target of the
colliding number, where its granule is quarantined. -/
def collidingState : State :=
  { State.reset with
    obj := [(okey 0x2000 1 0, 2), (okey 0x2000 7 0, 0), (okey 0x4000 1 16, 1), (okey 0x4000 2 16, 3), (okey 0x4000 2 collidingTarget, 3)
           , (okey 0xA000 2 0, 3)]
    pool := { State.reset.pool with
      extents := [(0, { extInit with st := 2, target := collidingTarget, blocks := 1, indexed := true })]
      targets := [(collidingTarget, { tgtInit with cap := 1, base := 2 })]
      colours := [(granuleOf (collidingTarget * 2 ^ 44), 0xFF)] }
    lit := { State.reset.lit with
      moves := [(0, { phase := 0, source := granuleOf (16 * 2 ^ 44), dest := 0, back := false, manual := false, first := false, mask := 0
                      rounds := 0, attempts := 0, held := [heldRead], lockAt := 0, waits := [] })] } }

/-- A current of 1,000 A in channel A, far over any limit. -/
def overCurrent : Meas := { vin := 0, vout := 0, ia := 1000000, ib := 0, diode := .valid 0 }

/-- The trip loses target 16, its move is abandoned, the held read is refused, and the refusal's capture (KIND 3, valid) stands where VIN stood. -/
theorem measured_collidingState : (slotMeas (measureSlot collidingState 0 overCurrent) 0).take 2 = [3, 1] := by decide +kernel

/-- Refutes O29: of `collidingState`, MODEL_UPDATE of slot 0 leaves another VIN than the one measured. -/
theorem not_slotCommandsComplete : ¬ Obligations.SlotCommandsComplete := by
  intro h
  obtain ⟨-, -, -, -, -, -, -, -, -, -, -, -, -, -, hmodel, -⟩ := h collidingState
  obtain ⟨t, hexec, hmeasured⟩ := hmodel 0 overCurrent
  obtain rfl : measureSlot collidingState 0 overCurrent = t := Host.Outcome.next.inj hexec
  have hvin : (slotMeas (measureSlot collidingState 0 overCurrent) 0).take 2 = [0, 0] := by
    have htwo := congrArg (List.take 2) hmeasured
    rwa [List.take_take] at htwo
  rw [measured_collidingState] at hvin
  exact absurd hvin (by decide)

end Sys2Proof.Proofs
end

section
/-!
SUPPORT. SPDM responders, the IDE of a link and attestation (R411 to R413, Table 19-7): what each request comes to in its turn, and O30.
-/
namespace Sys2Proof.Proofs

open Sys2Proof Sys2Proof.Machine

section
variable {s u : State} {p phase : Nat} (hrole : actingRole s p = 1 ∨ actingRole s p = 3) (hup : linkUp s p = true)
include hrole hup

/-- A request in its turn is answered. -/
theorem next_spdmAsk (hturn : phase ≤ (getSpdm s p).phase) {f : State → State} (hf : f s = u) :
    (Host.Outcome.next (spdmAsk s p phase f) : Host.Outcome State Fault Refusal) = .next u := by
  rw [spdmAsk_open hrole hup hturn, hf]

/-- A message of IDE_KM in a secured session, where the peer is the requester, is answered. -/
theorem next_ideAsk {i : Nat} (hturn : 3 ≤ (getSpdm s p).phase) (hsecured : nth 0 (getSpdm s p).sessions i = 2)
    (hpeer : ideRequester s p = false) {f : State → State} (hf : f s = u) :
    (Host.Outcome.next (ideAsk s p i f) : Host.Outcome State Fault Refusal) = .next u :=
  next_spdmAsk hrole hup hturn ((if_pos ⟨hsecured, hpeer⟩).trans hf)

end

/-! Certificates and measurements. -/

/-- Certificate slot 0 gives the part asked of its chain, while that begins inside it. -/
theorem spdmCertificateIn_zero (s : State) (p off n : Nat) : spdmCertificateIn s p 0 off n =
    if Config.certChain.length ≤ off then spdmError s p 1
    else spdmSay s p 0x02 ([0, 0] ++ le 2 (slice Config.certChain off n).length
      ++ le 2 (Config.certChain.length - off - (slice Config.certChain off n).length) ++ slice Config.certChain off n) := by
  simp [spdmCertificateIn]

/-- One measurement is signed with a fresh nonce. -/
theorem spdmMeasureIn_one {s : State} {p k : Nat} (hlow : 1 ≤ k) (hhigh : k ≤ 6) {n body : List Byte}
    (hbody : body = be 1 1 ++ le 3 (measBlock s k).length ++ measBlock s k ++ Config.nonceBytes s.free ++ le 2 0) :
    spdmMeasureIn s p k n = spdmSay (freeNext s) p 0x60 (body ++ signed body n) := by
  have hone : k ≠ 0xFF := by omega
  have hsome : k ≠ 0 := by omega
  have hindex : ¬(k ≠ 0xFF ∧ 6 < k) := by omega
  subst hbody
  simp only [spdmMeasureIn, if_neg hone, if_neg hsome, if_neg hindex, List.flatMap_singleton, List.length_singleton]

/-! Sessions. -/

/-- A key exchange opens the first free session. -/
theorem spdmExchangeIn_opens {s : State} {p i : Nat} (hfree : ([0, 1].find? fun j => nth 0 (getSpdm s p).sessions j == 0) = some i)
    (req : List Byte) : spdmExchangeIn s p req = spdmSay (freeNext (setSpdm s p { getSpdm s p with
      sessions := setAt (getSpdm s p).sessions i 1, secrets := put (getSpdm s p).secrets i (Config.spdmSecret req s.free) })) p 0x64
      (be 1 i ++ Config.spdmExchange req s.free) := by
  simp only [spdmExchangeIn, hfree]

/-- A session in its handshake is secured by the right verification data. -/
theorem spdmFinishIn_secures {s : State} {p i : Nat} {mac : List Byte} (hopen : nth 0 (getSpdm s p).sessions i = 1)
    (hmac : mac = Config.hmacSha384 (look [] (getSpdm s p).secrets i) (be 1 i)) :
    spdmFinishIn s p i mac = spdmSay (countSessions (setSpdm s p { getSpdm s p with sessions := setAt (getSpdm s p).sessions i 2 }) p) p 0x65
      (Config.hmacSha384 (look [] (getSpdm s p).secrets i) (be 1 (i + 2))) := by
  rw [spdmFinishIn]
  exact (if_neg (not_not.2 hopen)).trans (if_pos hmac)

/-! IDE (R412). -/

/-- A key is programmed for a stream of the port. -/
theorem keyProgIn_stream {s : State} {p stream : Nat} (hstream : streamOk s p stream = true) (ks : Bool) (key : List Byte) :
    keyProgIn s p stream ks key = spdmSay (bump (setSpdm s p { getSpdm s p with
      keys := put (getSpdm s p).keys (2 * stream + b2n ks) key }) 0xD010 4 p 32 1) p 0x7E ([3] ++ be 1 stream ++ be 1 (b2n ks)) := by
  rw [keyProgIn]
  exact if_neg (by rw [hstream]; decide)

/-- The interval of a port that the TLS6400 keys refreshes its streams. -/
theorem ideRefresh_due {s : State} {p : Nat} (hinterval : rd s 0xD000 11 0 ≠ 0) (hrequester : ideRequester s p = true)
    (hup : linkUp s p = true) : ideRefresh s p = (ideStreams s p).foldl (fun a e => refreshStream a p e.1 e.2) s := by
  refine if_neg ?_
  simp [hinterval, hrequester, hup]

/-- An integrity failure ends the stream and takes the link down; the cause that 0x2010:08 shows is a free value (log 155: DESIGN CHOICE). -/
theorem ideFailure_up {s u : State} {p stream : Nat} (hup : linkUp s p = true)
    (hu : u = portDown (bump (setSpdm s p { getSpdm s p with streams := del (getSpdm s p).streams stream }) 0xD010 5 p 32 1) p 3 false) :
    ideFailure s p stream = raise (wr (freeNext u) 0x2010 8 p (Config.freeValue u.free % 9)) (0xD000 + p) 22 .fault [] := by
  subst hu
  exact if_pos hup

/-- Settles O30: each request is answered in its turn, those with rules of their own through the fact of their operation. -/
theorem spdmCommandsComplete : Obligations.SpdmCommandsComplete := by
  intro s
  refine ⟨?version, ?capabilities, ?algorithms, ?digests, ?certificate, ?challenge, ?measurements, ?exchange, ?finish, ?ends, ?keyProg, ?setGo,
    ?refresh, ?failure, ?attest⟩
  case version | capabilities => exact fun p hrole hup hturn => next_spdmAsk hrole hup hturn rfl
  case algorithms => exact fun p v hrole hup hturn => next_spdmAsk hrole hup hturn rfl
  case digests => exact fun p hrole hup hturn => next_spdmAsk hrole hup hturn rfl
  case certificate => exact fun p o n hrole hup hturn => next_spdmAsk hrole hup hturn (spdmCertificateIn_zero s p.val o.toNat n.toNat)
  case challenge =>
    rintro p n _ hrole hup hturn rfl
    exact next_spdmAsk hrole hup hturn rfl
  case measurements =>
    exact fun p k n body hrole hup hturn hlow hhigh hbody => next_spdmAsk hrole hup hturn (spdmMeasureIn_one hlow hhigh hbody)
  case exchange => exact fun p v i hrole hup hturn hfree => next_spdmAsk hrole hup hturn (spdmExchangeIn_opens hfree v)
  case finish =>
    exact fun p i mac hrole hup hturn hopen hmac => next_spdmAsk hrole hup hturn (spdmFinishIn_secures hopen hmac)
  case ends =>
    exact fun p i hrole hup hturn hsecured => next_spdmAsk hrole hup hturn (if_neg (not_not.2 hsecured))
  case keyProg =>
    exact fun p i st ks key hrole hup hturn hsecured hpeer hstream =>
      next_ideAsk hrole hup hturn hsecured hpeer (keyProgIn_stream hstream ks key)
  case setGo =>
    exact fun p i st ks hrole hup hturn hsecured hpeer hkey => next_ideAsk hrole hup hturn hsecured hpeer (if_pos hkey)
  case refresh => exact fun p hinterval hrequester hup => congrArg Host.Outcome.next (ideRefresh_due hinterval hrequester hup)
  case failure => exact fun p k u hup hu => congrArg Host.Outcome.next (ideFailure_up hup hu)
  case attest => exact fun r p haccepted hrole => next_rowWrite haccepted (if_pos hrole)

end Sys2Proof.Proofs
end


section
/-!
SUPPORT. Start-up and reset (R85, R344, R397 to R402, R424): what each event of power, pins and links comes to when its conditions hold, and O31.
-/
namespace Sys2Proof.Proofs

open Sys2Proof Sys2Proof.Machine

/-! The start of the Headland die (R344, R424). -/

/-- The Headland die that waits for VDD_HLD leaves reset, unless TEST_N holds it. -/
theorem exec_vddHldInRange_waiting {s : State} (haon : s.pwr.aonOk = true) (hhld : s.pwr.hldOk = false) (hstage : s.sec.stage = 1)
    (htest : s.pwr.testMode = false) :
    exec .vddHldInRange s = .next (romStart { s with pwr := { s.pwr with hldOk := true } }) :=
  congrArg Host.Outcome.next ((if_pos ⟨haon, hhld⟩).trans ((if_pos hstage).trans (if_pos ⟨htest, rfl⟩)))

theorem bootEnds_device {s : State} (hstage : s.sec.stage = 2) (hkind : s.sec.kind ≠ 2) : bootEnds s = bootDevice s :=
  (if_neg (not_not.2 hstage)).trans (if_neg hkind)

theorem bootEnds_headland {s : State} (hstage : s.sec.stage = 2) (hkind : s.sec.kind = 2) : bootEnds s = bootHeadland s :=
  (if_neg (not_not.2 hstage)).trans (if_pos hkind)

/-- Golden firmware runs in RECOVERY. -/
@[simp] theorem running_goldenRuns (s : State) (reason : Nat) : (goldenRuns s reason).sec.running = 2 := rfl

/-- A restart of the Headland die outside a transition: the ROM chooses the firmware, but RECOVERY keeps the golden one (R46, R344). -/
theorem headlandReset_stable {s x u : State} (hstage : s.sec.stage = 2 ∨ s.sec.stage = 3)
    (hx : x = (List.range 4).foldl (fun a t => resetSide a t [33, 34]) s) (hstable : rd s 0x1200 3 0 = 0)
    (hu : u = romStart (headlandCleared (cutInstall x))) :
    headlandReset s = if modeNow s = 6 ∧ u.sec.running ≠ 2 then goldenRuns u (rd s 0x1200 8 0)
      else if u.sec.running = x.sec.running ∨ u.sec.running = 2 then u else microChange u u.sec.trialMicrocode := by
  have hruns : ¬(s.sec.stage ≠ 2 ∧ s.sec.stage ≠ 3) := by omega
  rw [headlandReset, if_neg hruns]
  simp only [if_pos hstable, ← hx, ← hu]
  by_cases hrecovery : modeNow s = 6 ∧ u.sec.running ≠ 2
  · simp only [if_pos hrecovery, running_goldenRuns, or_true, if_true]
  · simp only [if_neg hrecovery]

/-- PERST_N of a group takes down its ports and its tile's side, then is recorded and wakes (R93, R402). -/
theorem perstGroup_wakes {s u v : State} {g : Nat} (hu : u = resetSide ((domPorts s g).foldl perstPort s) (g / 8) (groupCrossings g))
    (hv : v = if recording u then record u .info 0x0002 0x1000 [0, 2, 0, 0, 0, 0] else u) :
    perstGroup s g = hldWake (wakeSource v (groupDom g) .perstRise) .perstRise := by
  rw [hv, hu]
  rfl

theorem exec_perstN_powered {s : State} (g : GroupN) (haon : s.pwr.aonOk = true) : exec (.perstN g) s = .next (perstGroup s g.val) :=
  congrArg Host.Outcome.next (if_pos haon)

/-! A reset that a reply promises (R402, Table 3-15). -/

/-- The action of an object whose word has STATE 1 runs. -/
theorem cmdRunning_cmdStart (s : State) (idx sub q : Nat) : cmdRunning (cmdStart s idx sub q) idx sub q = true := by
  have hword (seq : Nat) : bits (cmdWord 1 0 seq) 31 24 = 1 := by
    rw [bits, Nat.shiftRight_eq_div_pow, cmdWord_state]
    rfl
  rw [cmdRunning, cmdState, cmdStart, rd_wr_same, hword]
  rfl

/-- An answer leaves the words of actions. -/
@[simp] theorem cmdRunning_answered (u : State) (idx sub q : Nat) (st : Status) (i b k : Nat) :
    cmdRunning (answered u idx sub q st) i b k = cmdRunning u i b k := by
  rw [answered, cmdRunning, cmdState, rd_emit, rd_settleViews]
  split <;> rfl

/-- A device reset that is accepted follows its reply. -/
theorem next_promisedReset {s u : State} {r : Requester} {v : List Byte} {f : State → State × Status} (haccepted : accepted s r 0x1201 1 0 v)
    (hf : f s = (cmdStart u 0x1201 1 0, .ok)) :
    (Host.Outcome.next (promisedReset (rowWrite s r 0x1201 1 0 v f)) : Host.Outcome State Fault Refusal)
      = .next (deviceReset (answered (cmdStart u 0x1201 1 0) 0x1201 1 0 .ok)) := by
  have hruns : cmdRunning (answered (cmdStart u 0x1201 1 0) 0x1201 1 0 .ok) 0x1201 1 0 = true :=
    (cmdRunning_answered _ _ _ _ _ _ _ _).trans (cmdRunning_cmdStart u _ _ _)
  rw [rowWrite_accepted haccepted, hf, promisedReset, if_pos hruns]

/-- Device reset of the whole device is taken. -/
theorem deviceResetWrite_plain (s : State) : deviceResetWrite s 1 = (cmdStart s 0x1201 1 0, .ok) := if_pos rfl

/-- Device reset that ignores BOOTSEL is taken, and says so to the start-up that follows. -/
theorem deviceResetWrite_ignoring (s : State) :
    deviceResetWrite s 2 = (cmdStart { s with mode := { s.mode with ignoreBootsel := true } } 0x1201 1 0, .ok) :=
  (if_neg (by decide)).trans (if_pos rfl)

/-! The ends of actions (R25). -/

/-- A repair of a link that carries is complete (R125). -/
theorem repairEnd_carries {s : State} {l : Nat} (hruns : cmdRunning s 0x3100 12 l = true) (hcarries : linkCarries s l = true) :
    repairEnd s l 0 = cmdEnd s 0x3100 12 l 2 0 := by
  rw [repairEnd, if_pos hruns]
  simp only [if_pos hcarries, if_true]

/-- Settles O31: each event by its condition, and those with several outcomes through the fact of their own operation. -/
theorem startupCommandsComplete : Obligations.StartupCommandsComplete := by
  intro s
  refine ⟨?powerOn, ?vddHld, ?bootDevice, ?bootHeadland, ?aonFall, ?perst, ?headland, ?reset, ?resetIgnoring, ?linkUp, ?linkUpLast, ?commit,
    ?clearDelta, ?fwBegin, ?microcode, ?repair⟩
  case powerOn => exact fun b hoff => congrArg Host.Outcome.next (if_neg (by rw [hoff]; decide))
  case vddHld => exact exec_vddHldInRange_waiting
  case bootDevice => exact fun hstage hkind => congrArg Host.Outcome.next (bootEnds_device hstage hkind)
  case bootHeadland => exact fun hstage hkind => congrArg Host.Outcome.next (bootEnds_headland hstage hkind)
  case aonFall => exact fun haon => congrArg Host.Outcome.next (if_pos haon)
  case perst => exact fun g u v haon hu hv => (exec_perstN_powered g haon).trans (congrArg Host.Outcome.next (perstGroup_wakes hu hv))
  case headland =>
    exact fun x u hstage hx hstable hu => congrArg Host.Outcome.next (headlandReset_stable hstage hx hstable hu)
  case reset => exact fun r haccepted => next_promisedReset haccepted (deviceResetWrite_plain s)
  case resetIgnoring => exact fun r haccepted => next_promisedReset haccepted (deviceResetWrite_ignoring s)
  case linkUp =>
    rintro p x _ _ rfl hwaits
    exact congrArg Host.Outcome.next (if_neg fun h => hwaits.elim (· h.1) (· h.2))
  case linkUpLast =>
    rintro p x _ _ rfl hphase hlast
    exact congrArg Host.Outcome.next (if_pos ⟨hphase, hlast⟩)
  case commit | clearDelta | fwBegin | microcode => exact fun hruns => congrArg Host.Outcome.next (if_pos hruns)
  case repair =>
    exact fun l hruns hcarries => congrArg Host.Outcome.next ((if_pos hruns).trans (repairEnd_carries hruns hcarries))

end Sys2Proof.Proofs
end

section
/-!
SUPPORT. Firmware update, keys and credentials (R403 to R410): what each action comes to when its conditions hold, and O32.
-/
namespace Sys2Proof.Proofs

open Sys2Proof Sys2Proof.Machine

/-! The stages of an update (R403 to R407). -/

/-- Begin erases the slot that is neither active nor on trial. -/
theorem beginWrite_erases {s : State} {n k : Nat} (hverify : cmdRunning s 0xD100 7 0 = false) (hfits : n ≤ 12582912) (hdown : downSlot s = some k) :
    beginWrite s n = (setFwSlot (cmdStart s 0xD100 6 0) k { st := 1, len := n, bytes := [] }, .ok) := by
  rw [beginWrite, if_neg (by rw [hverify]; decide), if_neg (by omega), hdown]

/-- A chunk inside the image is programmed, and the last one leaves the slot loaded. -/
theorem downloadWrite_programs {s : State} {k a : Nat} {v : List Byte} (hdown : downSlot s = some k) (hbegin : cmdRunning s 0xD100 6 0 = false)
    (hverify : cmdRunning s 0xD100 7 0 = false) (hopen : (fwSlot s k).st = 1) (hbytes : v ≠ []) (hfits : a + v.length ≤ (fwSlot s k).len) :
    downloadWrite s a v true = (setFwSlot s k { fwSlot s k with
      bytes := programmed (fwSlot s k).bytes v a
      st := if (programmed (fwSlot s k).bytes v a).length = (fwSlot s k).len then 2 else 1 }, .ok) := by
  have hidle : ¬(cmdRunning s 0xD100 6 0 = true ∨ cmdRunning s 0xD100 7 0 = true) := by rw [hbegin, hverify]; decide
  have hform : ¬((fwSlot s k).st ≠ 1 ∨ v = [] ∨ (fwSlot s k).len < a + v.length) := by
    rintro (hst | hempty | hlong)
    · exact hst hopen
    · exact hbytes hempty
    · omega
  rw [downloadWrite, hdown]
  dsimp only
  rw [if_neg hidle, if_neg hform, if_neg (by decide)]

theorem verifyWrite_starts {s : State} (hbegin : cmdRunning s 0xD100 6 0 = false) : verifyWrite s = (cmdStart s 0xD100 7 0, .ok) :=
  if_neg (by rw [hbegin]; decide)

/-- Activate puts a verified slot on trial and runs its image. -/
theorem activateWrite_tries {s : State} {k : Nat} (hstable : rd s 0x1200 3 0 = 0) (hdown : downSlot s = some k) (hverified : (fwSlot s k).st = 3) :
    activateWrite s = (startSwap { writeRecord (cmdStart s 0xD100 8 0) (activeSlot s) k 1 with
      sec := { (writeRecord (cmdStart s 0xD100 8 0) (activeSlot s) k 1).sec with running := k, trialMicrocode := false } }, .ok) := by
  rw [activateWrite, if_neg (not_not.2 hstable), hdown]
  exact if_neg (not_not.2 hverified)

/-- In SERVICE with every link down, Apply has no link to take down. -/
theorem applyWrite_starts {s : State} (hservice : modeNow s = 5) (hdown : (List.range 64).all (fun p => !linkUp s p) = true) :
    applyWrite s = (wr (cmdStart s 0xD100 11 0) 0xD100 10 0 2, .ok) := by
  have hlinks : ∀ p ∈ List.range 64, linkUp s p = false := by simpa using hdown
  rw [applyWrite, if_neg (not_not.2 hservice)]
  dsimp only
  rw [List.foldlRecOn (motive := fun a => a = s) (List.range 64) _ rfl]
  rintro _ rfl p hp
  exact if_neg (by rw [hlinks p hp]; decide)

theorem confirmWrite_starts {s : State} (htrial : trialOpen s = true) : confirmWrite s = (cmdStart s 0xD100 9 0, .ok) := if_pos htrial

/-- Revert ends the trial, counts, and runs the active slot's image again. -/
theorem revertWrite_returns {s u : State} (htrial : trialOpen s = true) (hmicro : s.sec.trialMicrocode = false)
    (hu : u = bump (writeRecord (cmdStart s 0xD100 12 0) (activeSlot s) 0xFF 0) 0xD100 4 0 32 1) :
    revertWrite s = (startSwap { u with sec := { u.sec with running := activeSlot s } }, .ok) := by
  rw [revertWrite, if_neg (by rw [htrial]; decide), if_neg (by rw [hmicro]; simp), hu]

/-! Credentials and keys (R408 to R410). -/

/-- A credential of a level is replaced; the Vendor's by the Vendor alone. -/
theorem credentialWrite_replaces {s : State} {r : Requester} {v : List Byte} (hlevel : fieldBe v 0 1 ≤ 2) (hvendor : fieldBe v 0 1 = 0 → r = .vendor) :
    credentialWrite s r v
      = (cmdDone { s with sec := { s.sec with creds := put s.sec.creds (fieldBe v 0 1) (slice v 1 48) } } 0xD000 2 0 0, .ok) := by
  rw [credentialWrite]
  exact (if_neg (by omega)).trans (if_neg fun ⟨hzero, hother⟩ => hother (hvendor hzero))

/-- An empty key slot takes a key that an enrolled key signs. -/
theorem enrollWrite_empty {s : State} {v : List Byte} (hslot : fieldBe v 0 1 ≤ 3) (hempty : cfgKey s (fieldBe v 0 1) = none) :
    enrollWrite s v = (if keySigned s (cfgKeySlots s) (v.take 98) (slice v 98 96) = false then cmdDone s 0xD000 4 0 0xD9
      else cmdDone (newNonce (setCfgKey s (fieldBe v 0 1) (some (slice v 1 97)))) 0xD000 4 0 0, .ok) := by
  rw [enrollWrite]
  refine (if_neg (by omega)).trans ?_
  have hfree : ¬(none : Option (List Byte)).isSome = true := by decide
  rw [hempty, if_neg hfree, fails, ← apply_ite fun x => (x, Status.ok)]

/-- A key that is not the last is revoked when another enrolled key signs it. -/
theorem revokeWrite_other {s : State} {v k : List Byte} (hslot : fieldBe v 0 1 ≤ 3) (hkey : cfgKey s (fieldBe v 0 1) = some k)
    (hothers : (cfgKeySlots s).filter (· != fieldBe v 0 1) ≠ []) :
    revokeWrite s v = (if keySigned s ((cfgKeySlots s).filter (· != fieldBe v 0 1)) (v.take 1) (slice v 1 96) = false
      then cmdDone s 0xD000 5 0 0xD9 else cmdDone (newNonce (setCfgKey s (fieldBe v 0 1) none)) 0xD000 5 0 0, .ok) := by
  have hheld : ¬(3 < fieldBe v 0 1 ∨ (cfgKey s (fieldBe v 0 1)).isNone = true) := by
    rw [hkey]
    rintro (hhigh | hnone)
    · omega
    · cases hnone
  rw [revokeWrite]
  refine (if_neg hheld).trans ((if_neg hothers).trans ?_)
  rw [fails, ← apply_ite fun x => (x, Status.ok)]

theorem floorWrite_rises {s : State} (hbelow : rd s 0xD000 6 0 < rd s 0x1210 2 0) :
    floorWrite s = (wr (cmdDone s 0xD000 7 0 0) 0xD000 6 0 (rd s 0x1210 2 0), .ok) := if_pos hbelow

/-- A root key that is not revoked yet is, unless it is the last. -/
theorem revokeRoot_held {s : State} {n : Nat} (hheld : s.sec.revoked.contains n = false) :
    revokeRoot s n = if (rootSlots s).all (· == n) = true then emit s (.rootKey n 0xDB)
      else emit { s with sec := { s.sec with revoked := s.sec.revoked ++ [n] } } (.rootKey n 0) := by
  rw [revokeRoot, hheld]
  rfl

/-- Settles O32: each action is a write of its object, through the fact of its own operation. -/
theorem updateCommandsComplete : Obligations.UpdateCommandsComplete := by
  intro s
  refine ⟨?begins, ?download, ?verify, ?activate, ?applies, ?confirm, ?revert, ?credential, ?enroll, ?revoke, ?floor, ?root⟩
  case begins => exact fun r n k haccepted hverify hfits hdown => next_rowWrite haccepted (beginWrite_erases hverify hfits hdown)
  case download =>
    exact fun r a v k haccepted hdown hbegin hverify hopen hbytes hfits =>
      next_rowChunk haccepted (downloadWrite_programs hdown hbegin hverify hopen hbytes hfits)
  case verify => exact fun r haccepted hbegin => next_rowWrite haccepted (verifyWrite_starts hbegin)
  case activate => exact fun r k haccepted hstable hdown hverified => next_rowWrite haccepted (activateWrite_tries hstable hdown hverified)
  case applies => exact fun r haccepted hservice hdown => next_rowWrite haccepted (applyWrite_starts hservice hdown)
  case confirm => exact fun r haccepted htrial => next_rowWrite haccepted (confirmWrite_starts htrial)
  case revert => exact fun r u haccepted htrial hmicro hu => next_rowWrite haccepted (revertWrite_returns htrial hmicro hu)
  case credential => exact fun r v haccepted hlevel hvendor => next_rowWrite haccepted (credentialWrite_replaces hlevel hvendor)
  case enroll => exact fun r v haccepted hslot hempty => next_rowWrite haccepted (enrollWrite_empty hslot hempty)
  case revoke => exact fun r v k haccepted hslot hkey hothers => next_rowWrite haccepted (revokeWrite_other hslot hkey hothers)
  case floor => exact fun r haccepted hbelow => next_rowWrite haccepted (floorWrite_rises hbelow)
  case root => exact fun n hheld => congrArg Host.Outcome.next ((if_pos rfl).trans (revokeRoot_held hheld))

end Sys2Proof.Proofs
end

section
/-!
SUPPORT. Self-test and diagnostic accesses (R414, R415): what a test, its end and an access come to when their gates open, and O33.
-/
namespace Sys2Proof.Proofs

open Sys2Proof Sys2Proof.Machine

/-- A well-formed test that is accepted takes its units and runs (R414). -/
theorem testWrite_runs {s u : State} {v : List Byte} {t : TestRun} (hlength : v.length = 16)
    (ht : t = { kind := fieldBe v 0 1, unit := fieldBe v 2 2, first := fieldBe v 4 4, count := fieldBe v 8 4 }) (hform : testForm t = true)
    (hfree : s.sec.test = none) (haccepts : testAccepted s t = true) (hgate : testGate (cmdStart s 0xE000 1 0) t = (u, true)) :
    testWrite s v = (testTakes { u with sec := { u.sec with test := some t } } t, .ok) := by
  have hready : ¬(s.sec.test.isSome = true ∨ testAccepted s t = false) := by rw [hfree, haccepts]; decide
  rw [testWrite, if_neg (not_not.2 hlength)]
  dsimp only
  rw [← ht, if_neg (by rw [hform]; decide), if_neg hready, hgate]
  exact if_pos rfl

/-- A test other than of a tile's logic that ends without errors has completed (R415). -/
theorem testEnds_clean {s : State} {t : TestRun} (hruns : s.sec.test = some t) (hkind : t.kind ≠ 4) (n a : Nat) :
    testEnds s n 0 a = endTest s 2 0 n 0 a := by
  rw [testEnds, hruns]
  exact if_neg fun h => hkind h.1

/-- A diagnostic read whose gates open reads the bytes. -/
theorem diagReadWrite_reads {s u : State} {v : List Byte} (hform : diagForm s (fieldBe v 0 8) (fieldBe v 8 4) = true)
    (hgate : diagGate (cmdStart s 0xE010 1 0) (fieldBe v 0 8) (fieldBe v 8 4) false = (u, true)) :
    diagReadWrite s v = (cmdEnd (wrBlob (diagReads u (fieldBe v 0 8) (fieldBe v 8 4)) 0xE010 2 0 (diagBytes u (fieldBe v 0 8) (fieldBe v 8 4)))
      0xE010 1 0 2 0, .ok) := by
  rw [diagReadWrite]
  dsimp only
  rw [if_neg (by rw [hform]; decide), hgate]
  exact if_pos rfl

/-- A diagnostic write whose gates open writes the bytes. -/
theorem diagWriteWrite_writes {s u : State} {v : List Byte} (hform : diagForm s (fieldBe v 0 8) (fieldBe v 8 4) = true)
    (hlength : v.length = 12 + fieldBe v 8 4) (hgate : diagGate (cmdStart s 0xE010 3 0) (fieldBe v 0 8) (fieldBe v 8 4) true = (u, true)) :
    diagWriteWrite s v = (cmdEnd (diagPut u (fieldBe v 0 8) (v.drop 12)) 0xE010 3 0 2 0, .ok) := by
  rw [diagWriteWrite]
  dsimp only
  rw [if_neg (by rw [hform]; decide), if_neg (not_not.2 hlength), hgate]
  exact if_pos rfl

/-- Settles O33: the five tests are one write of the test object; an end and the accesses are through their own facts. -/
theorem diagnosticCommandsComplete : Obligations.DiagnosticCommandsComplete := by
  intro s
  refine ⟨?sram, ?hbm, ?receiver, ?logic, ?scrub, ?ends, ?read, ?write⟩
  case sram | hbm | receiver | logic | scrub =>
    exact fun r v t u haccepted _ hlength ht hform hfree haccepts hgate =>
      next_rowWrite haccepted (testWrite_runs hlength ht hform hfree haccepts hgate)
  case ends => exact fun n a t hruns hkind => congrArg Host.Outcome.next (testEnds_clean hruns hkind n a)
  case read => exact fun r v u haccepted hform hgate => next_rowWrite haccepted (diagReadWrite_reads hform hgate)
  case write => exact fun r v u haccepted hform hlength hgate => next_rowWrite haccepted (diagWriteWrite_writes hform hlength hgate)

end Sys2Proof.Proofs
end
